-- ==== Sys2Proof/Word.lean ====
section
/-!
DEFINITION. Words of the block and their plainest arithmetic: bit fields of a number, saturating counts, little-endian
bytes (R11).
-/
namespace Sys2Proof

abbrev Byte := BitVec 8
abbrev W32 := BitVec 32
abbrev W64 := BitVec 64

/-- Bits [hi:lo] of `n`, as a number. -/
def bits (n hi lo : Nat) : Nat := (n >>> lo) % 2 ^ (hi + 1 - lo)

/-- Bit `k` of `n`. -/
def bit (n k : Nat) : Bool := n.testBit k

/-- A Bool as the number 0 or 1. -/
def ofBit (b : Bool) : Nat := if b then 1 else 0

/-- Counting up to `n`, stopping at the all-ones value `2 ^ w - 1`. -/
def satAdd (w n k : Nat) : Nat := min (n + k) (2 ^ w - 1)

/-- The largest value of a 64-bit counter. -/
def max64 : Nat := 2 ^ 64 - 1

/-- `n` rounded down to a multiple of `k`. -/
def alignDown (n k : Nat) : Nat := n - n % k

/-- `n ÷ k` rounded up. -/
def ceilDiv (n k : Nat) : Nat := (n + k - 1) / k

/-- `n` bytes of `v`, least significant first (R11). -/
def leBytes : Nat → Nat → List Byte
  | 0, _ => []
  | n + 1, v => BitVec.ofNat 8 v :: leBytes n (v / 256)

/-- The number whose little-endian bytes are given (R11). -/
def ofLeBytes : List Byte → Nat
  | [] => 0
  | b :: t => b.toNat + 256 * ofLeBytes t

end Sys2Proof
end

