-- ==== Sys2Proof/Config.lean ====
section
/-!
DEFINITION. What the spec fixes for every Zilpoten (its capacities), and the free values: results the spec names but does
not give. A free value has no body, so nothing can be proved of it; State.freeCount makes each use a fresh one.
-/
namespace Sys2Proof.Config

/-- A value the spec leaves open (log entry 9), one for each use. -/
opaque freeValue : Nat → BitVec 64

/-- Whether a host bus address that an ATS completion returns reaches this chip's device memory, and at which device
address: the chip's PCIe function decides it and the spec does not say how (log entry 10). -/
opaque atsTarget : Nat → Option Nat

/-- R35: contexts and hardware queues. -/
def numContexts : Nat := 4096
def numQueues : Nat := 4096
/-- R48: most RT queues. -/
def maxRtQueues : Nat := 1024
/-- R58: harnesses. -/
def numHarnesses : Nat := 64
/-- R98: commands fetched and not completed, per queue and across the block. -/
def maxInflightQueue : Nat := 64
def maxInflightBlock : Nat := 16384
/-- R186: the bound of a UQ queue in coalesced dispatch. -/
def hotInflight : Nat := 8
/-- R230, R241: physical wick slots and shared waiter records. -/
def numSlots : Nat := 131072
def numSpareRows : Nat := 4096
def numSharedWaiters : Nat := 31744
/-- R213: stitch cache bytes. -/
def stitchCacheBytes : Nat := 4 * 1024 * 1024
/-- R227: descriptor cache entries. -/
def descCacheEntries : Nat := 8192
/-- R281: fault queue entries. -/
def faultEntries : Nat := 256
/-- R287: frames of one pool. -/
def poolFrames : Nat := 4096
/-- R282: the migration page. -/
def pageBytes : Nat := 65536
/-- R276: records of one table frame. -/
def mapRecsPerFrame : Nat := 2048
def pageRecBytes : Nat := 512 * 1024 * 1024
/-- R33: ZCLK cycles of 250 µs at 1.8 GHz (R19). -/
def stepCycles : Nat := 450000
/-- ZCLK cycles of one µs and one ms. -/
def cyclesUs : Nat := 1800
def cyclesMs : Nat := 1800000
/-- R528: 10 µs, CAD_IN's debounce after an accepted edge. -/
def debounceCycles : Nat := 18000
/-- R185: cycles of an occupancy window. -/
def windowCycles : Nat := 65536
/-- R245: wake wires. -/
def wakeWires : Nat := 512
/-- R509: records of one event FIFO. -/
def fifoRecords : Nat := 512
/-- R457: records of the Cinder log. -/
def cinderRecords : Nat := 65536
/-- R434: bytes of a trace buffer. -/
def traceBytes : Nat := 65536
/-- R383: events remembered. -/
def rememberedEvents : Nat := 256
/-- R439, R361: frames of a replay buffer. -/
def replayFrames : Nat := 64
/-- R362: allotments that Zilpoten grants, classes 0 to 5. -/
def allotment (cls : Nat) : Nat := [4, 12, 4, 4, 24, 16].getD cls 0
/-- R80: BLOCK_ID of this design, type 0x5A17 and level 3. -/
def blockId : Nat := 0x5A170003
/-- R402: the value that pets the watchdog. -/
def petWord : Nat := 0x5A17
/-- R404: CONFIRM of L3 and L4. -/
def confirmKey : Nat := 0xC3
/-- R472: KEY of SEM_BREAK. -/
def semBreakKey : Nat := 0xB5
/-- R123, R480: the default stall budget in µs. -/
def defaultStallUs : Nat := 2000

end Sys2Proof.Config
end

