-- ==== Sys2Proof/Syntax.lean ====
section
/-!
DEFINITION. The commands of the block: one constructor for each row of spec/opcode_table.json, in its order. The table
gives the rows no bits, so the operands are the model's: they name the object the row acts on (a hardware queue `q` and
the index `i` of a command's first slot, a context, a harness `h`, an engine `e`, a Rein port `p`, a register path, a
coherence agent and line).
-/
namespace Sys2Proof

/-- A piece of work that a stall, a breakpoint or a fault names: a command, or the item in hand of a persistent task. -/
inductive Work where
  | cmd (q i : Nat)
  | task (ctx task : Nat)
deriving DecidableEq, Repr

/-- Who makes a memory access that ZTU translates (R275): an engine, or a block agent on behalf of a command. -/
inductive Agent where
  | engine (e : Nat)
  | block (q i : Nat)
deriving DecidableEq, Repr

/-- A Page Request Group Response of the host (R286). -/
inductive PriCode where
  | success | invalid | failure
deriving DecidableEq, Repr

/-- The width and half of a read of a 64-bit register pair (R159, R452). -/
inductive NowRead where
  | lo32 | lo64 | hi32
deriving DecidableEq, Repr

/-- A Rein frame as a receiver takes it (R358): header fields and the 24 payload bytes, byte 0 lowest. -/
structure Frame where
  cls : Nat
  typ : Nat
  seq : Nat
  ack : Nat
  ackValid : Bool
  replay : Bool
  resv : Nat
  payload : BitVec 192
deriving DecidableEq, Repr

/-- 32 bytes that a port takes on its active lane and that are no good frame, and how many of their code groups are in error (R357, R359). -/
structure RxBytes where
  port : Nat
  errs : Nat
  bytes : List (BitVec 8)
deriving DecidableEq, Repr

/-- What a receive lane of a port reports: the code groups in error that it has taken (R357), and whether it holds symbol lock (R378). -/
structure LaneReport where
  port : Nat
  lane : Nat
  errs : Nat
  lock : Bool
deriving DecidableEq, Repr

/-- Engine numbers of the model: core n is n; the stack unit of index j of stack s is 1024 + 64 × s + j (R404, R424). -/
abbrev unitBase : Nat := 1024

inductive Instr where
  /-- POWER_ON (R477): Core rail up and reset released: the block enters OFF, and the Cinder log clears within 3 ms. -/
  | powerOn
  /-- AON_RESET_RELEASE (R525): Release of AON_RST_N samples CHIP_ID and holds it until the next release. -/
  | aonResetRelease (chipId : BitVec 32)
  /-- INITIALISATION_END (R477): Initialisation ends (tables cleared, channel test results taken, stack layout computed) and the block enters LOAD. -/
  | initialisationEnd (failed : List (BitVec 16))
  /-- GO_READY (R479): A GO_READY write in LOAD is checked; if accepted, the block enters READY, writes the capability table, opens context 0 and KQ0, and starts the cadence. -/
  | goReady (path : Nat)
  /-- GO_RUN (R481): A GO_RUN write in READY is accepted when ZT_FCR_SIZE is not 0; every ACTIVE harness is then lit. -/
  | goRun (path : Nat)
  /-- DOORBELL_WRITE (R90): A DOORBELL write is accepted or rejected; on acceptance it advances DB_COUNT and starts the ring fetch. -/
  | doorbellWrite (path ctx qidx : Nat) (v : BitVec 32)
  /-- RING_READ_COMPLETION (R97): An aligned 256-byte ring block read completes, and QFE selects and validates the commands it holds. -/
  | ringReadCompletion (q : Nat)
  /-- INDIRECT_RECORD_READ (R133): Once its waits are met, QFE reads the LAUNCH_IND record once, as an acquire, and checks it. -/
  | indirectRecordRead (q i : Nat)
  /-- LAMPLIGHTER_DECISION (R148): The Lamplighter picks the next eligible command by the decision table and dispatches it to its executing unit. -/
  | lamplighterDecision
  /-- OCCUPANCY_WINDOW_END (R185): At the end of each 65,536-cycle window, OCC is updated and coalesced dispatch is entered or left. -/
  | occupancyWindowEnd
  /-- NOP (R142): NOP completes OK once its waits are met. -/
  | nop (q i : Nat)
  /-- LAUNCH (R113): LAUNCH runs a stitch list REPEAT times on cores and units of the bound harness. -/
  | launch (q i : Nat)
  /-- LAUNCH_IND (R133): LAUNCH_IND runs a launch whose parameters come from an indirect record in device memory. -/
  | launchInd (q i : Nat)
  /-- LAUNCH_PERSIST (R177): LAUNCH_PERSIST binds engines to a persistent task that replays the current list version once per item of a task ring. -/
  | launchPersist (q i : Nat)
  /-- STOP_PERSIST (R182): STOP_PERSIST unbinds a persistent task after the item in hand, or after all published items in MODE 1. -/
  | stopPersist (q i : Nat)
  /-- COPY (R115): COPY moves LEN bytes between memory, scratchpad and stack-side cache spaces through block DMA. -/
  | copy (q i : Nat)
  /-- FILL (R110): FILL writes a repeated pattern of the given width to a destination space. -/
  | fill (q i : Nat)
  /-- ATOMIC (R116): ATOMIC performs ADD, MAX or CAS on 8 bytes of this chip's device memory and may return the old value. -/
  | atomic (q i : Nat)
  /-- PREFETCH (R292): PREFETCH migrates, or requests through PRI, every host-resident page of its range. -/
  | prefetch (q i : Nat)
  /-- ADVISE (R293): ADVISE records its advice, and for WILL_NEED it migrates the range in the background. -/
  | advise (q i : Nat)
  /-- WAIT (R108): WAIT completes when its waits are met and holds its queue until then. -/
  | wait (q i : Nat)
  /-- SIGNAL (R142): SIGNAL applies its signal entries at completion. -/
  | signal (q i : Nat)
  /-- SIGNAL_REMOTE (R117): SIGNAL_REMOTE sends an absolute set-max signal to a peer chip's exported wick or queue doorbell, ordered behind its queue's writes. -/
  | signalRemote (q i : Nat)
  /-- TIMESTAMP (R118): TIMESTAMP writes the fabric time and the cadence to memory. -/
  | timestamp (q i : Nat)
  /-- CADENCE_WAIT (R119): CADENCE_WAIT completes when the cadence reaches TARGET and sets the queue's ANCHOR. -/
  | cadenceWait (q i : Nat)
  /-- MARK (R120): MARK writes a marker record into a trace buffer. -/
  | mark (q i : Nat)
  /-- WATCH (R444): WATCH reads a tensor through the digest unit and writes a CRC and FP64 statistics. -/
  | watch (q i : Nat)
  /-- MAP (R273): MAP creates a mapping of a context, with its rights, backing and golden copy. -/
  | map (q i : Nat)
  /-- UNMAP (R295): UNMAP waits for pins to drain, drops translations, returns frames and removes the mapping. -/
  | unmap (q i : Nat)
  /-- INV_RANGE (R294): INV_RANGE waits for pins, drops cached translations and demotes the DEVICE pages wholly inside the range. -/
  | invRange (q i : Nat)
  /-- QUEUE_CREATE (R48): QUEUE_CREATE checks its arguments, creates a hardware queue, and opens the context if it is FREE. -/
  | queueCreate (q i : Nat)
  /-- QUEUE_DESTROY (R55): QUEUE_DESTROY drains or aborts a queue until it reaches UNUSED. -/
  | queueDestroy (q i : Nat)
  /-- HARNESS_GROW (R59): HARNESS_GROW assigns free engines to a harness, all or nothing, and lights them. -/
  | harnessGrow (q i : Nat)
  /-- HARNESS_SHRINK (R60): HARNESS_SHRINK removes the highest-placed engines of a harness once their launches finish. -/
  | harnessShrink (q i : Nat)
  /-- LIST_LOAD (R209): LIST_LOAD reads and checks a stitch-list image, creates a LOADING version, and submits it for verification. -/
  | listLoad (q i : Nat)
  /-- LIST_PATCH (R209): LIST_PATCH creates a new version of a list, or replaces the current image in place. -/
  | listPatch (q i : Nat)
  /-- LIST_RETIRE (R72): LIST_RETIRE makes every version of a list SUPERSEDED. -/
  | listRetire (q i : Nat)
  /-- WICK_ALLOC (R67): WICK_ALLOC binds a virtual ID to the lowest free physical slot with an initial value. -/
  | wickAlloc (q i : Nat)
  /-- WICK_FREE (R68): WICK_FREE frees a virtual ID, and frees the slot when no name refers to it any longer. -/
  | wickFree (q i : Nat)
  /-- WICK_EXPORT (R254): WICK_EXPORT marks a slot EXPORTED and writes its 64-bit token. -/
  | wickExport (q i : Nat)
  /-- CTX_SAVE (R126): CTX_SAVE writes a context image and moves the context to SAVED. -/
  | ctxSave (q i : Nat)
  /-- CTX_RESTORE (R127): CTX_RESTORE checks an image and reopens the context, its queues and its wicks from it. -/
  | ctxRestore (q i : Nat)
  /-- FRAME_SUPPLY (R128): FRAME_SUPPLY adds a list of 64 KiB frames to a frame pool, all or nothing. -/
  | frameSupply (q i : Nat)
  /-- COMMAND_COMPLETION (R23): A command ends: its writes become visible, STATUS is written, its signals are applied, and COMPLETED_INDEX advances over the completed prefix. -/
  | commandCompletion (q i : Nat)
  /-- CONTEXT_FREED (R40): Once all objects of a CLOSING context are released, the context returns to FREE and forgets its PASID. -/
  | contextFreed (ctx : Nat)
  /-- LAUNCH_PLACEMENT (R170): When engines are freed, lit or added, HAL places launches from the head of the harness wait list. -/
  | launchPlacement (h : Nat)
  /-- ENGINE_SPACE_CLEAR_DONE (R303): An engine's scratchpad and stack-side cache clear completes before a placement on it. -/
  | engineSpaceClearDone (e : Nat)
  /-- LIGHTING_GROUP_START (R187): A lighting group starts once INTERVAL_NS has passed and a power grant has arrived. -/
  | lightingGroupStart
  /-- WAKE_GROUP_START (R189): A paced wake group of gated engines starts after its grant and its interval. -/
  | wakeGroupStart
  /-- POWER_GRANT (R523): PWR_GNT rises for the requested group; HAL starts the group and lowers PWR_REQ. -/
  | powerGrant
  /-- GRANT_WAIT_TIMEOUT (R34): One millisecond without a power grant raises a LIGHT_WAIT event. -/
  | grantWaitTimeout
  /-- ENGINE_CLOCK_GATE (R245): An engine that has waited on a wick for WK_GATE_NS has its clock gated. -/
  | engineClockGate (e : Nat)
  /-- PROGRESS_BEAT (R204): An engine's progress beat advances its command's progress counter and restarts the stall budget. -/
  | progressBeat (e : Nat)
  /-- ENGINE_INVOCATION_END (R204): An engine ends an invocation, and its writes become visible before the next invocation reads its arguments. -/
  | engineInvocationEnd (e : Nat)
  /-- ENGINE_DRAINED (R138): An engine finishes draining after a stop request or a cancellation. -/
  | engineDrained (e : Nat)
  /-- TASK_ITEM_TAKE (R180): A persistent task takes item i once TASK_WICK exceeds i and starts it with no decision. -/
  | taskItemTake (ctx task : Nat)
  /-- TASK_ITEM_COMPLETION (R180): A task item ends: its STATUS is written and then its signal is applied. -/
  | taskItemCompletion (ctx task : Nat)
  /-- BREAKPOINT_HIT (R455): Delivery reaches the breakpoint stitch; the launch halts and drains, and a breakpoint event is raised. -/
  | breakpointHit (bp : Nat) (w : Work)
  /-- WICK_SIGNAL_APPLY (R235): An ADD or SETMAX is applied to a slot in its bank and the slot's waiters are evaluated. -/
  | wickSignalApply (slot : Nat) (setmax : Bool) (v : BitVec 64)
  /-- STEP_PACING_EXPIRY (R320): After 250 µs since the previous boundary, a held commit-wick signal is released. -/
  | stepPacingExpiry (h : Nat)
  /-- LEDGER_CLOSING (R325): The Credit Ledger samples and checks its accounts, at a step boundary or by its periodic timer. -/
  | ledgerClosing
  /-- LEDGER_STORAGE_UE (R329): An uncorrectable error in the ledger's storage causes a re-base of every account. -/
  | ledgerStorageUe
  /-- REMOTE_WICK_SIGNAL (R253): The fabric port receives a remote wick signal, checks its token, and applies it as SETMAX after the data ahead of it. -/
  | remoteWickSignal (token v : BitVec 64)
  /-- REMOTE_DOORBELL_SIGNAL (R96): A received QDOOR signal applies SETMAX to a service queue's DB_COUNT, or is dropped. -/
  | remoteDoorbellSignal (q : Nat) (v : BitVec 64)
  /-- WINDOW_SIGNAL_WRITE (R265): A 64-bit write to the wick window VALUE half is a SETMAX of the slot, or is dropped. -/
  | windowSignalWrite (path slot : Nat) (v : BitVec 64)
  /-- WICK_IMPORT (R257): The import operation of WK_IMP_CMD binds an exported slot to a virtual ID of the target context with RIGHTS. -/
  | wickImport (path : Nat) (rights : BitVec 3)
  /-- WICK_RELEASE (R257): The release operation of WK_IMP_CMD removes an import. -/
  | wickRelease (path : Nat)
  /-- WINDOW_ON (R257): The window-on operation of WK_IMP_CMD puts an exported slot in the signal window. -/
  | windowOn (path : Nat)
  /-- WINDOW_OFF (R257): The window-off operation of WK_IMP_CMD removes a slot from the signal window. -/
  | windowOff (path : Nat)
  /-- BOUND_COMMIT (R246): Writing EN = 1 to WK_BND_CTL commits a staged bound record. -/
  | boundCommit (path : Nat) (v : BitVec 32)
  /-- BOUND_DISABLE (R263): Writing EN = 0 to WK_BND_CTL disables a bound record. -/
  | boundDisable (path : Nat) (v : BitVec 32)
  /-- WICK_ROW_UE (R236): An uncorrectable error in a wick row snuffs the slot and moves it to a spare row. -/
  | wickRowUe (slot : Nat)
  /-- STITCH_CACHE_UE (R218): An uncorrectable stitch-cache error breaks a version and cancels the launches that run it. -/
  | stitchCacheUe (ctx list epoch : Nat)
  /-- LIST_VERDICT (R209): A security verdict on a list image makes the LOADING version CURRENT or frees it. -/
  | listVerdict (ok bad : Bool)
  /-- CADENCE_FRAME_EDGE (R152): A frame edge adds 1 to the frame count and sets the fraction to 0; RELAY is sent on TS_DOWN ports. -/
  | cadenceFrameEdge
  /-- CADENCE_TARGET_REACHED (R119): The cadence reaches the TARGET of a waiting CADENCE_WAIT, which completes. -/
  | cadenceTargetReached (q i : Nat)
  /-- CAD_IN_EDGE (R154): A filtered rising edge on CAD_IN is accepted or ignored, and advances locking or CAD_PERIOD. -/
  | cadInEdge
  /-- CAD_LOCK_LOSS (R154): No CAD_IN edge for 1.5 × CAD_PERIOD loses the lock. -/
  | cadLockLoss
  /-- HOLDOVER_EDGE (R156): In holdover, a local edge is generated every CAD_PERIOD cycles. -/
  | holdoverEdge
  /-- RELAY_TIMEOUT (R392): No RELAY within 1.5 × CAD_PERIOD ends the Rein time master as a cadence source. -/
  | relayTimeout
  /-- CAD_SRC_CHANGE (R160): A change of CAD_SRC takes effect at the next frame edge. -/
  | cadSrcChange
  /-- STALL_BUDGET_EXPIRY (R138): A command's stall budget expires: a reversible stop request is sent and a STALL event is raised. -/
  | stallBudgetExpiry (w : Work)
  /-- STALL_AUTO_RESUME (R400): A stalled command that is not on engines or DMA resumes when its progress advances. -/
  | stallAutoResume (w : Work)
  /-- STALL_RESUME (R399): RC_STALL_CMD RESUME withdraws the stop request of a stalled command or item. -/
  | stallResume (path : Nat)
  /-- STALL_END (R399): RC_STALL_CMD END completes a stalled command or item with STALL. -/
  | stallEnd (path : Nat)
  /-- DRAIN_LIMIT_EXPIRY (R401): An engine that has not drained within RC_DRAIN_LIMIT is recorded in RC_UNDRAINED and raises an engine-fault event. -/
  | drainLimitExpiry (e : Nat)
  /-- WATCHDOG_PET (R402): A write of 0x5A17 to HANG_WD starts a new watchdog period. -/
  | watchdogPet (path : Nat)
  /-- WATCHDOG_LAPSE (R402): A period passes without a pet; LAPSED is set and a watchdog event is raised. -/
  | watchdogLapse
  /-- L0_CONTEXT_TEARDOWN (R407): An L0 order tears down the named context with the actions of R43. -/
  | l0ContextTeardown (path ctx : Nat)
  /-- L1_ENGINE_RESET (R407): An L1 order resets one engine and aborts the work it held. -/
  | l1EngineReset (path e : Nat)
  /-- L2_HARNESS_RESET (R407): An L2 order resets every engine of a harness and discards the held writes of its step. -/
  | l2HarnessReset (path h : Nat)
  /-- L3_CHIP_RESET (R407): An L3 order posts ABORT and resets the core domain into LOAD. -/
  | l3ChipReset (path : Nat)
  /-- L4_POWER_CYCLE (R408): An L4 order posts ABORT, holds the core in reset, and asserts PWRCYC_REQ for a power cycle. -/
  | l4PowerCycle (path : Nat)
  /-- ORDER_DONE (R405): A running recovery order ends, sets RESULT and clears BUSY. -/
  | orderDone
  /-- PWRCYC_ACK_ASSERT (R529): The tray controller's PWRCYC_ACK is taken after PWRCYC_REQ. -/
  | pwrcycAckAssert
  /-- PWRCYC_NOACK_TIMEOUT (R408): No PWRCYC_ACK within 1 ms of the request sets NOACK. -/
  | pwrcycNoackTimeout
  /-- RDOUT_ACK (R408): The board controller writes RC_PWR.RDOUT_ACK, which ends the read-out hold. -/
  | rdoutAck (path : Nat)
  /-- READOUT_HOLD_EXPIRY (R408): 50 ms after PWRCYC_REQ, the read-out hold ends without an acknowledgement. -/
  | readoutHoldExpiry
  /-- PWRCYC_REQ_RELEASE (R408): The sequencer clears HOLD and deasserts PWRCYC_REQ, and the tray controller removes power. -/
  | pwrcycReqRelease
  /-- JOB_MEMBERSHIP_COMMIT (R410): Writing VALID = 1 to RC_JOB_CTL commits a context's job membership. -/
  | jobMembershipCommit (path : Nat) (v : BitVec 32)
  /-- JOB_MEMBERSHIP_END (R410): Writing VALID = 0 to RC_JOB_CTL ends the selected context's membership. -/
  | jobMembershipEnd (path : Nat)
  /-- ERR_EVENT_POST (R411): The Recovery Controller posts an ERROR or ABORT for a job on every Rein port in RUN. -/
  | errEventPost (abort : Bool) (job : BitVec 32) (code : BitVec 8)
  /-- SPARE_RETIRE_GO (R425): SM_RETIRE.GO retires the selected instance and brings in a spare. -/
  | spareRetireGo (path : Nat)
  /-- ENGINE_REPLACEMENT (R425): Once a retiring engine holds no work, HAL lights, clears and positions a spare in its place. -/
  | engineReplacement (e : Nat)
  /-- CORRECTABLE_ERROR (R424): A correctable error adds to the instance's wear counts and may make the instance PREDICTED. -/
  | correctableError (kind inst : Nat)
  /-- ENGINE_UE (R425): An uncorrectable error inside an engine cancels its work as at L1 and retires it. -/
  | engineUe (e : Nat)
  /-- WALKER_UE (R279): A walker with an uncorrectable error is retired, and its walk restarts on a spare. -/
  | walkerUe (k : Nat)
  /-- CHANNEL_FAILURE (R307): A channel that fails after READY is taken out of service and its frames are removed from the pool. -/
  | channelFailure (stack ch : Nat)
  /-- POISON_READ (R415): A read that meets an uncorrectable DRAM error marks the 256-byte burst as poisoned. -/
  | poisonRead (addr : Nat)
  /-- POISON_REPAIR_DONE (R416): The golden burst is written back; the mark is cleared and the burst is unfrozen. -/
  | poisonRepairDone (addr : Nat)
  /-- POISON_CONSUMED (R417): An engine reports consuming poisoned data, and the consuming context's work in the harness is stopped. -/
  | poisonConsumed (e addr : Nat)
  /-- RETRY_STEP_DISCARD (R417): Once the stopped engines have drained, the held writes are discarded and the work completes with RETRY_STEP. -/
  | retryStepDiscard (ctx h : Nat)
  /-- MIGRATION_FAULT (R282): An access to a host-resident page creates or joins a fault entry and starts a migration. -/
  | migrationFault (a : Agent) (ctx va : Nat) (write : Bool)
  /-- MIGRATION_DMA_DONE (R282): The 64 KiB copy is visible; the MIGRATED entry is written, the page becomes DEVICE, and the waiters are released. -/
  | migrationDmaDone (ctx page : Nat) (ok : Bool)
  /-- WALK_DONE (R278): A range-tree walk completes and fills the range and page-record caches. -/
  | walkDone (k : Nat)
  /-- ATS_COMPLETION (R280): An ATS Translation Completion is received and cached, or ends the fault. -/
  | atsCompletion (pasid va log2 pa : Nat) (ok rd wr : Bool)
  /-- PRI_RESPONSE (R286): A PRI Page Request Group Response is received, and the fault is retried or ended. -/
  | priResponse (ctx page : Nat) (code : PriCode)
  /-- ATS_INVALIDATE_REQUEST (R297): A host ATS Invalidate Request drops the named ATS-cache and engine-buffer entries. -/
  | atsInvalidateRequest (tag pasid va len : Nat)
  /-- ATS_INVALIDATE_COMPLETION (R297): Once the accesses that used the translations have completed, the Invalidate Completion is sent. -/
  | atsInvalidateCompletion (tag : Nat)
  /-- REGISTER_INVALIDATION (R298): GO in ZT_INV_CTL drops the translations of a range and marks it invalid without waiting for pins. -/
  | registerInvalidation (path : Nat)
  /-- FRAME_RING_ENTRY_WRITE (R291): A waiting frame completion entry is written when the ring has room, and TAIL advances. -/
  | frameRingEntryWrite
  /-- ZT_FCR_HEAD_WRITE (R290): A write of ZT_FCR_HEAD consumes entries and retries a faulted entry write. -/
  | ztFcrHeadWrite (path : Nat) (v : BitVec 32)
  /-- ZT_FCR_SIZE_WRITE (R290): A write of ZT_FCR_SIZE commits the frame completion ring and resets TAIL and HEAD. -/
  | ztFcrSizeWrite (path : Nat) (v : BitVec 32)
  /-- BOOTMAP_CLEAR (R484): Writing 0 to ZT_CTL.BOOTMAP converts the boot map into mappings of context 0. -/
  | bootmapClear (path : Nat)
  /-- ZT_BOOT_ENT0_WRITE (R272): A write of ZT_BOOT_ENT0 commits the selected boot-map entry with any staged PPN. -/
  | ztBootEnt0Write (path : Nat) (v : BitVec 32)
  /-- DT_COUNT_COMMIT (R229): A write of DT_COUNT commits DT_BASE and DT_COUNT for the selected context. -/
  | dtCountCommit (path : Nat) (v : BitVec 32)
  /-- COMMIT_WICK_ENABLE (R331): Writing EN = 1 to LG_H_COMMIT names and enables a harness's commit wick. -/
  | commitWickEnable (path : Nat) (v : BitVec 32)
  /-- SNOOP_TIMEOUT (R348): A snoop left unanswered for CC_SNP_TIMEOUT brings the coherence domain down. -/
  | snoopTimeout (line : Nat)
  /-- COHERENCE_DOWN (R350): A coherence cause sets DOWN, discards caches and the directory, and starts the roll call of the rebuild. -/
  | coherenceDown (cause agent way : Nat)
  /-- ROLL_CALL_CLOSE (R350): After 10 µs the roll call closes, silent agents are fenced, and journal replay and write-buffer reissue begin. -/
  | rollCallClose (silent : List Nat)
  /-- COHERENCE_REBUILD_DONE (R350): The rebuild ends, DOWN clears, and dispatch resumes with a coherence event. -/
  | coherenceRebuildDone
  /-- RD_S (R345): The home answers a shared read of a line, with forwarding or a memory read. -/
  | rdS (agent line : Nat)
  /-- RD_M (R345): The home grants a scratch line in M after invalidating the other holders. -/
  | rdM (agent line : Nat)
  /-- RD_NA (R345): The home answers a non-allocating read from memory. -/
  | rdNa (agent line : Nat)
  /-- WR_T (R341): A write-through completes once memory holds the line and the other holders are invalidated. -/
  | wrT (agent line : Nat) (data : BitVec 512) (mask : BitVec 64)
  /-- WR_NC (R347): A non-caching write invalidates every cached copy before it completes. -/
  | wrNc (agent line : Nat) (data : BitVec 512) (mask : BitVec 64)
  /-- EVICT (R345): An agent's eviction of a clean line removes it from the directory. -/
  | evict (agent line : Nat)
  /-- WB (R345): A write-back of an M line is completed once memory holds it. -/
  | wb (agent line : Nat) (data : BitVec 512)
  /-- SNP_FWD (R345): The Lead or E holder forwards the data to the requester and moves to S. -/
  | snpFwd (agent line : Nat)
  /-- SNP_INV (R345): An agent invalidates its copy and answers ACK_INV. -/
  | snpInv (agent line : Nat)
  /-- SNP_BINV (R339): A back-invalidation frees a directory entry for a new line. -/
  | snpBinv (agent line : Nat)
  /-- SNP_WB (R345): An M holder writes the line back and keeps it in E. -/
  | snpWb (agent line : Nat)
  /-- ACK_INV (R345): The home takes an invalidation acknowledgement. -/
  | ackInv (agent line : Nat)
  /-- ACK_FWD (R345): The home takes a forwarding acknowledgement. -/
  | ackFwd (agent line : Nat)
  /-- CMP (R343): An agent takes a completion and releases the write from its buffer. -/
  | cmp (agent line : Nat)
  /-- DATA (R345): An agent takes line data and enters the granted state. -/
  | data (agent line : Nat)
  /-- MC_STORE_WRITE (R489): A write of MC_DATA_HI stores a microword at MC_ADDR and advances the address. -/
  | mcStoreWrite (path : Nat) (v : BitVec 32)
  /-- VERIFY (R490): VERIFY scans a microcode store, computes its CRC, and submits it to the security block. -/
  | verify (path : Nat)
  /-- MICROCODE_VERDICT (R490): SEC_IMG_OK or SEC_IMG_BAD ends a verification, and the store is copied to spares on success. -/
  | microcodeVerdict (ok bad : Bool)
  /-- HANDOVER (R493): HANDOVER moves the active Lamplighter role to a verified spare with a bounded dispatch pause. -/
  | handover (path : Nat)
  /-- CLR_SIG (R496): CLR_SIG empties the signature buffer. -/
  | clrSig (path : Nat)
  /-- MC_SIG_DATA_WRITE (R496): A write of MC_SIG_DATA appends 4 signature bytes. -/
  | mcSigDataWrite (path : Nat) (v : BitVec 32)
  /-- SEM_READ (R471): A read of a free semaphore grants it to the reading path. -/
  | semRead (path k : Nat)
  /-- SEM_RELEASE (R473): A write by the owner releases a semaphore and discards its staged values. -/
  | semRelease (path k : Nat)
  /-- SEM_BREAK (R472): SEM_BREAK with KEY 0xB5 releases any semaphore and raises a semaphore-broken event. -/
  | semBreak (path : Nat) (key : BitVec 8) (index : Nat)
  /-- PORT_DOWN (R469): A control port goes down: its semaphores and staged values are released and a port-lost event is raised. -/
  | portDown (p : Nat)
  /-- PORT_UP (R507): A control port returns, and pending events of Port A are signalled. -/
  | portUp (p : Nat)
  /-- MSIX_SPACING_END (R507): After 1 µs of spacing, a page's pending cause is signalled by one MSI-X message. -/
  | msixSpacingEnd (page : Nat)
  /-- POP (R514): POP removes the head record of the writing path's event FIFO. -/
  | pop (path : Nat)
  /-- EVT_INJ (R512): EVT_INJ raises listed events of a page with INJ set. -/
  | evtInj (path page : Nat) (evts : BitVec 24)
  /-- ACC_INJ (R512): ACC_INJ raises an injected ACCESS event. -/
  | accInj (path page : Nat)
  /-- UE_ARM (R512): UE_ARM makes the next ECC read of the unit report an uncorrectable error. -/
  | ueArm (path page : Nat)
  /-- CE_ARM (R512): CE_ARM makes the next ECC read of the unit report a correctable error. -/
  | ceArm (path page : Nat)
  /-- REGISTER_WRITE (R15): A write to a register with no row of its own takes effect under the register's access code and rules, or is recorded as an access error. -/
  | registerWrite (path addr : Nat) (wide : Bool) (v : BitVec 64)
  /-- MISALIGNED_ACCESS (R10): An access of another size or alignment is discarded or read as all ones, and is recorded as an access error. -/
  | misalignedAccess (path addr size : Nat) (write : Bool)
  /-- CAD_NOW_READ (R159): A 32-bit read of CAD_NOW_LO latches the upper half for the next CAD_NOW_HI read. -/
  | cadNowRead (path : Nat) (r : NowRead)
  /-- OB_SCAN_DATA_READ (R452): A read of the scan-out data returns a word of the frozen image and advances OB_SCAN_ADDR. -/
  | obScanDataRead (path : Nat) (r : NowRead)
  /-- TRACE_DMA_WRITE (R438): The trace DMA writes a buffer's waiting records into its ring once 8 are waiting. -/
  | traceDmaWrite (buf : Nat)
  /-- TRACE_FLUSH_TIMER (R438): 10 µs after the oldest waiting record was taken, whatever is waiting is written. -/
  | traceFlushTimer (buf : Nat)
  /-- TRACE_DISABLE (R440): Writing EN = 0 stops new records and flushes those still held. -/
  | traceDisable (path : Nat)
  /-- TB_SIZE_WRITE (R440): A write of TB_SIZE commits the trace ring and resets TB_TAIL and TB_HEAD. -/
  | tbSizeWrite (path : Nat) (v : BitVec 32)
  /-- TB_HEAD_WRITE (R437): A write of TB_HEAD consumes trace records under the tests of R290. -/
  | tbHeadWrite (path : Nat) (v : BitVec 32)
  /-- OCCUPANCY_SAMPLE (R433): Once per µs, the slots held by each queue class are sampled. -/
  | occupancySample
  /-- GLOBAL_STOP_REQUEST (R447): A stop request freezes every ZCLK-domain unit six edges later. -/
  | globalStopRequest (path : Nat)
  /-- STOP_IN_EDGE (R447): A filtered rising edge on STOP_IN requests a global stop. -/
  | stopInEdge
  /-- GLOBAL_STOP_RELEASE (R451): RELEASE resumes the frozen units and writes STOP records. -/
  | globalStopRelease (path : Nat)
  /-- BREAKPOINT_COMMIT (R454): Writing EN = 1 to OB_BP_CTL commits a breakpoint record. -/
  | breakpointCommit (path : Nat) (v : BitVec 32)
  /-- BREAKPOINT_RESUME (R456): RESUME continues delivery of the launches halted at a breakpoint. -/
  | breakpointResume (path : Nat)
  /-- BREAKPOINT_STEP (R456): STEP delivers one stitch and halts again. -/
  | breakpointStep (path : Nat)
  /-- CN_FREEZE_WRITE (R461): A write of CN_CTL.FREEZE freezes or unfreezes the Cinder log. -/
  | cnFreezeWrite (path : Nat) (v : BitVec 32)
  /-- PT_EN_WRITE (R373): Writing EN to PT_CTL starts a Rein port training or takes it to OFF. -/
  | ptEnWrite (path p : Nat) (v : BitVec 32)
  /-- RETRAIN (R373): RETRAIN takes a Rein port back to TRAIN. -/
  | retrain (path p : Nat)
  /-- LANE_SIGNAL_CHANGE (R356): A receive lane declares signal present or lost after its qualification time. -/
  | laneSignalChange (p lane : Nat) (present : Bool)
  /-- TS1 (R368): A TS1 ordered set is taken in training, or retrains a port in IDENT, QUARANTINE or RUN. -/
  | ts1 (p lane : Nat)
  /-- TS2 (R368): A TS2 with RXOK is taken, and after 8 exchanged the port enters IDENT. -/
  | ts2 (p lane : Nat) (rxok : BitVec 2)
  /-- TRAINING_ATTEMPT_TIMEOUT (R368): IDENT not reached within 10 ms fails an attempt, and the 16th failure isolates the port. -/
  | trainingAttemptTimeout (p : Nat)
  /-- IDENT (R369): A received IDENT frame is checked and may move the port to QUARANTINE or ISOLATED. -/
  | ident (p : Nat) (f : Frame)
  /-- IDENT_SEND (R369): In IDENT, an IDENT frame is sent every 10 µs. -/
  | identSend (p : Nat)
  /-- IDENT_TIMEOUT (R373): A port still in IDENT 1 ms after entry returns to TRAIN. -/
  | identTimeout (p : Nat)
  /-- CREDIT (R364): A CREDIT frame updates the sender's available credits, or isolates the port on a credit error. -/
  | credit (p : Nat) (f : Frame)
  /-- CREDIT_REPORT_TIMER (R363): A CREDIT frame is sent 2 µs after an unreported consumption, or at least every 100 µs. -/
  | creditReportTimer (p : Nat)
  /-- CREDIT_STALL_TIMEOUT (R364): Frames waiting too long for credit isolate the port with cause 17. -/
  | creditStallTimeout (p cls : Nat)
  /-- NAK (R361): A NAK starts a replay from the oldest uncovered frame. -/
  | nak (p : Nat) (f : Frame)
  /-- REPLAY_TIMER (R361): No ACK progress for 8 µs starts a replay, and 8 fruitless replays retrain the port. -/
  | replayTimer (p : Nat)
  /-- BAD_FRAME (R359): A bad or malformed frame is discarded, counted in CRC_ERR, and a NAK is sent. -/
  | badFrame (r : RxBytes)
  /-- AUTH (R371): An AUTH frame is passed to the security block, or held until the session opens. -/
  | auth (p : Nat) (f : Frame)
  /-- AUTH_DONE (R371): The partner's AUTH_DONE, with the port's own PASS, moves the port to RUN. -/
  | authDone (p : Nat) (f : Frame)
  /-- AUTH_VERDICT (R371): The security block returns PASS or FAIL for a port's authentication session. -/
  | authVerdict (p : Nat) (pass : Bool) (chipId : BitVec 32)
  /-- AUTH_TIMEOUT (R371): 100 ms without an AUTH frame from the partner isolates the port. -/
  | authTimeout (p : Nat)
  /-- LANE_SWITCH (R378): A LANE_SWITCH frame moves the transmitter to the other lane and replays. -/
  | laneSwitch (p : Nat) (f : Frame)
  /-- LANE_FAILURE (R378): A receiver declares its active lane failed and sends LANE_SWITCH. -/
  | laneFailure (r : LaneReport)
  /-- HEARTBEAT (R386): A received heartbeat is checked, and 16 in QUARANTINE open authentication. -/
  | heartbeat (p : Nat) (f : Frame)
  /-- HEARTBEAT_SEND (R386): A heartbeat is sent every PERIOD_US. -/
  | heartbeatSend (p : Nat)
  /-- HEARTBEAT_TIMEOUT (R373): No good heartbeat for TIMEOUT_US takes the port to TRAIN. -/
  | heartbeatTimeout (p : Nat)
  /-- TIME_SYNC_EXCHANGE (R389): The master starts a SYNC exchange every 62.5 µs on each TS_DOWN port. -/
  | timeSyncExchange (p : Nat)
  /-- SYNC (R389): A follower takes SYNC and records T2. -/
  | sync (p : Nat) (f : Frame)
  /-- FOLLOW_UP (R389): A follower takes T1 and answers with DELAY_REQ. -/
  | followUp (p : Nat) (f : Frame)
  /-- DELAY_REQ (R389): The master records T4 and answers with DELAY_RESP. -/
  | delayReq (p : Nat) (f : Frame)
  /-- DELAY_RESP (R390): The follower computes its offset and delay, and corrects its fabric time. -/
  | delayResp (p : Nat) (f : Frame)
  /-- RELAY (R392): A cadence RELAY from the TS_UP port places the local frame edges. -/
  | relay (p : Nat) (f : Frame)
  /-- ERROR (R412): A received ERROR raises a remote-error event and is forwarded. -/
  | error (p : Nat) (f : Frame)
  /-- ABORT (R412): A received ABORT makes the job's local contexts LOST and is forwarded. -/
  | abort (p : Nat) (f : Frame)
  /-- EVENT_FORGET (R413): A remembered event is forgotten 1 s after it was taken. -/
  | eventForget (origin : BitVec 32) (inc : BitVec 16) (no : BitVec 32)
  /-- RECORD (R393): A received Cinder RECORD is written as a mirror record or discarded. -/
  | record (p : Nat) (f : Frame)
  /-- MESSAGE (R394): A received MESSAGE appears in MG_RX with VALID set and raises a Rein event. -/
  | message (p : Nat) (f : Frame)
  /-- MG_TX_GO (R394): GO sends MG_TX0 to MG_TX5 as a MESSAGE frame. -/
  | mgTxGo (path p : Nat)
  /-- MG_RX_CONSUME (R394): Writing 1 to MG_RX_CTL.VALID consumes the message and shows the next one. -/
  | mgRxConsume (path p : Nat)
  /-- FP_DEST_WRITE (R517): A write of FP_DEST adds or removes an entry of the fabric destination table. -/
  | fpDestWrite (path : Nat) (v : BitVec 32)
  /-- CORE_RESET_ASSERT (R532): CORE_RST_N is asserted, or the core rail is removed, from outside: the crossings drain, the isolation clamp engages and the core domain is held in reset. -/
  | coreResetAssert
  /-- TRANSLATION_FAULT (R274): An engine or block DMA access resolves to FAULT_XLAT or FAULT_PROT, so the access faults and its command or item ends with that status. -/
  | translationFault (a : Agent) (ctx va : Nat) (write : Bool)
  /-- RANGE_CACHE_WAY_UE (R424): An uncorrectable error in a range-cache way drops its entries and brings the spare way into service, or leaves 15 ways. -/
  | rangeCacheWayUe (k : Nat)
  /-- RC_FIELD_READ (R15): A read of an RC field returns its value and clears it to 0 in the same access. -/
  | rcFieldRead (path addr : Nat) (wide : Bool)
  /-- AUTH_SESSION_OPEN (R370): The security block accepts a port's authentication session, and the held AUTH frames and any recorded AUTH_DONE are passed on. -/
  | authSessionOpen (p : Nat)
  /-- SECURITY_AUTH_BYTES (R371): The security block hands Zilpoten outgoing authentication bytes, which leave to the partner in AUTH frames. -/
  | securityAuthBytes (p : Nat) (bytes : List (BitVec 8))
deriving DecidableEq, Repr

end Sys2Proof
end

