-- ==== Sys2Proof/Machine/State.lean ====
section
/-!
DEFINITION. The state of the block as plain data: everything the spec gives it, under the spec's names. Tables are lists
of (key, value) pairs in one canonical form (Machine/Table.lean): keys strictly rising, no entry equal to what an unlisted
key reads as. Registers whose value is stored lie in `regs`, keyed by their offset in the register window (R497).
-/
namespace Sys2Proof.Machine

/-- A sparse table. -/
abbrev Tab (α : Type) := List (Nat × α)

/-! ### What surrounds the block -/

/-- The wrapper's straps and the figures of the surroundings that the block reads (R524, R223, R306, R507). -/
structure Straps where
  nStacks : Nat := 8
  coresPerStack : Nat := 34
  coreSpares : Nat := 16
  unitsPerStack : Nat := 34
  unitSpares : Nat := 2
  reinBond : Nat := 0xFF
  coreFormats : Nat := 0x3FF
  unitFormats : Nat := 0x3BF
  coreArrays : Nat := 0x04040080
  coreClkKhz : Nat := 1550000
  hostLanes : Nat := 16
  hostGen : Nat := 6
  hostCaps : Nat := 7
  fabricGbps : Nat := 2400
  process : Nat := 5
  channelMb : Nat := 6000
  spmBytes : Nat := 262144
  unitSpmBytes : Nat := 262144
  cacheBytes : Nat := 1048576
  msixSize : Nat := 2048
deriving DecidableEq, Repr

/-- Pins and ports of the block (R520, R521) and the host's settings of the PCIe function (R269). -/
structure Pins where
  portA : Bool := true
  portB : Bool := true
  sideband : Bool := true
  ats : Bool := true
  prAlloc : Nat := 512
  stopIn : Bool := false
  pwrcycReq : Bool := false
  pwrcycAck : Bool := false
  coreHeld : Bool := true
deriving DecidableEq, Repr

/-- The block state (R477); `power` is the state before the core rail is up. -/
inductive BlockState where
  | power | off | load | ready | run | fault
deriving DecidableEq, Repr

/-! ### Contexts, queues and commands -/

/-- R39. -/
inductive CtxState where
  | free | opn | saved | lost | closing
deriving DecidableEq, Repr

/-- A context: R35, R39, R219, R268, R410, R453. -/
structure Ctx where
  st : CtxState := .free
  pasid : Nat := 0
  stallUs : Nat := 0
  ats : Bool := false
  dtBase : Nat := 0
  dtCount : Nat := 0
  debug : Bool := false
  job : Nat := 0
  jobPorts : Nat := 0
  jobValid : Bool := false
  lostCode : Nat := 0
deriving DecidableEq, Repr

/-- R51, in the encoding of R56. -/
inductive QState where
  | unused | active | halted | draining | aborting | lost
deriving DecidableEq, Repr

/-- A hardware queue (R47 to R57, R87 to R91) with the RT fields of R161 to R164 and the ledger terms of R323 KIND 1.
`done` lists completed commands beyond the completed prefix (R24): first slot index and slots. `taken` counts the slots that the
fetch has passed since START_INDEX; `marks` holds the indexes of discarded commands whose marker 0xFF is still to be written, and
`halting` the code of a halt that waits for them (R53). -/
structure HwQueue where
  st : QState := .unused
  ctx : Nat := 0
  qidx : Nat := 0
  cls : Nat := 0
  svc : Bool := false
  ringBase : Nat := 0
  ringLog2 : Nat := 0
  harness : Option Nat := none
  dbCount : Nat := 0
  startIndex : Nat := 0
  fetched : Nat := 0
  completed : Nat := 0
  errCode : Nat := 0
  dbRej : Nat := 0
  anchor : Nat := 0
  span : Nat := 0
  misses : Nat := 0
  done : List (Nat × Nat) := []
  doneSlots : Nat := 0
  discSlots : Nat := 0
  taken : Nat := 0
  marks : List Nat := []
  halting : Option Nat := none
deriving DecidableEq, Repr

/-- A wait entry (R104); `gt` is COND 1. -/
structure WaitEnt where
  value : Nat
  gt : Bool
  wick : Nat
deriving DecidableEq, Repr

/-- A signal entry (R105); `setmax` is OP 1. -/
structure SigEnt where
  value : Nat
  setmax : Bool
  wick : Nat
deriving DecidableEq, Repr

/-- Launch parameters (R110, R134); `ver` is the EPOCH named with VER 1. -/
structure LaunchP where
  reps : Nat := 0
  units : Nat := 0
  cores : Nat := 0
  listId : Nat := 0
  argAddr : Nat := 0
  argLen : Nat := 0
  ver : Option Nat := none
deriving DecidableEq, Repr

/-- Operands of QUEUE_CREATE (R110). -/
structure QCreate where
  pasid : Nat := 0
  harness : Nat := 0
  svc : Bool := false
  cls : Nat := 0
  qidx : Nat := 0
  ctx : Nat := 0
  ringBase : Nat := 0
  stallUs : Nat := 0
  start : Nat := 0
  ringLog2 : Nat := 0
deriving DecidableEq, Repr

/-- Operands of MAP (R110). -/
structure MapP where
  ctx : Nat := 0
  va : Nat := 0
  len : Nat := 0
  rd : Bool := false
  wr : Bool := false
  at_ : Bool := false
  sharedRo : Bool := false
  golden : Nat := 0
  goldenAddr : Nat := 0
  backed : Bool := false
  backing : Nat := 0
deriving DecidableEq, Repr

/-- The commands of R109 with their operands (R110). Kernel commands name their target context first. -/
inductive Op where
  | nop
  | launch (l : LaunchP)
  | launchInd (addr : Nat)
  | launchPersist (task : Nat) (l : LaunchP) (ring wick log2 : Nat)
  | stopPersist (all : Bool) (task : Nat)
  | copy (src dst len srcSpace dstSpace srcEng dstEng : Nat)
  | fill (dst pattern len width space eng : Nat)
  | atomic (aop addr a b result : Nat)
  | prefetch (addr len : Nat)
  | advise (advice addr len : Nat)
  | wait
  | signal
  | signalRemote (qdoor : Bool) (value chip dest : Nat)
  | timestamp (addr : Nat)
  | cadenceWait (target : Nat)
  | mark (buf value : Nat)
  | watch (mode desc result : Nat)
  | map (m : MapP)
  | unmap (ctx va : Nat)
  | invRange (ctx va len : Nat)
  | queueCreate (p : QCreate)
  | queueDestroy (ctx qidx : Nat) (abort : Bool)
  | harnessGrow (h cores units home : Nat) (rt : Bool)
  | harnessShrink (h cores units : Nat)
  | listLoad (ctx list addr len : Nat)
  | listPatch (ctx list addr len : Nat) (inPlace : Bool)
  | listRetire (ctx list : Nat)
  | wickAlloc (ctx vid init : Nat)
  | wickFree (ctx vid : Nat)
  | wickExport (ctx vid result : Nat)
  | ctxSave (ctx addr len : Nat)
  | ctxRestore (ctx addr len : Nat)
  | frameSupply (pool addr count : Nat)
deriving DecidableEq, Repr

/-- A tensor descriptor as R220 lays it out. -/
structure Desc where
  base : Nat := 0
  space : Nat := 0
  rankM1 : Nat := 0
  format : Nat := 0
  valid : Bool := false
  variant_ : Bool := false
  resv : Nat := 0
  ext : List Nat := []
  stride : List Nat := []
  scaleBase : Nat := 0
deriving DecidableEq, Repr

/-- Where a fetched command stands: validated and not dispatched; dispatched to its unit (R144); in a harness wait list
(R170); running; or ended with a status of R132 and waiting for its completion step (R23). -/
inductive Phase where
  | ready | decided | placing | running | ended (status : Nat)
deriving DecidableEq, Repr

/-- A command that QFE holds fetched and not completed (R98): what R102 to R110 encode, and what it holds while it runs:
pins (R63), a version (R216), descriptors (R226), a deadline (R161), engines, its stall budget (R136). `cancel` is the
status it takes once its engines have drained; `left` counts invocations its engines have still to end, per engine;
`budget` counts ZCLK cycles since the last progress, `beats` the advances of the progress counter since the command started;
`started` says that its PROF_START is due no more (R442); `record` holds the words of an indirect record once read (R133); `posted`
says that STATUS is written and its signals are with the Wick Engine, some of them held by the pacing of a step (R23, R33); `startRec`
is its PROF_START record (R443). -/
structure Cmd where
  q : Nat := 0
  i : Nat := 0
  slots : Nat := 1
  ctx : Nat := 0
  qidx : Nat := 0
  opcode : Nat := 0
  op : Op := .nop
  waits : List WaitEnt := []
  sigs : List SigEnt := []
  stallUs : Nat := 0
  errEvt : Bool := false
  barrier : Bool := false
  prof : Bool := false
  phase : Phase := .ready
  pins : List Nat := []
  version : Option (Nat × Nat) := none
  deadline : Option Nat := none
  ind : Option LaunchP := none
  descs : List (Nat × Desc) := []
  engs : List Nat := []
  left : List (Nat × Nat) := []
  cancel : Option Nat := none
  budget : Nat := 0
  beats : Nat := 0
  stalled : Bool := false
  stalls : Nat := 0
  started : Bool := false
  valTime : Nat := 0
  placeCycles : Nat := 0
  faultCycles : Nat := 0
  faults : Nat := 0
  bp : Option Nat := none
  sample : Nat := 0
  record : List Nat := []
  posted : Bool := false
  startRec : Option (BitVec 256) := none
deriving DecidableEq, Repr

/-! ### Harnesses, engines and tasks -/

inductive HState where
  | free | active | reset
deriving DecidableEq, Repr

/-- A harness (R58, R168, R170, R176, R319, R320). `cores` and `units` are in placement order. -/
structure Harness where
  st : HState := .free
  rt : Bool := false
  home : Nat := 0
  cores : List Nat := []
  units : List Nat := []
  waiting : List (Nat × Nat) := []
  lastBoundary : Option Nat := none
  commitEn : Bool := false
  commitCtx : Nat := 0
  commitVid : Nat := 0
  pacedCycles : Nat := 0
deriving DecidableEq, Repr

/-- What holds an engine. -/
inductive EngUse where
  | free
  | cmd (q i : Nat)
  | task (ctx id : Nat)
deriving DecidableEq, Repr

/-- A stitch of a stream: header and slot words by slot number (R190 to R192). -/
structure Stitch where
  hdr : Nat
  slots : List (Option Nat)
deriving DecidableEq, Repr

/-- A record in an engine's input queue (R206): the invocation and the stitch index it belongs to, the copies still to run (R193)
and the stitch. -/
structure QStitch where
  inv : Nat
  idx : Nat
  copies : Nat
  st : Stitch
deriving DecidableEq, Repr

/-- What the Stitch Streamer delivers for a placed launch or a bound task's item (R206): its work and version, the invocation and
the stitch that it delivers next, the byte at which that stitch begins, the invocations in all, and whether the breakpoint at that
stitch has been passed (R456). -/
structure Lane where
  who : Work
  ctx : Nat := 0
  listId : Nat := 0
  epoch : Nat := 0
  reps : Nat := 0
  inv : Nat := 0
  pos : Nat := 0
  off : Nat := 0
  past : Bool := false
deriving DecidableEq, Repr

/-- An engine as HAL, the power interface and ZTU keep it: service state (R424, R536), light (R187), clock gate (R245),
drain (R138, R401; `quiet` once drained with work still held), use, the clear of R303, the stamp of R422, its position and wake wire (R168, R245), a SYNC WAIT in
progress (R202), its argument words (R203), its translation buffer (R277), its input queue (R206; `synced` says that the SYNC slot of the first
record has acted, `starved` that the wait on an empty queue is counted) and the index of the stitch last delivered and retired. -/
structure Engine where
  lit : Bool := false
  gated : Bool := false
  draining : Bool := false
  drainCycles : Nat := 0
  quiet : Bool := false
  harness : Option Nat := none
  use : EngUse := .free
  lastCtx : Option Nat := none
  needClear : Bool := false
  clearing : Bool := false
  stamp : Nat := 1
  pos : Nat := 0
  wickWait : Option (Nat × Nat) := none
  waitCycles : Nat := 0
  waking : Bool := false
  retiring : Bool := false
  inv : Nat := 0
  args : List W64 := []
  tlb : List (Nat × Nat) := []
  inq : List QStitch := []
  synced : Bool := false
  starved : Bool := false
  delivered : Nat := 0
  retired : Nat := 0
deriving DecidableEq, Repr

/-- The item in hand of a task (R179). -/
structure Item where
  idx : Nat := 0
  reps : Nat := 0
  argAddr : Nat := 0
  argLen : Nat := 0
  sigValue : Nat := 0
  sigCtl : Nat := 0
  left : List (Nat × Nat) := []
  cancel : Option Nat := none
  ended : Option Nat := none
deriving DecidableEq, Repr

/-- A persistent task (R177 to R184). `stopAt` holds the item limit of a waiting STOP_PERSIST, `stops` its commands. -/
structure Task where
  ctx : Nat := 0
  id : Nat := 0
  listId : Nat := 0
  epoch : Nat := 0
  ring : Nat := 0
  log2 : Nat := 12
  wick : Nat := 0
  next : Nat := 0
  item : Option Item := none
  halted : Bool := false
  stopAt : Option Nat := none
  stops : List (Nat × Nat) := []
  engs : List Nat := []
  pins : List Nat := []
  descs : List (Nat × Desc) := []
  stallUs : Nat := 0
  budget : Nat := 0
  stalled : Bool := false
  stalls : Nat := 0
  unbinding : Bool := false
  bp : Option Nat := none
deriving DecidableEq, Repr

/-- A group of engines waiting to be lit (R187) or woken (R189), in the order of the groups. -/
structure PGroup where
  wake : Bool := false
  engs : List Nat := []
  granted : Bool := false
  asked : Nat := 0
  waited : Bool := false
deriving DecidableEq, Repr

/-! ### Wicks -/

/-- A physical wick slot (R230, R239). -/
structure Slot where
  value : Nat := 0
  alloc : Bool := false
  snuffed : Bool := false
  sat : Bool := false
  exported : Bool := false
  window : Bool := false
  gen : Nat := 0
  everExported : Bool := false
  withdrawn : Bool := false
  owner : Option (Nat × Nat) := none
  spareRow : Option Nat := none
deriving DecidableEq, Repr

/-- A virtual ID (R237); the rights of an import are bit 2 ADD, bit 1 SETMAX, bit 0 WAIT (R256). -/
inductive Vid where
  | free
  | owned (slot : Nat)
  | imported (slot rights : Nat)
deriving DecidableEq, Repr

/-- Who a waiter record wakes (R241). -/
inductive WaitFor where
  | cmd (q i k : Nat)
  | engine (e : Nat)
  | task (ctx id : Nat)
deriving DecidableEq, Repr

/-- A waiter record (R241, R243). -/
structure Waiter where
  slot : Nat
  value : Nat
  gt : Bool
  who : WaitFor
deriving DecidableEq, Repr

/-- A bound record (R246). -/
structure Bound where
  ctx : Nat := 0
  prod : Nat := 0
  cons : Nat := 0
  limit : Nat := 0
  en : Bool := false
  overrun : Bool := false
  underrun : Bool := false
  prodSlot : Nat := 0
  consSlot : Nat := 0
deriving DecidableEq, Repr

/-- A signal that the pacing of a commit wick holds (R320); `win` marks a window write, `who` names the command whose completion
waits for it (R23). -/
structure HeldSig where
  h : Nat
  slot : Nat
  setmax : Bool
  value : Nat
  win : Bool := false
  who : Option (Nat × Nat) := none
deriving DecidableEq, Repr

/-! ### Stitch lists -/

/-- How a list names a descriptor handle (R212). -/
structure HandleUse where
  handle : Nat
  core : Bool := false
  unit : Bool := false
  fmt : Option Nat := none
  rd : Bool := false
  wr : Bool := false
deriving DecidableEq, Repr

/-- The summary of a version (R212), and whether its stream holds a stitch for either engine kind (R205). -/
structure Summary where
  coreMask : Nat := 0
  unitMask : Nat := 0
  handles : List HandleUse := []
  wicks : List Nat := []
  routed : List (List Nat) := []
  anyCore : Bool := false
  anyUnit : Bool := false
deriving DecidableEq, Repr

/-- A version that is not FREED (R70); a FREED one has no entry. -/
inductive VerState where
  | loading | current | superseded
deriving DecidableEq, Repr

/-- A stitch-list version (R70, R213, R218). -/
structure Version where
  ctx : Nat := 0
  listId : Nat := 0
  epoch : Nat := 0
  st : VerState := .loading
  stream : List Byte := []
  sum : Summary := {}
  broken : Bool := false
  inPlace : Bool := false
deriving DecidableEq, Repr

/-! ### Translation -/

/-- A page record (R276); DEVICE names its frame and the pool it came from. -/
inductive PageSt where
  | host | migrating | device (frame pool : Nat)
deriving DecidableEq, Repr

/-- A mapping (R62, R273) with its pins (R63; `noPins` counts the commands that stop new ones, R65), the table frame of its record, its page records by 64 KiB page number of the mapping (R276), the ranges
that registers invalidated (R298) and the bursts frozen by poison (R66). -/
structure Mapping where
  id : Nat := 0
  ctx : Nat := 0
  va : Nat := 0
  len : Nat := 0
  rd : Bool := false
  wr : Bool := false
  at_ : Bool := false
  sharedRo : Bool := false
  golden : Nat := 0
  goldenAddr : Nat := 0
  backed : Bool := false
  backing : Nat := 0
  pins : Nat := 0
  noPins : Nat := 0
  recFrame : Nat := 0
  invalid : List (Nat × Nat) := []
  frozen : List Nat := []
  pages : Tab PageSt := []
deriving DecidableEq, Repr

/-- A boot-map entry (R271). -/
structure BootEnt where
  valid : Bool := false
  host : Bool := false
  wr : Bool := false
  rd : Bool := false
  vpn : Nat := 0
  ppn : Nat := 0
deriving DecidableEq, Repr

/-- An ATS-cache entry (R277): a host translation of 2^log2 bytes. -/
structure AtsEnt where
  pasid : Nat
  va : Nat
  log2 : Nat
  pa : Nat
  rd : Bool
  wr : Bool
deriving DecidableEq, Repr

/-- Who waits for a translation: an engine, a block agent for a command, QFE for a ring, a task for its item ring, the writer of
the frame completion ring. -/
inductive Asker where
  | engine (e : Nat)
  | cmd (q i : Nat)
  | queue (q : Nat)
  | task (ctx id : Nat)
  | frameRing
deriving DecidableEq, Repr

/-- A walk (R278) and the agent whose miss it serves; none for a block agent. -/
structure Walk where
  walker : Option Nat
  mapId : Nat
  page : Nat
  who : Option Asker := none
deriving DecidableEq, Repr

/-- An ATS Translation Request that is outstanding (R280): PASID, page of 2^log2 bytes and who waits for it. -/
structure AtsAsk where
  pasid : Nat
  va : Nat
  log2 : Nat := 12
  who : List Asker := []
deriving DecidableEq, Repr

/-- How far a fault has come (R282, R284, R285, R291). A source is the list of its host addresses, one for each 4 KiB; a
page request that waits for the host's allocation (R269) is not sent. -/
inductive FaultStage where
  | needAts
  | needPri (sent : Bool)
  | needFrame (src : List Nat)
  | ready (src : List Nat) (frame pool : Nat)
  | copying (src : List Nat) (frame pool : Nat)
  | needEntry (frame pool : Nat)
deriving DecidableEq, Repr

/-- A fault entry (R281): its key, the address of the access that made it, class (0 fault, 1 PREFETCH, 2 WILL_NEED; R284), waiters
and progress; `pools` is the order of R283, `near` the stacks that are near to the faulting agent (R308), none where all are. -/
structure FaultEnt where
  ctx : Nat
  page : Nat
  va : Nat := 0
  near : Option Nat := none
  write : Bool := false
  cls : Nat := 0
  waiters : List Asker := []
  pools : List Nat := []
  stage : FaultStage := .needAts
  noted : Bool := false
deriving DecidableEq, Repr

/-- The background work of an ADVISE WILL_NEED (R293): the pages still to end, and the pins held until they have. -/
structure Advice where
  ctx : Nat
  pages : List Nat
  pins : List Nat
deriving DecidableEq, Repr

/-- A frame that holds range tables (R276): mapping records of a context, or the page records of one mapping. -/
structure TabFrame where
  frame : Nat
  pool : Nat
  ctx : Nat
  map : Option Nat := none
  live : Nat := 0
deriving DecidableEq, Repr

/-- A frame completion entry that waits to be written (R289, R291); `own` is the mapping whose operation waits with it. -/
structure FcrEnt where
  frame : Nat
  typ : Nat
  pool : Nat
  va : Nat
  ctx : Nat
  own : Nat
deriving DecidableEq, Repr

/-- A host ATS invalidation in progress (R297). -/
structure AtsInv where
  tag : Nat
  pasid : Nat
  va : Nat
  len : Nat
deriving DecidableEq, Repr

/-! ### The cadence and the Lamplighter -/

/-- The Cadence Unit (R151 to R158). `clk` counts the ZCLK cycles that the unit sees, those of a global stop included (R448);
`cyc` those since the last frame edge. `sel` is the CAD_SRC in force and `src` the SOURCE in use. `edges` holds the CAD_IN
edges of an attempt to lock and `intervals` those accepted under the current lock, newest first; `relay` the last two relay
messages (frame, fabric ns), newest first; `due` says that a frame edge has come that the count has not taken; `pinAt` is
the last edge that R528's debounce accepted. -/
structure Cadence where
  started : Bool := false
  sel : Nat := 2
  src : Nat := 0
  frames : Nat := 0
  cyc : Nat := 0
  floor : Nat := 0
  clk : Nat := 0
  locked : Bool := false
  edges : List Nat := []
  intervals : List Nat := []
  lastEdge : Nat := 0
  due : Bool := false
  measured : Bool := false
  relay : List (Nat × Nat) := []
  relayAt : Nat := 0
  srcPend : Bool := false
  pinAt : Option Nat := none
deriving DecidableEq, Repr

/-- The Lamplighter's arbitration and occupancy (R148 to R150, R185, R186) and its dispatch pause (R349, R493). DESIGN CHOICE (log entry
110): before any decision of a class, the queue last served is taken to be 4,095, so that queue 0 comes first (R149). -/
structure Lamplighter where
  nrt : Nat := 0
  nhi : Nat := 0
  lastKq : Nat := 4095
  lastUq : Nat := 4095
  busy : Nat := 0
  winCycles : Nat := 0
deriving DecidableEq, Repr

/-- A Lamplighter core as R486 and R487 give it. -/
structure MicroCore where
  w : Tab W32 := []
  z : Bool := false
  n : Bool := false
  c : Bool := false
  pc : Nat := 0
  stack : List Nat := []
  failed : Bool := false
deriving DecidableEq, Repr

/-- What holds MC_STS.BUSY (R490, R491, R493). -/
inductive McBusy where
  | idle
  | verify (core : Nat)
  | handover (core : Nat)
  | copy (left : Nat)
deriving DecidableEq, Repr

/-- The MC page's own state (R489 to R496). -/
structure Microcode where
  verified : List Nat := []
  active : Nat := 0
  busy : McBusy := .idle
  sig : List Byte := []
  crc : Tab Nat := []
  noSpare : Bool := false
deriving DecidableEq, Repr

/-! ### Events -/

/-- An event record (R510). -/
structure EvRec where
  time : Nat
  typ : Nat
  inst : Nat
  bit : Nat
  inj : Bool
  ctx : Nat
  d0 : Nat
  d1 : Nat
deriving DecidableEq, Repr

/-- The HIU's event path (R507 to R509): two FIFOs, messages sent (oldest first), pages whose next message waits for the
spacing, and the time of each page's last message. -/
structure Hiu where
  fifoA : List EvRec := []
  fifoB : List EvRec := []
  lostA : Nat := 0
  lostB : Nat := 0
  sent : List Nat := []
  pend : List Nat := []
  last : Tab Nat := []
deriving DecidableEq, Repr

/-! ### Credit Ledger -/

/-- The ledger's own 64-bit terms (R323) and the time of its last closing (R325). -/
structure Ledger where
  issued : Nat := 0
  applied : Nat := 0
  equal : Nat := 0
  stale : Nat := 0
  snuff : Nat := 0
  win : Nat := 0
  remote : Nat := 0
  engines : Tab Nat := []
  supplied : Tab Nat := []
  returned : Tab Nat := []
  retired : Tab Nat := []
  last : Option Nat := none
deriving DecidableEq, Repr

/-! ### Control coherence domain -/

/-- The state of a line in an agent's cache (R341). -/
inductive LineSt where
  | s | l | e | m
deriving DecidableEq, Repr

/-- A line held by an agent. -/
structure CLine where
  agent : Nat
  line : Nat
  st : LineSt
  data : BitVec 512
deriving DecidableEq, Repr

/-- The directory state of a line. -/
inductive DirSt where
  | s | l | e | m
deriving DecidableEq, Repr

/-- A directory entry (R337) in a way of its set: sharers by ID up to 4, then a coarse vector of groups of 8 IDs. -/
structure DirEnt where
  line : Nat
  way : Nat := 0
  st : DirSt
  lead : Nat := 0
  sharers : List Nat := []
  coarse : Bool := false
deriving DecidableEq, Repr

/-- Messages of the domain (R344). -/
inductive MsgKind where
  | rdS | rdM | rdNa | wrT | wrNc | evict | wb
  | snpFwd | snpInv | snpBinv | snpWb
  | ackInv | ackFwd | cmp | data
deriving DecidableEq, Repr

/-- A message in flight: to or from an agent, about a line; `req` is the requester a forward serves, `grant` the state
that DATA grants (none for RD_NA); `crossed` marks the CMP of an EVICT or WB that crossed a snoop. -/
structure Msg where
  kind : MsgKind
  agent : Nat
  line : Nat
  req : Nat := 0
  grant : Option LineSt := none
  crossed : Bool := false
  data : BitVec 512 := 0
  mask : BitVec 64 := 0
deriving DecidableEq, Repr

/-- A transaction of a home slice (R338): its request (`snpBinv` for a back-invalidation of R339), the agents whose answers
it awaits, whether its DATA or CMP has been sent and taken, and how long it has waited. -/
structure Txn where
  line : Nat
  kind : MsgKind
  agent : Nat
  data : BitVec 512 := 0
  mask : BitVec 64 := 0
  await : List Nat := []
  out : Bool := false
  taken : Bool := false
  age : Nat := 0
deriving DecidableEq, Repr

/-- A write in an agent's write buffer (R343). -/
structure WBuf where
  agent : Nat
  line : Nat
  nc : Bool
  data : BitVec 512
  mask : BitVec 64
deriving DecidableEq, Repr

/-- How far a rebuild has come (R350). -/
inductive Rebuild where
  | up | rollCall | replay
deriving DecidableEq, Repr

/-- A journal entry beyond the checkpoint (R351): its sequence number, and the record lines that it changes, as far as they have been
written through: line, its full new value, and whether that write has received CMP. -/
structure JEntry where
  seq : Nat
  recs : List (Nat × BitVec 512 × Bool) := []
deriving DecidableEq, Repr

/-- The control coherence domain (R332 to R352). `queue` holds requests that wait for their line, in order of arrival; `journal` and
`checkpoint` are the sequence numbers of the last entry and of the last one that the checkpoint has passed, `entries` those between
(R351). -/
structure Coherence where
  dir : List DirEnt := []
  caches : List CLine := []
  wbuf : List WBuf := []
  msgs : List Msg := []
  txns : List Txn := []
  queue : List Msg := []
  fenced : List Nat := []
  phase : Rebuild := .up
  phaseCycles : Nat := 0
  downCycles : Nat := 0
  restarts : Nat := 0
  journal : Nat := 0
  checkpoint : Nat := 0
  entries : List JEntry := []
deriving DecidableEq, Repr

/-! ### Rein -/

/-- R367. -/
inductive PtState where
  | off | train | ident | quarantine | run | isolated
deriving DecidableEq, Repr

/-- A Rein port (R354 to R395). Lists over classes run from class 0. `uncovered` is the replay buffer, `txq` the frames that
wait for a credit, both oldest first; `out` the frames handed to the transmitter, newest last; `rxHeld` accepted frames that
the receive buffers hold during a stop or an L3 (R377, R448). `authAsked` is AUTHING, `authing` says that the security block
has accepted the session. `tokens` counts tokens × ZCLK cycles of a ms, none before a bucket is first used, when it is full;
`rl` holds RATE and BURST. Counts of cycles: since the state was entered, since ACK progress, of a wait for credit of each
class, since the last CREDIT, since the first unreported consumption, since the last IDENT or HEARTBEAT sent, since the last
HEARTBEAT received, since the last AUTH frame, since the last exchange. `ts2Sent` counts the TS2 sent in this training; `codeErrs`
holds, for each receive lane, the times of its code-group errors of the last ms (R378); `syncLeft` is T1 of the last SYNC; `lateErrs`
are the ERR events that ERR_LATE has counted. -/
structure RPort where
  st : PtState := .off
  sigA : Bool := false
  sigB : Bool := false
  wellA : Bool := false
  wellB : Bool := false
  rxSpare : Bool := false
  txSpare : Bool := false
  ts1Run : List Nat := [0, 0]
  ts2Run : Nat := 0
  ts2Sent : Nat := 0
  codeErrs : List (List Nat) := [[], []]
  fails : Nat := 0
  stCycles : Nat := 0
  peerSeen : Bool := false
  nextSeq : Nat := 0
  expSeq : Nat := 0
  ackedTo : Option Nat := none
  nakFor : Option Nat := none
  uncovered : List Frame := []
  rxHeld : List Frame := []
  txq : List Frame := []
  out : List Frame := []
  replays : Nat := 0
  ackCycles : Nat := 0
  allot : List Nat := [0, 0, 0, 0, 0, 0]
  sent : List Nat := [0, 0, 0, 0, 0, 0]
  reported : List Nat := [0, 0, 0, 0, 0, 0]
  consumed : List Nat := [0, 0, 0, 0, 0, 0]
  toldCons : List Nat := [0, 0, 0, 0, 0, 0]
  stallCycles : List Nat := [0, 0, 0, 0, 0, 0]
  creditCycles : Nat := 0
  unrepCycles : Nat := 0
  tokens : List Nat := []
  hbGood : Nat := 0
  hbCycles : Nat := 0
  hbLast : Nat := 0
  hbSent : Nat := 0
  authing : Bool := false
  authAsked : Bool := false
  authHeld : List (BitVec 192) := []
  authCycles : Nat := 0
  peerDone : Bool := false
  selfPass : Bool := false
  mgRx : List (BitVec 192) := []
  mgBusy : Bool := false
  cinq : List (BitVec 192) := []
  exch : Nat := 0
  exchCycles : Nat := 0
  t1 : Nat := 0
  t2 : Nat := 0
  t3 : Nat := 0
  exchOk : Bool := false
  syncLeft : Nat := 0
  lateErrs : List (BitVec 192) := []
  delays : List Int := []
  lastGood : Nat := 0
  ackSent : Nat := 0
  dropTimes : Tab (List Nat) := []
  goodRun : Nat := 0
  skip : Nat := 0
  peerDepth : Nat := 15
  rl : List (Nat × Nat) := [(64, 8), (1000, 48), (200, 4), (16, 2), (2000, 64), (500, 16), (0, 0), (2000, 32)]
deriving DecidableEq, Repr

/-- The Rein time client (R388, R390): the chip's depth, whether the first kept exchange after gaining the master has come, the
lock, the rate correction in parts per 10^9, and for how many ninths of a ns the fabric time still holds; `started`
says that initialisation has ended since the reset. -/
structure TimeSync where
  depth : Option Nat := none
  gained : Bool := false
  locked : Bool := false
  ppb : Int := 0
  hold : Nat := 0
  started : Bool := false
deriving DecidableEq, Repr

/-- An ERR event taken (R383) and when (R413). -/
structure ErrSeen where
  origin : Nat
  inc : Nat
  no : Nat
  age : Nat := 0
deriving DecidableEq, Repr

/-! ### Recovery and spares -/

/-- A recovery order in progress (R404, R405): level, target coded as RC_ORDER [12:0], cycles since it was accepted, and
whether it has reset what it resets. -/
structure Order where
  level : Nat
  target : Nat
  cycles : Nat := 0
  result : Nat := 0
  acted : Bool := true
  subsumed : Bool := false
deriving DecidableEq, Repr

/-- The L4 sequence (R408): AONCLK-side timing in ZCLK-equivalent cycles since PWRCYC_REQ, and what has arrived. -/
structure PwrSeq where
  cycles : Nat := 0
  ack : Bool := false
  rdout : Bool := false
deriving DecidableEq, Repr

/-- A poisoned burst of stack DRAM (R415); `dead` says that its golden copy cannot repair it (R416). -/
structure Poison where
  addr : Nat
  dead : Bool := false
deriving DecidableEq, Repr

/-- Engine work stopped because it consumed poison that a golden copy repairs (R417). -/
structure RetryStop where
  ctx : Nat
  h : Nat
deriving DecidableEq, Repr

/-- A byte written by a stack unit in the current step (R321): the harness, the context, the device address and what the
byte held before. -/
structure HeldWrite where
  h : Nat
  ctx : Nat
  addr : Nat
  old : Byte
deriving DecidableEq, Repr

/-- Wear of one instance (R424, R427): STATE as SM_WEAR shows it, counts, and the times of the correctable errors in the
window. -/
structure Wear where
  st : Nat := 0
  ue : Nat := 0
  ce : Nat := 0
  recent : List Nat := []
deriving DecidableEq, Repr

/-! ### Observation -/

/-- A trace buffer (R434 to R440). `recs` holds records as 256-bit values, oldest first, `times` the ZCLK cycle at which each was
taken. -/
structure TraceBuf where
  en : Bool := false
  fault : Bool := false
  filt : Bool := false
  ctx : Nat := 0
  decision : Bool := false
  profile : Bool := false
  base : Nat := 0
  log2 : Nat := 0
  tail : Nat := 0
  head : Nat := 0
  recs : List (BitVec 256) := []
  dropped : Nat := 0
  lost : Nat := 0
  times : List Nat := []
deriving DecidableEq, Repr

/-- A breakpoint record (R454). -/
structure Breakpoint where
  ctx : Nat := 0
  listId : Nat := 0
  epoch : Nat := 0
  at_ : Nat := 0
  en : Bool := false
  hit : Bool := false
  stop : Bool := false
deriving DecidableEq, Repr

/-- An access error that waits to be recorded: the page, the path, the offset, the type code and the context (R511). -/
structure LateErr where
  pg : Nat
  path : Nat
  off : Nat
  typ : Nat
  ctx : Nat
deriving DecidableEq, Repr

/-- The global stop (R447 to R452). `lost` holds the ports that went down during it and `errs` the reads that are access errors of
frozen pages: their events arise after release (R511). -/
structure Stop where
  stopped : Bool := false
  cause : Nat := 0
  at_ : Nat := 0
  image : List Nat := []
  heldOrders : List W32 := []
  lost : List Nat := []
  errs : List LateErr := []
deriving DecidableEq, Repr

/-- Queue occupancy samples (R433), one entry for KQ, UQ, RT and all classes. -/
structure Occupancy where
  now : List Nat := [0, 0, 0, 0]
  peak : List Nat := [0, 0, 0, 0]
  int : List Nat := [0, 0, 0, 0]
deriving DecidableEq, Repr

/-- The Cinder log (R457 to R463). `post` counts the records still to be written before a freeze; `window` holds, for each
TYPE, the times by `aonClk` of the records written in the last ms. -/
structure Cinder where
  log : Tab (BitVec 128) := []
  post : Option Nat := none
  window : Tab (List Nat) := []
deriving DecidableEq, Repr

/-- A remote signal handed to the fabric (R117, R516), ordered behind the data it announces. -/
structure FabricSig where
  chip : Nat
  qdoor : Bool
  dest : Nat
  value : Nat
deriving DecidableEq, Repr

/-! ### The whole block -/

/-- Everything but the queue of waiting commands. `l3Done` says that an L3 has reset the core domain and LOAD is to come;
`swapping` holds walkers that leave service once they are idle, `retireReq` the KIND and INSTANCE of the retirement that
SM_RETIRE runs (R424, R430). `zclk` counts ZCLK cycles but those of a global stop, `aonClk` the same time in the always-on
domain, which nothing holds (R448). -/
structure Block where
  straps : Straps := {}
  pins : Pins := {}
  st : BlockState := .power
  roleSet : Bool := false
  chipId : Nat := 0
  zclk : Nat := 0
  aonClk : Nat := 0
  fabric : Nat := 0
  freeCount : Nat := 0
  readData : W64 := 0
  regs : Tab W32 := []
  staged : Tab (Nat × W32) := []
  nowLatch : Tab W32 := []
  sems : Tab Nat := []
  hiu : Hiu := {}
  armed : Tab Nat := []
  capt : List W64 := []
  tableGen : Nat := 0
  ctxs : Tab Ctx := []
  queues : Tab HwQueue := []
  cmds : List Cmd := []
  harnesses : Tab Harness := []
  engines : Tab Engine := []
  tasks : List Task := []
  lanes : List Lane := []
  groups : List PGroup := []
  lastLight : Nat := 0
  lastWake : Nat := 0
  dev : Tab Byte := []
  host : Tab Byte := []
  spm : Tab Byte := []
  ssc : Tab Byte := []
  chanOk : List Nat := []
  capMb : List Nat := []
  layChan : List Nat := []
  layMb : List Nat := []
  slots : Tab Slot := []
  vids : Tab Vid := []
  waiters : List Waiter := []
  waitHold : List Nat := []
  bounds : Tab Bound := []
  heldSigs : List HeldSig := []
  versions : List Version := []
  lastEpoch : Tab Nat := []
  retired : List Nat := []
  descHold : Nat := 0
  maps : List Mapping := []
  nextMap : Nat := 0
  boot : Tab BootEnt := []
  rangeCache : List (Nat × Nat) := []
  pageCache : List (Nat × Nat) := []
  atsCache : List AtsEnt := []
  atsAsked : List AtsAsk := []
  walks : List Walk := []
  faults : List FaultEnt := []
  faultWait : List FaultEnt := []
  advices : List Advice := []
  pools : Tab (List Nat) := []
  fcrBase : Nat := 0
  fcrWait : List FcrEnt := []
  fcrStuck : Bool := false
  fcrFull : Bool := false
  tabFrames : List TabFrame := []
  invBusy : Nat := 0
  impBusy : Nat := 0
  stallBusy : Nat := 0
  atsInvs : List AtsInv := []
  ledger : Ledger := {}
  cad : Cadence := {}
  ll : Lamplighter := {}
  micro : Tab MicroCore := []
  store : Tab (BitVec 48) := []
  mc : Microcode := {}
  coh : Coherence := {}
  ports : Tab RPort := []
  sync : TimeSync := {}
  seen : List ErrSeen := []
  linkNotes : List (Nat × Bool) := []
  order : Option Order := none
  l3Done : Bool := false
  pwr : Option PwrSeq := none
  wdCycles : Nat := 0
  poison : List Poison := []
  retry : List RetryStop := []
  held : List HeldWrite := []
  wear : Tab Wear := []
  swapping : List Nat := []
  retireReq : Option (Nat × Nat) := none
  stamps : Tab Nat := []
  trace : Tab TraceBuf := []
  bps : Tab Breakpoint := []
  stop : Stop := {}
  occ : Occupancy := {}
  cinder : Cinder := {}
  fpDest : Tab W32 := []
  fabricOut : List FabricSig := []
  secOut : List Byte := []
  cycFrac : Tab Nat := []
deriving DecidableEq, Repr

/-- The machine: the block and the queue of commands that wait, first in first out. -/
structure State where
  blk : Block := {}
  pending : List Instr := []
deriving DecidableEq, Repr

/-- The machine before its core rail is up (R477 "power-on"): every register at its reset value, every table empty, the
core domain held in reset (R531). Log entries 4 to 8 name what the spec leaves open here. -/
def State.reset : State := { blk := {}, pending := [] }

/-- The block never stops with a fault: every row has its effect, and errors are statuses, events and records (R396).
This one reason is declared because the interface asks for a type; no meaning raises it (safe). -/
inductive Fault where
  | none_
deriving DecidableEq, Repr

/-- Why a command is refused. `notModelled` is raised by an arm of exec whose row has no meaning yet (safe). -/
inductive Refusal where
  | notModelled (mnemonic : String)
deriving DecidableEq, Repr

end Sys2Proof.Machine
end

