-- ==== Sys2Proof/Machine/Table.lean ====
section
/-!
DEFINITION. The operations of a sparse table: reading with a default, writing that keeps the canonical form (keys strictly
rising, no entry equal to the default), and runs of bytes in a memory.
-/
namespace Sys2Proof.Machine

/-- What key `k` holds; an unlisted key reads as `d k`. -/
def Tab.get {α : Type} (d : Nat → α) : Tab α → Nat → α
  | [], k => d k
  | (a, v) :: t, k => if a = k then v else Tab.get d t k

/-- `m` without key `k`. -/
def Tab.del {α : Type} : Tab α → Nat → Tab α
  | [], _ => []
  | (a, v) :: t, k => if a = k then Tab.del t k else (a, v) :: Tab.del t k

/-- `m` with `v` at key `k`, in its place. -/
def Tab.put {α : Type} : Tab α → Nat → α → Tab α
  | [], k, v => [(k, v)]
  | (a, w) :: t, k, v =>
    if k < a then (k, v) :: (a, w) :: t
    else if k = a then (k, v) :: t
    else (a, w) :: Tab.put t k v

/-- `m` with key `k` reading as `v`: the entry goes when `v` is what an unlisted key reads as. -/
def Tab.set {α : Type} [DecidableEq α] (d : Nat → α) (m : Tab α) (k : Nat) (v : α) : Tab α :=
  if v = d k then Tab.del m k else Tab.put m k v

/-- Keys strictly rising from `lo`. -/
def Tab.sortedFrom {α : Type} : Nat → Tab α → Bool
  | _, [] => true
  | lo, (a, _) :: t => decide (lo ≤ a) && Tab.sortedFrom (a + 1) t

/-- No entry equal to the default. -/
def Tab.lean {α : Type} [DecidableEq α] (d : Nat → α) : Tab α → Bool
  | [] => true
  | (a, v) :: t => decide (v ≠ d a) && Tab.lean d t

/-- The canonical form of a table. -/
def Tab.wf {α : Type} [DecidableEq α] (d : Nat → α) (m : Tab α) : Bool :=
  Tab.sortedFrom 0 m && Tab.lean d m

/-- What a byte of memory that nothing has written reads as (log entry 5, DESIGN CHOICE, unsafe). -/
def memDefault (_ : Nat) : Byte := 0

/-- One byte of a memory. -/
def Memory.byte (m : Tab Byte) (a : Nat) : Byte := Tab.get memDefault m a

/-- The canonical form of a memory. -/
def Memory.wf (m : Tab Byte) : Bool := Tab.wf memDefault m

/-- `n` bytes from `a`. -/
def Memory.read (m : Tab Byte) : Nat → Nat → List Byte
  | _, 0 => []
  | a, n + 1 => Memory.byte m a :: Memory.read m (a + 1) n

/-- `m` with `bs` written from `a` upwards. -/
def Memory.write (m : Tab Byte) : Nat → List Byte → Tab Byte
  | _, [] => m
  | a, b :: t => Memory.write (Tab.set memDefault m a b) (a + 1) t

/-- A little-endian number of `n` bytes at `a` (R11). -/
def Memory.num (m : Tab Byte) (a n : Nat) : Nat := ofLeBytes (Memory.read m a n)

/-- `f` applied to each element that satisfies `p`. -/
def mapIf {α : Type} (p : α → Bool) (f : α → α) (l : List α) : List α := l.map fun x => if p x then f x else x

/-- `l` without its repeats, first occurrences kept. -/
def dedup {α : Type} [DecidableEq α] (l : List α) : List α :=
  l.foldl (fun acc x => if acc.contains x then acc else acc ++ [x]) []

/-- `l` in rising order of `key` (insertion, stable). -/
def insertBy {α : Type} (key : α → Nat) (x : α) : List α → List α
  | [] => [x]
  | y :: t => if key x < key y then x :: y :: t else y :: insertBy key x t

def sortBy {α : Type} (key : α → Nat) (l : List α) : List α := l.foldl (fun acc x => insertBy key x acc) []

/-- The least element that satisfies `p` among `lo .. lo + n - 1`. -/
def firstNat (p : Nat → Bool) : Nat → Nat → Option Nat
  | _, 0 => none
  | lo, n + 1 => if p lo then some lo else firstNat p (lo + 1) n

/-- The sum of `f` over `l`. -/
def sumBy {α : Type} (f : α → Nat) (l : List α) : Nat := l.foldl (fun acc x => acc + f x) 0

/-- `l` with its `k`-th element put through `f`. -/
def modAt {α : Type} (f : α → α) : Nat → List α → List α
  | _, [] => []
  | 0, x :: t => f x :: t
  | k + 1, x :: t => x :: modAt f k t

end Sys2Proof.Machine
end

