-- ==== Sys2Proof/Machine/Regs.lean ====
section
/-!
DEFINITION. The register map (R497 to R503, R537 and the register tables of every chapter): for each register its offset
in the window, the bits that each access code of R15 governs, whether R166 gates its writes, and its reset value. The
rows follow the spec's tables. Rein port pages share the rows of port 0.
-/
namespace Sys2Proof.Machine

/-- One register: window offset, masks of its RW, W1C and RC bits, whether a write needs the page's semaphore (R166), and
its reset value. -/
structure RegInfo where
  off : Nat
  rw : Nat
  w1c : Nat
  rc : Nat
  gated : Bool
  reset : Nat
deriving DecidableEq, Repr

namespace Reg

abbrev PG_ID : Nat := 0x0
abbrev PG_CAP : Nat := 0x4
abbrev PG_CTL : Nat := 0x8
abbrev PG_STS : Nat := 0xC
abbrev PG_ERR : Nat := 0x10
abbrev PG_ERR_EN : Nat := 0x14
abbrev PG_ERR_FIRST : Nat := 0x18
abbrev PG_ERR_INJ : Nat := 0x1C
abbrev PG_SEM : Nat := 0x20
abbrev PG_EPOCH : Nat := 0x24
abbrev PG_AON0 : Nat := 0x28
abbrev PG_AON1 : Nat := 0x2C
abbrev PG_AON2 : Nat := 0x30
abbrev PG_AON3 : Nat := 0x34
abbrev PG_AON4 : Nat := 0x38
abbrev PG_AON5 : Nat := 0x3C
abbrev GLB_CTL : Nat := 0x100
abbrev GLB_REFUSE : Nat := 0x104
abbrev GLB_ROLE : Nat := 0x108
abbrev GLB_WHOAMI : Nat := 0x10C
abbrev GLB_PORT_STS : Nat := 0x110
abbrev KQ0_BASE_LO : Nat := 0x120
abbrev KQ0_BASE_HI : Nat := 0x124
abbrev KQ0_CFG : Nat := 0x128
abbrev KQ0_STALL : Nat := 0x12C
abbrev SEM_BREAK : Nat := 0x1200
abbrev SEM_HELD_LO : Nat := 0x1204
abbrev SEM_HELD_HI : Nat := 0x1208
abbrev EV_DATA0 : Nat := 0x2100
abbrev EV_DATA1 : Nat := 0x2104
abbrev EV_DATA2 : Nat := 0x2108
abbrev EV_DATA3 : Nat := 0x210C
abbrev EV_DATA4 : Nat := 0x2110
abbrev EV_DATA5 : Nat := 0x2114
abbrev EV_DATA6 : Nat := 0x2118
abbrev EV_DATA7 : Nat := 0x211C
abbrev EV_STS : Nat := 0x2120
abbrev EV_CTL : Nat := 0x2124
abbrev MSIX_SIZE : Nat := 0x2128
abbrev QFE_INFLIGHT : Nat := 0x3100
abbrev QFE_QUEUES : Nat := 0x3104
abbrev QFE_DBREJ_TOTAL : Nat := 0x3108
abbrev MC_SEL : Nat := 0x5100
abbrev MC_ADDR : Nat := 0x5104
abbrev MC_DATA_LO : Nat := 0x5108
abbrev MC_DATA_HI : Nat := 0x510C
abbrev MC_SIG_DATA : Nat := 0x5110
abbrev MC_SIG_LEN : Nat := 0x5114
abbrev MC_CTL : Nat := 0x5118
abbrev MC_STS : Nat := 0x511C
abbrev MC_VERSION_LO : Nat := 0x5120
abbrev MC_VERSION_HI : Nat := 0x5124
abbrev LL_OCCUPANCY : Nat := 0x6100
abbrev LL_HOT : Nat := 0x6104
abbrev LL_COOL : Nat := 0x6108
abbrev LL_HOT_US : Nat := 0x610C
abbrev LL_DECISIONS_LO : Nat := 0x6110
abbrev LL_DECISIONS_HI : Nat := 0x6114
abbrev RTQ_SEL : Nat := 0x6120
abbrev RTQ_SPAN : Nat := 0x6124
abbrev RTQ_MISS : Nat := 0x6128
abbrev RTQ_DEFAULT_SPAN : Nat := 0x612C
abbrev RT_MISS_TOTAL : Nat := 0x6130
abbrev RT_RESERVE_CORES : Nat := 0x7100
abbrev RT_RESERVE_UNITS : Nat := 0x7104
abbrev LIGHT_CTL : Nat := 0x7108
abbrev WAKE_CTL : Nat := 0x710C
abbrev LIGHT_WAIT : Nat := 0x7110
abbrev H_SEL : Nat := 0x7120
abbrev H_INFO : Nat := 0x7124
abbrev H_HOME : Nat := 0x7128
abbrev H_STEP_PACED : Nat := 0x712C
abbrev CAD_CTL : Nat := 0x8100
abbrev CAD_STS : Nat := 0x8104
abbrev CAD_NOW_LO : Nat := 0x8108
abbrev CAD_NOW_HI : Nat := 0x810C
abbrev CAD_PERIOD : Nat := 0x8110
abbrev CAD_NOMINAL : Nat := 0x8114
abbrev CAD_DRIFT : Nat := 0x8118
abbrev CAD_EARLY : Nat := 0x811C
abbrev DT_SEL : Nat := 0x9100
abbrev DT_BASE_LO : Nat := 0x9104
abbrev DT_BASE_HI : Nat := 0x9108
abbrev DT_COUNT : Nat := 0x910C
abbrev SC_USED : Nat := 0x9110
abbrev SC_VERSIONS : Nat := 0x9114
abbrev SS_STARVE : Nat := 0x9118
abbrev DESC_WAIT : Nat := 0x911C
abbrev WK_CTL : Nat := 0xA100
abbrev WK_GATE_NS : Nat := 0xA104
abbrev WK_FREE_SLOTS : Nat := 0xA108
abbrev WK_FREE_WAITERS : Nat := 0xA10C
abbrev WK_STALE : Nat := 0xA110
abbrev WK_SAT_COUNT : Nat := 0xA114
abbrev WK_SNUFF_DROP : Nat := 0xA118
abbrev WK_WIN_DROP : Nat := 0xA11C
abbrev WK_WAIT_FULL : Nat := 0xA120
abbrev WK_WITHDRAWN : Nat := 0xA124
abbrev WK_INCARNATION : Nat := 0xA128
abbrev WK_IMP_TOKEN : Nat := 0xA130
abbrev WK_IMP_DEST : Nat := 0xA134
abbrev WK_IMP_CMD : Nat := 0xA138
abbrev WK_IMP_RESULT : Nat := 0xA13C
abbrev WK_BND_SEL : Nat := 0xA140
abbrev WK_BND_PAIR : Nat := 0xA144
abbrev WK_BND_CTX : Nat := 0xA148
abbrev WK_BND_LIMIT_LO : Nat := 0xA14C
abbrev WK_BND_LIMIT_HI : Nat := 0xA150
abbrev WK_BND_CTL : Nat := 0xA154
abbrev ZT_CTL : Nat := 0xB100
abbrev ZT_CTX_SEL : Nat := 0xB104
abbrev ZT_CTX_MODE : Nat := 0xB108
abbrev ZT_BOOT_SEL : Nat := 0xB110
abbrev ZT_BOOT_ENT0 : Nat := 0xB114
abbrev ZT_BOOT_ENT1 : Nat := 0xB118
abbrev ZT_FCR_BASE_LO : Nat := 0xB120
abbrev ZT_FCR_BASE_HI : Nat := 0xB124
abbrev ZT_FCR_SIZE : Nat := 0xB128
abbrev ZT_FCR_TAIL : Nat := 0xB12C
abbrev ZT_FCR_HEAD : Nat := 0xB130
abbrev ZT_POOL_SEL : Nat := 0xB140
abbrev ZT_POOL_LEVEL : Nat := 0xB144
abbrev ZT_POOL_LOW : Nat := 0xB148
abbrev FAULT_COUNT : Nat := 0xB150
abbrev FAULT_MERGED : Nat := 0xB154
abbrev MIG_PAGES : Nat := 0xB158
abbrev ZT_RC_MISS : Nat := 0xB15C
abbrev ZT_ATS_MISS : Nat := 0xB160
abbrev ZT_PRI_REQ : Nat := 0xB164
abbrev ZT_FQ_FULL : Nat := 0xB168
abbrev ZT_FCR_FULL : Nat := 0xB16C
abbrev ZT_ADVISE : Nat := 0xB170
abbrev ZT_INV_CTX : Nat := 0xB180
abbrev ZT_INV_VA_LO : Nat := 0xB184
abbrev ZT_INV_VA_HI : Nat := 0xB188
abbrev ZT_INV_LEN_LO : Nat := 0xB18C
abbrev ZT_INV_LEN_HI : Nat := 0xB190
abbrev ZT_INV_CTL : Nat := 0xB194
abbrev ZT_WALKERS : Nat := 0xB1A0
abbrev SHORT_BURST : Nat := 0xC100
abbrev FAR_BURST : Nat := 0xC104
abbrev CAPACITY_SHRINK : Nat := 0xC108
abbrev SCRUB_WAIT : Nat := 0xC10C
abbrev LG_STS : Nat := 0xD100
abbrev LG_FIRST : Nat := 0xD104
abbrev LG_DIFF_LO : Nat := 0xD108
abbrev LG_DIFF_HI : Nat := 0xD10C
abbrev LG_MISMATCH_COUNT : Nat := 0xD110
abbrev LG_CLOSES_LO : Nat := 0xD114
abbrev LG_CLOSES_HI : Nat := 0xD118
abbrev LG_REBASE : Nat := 0xD11C
abbrev LG_H_SEL : Nat := 0xD120
abbrev LG_H_COMMIT : Nat := 0xD124
abbrev CC_STS : Nat := 0xE100
abbrev CC_SNP_TIMEOUT : Nat := 0xE104
abbrev CC_SCR_BASE_LO : Nat := 0xE108
abbrev CC_SCR_BASE_HI : Nat := 0xE10C
abbrev CC_SCR_LEN : Nat := 0xE110
abbrev CC_JRNL_BASE_LO : Nat := 0xE114
abbrev CC_JRNL_BASE_HI : Nat := 0xE118
abbrev CC_JRNL_LEN : Nat := 0xE11C
abbrev CC_REBUILDS : Nat := 0xE120
abbrev CC_LAST_PAUSE : Nat := 0xE124
abbrev CC_BINV : Nat := 0xE128
abbrev CC_DIR_USED : Nat := 0xE12C
abbrev CC_SPARE_WAYS : Nat := 0xE130
abbrev RC_ORDER : Nat := 0xF100
abbrev RC_ORDER_STS : Nat := 0xF104
abbrev RC_DRAIN_LIMIT : Nat := 0xF108
abbrev RC_UNDRAINED : Nat := 0xF10C
abbrev RC_STALL_Q : Nat := 0xF110
abbrev RC_STALL_IDX : Nat := 0xF114
abbrev RC_STALL_CMD : Nat := 0xF118
abbrev RC_STALL_RES : Nat := 0xF11C
abbrev RC_STALL_PEND : Nat := 0xF120
abbrev HANG_WD : Nat := 0xF130
abbrev HANG_WD_CTL : Nat := 0xF134
abbrev RC_STS : Nat := 0xF138
abbrev RC_EVENT_NO : Nat := 0xF13C
abbrev RC_JOB_SEL : Nat := 0xF140
abbrev RC_JOB_ID : Nat := 0xF144
abbrev RC_JOB_CTL : Nat := 0xF148
abbrev RC_POISON : Nat := 0xF150
abbrev RC_EPOCH : Nat := 0xF154
abbrev RC_L_COUNT0 : Nat := 0xF158
abbrev RC_L_COUNT1 : Nat := 0xF15C
abbrev RC_PWR : Nat := 0xF1C0
abbrev SM_CTL : Nat := 0x10100
abbrev SM_WINDOW : Nat := 0x10104
abbrev SM_THRESH : Nat := 0x10108
abbrev SM_SEL : Nat := 0x1010C
abbrev SM_WEAR : Nat := 0x10110
abbrev SM_WIN_CE : Nat := 0x10114
abbrev SM_STAMP : Nat := 0x10118
abbrev SM_RETIRE : Nat := 0x1011C
abbrev SM_SPARE_LEFT : Nat := 0x10120
abbrev OB_QOCC_SEL : Nat := 0x11100
abbrev OB_QOCC_NOW : Nat := 0x11104
abbrev OB_QOCC_PEAK : Nat := 0x11108
abbrev OB_QOCC_INT_LO : Nat := 0x1110C
abbrev OB_QOCC_INT_HI : Nat := 0x11110
abbrev TB_SEL : Nat := 0x11120
abbrev TB_CTL : Nat := 0x11124
abbrev TB_BASE_LO : Nat := 0x11128
abbrev TB_BASE_HI : Nat := 0x1112C
abbrev TB_SIZE : Nat := 0x11130
abbrev TB_TAIL : Nat := 0x11134
abbrev TB_HEAD : Nat := 0x11138
abbrev TB_FILL : Nat := 0x1113C
abbrev TB_LOST : Nat := 0x11140
abbrev OB_LATCH_GEN : Nat := 0x11150
abbrev OB_LATCH0 : Nat := 0x11160
abbrev OB_LATCH1 : Nat := 0x11164
abbrev OB_LATCH2 : Nat := 0x11168
abbrev OB_LATCH3 : Nat := 0x1116C
abbrev OB_LATCH4 : Nat := 0x11170
abbrev OB_LATCH5 : Nat := 0x11174
abbrev OB_LATCH6 : Nat := 0x11178
abbrev OB_LATCH7 : Nat := 0x1117C
abbrev OB_LATCH8 : Nat := 0x11180
abbrev OB_LATCH9 : Nat := 0x11184
abbrev OB_LATCH10 : Nat := 0x11188
abbrev OB_LATCH11 : Nat := 0x1118C
abbrev OB_LATCH12 : Nat := 0x11190
abbrev OB_LATCH13 : Nat := 0x11194
abbrev OB_LATCH14 : Nat := 0x11198
abbrev OB_LATCH15 : Nat := 0x1119C
abbrev OB_STOP_CTL : Nat := 0x111A0
abbrev OB_STOP_STS : Nat := 0x111A4
abbrev OB_STOP_MARK : Nat := 0x111A8
abbrev OB_STOP_TYPE : Nat := 0x111AC
abbrev OB_STOP_TIME_LO : Nat := 0x111B0
abbrev OB_STOP_TIME_HI : Nat := 0x111B4
abbrev OB_STOP_WDROP : Nat := 0x111B8
abbrev OB_SCAN_ADDR : Nat := 0x111C0
abbrev OB_SCAN_DATA_LO : Nat := 0x111C4
abbrev OB_SCAN_DATA_HI : Nat := 0x111C8
abbrev OB_DBG_SEL : Nat := 0x111D0
abbrev OB_DBG_CTL : Nat := 0x111D4
abbrev OB_BP_SEL : Nat := 0x111E0
abbrev OB_BP_LIST : Nat := 0x111E4
abbrev OB_BP_AT : Nat := 0x111E8
abbrev OB_BP_CTL : Nat := 0x111EC
abbrev CN_CTL : Nat := 0x12100
abbrev CN_HEAD : Nat := 0x12104
abbrev CN_WRAPS : Nat := 0x12108
abbrev CN_FREEZE_MASK : Nat := 0x1210C
abbrev CN_POST : Nat := 0x12110
abbrev CN_DROP : Nat := 0x12114
abbrev CN_SUPPRESS : Nat := 0x12118
abbrev CN_SEL : Nat := 0x1211C
abbrev CN_DATA0 : Nat := 0x12120
abbrev CN_DATA1 : Nat := 0x12124
abbrev CN_DATA2 : Nat := 0x12128
abbrev CN_DATA3 : Nat := 0x1212C
abbrev FP_SENT : Nat := 0x13100
abbrev FP_RECV : Nat := 0x13104
abbrev FP_REMOTE_DROP : Nat := 0x13108
abbrev FP_LAST_DROP : Nat := 0x1310C
abbrev FP_DEST_SEL : Nat := 0x13110
abbrev FP_DEST : Nat := 0x13114
abbrev PW_STS : Nat := 0x14100
abbrev PW_GRANTS : Nat := 0x14104
abbrev PW_GRANT_MAX : Nat := 0x14108
abbrev PW_WAKE_GROUPS : Nat := 0x1410C
abbrev PT_CTL : Nat := 0x20100
abbrev PT_STS : Nat := 0x20104
abbrev PT_CAUSE : Nat := 0x20108
abbrev PT_PEER_ID : Nat := 0x2010C
abbrev PT_PEER_INFO : Nat := 0x20110
abbrev PT_ALLOW0 : Nat := 0x20120
abbrev PT_ALLOW1 : Nat := 0x20124
abbrev PT_ALLOW2 : Nat := 0x20128
abbrev PT_ALLOW3 : Nat := 0x2012C
abbrev HB_CTL : Nat := 0x20130
abbrev TS_OFFSET : Nat := 0x20134
abbrev TS_DELAY : Nat := 0x20138
abbrev RL_SEL : Nat := 0x20140
abbrev RL_CFG : Nat := 0x20144
abbrev RL_STRIKES : Nat := 0x20148
abbrev RL_DROP : Nat := 0x2014C
abbrev CRC_ERR : Nat := 0x20150
abbrev REPLAYS : Nat := 0x20154
abbrev SYM_ERR : Nat := 0x20158
abbrev LANE_STS : Nat := 0x2015C
abbrev CRED_AVAIL_LO : Nat := 0x20160
abbrev CRED_AVAIL_HI : Nat := 0x20164
abbrev ERR_LATE : Nat := 0x20168
abbrev TRAIN_FAILS : Nat := 0x2016C
abbrev CIN_DROP : Nat := 0x20170
abbrev MG_TX0 : Nat := 0x20180
abbrev MG_TX1 : Nat := 0x20184
abbrev MG_TX2 : Nat := 0x20188
abbrev MG_TX3 : Nat := 0x2018C
abbrev MG_TX4 : Nat := 0x20190
abbrev MG_TX5 : Nat := 0x20194
abbrev MG_TX_CTL : Nat := 0x20198
abbrev MG_RX0 : Nat := 0x201A0
abbrev MG_RX1 : Nat := 0x201A4
abbrev MG_RX2 : Nat := 0x201A8
abbrev MG_RX3 : Nat := 0x201AC
abbrev MG_RX4 : Nat := 0x201B0
abbrev MG_RX5 : Nat := 0x201B4
abbrev MG_RX_CTL : Nat := 0x201B8

end Reg

/-- header. -/
def rowsHeader : List RegInfo := [
  ⟨Reg.PG_ID, 0x0, 0x0, 0x0, false, 0x1⟩,
  ⟨Reg.PG_CAP, 0x0, 0x0, 0x0, false, 0x0⟩,
  ⟨Reg.PG_CTL, 0x7FF, 0x0, 0x0, true, 0x0⟩,
  ⟨Reg.PG_STS, 0x0, 0x0, 0x0, false, 0x0⟩,
  ⟨Reg.PG_ERR, 0x0, 0xFFFFFF03, 0x0, false, 0x0⟩,
  ⟨Reg.PG_ERR_EN, 0xFFFFFFFF, 0x0, 0x0, false, 0x0⟩,
  ⟨Reg.PG_ERR_FIRST, 0x0, 0x80000000, 0x0, false, 0x0⟩,
  ⟨Reg.PG_ERR_INJ, 0x0, 0x0, 0x0, true, 0x0⟩,
  ⟨Reg.PG_SEM, 0x0, 0x0, 0x0, false, 0x0⟩,
  ⟨Reg.PG_EPOCH, 0x0, 0x0, 0x0, false, 0x1⟩,
  ⟨Reg.PG_AON0, 0x0, 0x0, 0x0, false, 0x0⟩,
  ⟨Reg.PG_AON1, 0x0, 0x0, 0x0, false, 0x0⟩,
  ⟨Reg.PG_AON2, 0x0, 0x0, 0x0, false, 0x0⟩,
  ⟨Reg.PG_AON3, 0x0, 0x0, 0x0, false, 0x0⟩,
  ⟨Reg.PG_AON4, 0x0, 0x0, 0x0, false, 0x0⟩,
  ⟨Reg.PG_AON5, 0x0, 0x0, 0x0, false, 0x0⟩]

/-- GLB. -/
def rowsGlb : List RegInfo := [
  ⟨Reg.GLB_CTL, 0x0, 0x0, 0x0, true, 0x0⟩,
  ⟨Reg.GLB_REFUSE, 0x0, 0x0, 0xFF, false, 0x0⟩,
  ⟨Reg.GLB_ROLE, 0x3, 0x0, 0x0, true, 0x0⟩,
  ⟨Reg.GLB_WHOAMI, 0x0, 0x0, 0x0, false, 0x0⟩,
  ⟨Reg.GLB_PORT_STS, 0x0, 0x30, 0x0, false, 0x0⟩,
  ⟨Reg.KQ0_BASE_LO, 0xFFFFF000, 0x0, 0x0, true, 0x0⟩,
  ⟨Reg.KQ0_BASE_HI, 0xFFFFFFFF, 0x0, 0x0, true, 0x0⟩,
  ⟨Reg.KQ0_CFG, 0x1FFFFFF, 0x0, 0x0, true, 0x0⟩,
  ⟨Reg.KQ0_STALL, 0x3FFFFF, 0x0, 0x0, true, 0x0⟩]

/-- SEM. -/
def rowsSem : List RegInfo := [
  ⟨Reg.SEM_BREAK, 0x0, 0x0, 0x0, false, 0x0⟩,
  ⟨Reg.SEM_HELD_LO, 0x0, 0x0, 0x0, false, 0x0⟩,
  ⟨Reg.SEM_HELD_HI, 0x0, 0x0, 0x0, false, 0x0⟩]

/-- HIU. -/
def rowsHiu : List RegInfo := [
  ⟨Reg.EV_DATA0, 0x0, 0x0, 0x0, false, 0x0⟩,
  ⟨Reg.EV_DATA1, 0x0, 0x0, 0x0, false, 0x0⟩,
  ⟨Reg.EV_DATA2, 0x0, 0x0, 0x0, false, 0x0⟩,
  ⟨Reg.EV_DATA3, 0x0, 0x0, 0x0, false, 0x0⟩,
  ⟨Reg.EV_DATA4, 0x0, 0x0, 0x0, false, 0x0⟩,
  ⟨Reg.EV_DATA5, 0x0, 0x0, 0x0, false, 0x0⟩,
  ⟨Reg.EV_DATA6, 0x0, 0x0, 0x0, false, 0x0⟩,
  ⟨Reg.EV_DATA7, 0x0, 0x0, 0x0, false, 0x0⟩,
  ⟨Reg.EV_STS, 0x0, 0x0, 0xFFFF0000, false, 0x0⟩,
  ⟨Reg.EV_CTL, 0x0, 0x0, 0x0, false, 0x0⟩,
  ⟨Reg.MSIX_SIZE, 0x0, 0x0, 0x0, false, 0x0⟩]

/-- QFE. -/
def rowsQfe : List RegInfo := [
  ⟨Reg.QFE_INFLIGHT, 0x0, 0x0, 0x0, false, 0x0⟩,
  ⟨Reg.QFE_QUEUES, 0x0, 0x0, 0x0, false, 0x0⟩,
  ⟨Reg.QFE_DBREJ_TOTAL, 0x0, 0x0, 0xFFFFFFFF, false, 0x0⟩]

/-- MC. -/
def rowsMc : List RegInfo := [
  ⟨Reg.MC_SEL, 0x3, 0x0, 0x0, true, 0x0⟩,
  ⟨Reg.MC_ADDR, 0x3FFF, 0x0, 0x0, true, 0x0⟩,
  ⟨Reg.MC_DATA_LO, 0xFFFFFFFF, 0x0, 0x0, true, 0x0⟩,
  ⟨Reg.MC_DATA_HI, 0xFFFF, 0x0, 0x0, true, 0x0⟩,
  ⟨Reg.MC_SIG_DATA, 0x0, 0x0, 0x0, true, 0x0⟩,
  ⟨Reg.MC_SIG_LEN, 0x0, 0x0, 0x0, false, 0x0⟩,
  ⟨Reg.MC_CTL, 0x0, 0x0, 0x0, true, 0x0⟩,
  ⟨Reg.MC_STS, 0x0, 0x2, 0x0, true, 0x0⟩,
  ⟨Reg.MC_VERSION_LO, 0x0, 0x0, 0x0, false, 0x0⟩,
  ⟨Reg.MC_VERSION_HI, 0x0, 0x0, 0x0, false, 0x0⟩]

/-- Lamplighter. -/
def rowsLamplighter : List RegInfo := [
  ⟨Reg.LL_OCCUPANCY, 0x0, 0x0, 0x0, false, 0x0⟩,
  ⟨Reg.LL_HOT, 0x7FF, 0x0, 0x0, false, 0x398⟩,
  ⟨Reg.LL_COOL, 0x7FF, 0x0, 0x0, false, 0x300⟩,
  ⟨Reg.LL_HOT_US, 0x0, 0x0, 0x0, false, 0x0⟩,
  ⟨Reg.LL_DECISIONS_LO, 0x0, 0x0, 0x0, false, 0x0⟩,
  ⟨Reg.LL_DECISIONS_HI, 0x0, 0x0, 0x0, false, 0x0⟩,
  ⟨Reg.RTQ_SEL, 0xFFFF, 0x0, 0x0, true, 0x0⟩,
  ⟨Reg.RTQ_SPAN, 0xFFFFFFFF, 0x0, 0x0, true, 0x0⟩,
  ⟨Reg.RTQ_MISS, 0x0, 0x0, 0xFFFF, false, 0x0⟩,
  ⟨Reg.RTQ_DEFAULT_SPAN, 0xFFFFFFFF, 0x0, 0x0, true, 0x10000⟩,
  ⟨Reg.RT_MISS_TOTAL, 0x0, 0x0, 0xFFFFFFFF, false, 0x0⟩]

/-- HAL. -/
def rowsHal : List RegInfo := [
  ⟨Reg.RT_RESERVE_CORES, 0x1FF, 0x0, 0x0, false, 0x0⟩,
  ⟨Reg.RT_RESERVE_UNITS, 0x1FF, 0x0, 0x0, false, 0x0⟩,
  ⟨Reg.LIGHT_CTL, 0xFFFFFFFF, 0x0, 0x0, false, 0x1000FA⟩,
  ⟨Reg.WAKE_CTL, 0xFFFFFFFF, 0x0, 0x0, false, 0x1000FA⟩,
  ⟨Reg.LIGHT_WAIT, 0x0, 0x0, 0xFFFFFFFF, false, 0x0⟩,
  ⟨Reg.H_SEL, 0x3F, 0x0, 0x0, true, 0x0⟩,
  ⟨Reg.H_INFO, 0x0, 0x0, 0x0, false, 0x0⟩,
  ⟨Reg.H_HOME, 0x0, 0x0, 0x0, false, 0x0⟩,
  ⟨Reg.H_STEP_PACED, 0x0, 0x0, 0xFFFFFFFF, false, 0x0⟩]

/-- Cadence Unit. -/
def rowsCadenceUnit : List RegInfo := [
  ⟨Reg.CAD_CTL, 0x3, 0x0, 0x0, false, 0x2⟩,
  ⟨Reg.CAD_STS, 0x0, 0x40, 0x0, false, 0x0⟩,
  ⟨Reg.CAD_NOW_LO, 0x0, 0x0, 0x0, false, 0x0⟩,
  ⟨Reg.CAD_NOW_HI, 0x0, 0x0, 0x0, false, 0x0⟩,
  ⟨Reg.CAD_PERIOD, 0x0, 0x0, 0x0, false, 0x112A880⟩,
  ⟨Reg.CAD_NOMINAL, 0xFFFFFFFF, 0x0, 0x0, false, 0x112A880⟩,
  ⟨Reg.CAD_DRIFT, 0x0, 0x0, 0x0, false, 0x0⟩,
  ⟨Reg.CAD_EARLY, 0x0, 0x0, 0xFFFF, false, 0x0⟩]

/-- Stitch Streamer. -/
def rowsStitchStreamer : List RegInfo := [
  ⟨Reg.DT_SEL, 0xFFF, 0x0, 0x0, true, 0x0⟩,
  ⟨Reg.DT_BASE_LO, 0xFFFFFFC0, 0x0, 0x0, true, 0x0⟩,
  ⟨Reg.DT_BASE_HI, 0xFFFFFFFF, 0x0, 0x0, true, 0x0⟩,
  ⟨Reg.DT_COUNT, 0x1FFFF, 0x0, 0x0, true, 0x0⟩,
  ⟨Reg.SC_USED, 0x0, 0x0, 0x0, false, 0x0⟩,
  ⟨Reg.SC_VERSIONS, 0x0, 0x0, 0x0, false, 0x0⟩,
  ⟨Reg.SS_STARVE, 0x0, 0x0, 0xFFFFFFFF, false, 0x0⟩,
  ⟨Reg.DESC_WAIT, 0x0, 0x0, 0xFFFFFFFF, false, 0x0⟩]

/-- Wick Engine. -/
def rowsWickEngine : List RegInfo := [
  ⟨Reg.WK_CTL, 0x1, 0x0, 0x0, true, 0x0⟩,
  ⟨Reg.WK_GATE_NS, 0xFFFF, 0x0, 0x0, true, 0x7D0⟩,
  ⟨Reg.WK_FREE_SLOTS, 0x0, 0x0, 0x0, false, 0x20000⟩,
  ⟨Reg.WK_FREE_WAITERS, 0x0, 0x0, 0x0, false, 0x7C00⟩,
  ⟨Reg.WK_STALE, 0x0, 0x0, 0xFFFFFFFF, false, 0x0⟩,
  ⟨Reg.WK_SAT_COUNT, 0x0, 0x0, 0xFFFFFFFF, false, 0x0⟩,
  ⟨Reg.WK_SNUFF_DROP, 0x0, 0x0, 0xFFFFFFFF, false, 0x0⟩,
  ⟨Reg.WK_WIN_DROP, 0x0, 0x0, 0xFFFFFFFF, false, 0x0⟩,
  ⟨Reg.WK_WAIT_FULL, 0x0, 0x0, 0xFFFFFFFF, false, 0x0⟩,
  ⟨Reg.WK_WITHDRAWN, 0x0, 0x0, 0x0, false, 0x0⟩,
  ⟨Reg.WK_INCARNATION, 0xFFFFFFFF, 0x0, 0x0, true, 0x0⟩,
  ⟨Reg.WK_IMP_TOKEN, 0xFFFFFFFF, 0x0, 0x0, true, 0x0⟩,
  ⟨Reg.WK_IMP_DEST, 0xFFFF0FFF, 0x0, 0x0, true, 0x0⟩,
  ⟨Reg.WK_IMP_CMD, 0x0, 0x0, 0x0, true, 0x0⟩,
  ⟨Reg.WK_IMP_RESULT, 0x0, 0x0, 0x0, false, 0x0⟩,
  ⟨Reg.WK_BND_SEL, 0x3FF, 0x0, 0x0, true, 0x0⟩,
  ⟨Reg.WK_BND_PAIR, 0xFFFFFFFF, 0x0, 0x0, true, 0x0⟩,
  ⟨Reg.WK_BND_CTX, 0xFFF, 0x0, 0x0, true, 0x0⟩,
  ⟨Reg.WK_BND_LIMIT_LO, 0xFFFFFFFF, 0x0, 0x0, true, 0x0⟩,
  ⟨Reg.WK_BND_LIMIT_HI, 0xFFFFFFFF, 0x0, 0x0, true, 0x0⟩,
  ⟨Reg.WK_BND_CTL, 0x1, 0xC, 0x0, true, 0x0⟩]

/-- ZTU. -/
def rowsZtu : List RegInfo := [
  ⟨Reg.ZT_CTL, 0xF01, 0x0, 0x0, true, 0x1⟩,
  ⟨Reg.ZT_CTX_SEL, 0xFFF, 0x0, 0x0, true, 0x0⟩,
  ⟨Reg.ZT_CTX_MODE, 0x1, 0x0, 0x0, true, 0x0⟩,
  ⟨Reg.ZT_BOOT_SEL, 0x3F, 0x0, 0x0, true, 0x0⟩,
  ⟨Reg.ZT_BOOT_ENT0, 0xF003FFFF, 0x0, 0x0, true, 0x0⟩,
  ⟨Reg.ZT_BOOT_ENT1, 0xFFFFFFFF, 0x0, 0x0, true, 0x0⟩,
  ⟨Reg.ZT_FCR_BASE_LO, 0xFFFFF000, 0x0, 0x0, true, 0x0⟩,
  ⟨Reg.ZT_FCR_BASE_HI, 0xFFFFFFFF, 0x0, 0x0, true, 0x0⟩,
  ⟨Reg.ZT_FCR_SIZE, 0x1F, 0x0, 0x0, true, 0x0⟩,
  ⟨Reg.ZT_FCR_TAIL, 0x0, 0x0, 0x0, false, 0x0⟩,
  ⟨Reg.ZT_FCR_HEAD, 0x1FFFFF, 0x0, 0x0, true, 0x0⟩,
  ⟨Reg.ZT_POOL_SEL, 0xF, 0x0, 0x0, true, 0x0⟩,
  ⟨Reg.ZT_POOL_LEVEL, 0x0, 0x0, 0x0, false, 0x0⟩,
  ⟨Reg.ZT_POOL_LOW, 0x1FFF, 0x0, 0x0, true, 0x40⟩,
  ⟨Reg.FAULT_COUNT, 0x0, 0x0, 0xFFFFFFFF, false, 0x0⟩,
  ⟨Reg.FAULT_MERGED, 0x0, 0x0, 0xFFFFFFFF, false, 0x0⟩,
  ⟨Reg.MIG_PAGES, 0x0, 0x0, 0xFFFFFFFF, false, 0x0⟩,
  ⟨Reg.ZT_RC_MISS, 0x0, 0x0, 0xFFFFFFFF, false, 0x0⟩,
  ⟨Reg.ZT_ATS_MISS, 0x0, 0x0, 0xFFFFFFFF, false, 0x0⟩,
  ⟨Reg.ZT_PRI_REQ, 0x0, 0x0, 0xFFFFFFFF, false, 0x0⟩,
  ⟨Reg.ZT_FQ_FULL, 0x0, 0x0, 0xFFFFFFFF, false, 0x0⟩,
  ⟨Reg.ZT_FCR_FULL, 0x0, 0x0, 0xFFFFFFFF, false, 0x0⟩,
  ⟨Reg.ZT_ADVISE, 0x0, 0x0, 0xFFFFFFFF, false, 0x0⟩,
  ⟨Reg.ZT_INV_CTX, 0xFFF, 0x0, 0x0, true, 0x0⟩,
  ⟨Reg.ZT_INV_VA_LO, 0xFFFFF000, 0x0, 0x0, true, 0x0⟩,
  ⟨Reg.ZT_INV_VA_HI, 0xFFFFFFFF, 0x0, 0x0, true, 0x0⟩,
  ⟨Reg.ZT_INV_LEN_LO, 0xFFFFF000, 0x0, 0x0, true, 0x0⟩,
  ⟨Reg.ZT_INV_LEN_HI, 0xFFFFFFFF, 0x0, 0x0, true, 0x0⟩,
  ⟨Reg.ZT_INV_CTL, 0x0, 0x0, 0x0, true, 0x0⟩,
  ⟨Reg.ZT_WALKERS, 0x0, 0x0, 0x0, false, 0xFF⟩]

/-- Memory. -/
def rowsMemory : List RegInfo := [
  ⟨Reg.SHORT_BURST, 0x0, 0x0, 0xFFFFFFFF, false, 0x0⟩,
  ⟨Reg.FAR_BURST, 0x0, 0x0, 0xFFFFFFFF, false, 0x0⟩,
  ⟨Reg.CAPACITY_SHRINK, 0x0, 0xFFFF, 0x0, false, 0x0⟩,
  ⟨Reg.SCRUB_WAIT, 0x0, 0x0, 0xFFFFFFFF, false, 0x0⟩]

/-- Credit Ledger. -/
def rowsCreditLedger : List RegInfo := [
  ⟨Reg.LG_STS, 0x0, 0x3, 0x0, false, 0x0⟩,
  ⟨Reg.LG_FIRST, 0x0, 0x0, 0x0, false, 0x0⟩,
  ⟨Reg.LG_DIFF_LO, 0x0, 0x0, 0x0, false, 0x0⟩,
  ⟨Reg.LG_DIFF_HI, 0x0, 0x0, 0x0, false, 0x0⟩,
  ⟨Reg.LG_MISMATCH_COUNT, 0x0, 0x0, 0xFFFFFFFF, false, 0x0⟩,
  ⟨Reg.LG_CLOSES_LO, 0x0, 0x0, 0x0, false, 0x0⟩,
  ⟨Reg.LG_CLOSES_HI, 0x0, 0x0, 0x0, false, 0x0⟩,
  ⟨Reg.LG_REBASE, 0x0, 0x0, 0x0, false, 0x0⟩,
  ⟨Reg.LG_H_SEL, 0x3F, 0x0, 0x0, true, 0x0⟩,
  ⟨Reg.LG_H_COMMIT, 0x8FFFFFFF, 0x0, 0x0, true, 0x0⟩]

/-- CCH. -/
def rowsCch : List RegInfo := [
  ⟨Reg.CC_STS, 0x0, 0x0, 0x0, false, 0x0⟩,
  ⟨Reg.CC_SNP_TIMEOUT, 0xFFFF, 0x0, 0x0, false, 0x14⟩,
  ⟨Reg.CC_SCR_BASE_LO, 0xFFFFFFFF, 0x0, 0x0, false, 0x0⟩,
  ⟨Reg.CC_SCR_BASE_HI, 0xFFFFFFFF, 0x0, 0x0, false, 0x0⟩,
  ⟨Reg.CC_SCR_LEN, 0xFFFFFFFF, 0x0, 0x0, false, 0x0⟩,
  ⟨Reg.CC_JRNL_BASE_LO, 0xFFFFFFFF, 0x0, 0x0, false, 0x0⟩,
  ⟨Reg.CC_JRNL_BASE_HI, 0xFFFFFFFF, 0x0, 0x0, false, 0x0⟩,
  ⟨Reg.CC_JRNL_LEN, 0xFFFFFFFF, 0x0, 0x0, false, 0x0⟩,
  ⟨Reg.CC_REBUILDS, 0x0, 0x0, 0x0, false, 0x0⟩,
  ⟨Reg.CC_LAST_PAUSE, 0x0, 0x0, 0x0, false, 0x0⟩,
  ⟨Reg.CC_BINV, 0x0, 0x0, 0xFFFFFFFF, false, 0x0⟩,
  ⟨Reg.CC_DIR_USED, 0x0, 0x0, 0x0, false, 0x0⟩,
  ⟨Reg.CC_SPARE_WAYS, 0x0, 0x0, 0x0, false, 0x0⟩]

/-- Recovery Controller. -/
def rowsRecoveryController : List RegInfo := [
  ⟨Reg.RC_ORDER, 0x0, 0x0, 0x0, false, 0x0⟩,
  ⟨Reg.RC_ORDER_STS, 0x0, 0x0, 0x0, false, 0x0⟩,
  ⟨Reg.RC_DRAIN_LIMIT, 0xFFFF, 0x0, 0x0, true, 0x1F4⟩,
  ⟨Reg.RC_UNDRAINED, 0x0, 0x80000000, 0x0, false, 0x0⟩,
  ⟨Reg.RC_STALL_Q, 0x8000FFFF, 0x0, 0x0, true, 0x0⟩,
  ⟨Reg.RC_STALL_IDX, 0x1FFFFF, 0x0, 0x0, true, 0x0⟩,
  ⟨Reg.RC_STALL_CMD, 0x0, 0x0, 0x0, true, 0x0⟩,
  ⟨Reg.RC_STALL_RES, 0x0, 0x0, 0x0, false, 0x0⟩,
  ⟨Reg.RC_STALL_PEND, 0x0, 0x0, 0x0, false, 0x0⟩,
  ⟨Reg.HANG_WD, 0x0, 0x0, 0x0, false, 0x0⟩,
  ⟨Reg.HANG_WD_CTL, 0xFFFF, 0x80000000, 0x0, true, 0x0⟩,
  ⟨Reg.RC_STS, 0x0, 0x8, 0x0, false, 0x0⟩,
  ⟨Reg.RC_EVENT_NO, 0x0, 0x0, 0x0, false, 0x0⟩,
  ⟨Reg.RC_JOB_SEL, 0xFFF, 0x0, 0x0, true, 0x0⟩,
  ⟨Reg.RC_JOB_ID, 0xFFFFFFFF, 0x0, 0x0, true, 0x0⟩,
  ⟨Reg.RC_JOB_CTL, 0x800000FF, 0x0, 0x0, true, 0x0⟩,
  ⟨Reg.RC_POISON, 0x0, 0x0, 0xFFFFFFFF, false, 0x0⟩,
  ⟨Reg.RC_EPOCH, 0x0, 0x0, 0x0, false, 0x1⟩,
  ⟨Reg.RC_L_COUNT0, 0x0, 0x0, 0xFFFFFFFF, false, 0x0⟩,
  ⟨Reg.RC_L_COUNT1, 0x0, 0x0, 0xFFFF, false, 0x0⟩,
  ⟨Reg.RC_PWR, 0x0, 0x0, 0x0, false, 0x0⟩]

/-- Spare Manager. -/
def rowsSpareManager : List RegInfo := [
  ⟨Reg.SM_CTL, 0x1, 0x0, 0x0, true, 0x1⟩,
  ⟨Reg.SM_WINDOW, 0xFFFF, 0x0, 0x0, true, 0x3C⟩,
  ⟨Reg.SM_THRESH, 0xFFFF, 0x0, 0x0, true, 0x10⟩,
  ⟨Reg.SM_SEL, 0xF00FFFFF, 0x0, 0x0, false, 0x0⟩,
  ⟨Reg.SM_WEAR, 0xC0FFFFFF, 0x0, 0x0, true, 0x0⟩,
  ⟨Reg.SM_WIN_CE, 0x0, 0x0, 0x0, false, 0x0⟩,
  ⟨Reg.SM_STAMP, 0x0, 0x0, 0x0, false, 0x0⟩,
  ⟨Reg.SM_RETIRE, 0x0, 0x0, 0x0, true, 0x0⟩,
  ⟨Reg.SM_SPARE_LEFT, 0x0, 0x0, 0x0, false, 0x0⟩]

/-- Observation Unit. -/
def rowsObservationUnit : List RegInfo := [
  ⟨Reg.OB_QOCC_SEL, 0x3, 0x0, 0x0, false, 0x0⟩,
  ⟨Reg.OB_QOCC_NOW, 0x0, 0x0, 0x0, false, 0x0⟩,
  ⟨Reg.OB_QOCC_PEAK, 0x0, 0x0, 0xFFFFFFFF, false, 0x0⟩,
  ⟨Reg.OB_QOCC_INT_LO, 0x0, 0x0, 0x0, false, 0x0⟩,
  ⟨Reg.OB_QOCC_INT_HI, 0x0, 0x0, 0x0, false, 0x0⟩,
  ⟨Reg.TB_SEL, 0xF, 0x0, 0x0, true, 0x0⟩,
  ⟨Reg.TB_CTL, 0xA000FFF3, 0x40000000, 0x0, true, 0x0⟩,
  ⟨Reg.TB_BASE_LO, 0xFFFFF000, 0x0, 0x0, true, 0x0⟩,
  ⟨Reg.TB_BASE_HI, 0xFFFFFFFF, 0x0, 0x0, true, 0x0⟩,
  ⟨Reg.TB_SIZE, 0x1F, 0x0, 0x0, true, 0x0⟩,
  ⟨Reg.TB_TAIL, 0x0, 0x0, 0x0, false, 0x0⟩,
  ⟨Reg.TB_HEAD, 0x1FFFFF, 0x0, 0x0, true, 0x0⟩,
  ⟨Reg.TB_FILL, 0x0, 0x0, 0x0, false, 0x0⟩,
  ⟨Reg.TB_LOST, 0x0, 0x0, 0xFFFFFFFF, true, 0x0⟩,
  ⟨Reg.OB_LATCH_GEN, 0x0, 0x0, 0x0, false, 0x0⟩,
  ⟨Reg.OB_LATCH0, 0x0, 0x0, 0x0, false, 0x0⟩,
  ⟨Reg.OB_LATCH1, 0x0, 0x0, 0x0, false, 0x0⟩,
  ⟨Reg.OB_LATCH2, 0x0, 0x0, 0x0, false, 0x0⟩,
  ⟨Reg.OB_LATCH3, 0x0, 0x0, 0x0, false, 0x0⟩,
  ⟨Reg.OB_LATCH4, 0x0, 0x0, 0x0, false, 0x0⟩,
  ⟨Reg.OB_LATCH5, 0x0, 0x0, 0x0, false, 0x0⟩,
  ⟨Reg.OB_LATCH6, 0x0, 0x0, 0x0, false, 0x0⟩,
  ⟨Reg.OB_LATCH7, 0x0, 0x0, 0x0, false, 0x0⟩,
  ⟨Reg.OB_LATCH8, 0x0, 0x0, 0x0, false, 0x0⟩,
  ⟨Reg.OB_LATCH9, 0x0, 0x0, 0x0, false, 0x0⟩,
  ⟨Reg.OB_LATCH10, 0x0, 0x0, 0x0, false, 0x0⟩,
  ⟨Reg.OB_LATCH11, 0x0, 0x0, 0x0, false, 0x0⟩,
  ⟨Reg.OB_LATCH12, 0x0, 0x0, 0x0, false, 0x0⟩,
  ⟨Reg.OB_LATCH13, 0x0, 0x0, 0x0, false, 0x0⟩,
  ⟨Reg.OB_LATCH14, 0x0, 0x0, 0x0, false, 0x0⟩,
  ⟨Reg.OB_LATCH15, 0x0, 0x0, 0x0, false, 0x0⟩,
  ⟨Reg.OB_STOP_CTL, 0x3C, 0x0, 0x0, true, 0x0⟩,
  ⟨Reg.OB_STOP_STS, 0x0, 0x0, 0x0, false, 0x0⟩,
  ⟨Reg.OB_STOP_MARK, 0xFFFFFFFF, 0x0, 0x0, true, 0x0⟩,
  ⟨Reg.OB_STOP_TYPE, 0xFF, 0x0, 0x0, true, 0x0⟩,
  ⟨Reg.OB_STOP_TIME_LO, 0x0, 0x0, 0x0, false, 0x0⟩,
  ⟨Reg.OB_STOP_TIME_HI, 0x0, 0x0, 0x0, false, 0x0⟩,
  ⟨Reg.OB_STOP_WDROP, 0x0, 0x0, 0xFFFFFFFF, false, 0x0⟩,
  ⟨Reg.OB_SCAN_ADDR, 0xFFFFFFFF, 0x0, 0x0, false, 0x0⟩,
  ⟨Reg.OB_SCAN_DATA_LO, 0x0, 0x0, 0x0, false, 0x0⟩,
  ⟨Reg.OB_SCAN_DATA_HI, 0x0, 0x0, 0x0, false, 0x0⟩,
  ⟨Reg.OB_DBG_SEL, 0xFFF, 0x0, 0x0, true, 0x0⟩,
  ⟨Reg.OB_DBG_CTL, 0x1, 0x0, 0x0, true, 0x0⟩,
  ⟨Reg.OB_BP_SEL, 0x7, 0x0, 0x0, true, 0x0⟩,
  ⟨Reg.OB_BP_LIST, 0xFFFFFFFF, 0x0, 0x0, true, 0x0⟩,
  ⟨Reg.OB_BP_AT, 0xFFFFFFFF, 0x0, 0x0, true, 0x0⟩,
  ⟨Reg.OB_BP_CTL, 0xFFF00003, 0x80, 0x0, true, 0x0⟩]

/-- Cinder. -/
def rowsCinder : List RegInfo := [
  ⟨Reg.CN_CTL, 0x1, 0x0, 0x0, false, 0x0⟩,
  ⟨Reg.CN_HEAD, 0x0, 0x0, 0x0, false, 0x0⟩,
  ⟨Reg.CN_WRAPS, 0x0, 0x0, 0x0, false, 0x0⟩,
  ⟨Reg.CN_FREEZE_MASK, 0xFFFFFFFF, 0x0, 0x0, false, 0x10000⟩,
  ⟨Reg.CN_POST, 0xFFFF, 0x0, 0x0, false, 0x40⟩,
  ⟨Reg.CN_DROP, 0x0, 0x0, 0xFFFFFFFF, false, 0x0⟩,
  ⟨Reg.CN_SUPPRESS, 0x0, 0x0, 0xFFFFFFFF, false, 0x0⟩,
  ⟨Reg.CN_SEL, 0xFFFF, 0x0, 0x0, false, 0x0⟩,
  ⟨Reg.CN_DATA0, 0x0, 0x0, 0x0, false, 0x0⟩,
  ⟨Reg.CN_DATA1, 0x0, 0x0, 0x0, false, 0x0⟩,
  ⟨Reg.CN_DATA2, 0x0, 0x0, 0x0, false, 0x0⟩,
  ⟨Reg.CN_DATA3, 0x0, 0x0, 0x0, false, 0x0⟩]

/-- Fabric Port. -/
def rowsFabricPort : List RegInfo := [
  ⟨Reg.FP_SENT, 0x0, 0x0, 0xFFFFFFFF, false, 0x0⟩,
  ⟨Reg.FP_RECV, 0x0, 0x0, 0xFFFFFFFF, false, 0x0⟩,
  ⟨Reg.FP_REMOTE_DROP, 0x0, 0x0, 0xFFFFFFFF, false, 0x0⟩,
  ⟨Reg.FP_LAST_DROP, 0x0, 0x0, 0x0, false, 0x0⟩,
  ⟨Reg.FP_DEST_SEL, 0xFF, 0x0, 0x0, true, 0x0⟩,
  ⟨Reg.FP_DEST, 0xFFFFFFFF, 0x0, 0x0, true, 0xFFFFFFFF⟩]

/-- Power interface. -/
def rowsPowerInterface : List RegInfo := [
  ⟨Reg.PW_STS, 0x0, 0x0, 0x0, false, 0x0⟩,
  ⟨Reg.PW_GRANTS, 0x0, 0x0, 0xFFFFFFFF, false, 0x0⟩,
  ⟨Reg.PW_GRANT_MAX, 0x0, 0x0, 0xFFFFFFFF, false, 0x0⟩,
  ⟨Reg.PW_WAKE_GROUPS, 0x0, 0x0, 0xFFFFFFFF, false, 0x0⟩]

/-- Rein port. -/
def rowsReinPort : List RegInfo := [
  ⟨Reg.PT_CTL, 0xF9, 0x0, 0x0, true, 0x20⟩,
  ⟨Reg.PT_STS, 0x0, 0x0, 0x0, false, 0xF000⟩,
  ⟨Reg.PT_CAUSE, 0x0, 0x0, 0x0, false, 0x0⟩,
  ⟨Reg.PT_PEER_ID, 0x0, 0x0, 0x0, false, 0xFFFFFFFF⟩,
  ⟨Reg.PT_PEER_INFO, 0x0, 0x0, 0x0, false, 0xF000⟩,
  ⟨Reg.PT_ALLOW0, 0xFFFFFFFF, 0x0, 0x0, true, 0xFFFFFFFF⟩,
  ⟨Reg.PT_ALLOW1, 0xFFFFFFFF, 0x0, 0x0, true, 0xFFFFFFFF⟩,
  ⟨Reg.PT_ALLOW2, 0xFFFFFFFF, 0x0, 0x0, true, 0xFFFFFFFF⟩,
  ⟨Reg.PT_ALLOW3, 0xFFFFFFFF, 0x0, 0x0, true, 0xFFFFFFFF⟩,
  ⟨Reg.HB_CTL, 0xFFFFFFFF, 0x0, 0x0, true, 0x64000A⟩,
  ⟨Reg.TS_OFFSET, 0x0, 0x0, 0x0, false, 0x0⟩,
  ⟨Reg.TS_DELAY, 0x0, 0x0, 0x0, false, 0x0⟩,
  ⟨Reg.RL_SEL, 0x7, 0x0, 0x0, true, 0x0⟩,
  ⟨Reg.RL_CFG, 0xFFFFFFFF, 0x0, 0x0, true, 0x0⟩,
  ⟨Reg.RL_STRIKES, 0xFFFF, 0x0, 0x0, true, 0x40⟩,
  ⟨Reg.RL_DROP, 0x0, 0x0, 0xFFFFFFFF, false, 0x0⟩,
  ⟨Reg.CRC_ERR, 0x0, 0x0, 0xFFFFFFFF, false, 0x0⟩,
  ⟨Reg.REPLAYS, 0x0, 0x0, 0xFFFFFFFF, false, 0x0⟩,
  ⟨Reg.SYM_ERR, 0x0, 0x0, 0xFFFFFFFF, false, 0x0⟩,
  ⟨Reg.LANE_STS, 0x0, 0xF, 0x0, false, 0x0⟩,
  ⟨Reg.CRED_AVAIL_LO, 0x0, 0x0, 0x0, false, 0x0⟩,
  ⟨Reg.CRED_AVAIL_HI, 0x0, 0x0, 0x0, false, 0x0⟩,
  ⟨Reg.ERR_LATE, 0x0, 0x0, 0xFFFFFFFF, false, 0x0⟩,
  ⟨Reg.TRAIN_FAILS, 0x0, 0x0, 0x0, false, 0x0⟩,
  ⟨Reg.CIN_DROP, 0x0, 0x0, 0xFFFFFFFF, false, 0x0⟩,
  ⟨Reg.MG_TX0, 0xFFFFFFFF, 0x0, 0x0, true, 0x0⟩,
  ⟨Reg.MG_TX1, 0xFFFFFFFF, 0x0, 0x0, true, 0x0⟩,
  ⟨Reg.MG_TX2, 0xFFFFFFFF, 0x0, 0x0, true, 0x0⟩,
  ⟨Reg.MG_TX3, 0xFFFFFFFF, 0x0, 0x0, true, 0x0⟩,
  ⟨Reg.MG_TX4, 0xFFFFFFFF, 0x0, 0x0, true, 0x0⟩,
  ⟨Reg.MG_TX5, 0xFFFFFFFF, 0x0, 0x0, true, 0x0⟩,
  ⟨Reg.MG_TX_CTL, 0x0, 0x0, 0x0, true, 0x0⟩,
  ⟨Reg.MG_RX0, 0x0, 0x0, 0x0, false, 0x0⟩,
  ⟨Reg.MG_RX1, 0x0, 0x0, 0x0, false, 0x0⟩,
  ⟨Reg.MG_RX2, 0x0, 0x0, 0x0, false, 0x0⟩,
  ⟨Reg.MG_RX3, 0x0, 0x0, 0x0, false, 0x0⟩,
  ⟨Reg.MG_RX4, 0x0, 0x0, 0x0, false, 0x0⟩,
  ⟨Reg.MG_RX5, 0x0, 0x0, 0x0, false, 0x0⟩,
  ⟨Reg.MG_RX_CTL, 0x0, 0x1, 0x0, false, 0x0⟩]

/-- Every unit register but the header, the semaphores and the capability table. -/
def unitRows : List RegInfo :=
  rowsGlb ++ rowsSem ++ rowsHiu ++ rowsQfe ++ rowsMc ++ rowsLamplighter ++ rowsHal ++ rowsCadenceUnit ++
  rowsStitchStreamer ++ rowsWickEngine ++ rowsZtu ++ rowsMemory ++ rowsCreditLedger ++ rowsCch ++
  rowsRecoveryController ++ rowsSpareManager ++ rowsObservationUnit ++ rowsCinder ++ rowsFabricPort ++ rowsPowerInterface ++ rowsReinPort

/-- The 22 kinds of unit page: PG_CAP fields AON, SIDEBAND, SEM_GATED, ECC, UNIT_END (R537), type code (R499) and the bits
of PG_ERR that R511 gives the page. -/
structure PageInfo where
  aon : Bool
  sideband : Bool
  gated : Bool
  ecc : Bool
  unitEnd : Nat
  typ : Nat
  evts : Nat
deriving DecidableEq, Repr

/-- R499, R511, R537, by page number (window offset ÷ 0x1000); the last row stands for every Rein port page. -/
def pageRows : List PageInfo := [
  ⟨false, false, true, false, 0x130, 0x01, 0x300⟩,
  ⟨false, false, false, false, 0x20C, 0x02, 0⟩,
  ⟨false, false, false, false, 0x12C, 0x03, 0x300⟩,
  ⟨false, false, false, true, 0x10C, 0x04, 0x1F00⟩,
  ⟨false, false, false, false, 0x1000, 0x05, 0⟩,
  ⟨false, false, true, false, 0x128, 0x06, 0⟩,
  ⟨false, false, true, true, 0x134, 0x07, 0x100⟩,
  ⟨false, false, true, false, 0x130, 0x08, 0x700⟩,
  ⟨false, false, false, false, 0x120, 0x09, 0x100⟩,
  ⟨false, false, true, true, 0x120, 0x0A, 0x100⟩,
  ⟨false, false, true, true, 0x158, 0x0B, 0xF00⟩,
  ⟨false, false, true, true, 0x1A4, 0x0C, 0x300⟩,
  ⟨false, false, false, false, 0x110, 0x0D, 0⟩,
  ⟨false, false, true, true, 0x128, 0x0E, 0x100⟩,
  ⟨false, false, false, true, 0x134, 0x0F, 0x100⟩,
  ⟨false, true, true, false, 0x1C4, 0x10, 0x3F00⟩,
  ⟨false, true, true, false, 0x124, 0x12, 0x100⟩,
  ⟨false, false, true, false, 0x1F0, 0x13, 0x300⟩,
  ⟨true, true, false, false, 0x130, 0x14, 0⟩,
  ⟨false, false, true, false, 0x118, 0x15, 0⟩,
  ⟨false, false, false, false, 0x110, 0x16, 0⟩,
  ⟨false, false, true, false, 0x1BC, 0x20, 0x700⟩]

/-- Page numbers of the unit pages. -/
abbrev pgGlb : Nat := 0
abbrev pgSem : Nat := 1
abbrev pgHiu : Nat := 2
abbrev pgQfe : Nat := 3
abbrev pgCapt : Nat := 4
abbrev pgMc : Nat := 5
abbrev pgLl : Nat := 6
abbrev pgHal : Nat := 7
abbrev pgCad : Nat := 8
abbrev pgSs : Nat := 9
abbrev pgWk : Nat := 10
abbrev pgZt : Nat := 11
abbrev pgMem : Nat := 12
abbrev pgLg : Nat := 13
abbrev pgCc : Nat := 14
abbrev pgRc : Nat := 15
abbrev pgSm : Nat := 16
abbrev pgOb : Nat := 17
abbrev pgCn : Nat := 18
abbrev pgFp : Nat := 19
abbrev pgPw : Nat := 20
/-- The page of Rein port `n`. -/
abbrev pgRein (n : Nat) : Nat := 0x20 + n

/-- Whether a page number names a unit page (R497). -/
def isUnitPage (pg : Nat) : Bool := pg < 21 || (0x20 ≤ pg && pg < 0x28)

/-- R499, R537 of a page. -/
def pageInfo (pg : Nat) : PageInfo := pageRows.getD (min pg 21) ⟨false, false, false, false, 0, 0, 0⟩

/-- The semaphore of a page (R499). -/
def pageSem (pg : Nat) : Nat := if pg < 21 then pg else 21 + (pg - 0x20)

/-- A window offset with every Rein port page laid on that of port 0. -/
def canonAddr (a : Nat) : Nat := if 0x20000 ≤ a ∧ a < 0x28000 then 0x20000 + a % 0x1000 else a

/-- The bits that PG_ERR of a page implements (R503, R511). -/
def errMask (pg : Nat) : Nat := (pageInfo pg).evts ||| (if (pageInfo pg).ecc then 2 else 0) ||| 1

/-- The row of a register at window offset `a`, header registers included; none where no table lists it (R501). -/
def regInfo (a : Nat) : Option RegInfo :=
  if a % 0x1000 < 0x100 then
    (rowsHeader.find? fun r => r.off = a % 0x1000).map fun r =>
      if r.off = Reg.PG_ERR_EN then { r with rw := errMask (a / 0x1000), reset := errMask (a / 0x1000) }
      else if r.off = Reg.PG_ERR then { r with w1c := errMask (a / 0x1000) }
      else r
  else unitRows.find? fun r => r.off = canonAddr a

/-- The reset value of the word at window offset `a`. -/
def resetWord (a : Nat) : W32 := match regInfo a with
  | some r => BitVec.ofNat 32 r.reset
  | none => 0

/-- Whether the word at `a` keeps its value through L3 and resets only at L4 (R502, R407). -/
def keptThroughL3 (a : Nat) : Bool :=
  a / 0x1000 == pgCn || (0x20 ≤ a / 0x1000 && a / 0x1000 < 0x28)
  || (0x28 ≤ a % 0x1000 && a % 0x1000 < 0x40)
  || [Reg.RC_EVENT_NO, Reg.RC_L_COUNT1, Reg.RC_PWR, Reg.SM_SEL, Reg.CC_REBUILDS, Reg.LG_REBASE, Reg.WK_INCARNATION,
      Reg.WK_WITHDRAWN].contains a

/-- The stored word at window offset `a`. -/
def Block.reg (b : Block) (a : Nat) : Nat := (Tab.get resetWord b.regs a).toNat

/-- `b` with the stored word at `a` equal to `v` modulo 2^32. -/
def Block.setReg (b : Block) (a v : Nat) : Block :=
  { b with regs := Tab.set resetWord b.regs a (BitVec.ofNat 32 v) }

/-- A field of a stored word. -/
def Block.field (b : Block) (a hi lo : Nat) : Nat := bits (b.reg a) hi lo

/-- `b` with field [hi:lo] of the stored word at `a` equal to `v`. -/
def Block.setField (b : Block) (a hi lo v : Nat) : Block :=
  let w := 2 ^ (hi + 1 - lo)
  b.setReg a (b.reg a - bits (b.reg a) hi lo * 2 ^ lo + (v % w) * 2 ^ lo)

/-- A counter field [hi:lo] advanced by `k`, saturating. -/
def Block.count (b : Block) (a hi lo k : Nat) : Block :=
  b.setField a hi lo (satAdd (hi + 1 - lo) (b.field a hi lo) k)

/-- A 32-bit counter advanced by one, saturating at 0xFFFF_FFFF. -/
def Block.count32 (b : Block) (a : Nat) : Block := b.count a 31 0 1

/-- A 64-bit counter in two consecutive registers advanced by `k`. -/
def Block.count64 (b : Block) (lo k : Nat) : Block :=
  let n := (b.reg lo + 2 ^ 32 * b.reg (lo + 4) + k) % 2 ^ 64
  (b.setReg lo (n % 2 ^ 32)).setReg (lo + 4) (n / 2 ^ 32)

end Sys2Proof.Machine
end

