-- ==== Sys2Proof/WellFormed.lean ====
section
/-!
DEFINITION. The bounds of a command's operands: what numbers name an object of the block. A meaning is total on every
operand; a command whose operand names no object leaves the state as it is.
-/
namespace Sys2Proof
open Machine

/-- A register path (R466): 1 Port A, 2 Port B, 3 the management sideband. -/
def isPath (p : Nat) : Bool := decide (1 ≤ p ∧ p ≤ 3)

/-- A core, or a stack unit of one of 16 stacks. -/
def isEngine (e : Nat) : Bool := decide (e < unitBase + 16 * 64)

def Work.wf : Work → Bool
  | .cmd q i => decide (q < Config.numQueues) && decide (i < 2 ^ 21)
  | .task c t => decide (c < Config.numContexts) && decide (t < 2 ^ 16)

def Agent.wf : Agent → Bool
  | .engine e => isEngine e
  | .block q i => decide (q < Config.numQueues) && decide (i < 2 ^ 21)

/-- The field widths of a frame header (R358). -/
def Frame.wf (f : Frame) : Bool :=
  decide (f.cls < 8) && decide (f.typ < 16) && decide (f.seq < 256) && decide (f.ack < 256) && decide (f.resv < 64)

/-- Whether every operand of a command is within its bounds. -/
def Instr.wf : Instr → Bool
  | .powerOn => true
  | .aonResetRelease _ => true
  | .initialisationEnd _ => true
  | .goReady path => isPath path
  | .goRun path => isPath path
  | .doorbellWrite path ctx qidx _ => isPath path && decide (ctx < Config.numContexts) && decide (qidx < 16)
  | .ringReadCompletion q => decide (q < Config.numQueues)
  | .indirectRecordRead q i => decide (q < Config.numQueues) && decide (i < 2 ^ 21)
  | .lamplighterDecision => true
  | .occupancyWindowEnd => true
  | .nop q i => decide (q < Config.numQueues) && decide (i < 2 ^ 21)
  | .launch q i => decide (q < Config.numQueues) && decide (i < 2 ^ 21)
  | .launchInd q i => decide (q < Config.numQueues) && decide (i < 2 ^ 21)
  | .launchPersist q i => decide (q < Config.numQueues) && decide (i < 2 ^ 21)
  | .stopPersist q i => decide (q < Config.numQueues) && decide (i < 2 ^ 21)
  | .copy q i => decide (q < Config.numQueues) && decide (i < 2 ^ 21)
  | .fill q i => decide (q < Config.numQueues) && decide (i < 2 ^ 21)
  | .atomic q i => decide (q < Config.numQueues) && decide (i < 2 ^ 21)
  | .prefetch q i => decide (q < Config.numQueues) && decide (i < 2 ^ 21)
  | .advise q i => decide (q < Config.numQueues) && decide (i < 2 ^ 21)
  | .wait q i => decide (q < Config.numQueues) && decide (i < 2 ^ 21)
  | .signal q i => decide (q < Config.numQueues) && decide (i < 2 ^ 21)
  | .signalRemote q i => decide (q < Config.numQueues) && decide (i < 2 ^ 21)
  | .timestamp q i => decide (q < Config.numQueues) && decide (i < 2 ^ 21)
  | .cadenceWait q i => decide (q < Config.numQueues) && decide (i < 2 ^ 21)
  | .mark q i => decide (q < Config.numQueues) && decide (i < 2 ^ 21)
  | .watch q i => decide (q < Config.numQueues) && decide (i < 2 ^ 21)
  | .map q i => decide (q < Config.numQueues) && decide (i < 2 ^ 21)
  | .unmap q i => decide (q < Config.numQueues) && decide (i < 2 ^ 21)
  | .invRange q i => decide (q < Config.numQueues) && decide (i < 2 ^ 21)
  | .queueCreate q i => decide (q < Config.numQueues) && decide (i < 2 ^ 21)
  | .queueDestroy q i => decide (q < Config.numQueues) && decide (i < 2 ^ 21)
  | .harnessGrow q i => decide (q < Config.numQueues) && decide (i < 2 ^ 21)
  | .harnessShrink q i => decide (q < Config.numQueues) && decide (i < 2 ^ 21)
  | .listLoad q i => decide (q < Config.numQueues) && decide (i < 2 ^ 21)
  | .listPatch q i => decide (q < Config.numQueues) && decide (i < 2 ^ 21)
  | .listRetire q i => decide (q < Config.numQueues) && decide (i < 2 ^ 21)
  | .wickAlloc q i => decide (q < Config.numQueues) && decide (i < 2 ^ 21)
  | .wickFree q i => decide (q < Config.numQueues) && decide (i < 2 ^ 21)
  | .wickExport q i => decide (q < Config.numQueues) && decide (i < 2 ^ 21)
  | .ctxSave q i => decide (q < Config.numQueues) && decide (i < 2 ^ 21)
  | .ctxRestore q i => decide (q < Config.numQueues) && decide (i < 2 ^ 21)
  | .frameSupply q i => decide (q < Config.numQueues) && decide (i < 2 ^ 21)
  | .commandCompletion q i => decide (q < Config.numQueues) && decide (i < 2 ^ 21)
  | .contextFreed ctx => decide (ctx < Config.numContexts)
  | .launchPlacement h => decide (h < Config.numHarnesses)
  | .engineSpaceClearDone e => isEngine e
  | .lightingGroupStart => true
  | .wakeGroupStart => true
  | .powerGrant => true
  | .grantWaitTimeout => true
  | .engineClockGate e => isEngine e
  | .progressBeat e => isEngine e
  | .engineInvocationEnd e => isEngine e
  | .engineDrained e => isEngine e
  | .taskItemTake ctx task => decide (ctx < Config.numContexts) && decide (task < 2 ^ 16)
  | .taskItemCompletion ctx task => decide (ctx < Config.numContexts) && decide (task < 2 ^ 16)
  | .breakpointHit bp w => decide (bp < 8) && Work.wf w
  | .wickSignalApply slot _ _ => decide (slot < Config.numSlots)
  | .stepPacingExpiry h => decide (h < Config.numHarnesses)
  | .ledgerClosing => true
  | .ledgerStorageUe => true
  | .remoteWickSignal _ _ => true
  | .remoteDoorbellSignal q _ => decide (q < Config.numQueues)
  | .windowSignalWrite path slot _ => isPath path && decide (slot < Config.numSlots)
  | .wickImport path _ => isPath path
  | .wickRelease path => isPath path
  | .windowOn path => isPath path
  | .windowOff path => isPath path
  | .boundCommit path _ => isPath path
  | .boundDisable path _ => isPath path
  | .wickRowUe slot => decide (slot < Config.numSlots)
  | .stitchCacheUe ctx list epoch => decide (ctx < Config.numContexts) && decide (list < 2 ^ 16) && decide (epoch < 2 ^ 16)
  | .listVerdict _ _ => true
  | .cadenceFrameEdge => true
  | .cadenceTargetReached q i => decide (q < Config.numQueues) && decide (i < 2 ^ 21)
  | .cadInEdge => true
  | .cadLockLoss => true
  | .holdoverEdge => true
  | .relayTimeout => true
  | .cadSrcChange => true
  | .stallBudgetExpiry w => Work.wf w
  | .stallAutoResume w => Work.wf w
  | .stallResume path => isPath path
  | .stallEnd path => isPath path
  | .drainLimitExpiry e => isEngine e
  | .watchdogPet path => isPath path
  | .watchdogLapse => true
  | .l0ContextTeardown path ctx => isPath path && decide (ctx < Config.numContexts)
  | .l1EngineReset path e => isPath path && isEngine e
  | .l2HarnessReset path h => isPath path && decide (h < Config.numHarnesses)
  | .l3ChipReset path => isPath path
  | .l4PowerCycle path => isPath path
  | .orderDone => true
  | .pwrcycAckAssert => true
  | .pwrcycNoackTimeout => true
  | .rdoutAck path => isPath path
  | .readoutHoldExpiry => true
  | .pwrcycReqRelease => true
  | .jobMembershipCommit path _ => isPath path
  | .jobMembershipEnd path => isPath path
  | .errEventPost _ _ _ => true
  | .spareRetireGo path => isPath path
  | .engineReplacement e => isEngine e
  | .correctableError kind inst => decide (kind < 9) && decide (inst < 2 ^ 20)
  | .engineUe e => isEngine e
  | .walkerUe k => decide (k < 10)
  | .channelFailure stack ch => decide (stack < 16) && decide (ch < 16)
  | .poisonRead addr => decide (addr < 2 ^ 64)
  | .poisonRepairDone addr => decide (addr < 2 ^ 64)
  | .poisonConsumed e addr => isEngine e && decide (addr < 2 ^ 64)
  | .retryStepDiscard ctx h => decide (ctx < Config.numContexts) && decide (h < Config.numHarnesses)
  | .migrationFault a ctx va _ => Agent.wf a && decide (ctx < Config.numContexts) && decide (va < 2 ^ 64)
  | .migrationDmaDone ctx page _ => decide (ctx < Config.numContexts) && decide (page < 2 ^ 48)
  | .walkDone k => decide (k < 10)
  | .atsCompletion pasid va log2 pa _ _ _ => decide (pasid < 2 ^ 20) && decide (va < 2 ^ 64) && decide (12 ≤ log2 ∧ log2 < 64) && decide (pa < 2 ^ 64)
  | .priResponse ctx page _ => decide (ctx < Config.numContexts) && decide (page < 2 ^ 48)
  | .atsInvalidateRequest tag pasid va len => decide (tag < 32) && decide (pasid < 2 ^ 20) && decide (va < 2 ^ 64) && decide (len < 2 ^ 64)
  | .atsInvalidateCompletion tag => decide (tag < 32)
  | .registerInvalidation path => isPath path
  | .frameRingEntryWrite => true
  | .ztFcrHeadWrite path _ => isPath path
  | .ztFcrSizeWrite path _ => isPath path
  | .bootmapClear path => isPath path
  | .ztBootEnt0Write path _ => isPath path
  | .dtCountCommit path _ => isPath path
  | .commitWickEnable path _ => isPath path
  | .snoopTimeout line => decide (line < 2 ^ 58)
  | .coherenceDown cause agent way => decide (cause < 6) && decide (agent < 2048) && decide (way < 2 ^ 20)
  | .rollCallClose silent => silent.all fun a => decide (a < 2048)
  | .coherenceRebuildDone => true
  | .rdS agent line => decide (agent < 2048) && decide (line < 2 ^ 58)
  | .rdM agent line => decide (agent < 2048) && decide (line < 2 ^ 58)
  | .rdNa agent line => decide (agent < 2048) && decide (line < 2 ^ 58)
  | .wrT agent line _ _ => decide (agent < 2048) && decide (line < 2 ^ 58)
  | .wrNc agent line _ _ => decide (agent < 2048) && decide (line < 2 ^ 58)
  | .evict agent line => decide (agent < 2048) && decide (line < 2 ^ 58)
  | .wb agent line _ => decide (agent < 2048) && decide (line < 2 ^ 58)
  | .snpFwd agent line => decide (agent < 2048) && decide (line < 2 ^ 58)
  | .snpInv agent line => decide (agent < 2048) && decide (line < 2 ^ 58)
  | .snpBinv agent line => decide (agent < 2048) && decide (line < 2 ^ 58)
  | .snpWb agent line => decide (agent < 2048) && decide (line < 2 ^ 58)
  | .ackInv agent line => decide (agent < 2048) && decide (line < 2 ^ 58)
  | .ackFwd agent line => decide (agent < 2048) && decide (line < 2 ^ 58)
  | .cmp agent line => decide (agent < 2048) && decide (line < 2 ^ 58)
  | .data agent line => decide (agent < 2048) && decide (line < 2 ^ 58)
  | .mcStoreWrite path _ => isPath path
  | .verify path => isPath path
  | .microcodeVerdict _ _ => true
  | .handover path => isPath path
  | .clrSig path => isPath path
  | .mcSigDataWrite path _ => isPath path
  | .semRead path k => isPath path && decide (k < 64)
  | .semRelease path k => isPath path && decide (k < 64)
  | .semBreak path _ index => isPath path && decide (index < 64)
  | .portDown p => isPath p
  | .portUp p => isPath p
  | .msixSpacingEnd page => isUnitPage page
  | .pop path => isPath path
  | .evtInj path page _ => isPath path && isUnitPage page
  | .accInj path page => isPath path && isUnitPage page
  | .ueArm path page => isPath path && isUnitPage page
  | .ceArm path page => isPath path && isUnitPage page
  | .registerWrite path addr _ _ => isPath path && decide (addr < 2 ^ 25)
  | .misalignedAccess path addr size _ => isPath path && decide (addr < 2 ^ 25) && decide (size < 2 ^ 12)
  | .cadNowRead path _ => isPath path
  | .obScanDataRead path _ => isPath path
  | .traceDmaWrite buf => decide (buf < 16)
  | .traceFlushTimer buf => decide (buf < 16)
  | .traceDisable path => isPath path
  | .tbSizeWrite path _ => isPath path
  | .tbHeadWrite path _ => isPath path
  | .occupancySample => true
  | .globalStopRequest path => isPath path
  | .stopInEdge => true
  | .globalStopRelease path => isPath path
  | .breakpointCommit path _ => isPath path
  | .breakpointResume path => isPath path
  | .breakpointStep path => isPath path
  | .cnFreezeWrite path _ => isPath path
  | .ptEnWrite path p _ => isPath path && decide (p < 8)
  | .retrain path p => isPath path && decide (p < 8)
  | .laneSignalChange p lane _ => decide (p < 8) && decide (lane < 2)
  | .ts1 p lane => decide (p < 8) && decide (lane < 2)
  | .ts2 p lane _ => decide (p < 8) && decide (lane < 2)
  | .trainingAttemptTimeout p => decide (p < 8)
  | .ident p f => decide (p < 8) && Frame.wf f
  | .identSend p => decide (p < 8)
  | .identTimeout p => decide (p < 8)
  | .credit p f => decide (p < 8) && Frame.wf f
  | .creditReportTimer p => decide (p < 8)
  | .creditStallTimeout p cls => decide (p < 8) && decide (cls < 6)
  | .nak p f => decide (p < 8) && Frame.wf f
  | .replayTimer p => decide (p < 8)
  | .badFrame r => decide (r.port < 8) && decide (r.bytes.length = 32)
  | .auth p f => decide (p < 8) && Frame.wf f
  | .authDone p f => decide (p < 8) && Frame.wf f
  | .authVerdict p _ _ => decide (p < 8)
  | .authTimeout p => decide (p < 8)
  | .laneSwitch p f => decide (p < 8) && Frame.wf f
  | .laneFailure r => decide (r.port < 8) && decide (r.lane < 2)
  | .heartbeat p f => decide (p < 8) && Frame.wf f
  | .heartbeatSend p => decide (p < 8)
  | .heartbeatTimeout p => decide (p < 8)
  | .timeSyncExchange p => decide (p < 8)
  | .sync p f => decide (p < 8) && Frame.wf f
  | .followUp p f => decide (p < 8) && Frame.wf f
  | .delayReq p f => decide (p < 8) && Frame.wf f
  | .delayResp p f => decide (p < 8) && Frame.wf f
  | .relay p f => decide (p < 8) && Frame.wf f
  | .error p f => decide (p < 8) && Frame.wf f
  | .abort p f => decide (p < 8) && Frame.wf f
  | .eventForget _ _ _ => true
  | .record p f => decide (p < 8) && Frame.wf f
  | .message p f => decide (p < 8) && Frame.wf f
  | .mgTxGo path p => isPath path && decide (p < 8)
  | .mgRxConsume path p => isPath path && decide (p < 8)
  | .fpDestWrite path _ => isPath path
  | .coreResetAssert => true
  | .translationFault a ctx va _ => Agent.wf a && decide (ctx < Config.numContexts) && decide (va < 2 ^ 64)
  | .rangeCacheWayUe k => decide (k < 17)
  | .rcFieldRead path addr _ => isPath path && decide (addr < 2 ^ 25)
  | .authSessionOpen p => decide (p < 8)
  | .securityAuthBytes p _ => decide (p < 8)

end Sys2Proof
end

