-- ==== Sys2Proof/Decode.lean ====
section
/-!
DEFINITION. The reading of a table word. The block fetches no instructions: its commands are accesses, events and timers,
and spec/opcode_table.json gives none of its 224 rows any bits, so no word spells a command. The commands of a ring, which
do have an encoding (R102 to R110), are read in Machine/Operands.lean.
-/
namespace Sys2Proof

/-- The command that a word of the table's bits spells: none, since no row has bits. -/
def decodeTableWord (_nbits _w : Nat) : Option Instr := none

end Sys2Proof
end

