-- ==== Sys2Proof/Machine/Ops.lean ====
section
/-!
DEFINITION. The named operations that every row shares: access to the tables of the state, time, events and their messages
(R505 to R511), Cinder records (R457 to R461), trace records (R434 to R443), the global stop and its image (R447 to R452),
the scrub and epoch rules (R421, R422), and free values.
-/
namespace Sys2Proof.Machine

/-! ### Tables of the state -/

def Block.ctx (b : Block) (c : Nat) : Ctx := Tab.get (fun _ => {}) b.ctxs c
def Block.setCtx (b : Block) (c : Nat) (v : Ctx) : Block := { b with ctxs := Tab.set (fun _ => {}) b.ctxs c v }
def Block.queue (b : Block) (q : Nat) : HwQueue := Tab.get (fun _ => {}) b.queues q
def Block.setQueue (b : Block) (q : Nat) (v : HwQueue) : Block := { b with queues := Tab.set (fun _ => {}) b.queues q v }
def Block.harness (b : Block) (h : Nat) : Harness := Tab.get (fun _ => {}) b.harnesses h
def Block.setHarness (b : Block) (h : Nat) (v : Harness) : Block :=
  { b with harnesses := Tab.set (fun _ => {}) b.harnesses h v }
def Block.eng (b : Block) (e : Nat) : Engine := Tab.get (fun _ => {}) b.engines e
def Block.setEng (b : Block) (e : Nat) (v : Engine) : Block := { b with engines := Tab.set (fun _ => {}) b.engines e v }
def Block.slot (b : Block) (s : Nat) : Slot := Tab.get (fun _ => {}) b.slots s
def Block.setSlot (b : Block) (s : Nat) (v : Slot) : Block := { b with slots := Tab.set (fun _ => {}) b.slots s v }
def Block.vid (b : Block) (c v : Nat) : Vid := Tab.get (fun _ => .free) b.vids (c * 65536 + v)
def Block.setVid (b : Block) (c v : Nat) (x : Vid) : Block :=
  { b with vids := Tab.set (fun _ => .free) b.vids (c * 65536 + v) x }
def Block.bound (b : Block) (k : Nat) : Bound := Tab.get (fun _ => {}) b.bounds k
def Block.setBound (b : Block) (k : Nat) (v : Bound) : Block := { b with bounds := Tab.set (fun _ => {}) b.bounds k v }
def Block.pool (b : Block) (p : Nat) : List Nat := Tab.get (fun _ => []) b.pools p
def Block.setPool (b : Block) (p : Nat) (v : List Nat) : Block := { b with pools := Tab.set (fun _ => []) b.pools p v }
def Block.bootEnt (b : Block) (k : Nat) : BootEnt := Tab.get (fun _ => {}) b.boot k
def Block.port (b : Block) (p : Nat) : RPort := Tab.get (fun _ => {}) b.ports p
def Block.setPort (b : Block) (p : Nat) (v : RPort) : Block := { b with ports := Tab.set (fun _ => {}) b.ports p v }
/-- Spares not in service at power-on (R424, R536). -/
def spareAt (s : Straps) (kind i : Nat) : Bool :=
  match kind with
  | 0 => i ≠ 0
  | 1 => 8 ≤ i
  | 2 => Config.numSlots ≤ i
  | 3 => i % 17 = 16
  | 4 => i = 16
  | 5 => i % 2 = 1
  | 6 =>
    let st := i / max 1 s.coresPerStack
    let n := s.coreSpares / max 1 s.nStacks + (if st < s.coreSpares % max 1 s.nStacks then 1 else 0)
    s.coresPerStack ≤ i % max 1 s.coresPerStack + n
  | 7 => s.unitsPerStack ≤ i % 64 + s.unitSpares
  | _ => false

/-- The wear record of an instance that nothing has written: in service, or a spare (STATE 3). -/
def wear0 (s : Straps) (key : Nat) : Wear := { st := if spareAt s (key / 2 ^ 20) (key % 2 ^ 20) then 3 else 0 }

def Block.wearOf (b : Block) (kind inst : Nat) : Wear := Tab.get (wear0 b.straps) b.wear (kind * 2 ^ 20 + inst)
def Block.setWear (b : Block) (kind inst : Nat) (v : Wear) : Block :=
  { b with wear := Tab.set (wear0 b.straps) b.wear (kind * 2 ^ 20 + inst) v }

/-- Stamps (R422) of Lamplighter core `k` (key k) and of walker `k` (key 16 + k). -/
def Block.stampOf (b : Block) (k : Nat) : Nat := Tab.get (fun _ => 1) b.stamps k
def Block.setStamp (b : Block) (k v : Nat) : Block := { b with stamps := Tab.set (fun _ => 1) b.stamps k v }

def Block.tbuf (b : Block) (k : Nat) : TraceBuf := Tab.get (fun _ => {}) b.trace k
def Block.setTbuf (b : Block) (k : Nat) (v : TraceBuf) : Block := { b with trace := Tab.set (fun _ => {}) b.trace k v }
def Block.bp (b : Block) (k : Nat) : Breakpoint := Tab.get (fun _ => {}) b.bps k
def Block.setBp (b : Block) (k : Nat) (v : Breakpoint) : Block := { b with bps := Tab.set (fun _ => {}) b.bps k v }
def Block.sem (b : Block) (k : Nat) : Nat := Tab.get (fun _ => 0) b.sems k
def Block.setSem (b : Block) (k v : Nat) : Block := { b with sems := Tab.set (fun _ => 0) b.sems k v }
def Block.mcore (b : Block) (k : Nat) : MicroCore := Tab.get (fun _ => {}) b.micro k
def Block.setMcore (b : Block) (k : Nat) (v : MicroCore) : Block := { b with micro := Tab.set (fun _ => {}) b.micro k v }
def Block.word48 (b : Block) (core a : Nat) : Nat := (Tab.get (fun _ => (0 : BitVec 48)) b.store (core * 16384 + a)).toNat
def Block.setWord48 (b : Block) (core a v : Nat) : Block :=
  { b with store := Tab.set (fun _ => (0 : BitVec 48)) b.store (core * 16384 + a) (BitVec.ofNat 48 v) }

/-- The commands that satisfy `p` put through `f`. -/
def Block.mapCmds (b : Block) (p : Cmd → Bool) (f : Cmd → Cmd) : Block := { b with cmds := mapIf p f b.cmds }

/-- The command of queue `q` whose first slot has index `i`. -/
def Block.cmd? (b : Block) (q i : Nat) : Option Cmd := b.cmds.find? fun c => c.q = q ∧ c.i = i

/-- `b` with that command put through `f`. -/
def Block.modCmd (b : Block) (q i : Nat) (f : Cmd → Cmd) : Block := b.mapCmds (fun c => c.q = q ∧ c.i = i) f

def Block.task? (b : Block) (ctx id : Nat) : Option Task := b.tasks.find? fun t => t.ctx = ctx ∧ t.id = id
def Block.modTask (b : Block) (ctx id : Nat) (f : Task → Task) : Block :=
  { b with tasks := mapIf (fun t => t.ctx = ctx ∧ t.id = id) f b.tasks }
def Block.version? (b : Block) (ctx list ep : Nat) : Option Version :=
  b.versions.find? fun v => v.ctx = ctx ∧ v.listId = list ∧ v.epoch = ep
def Block.modVersion (b : Block) (ctx list ep : Nat) (f : Version → Version) : Block :=
  { b with versions := mapIf (fun v => v.ctx = ctx ∧ v.listId = list ∧ v.epoch = ep) f b.versions }
def Block.map? (b : Block) (id : Nat) : Option Mapping := b.maps.find? fun m => m.id = id
def Block.modMap (b : Block) (id : Nat) (f : Mapping → Mapping) : Block :=
  { b with maps := mapIf (fun m => m.id = id) f b.maps }
def Block.mapAt? (b : Block) (ctx va : Nat) : Option Mapping :=
  b.maps.find? fun m => m.ctx = ctx ∧ m.va ≤ va ∧ va < m.va + m.len

/-- The hardware queue of a context's queue index (R47). -/
def Block.queueOf? (b : Block) (ctx qidx : Nat) : Option Nat :=
  (b.queues.find? fun kv => kv.2.st ≠ .unused ∧ kv.2.ctx = ctx ∧ kv.2.qidx = qidx).map (·.1)

/-- Whether any row of the core domain acts: the core is up and no global stop holds it (R448, R532). -/
def Block.frozen (b : Block) : Bool := b.stop.stopped || b.pins.coreHeld

/-- A row of the core domain: it acts unless a global stop or a held reset freezes it. -/
def State.core (s : State) (f : Block → Block) : Host.Outcome State Fault Refusal :=
  .next (if s.blk.frozen then s else { s with blk := f s.blk })

/-- A row of a part that goes on while the core is stopped (R448) or held (R21). -/
def State.aon (s : State) (f : Block → Block) : Host.Outcome State Fault Refusal := .next { s with blk := f s.blk }

/-- A row of the Rein link layer, which a global stop does not hold (R448) and a held core does. -/
def State.link (s : State) (f : Block → Block) : Host.Outcome State Fault Refusal :=
  .next (if s.blk.pins.coreHeld then s else { s with blk := f s.blk })

/-- A fresh free value of `w` bits, below 2^w (log entry 9). -/
def Block.fresh (b : Block) (w : Nat) : Nat × Block :=
  ((Config.freeValue b.freeCount).toNat % 2 ^ w, { b with freeCount := b.freeCount + 1 })

/-- A free number of ZCLK cycles, at most `us` µs, and the block after it. -/
def Block.busyTime (b : Block) (us : Nat) : Nat × Block :=
  let t := b.fresh 64
  (t.1 % (us * Config.cyclesUs + 1), t.2)

/-! ### Time -/

/-- The fabric time counter in ns (R441). -/
def Block.ns (b : Block) : Nat := b.fabric / 9000000000 % 2 ^ 64

/-- The offset of a Rein register of port `p`. -/
def prt (p a : Nat) : Nat := a + p * 0x1000

/-- The TS_UP port (R387). -/
def Block.tsUp? (b : Block) : Option Nat := (List.range 8).find? fun p => bit (b.reg (prt p Reg.PT_CTL)) 3

/-- The chip's time depth (R388); 15, its reset value, until initialisation first ends (R395). -/
def Block.depth (b : Block) : Nat := if b.tsUp?.isNone then (if b.sync.started then 0 else 15) else b.sync.depth.getD 15

/-- UNLOCK of a record (R441). -/
def Block.unlock (b : Block) : Bool := b.tsUp?.isSome && decide (0 < b.depth) && !b.sync.locked

/-- The cadence (R151, R152): frames and fraction, never below what was reached before. -/
def Block.cadence (b : Block) : Nat :=
  if b.cad.started then
    max b.cad.floor (b.cad.frames * 65536 + min 0xFFFF (b.cad.cyc * 65536 / max 1 (b.reg Reg.CAD_PERIOD))) % 2 ^ 64
  else 0

/-! ### Events -/

/-- The page's type code and instance, as PG_ID shows them (R499). -/
def pageType (pg : Nat) : Nat := (pageInfo pg).typ
def pageInst (pg : Nat) : Nat := if 0x20 ≤ pg then pg - 0x20 else 0

/-- One MSI-X message of page `pg`, or a wait for the 1 µs spacing (R507). -/
def Block.msix (b : Block) (pg : Nat) : Block :=
  if b.pins.portA then
    let l := Tab.get (fun _ => 0) b.hiu.last pg
    if l = 0 ∨ l + Config.cyclesUs ≤ b.zclk + 1 then
      { b with hiu := { b.hiu with
          sent := b.hiu.sent ++ [b.field (pg * 0x1000 + Reg.PG_CTL) 10 0]
          last := Tab.set (fun _ => 0) b.hiu.last pg (b.zclk + 1)
          pend := b.hiu.pend.filter (· ≠ pg) } }
    else if b.hiu.pend.contains pg then b
    else { b with hiu := { b.hiu with pend := b.hiu.pend ++ [pg] } }
  else b

/-- A record pushed into the event FIFO of each port that is up (R509). -/
def Block.pushRec (b : Block) (r : EvRec) : Block :=
  let h := b.hiu
  let h := if !b.pins.portA then h
    else if h.fifoA.length < Config.fifoRecords then { h with fifoA := h.fifoA ++ [r] }
    else { h with lostA := satAdd 16 h.lostA 1 }
  let h := if !b.pins.portB then h
    else if h.fifoB.length < Config.fifoRecords then { h with fifoB := h.fifoB ++ [r] }
    else { h with lostB := satAdd 16 h.lostB 1 }
  { b with hiu := h }

/-- Raising bit `k` of PG_ERR of page `pg` (R505, R506, R507): `path` and `off` are those of an access error. -/
def Block.raiseBit (b : Block) (pg k ctx d0 d1 : Nat) (inj : Bool) (path off : Nat) : Block :=
  let base := pg * 0x1000
  let old := b.reg (base + Reg.PG_ERR)
  let on := bit (b.reg (base + Reg.PG_ERR_EN)) k
  let b := b.setReg (base + Reg.PG_ERR) (old ||| 2 ^ k)
  let b := b.count32 (base + if k = 0 then Reg.PG_AON3 else Reg.PG_AON2)
  let b := if bit (b.reg (base + Reg.PG_ERR_FIRST)) 31 then b
    else b.setReg (base + Reg.PG_ERR_FIRST) (2 ^ 31 + k * 2 ^ 16 + path * 2 ^ 12 + off)
  if on then
    let b := b.pushRec { time := b.ns, typ := pageType pg, inst := pageInst pg, bit := k, inj := inj, ctx := ctx, d0 := d0, d1 := d1 }
    if bit old k then b else b.msix pg
  else b

/-- An event of a unit (R505, R511). -/
def Block.event (b : Block) (pg k : Nat) (ctx : Nat := 0) (d0 : Nat := 0) (d1 : Nat := 0) : Block :=
  b.raiseBit pg k ctx d0 d1 false 0 0

/-- An access error recorded in PG_ERR of page `pg` (R10, R500, R511): `typ` is the type code of the page addressed, `off`
the offset within it, `ctx` the context of a doorbell page. -/
def Block.accessErr (b : Block) (pg path off typ : Nat) (ctx : Nat := 0) : Block :=
  b.raiseBit pg 0 ctx (path * 2 ^ 12 + off) typ false path off

/-- An access error at window offset `a` of a unit page. -/
def Block.pageErr (b : Block) (path a : Nat) : Block :=
  b.accessErr (a / 0x1000) path (a % 0x1000) (pageType (a / 0x1000))

/-- ERR_PEND of a page (R503). -/
def Block.errPend (b : Block) (pg : Nat) : Bool :=
  (b.reg (pg * 0x1000 + Reg.PG_ERR) &&& b.reg (pg * 0x1000 + Reg.PG_ERR_EN)) ≠ 0

/-! ### The global stop -/

/-- A header word of the scan-out image (R452). -/
def scanHead (sec inst n : Nat) : Nat := sec * 2 ^ 48 + inst * 2 ^ 32 + n

/-- The REIN section of a port (R452). -/
def Block.scanRein (b : Block) (p : Nat) : List Nat :=
  let r := b.port p
  if r.st = .off then []
  else [scanHead 0x20 p 3,
    r.nextSeq * 2 ^ 48 + ((r.uncovered.head?.map (·.seq)).getD r.nextSeq) * 2 ^ 40 + r.expSeq * 2 ^ 32
      + r.ackSent * 2 ^ 24 + r.mgRx.length % 256 * 2 ^ 16,
    b.reg (prt p Reg.PT_PEER_ID), r.lastGood]

/-- Global engine numbers in service, cores then units, ascending (R168, R524, R536); SM_WEAR states 2 and 3 are out of
service. -/
def Block.coreIn (b : Block) (e : Nat) : Bool := (b.wearOf 6 e).st < 2
def Block.unitIn (b : Block) (e : Nat) : Bool := (b.wearOf 7 (e - unitBase)).st < 2
def Block.allCores (b : Block) : List Nat := List.range (b.straps.nStacks * b.straps.coresPerStack)
def Block.allUnits (b : Block) : List Nat :=
  (List.range b.straps.nStacks).flatMap fun s => (List.range b.straps.unitsPerStack).map fun k => unitBase + 64 * s + k
def Block.inService (b : Block) (e : Nat) : Bool :=
  if e < unitBase then b.allCores.contains e && b.coreIn e else b.allUnits.contains e && b.unitIn e
def Block.coresIn (b : Block) : List Nat := b.allCores.filter b.coreIn
def Block.unitsIn (b : Block) : List Nat := b.allUnits.filter b.unitIn

/-- The list and version that an engine runs. -/
def Block.engVersion (b : Block) (e : Nat) : Option (Nat × Nat) :=
  match (b.eng e).use with
  | .free => none
  | .cmd q i => (b.cmd? q i).bind (·.version)
  | .task c t => (b.task? c t).map fun t => (t.listId, t.epoch)

/-- STATE of the ENGINE section (R452). -/
def Block.engState (b : Block) (e : Nat) : Nat :=
  if (b.eng e).draining then 2
  else match (b.eng e).use with
    | .free => 0
    | .cmd q i => if ((b.cmd? q i).bind (·.bp)).isSome then 4 else 1
    | .task c t => match b.task? c t with
      | some t => if t.bp.isSome then 4 else if t.item.isSome then 1 else 3
      | none => 3

/-- The ENGINE section of engine `e`: the stitches last delivered and retired are the streamer's (R206). -/
def Block.scanEngine (b : Block) (e : Nat) : List Nat :=
  let v := (b.engVersion e).getD (0, 0)
  let x := b.eng e
  [scanHead 0x30 (if e < unitBase then e else 512 + (e - unitBase)) 4, b.engState e * 2 ^ 61 + v.1 * 2 ^ 32 + v.2 * 2 ^ 16,
    x.delivered, x.retired, x.inv]

/-- The frozen image (R452). -/
def Block.scanImage (b : Block) (cause : Nat) : List Nat :=
  [scanHead 1 0 5, b.ns, b.cadence, cause, b.reg Reg.LL_DECISIONS_LO + 2 ^ 32 * b.reg Reg.LL_DECISIONS_HI, b.reg Reg.RC_EPOCH]
    ++ (List.range 8).flatMap b.scanRein ++ (b.coresIn ++ b.unitsIn).flatMap b.scanEngine ++ [0]

/-- A stop request (R447): the first one freezes the ZCLK domain. The six edges of the stop tree are timing (log entry 12). -/
def Block.requestStop (b : Block) (cause : Nat) : Block :=
  if b.stop.stopped then b
  else
    let im := b.scanImage cause
    let t := b.ns
    let b := { b with stop := { stopped := true, cause := cause, at_ := t, image := im } }
    (b.setReg Reg.OB_STOP_TIME_LO (t % 2 ^ 32)).setReg Reg.OB_STOP_TIME_HI (t / 2 ^ 32)

/-- STOP_OUT (R451, R532): high while the block is stopped, with STOP_OUT_EN set. -/
def Block.stopOut (b : Block) : Bool := b.stop.stopped && bit (b.reg Reg.OB_STOP_CTL) 3 && !b.pins.coreHeld

/-- PWR_REQ with PWR_GRP (R34, R521, R532): the engines of the group that awaits a grant. -/
def Block.pwrReq (b : Block) : Option Nat :=
  if b.pins.coreHeld then none else (b.groups.find? fun g => !g.granted).map (·.engs.length)

/-! ### The Cinder log -/

/-- The payload of a RECORD frame (R381, R393). -/
def recordPayload (chip idx : Nat) (r : BitVec 128) : BitVec 192 :=
  BitVec.ofNat 192 (chip + idx * 2 ^ 32 + r.toNat * 2 ^ 64)

/-- Each record that the log takes waits to be mirrored on the ports with CIN_OUT set, at most 256 a port (R393). -/
def Block.mirror (b : Block) (idx : Nat) (r : BitVec 128) : Block :=
  (List.range 8).foldl (fun b p =>
    if bit (b.reg (prt p Reg.PT_CTL)) 6 ∧ (b.port p).st = .run then
      let x := b.port p
      let q := x.cinq ++ [recordPayload b.chipId idx r]
      if q.length ≤ 256 then b.setPort p { x with cinq := q }
      else (b.setPort p { x with cinq := q.drop 1 }).count32 (prt p Reg.CIN_DROP)
    else b) b

/-- One record of TYPE `typ` written at CN_HEAD (R459 to R461), or counted where the log is frozen or the TYPE has had
its 1,024 records of the last ms. `own` says that it is no mirror record. -/
def Block.cinderPut (b : Block) (typ : Nat) (r : BitVec 128) (own : Bool) : Block :=
  if bit (b.reg Reg.CN_CTL) 0 then b.count32 Reg.CN_DROP
  else
    let recent := (Tab.get (fun _ => []) b.cinder.window typ).filter fun t => b.aonClk < t + Config.cyclesMs
    if 1024 ≤ recent.length ∧ typ ≠ 0x04 ∧ typ ≠ 0x10 ∧ typ ≠ 0x12 then b.count32 Reg.CN_SUPPRESS
    else
      let i := b.reg Reg.CN_HEAD
      let b := { b with cinder := { b.cinder with
        log := Tab.set (fun _ => (0 : BitVec 128)) b.cinder.log i r
        window := Tab.set (fun _ => []) b.cinder.window typ (b.aonClk :: recent) } }
      let b := b.setReg Reg.CN_HEAD ((i + 1) % Config.cinderRecords)
      let b := if i + 1 = Config.cinderRecords then b.count32 Reg.CN_WRAPS else b
      let b := if own then b.mirror i r else b
      let freeze (b : Block) : Block := ({ b with cinder := { b.cinder with post := none } }).setReg Reg.CN_CTL 1
      let b := match b.cinder.post with
        | some k => if k ≤ 1 then freeze b else { b with cinder := { b.cinder with post := some (k - 1) } }
        | none =>
          if typ ≠ 0 ∧ typ < 32 ∧ bit (b.reg Reg.CN_FREEZE_MASK) typ then
            if b.reg Reg.CN_POST = 0 then freeze b
            else { b with cinder := { b.cinder with post := some (b.reg Reg.CN_POST) } }
          else b
      let b := if typ = 0x10 ∧ own then freeze b else b
      if bit (b.reg Reg.OB_STOP_CTL) 4 ∧ typ ≠ 0 ∧ typ = b.reg Reg.OB_STOP_TYPE ∧ !b.pins.coreHeld then b.requestStop 4 else b

/-- The record of a cause (R457, R458). -/
def Block.cinderRec (b : Block) (typ code ctx data : Nat) : Block :=
  let w1 := typ * 2 ^ 56 + ofBit b.unlock * 2 ^ 51 + code % 256 * 2 ^ 40 + ctx % 4096 * 2 ^ 28 + data % 2 ^ 28
  b.cinderPut typ (BitVec.ofNat 128 (b.ns + w1 * 2 ^ 64)) true

/-! ### Trace records -/

/-- Word 0 of a trace record (R434). -/
def Block.traceWord0 (b : Block) (typ ctx qidx idx : Nat) : Nat :=
  typ * 2 ^ 56 + ctx * 2 ^ 44 + qidx * 2 ^ 40 + ofBit b.unlock * 2 ^ 39 + idx

/-- A 32-byte record of four words. -/
def traceRec (w0 w1 w2 w3 : Nat) : BitVec 256 :=
  BitVec.ofNat 256 (w0 % 2 ^ 64 + w1 % 2 ^ 64 * 2 ^ 64 + w2 % 2 ^ 64 * 2 ^ 128 + w3 % 2 ^ 64 * 2 ^ 192)

/-- Records that a buffer of 64 KiB holds. -/
def traceFree (t : TraceBuf) : Nat := Config.traceBytes - 32 * t.recs.length

/-- The place of a record among those of one edge (R436): its type, then the hardware queue of its command; a LOST record keeps its
place. -/
def Block.recKey (b : Block) (r : BitVec 256) : Nat :=
  let w := r.toNat % 2 ^ 64
  let rank := match w / 2 ^ 56 with
    | 3 => 1
    | 2 => 2
    | 4 => 3
    | 1 => 4
    | _ => 0
  if rank = 0 then 0 else rank * 2 ^ 12 + (b.queueOf? (w / 2 ^ 44 % 4096) (w / 2 ^ 40 % 16)).getD 0

/-- A record sampled at `now` put among records held newest first with their times. -/
def Block.placeRec (b : Block) (now : Nat) (r : BitVec 256) : List (BitVec 256 × Nat) → List (BitVec 256 × Nat)
  | [] => [(r, now)]
  | y :: t => if y.2 = now ∧ b.recKey r < b.recKey y.1 then y :: b.placeRec now r t else (r, now) :: y :: t

/-- One record offered to buffer `k` (R435, R436, R439). -/
def Block.traceTo (b : Block) (k : Nat) (r : BitVec 256) : Block :=
  let t := b.tbuf k
  if traceFree t < 64 then b.setTbuf k { t with dropped := t.dropped + 1, lost := satAdd 32 t.lost 1 }
  else
    let lostRec := if t.dropped = 0 then []
      else [traceRec (b.traceWord0 0x0F 0 0 0) b.ns t.dropped 0]
    let held := (t.recs.zip t.times ++ lostRec.map fun x => (x, b.zclk)).reverse
    let l := (b.placeRec b.zclk r held).reverse
    b.setTbuf k { t with recs := l.map (·.1), times := l.map (·.2), dropped := 0 }

/-- A record offered to every buffer that takes it. -/
def Block.traceAll (b : Block) (take : Nat → TraceBuf → Bool) (ctx : Nat) (r : BitVec 256) : Block :=
  (List.range 16).foldl (fun b k =>
    let t := b.tbuf k
    if t.en ∧ take k t ∧ (!t.filt ∨ t.ctx = ctx) then b.traceTo k r else b) b

/-- A pair of PROF_START and PROF_END rewrites the latch (R443). -/
def Block.latchProf (b : Block) (start fin : BitVec 256) : Block :=
  let b := (List.range 16).foldl (fun b k =>
    b.setReg (Reg.OB_LATCH0 + 4 * k) ((start.toNat + fin.toNat * 2 ^ 256) / 2 ^ (32 * k) % 2 ^ 32)) b
  b.setReg Reg.OB_LATCH_GEN ((b.reg Reg.OB_LATCH_GEN + 1) % 2 ^ 32)

/-- PROF_START of a command (R434, R442). -/
def Block.profStart (b : Block) (c : Cmd) (w3 : Nat) : Block :=
  if c.prof then
    let r := traceRec (b.traceWord0 0x02 c.ctx c.qidx c.i) b.ns c.valTime w3
    (b.traceAll (fun _ t => t.profile) c.ctx r).modCmd c.q c.i fun c => { c with startRec := some r }
  else b

/-- PROF_END of a command (R434, R442): with its PROF_START it is the pair that the latch takes (R443; log entry 101). -/
def Block.profEnd (b : Block) (c : Cmd) (status : Nat) : Block :=
  if c.prof then
    let w2 := min c.beats (2 ^ 32 - 1) * 2 ^ 32 + min c.stalls 65535 * 2 ^ 16 + status
    let w3 := min (c.placeCycles / Config.cyclesUs) (2 ^ 32 - 1) * 2 ^ 32 + min (c.faultCycles / Config.cyclesUs) (2 ^ 32 - 1)
    let r := traceRec (b.traceWord0 0x03 c.ctx c.qidx c.i) b.ns w2 w3
    let b := b.traceAll (fun _ t => t.profile) c.ctx r
    match c.startRec with
    | some s => b.latchProf s r
    | none => b
  else b

/-! ### Epochs, codes and queues -/

/-- RC_EPOCH advances (R421), and every clocked engine, Lamplighter core and walker in service applies the event and
takes it as its stamp (R422). -/
def Block.bumpEpoch (b : Block) : Block :=
  let old := b.reg Reg.RC_EPOCH
  let wrap := old = 2 ^ 32 - 1
  let n := if wrap then 1 else old + 1
  let b := b.setReg Reg.RC_EPOCH n
  let b := (b.allCores ++ b.allUnits).foldl (fun b e =>
    let x := b.eng e
    if b.inService e ∧ x.lit ∧ !x.gated then b.setEng e { x with stamp := if wrap then 0 else n, tlb := [] }
    else if wrap then b.setEng e { x with stamp := 0 } else b) b
  let b := (List.range 3).foldl (fun b k =>
    if wrap then b.setStamp k 0 else if (b.wearOf 0 k).st < 2 then b.setStamp k n else b) b
  (List.range 10).foldl (fun b k =>
    if wrap then b.setStamp (16 + k) 0 else if (b.wearOf 1 k).st < 2 then b.setStamp (16 + k) n else b) b

/-- The engine code E of R511, the L1 TARGET of RC_ORDER with KIND. -/
def engCode (e : Nat) : Nat := if e < unitBase then e else 2 ^ 12 + (e - unitBase)

/-- The engine that a code E names. -/
def ofEngCode (c : Nat) : Nat := if bit c 12 then unitBase + c % 1024 else c % 512

/-- The code Q of R511. -/
def qCode (qidx i : Nat) : Nat := qidx * 2 ^ 21 + i

/-- The code T of R511. -/
def tCode (task : Nat) : Nat := 2 ^ 63 + task

/-- The stack that an engine is near to (R308, R524). -/
def Block.nearStack (b : Block) (e : Nat) : Nat :=
  if e < unitBase then e / max 1 b.straps.coresPerStack else (e - unitBase) / 64

/-- Slots of a queue's ring (R82). -/
def HwQueue.slots (q : HwQueue) : Nat := 2 ^ q.ringLog2 / 64
def HwQueue.doorbell (q : HwQueue) : Nat := q.dbCount % (2 * q.slots)

/-- Commands of a queue that are fetched and not completed (R89). -/
def Block.inflight (b : Block) (q : Nat) : Nat := (b.cmds.filter fun c => c.q = q).length

/-- Whether a context is SAVED, and so its queues fetch nothing (R57). -/
def Block.saved (b : Block) (ctx : Nat) : Bool := (b.ctx ctx).st = .saved


end Sys2Proof.Machine
end

