-- ==== Sys2Proof/Machine/Link.lean ====
section
/-!
DEFINITION. Sending on a Rein port: credited frames (R360 to R364), LINK frames, the posting of ERR events (R382, R383,
R411), and what a port does when it leaves a state (R375).
-/
namespace Sys2Proof.Machine

/-- A field of a list with 0 beyond its end. -/
def nth (l : List Nat) (k : Nat) : Nat := l.getD k 0

/-- Credits of a class that the sender holds (R363). -/
def RPort.avail (r : RPort) (c : Nat) : Nat :=
  nth r.allot c - ((nth r.sent c + 65536 - nth r.reported c) % 65536)

/-- ACK of the receive direction, which every frame carries; ACK_VALID says that a frame has been accepted (R360). -/
def RPort.ackNow (r : RPort) : Nat := r.ackedTo.getD 0

/-! ### The frame on the wire (R358, R359) -/

/-- One step of the CRC-32 of R359, reflected. -/
def crc32Bit (c : Nat) : Nat := if c % 2 = 1 then c / 2 ^^^ 0xEDB88320 else c / 2
def crc32Byte (c : Nat) (x : Byte) : Nat := (List.range 8).foldl (fun c _ => crc32Bit c) (c ^^^ x.toNat)

/-- The CRC-32 of R359. -/
def crc32 (bs : List Byte) : Nat := bs.foldl crc32Byte 0xFFFFFFFF ^^^ 0xFFFFFFFF

/-- The header of a frame (R358). -/
def frameHeader (f : Frame) : Nat :=
  f.cls * 2 ^ 29 + f.typ * 2 ^ 24 + f.seq * 2 ^ 16 + f.ack * 2 ^ 8 + ofBit f.ackValid * 2 ^ 7 + ofBit f.replay * 2 ^ 6 + f.resv

/-- Bytes 0 to 27 of a frame. -/
def frameBody (f : Frame) : List Byte := leBytes 4 (frameHeader f) ++ leBytes 24 f.payload.toNat

/-- The 32 bytes of a frame, byte 0 first, with its CRC (R358, R359). -/
def frameBytes (f : Frame) : List Byte := frameBody f ++ leBytes 4 (crc32 (frameBody f))

/-- Whether R381 gives the class and the type. -/
def typeGiven (cls typ : Nat) : Bool :=
  match cls with
  | 0 => decide (typ ≤ 3)
  | 1 => decide (typ ≤ 1)
  | 7 => decide (typ ≤ 5)
  | 6 => false
  | _ => decide (typ = 0)

/-- The good frame in 32 received bytes, if they are one (R358, R359). -/
def frameOf (bs : List Byte) : Option Frame :=
  let h := ofLeBytes (bs.take 4)
  let f : Frame := {
    cls := bits h 31 29, typ := bits h 28 24, seq := bits h 23 16, ack := bits h 15 8, ackValid := bit h 7, replay := bit h 6
    resv := h % 64, payload := BitVec.ofNat 192 (ofLeBytes ((bs.drop 4).take 24)) }
  if bs.length = 32 ∧ ofLeBytes (bs.drop 28) = crc32 (bs.take 28) ∧ f.resv = 0 ∧ typeGiven f.cls f.typ then some f else none

/-! ### Sending -/

/-- A frame handed to the transmitter. -/
def RPort.emit (r : RPort) (f : Frame) : RPort :=
  { r with out := r.out ++ [{ f with ack := r.ackNow, ackValid := r.ackedTo.isSome }], ackSent := r.ackNow }

/-- A frame not yet numbered. -/
def newFrame (cls typ : Nat) (payload : BitVec 192) : Frame :=
  { cls := cls, typ := typ, seq := 0, ack := 0, ackValid := true, replay := false, resv := 0, payload := payload }

/-- A LINK frame (class 7), neither credited nor sequenced. -/
def RPort.emitLink (r : RPort) (typ : Nat) (payload : BitVec 192) : RPort :=
  r.emit (newFrame 7 typ payload)

/-- What the leaving of a time frame stamps (R389): T1 as SYNC leaves, which FOLLOW_UP carries, and T3 as DELAY_REQ leaves. -/
def RPort.stamp (now : Nat) (r : RPort) (f : Frame) : RPort × Frame :=
  match f.cls, f.typ with
  | 0, 0 => ({ r with syncLeft := now }, f)
  | 0, 1 => (r, { f with payload := BitVec.ofNat 192 (f.payload.toNat % 2 ^ 64 + r.syncLeft * 2 ^ 64) })
  | 0, 2 => ({ r with t3 := now }, f)
  | _, _ => (r, f)

/-- One waiting frame sent, if its class has a credit and the replay buffer has room (R361, R362). ERR frames go ahead of
every other class (R383); a frame without credit holds only later frames of its class. The wait of a class for credit starts again
as a frame of it leaves (R364). -/
def RPort.pumpOne (now : Nat) (r : RPort) : Option RPort :=
  if Config.replayFrames ≤ r.uncovered.length then none
  else
    let ready := r.txq.filter fun f => 0 < r.avail f.cls
    match (ready.filter (·.cls = 1) ++ ready.filter (·.cls ≠ 1)).head? with
    | none => none
    | some f =>
      let (r, g) := r.stamp now { f with seq := r.nextSeq, ack := r.ackNow, ackValid := r.ackedTo.isSome }
      some { r with
        txq := r.txq.erase f
        out := r.out ++ [g]
        ackSent := r.ackNow
        uncovered := r.uncovered ++ [g]
        nextSeq := (r.nextSeq + 1) % 256
        stallCycles := modAt (fun _ => 0) f.cls r.stallCycles
        sent := modAt (fun n => (n + 1) % 65536) f.cls r.sent }

/-- Frames sent until none can go; `n` bounds their number. -/
def RPort.pumpN (now : Nat) : Nat → RPort → RPort
  | 0, r => r
  | n + 1, r => match r.pumpOne now with
    | none => r
    | some r' => RPort.pumpN now n r'

def RPort.pump (now : Nat) (r : RPort) : RPort := RPort.pumpN now r.txq.length r

/-- Mirror records move into the transmit queue, oldest first, as far as CIN credits are free for them (R393). -/
def RPort.pumpCin (r : RPort) : RPort :=
  let n := r.avail 4 - (r.txq.filter (·.cls = 4)).length
  { r with
    cinq := r.cinq.drop n
    txq := r.txq ++ (r.cinq.take n).map (newFrame 4 0) }

/-- Everything that can leave now: the frames queued first, then the mirror records. -/
def RPort.flush (now : Nat) (r : RPort) : RPort := ((RPort.pump now r).pumpCin).pump now

def Block.modPort (b : Block) (p : Nat) (f : RPort → RPort) : Block := b.setPort p (f (b.port p))

/-- Credited frames queued on port `p` in QUARANTINE (heartbeats) or RUN, one behind the other, and sent if they can be. -/
def Block.sendFrames (b : Block) (p : Nat) (l : List Frame) : Block :=
  b.modPort p fun r => RPort.flush b.ns { r with txq := r.txq ++ l }

/-- A credited frame queued on port `p`. -/
def Block.sendFrame (b : Block) (p cls typ : Nat) (payload : BitVec 192) : Block := b.sendFrames p [newFrame cls typ payload]

def Block.sendLink (b : Block) (p typ : Nat) (payload : BitVec 192) : Block := b.modPort p fun r => r.emitLink typ payload

/-- A payload from its little-endian number. -/
def pay (n : Nat) : BitVec 192 := BitVec.ofNat 192 n

/-- Bytes [lo, lo + n) of a payload as a number. -/
def payField (p : BitVec 192) (lo n : Nat) : Nat := p.toNat / 2 ^ (8 * lo) % 2 ^ (8 * n)

/-- The payload of an ERR frame (R382). -/
def errPayload (origin no job code hops inc time : Nat) : BitVec 192 :=
  pay (origin + no * 2 ^ 32 + job * 2 ^ 64 + code * 2 ^ 96 + hops * 2 ^ 104 + inc * 2 ^ 112 + time * 2 ^ 128)

/-- An event that is outside R385 is counted once. -/
def Block.errLate (b : Block) (p : Nat) (payload : BitVec 192) : Block :=
  (b.modPort p fun r => { r with lateErrs := r.lateErrs ++ [payload] }).count32 (prt p Reg.ERR_LATE)

/-- An ERR event sent three times on port `p`, in consecutive frames (R383). A copy that has to wait makes it late (R385). -/
def Block.sendErr (b : Block) (p typ : Nat) (payload : BitVec 192) : Block :=
  let b := b.sendFrames p (List.replicate 3 (newFrame 1 typ payload))
  if (b.port p).txq.any fun f => f.cls = 1 ∧ f.payload = payload then b.errLate p payload else b

/-- Ports in RUN. -/
def Block.runPorts (b : Block) : List Nat := (List.range 8).filter fun p => (b.port p).st = .run

/-- The block remembers an event, the last 256 across all ports (R383). -/
def Block.remember (b : Block) (origin inc no : Nat) : Block :=
  let e : ErrSeen := { origin := origin, inc := inc, no := no }
  { b with seen := (b.seen ++ [e]).drop (b.seen.length + 1 - Config.rememberedEvents) }

/-- The Recovery Controller posts an event for a job on every port in RUN (R411): `abort` or ERROR. -/
def Block.postErr (b : Block) (abort : Bool) (job code : Nat) : Block :=
  let no := b.reg Reg.RC_EVENT_NO
  let inc := b.reg Reg.WK_INCARNATION % 65536
  let b := b.setReg Reg.RC_EVENT_NO ((no + 1) % 2 ^ 32)
  let pl := errPayload b.chipId no job (code % 256) 0 inc b.ns
  b.runPorts.foldl (fun b p => b.sendErr p (ofBit abort) pl) b

end Sys2Proof.Machine
end

