-- ==== Sys2Proof/Machine/Memory.lean ====
section
/-!
DEFINITION. Memory as the block reaches it: the layout of device memory (R305, R306), the resolution of a virtual address
(R270 to R275), reads and writes in place, poisoned bursts (R415 to R419), bursts (R309), and the translation caches (R277,
R278).
-/
namespace Sys2Proof.Machine

/-! ### The layout of device memory -/

/-- The channels set in a mask, ascending. -/
def channels (m : Nat) : List Nat := (List.range 16).filter fun k => bit m k

/-- Bytes of stack `s` under the layout in force (R305). -/
def Block.stackBytes (b : Block) (s : Nat) : Nat := alignDown (nth b.layMb s * 1000000) 65536

/-- Whether a device physical address is device memory (R305). -/
def Block.isDev (b : Block) (pa : Nat) : Bool :=
  decide (pa / 2 ^ 37 < b.straps.nStacks) && decide (pa % 2 ^ 37 < b.stackBytes (pa / 2 ^ 37))

/-- The channel that holds a device address (R305). -/
def Block.channelOf (b : Block) (pa : Nat) : Nat :=
  let cs := channels (nth b.layChan (pa / 2 ^ 37))
  nth cs (pa % 2 ^ 37 / 65536 % max 1 cs.length)

/-- Whether the channel of a device address has failed since the layout was computed (R307, R419). -/
def Block.chanFailed (b : Block) (pa : Nat) : Bool := !bit (nth b.chanOk (pa / 2 ^ 37)) (b.channelOf pa)

/-- The layout computed from the channels in service (R306). -/
def Block.computeLayout (b : Block) : Block :=
  let mb := (List.range b.straps.nStacks).map fun s => b.straps.channelMb * 16 * (channels (nth b.chanOk s)).length / 16
  { b with capMb := mb, layChan := b.chanOk, layMb := mb }

/-! ### Resolving one address -/

/-- Where an access lands. -/
inductive Phys where
  | dev (a : Nat)
  | host (a : Nat)
deriving DecidableEq, Repr

/-- What an access meets: its place or data; an ATS translation that must be asked for first (PASID and 4 KiB page); a wait for
Port A or for a repair (R34, R416); a MIGRATING page to wait for in place (R274 row 9); a migration or page request to start or
join; a poisoned burst without a golden copy, read or only named (R418); or a fault of status `st`. -/
inductive MRes (α : Type) where
  | ok (v : α)
  | ask (pasid va : Nat)
  | wait
  | join (va : Nat)
  | migrate (va : Nat)
  | poison (burst : Nat) (consumed : Bool)
  | bad (st : Nat)
deriving DecidableEq, Repr

def MRes.bind {α β : Type} (m : MRes α) (f : α → MRes β) : MRes β :=
  match m with
  | .ok v => f v
  | .ask p a => .ask p a
  | .wait => .wait
  | .join a => .join a
  | .migrate a => .migrate a
  | .poison a x => .poison a x
  | .bad st => .bad st

/-- A fault takes what `f` makes of its status. -/
def MRes.onBad {α : Type} (m : MRes α) (f : Nat → MRes α) : MRes α :=
  match m with
  | .bad st => f st
  | m => m

/-- An access that would succeed is refused with FAULT_PROT where `no` holds. -/
def MRes.guard {α : Type} (m : MRes α) (no : Bool) : MRes α :=
  match m with
  | .bad st => .bad st
  | m => if no then .bad 0x21 else m

/-- Rights that an access needs, as bits: 1 RD, 2 WR, 4 AT (R274). -/
abbrev needRd : Nat := 1
abbrev needWr : Nat := 2
abbrev needAt : Nat := 4

/-- Whether rights rd, wr, at cover `need`. -/
def covers (rd wr at_ : Bool) (need : Nat) : Bool :=
  (!bit need 0 || rd) && (!bit need 1 || wr) && (!bit need 2 || at_)

/-- The lowest-numbered VALID boot-map entry that covers `va` (R271). -/
def Block.bootFor? (b : Block) (va : Nat) : Option BootEnt :=
  if va < 4096 ∨ 2 ^ 48 ≤ va then none
  else ((List.range 64).map b.bootEnt).find? fun e => e.valid ∧ e.vpn = va / 2 ^ 30

/-- A device address, or FAULT_XLAT where no device memory lies (R305). -/
def Block.devAt (b : Block) (pa : Nat) : MRes Phys := if b.isDev pa then .ok (.dev pa) else .bad 0x20

/-- A host address; an access waits while Port A is down (R34). -/
def Block.hostPlace (b : Block) (pa : Nat) : MRes Phys := if b.pins.portA then .ok (.host pa) else .wait

/-- Boot-map translation (R271). -/
def Block.resolveBoot (b : Block) (va need : Nat) : MRes Phys :=
  match b.bootFor? va with
  | none => .bad 0x20
  | some e =>
    if covers e.rd e.wr false need then
      let pa := e.ppn * 2 ^ 30 + va % 2 ^ 30
      if e.host then b.hostPlace pa else b.devAt pa
    else .bad 0x21

/-- The place a host translation reaches (log entry 10). -/
def Block.hostAt (b : Block) (pa : Nat) : MRes Phys :=
  match Config.atsTarget pa with
  | some d => b.devAt d
  | none => b.hostPlace pa

/-- The cached ATS completion that covers `va` of a PASID. -/
def Block.atsFor? (b : Block) (pasid va : Nat) : Option AtsEnt :=
  b.atsCache.find? fun e => e.pasid = pasid ∧ e.va ≤ va ∧ va < e.va + 2 ^ e.log2

/-- ATS translation of `va` in a PASID (R269, R280, R286). An access that the completion refuses is a fault under the PRI
flow in an ATS-mode context (R274 row 4), and FAULT_XLAT for an access in place in RANGE mode (log entry 21). -/
def Block.resolveAts (b : Block) (pasid va need : Nat) (pri : Bool) : MRes Phys :=
  if !b.pins.ats then .bad 0x20
  else match b.atsFor? pasid va with
    | some e =>
      if covers e.rd e.wr e.wr need then b.hostAt (e.pa + (va - e.va))
      else if pri then .migrate va else .bad 0x20
    | none => .ask pasid (alignDown va 4096)

/-- Whether a register invalidation covers `va` (R298). -/
def Mapping.dead (m : Mapping) (va : Nat) : Bool := m.invalid.any fun r => r.1 ≤ va ∧ va < r.1 + r.2

/-- The page record of `va` in a mapping (R276). -/
def Mapping.page (m : Mapping) (va : Nat) : PageSt := Tab.get (fun _ => .host) m.pages (va / 65536)

/-- Boot-map mode (R270). -/
def Block.bootmap (b : Block) : Bool := bit (b.reg Reg.ZT_CTL) 0

/-- R274: one access of context `c` at `va`. `inPlace` says that the agent does not migrate the page (R275). -/
def Block.resolve (b : Block) (c va need : Nat) (inPlace : Bool) : MRes Phys :=
  if b.bootmap then b.resolveBoot va need
  else match b.mapAt? c va with
    | none => .bad 0x20
    | some m =>
      if m.dead va then .bad 0x20
      else if !covers m.rd m.wr m.at_ need then .bad 0x21
      else if (b.ctx c).ats then b.resolveAts (b.ctx c).pasid va (need % 4 ||| (if bit need 2 then 2 else 0)) true
      else if m.backed then b.devAt (m.backing + (va - m.va))
      else match m.page va with
        | .device f _ => b.devAt (f + va % 65536)
        | .migrating => if inPlace then .join va else .migrate va
        | .host => if inPlace then b.resolveAts (b.ctx c).pasid va need false else .migrate va

/-- `n` addresses from `va`. -/
def Block.resolveN (b : Block) (c need : Nat) (inPlace : Bool) : Nat → Nat → MRes (List Phys)
  | _, 0 => .ok []
  | va, n + 1 => (b.resolve c va need inPlace).bind fun p => (b.resolveN c need inPlace (va + 1) n).bind fun t => .ok (p :: t)

/-! ### Poison -/

/-- The mappings that a device burst lies in, each with the burst's address in it (R416). -/
def Block.mapsOf (b : Block) (pa : Nat) : List (Mapping × Nat) :=
  b.maps.filterMap fun m =>
    if m.backed then
      if m.backing ≤ pa ∧ pa < m.backing + m.len then some (m, m.va + (pa - m.backing)) else none
    else match m.pages.find? fun kv => match kv.2 with
        | .device f _ => decide (f ≤ pa ∧ pa < f + Config.pageBytes)
        | _ => false with
      | some (n, .device f _) => some (m, n * Config.pageBytes + (pa - f))
      | _ => none

/-- The SHARED_RO mapping with a golden copy that a burst lies in (R416); none for a failed channel (R419). -/
def Block.goldenOf (b : Block) (pa : Nat) : Option (Mapping × Nat) :=
  if b.chanFailed pa then none else (b.mapsOf pa).find? fun x => x.1.sharedRo ∧ x.1.golden ≠ 0

/-- Whether a marked burst is frozen for repair (R416). -/
def Block.repairs (b : Block) (p : Poison) : Bool := !p.dead && (b.goldenOf p.addr).isSome

/-- A poisoned burst (R415, R419): none where clean, else whether it is frozen for repair (R416). -/
def Block.poisonAt (b : Block) (pa : Nat) : Option Bool :=
  match b.poison.find? fun p => p.addr = alignDown pa 256 with
  | some p => some (b.repairs p)
  | none => if b.chanFailed pa then some false else none

/-- DATA of a POISON record and DETAIL0 of a poison event (R458, R511). -/
def burstCode (pa : Nat) : Nat := pa / 2 ^ 37 * 2 ^ 24 + pa % 2 ^ 37 / 65536

/-! ### Data -/

/-- One byte at a place. -/
def Block.byteAt (b : Block) : Phys → Byte
  | .dev a => Memory.byte b.dev a
  | .host a => Memory.byte b.host a

/-- A byte read by a block agent: it waits for a repair (R416, R417) and meets POISON without a golden copy (R418). -/
def Block.readAt (b : Block) : Phys → MRes Byte
  | .host a => .ok (Memory.byte b.host a)
  | .dev a => match b.poisonAt a with
    | none => .ok (Memory.byte b.dev a)
    | some true => .wait
    | some false => .poison (alignDown a 256) true

def Block.readPlaces (b : Block) : List Phys → MRes (List Byte)
  | [] => .ok []
  | p :: t => (b.readAt p).bind fun x => (b.readPlaces t).bind fun l => .ok (x :: l)

/-- `n` bytes at `va` of context `c`, read in place. -/
def Block.readVa (b : Block) (c va n : Nat) (need : Nat := needRd) (inPlace : Bool := true) : MRes (List Byte) :=
  (b.resolveN c need inPlace va n).bind b.readPlaces

/-- A write of one byte at a place; a copy of the line in the coherence domain is removed first (R347). -/
def Block.putByte (b : Block) (p : Phys) (x : Byte) : Block :=
  match p with
  | .dev a => { b with
      dev := Tab.set memDefault b.dev a x
      coh := { b.coh with
        caches := b.coh.caches.filter fun l => l.line ≠ a / 64 ∨ l.st = .m
        dir := b.coh.dir.filter fun d => d.line ≠ a / 64 ∨ d.st = .m } }
  | .host a => { b with host := Tab.set memDefault b.host a x }

/-- A burst whose 256 bytes are all written loses its mark, and its mapping the freeze (R415, R418). -/
def Block.clearMarks (b : Block) (ps : List Phys) : Block :=
  let full (p : Poison) : Bool := (List.range 256).all fun k => ps.contains (.dev (p.addr + k))
  let gone := b.poison.filter full
  if gone.isEmpty then b
  else { b with
    poison := b.poison.filter (!full ·)
    maps := b.maps.map fun m => { m with frozen := m.frozen.filter fun a => !(gone.any fun p => p.addr = a) } }

/-- Bytes written at places. -/
def Block.putBytes (b : Block) (ps : List Phys) (xs : List Byte) : Block :=
  ((ps.zip xs).foldl (fun b px => b.putByte px.1 px.2) b).clearMarks ps

/-- Whether a place lies on a line of the coherence domain. -/
def onLine (l : Nat) : Phys → Bool
  | .dev a => a / 64 = l
  | .host _ => false

/-- Whether an access of places that goes through the home has to wait (R333, R338, R347): for a transaction or a request of one of
their lines, or for a copy in M. -/
def Block.homeHolds (b : Block) (ps : List Phys) : Bool :=
  (b.coh.txns.any fun t => ps.any (onLine t.line)) || (b.coh.queue.any fun m => ps.any (onLine m.line))
    || b.coh.caches.any fun l => decide (l.st = .m) && ps.any (onLine l.line)

/-- Bytes written at `va` of context `c`, in place. -/
def Block.writeVa (b : Block) (c va : Nat) (xs : List Byte) (need : Nat := needWr) (inPlace : Bool := true) : MRes Block :=
  (b.resolveN c need inPlace va xs.length).bind fun ps => .ok (b.putBytes ps xs)

/-- A write that goes through the home (R333, R347). -/
def Block.writeHome (b : Block) (c va : Nat) (xs : List Byte) (need : Nat := needWr) : MRes Block :=
  (b.resolveN c need true va xs.length).bind fun ps => if b.homeHolds ps then .wait else .ok (b.putBytes ps xs)

/-- An ATS Translation Request for a page of 2^log2 bytes (R280), unless it is outstanding; `who` waits for it. -/
def Block.askAts (b : Block) (pasid va : Nat) (who : List Asker) (log2 : Nat := 12) : Block :=
  if b.atsAsked.any fun x => x.pasid = pasid ∧ x.va = va ∧ x.log2 = log2 then
    { b with atsAsked := mapIf (fun x => x.pasid = pasid ∧ x.va = va ∧ x.log2 = log2) (fun x => { x with who := dedup (x.who ++ who) }) b.atsAsked }
  else
    let x : AtsAsk := { pasid := pasid, va := va, log2 := log2, who := who }
    { b with atsAsked := b.atsAsked ++ [x] }.count32 Reg.ZT_ATS_MISS

/-! ### Bursts (R309) -/

/-- The pieces of a transfer: offset and length; `n` bounds their number. -/
def pieces (src dst : Nat) : Nat → Nat → Nat → List (Nat × Nat)
  | 0, _, _ => []
  | n + 1, off, len =>
    if len = 0 then []
    else
      let k := min len (min (256 - (src + off) % 256) (256 - (dst + off) % 256))
      (off, k) :: pieces src dst n (off + k) (len - k)

/-- The home stacks of a queue's bound harness; none where no harness is bound, and every channel is near (R308). -/
def Block.homeOf (b : Block) (q : Nat) : Option Nat := (b.queue q).harness.map fun h => (b.harness h).home

/-- One burst into a place, counted where its channel is far from the stacks `near` (R308). -/
def Block.countFar (b : Block) (near : Option Nat) (p : Phys) : Block :=
  match near, p with
  | some m, .dev a => if bit m (a / 2 ^ 37) then b else b.count32 Reg.FAR_BURST
  | _, _ => b

/-- Counting the bursts of a block DMA transfer of `len` bytes: `places` are the places of the side it moves data into. -/
def Block.countBursts (b : Block) (q src dst len : Nat) (places : List Phys) : Block :=
  (pieces src dst len 0 len).foldl (fun b p =>
    let b := if p.2 < 256 then b.count32 Reg.SHORT_BURST else b
    match places[p.1]? with
    | some a => b.countFar (b.homeOf q) a
    | none => b) b

/-! ### Translation caches (R277, R278) -/

/-- The set of a range-cache entry (R277). -/
def rangeSet (ctx va : Nat) : Nat :=
  (ctx % 1024) ^^^ bits va 21 12 ^^^ bits va 31 22 ^^^ bits va 41 32 ^^^ bits va 51 42

/-- Ways of a range-cache set in service: 16, or 15 once the spare way has gone too (R424). -/
def Block.rangeWays (b : Block) : Nat := min 16 ((List.range 17).filter fun k => (b.wearOf 4 k).st < 2).length

/-- The set of mapping `id`. -/
def Block.setOf (b : Block) (id : Nat) : Nat := match b.map? id with
  | some m => rangeSet m.ctx m.va
  | none => 0

/-- A mapping record enters the range cache as the most recently used of its set, in its own way or the lowest free one; a full
set loses its least recently used entry. Entries are (mapping, way), most recently used first. -/
def Block.fillRange (b : Block) (id : Nat) : Block :=
  let s := b.setOf id
  let old := b.rangeCache.find? (·.1 = id)
  let others := b.rangeCache.filter (·.1 ≠ id)
  let same := others.filter fun k => b.setOf k.1 = s
  let drop := same.drop (b.rangeWays - 1)
  let used := (same.take (b.rangeWays - 1)).map (·.2)
  let way := match old with
    | some x => x.2
    | none => ((List.range 17).find? fun w => (b.wearOf 4 w).st < 2 ∧ !used.contains w).getD 0
  { b with rangeCache := (id, way) :: others.filter fun k => !drop.contains k }

/-- 64 page records enter the page-record cache. -/
def Block.fillPages (b : Block) (id grp : Nat) : Block :=
  { b with pageCache := ((id, grp) :: b.pageCache.filter (· ≠ (id, grp))).take 4096 }

/-- The group of 64 page records that holds `va` in a mapping (R277). -/
def Mapping.group (m : Mapping) (va : Nat) : Nat := (va / 65536 - m.va / 65536) / 64

/-- Walkers in service (R279). -/
def Block.walkers (b : Block) : List Nat := (List.range 10).filter fun k => (b.wearOf 1 k).st < 2

/-- Whether the coherence domain is down (R349). -/
def Block.down (b : Block) : Bool := bit (b.reg Reg.CC_STS) 0

/-- Waiting misses take free walkers in arrival order, one walk each (R279); while the domain is down, walks wait (R349),
and a walker whose stamp is below RC_EPOCH is scrubbed before it takes one (R423). -/
def Block.startWalks (b : Block) : Block :=
  if b.down then b
  else
    b.walks.zipIdx.foldl (fun b wk =>
      if wk.1.walker.isSome then b
      else match b.walkers.find? fun k => !b.swapping.contains k && !(b.walks.any fun w => w.walker = some k) with
        | none => b
        | some k =>
          let b := b.setStamp (16 + k) (b.reg Reg.RC_EPOCH)
          { b with walks := modAt (fun w => { w with walker := some k }) wk.2 b.walks }) b

/-- The ATS-cache entry that covers `va` of a PASID becomes the most recently used. -/
def Block.touchAts (b : Block) (pasid va : Nat) : Block :=
  match b.atsFor? pasid va with
  | some e => { b with atsCache := e :: b.atsCache.erase e }
  | none => b

/-- A translation enters the buffer of engine `e` (R277). -/
def Block.fillTlb (b : Block) (e ctx va : Nat) : Block :=
  let x := b.eng e
  let k := (ctx, va / 65536)
  b.setEng e { x with tlb := (k :: x.tlb.erase k).take 64 }

/-- The caches see an access of agent `who` at `va` of context `c`: a miss counts in ZT_RC_MISS and starts a walk (R278, R279); an
agent waits for its walk, and misses a page once. -/
def Block.touch (b : Block) (c va : Nat) (who : Option Asker := none) : Block :=
  let b := b.touchAts (b.ctx c).pasid va
  if b.bootmap then b
  else match b.mapAt? c va with
    | none => b
    | some m =>
      let pageMiss := !m.backed ∧ !(b.ctx c).ats ∧ !b.pageCache.contains (m.id, m.group va)
      if (b.rangeCache.any (·.1 = m.id)) ∧ !pageMiss then
        if m.backed ∨ (b.ctx c).ats then b.fillRange m.id else (b.fillRange m.id).fillPages m.id (m.group va)
      else if b.walks.any fun w => w.mapId = m.id ∧ w.page = va / 65536 ∧ w.who = who then b
      else
        let b := b.count32 Reg.ZT_RC_MISS
        let w : Walk := { walker := none, mapId := m.id, page := va / 65536, who := who }
        Block.startWalks { b with walks := b.walks ++ [w] }

/-- Cached copies of translations that touch [va, va + len) of a context are dropped (R294). -/
def Block.dropRange (b : Block) (c va len : Nat) : Block :=
  let hit (m : Mapping) : Bool := decide (m.ctx = c) && decide (m.va < va + len) && decide (va < m.va + m.len)
  let ids := (b.maps.filter hit).map (·.id)
  let pasid := (b.ctx c).pasid
  { b with
    rangeCache := b.rangeCache.filter fun i => !ids.contains i.1
    pageCache := b.pageCache.filter fun p => match b.map? p.1 with
      | some m => !(ids.contains m.id ∧ alignDown m.va 65536 + p.2 * 64 * 65536 < va + len
          ∧ va < alignDown m.va 65536 + (p.2 + 1) * 64 * 65536)
      | none => false
    atsCache := b.atsCache.filter fun e => !(e.pasid = pasid ∧ e.va < va + len ∧ va < e.va + 2 ^ e.log2)
    engines := b.engines.map fun kv => (kv.1, { kv.2 with
      tlb := kv.2.tlb.filter fun t => !(t.1 = c ∧ t.2 * 65536 < va + len ∧ va < (t.2 + 1) * 65536) }) }

end Sys2Proof.Machine
end

