-- ==== Sys2Proof/Machine/Operands.lean ====
section
/-!
DEFINITION. What is read from memory, decoded: commands (R102 to R110), indirect records (R134), task items (R179), tensor
descriptors (R220 to R225) and stitch-list images (R190 to R195, R208 to R212).
-/
namespace Sys2Proof.Machine

/-- The 64-bit words of a run of bytes, little-endian (R11). -/
def words64 (bs : List Byte) : List Nat := (List.range (bs.length / 8)).map fun k => ofLeBytes ((bs.drop (8 * k)).take 8)

/-! ### Commands -/

/-- A mask with bits [hi:lo] set. -/
def maskOf (hi lo : Nat) : Nat := 2 ^ (hi + 1) - 2 ^ lo

/-- Whether every bit of `v` is in mask `m`. -/
def within (v m : Nat) : Bool := v &&& m = v

/-- The opcodes of R109: opcode, FLAGS mask and operand bytes. -/
def opcodeRows : List (Nat × Nat × Nat) :=
  [(0x00, 0, 0), (0x10, 1, 24), (0x11, 0, 8), (0x12, 0, 24), (0x13, 0, 8), (0x20, 0, 32), (0x21, 0, 24), (0x22, 3, 32),
   (0x24, 0, 16), (0x25, 15, 16), (0x30, 0, 0), (0x31, 0, 0), (0x32, 1, 24), (0x38, 0, 8), (0x39, 0, 8), (0x3A, 0, 8),
   (0x40, 0, 16), (0x80, 1, 40), (0x81, 0, 16), (0x82, 0, 24), (0x88, 0, 24), (0x89, 0, 8), (0x8A, 0, 8), (0x8B, 0, 8),
   (0x90, 0, 24), (0x91, 1, 24), (0x92, 0, 8), (0xA0, 0, 16), (0xA1, 0, 8), (0xA2, 0, 16), (0xB0, 0, 24), (0xB1, 0, 24),
   (0xC0, 0, 24)]

/-- FLAGS mask and operand bytes of an opcode; none where it is undefined. -/
def opcodeRow (opc : Nat) : Option (Nat × Nat) := (opcodeRows.find? fun r => r.1 = opc).map (·.2)

/-- Slots that a SLOTS code gives (R103). -/
def slotsOfCode (k : Nat) : Nat := 2 ^ k

/-- The slots a command at index `i` occupies (R85): one where SLOTS is 3 or the alignment of R83 is broken. -/
def slotsAt (i hdr : Nat) : Nat :=
  let k := bits hdr 9 8
  if k = 3 ∨ i % slotsOfCode k ≠ 0 then 1 else slotsOfCode k

/-- Step 3 of R129 on a header at index `i`. -/
def headerOk (i hdr : Nat) : Bool :=
  let k := bits hdr 9 8
  match opcodeRow (bits hdr 7 0) with
  | none => false
  | some (flags, opBytes) =>
    decide (bits hdr 19 16 = 1) && decide (k ≠ 3) && decide (bits hdr 11 10 ≠ 3) && decide (bits hdr 13 12 ≠ 3)
      && decide (bits hdr 55 54 = 0) && decide (bits hdr 23 21 = 0) && within (bits hdr 31 24) flags
      && (decide (bits hdr 7 0 ≠ 0x25) || decide (bits hdr 31 24 ≤ 2)) && decide (i % slotsOfCode k = 0)
      && decide (8 + 16 * (bits hdr 11 10 + bits hdr 13 12) + opBytes ≤ 64 * slotsOfCode k)

/-- Masks of the operand words of an opcode, for its flags and words (R110, R143): a bit outside is reserved, or belongs to
a field that the encoding leaves unused. -/
def operandMasks (opc flags : Nat) (w : List Nat) : List Nat :=
  let all := 2 ^ 64 - 1
  let idctx := maskOf 31 16 + maskOf 11 0
  match opc with
  | 0x10 => [all, all, if bit flags 0 then maskOf 31 0 else maskOf 15 0]
  | 0x11 => [all]
  | 0x12 => [all, all, maskOf 31 16 + maskOf 4 0]
  | 0x13 => [maskOf 16 0]
  | 0x20 =>
    let d := bits (nth w 2) 43 42
    let s := bits (nth w 2) 41 40
    [all, all, maskOf 43 0, (if d = 0 then 0 else maskOf 31 16) + (if s = 0 then 0 else maskOf 15 0)]
  | 0x21 => [all, all, (if bits (nth w 2) 41 40 = 0 then 0 else maskOf 63 48) + maskOf 43 0]
  | 0x22 => [all, all, if flags = 2 then all else 0, all]
  | 0x24 => [all, maskOf 39 0]
  | 0x25 => [all, maskOf 39 0]
  | 0x32 => [all, maskOf 31 0, if bit flags 0 then maskOf 11 0 else all]
  | 0x38 => [all]
  | 0x39 => [all]
  | 0x3A => [maskOf 35 0]
  | 0x40 => [maskOf 17 0, all]
  | 0x80 => [maskOf 21 16 + maskOf 11 0, all, all, if bit flags 0 then all else 0,
      if bits (nth w 0) 21 20 = 0 then 0 else all]
  | 0x81 => [maskOf 11 0, all]
  | 0x82 => [maskOf 11 0, all, maskOf 39 0]
  | 0x88 => [maskOf 51 32 + maskOf 29 24 + maskOf 18 0, all, maskOf 53 32 + maskOf 28 8 + maskOf 4 0]
  | 0x89 => [maskOf 16 0]
  | 0x8A => [maskOf 63 16 + maskOf 7 7 + maskOf 5 0]
  | 0x8B => [maskOf 47 16 + maskOf 5 0]
  | 0x90 => [idctx, all, maskOf 31 0]
  | 0x91 => [idctx, all, maskOf 31 0]
  | 0x92 => [idctx]
  | 0xA0 => [idctx, all]
  | 0xA1 => [idctx]
  | 0xA2 => [idctx, all]
  | 0xB0 => [maskOf 11 0, all, maskOf 31 0]
  | 0xB1 => [maskOf 11 0, all, maskOf 31 0]
  | 0xC0 => [maskOf 7 0, all, maskOf 31 0]
  | _ => []

/-- Reserved encodings that give ERR_FORMAT (R110, R116). -/
def operandEnumsOk (opc flags : Nat) (w : List Nat) : Bool :=
  match opc with
  | 0x20 => decide (bits (nth w 2) 43 42 ≠ 3) && decide (bits (nth w 2) 41 40 ≠ 3)
  | 0x21 => decide (bits (nth w 2) 41 40 ≠ 3)
  | 0x22 => decide (flags ≠ 3)
  | 0x40 => decide (bits (nth w 0) 17 16 ≠ 3)
  | 0x80 => decide (bits (nth w 0) 21 20 ≠ 3)
  | _ => true

/-- The launch parameters of three words (R110). -/
def launchOf (w0 w1 w2 : Nat) (ver : Bool) : LaunchP :=
  { reps := bits w0 63 48, units := bits w0 47 32, cores := bits w0 31 16, listId := bits w0 15 0, argAddr := w1
    argLen := bits w2 15 0, ver := if ver then some (bits w2 31 16) else none }

/-- The operation of an opcode with its operand words (R110). -/
def opOf (opc flags : Nat) (w : List Nat) : Op :=
  let a := nth w 0
  let b := nth w 1
  let c := nth w 2
  match opc with
  | 0x10 => .launch (launchOf a b c (bit flags 0))
  | 0x11 => .launchInd a
  | 0x12 => .launchPersist (bits a 63 48) { launchOf a b c false with reps := 1, argAddr := 0, argLen := 0 } b (bits c 31 16) (bits c 4 0)
  | 0x13 => .stopPersist (bit a 16) (bits a 15 0)
  | 0x20 => .copy a b (bits c 39 0) (bits c 41 40) (bits c 43 42) (bits (nth w 3) 15 0) (bits (nth w 3) 31 16)
  | 0x21 => .fill a b (bits c 39 0) (bits c 43 42) (bits c 41 40) (bits c 63 48)
  | 0x22 => .atomic flags a b c (nth w 3)
  | 0x24 => .prefetch a (bits b 39 0)
  | 0x25 => .advise flags a (bits b 39 0)
  | 0x30 => .wait
  | 0x31 => .signal
  | 0x32 => .signalRemote (bit flags 0) a (bits b 31 0) c
  | 0x38 => .timestamp a
  | 0x39 => .cadenceWait a
  | 0x3A => .mark (bits a 35 32) (bits a 31 0)
  | 0x40 => .watch (bits a 17 16) (bits a 15 0) b
  | 0x80 => .map {
      ctx := bits a 11 0, va := b, len := c, rd := bit a 16, wr := bit a 17, at_ := bit a 18
      sharedRo := bit a 19, golden := bits a 21 20, goldenAddr := nth w 4, backed := bit flags 0, backing := nth w 3 }
  | 0x81 => .unmap (bits a 11 0) b
  | 0x82 => .invRange (bits a 11 0) b (bits c 39 0)
  | 0x88 => .queueCreate {
      pasid := bits a 51 32, harness := bits a 29 24, svc := bit a 18, cls := bits a 17 16
      qidx := bits a 15 12, ctx := bits a 11 0, ringBase := b, stallUs := bits c 53 32, start := bits c 28 8
      ringLog2 := bits c 4 0 }
  | 0x89 => .queueDestroy (bits a 11 0) (bits a 15 12) (bit a 16)
  | 0x8A => .harnessGrow (bits a 5 0) (bits a 31 16) (bits a 47 32) (bits a 63 48) (bit a 7)
  | 0x8B => .harnessShrink (bits a 5 0) (bits a 31 16) (bits a 47 32)
  | 0x90 => .listLoad (bits a 11 0) (bits a 31 16) b (bits c 31 0)
  | 0x91 => .listPatch (bits a 11 0) (bits a 31 16) b (bits c 31 0) (bit flags 0)
  | 0x92 => .listRetire (bits a 11 0) (bits a 31 16)
  | 0xA0 => .wickAlloc (bits a 11 0) (bits a 31 16) b
  | 0xA1 => .wickFree (bits a 11 0) (bits a 31 16)
  | 0xA2 => .wickExport (bits a 11 0) (bits a 31 16) b
  | 0xB0 => .ctxSave (bits a 11 0) b (bits c 31 0)
  | 0xB1 => .ctxRestore (bits a 11 0) b (bits c 31 0)
  | 0xC0 => .frameSupply (bits a 7 0) b (bits c 31 0)
  | _ => .nop

/-- The wait entries and signal entries of a command's words (R102, R104, R105). -/
def waitEnts (w : List Nat) (n : Nat) : List WaitEnt :=
  (List.range n).map fun k => { value := nth w (1 + 2 * k), gt := bit (nth w (2 + 2 * k)) 16, wick := bits (nth w (2 + 2 * k)) 15 0 }
def sigEnts (w : List Nat) (nw n : Nat) : List SigEnt :=
  (List.range n).map fun k =>
    { value := nth w (1 + 2 * (nw + k)), setmax := bit (nth w (2 + 2 * (nw + k))) 16, wick := bits (nth w (2 + 2 * (nw + k))) 15 0 }

/-- The operand words of a command. -/
def operandWords (w : List Nat) : List Nat :=
  let hdr := nth w 0
  let opBytes := ((opcodeRow (bits hdr 7 0)).map (·.2)).getD 0
  (w.drop (1 + 2 * (bits hdr 11 10 + bits hdr 13 12))).take (opBytes / 8)

/-- Step 4 of R129 on a command's words: entries and operands with no reserved bit and no reserved encoding. -/
def entriesOk (w : List Nat) : Bool :=
  let hdr := nth w 0
  (List.range (bits hdr 11 10 + bits hdr 13 12)).all fun k => within (nth w (2 + 2 * k)) (maskOf 16 0)
def operandsOk (w : List Nat) : Bool :=
  let hdr := nth w 0
  let ops := operandWords w
  let flags := bits hdr 31 24
  (ops.zip (operandMasks (bits hdr 7 0) flags ops)).all (fun x => within x.1 x.2) && operandEnumsOk (bits hdr 7 0) flags ops

/-- The command that the words of a validated header spell. -/
def cmdOf (q i : Nat) (w : List Nat) : Cmd :=
  let hdr := nth w 0
  let nw := bits hdr 11 10
  { q := q, i := i, slots := slotsAt i hdr, opcode := bits hdr 7 0, op := opOf (bits hdr 7 0) (bits hdr 31 24) (operandWords w)
    waits := waitEnts w nw, sigs := sigEnts w nw (bits hdr 13 12), stallUs := bits hdr 53 32, errEvt := bit hdr 20
    barrier := bit hdr 15, prof := bit hdr 14 }

/-- The target context of a kernel command (R36); none for the others and for commands without one. -/
def Op.target : Op → Option Nat
  | .map m => some m.ctx
  | .unmap c _ => some c
  | .invRange c _ _ => some c
  | .queueCreate p => some p.ctx
  | .queueDestroy c _ _ => some c
  | .listLoad c _ _ _ => some c
  | .listPatch c _ _ _ _ => some c
  | .listRetire c _ => some c
  | .wickAlloc c _ _ => some c
  | .wickFree c _ => some c
  | .wickExport c _ _ => some c
  | .ctxSave c _ _ => some c
  | .ctxRestore c _ _ => some c
  | _ => none

/-- The launch parameters in force: those of LAUNCH and LAUNCH_PERSIST, or the indirect record's (R133). -/
def Cmd.launch? (c : Cmd) : Option LaunchP :=
  match c.op with
  | .launch l => some l
  | .launchPersist _ l _ _ _ => some l
  | .launchInd _ => c.ind
  | _ => none

/-- Zero-empty commands (R140 to R142), which end with OK_EMPTY. LAUNCH_IND is judged on its record. -/
def Cmd.empty (c : Cmd) : Bool :=
  match c.op with
  | .launch l => l.reps = 0 ∨ (l.cores = 0 ∧ l.units = 0)
  | .launchInd _ => match c.ind with
    | some l => l.reps = 0 ∨ (l.cores = 0 ∧ l.units = 0)
    | none => false
  | .launchPersist _ l _ _ _ => l.cores = 0 ∧ l.units = 0
  | .copy _ _ len _ _ _ _ => len = 0
  | .fill _ _ len _ _ _ => len = 0
  | .prefetch _ len => len = 0
  | .advise _ _ len => len = 0
  | .invRange _ _ len => len = 0
  | .wait => c.waits.isEmpty
  | .signal => c.sigs.isEmpty
  | .harnessGrow _ cores units _ _ => cores = 0 ∧ units = 0
  | .harnessShrink _ cores units => cores = 0 ∧ units = 0
  | .listLoad _ _ _ len => len = 0
  | .listPatch _ _ _ len _ => len = 0
  | .frameSupply _ _ count => count = 0
  | _ => false

/-- Bounds of a stall budget (R103). -/
def stallOk (us : Nat) : Bool := us = 0 ∨ (64 ≤ us ∧ us ≤ 4000000)

/-- The indirect record's reserved bits (R134): bits above 32 of the third word, and EPOCH when VER is 0. -/
def indirectOk (w : List Nat) : Bool :=
  within (nth w 2) (maskOf 32 0) && (bit (nth w 2) 32 || bits (nth w 2) 31 16 = 0)
def indirectOf (w : List Nat) : LaunchP := launchOf (nth w 0) (nth w 1) (nth w 2) (bit (nth w 2) 32)

/-! ### Tensor descriptors -/

/-- The descriptor that eight words spell (R220). -/
def descOf (w : List Nat) : Desc :=
  let c := nth w 1
  { base := nth w 0, space := bits c 63 62, rankM1 := bits c 61 60, format := bits c 59 56, valid := bit c 55
    variant_ := bit c 54, resv := bits c 53 0
    ext := [bits (nth w 2) 31 0, bits (nth w 2) 63 32, bits (nth w 3) 31 0, bits (nth w 3) 63 32]
    stride := [0, nth w 4, nth w 5, nth w 6], scaleBase := nth w 7 }

/-- The block of a format (R221); 1 where it has none. -/
def fmtBlock (f : Nat) : Nat := if f = 9 then 16 else if 5 ≤ f ∧ f ≤ 8 then 32 else 1

/-- Row bytes (R221). -/
def rowBytes (f ext0 : Nat) : Nat :=
  match f with
  | 0 => 4 * ext0
  | 1 => 2 * ext0
  | 2 => 2 * ext0
  | 6 => 3 * ext0 / 4
  | 7 => ext0 / 2
  | 9 => 9 * ext0 / 16
  | _ => ext0

/-- Whether a format has a scale array, and bytes of scales per row (R221). -/
def hasScales (f : Nat) : Bool := 5 ≤ f ∧ f ≤ 9
def scaleRowBytes (f ext0 : Nat) : Nat := if f = 9 then 2 else if 5 ≤ f ∧ f ≤ 8 then ext0 / 32 else 0

def Desc.rank (d : Desc) : Nat := d.rankM1 + 1
/-- Extents of the dimensions below the rank. -/
def Desc.exts (d : Desc) : List Nat := d.ext.take d.rank
def Desc.isEmpty (d : Desc) : Bool := d.exts.any (· = 0)
/-- Rows: the product of the extents above dimension 0. -/
def Desc.rows (d : Desc) : Nat := (d.exts.drop 1).foldl (· * ·) 1

/-- Byte offset from BASE to the end of the last row (R225). -/
def Desc.reach (d : Desc) : Nat :=
  sumBy (fun k => (nth d.ext k - 1) * nth d.stride k) ((List.range d.rank).drop 1) + rowBytes d.format (nth d.ext 0)

def Desc.scaleLen (d : Desc) : Nat := d.rows * scaleRowBytes d.format (nth d.ext 0)

/-- The footprint (R225): start and length of the rows and of the scale array. -/
def Desc.footprint (d : Desc) : List (Nat × Nat) :=
  if d.isEmpty then []
  else (d.base, d.reach) :: (if hasScales d.format then [(d.scaleBase, d.scaleLen)] else [])

/-- The tests of R223 that the descriptor alone decides. -/
def Desc.sound (d : Desc) : Bool :=
  d.valid && decide (d.resv = 0) && decide (d.space ≠ 3) && decide (d.format ≤ 9)
    && (decide (d.format = 5 ∨ d.format = 6) || !d.variant_)
    && ((d.ext.drop d.rank).all (· = 0)) && ((d.stride.drop d.rank).all (· = 0))
    && decide (nth d.ext 0 % fmtBlock d.format = 0) && decide (d.base % 16 = 0) && decide (d.scaleBase % 16 = 0)
    && (d.stride.all (· % 16 = 0)) && (if hasScales d.format then decide (d.scaleBase ≠ 0) else decide (d.scaleBase = 0))

/-- Whether the descriptor stays within a space of `size` bytes. -/
def Desc.fits (d : Desc) (size : Nat) : Bool := d.footprint.all fun r => r.1 + r.2 ≤ size

/-! ### Stitch lists -/

def Stitch.kind (x : Stitch) : Nat := bits x.hdr 1 0
def Stitch.slot (x : Stitch) (k : Nat) : Option Nat := (x.slots.getD k none)

/-- The slot words of a header's PRESENT mask, from slot `k`; `n` counts the slots left. -/
def slotsOf (present : Nat) : Nat → Nat → List Byte → Option (List (Option Nat) × List Byte)
  | 0, _, bs => some ([], bs)
  | n + 1, k, bs =>
    if bit present k then
      if bs.length < 8 then none
      else (slotsOf present n (k + 1) (bs.drop 8)).map fun r => (some (ofLeBytes (bs.take 8)) :: r.1, r.2)
    else (slotsOf present n (k + 1) bs).map fun r => (none :: r.1, r.2)

/-- `n` whole stitches, and what remains (R190). -/
def stitchesOf : Nat → List Byte → Option (List Stitch × List Byte)
  | 0, bs => some ([], bs)
  | n + 1, bs =>
    if bs.length < 2 then none
    else
      let hdr := ofLeBytes (bs.take 2)
      match slotsOf (bits hdr 15 8) 8 0 (bs.drop 2) with
      | none => none
      | some (sl, rest) => (stitchesOf n rest).map fun r => ({ hdr := hdr, slots := sl } :: r.1, r.2)

/-- MUX fields (R195). -/
def muxTakesB (m : Nat) : Bool := bits m 43 40 ≤ 2
def muxOn (m : Nat) : Bool := bits m 39 32 ≠ 0

/-- Check 3 of R210. -/
def Stitch.headerOk (x : Stitch) : Bool := x.kind ≠ 3 ∧ bit x.hdr 2 = false

/-- Check 4 of R210 on one slot. DEDUCED (log entry 94): a SYNC field that R195 gives as "otherwise 0" is a reserved field. -/
def slotOk (k v : Nat) : Bool :=
  if k = 0 then
    bits v 45 44 = 0 ∧ bits v 31 0 = 0 ∧ bits v 43 40 ≤ 7 ∧ bits v 63 60 ≤ 9 ∧ bits v 59 56 ≤ 9 ∧ bits v 55 52 ≤ 9
  else if k ≤ 4 then bits v 47 46 ≠ 3 ∧ bits v 43 42 = 0
  else if k = 5 then
    bits v 24 0 = 0 ∧ (if bit v 31 then bits v 63 32 = 0 else bits v 30 25 = 0)
  else if k = 6 then
    bits v 4 0 = 0 ∧ (bit v 19 ∨ bits v 18 13 = 0) ∧ (bit v 12 ∨ bits v 11 6 = 0)
  else
    let op := bits v 63 60
    1 ≤ op ∧ op ≤ 4 ∧ bits v 53 48 = 0 ∧ (op = 3 ∨ op = 4 ∨ (bits v 59 54 = 0 ∧ bits v 47 32 = 0))
      ∧ (op = 4 ∨ bits v 31 0 = 0)

def Stitch.slotsOk (x : Stitch) : Bool :=
  (List.range 8).all fun k => match x.slot k with
    | some v => slotOk k v
    | none => true

/-- Check 5 of R210. -/
def Stitch.muxOk (x : Stitch) : Bool :=
  match x.slot 0 with
  | none => true
  | some m => (x.kind ≠ 1 || decide (bits m 39 33 = 0))
      && (!muxOn m || muxTakesB m || decide (bits m 59 56 = 0 ∧ bits m 49 48 = 0))

/-- A generator's descriptor while it is loaded (R211); the four generators. -/
abbrev Gens := List (Option Nat)

/-- The AGEN slots of a stitch act on the generators; none where REORIGIN or HOLD names another descriptor (check 6). -/
def agenWalk (x : Stitch) : List Nat → Gens → Option Gens
  | [], g => some g
  | k :: t, g =>
    match x.slot (k + 1) with
    | none => agenWalk x t g
    | some v =>
      if bits v 47 46 = 0 then agenWalk x t (modAt (fun _ => some (bits v 63 48)) k g)
      else if g.getD k none = some (bits v 63 48) then agenWalk x t g
      else none

/-- What one stitch names in a walk for one kind: uses of handles, format mask, routed set. -/
structure WalkOut where
  uses : List HandleUse := []
  mask : Nat := 0
  routed : List (List Nat) := []
  wicks : List Nat := []
deriving DecidableEq, Repr

/-- A use of handle `h` by an engine kind. -/
def useOf (core : Bool) (h : Nat) (fmt : Option Nat) (rd wr : Bool) : HandleUse :=
  { handle := h, core := core, unit := !core, fmt := fmt, rd := rd, wr := wr }

/-- One stitch of a walk (R211): the generators after it and what it binds; none where check 6 fails. -/
def walkStitch (core : Bool) (x : Stitch) (g : Gens) : Option (Gens × WalkOut) :=
  match agenWalk x [0, 1, 2, 3] g with
  | none => none
  | some g =>
    let named := ((List.range 4).filterMap fun k => x.slot (k + 1)).map fun v => useOf core (bits v 63 48) none false false
    let dma := match x.slot 6 with
      | some v => [useOf core (bits v 63 48) none true false, useOf core (bits v 47 32) none false true]
      | none => []
    let sync := match x.slot 7 with
      | some v => if bits v 63 60 = 4 then [useOf core (bits v 47 32) none true false] else []
      | none => []
    let wk := match x.slot 7 with
      | some v => if bits v 63 60 = 3 then [bits v 47 32] else []
      | none => []
    let rest := named ++ dma ++ sync
    match x.slot 0 with
    | none => some (g, { uses := rest, wicks := wk })
    | some m =>
      if !muxOn m then some (g, { uses := rest, wicks := wk })
      else
        let a := g.getD (bits m 51 50) none
        let b := g.getD (bits m 49 48) none
        let o := g.getD (bits m 47 46) none
        match a, o, (if muxTakesB m then b else a) with
        | some ha, some ho, some hb =>
          let useB := if muxTakesB m then [useOf core hb (some (bits m 59 56)) true false] else []
          let out : WalkOut := {
            uses := rest ++ [useOf core ha (some (bits m 63 60)) true false] ++ useB
              ++ [useOf core ho (some (bits m 55 52)) false true]
            mask := 2 ^ bits m 63 60 ||| 2 ^ bits m 55 52 ||| (if muxTakesB m then 2 ^ bits m 59 56 else 0)
            routed := [dedup (ha :: ho :: (if muxTakesB m then [hb] else []))]
            wicks := wk }
          some (g, out)
        | _, _, _ => none

/-- A walk of the stitches of one kind, every generator IDLE at the start. -/
def walkAll (core : Bool) : List Stitch → Gens → Option WalkOut
  | [], _ => some {}
  | x :: t, g =>
    if x.kind = 2 ∨ x.kind = (if core then 0 else 1) then
      match walkStitch core x g with
      | none => none
      | some (g, o) => (walkAll core t g).map fun r =>
          { uses := o.uses ++ r.uses, mask := o.mask ||| r.mask, routed := o.routed ++ r.routed, wicks := o.wicks ++ r.wicks }
    else walkAll core t g

/-- The uses of one handle taken together; the format of the first binding. -/
def mergeUses (l : List HandleUse) : List HandleUse :=
  (sortBy id (dedup (l.map (·.handle)))).map fun h =>
    let us := l.filter (·.handle = h)
    { handle := h, core := us.any (·.core), unit := us.any (·.unit), fmt := us.findSome? (·.fmt), rd := us.any (·.rd), wr := us.any (·.wr) }

/-- Check 7: no handle is bound to two formats. -/
def formatsOk (l : List HandleUse) : Bool :=
  l.all fun x => l.all fun y => x.handle ≠ y.handle || x.fmt.isNone || y.fmt.isNone || decide (x.fmt = y.fmt)

/-- Check 1 of R210 on the words of a header. -/
def imageHeaderOk (w : List Nat) (len : Nat) : Bool :=
  let magic := bits (nth w 0) 31 0
  let ver := bits (nth w 0) 47 32
  let resv := bits (nth w 0) 63 48
  let streamLen := bits (nth w 1) 31 0
  let sigOff := bits (nth w 2) 31 0
  let sigLen := bits (nth w 2) 63 32
  decide (magic = 0x5A53544C) && decide (ver = 1) && decide (resv = 0) && ((w.drop 3).take 5).all (· = 0)
    && decide (0x40 + streamLen ≤ len) && decide (0x40 + streamLen ≤ sigOff) && decide (sigOff + sigLen ≤ len)

/-- Checks 2 to 9 of R210 on a stream, and the summary of R212. -/
def checkStream (stream : List Byte) (stitches : Nat) : Option Summary :=
  if stream.length < 2 * stitches then none
  else match stitchesOf stitches stream with
  | none => none
  | some (l, rest) =>
    if !rest.isEmpty ∨ !(l.all Stitch.headerOk) ∨ !(l.all Stitch.slotsOk) ∨ !(l.all Stitch.muxOk) then none
    else
      let idle : Gens := [none, none, none, none]
      match walkAll true l idle, walkAll false l idle with
      | some c, some u =>
        let uses := c.uses ++ u.uses
        let handles := mergeUses uses
        let wicks := sortBy id (dedup (c.wicks ++ u.wicks))
        if formatsOk uses ∧ handles.length ≤ 64 ∧ wicks.length ≤ 16 ∧ wicks.all (· < 0xFFF0) then
          some {
            coreMask := c.mask, unitMask := u.mask, handles := handles, wicks := wicks, routed := dedup (c.routed ++ u.routed)
            anyCore := l.any (·.kind ≠ 1), anyUnit := l.any (·.kind ≠ 0) }
        else none
      | _, _ => none

/-! ### Task items -/

/-- The item that eight words spell (R179); none where a reserved bit is set or its signal entry is malformed (R181). -/
def itemOf (idx : Nat) (w : List Nat) : Option Item :=
  let a := nth w 0
  if bits a 39 16 = 0 ∧ within (nth w 3) (maskOf 16 0) ∧ (w.drop 4).all (· = 0) then
    some { idx := idx, reps := bits a 55 40, argAddr := nth w 1, argLen := bits a 15 0, sigValue := nth w 2, sigCtl := nth w 3 }
  else none

/-- Whether an item has a signal (R179). -/
def Item.hasSig (x : Item) : Bool := !(x.sigValue = 0 ∧ x.sigCtl = 0)
def Item.sig (x : Item) : SigEnt := { value := x.sigValue, setmax := bit x.sigCtl 16, wick := bits x.sigCtl 15 0 }

end Sys2Proof.Machine
end

