-- ==== Sys2Proof/Machine/Accounts.lean ====
section
/-!
DEFINITION. The Credit Ledger's accounts (R323, R326), a closing (R325, R327) and a re-base (R329).
-/
namespace Sys2Proof.Machine

/-- Slots that commands of a queue hold fetched and not completed. -/
def Block.slotsInflight (b : Block) (q : Nat) : Nat := sumBy (·.slots) (b.cmds.filter fun c => c.q = q)

/-- Slots published and not fetched. -/
def HwQueue.unfetched (q : HwQueue) : Nat := (q.doorbell + 2 * q.slots - q.fetched) % (2 * q.slots)

/-- Slots published since START_INDEX: DB_COUNT counts modulo 2^64 (log entry 31). -/
def HwQueue.published (q : HwQueue) : Nat := (q.dbCount + 2 ^ 64 - q.startIndex) % 2 ^ 64

/-- The term of KIND 2 that an engine counts in (R323): 0 waiting to be lit, 1 being cleared, 2 free, 3 held by a launch,
4 bound to a task, 5 held by a COPY or FILL. -/
def Block.engTerm (b : Block) (e : Nat) : Nat :=
  let x := b.eng e
  if !x.lit then 0
  else if x.clearing then 1
  else match x.use with
    | .free => 2
    | .cmd q i => if ((b.cmd? q i).map fun c => decide (c.opcode < 0x20)).getD true then 3 else 5
    | .task _ _ => 4

/-- Engines held by harness `h`, those that a HARNESS_SHRINK still waits for included; with none, those in service in no
harness. -/
def Block.engsOf (b : Block) (h : Option Nat) : List Nat :=
  match h with
  | some _ => (b.engines.filter fun kv => kv.2.harness = h).map (·.1)
  | none => (b.coresIn ++ b.unitsIn).filter fun e => (b.eng e).harness.isNone

/-- Frames of pool `p` in use: MIGRATING, DEVICE and table frames (R323). -/
def Block.framesInUse (b : Block) (p : Nat) : Nat :=
  let onPages := sumBy (fun m => (m.pages.filter fun kv => match kv.2 with
    | .device _ k => k = p
    | _ => false).length) b.maps
  let moving := (b.faults.filter fun f => match f.stage with
    | .ready _ _ k => k = p
    | .copying _ _ k => k = p
    | .needEntry _ k => k = p
    | _ => false).length
  onPages + moving + (b.tabFrames.filter (·.pool = p)).length

/-- Both sides of an account: KIND and INSTANCE (R323). -/
def Block.account (b : Block) (kind inst : Nat) : Int × Int :=
  match kind with
  | 1 =>
    let q := b.queue inst
    if q.st = .unused then (0, 0)
    else ((q.published : Nat), ((q.doneSlots + q.discSlots + b.slotsInflight inst + (q.published + 2 ^ 64 - q.taken)) % 2 ^ 64 : Nat))
  | 2 =>
    let es := b.engsOf (if inst < 64 then some inst else none)
    (((es.length : Nat) : Int), ((sumBy (fun k => (es.filter fun e => b.engTerm e = k).length) (List.range 6) : Nat) : Int))
  | 3 =>
    let l := b.ledger
    ((l.issued : Nat), ((l.applied + l.equal + l.stale + l.snuff + l.win + l.remote + b.heldSigs.length : Nat) : Int))
  | 4 =>
    let l := b.ledger
    ((Tab.get (fun _ => 0) l.supplied inst : Nat),
      (((b.pool inst).length + b.framesInUse inst + Tab.get (fun _ => 0) l.returned inst
        + Tab.get (fun _ => 0) l.retired inst : Nat) : Int))
  | 5 =>
    let r := b.port (inst / 8)
    let c := inst % 8
    if r.st = .run then
      ((nth r.allot c : Nat), ((r.avail c + (nth r.sent c + 65536 - nth r.reported c) % 65536 : Nat) : Int))
    else (0, 0)
  | _ =>
    let t := b.tbuf inst
    ((Config.traceBytes : Nat), ((traceFree t + 32 * t.recs.length : Nat) : Int))

/-- The accounts that a closing checks but KIND 2 (R326): those of queues in use stand for all of KIND 1, since an UNUSED
queue's account is 0 = 0. -/
def Block.otherAccounts (b : Block) : List (Nat × Nat) :=
  (b.queues.map fun kv => (1, kv.1)) ++ [(3, 0)] ++ (List.range b.straps.nStacks).map (fun s => (4, s))
    ++ ((List.range 8).filter (bit b.straps.reinBond)).flatMap (fun p => (List.range 6).map fun c => (5, p * 8 + c))
    ++ (List.range 16).map fun k => (6, k)

/-- One account checked (R327). -/
def Block.checkAccount (b : Block) (a : Nat × Nat) : Block :=
  let (l, r) := b.account a.1 a.2
  if l = r then b
  else
    let id := a.1 * 4096 + a.2
    let diff := (l - r) % 2 ^ 64
    let b := if bit (b.reg Reg.LG_STS) 0 then b
      else ((b.setReg Reg.LG_FIRST id).setReg Reg.LG_DIFF_LO (diff.toNat % 2 ^ 32)).setReg Reg.LG_DIFF_HI (diff.toNat / 2 ^ 32)
    let b := (b.setField Reg.LG_STS 0 0 1).count32 Reg.LG_MISMATCH_COUNT
    let small := (max (-2047) (min 2047 (l - r))) % 4096
    let b := b.cinderRec 0x09 1 0 (small.toNat * 2 ^ 16 + id)
    b.event pgLg 8 0 (2 ^ 16 + id) diff.toNat

/-- The spacing of closings: 250 µs (R325). -/
def Block.closingDue (b : Block) : Bool := match b.ledger.last with
  | none => true
  | some t => t + Config.stepCycles ≤ b.zclk

/-- A closing at the step boundaries of harnesses `hs` (R325): KIND 2 of each, and every other account where 250 µs have
passed since the last closing. -/
def Block.closeAt (b : Block) (hs : List Nat) : Block :=
  if hs.isEmpty then b
  else
    let b := b.count64 Reg.LG_CLOSES_LO 1
    let b := hs.foldl (fun b h => b.checkAccount (2, h)) b
    if b.closingDue then
      let b := { b with ledger := { b.ledger with last := some b.zclk } }
      let rest := ((List.range 65).filter fun h => !hs.contains h).map fun h => (2, h)
      (rest ++ b.otherAccounts).foldl Block.checkAccount b
    else b

/-- The periodic closing of every account. -/
def Block.closeAll (b : Block) : Block := b.closeAt (List.range 65)

/-- The terms of every account taken from the state of the units (R329). -/
def Block.rebaseTerms (b : Block) : Block :=
  { b with
    queues := b.queues.map fun kv => (kv.1, { kv.2 with
      doneSlots := kv.2.taken - kv.2.discSlots - b.slotsInflight kv.1 })
    ledger := {
      issued := b.heldSigs.length
      supplied := (List.range b.straps.nStacks).foldl (fun t p =>
        Tab.set (fun _ => 0) t p ((b.pool p).length + b.framesInUse p)) []
      last := b.ledger.last } }

/-- A re-base for `cause` (R329): 1 ledger storage error, 2 L3, 3 L4. -/
def Block.rebase (b : Block) (cause : Nat) : Block :=
  let b := b.rebaseTerms
  let b := b.setField Reg.LG_STS 1 1 1
  let b := b.setField Reg.LG_REBASE 31 24 cause
  let b := b.count Reg.LG_REBASE 15 0 1
  let b := b.cinderRec 0x09 2 0 cause
  b.event pgLg 8 0 (2 * 2 ^ 16 + cause) 0

end Sys2Proof.Machine
end

