-- ==== Sys2Proof/Machine/Life.lean ====
section
/-!
DEFINITION. How work ends: draining engines and cancelling commands and items (R138, R207, R55), releasing engines, pins
and versions (R40, R63, R72, R218), unbinding tasks (R182), and when a command is eligible (R145, R161).
-/
namespace Sys2Proof.Machine

/-! ### Engines -/

/-- A waiter leaves the fault entries; a fault that waits for an entry goes with its last waiter (R286). -/
def Block.leaveFaults (b : Block) (a : Asker) : Block :=
  let out (f : FaultEnt) : FaultEnt := { f with waiters := f.waiters.filter (· ≠ a) }
  { b with
    faults := b.faults.map out
    faultWait := (b.faultWait.map out).filter fun f => !f.waiters.isEmpty || b.advices.any fun x => x.ctx = f.ctx ∧ x.pages.contains f.page
    atsAsked := b.atsAsked.map fun x => { x with who := x.who.filter (· ≠ a) } }

/-- A SYNC WAIT of engine `e` ends: its record is released, and it waits for no translation. -/
def Block.dropEngWait (b : Block) (e : Nat) : Block :=
  let b := b.leaveFaults (.engine e)
  { b with waiters := b.waiters.filter fun w => w.who ≠ WaitFor.engine e }.setEng e
    { b.eng e with wickWait := none, waitCycles := 0 }

/-- The lane of a command's or a task's work ends: undelivered stitches are lost (R207). -/
def Block.dropLane (b : Block) (w : Work) : Block := { b with lanes := b.lanes.filter (·.who ≠ w) }

/-- The contents of an engine's input queue are lost (R207, R423). -/
def Engine.clearQueue (x : Engine) : Engine := { x with inq := [], synced := false, starved := false }

/-- A stale engine is scrubbed as it comes back to work (R423): its translation buffer and input queue are dropped, and it takes
the stamp `n`. -/
def Engine.scrub (x : Engine) (n : Nat) : Engine := if x.stamp < n then { x.clearQueue with stamp := n, tlb := [] } else x

def Block.clearQueues (b : Block) (es : List Nat) : Block := es.foldl (fun b e => b.setEng e (b.eng e).clearQueue) b

/-- A step boundary of harness `h` waits for its pacing: its engines hold their state (R33). -/
def Block.boundaryHeld (b : Block) (h : Nat) : Bool := b.heldSigs.any (·.h = h)

/-- Engine `e` waits at a step boundary of its harness (R33). -/
def Block.heldStep (b : Block) (e : Nat) : Bool := match (b.eng e).harness with
  | some h => b.boundaryHeld h
  | none => false

/-- Engine `e` leaves the wake groups and has its clock. -/
def Block.ungate (b : Block) (e : Nat) : Block :=
  let gs := b.groups.map fun g => if g.wake then { g with engs := g.engs.filter (· ≠ e) } else g
  { b with groups := gs.filter fun g => !g.engs.isEmpty }.setEng e
    { (if (b.eng e).gated then (b.eng e).scrub (b.reg Reg.RC_EPOCH) else b.eng e) with gated := false, waking := false }

/-- Delivery to engine `e` halts and it drains (R207), unless it has drained already. -/
def Block.drainEng (b : Block) (e : Nat) : Block :=
  let b := (b.dropEngWait e).ungate e
  let x := b.eng e
  if x.quiet then b else b.setEng e { x with draining := true, drainCycles := 0 }

/-- Engine `e` holds nothing any longer. -/
def Block.releaseEng (b : Block) (e : Nat) : Block :=
  let b := (b.dropEngWait e).ungate e
  let x := b.eng e
  b.setEng e { x.clearQueue with
    use := .free, draining := false, quiet := false, drainCycles := 0, inv := 0, args := [], clearing := false
    delivered := 0, retired := 0 }

def Block.releaseEngs (b : Block) (es : List Nat) : Block := es.foldl Block.releaseEng b

/-- No engine of the list is still draining. -/
def Block.allQuiet (b : Block) (es : List Nat) : Bool := es.all fun e => !(b.eng e).draining

/-! ### Pins, versions -/

def Block.addPins (b : Block) (ids : List Nat) : Block :=
  { b with maps := b.maps.map fun m => if ids.contains m.id then { m with pins := m.pins + 1 } else m }

/-- Whether a command waits for the pins of a mapping (R65). -/
def Op.drains (o : Op) (m : Mapping) : Bool :=
  match o with
  | .unmap x va => decide (m.ctx = x) && decide (m.va = va)
  | .invRange x va len => decide (m.ctx = x) && decide (m.va < va + len) && decide (va < m.va + m.len)
  | _ => false

/-- Pins released; a release on a range that an UNMAP or INV_RANGE drains is its progress (R137). -/
def Block.dropPins (b : Block) (ids : List Nat) : Block :=
  let hit (m : Mapping) : Bool := ids.contains m.id
  let b := { b with maps := b.maps.map fun m => if hit m then { m with pins := m.pins - 1 } else m }
  b.mapCmds (fun c => decide (c.phase = .running) && b.maps.any fun m => hit m && c.op.drains m) fun c => { c with budget := 0 }

/-- Whether a version is referenced by a command (R216) or a task (R177). -/
def Block.verHeld (b : Block) (v : Version) : Bool :=
  (b.cmds.any fun c => c.ctx = v.ctx ∧ c.version = some (v.listId, v.epoch))
    || b.tasks.any fun t => t.ctx = v.ctx ∧ t.listId = v.listId ∧ t.epoch = v.epoch

/-- Whether a version goes once nothing refers to it. -/
def Version.dying (v : Version) : Bool := decide (v.st = .superseded) || (v.broken && decide (v.st ≠ .loading))

/-- A breakpoint whose version is FREED loses EN (R454). -/
def Block.syncBps (b : Block) : Block :=
  { b with bps := b.bps.map fun kv => (kv.1, if (b.version? kv.2.ctx kv.2.listId kv.2.epoch).isSome then kv.2 else { kv.2 with en := false }) }

/-- Versions that hold no reference and are SUPERSEDED (R70) or broken (R218) become FREED; a retired list whose last
version goes is free again (R72). -/
def Block.reapVersions (b : Block) : Block :=
  let b := Block.syncBps { b with versions := b.versions.filter fun v => b.verHeld v || !(v.dying) }
  let gone := b.retired.filter fun k => !(b.versions.any fun v => v.ctx * 65536 + v.listId = k)
  { b with
    retired := b.retired.filter fun k => !gone.contains k
    lastEpoch := b.lastEpoch.filter fun kv => !gone.contains kv.1 }

/-- Versions of a list that are not FREED. -/
def Block.versionsOf (b : Block) (ctx list : Nat) : List Version := b.versions.filter fun v => v.ctx = ctx ∧ v.listId = list

def Block.setEpoch (b : Block) (ctx list ep : Nat) : Block :=
  { b with lastEpoch := Tab.set (fun _ => 0) b.lastEpoch (ctx * 65536 + list) ep }

/-- A LOADING version is freed (R209). DESIGN CHOICE (log entry 93): a list whose first version never became CURRENT is free again, and its
next first version has epoch 1 (R215). -/
def Block.dropVersion (b : Block) (ctx list ep : Nat) : Block :=
  let b : Block := { b with versions := b.versions.filter fun v => !(v.ctx = ctx ∧ v.listId = list ∧ v.epoch = ep) }
  if ep = 1 ∧ (b.versionsOf ctx list).isEmpty then b.syncBps.setEpoch ctx list 0 else b.reapVersions

/-- The LOADING version of a list command that ends early is freed (R209, R399). -/
def Block.dropLoadOf (b : Block) (c : Cmd) : Block :=
  match c.op.target, c.version with
  | some t, some (l, e) => (b.modCmd c.q c.i fun c => { c with version := none }).dropVersion t l e
  | _, _ => b

/-! ### Commands -/

/-- Waiter records of a command released. -/
def Block.dropCmdWaits (b : Block) (q i : Nat) : Block :=
  { b with waiters := b.waiters.filter fun w => match w.who with
      | .cmd q' i' _ => !(q' = q ∧ i' = i)
      | _ => true }

/-- A command leaves its harness's wait list. -/
def Block.dropPlacing (b : Block) (q i : Nat) : Block :=
  { b with harnesses := b.harnesses.map fun kv => (kv.1, { kv.2 with waiting := kv.2.waiting.filter (· ≠ (q, i)) }) }

/-- Whether a command runs stitches on its engines. -/
def Cmd.runsStitches (c : Cmd) : Bool := c.opcode = 0x10 ∨ c.opcode = 0x11

/-- Whether a command is placed by HAL (R169, R304). -/
def Cmd.needsPlace (c : Cmd) : Bool :=
  match c.op with
  | .launch _ => true
  | .launchInd _ => true
  | .launchPersist .. => true
  | .copy _ _ _ s d _ _ => s ≠ 0 ∨ d ≠ 0
  | .fill _ _ _ _ d _ => d ≠ 0
  | _ => false

/-- Whether a command has started (R53): a launch starts at its placement, any other command at its decision. -/
def Cmd.begun (c : Cmd) : Bool :=
  match c.phase with
  | .ready => false
  | .decided => !c.needsPlace
  | .placing => false
  | .running => true
  | .ended _ => true

/-! ### Eligibility -/

/-- Commands of the same queue fetched before a command. -/
def Block.earlier (b : Block) (c : Cmd) : List Cmd := (b.cmds.takeWhile fun x => x.q ≠ c.q ∨ x.i ≠ c.i).filter fun x => x.q = c.q

/-- Whether a command still holds waiter records. -/
def Block.waitsLeft (b : Block) (c : Cmd) : Bool :=
  b.waiters.any fun w => match w.who with
    | .cmd q i _ => q = c.q ∧ i = c.i
    | _ => false

/-- Whether a command waits in its queue for nothing but a decision's other terms (R145, R37): what holds it back is none of
an unmet wait, a BARRIER, an earlier WAIT or CADENCE_WAIT, a launch that waits for placement, an earlier kernel command. -/
def Block.clear (b : Block) (c : Cmd) : Bool :=
  let es := b.earlier c
  !b.waitsLeft c && (!c.barrier || es.isEmpty) && (decide (c.opcode ≠ 0x32) || es.isEmpty)
    && !(es.any fun x => x.opcode = 0x30 ∨ x.opcode = 0x39)
    && !(es.any fun x => x.needsPlace ∧ (x.phase = .placing ∨ x.phase = .decided))
    && !(es.any fun x => 0x80 ≤ x.opcode ∧ (0x80 ≤ c.opcode ∨ x.begun))

/-- R145. A LAUNCH_IND is eligible once its record is read (R133). -/
def Block.eligible (b : Block) (c : Cmd) : Bool :=
  decide (c.phase = .ready) && !c.stalled && b.clear c && (decide (c.opcode ≠ 0x11) || c.ind.isSome)

/-- Deadlines of the RT commands that have become eligible (R161). -/
def Block.fixDeadlines (b : Block) : Block :=
  b.mapCmds (fun c => c.deadline.isNone && decide ((b.queue c.q).cls = 2) && b.eligible c) fun c =>
    { c with deadline := some (min max64 ((b.queue c.q).anchor + (b.queue c.q).span)) }

/-! ### Ends -/

/-- A command ends with a status and waits for its completion step. -/
def Block.endCmd (b : Block) (q i st : Nat) : Block :=
  (((((b.dropCmdWaits q i).dropPlacing q i).leaveFaults (.cmd q i)).dropLane (.cmd q i)).modCmd q i fun c =>
    match c.phase with
    | .ended _ => c
    | _ => { c with phase := .ended st, stalled := false, bp := none }).fixDeadlines

/-- A command that has ended and not completed takes another status (R43, R399): its signals are delivered no more. -/
def Block.restatus (b : Block) (q i st : Nat) : Block :=
  let b := { b with heldSigs := b.heldSigs.map fun (y : HeldSig) => if y.who = some (q, i) then { y with who := none } else y }
  b.modCmd q i fun c => match c.phase with
    | .ended _ => { c with phase := .ended st, stalled := false, posted := false }
    | _ => c

/-- The status of a step that is retried (R417): its work ends with RETRY_STEP_DISCARD, not with its drain. -/
abbrev retryStep : Nat := 0x41

/-- A cancelled launch whose engines have all drained ends with its status. -/
def Block.settleCmd (b : Block) (q i : Nat) : Block :=
  match b.cmd? q i with
  | some c => match c.cancel with
    | some st => if b.allQuiet c.engs ∧ st ≠ retryStep then b.endCmd q i st else b
    | none => b
  | none => b

/-- A command is cancelled with status `st`: its engines drain first where it runs stitches. -/
def Block.cancelCmd (b : Block) (q i st : Nat) : Block :=
  match b.cmd? q i with
  | none => b
  | some c => match c.phase with
    | .ended _ => b
    | .running =>
      if c.runsStitches then
        let b := b.modCmd q i fun c => { c with cancel := some (c.cancel.getD st), stalled := false, bp := none }
        let b := (b.dropLane (.cmd q i)).clearQueues c.engs
        (c.engs.foldl Block.drainEng b).settleCmd q i
      else b.endCmd q i st
    | _ => b.endCmd q i st

/-! ### Tasks -/

/-- A task is unbound (R182): engines, pins and the version are released, and its STOP_PERSIST commands end OK. -/
def Block.unbindTask (b : Block) (ctx id : Nat) : Block :=
  match b.task? ctx id with
  | none => b
  | some t =>
    let b := (b.releaseEngs t.engs).dropLane (.task ctx id)
    let b := { b with
      tasks := b.tasks.filter fun x => !(x.ctx = ctx ∧ x.id = id)
      waiters := b.waiters.filter fun w => w.who ≠ WaitFor.task ctx id }
    let b := (b.dropPins t.pins).reapVersions
    t.stops.foldl (fun b s => b.endCmd s.1 s.2 0) b

/-- Whether a task is to be unbound now (R182, R184): its stop has come due and it has no item in hand. -/
def Task.stopDue (t : Task) : Bool :=
  t.item.isNone && (t.unbinding || match t.stopAt with
    | some n => t.halted || decide (n ≤ t.next)
    | none => false)

/-- A task whose stop has come due and which has no item in hand is unbound. -/
def Block.settleTask (b : Block) (ctx id : Nat) : Block :=
  match b.task? ctx id with
  | none => b
  | some t =>
    if t.stopDue ∧ b.allQuiet t.engs then b.unbindTask ctx id else b

/-- The item in hand is cancelled with a status: its engines drain, and it ends once they have. -/
def Block.cancelItem (b : Block) (ctx id st : Nat) : Block :=
  match b.task? ctx id with
  | none => b
  | some t => match t.item with
    | none => b
    | some x =>
      if x.ended.isSome then b
      else
        let b := (b.dropLane (.task ctx id)).clearQueues t.engs
        let b := t.engs.foldl Block.drainEng b
        let quiet := b.allQuiet t.engs
        let st := x.cancel.getD st
        b.modTask ctx id fun t => { t with
          stalled := false, bp := none
          item := some { x with cancel := some st, ended := if quiet ∧ st ≠ retryStep then some st else none } }

/-! ### Faults -/

/-- A CMD_ERROR event (R101, R181). -/
def Block.cmdError (b : Block) (ctx code st : Nat) : Block := b.event pgQfe 8 ctx (code + st * 2 ^ 32)

end Sys2Proof.Machine
end

