-- ==== Sys2Proof/Machine/Wicks.lean ====
section
/-!
DEFINITION. The Wick Engine's operations (R230 to R262): names and slots, signals and their waiters, step boundaries
(R319 to R321), bounds (R247, R248), snuffing (R249, R250), doorbell wicks (R93, R94), tokens, imports and exports.
-/
namespace Sys2Proof.Machine

/-! ### Names and slots -/

/-- Whether a virtual ID is a doorbell wick (R93). -/
def isDoorbell (v : Nat) : Bool := 0xFFF0 ≤ v

def Vid.slot? : Vid → Option Nat
  | .free => none
  | .owned s => some s
  | .imported s _ => some s

/-- The slot that a virtual ID of a context names. -/
def Block.slotOf (b : Block) (c v : Nat) : Option Nat := (b.vid c v).slot?

/-- Whether a name has a right (R258): bit 0 WAIT, 1 SETMAX, 2 ADD; an OWNED one has all. -/
def Vid.has : Vid → Nat → Bool
  | .free, _ => false
  | .owned _, _ => true
  | .imported _ r, k => bit r k

/-- Whether any name refers to a slot (R68). -/
def Block.slotNamed (b : Block) (s : Nat) : Bool := b.vids.any fun kv => kv.2.slot? = some s

/-- Contexts that import a slot (R266). -/
def Block.importsOf (b : Block) (s : Nat) : Nat := (b.vids.filter fun kv => match kv.2 with
  | .imported t _ => t = s
  | _ => false).length

/-- Low half of a slot's token (R69), and the whole token. -/
def tokenLow (s : Nat) (x : Slot) : Nat := x.gen * 2 ^ 17 + s
def Block.token (b : Block) (s : Nat) : Nat := b.reg Reg.WK_INCARNATION * 2 ^ 32 + tokenLow s (b.slot s)

/-- The slot that a token's low half names, if it is ALLOC, EXPORTED and of the token's generation. -/
def Block.tokenSlot? (b : Block) (low : Nat) : Option Nat :=
  let s := low % 2 ^ 17
  let x := b.slot s
  if x.alloc ∧ x.exported ∧ x.gen = low / 2 ^ 17 % 2 ^ 15 then some s else none

/-- The lowest-numbered slot free for allocation (R67). -/
def Block.freeSlot? (b : Block) : Option Nat :=
  firstNat (fun s => !(b.slot s).alloc && !(b.slot s).withdrawn) 0 Config.numSlots

/-- Slots free for allocation (R263). -/
def Block.freeSlots (b : Block) : Nat := Config.numSlots - (b.slots.filter fun kv => kv.2.alloc || kv.2.withdrawn).length

/-- Harnesses whose commit wick is a slot (R319). -/
def Block.commitsOf (b : Block) (s : Nat) : List Nat :=
  (List.range 64).filter fun h =>
    let x := b.harness h
    x.commitEn && decide (b.slotOf x.commitCtx x.commitVid = some s)

/-- Commit wicks that satisfy `p` are disabled (R322). -/
def Block.dropCommits (b : Block) (p : Harness → Bool) : Block :=
  { b with harnesses := b.harnesses.map fun kv => (kv.1, if kv.2.commitEn && p kv.2 then { kv.2 with commitEn := false } else kv.2) }

/-- Bounds that satisfy `p` are disabled and keep their flags (R248). -/
def Block.dropBounds (b : Block) (p : Bound → Bool) : Block :=
  { b with bounds := b.bounds.map fun kv => (kv.1, if kv.2.en && p kv.2 then { kv.2 with en := false } else kv.2) }

/-- What a freed slot becomes: the generation advances, or the slot is withdrawn, or its generation wraps (R239). -/
def Slot.freed (x : Slot) : Slot :=
  if x.gen < 0x7FFF then { gen := x.gen + 1, everExported := x.everExported, spareRow := x.spareRow }
  else if x.everExported then { gen := x.gen, everExported := true, withdrawn := true, spareRow := x.spareRow }
  else { gen := 0, spareRow := x.spareRow }

/-- Whether the row that holds a slot has failed with no spare left (R424). -/
def Block.rowDead (b : Block) (s : Nat) : Bool := (b.wearOf 2 ((b.slot s).spareRow.getD s)).st = 2

def Block.ledgerTerm (b : Block) (f : Ledger → Ledger) : Block := { b with ledger := f b.ledger }

/-- A signal that a snuffed slot drops (R250, R265); `win` says that it is a window write. -/
def Block.sigDrop (b : Block) (win : Bool) : Block :=
  if win then (b.ledgerTerm fun l => { l with win := l.win + 1 }).count32 Reg.WK_WIN_DROP
  else (b.ledgerTerm fun l => { l with snuff := l.snuff + 1 }).count32 Reg.WK_SNUFF_DROP

/-- A slot is freed (R259); one whose row has failed is withdrawn (R424). Signals that pacing still holds for it drop as on a snuffed
slot (log entry 95). -/
def Block.freeSlot (b : Block) (s : Nat) : Block :=
  let x := (b.slot s).freed
  let x := if b.rowDead s then { x with withdrawn := true } else x
  let b := b.setSlot s x
  let b := if x.withdrawn then b.setReg Reg.WK_WITHDRAWN (b.reg Reg.WK_WITHDRAWN + 1) else b
  let b := b.dropBounds fun y => y.prodSlot = s ∨ y.consSlot = s
  let dropped := b.heldSigs.filter (·.slot = s)
  dropped.foldl (fun b y => b.sigDrop y.win) { b with heldSigs := b.heldSigs.filter (·.slot ≠ s) }

/-- A virtual ID is freed, and its slot with its last name (R68, R259). -/
def Block.freeVid (b : Block) (c v : Nat) : Block :=
  match b.vid c v with
  | .free => b
  | x =>
    let s := x.slot?.getD 0
    let b := b.dropCommits fun h => h.commitCtx = c ∧ h.commitVid = v
    let b := b.setVid c v .free
    let b := if (b.slot s).owner = some (c, v) then b.setSlot s { b.slot s with owner := none } else b
    if b.slotNamed s then b else b.freeSlot s

/-- A slot is allocated to a context's virtual ID with a value (R67). -/
def Block.allocVid (b : Block) (c v s : Nat) (value : Nat) : Block :=
  (b.setSlot s { b.slot s with value := value, alloc := true, owner := some (c, v) }).setVid c v (.owned s)

/-! ### Waking -/

/-- Gated engines take their place in wake groups, lowest engine number first (R189, R244). -/
def Block.wakeEngs (b : Block) (es : List Nat) : Block :=
  let es := sortBy id (es.filter fun e => (b.eng e).gated && !(b.eng e).waking)
  let n := max 1 (b.field Reg.WAKE_CTL 31 16)
  let groups := (List.range (ceilDiv es.length n)).map fun k =>
    let g : PGroup := { wake := true, engs := (es.drop (k * n)).take n, asked := b.zclk }
    g
  let b := es.foldl (fun b e => b.setEng e { b.eng e with waking := true }) b
  { b with groups := b.groups ++ groups }

/-- Progress of a command: its budget restarts (R136). -/
def Block.progress (b : Block) (q i : Nat) : Block := b.modCmd q i fun c => { c with budget := 0 }
def Block.progressTask (b : Block) (c t : Nat) : Block := b.modTask c t fun x => { x with budget := 0 }

/-- Progress of the work that holds an engine. -/
def Block.progressEng (b : Block) (e : Nat) : Block :=
  match (b.eng e).use with
  | .free => b
  | .cmd q i => b.progress q i
  | .task c t => b.progressTask c t

/-- A beat of engine `e` (R204): progress of its work, which a command counts (R434; log entry 102). -/
def Block.beatEng (b : Block) (e : Nat) : Block :=
  match (b.eng e).use with
  | .cmd q i => b.modCmd q i fun c => { c with budget := 0, beats := c.beats + 1 }
  | _ => b.progressEng e

/-- One record of a slot after a change of its VALUE: progress for its waiter (R137), and its waking where met (R243). -/
def Block.wakeOne (b : Block) (value : Nat) (w : Waiter) : Block :=
  let met := if w.gt then w.value < value else w.value ≤ value
  let b := match w.who with
    | .cmd q i _ => b.progress q i
    | .engine e => b.progressEng e
    | .task _ _ => b
  if met then
    let b := { b with waiters := b.waiters.erase w }
    match w.who with
    | .cmd _ _ _ => b
    | .engine e => (b.setEng e { b.eng e with wickWait := none, waitCycles := 0 })
    | .task c t => ((b.task? c t).map (·.engs)).getD [] |>.foldl (fun b e => b.setEng e { b.eng e with waitCycles := 0 }) b
  else b

/-- Engines that a met record wakes. -/
def Block.wokenBy (b : Block) (value : Nat) (w : Waiter) : List Nat :=
  if (if w.gt then w.value < value else w.value ≤ value) then
    match w.who with
    | .cmd _ _ _ => []
    | .engine e => [e]
    | .task c t => ((b.task? c t).map (·.engs)).getD []
  else []

/-- The waiter records of a slot are evaluated after a change of its VALUE (R243); engines woken together with their clocks
gated are paced. -/
def Block.evalWaiters (b : Block) (s : Nat) : Block :=
  let v := (b.slot s).value
  let ws := b.waiters.filter (·.slot = s)
  let woken := ws.flatMap (b.wokenBy v)
  (ws.foldl (fun b w => b.wakeOne v w) b).wakeEngs woken

/-! ### Signals -/

/-- What an ADD or SETMAX makes of a value (R231, R232). -/
def sigResult (value : Nat) (setmax : Bool) (v : Nat) : Nat := if setmax then max value v else min (value + v) max64

/-- A step boundary of the harnesses that name slot `s` as their commit wick (R321): the held writes are committed and the
ledger samples. -/
def Block.stepBoundary (b : Block) (hs : List Nat) : Block :=
  let b := hs.foldl (fun b h => b.setHarness h { b.harness h with lastBoundary := some b.zclk }) b
  let b := { b with held := b.held.filter fun w => !hs.contains w.h }
  b.closeAt hs

/-- A signal takes effect on a slot (R231, R232, R250); `win` says that it is a window write. The slot's waiters and bounds are looked
at once all the signals of the edge have been applied (settleWicks). -/
def Block.sigNow (b : Block) (s : Nat) (setmax : Bool) (v : Nat) (win : Bool) : Block :=
  let x := b.slot s
  if x.snuffed then b.sigDrop win
  else if setmax ∧ v < x.value then (b.ledgerTerm fun l => { l with stale := l.stale + 1 }).count32 Reg.WK_STALE
  else if setmax ∧ v = x.value then b.ledgerTerm fun l => { l with equal := l.equal + 1 }
  else
    let r := sigResult x.value setmax v
    let overrun := !setmax && decide (max64 < x.value + v)
    let b := b.ledgerTerm fun l => { l with applied := l.applied + 1 }
    let b := b.setSlot s { x with value := r, sat := x.sat || overrun }
    let b := if overrun then (b.count32 Reg.WK_SAT_COUNT).event pgWk 8 ((x.owner.map (·.1)).getD 0) ((x.owner.map (·.2)).getD 0) else b
    if r = x.value then b else b.stepBoundary (b.commitsOf s)

/-- Whether pacing holds a signal to a slot (R320): an earlier one is held, or the signal would change the commit wick of a
harness within 250 µs of that harness's last boundary. -/
def Block.paced (b : Block) (s : Nat) (setmax : Bool) (v : Nat) : Option Nat :=
  let x := b.slot s
  match b.heldSigs.find? (·.slot = s) with
  | some y => some y.h
  | none =>
    if x.snuffed ∨ sigResult x.value setmax v = x.value then none
    else (b.commitsOf s).find? fun h => match (b.harness h).lastBoundary with
      | some t => b.zclk < t + Config.stepCycles
      | none => false

/-- A signal reaches a slot: it is issued, and applied or held; `who` names the command that sends it. -/
def Block.sigSlot (b : Block) (s : Nat) (setmax : Bool) (v : Nat) (win : Bool := false) (who : Option (Nat × Nat) := none) : Block :=
  let b := b.ledgerTerm fun l => { l with issued := l.issued + 1 }
  match b.paced s setmax v with
  | some h =>
    let y : HeldSig := { h := h, slot := s, setmax := setmax, value := v, win := win, who := who }
    { b with heldSigs := b.heldSigs ++ [y] }
  | none => b.sigNow s setmax v win

/-- Held signals of slot `s` leave in order while nothing holds them again; `l` are those still to look at. -/
def Block.releaseHeld (s : Nat) : List HeldSig → Block → Block
  | [], b => b
  | y :: t, b =>
    let without := { b with heldSigs := b.heldSigs.filter (·.slot ≠ s) }
    match without.paced s y.setmax y.value with
    | some _ => b
    | none => Block.releaseHeld s t (({ b with heldSigs := b.heldSigs.erase y }).sigNow s y.setmax y.value y.win)

/-! ### Bounds (R247) -/

def Block.checkBound (b : Block) (k : Nat) : Block :=
  let y := b.bound k
  if !y.en then b
  else
    let p := (b.slot y.prodSlot).value
    let c := (b.slot y.consSlot).value
    let overrun := decide (c + y.limit < p)
    let underrun := decide (p < c)
    let y' := { y with overrun := y.overrun || overrun, underrun := y.underrun || underrun }
    let b := b.setBound k y'
    if (overrun && !y.overrun) || (underrun && !y.underrun) then
      b.event pgWk 9 y.ctx (ofBit y'.underrun * 2 ^ 11 + ofBit y'.overrun * 2 ^ 10 + k)
    else b

/-- The enabled bounds of any of the slots are checked. -/
def Block.checkBounds (b : Block) (ss : List Nat) : Block :=
  ((b.bounds.filter fun kv => kv.2.en && (ss.contains kv.2.prodSlot || ss.contains kv.2.consSlot)).map (·.1)).foldl Block.checkBound b

/-- After the last signal of an edge: the waiters of each of the slots `ss` whose VALUE has changed since `old` are evaluated once
(R235, R243), then its bounds (R247), and deadlines follow (R161). -/
def Block.settleWicks (b old : Block) (ss : List Nat) : Block :=
  let ch := (dedup ss).filter fun s => (b.slot s).value ≠ (old.slot s).value
  ((ch.foldl Block.evalWaiters b).checkBounds ch).fixDeadlines

/-! ### Doorbell wicks (R94) -/

/-- A rejection counted in Q_DBREJ (R89, R90). -/
def Block.dbReject (b : Block) (q : Nat) : Block :=
  let x := b.queue q
  let b := b.setQueue q { x with dbRej := satAdd 16 x.dbRej 1 }
  let b := b.count32 Reg.QFE_DBREJ_TOTAL
  if x.dbRej = 0 then b.event pgQfe 11 x.ctx (x.qidx * 2 ^ 21) else b

/-- Whether a queue takes doorbells (R92). -/
def HwQueue.takesDb (x : HwQueue) : Bool := x.st = .active ∨ x.st = .halted ∨ x.st = .lost

/-- DB_COUNT set to `n`, if R90's second and third tests pass (R94); it counts modulo 2^64 (DEDUCED from its width, log entry 31). -/
def Block.dbSet (b : Block) (q n : Nat) : Block :=
  let x := b.queue q
  let n := n % 2 ^ 64
  let m := 2 * x.slots
  if !x.takesDb then b
  else if x.slots < (n % m + m - x.completed) % m ∨ x.slots < (n % m + m - x.doorbell) % m then b.dbReject q
  else b.setQueue q { x with dbCount := n }

/-- A signal entry that names a doorbell wick; an unused queue index leaves it without effect. -/
def Block.sigDoorbell (b : Block) (ctx qidx : Nat) (setmax : Bool) (v : Nat) : Block :=
  match b.queueOf? ctx qidx with
  | none => b
  | some q =>
    let x := b.queue q
    if setmax then (if x.dbCount < v then b.dbSet q v else b) else (if v = 0 then b else b.dbSet q (x.dbCount + v))

/-- One signal entry of a context (R106). -/
def Block.sigEntry (b : Block) (ctx : Nat) (who : Option (Nat × Nat)) (g : SigEnt) : Block :=
  if isDoorbell g.wick then b.sigDoorbell ctx (g.wick - 0xFFF0) g.setmax g.value
  else match b.slotOf ctx g.wick with
    | some s => b.sigSlot s g.setmax g.value false who
    | none => b

/-- The signals of a command or item in entry order, then their waiters and bounds (R106, R235, R247). -/
def Block.sigAll (b : Block) (ctx : Nat) (l : List SigEnt) (who : Option (Nat × Nat) := none) : Block :=
  let ss := l.filterMap fun g => if isDoorbell g.wick then none else b.slotOf ctx g.wick
  (l.foldl (fun b g => b.sigEntry ctx who g) b).settleWicks b ss

/-! ### Snuffing (R249, R250) -/

/-- What becomes of a waiter whose slot is snuffed. -/
def Block.snuffWaiter (b : Block) (w : Waiter) : Block :=
  let b := { b with waiters := b.waiters.erase w }
  match w.who with
  | .cmd q i _ => b.cancelCmd q i 0x31
  | .engine e => match (b.eng e).use with
    | .cmd q i => b.cancelCmd q i 0x31
    | .task c t => b.cancelItem c t 0x31
    | .free => b
  | .task c t =>
    let b := b.modTask c t fun x => { x with stopAt := some x.next }
    (b.event pgWk 11 c (tCode t)).settleTask c t

/-- A slot is snuffed: its VALUE freezes, held signals drop, bounds and commit wicks on it end, and its waiters end. -/
def Block.snuff (b : Block) (s : Nat) : Block :=
  let x := b.slot s
  if !x.alloc ∨ x.snuffed then b
  else
    let b := b.setSlot s { x with snuffed := true }
    let b := b.dropBounds fun y => y.prodSlot = s ∨ y.consSlot = s
    let cs := b.commitsOf s
    let b := cs.foldl (fun b h => b.setHarness h { b.harness h with commitEn := false }) b
    let dropped := b.heldSigs.filter (·.slot = s)
    let b := dropped.foldl (fun b y => b.sigDrop y.win) { b with heldSigs := b.heldSigs.filter (·.slot ≠ s) }
    ((b.waiters.filter (·.slot = s)).foldl Block.snuffWaiter b).fixDeadlines

/-- The signal wicks of cancelled work are snuffed, doorbell wicks excepted (R249). -/
def Block.snuffSigs (b : Block) (ctx : Nat) (l : List SigEnt) : Block :=
  (l.filterMap fun g => if isDoorbell g.wick then none else b.slotOf ctx g.wick).foldl Block.snuff b

/-- A command is cancelled as under QUEUE_DESTROY in mode ABORT (R55): its signal wicks are snuffed. -/
def Block.abortCmd (b : Block) (q i st : Nat) : Block :=
  match b.cmd? q i with
  | none => b
  | some c => match c.phase with
    | .ended _ => b
    | _ => (b.cancelCmd q i st).snuffSigs c.ctx c.sigs

/-- The item in hand of a task is cancelled and its signal wick snuffed (R184); one that has failed already keeps its status. -/
def Block.abortItem (b : Block) (ctx id st : Nat) : Block :=
  match b.task? ctx id with
  | none => b
  | some t => match t.item with
    | none => b
    | some x =>
      let b := if x.ended.isSome then b.modTask ctx id fun t => { t with item := t.item.map fun y => { y with ended := y.ended.map fun e => if e ≤ 1 then st else e } }
        else b.cancelItem ctx id st
      if x.hasSig then b.snuffSigs ctx [x.sig] else b

/-- A task is cancelled and unbound once its engines have drained (R184). -/
def Block.abortTask (b : Block) (ctx id : Nat) : Block :=
  ((b.abortItem ctx id 0x31).modTask ctx id fun t => { t with unbinding := true }).settleTask ctx id

end Sys2Proof.Machine
end

