-- ==== Sys2Proof/Machine/Loss.lean ====
section
/-!
DEFINITION. Halting a queue (R51 to R53, R86), losing a context (R42 to R46), and what becomes of a waiter whose
translation fails (R86, R181, R286, R538).
-/
namespace Sys2Proof.Machine

/-- The address of the STATUS byte of the command at index `i` of a queue (R82, R99). -/
def HwQueue.statusVa (x : HwQueue) (i : Nat) : Nat := x.ringBase + i % x.slots * 64 + 7

/-- STATUS written in place, exempt from the write right (R86). -/
def Block.writeStatus (b : Block) (q i st : Nat) : MRes Block :=
  b.writeHome (b.queue q).ctx ((b.queue q).statusVa i) [BitVec.ofNat 8 st] needRd

/-- A command leaves QFE: its engines, pins, version, waiters and place are released. -/
def Block.removeCmd (b : Block) (c : Cmd) : Block :=
  let b := (((b.releaseEngs c.engs).dropCmdWaits c.q c.i).dropPlacing c.q c.i).leaveFaults (.cmd c.q c.i)
  let b := { b with cmds := b.cmds.filter fun x => !(x.q = c.q ∧ x.i = c.i) }
  (b.dropPins c.pins).reapVersions

/-- Fetched commands of a queue that have not started are discarded (R53, R55); with `mark` each is to get the marker 0xFF. -/
def Block.discard (b : Block) (q : Nat) (mark : Bool) : Block :=
  (b.cmds.filter fun c => c.q = q ∧ !c.begun).foldl (fun b c =>
    let b := b.removeCmd c
    let x := b.queue q
    b.setQueue q { x with discSlots := x.discSlots + c.slots, marks := if mark then x.marks ++ [c.i] else x.marks }) b

/-- The marker of one discarded command (R53, R100): whether it is dealt with, and the block after. A write that waits is made
again once it can be; one that faults ends, its queue being halted already. -/
def Block.markOne (b : Block) (q i : Nat) : Bool × Block :=
  match b.writeStatus q i 0xFF with
  | .ok b => (true, b)
  | .bad _ => (true, b)
  | .poison _ _ => (true, b)
  | .ask p va => (false, b.askAts p va [.queue q])
  | .wait => (false, b)
  | .join _ => (false, b)
  | .migrate _ => (false, b)

/-- The markers of a queue written one after another; `n` bounds their number. -/
def Block.markN (q : Nat) : Nat → Block → Block
  | 0, b => b
  | n + 1, b => match (b.queue q).marks with
    | [] => b
    | i :: t =>
      let r := b.markOne q i
      if r.1 then Block.markN q n (r.2.setQueue q { r.2.queue q with marks := t }) else r.2

/-- Q_STATUS reads HALTED once every marker is written (R53). -/
def Block.settleHalt (b : Block) (q : Nat) : Block :=
  let b := Block.markN q (b.queue q).marks.length b
  let x := b.queue q
  match x.halting with
  | some code => if x.marks.isEmpty then b.setQueue q { x with
      st := if x.st = .active then .halted else x.st
      errCode := if x.st = .active then code else x.errCode
      halting := none } else b
  | none => b

/-- An ACTIVE queue halts (R53): `i` is the index of the halting command. -/
def Block.haltQueue (b : Block) (q i code : Nat) : Block :=
  let x := b.queue q
  if x.st ≠ .active ∨ x.halting.isSome then b
  else
    let b := b.discard q true
    let b := { b with waitHold := b.waitHold.filter (· ≠ q) }.setQueue q { b.queue q with halting := some code }
    let b := b.settleHalt q
    let b := b.cinderRec 0x02 code x.ctx (qCode x.qidx i)
    b.fixDeadlines

/-- A queue-halt event (R101). -/
def Block.haltEvent (b : Block) (q i code : Nat) : Block :=
  b.event pgQfe 9 (b.queue q).ctx (qCode (b.queue q).qidx i + code * 2 ^ 32)

/-- A ring access that faults halts its queue with FAULT_XLAT, and is a driver fault in context 0 (R485); the index reported is that
of the next fetch (log entry 22). DEDUCED (log entry 22): an access of the ring whose mapping lacks the read right halts with 0x20
too. -/
def Block.ringFault (b : Block) (q : Nat) : Block :=
  let x := b.queue q
  if x.st = .active then
    let b := (b.haltQueue q x.fetched 0x20).haltEvent q x.fetched 0x20
    if x.ctx = 0 then b.event pgQfe 12 0 (qCode x.qidx x.fetched + 0x20 * 2 ^ 32) else b
  else b

/-- Queues of a context that is lost (R51): LOST, or ABORTING where they were DRAINING. -/
def HwQueue.lose (x : HwQueue) (c code : Nat) : HwQueue :=
  if x.ctx ≠ c then x
  else match x.st with
    | .active => { x with st := .lost, errCode := code, halting := none }
    | .halted => { x with st := .lost, errCode := code }
    | .draining => { x with st := .aborting }
    | _ => x

/-- One command of a lost context takes its status: a running launch is cancelled as under ABORT, whatever cancelled it before; every
other one ends, and one that has ended and not completed takes the status too (R43). -/
def Block.loseCmd (b : Block) (x : Cmd) (st : Nat) : Block :=
  if x.runsStitches ∧ x.phase = .running then
    (b.modCmd x.q x.i fun c => { c with cancel := some st }).abortCmd x.q x.i st
  else (b.endCmd x.q x.i st).restatus x.q x.i st

/-- The commands of a lost context end with CTX_LOST, the command that caused the loss with its code (R43). -/
def Block.loseCmds (b : Block) (c code : Nat) (cause : Option (Nat × Nat)) : Block :=
  (b.cmds.filter (·.ctx = c)).foldl (fun b x => b.loseCmd x (if cause = some (x.q, x.i) then code else 0x32)) b

/-- Owned virtual IDs of a context (key = context × 65536 + ID), ascending, and their slots. -/
def Block.ownedOf (b : Block) (c : Nat) : List Nat :=
  b.vids.filterMap fun kv => match kv.2 with
    | .owned s => if kv.1 / 65536 = c then some s else none
    | _ => none

/-- A context is lost (R42, R43): `cause` is the causing command; `fromAbort` says that a received ABORT did it, which
posts no event of its own (R411). Context 0 halts the causing queue instead (R46). -/
def Block.loseCtx (b : Block) (c code : Nat) (cause : Option (Nat × Nat)) (fromAbort : Bool := false) : Block :=
  let qd := match cause with
    | some (q, i) => qCode (b.queue q).qidx i
    | none => 0
  if c = 0 then
    let b := match cause with
      | some (q, i) => (b.cancelCmd q i code).haltQueue q i code
      | none => b
    b.event pgQfe 12 0 (qd + code * 2 ^ 32)
  else
    let x := b.ctx c
    if x.st ≠ .opn ∧ x.st ≠ .saved then b
    else
      let b := b.setCtx c { x with st := .lost, lostCode := code, debug := false }
      let b : Block := { b with
        queues := b.queues.map fun kv => (kv.1, kv.2.lose c code)
        waitHold := b.waitHold.filter fun q => (b.queue q).ctx ≠ c }
      let b := b.loseCmds c code cause
      let b := (b.tasks.filter (·.ctx = c)).foldl (fun b t => b.abortTask c t.id) b
      let b := (b.ownedOf c).foldl Block.snuff b
      let b := (b.dropBounds (·.ctx = c)).dropCommits (·.commitCtx = c)
      let b := b.cinderRec 0x01 code c qd
      let b := b.event pgQfe 10 c (qd + code * 2 ^ 32)
      let b := b.count Reg.RC_L_COUNT0 15 0 1
      let b := if x.jobValid ∧ !fromAbort then b.postErr true x.job code else b
      b.fixDeadlines

/-- A burst without a golden copy is consumed, or named by a command (R418, R396): LOST of RC_POISON advances, a poison event is
raised, and a consumed one has its Cinder record and freezes its mappings (R66). -/
def Block.notePoison (b : Block) (ctx a : Nat) (consumed : Bool) : Block :=
  let b := b.count Reg.RC_POISON 31 16 1
  let b := if consumed then
      let ids := (b.mapsOf a).map (·.1.id)
      { b with maps := mapIf (fun m => ids.contains m.id) (fun m => { m with frozen := dedup (m.frozen ++ [a]) }) b.maps
        }.cinderRec 0x05 0x40 ctx (burstCode a)
    else b
  b.event pgRc 11 ctx (burstCode a)

/-- A ring read or STATUS access that returns poison (R418): the context of the queue is lost, or for context 0 the queue halts. -/
def Block.ringPoison (b : Block) (q a : Nat) : Block :=
  let x := b.queue q
  (b.notePoison x.ctx a true).loseCtx x.ctx 0x40 (if x.ctx = 0 then some (q, x.fetched) else none)

/-- A command that consumes or names such a burst completes with POISON, and its context is lost (R418). -/
def Block.poisonCmd (b : Block) (c : Cmd) (a : Nat) (consumed : Bool) : Block :=
  ((b.notePoison c.ctx a consumed).endCmd c.q c.i 0x40).loseCtx c.ctx 0x40 (some (c.q, c.i))

/-- Whether registers have invalidated a byte of [va, va + len) of a context (R298). -/
def Block.deadRange (b : Block) (c va len : Nat) : Bool :=
  !b.bootmap && b.maps.any fun m => decide (m.ctx = c) && m.invalid.any fun r =>
    decide (max (max r.1 va) m.va < min (min (r.1 + r.2) (va + len)) (m.va + m.len))

/-- A command ends with the status that an access of [va, va + len) of context `x` met; a range that registers invalidated costs
the command's context (R42, R298). -/
def Block.faultCmd (b : Block) (c : Cmd) (x va len st : Nat) : Block :=
  if st = 0x20 ∧ b.deadRange x va len then (b.endCmd c.q c.i st).loseCtx c.ctx st (some (c.q, c.i)) else b.endCmd c.q c.i st

/-- The work of an engine ends with a status that one of its accesses met; `lose` says that its context is lost too. -/
def Block.endWork (b : Block) (e st : Nat) (lose : Bool) : Block :=
  match (b.eng e).use with
  | .free => b
  | .cmd q i => match b.cmd? q i with
    | some c => if lose then b.loseCtx c.ctx st (some (q, i)) else b.cancelCmd q i st
    | none => b
  | .task c t => if lose then (b.cancelItem c t st).loseCtx c st none else b.cancelItem c t st

/-- A task is HALTED with a status (R181): an item that has ended leaves it, and a waiting STOP_PERSIST unbinds it. -/
def Block.haltTask (b : Block) (c t st : Nat) : Block :=
  let b := b.modTask c t fun x => { x with halted := true, item := x.item.filter (·.ended.isNone) }
  (b.cmdError c (tCode t) st).settleTask c t

/-- What becomes of a waiter whose translation fails with FAULT_XLAT. -/
def Block.failAsker (b : Block) (a : Asker) : Block :=
  match a with
  | .engine e => b.endWork e 0x20 false
  | .cmd q i => match b.cmd? q i with
    | none => b
    | some c => match c.phase with
      | .ended _ => b.ringFault q
      | _ => (b.dropLoadOf c).cancelCmd q i 0x20
  | .queue q => b.ringFault q
  | .task c t => b.haltTask c t 0x20
  | .frameRing => { b with fcrStuck := true }.event pgZt 9 0 (2 * 2 ^ 8)

/-- The context of the work that an engine holds. -/
def Block.engCtx (b : Block) (e : Nat) : Option Nat := match (b.eng e).use with
  | .free => none
  | .cmd q i => (b.cmd? q i).map (·.ctx)
  | .task c _ => some c

/-- The argument record of the current invocation of engine `e` (R203): context, address and bytes read, none where ARG_ADDR is 0 (R109). -/
def Block.argRecord (b : Block) (e : Nat) : Nat × Nat × Nat :=
  let x := b.eng e
  match x.use with
  | .cmd q i => match b.cmd? q i with
    | some c => match c.launch? with
      | some l => (c.ctx, l.argAddr + x.inv * (l.argLen * 64), if l.argAddr = 0 then 0 else min 512 (l.argLen * 64))
      | none => (0, 0, 0)
    | none => (0, 0, 0)
  | .task c t => match (b.task? c t).bind (·.item) with
    | some y => (c, y.argAddr + x.inv * (y.argLen * 64), if y.argAddr = 0 then 0 else min 512 (y.argLen * 64))
    | none => (0, 0, 0)
  | .free => (0, 0, 0)

/-- The bytes of that record; an engine migrates host-resident pages (R275). -/
def Block.argBytes (b : Block) (e : Nat) : MRes (List Byte) :=
  let r := b.argRecord e
  b.readVa r.1 r.2.1 r.2.2 needRd false

/-- The argument words of engine `e` loaded; words beyond the record read 0. -/
def Block.setArgs (b : Block) (e : Nat) (bs : List Byte) : Block :=
  b.setEng e { b.eng e with args := (words64 bs).map (BitVec.ofNat 64) }

/-- A translation handed to engine `e` for an address of its work (R277). -/
def Block.handOver (b : Block) (e va : Nat) : Block := match b.engCtx e with
  | some c => b.fillTlb e c va
  | none => b

/-- A waiter goes on (R137) with the translation of `va`; a queue writes the markers that waited. -/
def Block.resumeAsker (b : Block) (va : Nat) (a : Asker) : Block :=
  match a with
  | .engine e => (b.progressEng e).handOver e va
  | .cmd q i => b.progress q i
  | .queue q => b.settleHalt q
  | .task c t => b.progressTask c t
  | .frameRing => b

end Sys2Proof.Machine
end

