-- ==== Sys2Proof/Machine/Ztu.lean ====
section
/-!
DEFINITION. The translation unit's own work: frame pools (R283, R287), the frame completion ring (R288 to R291), table
frames (R276), the fault queue and migrations (R281 to R286), PREFETCH and ADVISE pages (R292, R293) and invalidations
(R294, R295, R298).
-/
namespace Sys2Proof.Machine

/-- The size of a fault's page: 64 KiB in RANGE mode, 4 KiB in ATS mode (R281). -/
def Block.faultPage (b : Block) (c : Nat) : Nat := if (b.ctx c).ats then 4096 else 65536

/-! ### Frame pools -/

/-- A FRAME_POOL event (R511). -/
def Block.poolEvent (b : Block) (kind pool : Nat) : Block := b.event pgZt 8 0 (kind * 2 ^ 8 + pool)

/-- A frame taken from the first pool of `ps` that is not empty: frame, pool and the block after it. -/
def Block.takeFrame (b : Block) (ps : List Nat) : Option (Nat × Nat × Block) :=
  match ps.find? fun p => !(b.pool p).isEmpty with
  | none => none
  | some p => match b.pool p with
    | [] => none
    | f :: t =>
      let low := b.reg Reg.ZT_POOL_LOW
      let b' := b.setPool p t
      some (f, p, if low ≠ 0 ∧ t.length + 1 = low then b'.poolEvent 1 p else b')

/-- The pools of R283: the near stack of a faulting engine where it is a home stack, then the home stacks of the harness;
every pool for an agent with no harness. -/
def Block.poolsFor (b : Block) (a : Asker) : List Nat :=
  let homes (h : Nat) : List Nat := (List.range b.straps.nStacks).filter fun s => bit (b.harness h).home s
  match a with
  | .engine e => match (b.eng e).harness with
    | some h =>
      let n := b.nearStack e
      if (homes h).contains n then n :: (homes h).filter (· ≠ n) else homes h
    | none => List.range b.straps.nStacks
  | .cmd q _ => match (b.queue q).harness with
    | some h => homes h
    | none => List.range b.straps.nStacks
  | .queue q => match (b.queue q).harness with
    | some h => homes h
    | none => List.range b.straps.nStacks
  | .task c t => match (b.task? c t).bind (·.engs.head?) with
    | some e => match (b.eng e).harness with
      | some h => homes h
      | none => []
    | none => []
  | .frameRing => List.range b.straps.nStacks

/-- The stacks near to a faulting agent (R308): none where every channel is near. -/
def Block.nearOf (b : Block) (a : Asker) : Option Nat :=
  match a with
  | .engine e => some (2 ^ b.nearStack e)
  | .cmd q _ => b.homeOf q
  | .queue q => b.homeOf q
  | .task c t => ((b.task? c t).bind (·.engs.head?)).map fun e => 2 ^ b.nearStack e
  | .frameRing => none

/-- Room of a pool (R287). -/
def Block.poolRoom (b : Block) (p : Nat) : Nat :=
  if b.reg Reg.ZT_FCR_SIZE = 0 then 0 else Config.poolFrames - (b.pool p).length

/-! ### Pages -/

/-- The page record at page number `n` of a mapping. -/
def Block.setPage (b : Block) (id n : Nat) (x : PageSt) : Block :=
  b.modMap id fun m => { m with pages := Tab.set (fun _ => .host) m.pages n x }

/-- Whether a page wholly inside [lo, hi) is MIGRATING. -/
def Mapping.movesIn (m : Mapping) (lo hi : Nat) : Bool :=
  m.pages.any fun kv => decide (kv.2 = .migrating) && decide (lo ≤ kv.1 * 65536) && decide ((kv.1 + 1) * 65536 ≤ hi)

/-- DEVICE pages that lie wholly inside [lo, hi), ascending: page number, frame and pool. -/
def Mapping.devPages (m : Mapping) (lo hi : Nat) : List (Nat × Nat × Nat) :=
  m.pages.filterMap fun kv => match kv.2 with
    | .device f p => if lo ≤ kv.1 * 65536 ∧ (kv.1 + 1) * 65536 ≤ hi then some (kv.1, f, p) else none
    | _ => none

/-! ### The fault queue -/

/-- The host addresses of the 16 pages of 4 KiB of a 64 KiB source, or what to ask for (R280): the 64 KiB page, and where an earlier
completion covered less, its first page that is not cached (log entry 96). -/
def Block.sourceOf (b : Block) (pasid page : Nat) : (Nat × Nat) ⊕ List AtsEnt :=
  match (List.range 16).find? fun k => (b.atsFor? pasid (page + k * 4096)).isNone with
  | some 0 => .inl (page, 16)
  | some k => .inl (page + k * 4096, 12)
  | none => .inr ((List.range 16).filterMap fun k => b.atsFor? pasid (page + k * 4096))

/-- A fault entry put through `f`. -/
def Block.modFault (b : Block) (c page : Nat) (f : FaultEnt → FaultEnt) : Block :=
  { b with faults := mapIf (fun x => x.ctx = c ∧ x.page = page) f b.faults }

def Block.fault? (b : Block) (c page : Nat) : Option FaultEnt := b.faults.find? fun x => x.ctx = c ∧ x.page = page

/-- An access in place that waits for a MIGRATING page joins its entry, uncounted (R274 row 9). -/
def Block.joinWait (b : Block) (ctx va : Nat) (a : Asker) : Block :=
  b.modFault ctx (alignDown va 65536) fun f => { f with waiters := dedup (f.waiters ++ [a]) }

/-- Page requests outstanding (R269). -/
def Block.priOut (b : Block) : Nat := (b.faults.filter fun f => f.stage = .needPri true).length

/-- A page request is sent where the host's allocation has room (R269, R285); else it waits for one. -/
def Block.sendPri (b : Block) (c page : Nat) : Block :=
  if b.priOut < b.pins.prAlloc then
    (b.modFault c page fun f => { f with stage := .needPri true }).count32 Reg.ZT_PRI_REQ
  else b.modFault c page fun f => { f with stage := .needPri false }

/-- Migrations are copied one at a time (R284): faults first, then PREFETCH, then WILL_NEED, the oldest of each. -/
def Block.startDma (b : Block) : Block :=
  let busy (f : FaultEnt) : Bool := match f.stage with
    | .copying .. => true
    | _ => false
  let ready (k : Nat) (f : FaultEnt) : Bool := match f.stage with
    | .ready .. => f.cls = k
    | _ => false
  if b.faults.any busy then b
  else match [0, 1, 2].findSome? fun k => b.faults.find? (ready k) with
    | none => b
    | some f => match f.stage with
      | .ready src fr p => b.modFault f.ctx f.page fun f => { f with stage := .copying src fr p }
      | _ => b

/-- A fault whose source is known takes a frame (R283), or waits for one with an event (R75). DESIGN CHOICE (log entry 97): where
every one of its pools is empty, the event names the first of them in the order of R283. -/
def Block.wantFrame (b : Block) (c page : Nat) : Block :=
  match b.fault? c page with
  | none => b
  | some f => match f.stage with
    | .needFrame src => match b.takeFrame f.pools with
      | some (fr, p, b) => (b.modFault c page fun f => { f with stage := .ready src fr p }).startDma
      | none =>
        if f.noted then b
        else (b.modFault c page fun f => { f with noted := true }).poolEvent 2 (f.pools.headD 0)
    | _ => b

/-- The page record of a fault returns to HOST. -/
def Block.unmigrate (b : Block) (c page : Nat) : Block :=
  { b with maps := b.maps.map fun m =>
      if m.ctx = c ∧ m.page page = .migrating then { m with pages := Tab.set (fun _ => .host) m.pages (page / 65536) .host } else m }

/-- The pages of ADVISE WILL_NEED jobs end with an outcome (R293): a failure counts, and a job whose pages have all ended
releases its pins. -/
def Block.endAdvice (b : Block) (c page : Nat) (ok : Bool) : Block :=
  let hit (a : Advice) : Bool := a.ctx = c ∧ a.pages.contains page
  let n := (b.advices.filter hit).length
  let b := if ok then b else b.count Reg.ZT_ADVISE 31 16 n
  let b : Block := { b with advices := mapIf hit (fun a => { a with pages := a.pages.filter (· ≠ page) }) b.advices }
  let pins := (b.advices.filter (·.pages.isEmpty)).flatMap (·.pins)
  let b : Block := { b with advices := b.advices.filter fun a => !a.pages.isEmpty }
  pins.foldl (fun b p => b.dropPins [p]) b

/-- A fault entry ends (R282, R286): its waiters go on, or fail with FAULT_XLAT. -/
def Block.closeFault (b : Block) (c page : Nat) (ok : Bool) : Block :=
  match b.fault? c page with
  | none => b
  | some f =>
    let b : Block := { b with faults := b.faults.filter fun x => !(x.ctx = c ∧ x.page = page) }
    let b := b.endAdvice c page ok
    if ok then f.waiters.foldl (fun b a => b.resumeAsker page a) b
    else f.waiters.foldl Block.failAsker (b.unmigrate c page)

/-- PRI_FAILED (R286). -/
def Block.priFailed (b : Block) : Bool := bit (b.reg Reg.ZT_CTL) 1

/-- A fault looks for its translation (R282 step 2, R285): a source read needs the read right, an ATS-mode access what it
asked for. -/
def Block.seekSource (b : Block) (c page : Nat) : Block :=
  match b.fault? c page with
  | none => b
  | some f =>
    let pasid := (b.ctx c).pasid
    if b.priFailed ∨ !b.pins.ats then b.closeFault c page false
    else if (b.ctx c).ats then
      match b.atsFor? pasid page with
      | none => (b.modFault c page fun f => { f with stage := .needAts }).askAts pasid page []
      | some e => if covers e.rd e.wr e.wr (if f.write then 3 else 1) then b.closeFault c page true else b.sendPri c page
    else match b.sourceOf pasid page with
      | .inl x => (b.modFault c page fun f => { f with stage := .needAts }).askAts pasid x.1 [] x.2
      | .inr l =>
        if l.all (·.rd) then
          let src := (l.zipIdx).map fun x => x.1.pa + (page + x.2 * 4096 - x.1.va)
          (b.modFault c page fun f => { f with stage := .needFrame src }).wantFrame c page
        else b.sendPri c page

/-- A fault takes an entry of the fault queue, or joins the entry of its page (R281). -/
def Block.enterFault (b : Block) (f : FaultEnt) : Block :=
  match b.fault? f.ctx f.page with
  | some g =>
    if f.waiters.all g.waiters.contains ∧ !f.waiters.isEmpty then b
    else
      let b := b.count32 Reg.FAULT_MERGED
      b.modFault f.ctx f.page fun g => { g with
        waiters := dedup (g.waiters ++ f.waiters), write := g.write || f.write, cls := min g.cls f.cls }
  | none =>
    let b := b.count32 Reg.FAULT_COUNT
    let b := if (b.ctx f.ctx).ats then b
      else match b.mapAt? f.ctx f.va with
        | some m => b.setPage m.id (f.page / 65536) .migrating
        | none => b
    { b with faults := b.faults ++ [f] }.seekSource f.ctx f.page

/-- Waiting faults take entries in arrival order while there is room, or join their page's entry. -/
def Block.refillFaults : Nat → Block → Block
  | 0, b => b
  | n + 1, b => match b.faultWait with
    | [] => b
    | f :: t =>
      if (b.fault? f.ctx f.page).isSome ∨ b.faults.length < Config.faultEntries then
        ({ b with faultWait := t }.enterFault f).refillFaults n
      else b

/-- A page request that waited for the host's allocation is sent, and waiting faults take free entries. -/
def Block.settleFaults (b : Block) : Block :=
  let b := (b.faults.filter fun f => f.stage = .needPri false).foldl (fun b f => b.sendPri f.ctx f.page) b
  (b.refillFaults b.faultWait.length).startDma

/-- A fault of agent `a` on the page of `va` (R281, R282): `cls` 0 a fault, 1 PREFETCH, 2 WILL_NEED; `who` waits for it. A fault
after PRI_FAILED ends at once (R286). -/
def Block.startFault (b : Block) (c va : Nat) (write : Bool) (cls : Nat) (who : List Asker) (a : Asker) : Block :=
  let page := alignDown va (b.faultPage c)
  let f : FaultEnt := {
    ctx := c, page := page, va := va, near := b.nearOf a, write := write, cls := cls, waiters := who, pools := b.poolsFor a }
  if (b.fault? c page).isSome ∨ b.faults.length < Config.faultEntries then b.enterFault f
  else if b.faultWait.any fun g => g.ctx = c ∧ g.page = page ∧ g.waiters = who ∧ g.cls = cls then b
  else { b with faultWait := b.faultWait ++ [f] }

/-- A fault entry ends, and what waited for its room goes on. -/
def Block.finishFault (b : Block) (c page : Nat) (ok : Bool) : Block := (b.closeFault c page ok).settleFaults

/-- What becomes of an access that cannot go on now: it asks for its translation, joins a migration or starts one. -/
def Block.meet {α : Type} (b : Block) (c : Nat) (a : Asker) (write : Bool) : MRes α → Block
  | .ask p va => b.askAts p va [a]
  | .join va => b.joinWait c va a
  | .migrate va => b.startFault c va write 0 [a] a
  | .ok _ => b
  | .wait => b
  | .poison _ _ => b
  | .bad _ => b

/-- The first marker of a queue that waits, waits as a STATUS write does (R53, R86). -/
def Block.markWait (b : Block) (q : Nat) : Block :=
  match (b.queue q).marks with
  | [] => b
  | i :: _ => b.meet (b.queue q).ctx (.queue q) false (b.writeStatus q i 0xFF)

/-! ### The frame completion ring -/

/-- Entries of the ring (R288). -/
def Block.fcrN (b : Block) : Nat := if b.reg Reg.ZT_FCR_SIZE = 0 then 0 else 2 ^ b.reg Reg.ZT_FCR_SIZE / 16

/-- Whether the ring has room for an entry. -/
def Block.fcrRoom (b : Block) : Bool :=
  decide ((b.reg Reg.ZT_FCR_TAIL + 2 * b.fcrN - b.reg Reg.ZT_FCR_HEAD) % (2 * b.fcrN) < b.fcrN)

/-- The bytes of an entry (R289). -/
def FcrEnt.bytes (x : FcrEnt) : List Byte :=
  leBytes 8 (alignDown x.frame 65536 + x.typ * 256 + x.pool) ++ leBytes 8 (alignDown x.va 65536 + x.ctx)

/-- An entry starts to wait on a full ring (R291): one event until the ring has had room. -/
def Block.fcrHold (b : Block) : Block :=
  if b.fcrFull then b else { b with fcrFull := true }.event pgZt 9 0 (1 * 2 ^ 8)

/-- The oldest waiting entry is written if the ring has room (R288, R291); a fault it cannot resolve leaves it stuck. -/
def Block.writeEntry (b : Block) : Block :=
  match b.fcrWait with
  | [] => b
  | x :: t =>
    if b.fcrStuck then b
    else if !b.fcrRoom then b.fcrHold
    else
      let tail := b.reg Reg.ZT_FCR_TAIL
      match b.writeVa 0 (b.fcrBase + tail % b.fcrN * 16) x.bytes with
      | .ok b => { b with fcrWait := t }.setReg Reg.ZT_FCR_TAIL ((tail + 1) % (2 * b.fcrN))
      | .bad _ => b.failAsker .frameRing
      | m => b.meet 0 .frameRing true m

/-- Waiting entries written one after another; `n` bounds their number. -/
def Block.writeEntriesN : Nat → Block → Block
  | 0, b => b
  | n + 1, b => if (b.writeEntry).fcrWait.length < b.fcrWait.length then (b.writeEntry).writeEntriesN n else b.writeEntry

def Block.writeEntries (b : Block) : Block := b.writeEntriesN b.fcrWait.length

/-- An entry is pushed, and written if nothing holds it. Types 2 to 5 return the frame (R289). -/
def Block.pushEntry (b : Block) (x : FcrEnt) : Block :=
  let b := if x.typ = 1 then b else
    b.ledgerTerm fun l => { l with returned := Tab.set (fun _ => 0) l.returned x.pool (Tab.get (fun _ => 0) l.returned x.pool + 1) }
  { b with fcrWait := b.fcrWait ++ [x] }.writeEntries

/-- Whether an operation on a mapping still waits for its entries. -/
def Block.entriesLeft (b : Block) (own : Nat) : Bool := b.fcrWait.any (·.own = own)

/-! ### Table frames (R276) -/

/-- Frames of page records that a BACKED 0 mapping of `len` bytes needs in RANGE mode. -/
def pageFrames (len : Nat) : Nat := ceilDiv len Config.pageRecBytes

/-- The mapping-record frame of a context with a free record. -/
def Block.recordFrame? (b : Block) (c : Nat) : Option TabFrame :=
  b.tabFrames.find? fun t => t.ctx = c ∧ t.map = none ∧ t.live < Config.mapRecsPerFrame

/-- `n` frames taken from pool `p` for the page records of mapping `id`. -/
def Block.takeTables (b : Block) (c id p : Nat) : Nat → Block
  | 0 => b
  | n + 1 => match b.takeFrame [p] with
    | none => b
    | some (f, k, b') =>
      let t : TabFrame := { frame := f, pool := k, ctx := c, map := some id }
      { b' with tabFrames := b'.tabFrames ++ [t] }.takeTables c id p n

/-- Frames that MAP needs from TPOOL. -/
def Block.tablesNeeded (b : Block) (c len : Nat) (backed : Bool) : Nat :=
  (if (b.recordFrame? c).isSome then 0 else 1) + (if backed then 0 else pageFrames len)

/-- A mapping record takes its place, in a new frame where every one is full; the frame's address. -/
def Block.takeRecord (b : Block) (c : Nat) : Nat × Block :=
  match b.recordFrame? c with
  | some t => (t.frame, { b with tabFrames := mapIf (·.frame = t.frame) (fun x => { x with live := x.live + 1 }) b.tabFrames })
  | none => match b.takeFrame [b.field Reg.ZT_CTL 11 8] with
    | none => (0, b)
    | some (f, p, b) =>
      let t : TabFrame := { frame := f, pool := p, ctx := c, live := 1 }
      (f, { b with tabFrames := b.tabFrames ++ [t] })

/-- The table frames of a mapping are returned (R276, R295 step 3). -/
def Block.returnTables (b : Block) (m : Mapping) : Block :=
  let b : Block := { b with tabFrames := mapIf (fun t => m.recFrame ≠ 0 ∧ t.frame = m.recFrame) (fun t => { t with live := t.live - 1 }) b.tabFrames }
  let b := b.modMap m.id fun m => { m with recFrame := 0 }
  let gone := b.tabFrames.filter fun t => decide (t.map = some m.id) || (t.map.isNone && t.live = 0)
  let b : Block := { b with tabFrames := b.tabFrames.filter fun t => !gone.contains t }
  gone.foldl (fun b t => b.pushEntry { frame := t.frame, typ := 4, pool := t.pool, va := 0, ctx := 0, own := m.id }) b

/-! ### Mappings that change and pages that land -/

/-- The DEVICE pages of a mapping wholly inside [lo, hi) become HOST, with an entry of type `typ` each (R294, R295). -/
def Block.demote (b : Block) (id typ lo hi : Nat) : Block :=
  match b.map? id with
  | none => b
  | some m => (m.devPages lo hi).foldl (fun b x =>
      (b.setPage id x.1 .host).pushEntry { frame := x.2.1, typ := typ, pool := x.2.2, va := x.1 * 65536, ctx := m.ctx, own := id }) b

/-- Steps 1 to 3 of R295 on a mapping whose pins have drained; every page counts as wholly inside its mapping. -/
def Block.unmapWork (b : Block) (id typ : Nat) : Block :=
  match b.map? id with
  | none => b
  | some m =>
    let b := (b.dropRange m.ctx m.va m.len).demote id typ 0 (2 ^ 65)
    match b.map? id with
    | none => b
    | some m => b.returnTables m

/-- Step 4 of R295, once the entries of the mapping are written: whether it is gone, and the block after. -/
def Block.unmapEnd (b : Block) (id : Nat) : Bool × Block :=
  if b.entriesLeft id then (false, b)
  else (true, { b with
    maps := b.maps.filter (·.id ≠ id)
    walks := b.walks.filter (·.mapId ≠ id) })

/-- Steps 6 and 7 of R282 for every fault whose MIGRATED entry is written. -/
def Block.landPages (b : Block) : Block :=
  b.faults.foldl (fun b f => match f.stage with
    | .needEntry fr p =>
      if b.fcrWait.any fun x => x.typ = 1 ∧ x.ctx = f.ctx ∧ x.va = f.page then b
      else
        let b : Block := { b with maps := b.maps.map fun m =>
          if m.ctx = f.ctx ∧ m.page f.page = .migrating then
            { m with pages := Tab.set (fun _ => .host) m.pages (f.page / 65536) (.device fr p) } else m }
        (b.count32 Reg.MIG_PAGES).finishFault f.ctx f.page true
    | _ => b) b

/-- The copy of a fault's page ends (R282 steps 4 to 7) with its 256 bursts counted (R309): `ok` says that the host read returned good
data (R286). -/
def Block.copyDone (b : Block) (c page : Nat) (ok : Bool) : Block :=
  match b.fault? c page with
  | none => b
  | some f => match f.stage with
    | .copying src fr p =>
      if ok then
        let xs := src.flatMap fun a => match b.hostAt a with
          | .ok (.dev d) => Memory.read b.dev d 4096
          | _ => Memory.read b.host a 4096
        let b := b.putBytes ((List.range 65536).map fun k => Phys.dev (fr + k)) xs
        let b := (List.range 256).foldl (fun b k => b.countFar f.near (.dev (fr + k * 256))) b
        let b := b.modFault c page fun f => { f with stage := .needEntry fr p }
        let own := ((b.maps.find? fun m => m.ctx = c ∧ m.page page = .migrating).map (·.id)).getD 0
        ((b.pushEntry { frame := fr, typ := 1, pool := p, va := page, ctx := c, own := own }).landPages).startDma
      else
        let b := b.setPool p (fr :: b.pool p)
        b.finishFault c page false
    | _ => b

/-- Frames supplied resume the migrations that wait for one (R75, R283), in the order of R284. -/
def Block.resumeFrames (b : Block) : Block :=
  (sortBy (·.cls) b.faults).foldl (fun b f => b.wantFrame f.ctx f.page) b

/-! ### Pages of a range -/

/-- The pages of [lo, hi), of `size` bytes. -/
def pagesOf (lo hi size : Nat) : List Nat :=
  if lo < hi then (List.range (ceilDiv (hi - alignDown lo size) size)).map fun k => alignDown lo size + k * size else []

/-- The host-resident pages of [va, va + len) that PREFETCH acts on (R292). -/
def Block.hostPages (b : Block) (c va len : Nat) : List Nat :=
  let ats := (b.ctx c).ats
  (b.maps.filter fun m => m.ctx = c ∧ m.va < va + len ∧ va < m.va + m.len ∧ !m.backed).flatMap fun m =>
    ((pagesOf (max va m.va) (min (va + len) (m.va + m.len)) (b.faultPage c)).map (max m.va)).filter fun p =>
      if ats then match b.atsFor? (b.ctx c).pasid p with
        | some e => !e.rd
        | none => true
      else match m.page p with
        | .device .. => false
        | _ => true

/-- Whether a command still waits in a fault entry. -/
def Block.faulting (b : Block) (a : Asker) : Bool :=
  (b.faults.any (·.waiters.contains a)) || b.faultWait.any (·.waiters.contains a)

/-! ### Register invalidation (R298) -/

/-- A fault that has its frame: its migration completes, whatever becomes of its waiters (R286). -/
def FaultEnt.moving (f : FaultEnt) : Bool := match f.stage with
  | .ready .. => true
  | .copying .. => true
  | .needEntry .. => true
  | _ => false

/-- The faults of a context on [va, va + len) end with FAULT_XLAT; a migration that has its frame completes alone (R286). -/
def Block.failFaults (b : Block) (c va len : Nat) : Block :=
  let hit (f : FaultEnt) : Bool := decide (f.ctx = c) && decide (f.page < va + len) && decide (va < f.page + b.faultPage c)
  let fs := (b.faults ++ b.faultWait).filter hit
  let b : Block := { b with faultWait := b.faultWait.filter fun f => !hit f }
  fs.foldl (fun b f => match b.fault? f.ctx f.page with
    | some g =>
      if g.moving then (dedup (g.waiters ++ f.waiters)).foldl Block.failAsker (b.modFault f.ctx f.page fun g => { g with waiters := [] })
      else b.finishFault f.ctx f.page false
    | none => f.waiters.foldl Block.failAsker b) b

/-- A range marked invalid through registers; the waiting faults of the context end and the context is lost. -/
def Block.invalidate (b : Block) (c va len : Nat) : Block :=
  let b := b.dropRange c va len
  let b : Block := { b with maps := b.maps.map fun m =>
    if m.ctx = c ∧ m.va < va + len ∧ va < m.va + m.len then { m with invalid := m.invalid ++ [(va, len)] } else m }
  let waiting := (b.faults ++ b.faultWait).any fun f =>
    decide (f.ctx = c) && decide (f.page < va + len) && decide (va < f.page + b.faultPage c) && !f.waiters.isEmpty
  let b := b.failFaults c va len
  if waiting then b.loseCtx c 0x20 none else b

end Sys2Proof.Machine
end

