-- ==== Sys2Proof/Machine/Closing.lean ====
section
/-!
DEFINITION. Completion of commands (R23, R24, R99 to R101, R164), the end of queues (R51, R55) and the closing of
contexts (R39, R40).
-/
namespace Sys2Proof.Machine

/-! ### Queues that end -/

/-- Whether a QUEUE_DESTROY names a queue. -/
def Op.destroys (o : Op) (ctx qidx : Nat) : Bool :=
  match o with
  | .queueDestroy c k _ => decide (c = ctx) && decide (k = qidx)
  | _ => false

/-- Whether a context still holds a hardware queue. -/
def Block.hasQueue (b : Block) (c : Nat) : Bool := b.queues.any fun kv => kv.2.st ≠ .unused ∧ kv.2.ctx = c

/-- Every version of a context becomes SUPERSEDED and its lists are retired; a LOADING one is freed at once and its
command ends with ABORTED (R40, R214). -/
def Block.dropLoading (b : Block) (c : Nat) : Block :=
  let b : Block := { b with versions := b.versions.filter fun v => !(v.ctx = c ∧ v.st = .loading) }
  let names (o : Op) : Bool := match o with
    | .listLoad x _ _ _ => x = c
    | .listPatch x _ _ _ _ => x = c
    | _ => false
  (b.cmds.filter fun x => names x.op ∧ x.phase = .running).foldl (fun b x => b.endCmd x.q x.i 0x31) b

def Block.dropLists (b : Block) (c : Nat) : Block :=
  let b := b.dropLoading c
  let keys := dedup ((b.versions.filter (·.ctx = c)).map fun v => c * 65536 + v.listId)
  let b : Block := { b with
    versions := mapIf (·.ctx = c) (fun v => { v with st := .superseded }) b.versions
    retired := dedup (b.retired ++ keys)
    lastEpoch := b.lastEpoch.filter fun kv => kv.1 / 65536 ≠ c ∨ keys.contains kv.1 }
  b.reapVersions

/-- Mappings of a CLOSING context go once their pins have drained and no page of theirs is MIGRATING (log entry 99), with CLOSED
entries (R40, R295). -/
def Block.dropMaps (b : Block) (c : Nat) : Block :=
  (b.maps.filter fun m => m.ctx = c ∧ m.pins = 0 ∧ !m.movesIn 0 (2 ^ 65)).foldl (fun b m => ((b.unmapWork m.id 5).unmapEnd m.id).2) b

/-- The remaining objects of a context are freed in the order of R40. -/
def Block.freeObjects (b : Block) (c : Nat) : Block :=
  let mine := (b.vids.filter fun kv => kv.1 / 65536 = c).map fun kv => kv.1 % 65536
  let b := mine.foldl (fun b v => b.freeVid c v) b
  let b := b.dropLists c
  let b := b.setCtx c { b.ctx c with dtBase := 0, dtCount := 0 }
  b.dropMaps c

/-- The last QUEUE_DESTROY of a context begins (R39): the context is CLOSING; its tasks are cancelled (R184) and its
LOADING versions freed (R214). -/
def Block.beginClosing (b : Block) (c : Nat) : Block :=
  let b := b.setCtx c { b.ctx c with st := .closing, debug := false }
  let b := (b.tasks.filter (·.ctx = c)).foldl (fun b t => b.abortTask c t.id) b
  ((b.dropBounds (·.ctx = c)).dropCommits (·.commitCtx = c)).dropLoading c

/-- A DRAINING or ABORTING queue without commands, whose markers are written (R53), is UNUSED (R51), and the QUEUE_DESTROY commands that name it end OK. -/
def Block.settleQueue (b : Block) (q : Nat) : Block :=
  let x := b.queue q
  if (x.st = .draining ∨ x.st = .aborting) ∧ b.inflight q = 0 ∧ x.marks.isEmpty then
    let b := b.setQueue q {}
    let b := (b.cmds.filter fun c => c.op.destroys x.ctx x.qidx ∧ c.phase = .running).foldl (fun b c => b.endCmd c.q c.i 0) b
    if (b.ctx x.ctx).st = .closing ∧ !b.hasQueue x.ctx then b.freeObjects x.ctx else b
  else b

def Block.settleQueues (b : Block) : Block := (b.queues.map (·.1)).foldl Block.settleQueue b

/-! ### Completion -/

/-- COMPLETED_INDEX advances over the completed prefix (R24); `n` bounds the commands. -/
def HwQueue.advance : Nat → HwQueue → HwQueue
  | 0, x => x
  | n + 1, x => match x.done.find? fun d => d.1 = x.completed with
    | none => x
    | some d => { x with
        completed := (x.completed + d.2) % (2 * x.slots)
        done := x.done.filter fun e => e.1 ≠ d.1 }.advance n

/-- The command of `s` slots at index `i` has completed: COMPLETED_INDEX advances as far as it can. -/
def HwQueue.complete (x : HwQueue) (i s : Nat) : HwQueue :=
  HwQueue.advance (x.done.length + 1) { x with done := x.done ++ [(i, s)] }

/-- The halting statuses (R52). -/
def halting (st : Nat) : Bool := [0x10, 0x11, 0x12, 0x13, 0x20, 0x21].contains st

/-- A deadline miss (R164). -/
def Block.missed (b : Block) (c : Cmd) : Bool :=
  decide ((b.queue c.q).cls = 2) && !([0x00, 0x30, 0x39].contains c.opcode) && (match c.deadline with
    | some d => decide (d < b.cadence)
    | none => false)

/-- The start of a completion, STATUS being written: the records of the command, and its signals (R106, R132, R164). -/
def Block.sendSigs (b : Block) (c : Cmd) (st : Nat) : Block :=
  let q := c.q
  let miss := b.missed c
  let b := b.profEnd c st
  let b := if miss then
      (b.setQueue q { b.queue q with misses := satAdd 16 (b.queue q).misses 1 }).count32 Reg.RT_MISS_TOTAL
    else b
  if st ≤ 1 then b.sigAll c.ctx c.sigs (some (c.q, c.i)) else b

/-- Whether pacing holds a signal of the command (R320). -/
def Block.sigsHeld (b : Block) (q i : Nat) : Bool := b.heldSigs.any (·.who = some (q, i))

/-- The end of a completion: what the command holds is released, then COMPLETED_INDEX, events, and the halt of its queue (R23, R24,
R52, R101). -/
def Block.leaveCmd (b : Block) (c : Cmd) (st : Nat) : Block :=
  let q := c.q
  let b := (b.releaseEngs c.engs).removeCmd c
  let b := b.setQueue q { b.queue q with doneSlots := (b.queue q).doneSlots + c.slots }
  let b := b.setQueue q ((b.queue q).complete c.i c.slots)
  let b := if c.errEvt ∧ 1 < st then b.cmdError c.ctx (qCode c.qidx c.i) st else b
  let b := if halting st then (b.haltEvent q c.i st).haltQueue q c.i st else b
  b.fixDeadlines.settleQueues

/-- The completion of a command whose STATUS is written. COMPLETED_INDEX advances only once every signal is applied (R23): a command
one of whose signals pacing holds keeps what it holds until then (R33). -/
def Block.finishCmd (b : Block) (c : Cmd) (st : Nat) : Block :=
  let b := b.sendSigs c st
  if b.sigsHeld c.q c.i then b.modCmd c.q c.i fun c => { c with posted := true } else b.leaveCmd c st

/-- Commands whose held signals have all been applied or dropped complete. -/
def Block.settlePosted (b : Block) : Block :=
  (b.cmds.filter (·.posted)).foldl (fun b c => match c.phase with
    | .ended st => if b.sigsHeld c.q c.i then b else b.leaveCmd c st
    | _ => b) b

/-- COMMAND_COMPLETION (R23): the STATUS write, then the rest. A fault that ZTU cannot resolve halts the queue and the
command does not complete (R86); one that it can is waited for; poison loses the context (R418). A command that has stalled meanwhile
waits for its resume or its end (R138). -/
def Block.completeCmd (b : Block) (q i : Nat) : Block :=
  match b.cmd? q i with
  | none => b
  | some c => match c.phase with
    | .ended st =>
      if c.posted then b.settlePosted
      else if c.stalled then b
      else match b.writeStatus q i st with
        | .ok b => b.finishCmd c st
        | .poison a _ => b.ringPoison q a
        | .bad _ => b.ringFault q
        | m => b.meet c.ctx (.cmd q i) false m
    | _ => b

/-- Whether every object of a CLOSING context is released. -/
def Block.empty (b : Block) (c : Nat) : Bool :=
  !b.hasQueue c && !(b.maps.any (·.ctx = c)) && !(b.versions.any (·.ctx = c)) && !(b.tasks.any (·.ctx = c))
    && !(b.cmds.any (·.ctx = c)) && !(b.vids.any fun kv => kv.1 / 65536 = c)

/-- Every cached translation of a PASID is dropped, and the answers to its outstanding requests will not be kept (R41). -/
def Block.dropPasid (b : Block) (p : Nat) : Block :=
  { b with
    atsCache := b.atsCache.filter (·.pasid ≠ p)
    atsAsked := b.atsAsked.filter (·.pasid ≠ p) }

/-- CONTEXT_FREED (R39, R40, R41): the mappings whose pins have drained go, and once nothing is left the context is FREE and
forgets its PASID. -/
def Block.freeCtx (b : Block) (c : Nat) : Block :=
  if (b.ctx c).st = .closing ∧ !b.hasQueue c then
    let b := b.freeObjects c
    if b.empty c then (b.dropPasid (b.ctx c).pasid).setCtx c { ats := (b.ctx c).ats } else b
  else b

end Sys2Proof.Machine
end

