-- ==== Sys2Proof/Machine/Validate.lean ====
section
/-!
DEFINITION. Validation by QFE in the order of R129 and R130, with the checks of R48, R111 to R128, R143, R209, R215 to
R225, R258, R270 and R418, and the fetch of a ring block (R85, R97, R98).
-/
namespace Sys2Proof.Machine

/-- FAULT_XLAT on a range that registers invalidated, which also loses the context (R298). -/
abbrev lostXlat : Nat := 0x120

/-- A test whose failure is status `st`. -/
def need (p : Bool) (st : Nat) : MRes Unit := if p then .ok () else .bad st

/-- Tests in order; the first failure decides. -/
def firstOf : List (MRes Unit) → MRes Unit
  | [] => .ok ()
  | x :: t => x.bind fun _ => firstOf t

/-- A range that a command names for steps 8 and 9 (R129), with the rights it needs. -/
structure Named where
  ctx : Nat
  va : Nat
  len : Nat
  rights : Nat := 0
deriving DecidableEq, Repr

/-- What validation finds for a command: the ranges it names, its version and its descriptors. -/
structure Plan where
  ranges : List Named := []
  version : Option (Nat × Nat) := none
  descs : List (Nat × Desc) := []
deriving DecidableEq, Repr

/-! ### Ranges (steps 8 and 9) -/

/-- The mappings that hold [va, va + len) of a context; none where a byte lies outside. `n` bounds their number. -/
def Block.coverN (b : Block) (c : Nat) : Nat → Nat → Nat → Option (List Mapping)
  | 0, _, len => if len = 0 then some [] else none
  | n + 1, va, len =>
    if len = 0 then some []
    else match b.mapAt? c va with
      | none => none
      | some m =>
        let k := min len (m.va + m.len - va)
        (b.coverN c n (va + k) (len - k)).map (m :: ·)

def Block.cover (b : Block) (r : Named) : Option (List Mapping) := b.coverN r.ctx (b.maps.length + 1) r.va r.len

/-- Mapping `m` was invalidated through registers somewhere in the range. -/
def Mapping.deadIn (m : Mapping) (r : Named) : Bool := m.invalid.any fun x => x.1 < r.va + r.len ∧ r.va < x.1 + x.2

/-- Step 8 of R129 on a range (R65, R225, R270): a mapping frozen by poison without a golden copy is one that the command names (R66,
R418). -/
def Block.step8 (b : Block) (r : Named) : MRes Unit :=
  if r.len = 0 then .ok ()
  else if b.bootmap then
    need ((pagesOf r.va (r.va + r.len) (2 ^ 30)).all fun p => (b.bootFor? (max p r.va)).isSome) 0x20
  else match b.cover r with
    | none => .bad 0x20
    | some ms =>
      firstOf [need (!(ms.any (·.deadIn r))) lostXlat, need (ms.all (·.noPins = 0)) 0x20, match ms.findSome? (·.frozen.head?) with
        | some a => .poison a false
        | none => .ok ()]

/-- Step 9 of R129 on a range. -/
def Block.step9 (b : Block) (r : Named) : MRes Unit :=
  if r.len = 0 then .ok ()
  else if b.bootmap then
    need ((pagesOf r.va (r.va + r.len) (2 ^ 30)).all fun p => match b.bootFor? (max p r.va) with
      | some e => covers e.rd e.wr false r.rights
      | none => false) 0x21
  else need (((b.cover r).getD []).all fun m => covers m.rd m.wr m.at_ r.rights) 0x21

/-- The mappings that a command pins, each once (R63). -/
def Block.pinsOf (b : Block) (rs : List Named) : List Nat :=
  if b.bootmap then [] else dedup (rs.flatMap fun r => ((b.cover r).getD []).map (·.id))

/-! ### Names (step 6) -/

/-- A wait entry names a wick that exists and that the context may wait on (R95, R258). -/
def Block.waitOk (b : Block) (c v : Nat) : Bool := !isDoorbell v && (b.vid c v).has 0

/-- A signal entry names a wick that exists with the right of its OP, or the doorbell wick of a used index (R94, R258). -/
def Block.sigOk (b : Block) (c : Nat) (g : SigEnt) : Bool :=
  if isDoorbell g.wick then (b.queueOf? c (g.wick - 0xFFF0)).isSome
  else (b.vid c g.wick).has (if g.setmax then 1 else 2)

def Block.entryNames (b : Block) (c : Cmd) : MRes Unit :=
  need ((c.waits.all fun w => b.waitOk c.ctx w.wick) && c.sigs.all (b.sigOk c.ctx)) 0x13

/-- The epoch that is CURRENT for a list. -/
def Block.current? (b : Block) (c list : Nat) : Option Version :=
  b.versions.find? fun v => v.ctx = c ∧ v.listId = list ∧ v.st = .current ∧ !v.broken

/-- The version that launch parameters name (R215, R216, R218); none of a retired list (R72). -/
def Block.launchVersion? (b : Block) (c : Nat) (l : LaunchP) : Option Version :=
  if b.retired.contains (c * 65536 + l.listId) then none
  else match l.ver with
    | none => b.current? c l.listId
    | some ep => if ep = 0 then none
      else match b.version? c l.listId ep with
        | some v => if v.st = .loading ∨ v.broken then none else some v
        | none => none

/-- The read of descriptor `h` of a context (R219, R223, R418). -/
def Block.readDesc (b : Block) (c h : Nat) : MRes Desc :=
  if (b.ctx c).dtCount ≤ h then .bad 0x13
  else ((b.readVa c ((b.ctx c).dtBase + h * 64) 64).onBad fun _ => .bad 0x13).bind fun bs => .ok (descOf (words64 bs))

/-- The tests of R223 on a descriptor that engine kinds name. -/
def Block.descOk (b : Block) (d : Desc) (u : HandleUse) : Bool :=
  d.sound && (d.space ≠ 1 || ((!u.core || d.fits b.straps.spmBytes) && (!u.unit || d.fits b.straps.unitSpmBytes)))
    && (d.space ≠ 2 || !u.unit || d.fits b.straps.cacheBytes)

/-- The descriptors of a list's handles read and tested at step 6 (R212, R223). -/
def Block.readDescs (b : Block) (c : Nat) : List HandleUse → MRes (List (Nat × Desc))
  | [] => .ok []
  | u :: t => (b.readDesc c u.handle).bind fun d =>
    if b.descOk d u then (b.readDescs c t).bind fun r => .ok ((u.handle, d) :: r) else .bad 0x13

/-! ### Formats (step 7) -/

def descFor (ds : List (Nat × Desc)) (h : Nat) : Desc := ((ds.find? (·.1 = h)).map (·.2)).getD {}

/-- Step 7 of R129 on a launch (R224). -/
def Block.formatOk (b : Block) (v : Version) (l : LaunchP) (ds : List (Nat × Desc)) : Bool :=
  let us := v.sum.handles
  (l.cores = 0 || within v.sum.coreMask b.straps.coreFormats) && (l.units = 0 || within v.sum.unitMask b.straps.unitFormats)
    && (us.all fun u => u.fmt.isNone || decide (u.fmt = some (descFor ds u.handle).format))
    && (us.all fun u => (!u.core || bit b.straps.coreFormats (descFor ds u.handle).format)
        && (!u.unit || bit b.straps.unitFormats (descFor ds u.handle).format))
    && (us.all fun u => !u.core || (descFor ds u.handle).space ≠ 2)
    && (v.sum.routed.all fun set =>
        let sp := set.map fun h => (descFor ds h).space
        sp.all fun x => sp.all fun y => x = y)

/-- The ranges of a launch's descriptors (R225). -/
def descRanges (c : Nat) (us : List HandleUse) (ds : List (Nat × Desc)) : List Named :=
  us.flatMap fun u =>
    let d := descFor ds u.handle
    if d.space ≠ 0 then []
    else d.footprint.map fun r => { ctx := c, va := r.1, len := r.2, rights := ofBit u.rd + 2 * ofBit u.wr }

/-- Steps 6 and 7 on a version with the descriptors as they stand: the descriptors (R216, R217, R226). -/
def Block.launchNames (b : Block) (c : Nat) (l : LaunchP) (v : Version) : MRes (List (Nat × Desc)) :=
  if v.sum.wicks.all (b.waitOk c) then
    (b.readDescs c v.sum.handles).bind fun ds =>
      if b.formatOk v l ds then .ok ds else .bad 0x12
  else .bad 0x13

/-- Steps 5 to 7 on launch parameters (R110, R141): `arg` says that they carry an argument block. -/
def Block.launchPlan (b : Block) (c : Nat) (l : LaunchP) (more : List Named) : MRes Plan :=
  match b.launchVersion? c l with
  | none => .bad 0x13
  | some v => (b.launchNames c l v).bind fun ds =>
    let args : List Named := if l.argAddr = 0 then [] else [{ ctx := c, va := l.argAddr, len := l.reps * l.argLen * 64, rights := 1 }]
    .ok { ranges := more ++ args ++ descRanges c v.sum.handles ds, version := some (v.listId, v.epoch), descs := ds }

/-- ARG_LEN and ARG_ADDR (R110, R141). -/
def LaunchP.argsOk (l : LaunchP) : Bool := l.argAddr % 64 = 0 ∧ (l.argLen ≠ 0 ∨ l.argAddr = 0)

/-! ### Places -/

/-- Whether `va` of a context lies in device memory, as R116 and R133 ask: `rangeAll` counts every RANGE-mode address and leaves an
address outside every mapping to step 8, as R116 does; R133 has any address that is not in device memory refused. -/
def Block.inDevice (b : Block) (c va : Nat) (rangeAll : Bool) : MRes Unit :=
  if b.bootmap then match b.bootFor? va with
    | some e => need (!e.host) 0x12
    | none => need rangeAll 0x12
  else match b.mapAt? c va with
    | none => need rangeAll 0x12
    | some m =>
      if (b.ctx c).ats then match b.atsFor? (b.ctx c).pasid va with
        | some e => need ((Config.atsTarget (e.pa + (va - e.va))).isSome) 0x12
        | none => if b.pins.ats then .ask (b.ctx c).pasid (alignDown va 4096) else .ok ()
      else if rangeAll ∨ m.backed then .ok ()
      else need (m.page va ≠ .host) 0x12

/-- Engines of a kind that a harness holds: space 1 numbers the cores, space 2 the stack units (R112; log entry 24). -/
def Block.spaceEngs (b : Block) (q space : Nat) : List Nat :=
  match (b.queue q).harness with
  | none => []
  | some h => if space = 1 then (b.harness h).cores else (b.harness h).units

def Block.spaceSize (b : Block) (space : Nat) : Nat := if space = 1 then b.straps.spmBytes else b.straps.cacheBytes

/-- One side of a COPY or FILL in an engine space (R112, R115). -/
def Block.sideOk (b : Block) (q space eng off len : Nat) : Bool :=
  space = 0 || (decide (eng < (b.spaceEngs q space).length) && decide (off + len ≤ b.spaceSize space))

def overlaps (a n c m : Nat) : Bool := decide (0 < n) && decide (0 < m) && decide (a < c + m) && decide (c < a + n)

/-! ### Kernel commands -/

/-- Whether a context other than `c` that is not FREE holds a PASID (R38). -/
def Block.pasidHeld (b : Block) (c p : Nat) : Bool := b.ctxs.any fun kv => kv.1 ≠ c ∧ kv.2.st ≠ .free ∧ kv.2.pasid = p

/-- Service queues exist in ROLE CACHE and MIXED (R29). -/
def Block.svcRole (b : Block) : Bool := 2 ≤ b.field Reg.GLB_ROLE 1 0

/-- An IMPORTED virtual ID. -/
def Vid.isImport : Vid → Bool
  | .imported .. => true
  | _ => false

def Block.ctxFree (b : Block) (c : Nat) : Bool := (b.ctx c).st = .free
def Block.ctxClosing (b : Block) (c : Nat) : Bool := (b.ctx c).st = .closing
def Block.ctxLost (b : Block) (c : Nat) : Bool := (b.ctx c).st = .lost

/-- Orders 2 to 6 of R48 with R38 and R123; `stall` is the STALL_US of the header as well. -/
def Block.queueArgs (b : Block) (p : QCreate) (stall : Nat) : MRes Unit :=
  let ringOk := 12 ≤ p.ringLog2 ∧ p.ringLog2 ≤ 26 ∧ p.ringBase % 2 ^ p.ringLog2 = 0
  firstOf [
    need ringOk 0x12,
    need (p.cls ≠ 3 ∧ (p.cls ≠ 0 ∨ p.ctx = 0)) 0x12,
    need (!p.svc ∨ (b.svcRole ∧ p.cls ≠ 0)) 0x12,
    need (p.start < 2 * (2 ^ p.ringLog2 / 64) ∧ stallOk p.stallUs ∧ stallOk stall) 0x12,
    need ((b.ctx p.ctx).st ≠ .free ∨ !b.pasidHeld p.ctx p.pasid) 0x12,
    need ((b.harness p.harness).st ≠ .free) 0x13]

/-- Orders 7 and 8 of R48; a CLOSING context gives ERR_BUSY (log entry 25). -/
def Block.queueRoom (b : Block) (p : QCreate) : Bool :=
  (b.ctx p.ctx).st ≠ .closing ∧ (b.queueOf? p.ctx p.qidx).isNone
    ∧ (b.queues.filter fun kv => kv.2.st ≠ .unused).length < Config.numQueues
    ∧ (p.cls ≠ 2 ∨ (b.queues.filter fun kv => kv.2.st ≠ .unused ∧ kv.2.cls = 2).length < Config.maxRtQueues)

/-- The ERR_ARG cases of MAP at step 5 (R62, R111, R273). -/
def Block.mapArgs (b : Block) (m : MapP) : Bool :=
  m.va ≠ 0 ∧ m.len ≠ 0 ∧ m.va % 4096 = 0 ∧ m.len % 4096 = 0 ∧ (!m.sharedRo ∨ (m.rd ∧ !m.wr ∧ !m.at_))
    ∧ (!m.at_ ∨ m.wr) ∧ (m.rd ∨ m.wr ∨ m.at_)
    ∧ (!m.backed ∨ (!(b.ctx m.ctx).ats ∧ m.backing % 4096 = 0 ∧ b.isDev m.backing ∧ b.isDev (m.backing + m.len - 1)
        ∧ m.backing / 2 ^ 37 = (m.backing + m.len - 1) / 2 ^ 37))
    ∧ (m.backed ∨ (b.ctx m.ctx).ats ∨ b.pins.ats)
    ∧ (m.golden = 0 ∨ (m.sharedRo ∧ m.goldenAddr % 4096 = 0))

/-- The bytes that CTX_SAVE needs (R126). -/
def Block.saveLen (b : Block) (c : Nat) : Nat :=
  4096 + 256 * (b.queues.filter fun kv => kv.2.st ≠ .unused ∧ kv.2.ctx = c).length
    + 16 * (b.vids.filter fun kv => kv.1 / 65536 = c).length

/-- Whether a frame is a whole 64 KiB of device memory (R128). -/
def Block.frameOk (b : Block) (f : Nat) : Bool := f % 65536 = 0 ∧ b.isDev f ∧ b.isDev (f + 65535)

/-- Commands that would add to a CLOSING context (log entry 25). -/
def Op.adds : Op → Bool
  | .map _ => true
  | .listLoad .. => true
  | .listPatch .. => true
  | .wickAlloc .. => true
  | .wickExport .. => true
  | .ctxSave .. => true
  | _ => false

/-- The context whose addresses a command names: its target, or for the image of a FREE context the queue's own (log
entry 26). -/
def Block.addrCtx (b : Block) (c : Cmd) : Nat :=
  match c.op.target with
  | none => c.ctx
  | some t => if (b.ctx t).st = .free then c.ctx else t

/-- The last epoch that a list ID has used (R71); 0 for one that is free (log entry 93). -/
def Block.epochOf (b : Block) (c list : Nat) : Nat := Tab.get (fun _ => 0) b.lastEpoch (c * 65536 + list)

/-! ### Steps 5 to 7 -/

/-- Step 5 of R129. -/
def Block.step5 (b : Block) (c : Cmd) : MRes Unit :=
  (need (stallOk c.stallUs) 0x12).bind fun _ =>
  (need (!(c.needsPlace ∧ (b.queue c.q).harness.isNone)) 0x12).bind fun _ =>
  match c.op with
  | .launch l => need l.argsOk 0x12
  | .launchInd a => (need (a ≠ 0 ∧ a % 64 = 0) 0x12).bind fun _ => b.inDevice c.ctx a false
  | .launchPersist _ _ ring _ lg => need (12 ≤ lg ∧ lg ≤ 26 ∧ ring % 2 ^ lg = 0) 0x12
  | .copy src dst len ss ds se de =>
    need (b.sideOk c.q ss se src len && b.sideOk c.q ds de dst len
      && !(decide (ss = ds) && (decide (ss = 0) || decide (se = de)) && overlaps src len dst len)) 0x12
  | .fill dst _ len w ds de => need (b.sideOk c.q ds de dst len && decide (len % 2 ^ w = 0)) 0x12
  | .atomic _ a _ _ r =>
    (need (a % 8 = 0 ∧ r % 8 = 0) 0x12).bind fun _ => (b.inDevice c.ctx a true).bind fun _ =>
      if r = 0 then .ok () else b.inDevice c.ctx r true
  | .signalRemote _ _ chip _ => need (chip = b.chipId ∨ b.fpDest.any fun kv => kv.2.toNat = chip) 0x12
  | .timestamp a => need (a % 16 = 0) 0x12
  | .cadenceWait t => need (t < b.cadence + 2 ^ 48) 0x12
  | .watch _ h r => (need (r % 64 = 0) 0x12).bind fun _ => match b.readDesc c.ctx h with
    | .ok d => need (!(d.sound ∧ d.space ≠ 0)) 0x12
    | .bad _ => .ok ()
    | m => m.bind fun _ => .ok ()
  | .map m => need (b.mapArgs m) 0x12
  | .invRange _ _ len => need (len % 4096 = 0) 0x12
  | .queueDestroy x k _ => need (!(x = c.ctx ∧ k = c.qidx)) 0x12
  | .harnessGrow h cores units home _ =>
    need ((cores = 0 ∧ units = 0) ∨ ((home ≠ 0 ∨ (b.harness h).st ≠ .free) ∧ home < 2 ^ b.straps.nStacks)) 0x12
  | .listLoad _ _ a len => need (a % 64 = 0 ∧ (len = 0 ∨ (64 ≤ len ∧ len ≤ Config.stitchCacheBytes))) 0x12
  | .listPatch t l a len _ =>
    need (a % 64 = 0 ∧ (len = 0 ∨ (64 ≤ len ∧ len ≤ Config.stitchCacheBytes)) ∧ b.epochOf t l ≠ 0xFFFF) 0x12
  | .wickAlloc _ v _ => need (!isDoorbell v) 0x12
  | .wickFree _ v => need (!isDoorbell v) 0x12
  | .wickExport x v a => need (!isDoorbell v && decide (a % 8 = 0) && !(b.vid x v).isImport) 0x12
  | .ctxSave x a len => need (a % 4096 = 0 ∧ len ≠ 0 ∧ b.saveLen x ≤ len) 0x12
  | .ctxRestore _ a len => need (a % 4096 = 0 ∧ len ≠ 0) 0x12
  | .frameSupply p a n => (need (p < b.straps.nStacks ∧ a % 8 = 0) 0x12).bind fun _ => match b.readVa c.ctx a (8 * n) with
    | .ok bs => need ((words64 bs).all b.frameOk) 0x12
    | .bad _ => .ok ()
    | .poison _ _ => .ok ()
    | m => m.bind fun _ => .ok ()
  | _ => .ok ()

/-- The ranges of a WATCH (R446): the footprint, and the 64-byte result. -/
def watchRanges (c : Nat) (d : Desc) (r : Nat) : List Named :=
  (d.footprint.map fun (p : Nat × Nat) => { ctx := c, va := p.1, len := p.2, rights := 1 })
    ++ [{ ctx := c, va := r, len := 64, rights := 2 }]

/-- Steps 6 and 7 of R129, and what steps 8 and 9 look at. -/
def Block.step67 (b : Block) (c : Cmd) : MRes Plan :=
  (b.entryNames c).bind fun _ =>
  (match c.op.target with
    | some t => need ((!b.ctxFree t || decide (c.opcode = 0xB1)) && !(b.ctxClosing t && c.op.adds)) 0x13
    | none => .ok ()).bind fun _ =>
  let x := b.addrCtx c
  let one (va len rights : Nat) : MRes Plan := .ok { ranges := [{ ctx := x, va := va, len := len, rights := rights }] }
  match c.op with
  | .launch l => b.launchPlan x l []
  | .launchInd a => one a 64 1
  | .launchPersist _ l ring wick lg =>
    (need (b.waitOk x wick) 0x13).bind fun _ => b.launchPlan x l [{ ctx := x, va := ring, len := 2 ^ lg, rights := 1 }]
  | .stopPersist _ t => (need (b.task? x t).isSome 0x13).bind fun _ => .ok {}
  | .copy src dst len ss ds _ _ =>
    let r1 : Named := { ctx := x, va := src, len := if ss = 0 then len else 0, rights := 1 }
    let r2 : Named := { ctx := x, va := dst, len := if ds = 0 then len else 0, rights := 2 }
    .ok { ranges := [r1, r2] }
  | .fill dst _ len _ ds _ => one dst (if ds = 0 then len else 0) 2
  | .atomic _ a _ _ r =>
    let r1 : Named := { ctx := x, va := a, len := 8, rights := 4 }
    let r2 : Named := { ctx := x, va := r, len := if r = 0 then 0 else 8, rights := 2 }
    .ok { ranges := [r1, r2] }
  | .prefetch a len => one a len 0
  | .advise _ a len => one a len 0
  | .timestamp a => one a 16 2
  | .watch _ h r => (b.readDesc x h).bind fun (d : Desc) =>
    if d.sound then .ok { ranges := watchRanges x d r, descs := [(h, d)] } else .bad 0x13
  | .unmap t va => (need (b.bootmap ∨ b.maps.any fun m => m.ctx = t ∧ m.va = va) 0x13).bind fun _ => .ok {}
  | .queueDestroy t k _ => (need (b.queueOf? t k).isSome 0x13).bind fun _ => .ok {}
  | .listLoad _ _ a len => one a len 1
  | .listPatch t l a len _ =>
    (need (b.epochOf t l ≠ 0 ∧ !b.retired.contains (t * 65536 + l)) 0x13).bind fun _ => one a len 1
  | .listRetire t l => (need (b.epochOf t l ≠ 0) 0x13).bind fun _ => .ok {}
  | .wickFree t v => (need ((b.slotOf t v).isSome) 0x13).bind fun _ => .ok {}
  | .wickExport t v a => (need ((b.slotOf t v).isSome) 0x13).bind fun _ => one a 8 2
  | .ctxSave _ a len => one a len 2
  | .ctxRestore _ a len => one a len 1
  | .frameSupply _ a n => one a (8 * n) 1
  | _ => .ok {}

/-- Steps 8 and 9 of R129 on a plan. -/
def Block.steps89 (b : Block) (p : Plan) : MRes Unit :=
  (firstOf (p.ranges.map b.step8)).bind fun _ => firstOf (p.ranges.map b.step9)

/-- Commands that execute although their target context is LOST (R45). -/
def Op.onLost : Op → Bool
  | .queueDestroy .. => true
  | .unmap .. => true
  | .wickFree .. => true
  | .listRetire .. => true
  | _ => false

/-- R129 and R130 on the words of a command: the command as fetched, and its plan. Step 1 is the caller's. -/
def Block.validate (b : Block) (c : Cmd) (w : List Nat) : MRes Plan :=
  let x := b.queue c.q
  (need (!(0x80 ≤ c.opcode ∧ (x.cls ≠ 0 ∨ x.svc))) 0x11).bind fun _ =>
  (need (headerOk c.i (nth w 0)) 0x10).bind fun _ =>
  (need (entriesOk w && operandsOk w) 0x10).bind fun _ =>
  (match c.op.target with
    | some t => need (!b.ctxLost t || c.op.onLost) 0x32
    | none => .ok ()).bind fun _ =>
  match c.op with
  | .queueCreate p => (b.queueArgs p c.stallUs).bind fun _ => (b.entryNames c).bind fun _ => .ok {}
  | _ => (b.step5 c).bind fun _ => (b.step67 c).bind fun p => (b.steps89 p).bind fun _ => .ok p

/-! ### Fetch -/

/-- Whether a wait entry's condition holds now. -/
def Block.waitMet (b : Block) (c : Nat) (w : WaitEnt) : Bool :=
  match b.slotOf c w.wick with
  | some s => if w.gt then w.value < (b.slot s).value else w.value ≤ (b.slot s).value
  | none => false

/-- Shared waiter records in use (R241). -/
def Block.sharedUsed (b : Block) : Nat := (b.waiters.filter fun w => match w.who with
  | .cmd .. => true
  | _ => false).length

/-- The unmet entries of a command, with their numbers. -/
def Block.unmet (b : Block) (c : Cmd) : List (WaitEnt × Nat) := c.waits.zipIdx.filter fun w => !b.waitMet c.ctx w.1

/-- Whether a command waits on a snuffed wick (R250). -/
def Block.waitsSnuffed (b : Block) (c : Cmd) : Bool := c.waits.any fun w => match b.slotOf c.ctx w.wick with
  | some s => (b.slot s).snuffed
  | none => false

/-- A validated command enters QFE: pins, version, descriptors and waiter records (R63, R216, R242); one that waits on a
snuffed wick ends with ABORTED (R107). -/
def Block.takeIn (b : Block) (c : Cmd) (p : Plan) : Block :=
  let pins := b.pinsOf p.ranges
  let c := { c with pins := pins, version := p.version, descs := p.descs }
  let b := { b with cmds := b.cmds ++ [c] }.addPins pins
  if b.waitsSnuffed c then b.endCmd c.q c.i 0x31
  else
    let ws := (b.unmet c).map fun w =>
      let r : Waiter := { slot := (b.slotOf c.ctx w.1.wick).getD 0, value := w.1.value, gt := w.1.gt, who := .cmd c.q c.i w.2 }
      r
    { b with waiters := b.waiters ++ ws }

/-- A command that validation ends with a status (R129), and the loss that goes with it (R42, R298). -/
def Block.failNew (b : Block) (c : Cmd) (st : Nat) : Block :=
  let b := { b with cmds := b.cmds ++ [{ c with phase := .ended (st % 256) }] }
  if st = 0x11 ∨ st = lostXlat then b.loseCtx c.ctx (st % 256) (some (c.q, c.i)) else b

/-- A command that meets poison at validation (R418). -/
def Block.poisonNew (b : Block) (c : Cmd) (a : Nat) (consumed : Bool) : Block :=
  { b with cmds := b.cmds ++ [c] }.poisonCmd c a consumed

/-- FETCHED_INDEX passes a command of `n` slots (R97). -/
def Block.passFetch (b : Block) (q n : Nat) : Block :=
  let x := b.queue q
  { b with waitHold := b.waitHold.filter (· ≠ q) }.setQueue q { x with fetched := (x.fetched + n) % (2 * x.slots), taken := x.taken + n }

/-- Descriptors held by commands and tasks (R227). -/
def Block.descsHeld (b : Block) : Nat := sumBy (fun c => c.descs.length) b.cmds + sumBy (fun t => t.descs.length) b.tasks

/-- Whether QFE may fetch from a queue now (R30, R53, R57, R98, R186); it validates nothing while a command waits for room in the
descriptor cache (R227). -/
def Block.mayFetch (b : Block) (q : Nat) : Bool :=
  let x := b.queue q
  (decide (x.st = .active ∧ x.halting = none) || decide (x.st = .lost)) && !b.saved x.ctx && decide (0 < x.unfetched)
    && decide (b.inflight q < Config.maxInflightQueue) && decide (b.cmds.length < Config.maxInflightBlock)
    && decide (b.descsHeld + b.descHold ≤ Config.descCacheEntries)
    && !(bit (b.reg Reg.LL_OCCUPANCY) 31 && decide (x.cls = 1) && decide (Config.hotInflight ≤ b.inflight q))

/-- A ring read: its bytes, or the block after it met a fault, poison or a wait. -/
def Block.ringRead (b : Block) (q va n : Nat) : List Byte ⊕ Block :=
  match b.readVa (b.queue q).ctx va n with
  | .ok bs => .inl bs
  | .poison a _ => .inr (b.ringPoison q a)
  | .bad _ => .inr (b.ringFault q)
  | m => .inr (b.meet (b.queue q).ctx (.queue q) false m)

/-- A command of `n` slots validated: whether QFE may go on, and the block after. -/
def Block.takeNew (b : Block) (q n : Nat) (c : Cmd) (w : List Nat) : Bool × Block :=
  if (b.ctx c.ctx).st = .lost then (true, (b.failNew c 0x32).passFetch q n)
  else match b.validate c w with
    | .ok p =>
      if Config.numSharedWaiters < b.sharedUsed + (b.unmet c).length then (false, { b with waitHold := dedup (b.waitHold ++ [q]) })
      else if Config.descCacheEntries < b.descsHeld + p.descs.length then (false, { b with descHold := p.descs.length })
      else (true, (({ b with descHold := 0 }.takeIn c p).passFetch q n).fixDeadlines)
    | .bad st => (true, (b.failNew c st).passFetch q n)
    | .poison a x => (true, (b.poisonNew c a x).passFetch q n)
    | m => (false, b.meet c.ctx (.queue q) false m)

/-- One command of a queue fetched and validated: whether QFE may go on, and the block after. While the coherence domain is down it
goes on reading rings and validates nothing (R349). -/
def Block.fetchOne (b : Block) (q : Nat) : Bool × Block :=
  let x := b.queue q
  let i := x.fetched
  let va := x.ringBase + i % x.slots * 64
  match b.ringRead q va 64 with
  | .inr b => (false, b)
  | .inl bs =>
    let n := slotsAt i (ofLeBytes (bs.take 8))
    if x.unfetched < n then (false, b)
    else match b.ringRead q va (64 * n) with
      | .inr b => (false, b)
      | .inl bs =>
        let w := words64 bs
        if b.down then (false, b)
        else b.takeNew q n { cmdOf q i w with ctx := x.ctx, qidx := x.qidx, valTime := b.ns } w

/-- The commands of one aligned block of four slots (R97). -/
def Block.fetchBlockN (q blk : Nat) : Nat → Block → Block
  | 0, b => b
  | n + 1, b =>
    if b.mayFetch q ∧ (b.queue q).fetched / 4 = blk then
      let r := b.fetchOne q
      if r.1 then Block.fetchBlockN q blk n r.2 else r.2
    else b

end Sys2Proof.Machine
end

