-- ==== Sys2Proof/Machine/Access.lean ====
section
/-!
DEFINITION. Who may write a register: the three paths (R466 to R470), the semaphore of a page (R166), the global stop
(R450), the management sideband (R513) and a held core (R532); staged values (R473); what starts a command's row.
-/
namespace Sys2Proof.Machine

/-! ### Paths -/

/-- Whether a path is up (R469): 1 Port A, 2 Port B, 3 the management sideband. -/
def Block.pathUp (b : Block) (path : Nat) : Bool :=
  (path = 1 && b.pins.portA) || (path = 2 && b.pins.portB) || (path = 3 && b.pins.sideband)

/-- Registers that the sideband may write (R513). -/
def sidebandWrites (a : Nat) : Bool := a / 0x1000 = pgCn ∨ a = Reg.RC_PWR ∨ a = Reg.SM_SEL ∨ a = Reg.SM_WEAR

/-- Registers that take writes during a global stop (R450). -/
def stopTakes (a : Nat) : Bool := a / 0x1000 = pgOb ∨ a / 0x1000 = pgCn ∨ a = Reg.RC_PWR ∨ a = Reg.RC_ORDER

/-- Registers of the always-on domain that the sideband writes while the core is held (R513). -/
def heldWrites (a : Nat) : Bool := a / 0x1000 = pgCn ∨ a = Reg.RC_PWR ∨ a = Reg.SM_SEL

/-- Whether a path holds the semaphore of a page. -/
def Block.holds (b : Block) (path pg : Nat) : Bool := b.sem (pageSem pg) = path

/-- A register write that the block ignores and counts during a stop (R450). -/
def Block.stopDrop (b : Block) : Block := b.count32 Reg.OB_STOP_WDROP

/-- An access error of a read, or of a write that a stop takes: in a page whose unit the stop freezes it arises after release
(R448, R511). -/
def Block.readErr (b : Block) (pg path off typ ctx : Nat) : Block :=
  if b.stop.stopped ∧ pg ≠ pgOb ∧ pg ≠ pgCn then
    let e : LateErr := { pg := pg, path := path, off := off, typ := typ, ctx := ctx }
    { b with stop := { b.stop with errs := b.stop.errs ++ [e] } }
  else b.accessErr pg path off typ ctx

/-- A write by a path to the register at `a`: `f` where it is taken; ignored where the path or the core is down; counted
where a stop holds it; recorded as an access error where the path or the semaphore forbids it. -/
def Block.regWrite (b : Block) (path a : Nat) (f : Block → Block) : Block :=
  if !b.pathUp path then b
  else if b.pins.coreHeld then (if path = 3 ∧ heldWrites a then f b else b)
  else if b.stop.stopped ∧ !stopTakes a then b.stopDrop
  else if path = 3 then (if sidebandWrites a then f b else b.pageErr path a)
  else if ((regInfo a).map (·.gated)).getD false ∧ !b.holds path (a / 0x1000) then b.pageErr path a
  else f b

/-- A row that is a write of the register at `a`. -/
def State.write (s : State) (path a : Nat) (f : Block → Block) : Host.Outcome State Fault Refusal :=
  s.aon fun b => b.regWrite path a f

/-! ### Staged values -/

/-- A write of the register at `a` staged by a path. -/
def Block.stage (b : Block) (path a v : Nat) : Block :=
  { b with staged := Tab.set (fun _ => (0, 0)) b.staged a (path, BitVec.ofNat 32 v) }

/-- What a path has staged for the register at `a`; else the value `d`. -/
def Block.stagedOr (b : Block) (path a d : Nat) : Nat :=
  let x := Tab.get (fun _ => (0, (0 : W32))) b.staged a
  if x.1 = path ∧ path ≠ 0 then x.2.toNat else d

/-- Staged values of registers that satisfy `p` are discarded. -/
def Block.unstage (b : Block) (p : Nat → Bool) : Block := { b with staged := b.staged.filter fun kv => !p kv.1 }

/-- Every value that a path has staged is discarded (R469, R473). -/
def Block.unstagePath (b : Block) (path : Nat) (p : Nat → Bool) : Block :=
  { b with staged := b.staged.filter fun kv => !(kv.2.1 = path ∧ p kv.1) }

/-! ### Rows of commands -/

/-- Opcodes that complete with ERR_BUSY while BOOTMAP is 1 (R270). -/
def bootBusy (opc : Nat) : Bool := [0x24, 0x25, 0x80, 0x81, 0x82].contains opc

/-- The row of an opcode on the command at (q, i): it acts on a command that is dispatched or under way; one that the boot
map forbids ends with ERR_BUSY (R270), a zero-empty one with OK_EMPTY (R140). -/
def Block.runCmd (b : Block) (q i opc : Nat) (f : Cmd → Block → Block) : Block :=
  match b.cmd? q i with
  | none => b
  | some c =>
    if c.opcode ≠ opc ∨ c.stalled then b
    else match c.phase with
      | .decided =>
        if bootBusy opc ∧ b.bootmap then b.endCmd q i 0x14
        else if c.empty then b.endCmd q i 1
        else f c b
      | .placing => f c b
      | .running => if c.cancel.isSome then b else f c b
      | _ => b

/-- A command goes on running. -/
def Block.setRunning (b : Block) (q i : Nat) : Block := b.modCmd q i fun c => { c with phase := .running }

end Sys2Proof.Machine
end

