-- ==== Sys2Proof/Machine/Cadence.lean ====
section
/-!
DEFINITION. The Cadence Unit: frame edges and the relay (R152, R155, R392), the lock to CAD_IN (R154), holdover (R156), the
taking up of a source (R153, R157, R160), and its rows.
-/
namespace Sys2Proof.Machine

/-- CAD_PERIOD in ZCLK cycles, at least 1. -/
def Block.period (b : Block) : Nat := max 1 (b.reg Reg.CAD_PERIOD)

def Block.modCad (b : Block) (f : Cadence → Cadence) : Block := { b with cad := f b.cad }

/-- A change of the unit's counts that leaves the cadence no lower than it was (R152). -/
def Block.keepCadence (b : Block) (f : Block → Block) : Block :=
  let n := b.cadence
  (f b).modCad fun x => { x with floor := max x.floor n }

def Block.setPeriod (b : Block) (p : Nat) : Block := b.keepCadence fun b => b.setReg Reg.CAD_PERIOD p

/-- The signed number of ns of ZCLK cycles. -/
def cyclesNs (n : Int) : Int := n * 5 / 9

/-- The mean of intervals, rounded to the nearest cycle, a half up (R154). -/
def meanOf (l : List Nat) : Nat := (2 * sumBy id l + l.length) / (2 * max 1 l.length)

/-! ### Sources -/

/-- Whether the Rein time master is in RUN (R392). -/
def Block.reinUp (b : Block) : Bool := match b.tsUp? with
  | some p => decide ((b.port p).st = .run) && decide (b.cad.relay.length = 2)
  | none => false

/-- The source that CAD_SRC in force selects (R153). -/
def Block.wanted (b : Block) : Nat :=
  if b.cad.locked ∧ b.cad.sel ≠ 1 then 1
  else if b.reinUp ∧ b.cad.sel ≠ 0 then 2
  else 3

/-- A cadence event with its record (R156, R157, R458): 1 holdover entered, 2 left, 3 source refused. -/
def Block.cadEvent (b : Block) (kind : Nat) : Block :=
  let d := b.reg Reg.CAD_DRIFT
  let d1 := if bit d 31 then d + (2 ^ 64 - 2 ^ 32) else d
  (b.cinderRec 0x0E kind 0 b.cad.src).event pgCad 8 0 (kind * 2 ^ 8 + b.cad.src) d1

/-- The unit takes a source; leaving holdover raises its event. -/
def Block.setSource (b : Block) (src : Nat) : Block :=
  let old := b.cad.src
  let b := b.modCad fun x => { x with src := src }
  if old = 3 ∧ src ≠ 3 then b.cadEvent 2 else if old ≠ 3 ∧ src = 3 then b.cadEvent 1 else b

def Block.setDrift (b : Block) (ns : Int) : Block := b.setReg Reg.CAD_DRIFT (ns % 2 ^ 32).toNat

/-! ### Frame edges -/

/-- RELAY of a frame edge on every TS_DOWN port in RUN (R392). -/
def Block.relayEdge (b : Block) : Block :=
  let t := b.ns - (cyclesNs b.cad.cyc).toNat
  let pl := pay (b.cad.frames % 2 ^ 48 + ofBit (decide (b.cad.src = 3)) * 2 ^ 48 + t * 2 ^ 64)
  (b.runPorts.filter fun p => bit (b.reg (prt p Reg.PT_CTL)) 4).foldl (fun b p => b.sendFrame p 3 0 pl) b

/-- A frame edge (R152) that fell `ago` ZCLK cycles ago, to frame `n`. -/
def Block.frameEdge (b : Block) (n ago : Nat) : Block :=
  let b := b.keepCadence fun b => b.modCad fun x => { x with frames := n % 2 ^ 48, cyc := ago, due := false }
  let b := b.modCad fun x => { x with srcPend := decide (x.sel ≠ b.field Reg.CAD_CTL 1 0) }
  if b.stop.stopped then b else b.relayEdge

/-- An edge that has come and that the count has not taken, taken. -/
def Block.takeDue (b : Block) : Block :=
  if b.cad.due then
    if b.cad.src = 1 then b.frameEdge (b.cad.frames + 1) (b.cad.clk - b.cad.lastEdge)
    else b.frameEdge (b.cad.frames + 1) (b.cad.cyc - b.period)
  else b

/-- Every edge that has fallen due on entry to holdover (R156). -/
def Block.catchUp : Nat → Block → Block
  | 0, b => b
  | n + 1, b =>
    if b.period ≤ b.cad.cyc then Block.catchUp n (b.frameEdge (b.cad.frames + 1) (b.cad.cyc - b.period)) else b

/-- Entry to holdover, which keeps the phase of the last edge (R156). -/
def Block.enterHoldover (b : Block) : Block :=
  let b := b.takeDue
  (Block.catchUp (b.cad.cyc / b.period + 1) b).setSource 3

/-- CAD_IN taken up at an edge of now (R157): matched to the nearest local edge, ahead or behind. -/
def Block.takeCadIn (b : Block) : Block :=
  if 0x8000 ≤ b.cadence % 65536 then
    let b := b.setDrift (cyclesNs ((b.period : Int) - b.cad.cyc))
    (b.modCad fun x => { x with due := true }).setSource 1
  else
    let b := b.setDrift (cyclesNs (-(b.cad.cyc : Int)))
    (b.keepCadence fun b => b.modCad fun x => { x with cyc := 0 }).setSource 1

/-- The source in use still gives edges: CAD_IN under its lock, or holdover. -/
def Block.keepsSource (b : Block) : Bool := decide (b.cad.src = 3) || (decide (b.cad.src = 1) && b.cad.locked)

/-- The Rein time master taken up at its last message (R157): followed, or refused where it is more than a frame behind. P becomes
CAD_PERIOD in whole ZCLK cycles, a fraction rounded up (DESIGN CHOICE, log entry 109). -/
def Block.takeRein (b : Block) : Block :=
  match b.cad.relay with
  | (f, t) :: (_, u) :: _ =>
    let p := max 1 (t - u)
    let ago : Int := (b.ns : Int) - t
    let drift : Int := ((f : Int) * 65536 - b.cadence) * (cyclesNs b.period) / 65536 + ago
    let b := b.setDrift drift
    if drift < -(cyclesNs b.period) then
      (if b.keepsSource then b else b.enterHoldover) |> fun b => (b.setField Reg.CAD_STS 6 6 1).cadEvent 3
    else
      let cyc := (ago * 9 / 5).toNat
      let b := b.keepCadence fun b =>
        (b.modCad fun x => { x with frames := f, cyc := cyc, due := false, measured := true }).setReg Reg.CAD_PERIOD (ceilDiv (p * 9) 5)
      b.setSource 2
  | _ => b

/-- The source is chosen again after a change (R153): CAD_IN is taken up at its next edge. -/
def Block.reselect (b : Block) : Block :=
  if !b.cad.started then b
  else
    let w := b.wanted
    if w = b.cad.src then b
    else match w with
      | 1 => if b.cad.src = 2 ∧ !b.reinUp then b.enterHoldover else b
      | 2 => b.takeRein
      | _ => b.enterHoldover

/-- The cadence starts from frame 0 on entry to READY (R158). -/
def Block.startCadence (b : Block) : Block :=
  let b := b.modCad fun x => { x with
    started := true, frames := 0, cyc := 0, floor := 0, due := false, srcPend := false, src := 0, sel := b.field Reg.CAD_CTL 1 0 }
  match b.wanted with
  | 1 => b.setSource 1
  | 2 => b.takeRein
  | _ => b.setSource 3

/-! ### CAD_IN -/

/-- The lock is lost (R154). -/
def Block.loseLock (b : Block) : Block :=
  (b.modCad fun x => { x with locked := false, edges := [] }).reselect

/-- 1.5 × CAD_PERIOD have passed since the last accepted edge. -/
def Block.lockLapsed (b : Block) : Bool := decide (3 * b.period ≤ 2 * (b.cad.clk - b.cad.lastEdge))

/-- Whether an interval may make a lock (R154): 125 µs to 100 ms. -/
def lockable (n : Nat) : Bool := 225000 ≤ n ∧ n ≤ 180000000

/-- Differences of successive edges, newest first. -/
def gaps : List Nat → List Nat
  | a :: c :: t => (a - c) :: gaps (c :: t)
  | _ => []

/-- CAD_PERIOD measured from CAD_IN (R154); while the Rein time master is followed, the period in use is its own (R155). -/
def Block.measure (b : Block) (p : Nat) : Block := if b.cad.src = 2 then b else b.setPeriod p

/-- An edge while the unit is not locked. The edge that makes the lock is compared with the local cadence as it ran until then
(R157), before the new CAD_PERIOD. -/
def Block.lockEdge (b : Block) : Block :=
  let now := b.cad.clk
  let es := match b.cad.edges with
    | [] => [now]
    | e :: t => if lockable (now - e) then now :: e :: t else [now]
  let es := es.take 4
  let ivs := gaps es
  let lo := ivs.foldl min (2 ^ 64)
  let hi := ivs.foldl max 0
  if es.length < 4 ∨ lo < (hi - lo) * 100 then b.modCad fun x => { x with edges := es.take 3 }
  else
    let b := b.modCad fun x => { x with locked := true, edges := [], intervals := ivs, lastEdge := now, measured := true }
    let b : Block := if b.cad.started ∧ b.wanted = 1 then b.takeCadIn else b
    b.measure (meanOf ivs)

/-- An edge while the unit is locked. -/
def Block.lockedEdge (b : Block) : Block :=
  let now := b.cad.clk
  let n := now - b.cad.lastEdge
  if 10 * n < 9 * b.period then b.count Reg.CAD_EARLY 15 0 1
  else
    let b := b.takeDue
    let ivs := (n :: b.cad.intervals).take 16
    let b := b.modCad fun x => { x with intervals := ivs, lastEdge := now }
    let b : Block := if b.cad.src = 1 then b.modCad fun x => { x with due := true }
      else if b.cad.started ∧ b.wanted = 1 then b.takeCadIn
      else b
    b.measure (meanOf ivs)

/-- Whether R528's debounce ignores an edge of now: one within 10 µs of an edge that it accepted. -/
def Block.bounces (b : Block) : Bool := match b.cad.pinAt with
  | some t => decide (b.cad.clk - t < Config.debounceCycles)
  | none => false

/-- A filtered rising edge on CAD_IN (R154, R528). -/
def Block.cadIn (b : Block) : Block :=
  if b.bounces then b
  else
  let b := b.modCad fun x => { x with pinAt := some x.clk }
  if b.cad.locked then (if b.lockLapsed then (b.loseLock).lockEdge else b.lockedEdge) else b.lockEdge

/-! ### Rows -/

/-- The Rein master's next edge has come (R155): its frame, and how many ns ago. -/
def Block.reinEdge? (b : Block) : Option (Nat × Nat) :=
  match b.cad.relay with
  | (f, t) :: (_, u) :: _ => if b.cad.src = 2 ∧ b.cad.frames ≤ f ∧ t + (t - u) ≤ b.ns then some (f + 1, b.ns - (t + (t - u))) else none
  | _ => none

/-- CADENCE_FRAME_EDGE (R152): the edge that the source in use has brought. -/
def execCadenceFrameEdge (s : State) : Host.Outcome State Fault Refusal :=
  s.link fun b =>
    if !b.cad.started then b
    else if b.cad.due then b.takeDue
    else match b.reinEdge? with
      | some (n, ago) => b.frameEdge n (ago * 9 / 5)
      | none => b

/-- CAD_IN_EDGE (R154). -/
def execCadInEdge (s : State) : Host.Outcome State Fault Refusal := s.link fun b => b.cadIn

/-- CAD_LOCK_LOSS (R154). -/
def execCadLockLoss (s : State) : Host.Outcome State Fault Refusal :=
  s.core fun b => if b.cad.locked ∧ b.lockLapsed then b.loseLock else b

/-- HOLDOVER_EDGE (R156). -/
def execHoldoverEdge (s : State) : Host.Outcome State Fault Refusal :=
  s.link fun b => if b.cad.started ∧ b.cad.src = 3 ∧ !b.cad.due ∧ b.period ≤ b.cad.cyc then b.modCad fun x => { x with due := true } else b

/-- RELAY_TIMEOUT (R392): no RELAY within 1.5 × CAD_PERIOD, or its port has left RUN. -/
def execRelayTimeout (s : State) : Host.Outcome State Fault Refusal :=
  s.core fun b =>
    let up := match b.tsUp? with
      | some p => decide ((b.port p).st = .run)
      | none => false
    if !b.cad.relay.isEmpty ∧ (!up ∨ 3 * b.period ≤ 2 * (b.cad.clk - b.cad.relayAt)) then
      (b.modCad fun x => { x with relay := [] }).reselect
    else b

/-- CAD_SRC_CHANGE (R160): at the first frame edge after the write. -/
def execCadSrcChange (s : State) : Host.Outcome State Fault Refusal :=
  s.core fun b =>
    if b.cad.srcPend then (b.modCad fun x => { x with srcPend := false, sel := b.field Reg.CAD_CTL 1 0 }).reselect else b

/-- A RELAY taken from the TS_UP port (R155, R392). DESIGN CHOICE (log entry 109): CAD_PERIOD is P in ZCLK cycles, a fraction rounded
up. -/
def Block.takeRelay (b : Block) (f t : Nat) : Block :=
  let late := 3 * b.period ≤ 2 * (b.cad.clk - b.cad.relayAt)
  let was := b.cad.relay.length
  let l := if late then [(f, t)] else ((f, t) :: b.cad.relay).take 2
  let b := b.modCad fun x => { x with relay := l, relayAt := x.clk }
  let b := if b.cad.src = 2 then match l with
      | (_, t) :: (_, u) :: _ => b.setPeriod (ceilDiv ((t - u) * 9) 5)
      | _ => b
    else b
  if was < 2 ∧ l.length = 2 then b.reselect else b

end Sys2Proof.Machine
end

