-- ==== Sys2Proof/Machine/Errors.lean ====
section
/-!
DEFINITION. Storage errors (R396, R397, R424, R431, R512): the event, the Cinder record and the wear count of one error, and
the Spare Manager's record of a retirement or an entry (R424, R458).
-/
namespace Sys2Proof.Machine

/-- The page of the unit whose storage a KIND is (R424): Lamplighter, ZTU, Wick Engine, CCH, ZTU, a Rein port; none for the
engines and the stack channels. -/
def kindPage (kind inst : Nat) : Option Nat :=
  match kind with
  | 0 => some pgLl
  | 1 => some pgZt
  | 2 => some pgWk
  | 3 => some pgCc
  | 4 => some pgZt
  | 5 => some (pgRein (inst / 2))
  | _ => none

/-- Bits armed on a page (R512): bit 1 UE_ARM, bit 0 CE_ARM. -/
def Block.arms (b : Block) (pg : Nat) : Nat := Tab.get (fun _ => 0) b.armed pg
def Block.setArms (b : Block) (pg v : Nat) : Block := { b with armed := Tab.set (fun _ => 0) b.armed pg v }

/-- The UE event and record of one uncorrectable error of page `pg`: an armed one carries INJ and clears its arm. -/
def Block.ueEvent (b : Block) (pg kind inst : Nat) : Block :=
  let a := b.arms pg
  let b := b.setArms pg (a % 2)
  let b := b.count32 (pg * 0x1000 + Reg.PG_AON1)
  let b := b.cinderRec 0x06 kind 0 (inst % 2 ^ 20)
  b.raiseBit pg 1 0 (kind % 16 * 2 ^ 28 + inst % 2 ^ 20) 0 (bit a 1) 0 0

/-- An uncorrectable error in a structure that R424 gives no KIND: the spec states no KIND and no instance for it, and both
are free values (log entry 9). -/
def Block.plainUe (b : Block) (pg : Nat) : Block :=
  let k := b.fresh 4
  let i := k.2.fresh 20
  i.2.ueEvent pg k.1 i.1

/-- An uncorrectable error of an instance: its count, and the event and record of its unit. -/
def Block.storageUe (b : Block) (kind inst : Nat) : Block :=
  let w := b.wearOf kind inst
  let b := b.setWear kind inst { w with ue := satAdd 8 w.ue 1 }
  match kindPage kind inst with
  | some pg => b.ueEvent pg kind inst
  | none => b.cinderRec 0x06 kind 0 (inst % 2 ^ 20)

/-- A SPARE event (R424, R425): `what` is 0 predicted, 1 retired, 2 entered service. -/
def Block.spareEvent (b : Block) (kind inst what : Nat) : Block :=
  b.event pgSm 8 0 (kind * 2 ^ 28 + what * 2 ^ 20 + inst % 2 ^ 20)

/-- An instance is retired (STATE 2), with its record and event. -/
def Block.retireInst (b : Block) (kind inst : Nat) : Block :=
  let b := b.setWear kind inst { b.wearOf kind inst with st := 2 }
  (b.cinderRec 0x07 kind 0 (inst % 2 ^ 20)).spareEvent kind inst 1

/-- A spare enters service (STATE 0), with its record and event. -/
def Block.enterInst (b : Block) (kind inst : Nat) : Block :=
  let b := b.setWear kind inst { b.wearOf kind inst with st := 0 }
  (b.cinderRec 0x07 kind 0 (2 ^ 20 + inst % 2 ^ 20)).spareEvent kind inst 2

/-- The instances of the group of an instance that are spares not in service (R430): its stack for units, its slice for
ways, its port for lanes, the block otherwise. -/
def Block.sparesOf (b : Block) (kind inst : Nat) : List Nat :=
  let free (l : List Nat) : List Nat := l.filter fun k => (b.wearOf kind k).st = 3
  match kind with
  | 0 => free (List.range 3)
  | 1 => free (List.range 10)
  | 2 => (firstNat (fun k => (b.wearOf 2 k).st = 3) Config.numSlots Config.numSpareRows).toList
  | 3 => free ((List.range 17).map fun k => inst / 17 * 17 + k)
  | 4 => free (List.range 17)
  | 5 => free ((List.range 2).map fun k => inst / 2 * 2 + k)
  | 6 => free b.allCores
  | 7 => free ((List.range b.straps.unitsPerStack).map fun k => inst / 64 * 64 + k)
  | _ => []

/-- The count of SM_SPARE_LEFT (R430). -/
def Block.spareLeft (b : Block) (kind inst : Nat) : Nat :=
  if kind = 2 then
    Config.numSpareRows - (b.wear.filter fun kv => kv.1 / 2 ^ 20 = 2 ∧ Config.numSlots ≤ kv.1 % 2 ^ 20 ∧ kv.2.st ≠ 3).length
  else (b.sparesOf kind inst).length

/-- Whether a kind has an instance of that number (R424, R430). -/
def Block.instOk (b : Block) (kind inst : Nat) : Bool :=
  match kind with
  | 0 => decide (inst < 3)
  | 1 => decide (inst < 10)
  | 2 => decide (inst < Config.numSlots + Config.numSpareRows)
  | 3 => decide (inst < 4 * 17)
  | 4 => decide (inst < 17)
  | 5 => decide (inst < 16)
  | 6 => b.allCores.contains inst
  | 7 => b.allUnits.contains (unitBase + inst)
  | 8 => decide (inst < 16 * b.straps.nStacks)
  | _ => false

end Sys2Proof.Machine
end

