-- ==== Sys2Proof/Machine/Capability.lean ====
section
/-!
DEFINITION. The capability and topology table (R76 to R81): its entries from the state of the units, and its rewriting.
-/
namespace Sys2Proof.Machine

/-- One entry (R76). -/
def capEntry (key inst value : Nat) : W64 := BitVec.ofNat 64 (key * 2 ^ 48 + inst * 2 ^ 40 + value % 2 ^ 32)

/-- A key without instances. -/
def capOne (key value : Nat) : List W64 := [capEntry key 0 value]

/-- A key with one entry for each of `n` instances. -/
def capEach (key n : Nat) (f : Nat → Nat) : List W64 := (List.range n).map fun k => capEntry key k (f k)

/-- Cores near stack `s`, by number (R524). -/
def Block.nearCores (b : Block) (s : Nat) : List Nat := b.allCores.filter fun e => b.nearStack e = s

/-- Units of stack `s`. -/
def Block.stackUnits (b : Block) (s : Nat) : List Nat := b.allUnits.filter fun e => b.nearStack e = s

/-- Instances of a kind whose STATE is `st`, among engines. -/
def Block.countSt (b : Block) (kind : Nat) (es : List Nat) (p : Nat → Bool) : Nat :=
  (es.filter fun e => p (b.wearOf kind (if kind = 7 then e - unitBase else e)).st).length

/-- Keys 0x0001 to 0x0005 and 0x0010 to 0x0014 (R80). -/
def Block.capHead (b : Block) : List W64 :=
  capOne 0x0001 b.tableGen ++ capOne 0x0002 Config.blockId ++ capOne 0x0003 (b.field Reg.GLB_ROLE 1 0)
    ++ capOne 0x0004 1800000 ++ capOne 0x0005 b.straps.process
    ++ capOne 0x0010 b.coresIn.length ++ capOne 0x0011 (b.countSt 6 b.allCores (· = 3))
    ++ capOne 0x0012 b.straps.coreArrays ++ capOne 0x0013 b.straps.coreClkKhz ++ capOne 0x0014 b.straps.coreFormats

/-- Keys 0x0020 to 0x0026. -/
def Block.capStacks (b : Block) : List W64 :=
  let n := b.straps.nStacks
  capOne 0x0020 n
    ++ capEach 0x0021 n (fun s => b.countSt 7 (b.stackUnits s) (· < 2))
    ++ capEach 0x0022 n (fun s => b.countSt 7 (b.stackUnits s) (· = 3))
    ++ capEach 0x0023 n (fun s => nth b.capMb s)
    ++ capEach 0x0024 n (fun s => nth b.chanOk s)
    ++ capEach 0x0025 n (fun s => s * b.straps.coresPerStack * 2 ^ 16 + b.straps.coresPerStack)
    ++ capOne 0x0026 b.straps.unitFormats

/-- Keys 0x0030 to 0x003D. -/
def Block.capSizes (b : Block) : List W64 :=
  capOne 0x0030 Config.numContexts ++ capOne 0x0031 Config.numQueues ++ capOne 0x0032 Config.maxRtQueues
    ++ capOne 0x0033 Config.numHarnesses ++ capOne 0x0034 Config.numSlots ++ capOne 0x0035 32768
    ++ capOne 0x0036 Config.descCacheEntries ++ capOne 0x0037 4096 ++ capOne 0x0038 16384 ++ capOne 0x0039 8192
    ++ capOne 0x003A b.walkers.length ++ capOne 0x003B 64 ++ capOne 0x003C 250000 ++ capOne 0x003D (b.reg Reg.LIGHT_CTL)

/-- Keys 0x0040 to 0x0052; a port shows its peer while it is in RUN (R375). -/
def Block.capLinks (b : Block) : List W64 :=
  capOne 0x0040 (b.straps.hostLanes * 2 ^ 16 + b.straps.hostGen * 2 ^ 8 + b.straps.hostCaps)
    ++ capOne 0x0041 b.straps.fabricGbps ++ capOne 0x0042 b.chipId ++ capOne 0x0050 8 ++ capOne 0x0051 b.straps.reinBond
    ++ capEach 0x0052 8 (fun p => if (b.port p).st = .run then b.reg (prt p Reg.PT_PEER_ID) else 0xFFFFFFFF)

/-- The table: its entries, then the END entry that counts them. -/
def Block.capTable (b : Block) : List W64 :=
  let l := b.capHead ++ b.capStacks ++ b.capSizes ++ b.capLinks
  l ++ capOne 0 l.length

/-- The table is written on entry to READY with TABLE_GEN 1 (R77). -/
def Block.writeCaps (b : Block) : Block :=
  let b := { b with tableGen := 1 }
  { b with capt := b.capTable }

/-- A change that R78 names rewrites its entry and advances TABLE_GEN, once the table has been written. -/
def Block.changeCaps (b : Block) : Block :=
  if b.capt.isEmpty then b
  else
    let b := { b with tableGen := b.tableGen + 1 }
    { b with capt := b.capTable }

/-- A spare instance enters service, which rewrites the table (R78). -/
def Block.enterSpare (b : Block) (kind inst : Nat) : Block := (b.enterInst kind inst).changeCaps

/-- The word of the CAPT page at an offset of it (R76). -/
def Block.capWord (b : Block) (off : Nat) : Nat :=
  let e := (b.capt.getD ((off - 0x100) / 8) 0).toNat
  if off % 8 = 0 then e % 2 ^ 32 else e / 2 ^ 32

end Sys2Proof.Machine
end

