-- ==== Sys2Proof/Machine/Reset.lean ====
section
/-!
DEFINITION. Resets: the core domain at L3, L4 and CORE_RST_N (R407, R474, R477, R502, R532), the always-on domain at power-on
(R408, R463, R525), and what each keeps.
-/
namespace Sys2Proof.Machine

/-- Wick slots through a reset of the core domain (R239): every slot allocated counts as freed. -/
def Block.resetSlots (b : Block) : Block :=
  b.slots.foldl (fun b kv =>
    if kv.2.alloc then
      let y := kv.2.freed
      let y := if b.rowDead kv.1 then { y with withdrawn := true } else y
      let b := b.setSlot kv.1 y
      if y.withdrawn then b.setReg Reg.WK_WITHDRAWN (b.reg Reg.WK_WITHDRAWN + 1) else b
    else b.setSlot kv.1 { kv.2 with value := 0, snuffed := false, sat := false, exported := false, window := false, owner := none }) b

/-- Registers through a reset of the core domain (R407, R502): the L2 count lies in the core domain. -/
def Block.resetRegs (b : Block) : Block :=
  let b := { b with regs := b.regs.filter fun kv => keptThroughL3 kv.1 }
  b.setField Reg.RC_L_COUNT1 15 0 0

/-- Engines after a reset: unlit, with their spaces to be cleared before a placement (R303). -/
def Block.resetEngines (b : Block) : Tab Engine :=
  (b.allCores ++ b.allUnits).map fun e => (e, { needClear := true })

/-- The core domain reset (R407): the block is in OFF. The always-on domain, the Rein ports, memory, and what R407 and R502 list
keep their state. -/
def Block.coreReset (b : Block) : Block :=
  let b := b.resetSlots.resetRegs
  { ({} : Block) with
    straps := b.straps
    pins := b.pins
    st := .off
    chipId := b.chipId
    zclk := b.zclk
    aonClk := b.aonClk
    fabric := b.fabric
    freeCount := b.freeCount
    readData := b.readData
    regs := b.regs
    hiu := { sent := b.hiu.sent }
    engines := b.resetEngines
    dev := b.dev
    host := b.host
    spm := b.spm
    ssc := b.ssc
    chanOk := b.chanOk
    slots := b.slots
    ports := b.ports
    sync := b.sync
    seen := b.seen
    pwr := b.pwr
    wear := b.wear
    cinder := b.cinder
    fpDest := b.fpDest
    fabricOut := b.fabricOut
    mc := { active := ((List.range 3).find? fun k => (b.wearOf 0 k).st < 2).getD 0 } }

/-- The re-base of a reset (R329, R331): every account is 0 on both sides. -/
def Block.resetLedger (b : Block) (cause : Nat) : Block :=
  let b := b.setField Reg.LG_STS 1 1 1
  let b := (b.setField Reg.LG_REBASE 31 24 cause).count Reg.LG_REBASE 15 0 1
  b.cinderRec 0x09 2 0 cause

/-- The whole block reset, the always-on domain included (R408 step 8, R531): what surrounds the block stays. -/
def Block.powerReset (b : Block) : Block :=
  { ({} : Block) with
    straps := b.straps
    pins := { portA := b.pins.portA, portB := b.pins.portB, sideband := b.pins.sideband, ats := b.pins.ats, prAlloc := b.pins.prAlloc }
    zclk := b.zclk
    freeCount := b.freeCount
    readData := b.readData
    host := b.host
    hiu := { sent := b.hiu.sent }
    fabricOut := b.fabricOut }

/-! ### Rows -/

/-- AON_RESET_RELEASE (R525, R531): the always-on domain starts afresh and CHIP_ID is sampled. -/
def execAonResetRelease (chipId : BitVec 32) (s : State) : Host.Outcome State Fault Refusal :=
  s.aon fun b => { b.powerReset with chipId := chipId.toNat }

/-- POWER_ON (R477): the core rail is up and its reset released, so the block enters OFF, its engines to be cleared before a placement
(R303); after an L4 the ledger's first re-base has CAUSE 3 (R329, R331). -/
def execPowerOn (s : State) : Host.Outcome State Fault Refusal :=
  s.aon fun b =>
    if b.st = .power ∧ b.pwr.isNone then
      let b := { b with st := .off, engines := b.resetEngines, pins := { b.pins with coreHeld := false } }
      if b.reg Reg.LG_REBASE = 0 then (b.resetLedger 3).event pgLg 8 0 (2 * 2 ^ 16 + 3) 0 else b
    else b

/-- CORE_RESET_ASSERT (R532): the crossings drain, and the core domain is held in reset. -/
def execCoreResetAssert (s : State) : Host.Outcome State Fault Refusal :=
  s.aon fun b =>
    if b.pins.coreHeld then b
    else
      let b := { b.coreReset with st := .power }
      { b with pins := { b.pins with coreHeld := true } }

end Sys2Proof.Machine
end

