-- ==== Sys2Proof/Machine/Digest.lean ====
section
/-!
DEFINITION. The digest unit of WATCH (R444 to R446): CRC-64/ECMA-182 over the row bytes and the scale bytes, and FP64
statistics of the elements decoded under R221 and R222.
-/
namespace Sys2Proof.Machine

/-! ### CRC-64/ECMA-182 -/

/-- One bit of the division by 0x42F0E1EBA9EA3693. -/
def crcBit (c : Nat) : Nat :=
  if bit c 63 then (c * 2 % 2 ^ 64) ^^^ 0x42F0E1EBA9EA3693 else c * 2 % 2 ^ 64

/-- One byte: no reflection, initial value and final complement none (R444). -/
def crcByte (c : Nat) (x : Byte) : Nat := (List.range 8).foldl (fun c _ => crcBit c) (c ^^^ (x.toNat * 2 ^ 56))

def crc64 (bs : List Byte) : Nat := bs.foldl crcByte 0

/-! ### Numbers: sign, magnitude m × 2^e -/

structure Dyadic where
  neg : Bool := false
  m : Nat := 0
  e : Int := 0
deriving DecidableEq, Repr

/-- The value of an element. -/
inductive Elem where
  | nan
  | inf (neg : Bool)
  | fin (x : Dyadic)
deriving DecidableEq, Repr

/-- A mantissa of at most 53 bits, rounded to nearest even; FP64 range is never left by the formats of R221. -/
def round53 (m : Nat) (e : Int) : Nat × Int :=
  let k := m.log2 + 1 - 53
  if k = 0 then (m, e)
  else
    let q := m >>> k
    let r := m % 2 ^ k
    let h := 2 ^ (k - 1)
    if h < r ∨ (r = h ∧ q % 2 = 1) then (q + 1, e + k) else (q, e + k)

/-- The signed magnitude of `x` at exponent `e`, not above its own. -/
def Dyadic.at_ (x : Dyadic) (e : Int) : Int :=
  let n : Int := (x.m * 2 ^ (x.e - e).toNat : Nat)
  if x.neg then -n else n

/-- FP64 addition, round to nearest even. -/
def Dyadic.add (x y : Dyadic) : Dyadic :=
  let e := min x.e y.e
  let s := x.at_ e + y.at_ e
  let r := round53 s.natAbs e
  { neg := decide (s < 0), m := r.1, e := r.2 }

def Dyadic.mul (x y : Dyadic) : Dyadic := { neg := xor x.neg y.neg, m := x.m * y.m, e := x.e + y.e }

/-- Order with -0 below +0. -/
def Dyadic.less (x y : Dyadic) : Bool :=
  let e := min x.e y.e
  decide (x.at_ e < y.at_ e) || (x.m = 0 && y.m = 0 && x.neg && !y.neg)

/-- FP64 bits of a number whose mantissa has at most 53 bits. -/
def Dyadic.fp64 (x : Dyadic) : Nat :=
  let s := ofBit x.neg * 2 ^ 63
  if x.m = 0 then s
  else
    let k := x.m.log2
    s + (x.e + k + 1023).toNat * 2 ^ 52 + (x.m * 2 ^ (52 - k) - 2 ^ 52)

/-! ### Elements -/

/-- How a format encodes infinities and NaN in its top exponent. -/
inductive Tops where
  | ieee | onlyNan | none_
deriving DecidableEq, Repr

/-- A binary float of `eb` exponent bits and `mb` mantissa bits. -/
def floatOf (eb mb : Nat) (bias : Nat) (tops : Tops) (v : Nat) : Elem :=
  let neg := bit v (eb + mb)
  let ex := bits v (eb + mb - 1) mb
  let man := v % 2 ^ mb
  let top := decide (ex = 2 ^ eb - 1)
  if top && decide (tops = .ieee) then (if man = 0 then .inf neg else .nan)
  else if top && decide (tops = .onlyNan) && decide (man = 2 ^ mb - 1) then .nan
  else if ex = 0 then .fin { neg := neg, m := man, e := 1 - (bias : Int) - mb }
  else .fin { neg := neg, m := 2 ^ mb + man, e := (ex : Int) - bias - mb }

def e4m3 (v : Nat) : Elem := floatOf 4 3 7 .onlyNan v
def e5m2 (v : Nat) : Elem := floatOf 5 2 15 .ieee v
def fp16 (v : Nat) : Elem := floatOf 5 10 15 .ieee v
def e2m1 (v : Nat) : Elem := floatOf 2 1 1 .none_ v

/-- The shared scale of an MX block, an E8M0 byte. -/
def e8m0 (v : Nat) : Elem := if v = 0xFF then .nan else .fin { m := 1, e := (v : Int) - 127 }

/-- A two's complement byte in units of 1/64. -/
def int8 (v : Nat) : Elem :=
  if 128 ≤ v then .fin { neg := true, m := 256 - v, e := -6 } else .fin { m := v, e := -6 }

/-- A product; infinity times zero is NaN. -/
def Elem.mul : Elem → Elem → Elem
  | .nan, _ => .nan
  | _, .nan => .nan
  | .inf a, .inf b => .inf (xor a b)
  | .inf a, .fin y => if y.m = 0 then .nan else .inf (xor a y.neg)
  | .fin x, .inf b => if x.m = 0 then .nan else .inf (xor x.neg b)
  | .fin x, .fin y => .fin (x.mul y)

/-- `w` bits of a row from bit `k` on, lower indexes in lower bits (R221). -/
def rowBits (row : List Byte) (k w : Nat) : Nat := ofLeBytes ((row.drop (k / 8)).take 5) / 2 ^ (k % 8) % 2 ^ w

/-- Element `k` of a row with its scale bytes (R221, R222). -/
def elemOf (d : Desc) (row scales : List Byte) (k : Nat) : Elem :=
  let mx (x : Elem) : Elem := (e8m0 (rowBits scales (8 * (k / 32)) 8)).mul x
  match d.format with
  | 0 => floatOf 8 23 127 .ieee (rowBits row (32 * k) 32)
  | 1 => floatOf 8 7 127 .ieee (rowBits row (16 * k) 16)
  | 2 => fp16 (rowBits row (16 * k) 16)
  | 3 => e4m3 (rowBits row (8 * k) 8)
  | 4 => e5m2 (rowBits row (8 * k) 8)
  | 5 => mx (if d.variant_ then e5m2 (rowBits row (8 * k) 8) else e4m3 (rowBits row (8 * k) 8))
  | 6 => mx (if d.variant_ then floatOf 3 2 3 .none_ (rowBits row (6 * k) 6) else floatOf 2 3 1 .none_ (rowBits row (6 * k) 6))
  | 7 => mx (e2m1 (rowBits row (4 * k) 4))
  | 8 => mx (int8 (rowBits row (8 * k) 8))
  | _ => ((e2m1 (rowBits row (4 * k) 4)).mul (e4m3 (rowBits row (4 * nth d.ext 0 + 8 * (k / 16)) 8))).mul (fp16 (rowBits scales 0 16))

/-! ### Statistics -/

structure Stats where
  nan : Nat := 0
  inf : Nat := 0
  lo : Option Dyadic := none
  hi : Option Dyadic := none
  sum : Dyadic := {}
  sumsq : Dyadic := {}
deriving DecidableEq, Repr

def Stats.put (s : Stats) : Elem → Stats
  | .nan => { s with nan := satAdd 32 s.nan 1 }
  | .inf _ => { s with inf := satAdd 32 s.inf 1 }
  | .fin x => { s with
      lo := some (match s.lo with
        | some y => if x.less y then x else y
        | none => x)
      hi := some (match s.hi with
        | some y => if y.less x then x else y
        | none => x)
      sum := s.sum.add x
      sumsq := s.sumsq.add (x.mul x) }

/-- The elements of the rows in ascending order, dimension 0 fastest (R445). -/
def statsOf (d : Desc) (rows : List (List Byte × List Byte)) : Stats :=
  rows.foldl (fun s r => (List.range (nth d.ext 0)).foldl (fun s k => s.put (elemOf d r.1 r.2 k)) s) {}

/-- The 64-byte result (R444). -/
def watchResult (mode : Nat) (d : Desc) (rows : List (List Byte × List Byte)) : List Byte :=
  let dig := if mode = 1 then 0 else crc64 (rows.flatMap (·.1) ++ rows.flatMap (·.2))
  let count := d.exts.foldl (· * ·) 1
  let st := statsOf d rows
  let on (n : Nat) : Nat := if mode = 0 then 0 else n
  let lo := (st.lo.map Dyadic.fp64).getD 0x7FF0000000000000
  let hi := (st.hi.map Dyadic.fp64).getD 0xFFF0000000000000
  [dig, count, on (st.nan * 2 ^ 32 + st.inf), on lo, on hi, on st.sum.fp64, on st.sumsq.fp64, d.format * 256 + mode].flatMap (leBytes 8)

/-! ### Rows of a tensor (R201, R221) -/

/-- The byte offset of row `r`: its index on the dimensions above 0, dimension 1 fastest. -/
def Desc.rowOffset (d : Desc) (r : Nat) : Nat :=
  let e1 := nth d.exts 1
  let e2 := if d.rank ≤ 2 then 1 else nth d.exts 2
  if d.rank = 1 then 0
  else r % e1 * nth d.stride 1 + r / e1 % e2 * nth d.stride 2 + r / e1 / e2 * nth d.stride 3

end Sys2Proof.Machine
end

