-- ==== Sys2Proof/Machine/Coherence.lean ====
section
/-!
DEFINITION. The control coherence domain (R332 to R347): agents and windows, the home's transactions, what agents answer, the
fall of the domain (R348 to R350) and a takeover by a spare Lamplighter core (R492). Lines are numbers of 64 bytes of device
memory. Agents of 512 and above, the model's numbering, are those of R333, which do not cache.
-/
namespace Sys2Proof.Machine

def Block.ccMod (b : Block) (f : Coherence → Coherence) : Block := { b with coh := f b.coh }

/-! ### Agents and windows -/

/-- Whether an agent is in the domain (R332, R335, R350): a Lamplighter core in service, QFE, the walkers, or the control core of
a lit, clocked core in service, unless it has been fenced out. -/
def Block.inDomain (b : Block) (a : Nat) : Bool :=
  !b.coh.fenced.contains a &&
    (if a < 3 then decide ((b.wearOf 0 a).st < 2)
     else if a < 5 then true
     else if a < 8 then false
     else a < 512 && b.inService (a - 8) && (b.eng (a - 8)).lit && !(b.eng (a - 8)).gated)

/-- Whether a line lies in the window of three registers (R334, R353). -/
def Block.inWindow (b : Block) (lo hi len line : Nat) : Bool :=
  let base := b.reg lo + 2 ^ 32 * b.reg hi
  let n := b.reg len
  decide (base % 65536 = 0) && decide (n % 65536 = 0) && decide (base ≤ line * 64) && decide (line * 64 < base + n)

def Block.isScratch (b : Block) (line : Nat) : Bool := b.inWindow Reg.CC_SCR_BASE_LO Reg.CC_SCR_BASE_HI Reg.CC_SCR_LEN line
def Block.isJournal (b : Block) (line : Nat) : Bool := b.inWindow Reg.CC_JRNL_BASE_LO Reg.CC_JRNL_BASE_HI Reg.CC_JRNL_LEN line

/-- The 64 bytes of a line as memory holds them. -/
def Block.lineData (b : Block) (line : Nat) : BitVec 512 := BitVec.ofNat 512 (Memory.num b.dev (line * 64) 64)

/-- The bytes of a line that `mask` names, written to memory. -/
def Block.putLine (b : Block) (line : Nat) (data : BitVec 512) (mask : BitVec 64) : Block :=
  { b with dev := (List.range 64).foldl (fun m k =>
      if mask.getLsbD k then Tab.set memDefault m (line * 64 + k) (BitVec.ofNat 8 (data.toNat / 2 ^ (8 * k))) else m) b.dev }

/-- Every byte of a line. -/
def wholeLine : BitVec 64 := BitVec.ofNat 64 (2 ^ 64 - 1)

/-- What a Lamplighter core has stored in a line it holds in M: its stores are the microcode's, so a free value (log entry 9). -/
def Block.dirtyData (b : Block) : BitVec 512 × Block :=
  (List.range 8).foldl (fun x k =>
    let y := x.2.fresh 64
    (x.1 ||| BitVec.ofNat 512 (y.1 * 2 ^ (64 * k)), y.2)) (0, b)

/-! ### The directory (R337 to R340) -/

def Block.dirOf (b : Block) (line : Nat) : Option DirEnt := b.coh.dir.find? fun d => d.line = line

/-- The set of a line: its slice, and a set of the slice (the spec does not say which of the 512; log entry 13). -/
def dirSet (line : Nat) : Nat := line % 4 + 4 * (line / 4 % 512)

/-- Ways of a set in service (R337, R424). -/
def Block.dirWays (b : Block) (line : Nat) : Nat :=
  min 16 ((List.range 17).filter fun w => (b.wearOf 3 (line % 4 * 17 + w)).st < 2).length

/-- The way of a line's entry, or the lowest way in service that its set has free. -/
def Block.freeWay (b : Block) (line : Nat) : Nat :=
  match b.dirOf line with
  | some d => d.way
  | none => ((List.range 17).find? fun w => (b.wearOf 3 (line % 4 * 17 + w)).st < 2
      ∧ !(b.coh.dir.any fun d => dirSet d.line = dirSet line ∧ d.way = w)).getD 0

/-- A directory entry replaces that of its line, as the most recently used. -/
def Block.setDir (b : Block) (d : DirEnt) : Block :=
  b.ccMod fun c => { c with dir := { d with coarse := d.coarse || decide (4 < d.sharers.length) } :: c.dir.filter fun x => x.line ≠ d.line }

def Block.freeDir (b : Block) (line : Nat) : Block := b.ccMod fun c => { c with dir := c.dir.filter fun x => x.line ≠ line }

/-- An agent leaves an entry: without its Lead a line has none, and without holders it is free. -/
def Block.dropHolder (b : Block) (line a : Nat) : Block :=
  match b.dirOf line with
  | none => b
  | some d =>
    let l := d.sharers.filter (· ≠ a)
    if l.isEmpty then b.freeDir line
    else if d.lead = a ∧ d.st ≠ .s then b.setDir { d with sharers := l, st := .s }
    else b.setDir { d with sharers := l }

/-- The agents that a snoop of an entry reaches: its sharers, or every agent in the domain of their groups (R340). -/
def Block.holders (b : Block) (line : Nat) : List Nat :=
  match b.dirOf line with
  | none => []
  | some d =>
    if d.coarse then (List.range 512).filter fun a => b.inDomain a && d.sharers.any fun s => s / 8 = a / 8
    else d.sharers

def Block.lineOf (b : Block) (a line : Nat) : Option CLine := b.coh.caches.find? fun l => l.agent = a ∧ l.line = line
def Block.dropLine (b : Block) (a line : Nat) : Block :=
  b.ccMod fun c => { c with caches := c.caches.filter fun l => !(l.agent = a ∧ l.line = line) }
def Block.setLine (b : Block) (a line : Nat) (st : LineSt) (data : BitVec 512) : Block :=
  (b.dropLine a line).ccMod fun c => { c with caches := c.caches ++ [{ agent := a, line := line, st := st, data := data }] }

/-! ### Transactions -/

def Block.txn (b : Block) (line : Nat) : Option Txn := b.coh.txns.find? fun t => t.line = line
def Block.modTxn (b : Block) (line : Nat) (f : Txn → Txn) : Block :=
  b.ccMod fun c => { c with txns := mapIf (fun t => t.line = line) f c.txns }
def Block.ccSend (b : Block) (ms : List Msg) : Block := b.ccMod fun c => { c with msgs := c.msgs ++ ms }

/-- A message in flight taken: the oldest of a kind to or from an agent about a line. -/
def Block.msg? (b : Block) (k : MsgKind) (a line : Nat) : Option Msg :=
  b.coh.msgs.find? fun m => m.kind = k ∧ m.agent = a ∧ m.line = line
def Block.dropMsg (b : Block) (m : Msg) : Block := b.ccMod fun c => { c with msgs := c.msgs.erase m }

/-- A transaction that is done leaves its line. -/
def Block.ccEnd (b : Block) (line : Nat) : Block :=
  b.ccMod fun c => { c with txns := c.txns.filter fun t => !(t.line = line ∧ t.await.isEmpty ∧ t.out ∧ t.taken) }

/-- Whether a message is a read. -/
def MsgKind.reads (k : MsgKind) : Bool := k = .rdS ∨ k = .rdM ∨ k = .rdNa

/-- The home's answer once every snoop of a transaction is answered, and the directory after it (R345). A requester that has left the
domain since (`taken`) is sent nothing, and a read of it enters no directory entry (R335). -/
def Block.ccGrant (b : Block) (t : Txn) : Block :=
  let data := b.lineData t.line
  let sendData (b : Block) (g : Option LineSt) : Block :=
    b.ccSend [{ kind := .data, agent := t.agent, line := t.line, grant := g, data := data }]
  let sendCmp (b : Block) : Block := if t.taken then b else b.ccSend [{ kind := .cmp, agent := t.agent, line := t.line }]
  let b := if t.taken ∧ t.kind.reads then b else match t.kind with
    | .rdS => match b.dirOf t.line with
      | none => sendData (b.setDir { line := t.line, way := b.freeWay t.line, st := .e, lead := t.agent, sharers := [t.agent] }) (some .e)
      | some d => sendData (b.setDir { d with st := .l, lead := t.agent, sharers := dedup (d.sharers ++ [t.agent]) }) (some .l)
    | .rdM => sendData (b.setDir { line := t.line, way := b.freeWay t.line, st := .m, lead := t.agent, sharers := [t.agent] }) (some .m)
    | .rdNa => sendData b none
    | .wrT =>
      let b := b.putLine t.line t.data t.mask
      let keeps := ((b.dirOf t.line).map fun (d : DirEnt) => d.sharers.contains t.agent).getD false
      sendCmp (if keeps then b.setDir { line := t.line, way := b.freeWay t.line, st := .e, lead := t.agent, sharers := [t.agent] } else b.freeDir t.line)
    | .wrNc => sendCmp ((b.putLine t.line t.data t.mask).freeDir t.line)
    | .evict => sendCmp (b.dropHolder t.line t.agent)
    | .wb => sendCmp ((b.putLine t.line t.data wholeLine).freeDir t.line)
    | _ => b.freeDir t.line
  (b.modTxn t.line fun x => { x with out := true, taken := x.taken || decide (x.kind = MsgKind.snpBinv) }).ccEnd t.line

/-- An EVICT or WB of one of these agents that waits for its line crosses the snoop that is about to go out to them: it counts as the
answer (R346). -/
def Block.ccAbsorb (b : Block) (line : Nat) (agents : List Nat) : Block :=
  (b.coh.queue.filter fun m => m.line = line ∧ (m.kind = .evict ∨ m.kind = .wb) ∧ agents.contains m.agent).foldl (fun b m =>
    let b := b.ccMod fun c => { c with queue := c.queue.erase m }
    let b := if m.kind = .wb then b.putLine line m.data wholeLine else b
    (b.dropHolder line m.agent).ccSend [{ kind := .cmp, agent := m.agent, line := line, crossed := true }]) b

/-- The snoop and the agents that a request of `a` calls for (R345). -/
def Block.ccSnoops (b : Block) (k : MsgKind) (a line : Nat) : MsgKind × List Nat :=
  let others := (b.holders line).filter (· ≠ a)
  match k with
  | .rdS => match b.dirOf line with
    | some d => if d.st ≠ .s ∧ d.lead ≠ a then (.snpFwd, [d.lead]) else (.snpFwd, [])
    | none => (.snpFwd, [])
  | .rdNa => match b.dirOf line with
    | some d => if d.st = .m then (.snpWb, [d.lead]) else (.snpWb, [])
    | none => (.snpWb, [])
  | .rdM => (.snpInv, others)
  | .wrT => (.snpInv, others)
  | .wrNc => (.snpInv, b.holders line)
  | .snpBinv => (.snpBinv, b.holders line)
  | _ => (.snpInv, [])

/-- A request begins its transaction: its snoops go out, or its answer at once. -/
def Block.ccBegin (b : Block) (m : Msg) : Block :=
  let b := b.ccAbsorb m.line (b.ccSnoops m.kind m.agent m.line).2
  let sn := b.ccSnoops m.kind m.agent m.line
  let t : Txn := { line := m.line, kind := m.kind, agent := m.agent, data := m.data, mask := m.mask, await := sn.2 }
  let b := b.ccMod fun c => { c with txns := c.txns ++ [t] }
  if sn.2.isEmpty then b.ccGrant t
  else b.ccSend (sn.2.map fun a => { kind := sn.1, agent := a, line := m.line, req := m.agent })

/-- Whether a request needs a directory entry that its set has no room for. -/
def Block.needsWay (b : Block) (m : Msg) : Bool :=
  (m.kind = .rdS || m.kind = .rdM) && (b.dirOf m.line).isNone
    && decide (b.dirWays m.line ≤ (b.coh.dir.filter fun d => dirSet d.line = dirSet m.line).length)

/-- The least recently used entry of a set that has no transaction running (R339). -/
def Block.victim (b : Block) (line : Nat) : Option DirEnt :=
  (b.coh.dir.filter fun d => dirSet d.line = dirSet line ∧ (b.txn d.line).isNone).getLast?

/-- A move for a request that stands first for its line (R338, R339): it starts, or the entry that it needs is back-invalidated. -/
def Block.ccStart (b : Block) (m : Msg) : Option Block :=
  if !b.needsWay m then some ((b.ccMod fun c => { c with queue := c.queue.erase m }).ccBegin m)
  else if b.coh.txns.any fun t => t.kind = .snpBinv ∧ dirSet t.line = dirSet m.line then none
  else (b.victim m.line).map fun d => (b.count32 Reg.CC_BINV).ccBegin { kind := .snpBinv, agent := 512, line := d.line }

/-- One move of the home: requests to different lines proceed independently. -/
def Block.ccMove (b : Block) : Option Block :=
  (b.coh.queue.filter fun m => (b.coh.queue.find? fun x => x.line = m.line) = some m ∧ (b.txn m.line).isNone).findSome? b.ccStart

/-- Moves until none is left; `n` bounds them. -/
def Block.ccPump : Nat → Block → Block
  | 0, b => b
  | n + 1, b => match b.ccMove with
    | none => b
    | some b' => Block.ccPump n b'

def Block.ccGo (b : Block) : Block := Block.ccPump (2 * b.coh.queue.length + 2) b

/-- A request reaches its home (R338). -/
def Block.ccRequest (b : Block) (m : Msg) : Block := Block.ccGo (b.ccMod fun c => { c with queue := c.queue ++ [m] })

/-- The home takes an agent's answer to a snoop; one that is not awaited is discarded (R346). `fwd` is ACK_FWD. -/
def Block.ccAnswer (b : Block) (line a : Nat) (fwd : Bool) : Block :=
  match b.txn line with
  | none => b
  | some t =>
    if !t.await.contains a then b
    else
      let b := b.modTxn line fun t => { t with await := t.await.erase a }
      let b := if fwd then match b.dirOf line with
          | some d => b.setDir { d with st := .l, lead := t.agent, sharers := dedup (d.sharers ++ [t.agent]) }
          | none => b
        else if t.kind = .rdNa then b
        else b.dropHolder line a
      match b.txn line with
      | none => b
      | some t => Block.ccGo (if t.await.isEmpty ∧ !t.out then b.ccGrant t else b.ccEnd line)

/-- A DATA or CMP is taken by the agent it answers. -/
def Block.ccTaken (b : Block) (line a : Nat) : Block :=
  Block.ccGo ((b.modTxn line fun t => if t.agent = a then { t with taken := true } else t).ccEnd line)

/-- A line that a block agent which does not cache is about to reach, and that is held in M, is written back first (R345): RD_NA. -/
def Block.homeAsk (b : Block) (ps : List Phys) : Block :=
  ((b.coh.caches.filter fun l => l.st = .m ∧ ps.any (onLine l.line)).map (·.line)).foldl (fun b l =>
    if (b.coh.queue.any fun m => m.line = l) || (b.coh.txns.any fun t => t.line = l) then b
    else b.ccRequest { kind := .rdNa, agent := 513, line := l }) b

/-- An access of `n` bytes at `va` that goes through the home (R333): `go` once nothing of its lines runs there. -/
def Block.viaHome (b : Block) (ctx va n : Nat) (go : Block) : Block :=
  match b.resolveN ctx 0 true va n with
  | .ok ps => if b.homeHolds ps then b.homeAsk ps else go
  | _ => go

/-- An agent leaves the domain (R335, R407): its lines are invalidated, the snoops to it answered, and its reads dropped; with `lose` its
write buffer goes too (R352). -/
def Block.leaveDomain (b : Block) (a : Nat) (lose : Bool) : Block :=
  let mine := (b.coh.caches.filter (·.agent = a)).map (·.line)
  let b := b.ccMod fun c => { c with caches := c.caches.filter (·.agent ≠ a) }
  let b := mine.foldl (fun b l => b.dropHolder l a) b
  let waits := (b.coh.txns.filter fun t => t.await.contains a).map (·.line)
  let b := b.ccMod fun c => { c with msgs := c.msgs.filter fun m =>
      !(m.agent = a ∧ (m.kind = .snpFwd ∨ m.kind = .snpInv ∨ m.kind = .snpBinv ∨ m.kind = .snpWb)) }
  let b := waits.foldl (fun b l => b.ccAnswer l a false) b
  let mine (k : MsgKind) : Bool := lose || k.reads
  let gone := b.coh.txns.filter fun t => t.agent = a ∧ mine t.kind
  let b := gone.foldl (fun b t => if t.kind.reads ∧ t.out then b.dropHolder t.line a else b) b
  let b := b.ccMod fun c => { c with
    queue := c.queue.filter fun m => !(m.agent = a ∧ mine m.kind)
    wbuf := c.wbuf.filter fun w => !(lose ∧ w.agent = a)
    msgs := c.msgs.filter fun m => !(m.agent = a ∧ (m.kind = .data ∨ (lose ∧ m.kind = .cmp))) }
  gone.foldl (fun b t => b.ccTaken t.line a) b

/-! ### The fall of the domain -/

/-- RECFMT of the image in a core's store (R488). -/
def Block.recFmt (b : Block) (k : Nat) : Nat := bits (b.word48 k 0x3FFF) 15 8

/-- The spare that takes over from core `k` (R492): the lowest-numbered one whose store is VERIFIED with the same RECFMT. -/
def Block.takerOf (b : Block) (k : Nat) : Option Nat :=
  (List.range 3).find? fun c => c ≠ k ∧ (b.wearOf 0 c).st = 3 ∧ b.mc.verified.contains c ∧ b.recFmt c = b.recFmt k

def Block.mcMod (b : Block) (f : Microcode → Microcode) : Block := { b with mc := f b.mc }

/-- Core `c` becomes the active core at microaddress 0, with its stamp at RC_EPOCH (R480, R493). -/
def Block.startCore (b : Block) (c : Nat) : Block :=
  ((b.mcMod fun m => { m with active := c }).setMcore c {}).setStamp c (b.reg Reg.RC_EPOCH)

/-- No Lamplighter core can take over (R424, R477, R492). -/
def Block.noSpareLeft (b : Block) : Block :=
  let b := (b.mcMod fun m => { m with noSpare := true }).event pgLl 8
  if b.st = .ready ∨ b.st = .run then ({ b with st := .fault }).event pgGlb 8 0 5 else b

/-- A failed Lamplighter core is retired, and a spare takes over from the active one (R424, R487, R492). -/
def Block.takeOver (b : Block) (k : Nat) : Block :=
  let next := b.takerOf k
  let b := (b.retireInst 0 k).setMcore k { b.mcore k with failed := true }
  if k ≠ b.mc.active then b
  else match next with
    | some c => (b.enterSpare 0 c).startCore c
    | none => b.noSpareLeft

/-- A cause brings the domain down (R348, R350 steps 1 and 2), or restarts its rebuild (R352). -/
def Block.ccDown (b : Block) (cause agent : Nat) : Block :=
  let again := b.down
  let b := b.setReg Reg.CC_STS (cause * 2 ^ 24 + agent % 512 * 2 ^ 9 + 1)
  let b := b.ccMod fun c => { c with
    dir := [], caches := [], msgs := [], txns := [], queue := [], fenced := [], phase := .rollCall, phaseCycles := 0
    downCycles := if again then c.downCycles else 0
    restarts := if again then c.restarts + 1 else 0 }
  -- A cause during a handover abandons it (R494).
  match b.mc.busy with
  | .handover _ => ({ b with mc := { b.mc with busy := .idle } }).setReg Reg.MC_STS (5 * 2 ^ 24 + 2)
  | _ => b

/-- Whether the domain works: the block is past OFF. -/
def Block.ccLive (b : Block) : Bool := !(b.st = .power || b.st = .off)

/-! ### Rows of requests -/

/-- A row of the domain that acts while it is up. -/
def State.cc (s : State) (f : Block → Block) : Host.Outcome State Fault Refusal :=
  s.core fun b => if b.ccLive ∧ !b.down then f b else b

/-- Whether an agent has a request for a line under way. -/
def Block.asking (b : Block) (a line : Nat) : Bool :=
  (b.coh.queue.any fun m => m.agent = a ∧ m.line = line) || (b.coh.txns.any fun t => t.agent = a ∧ t.line = line)

/-- Whether an agent sends a request: it is in the domain, or one that does not cache. -/
def Block.mayAsk (b : Block) (a : Nat) : Bool := decide (512 ≤ a) || b.inDomain a

/-- Lines that the cache of an agent holds (R332). -/
def cacheLines (a : Nat) : Nat := if a < 3 then 1024 else if a = 3 then 8192 else if a = 4 then 512 else 256

/-- Whether the cache of an agent has room for one more line, those that it awaits counted: a full cache evicts a line first. -/
def Block.cacheRoom (b : Block) (a : Nat) : Bool :=
  decide ((b.coh.caches.filter (·.agent = a)).length + (b.coh.queue.filter fun m => m.agent = a ∧ m.kind.reads).length
    + (b.coh.txns.filter fun t => t.agent = a ∧ t.kind.reads).length < cacheLines a)

/-- RD_S (R342, R345): sent by an agent that does not hold the line. -/
def execRdS (agent line : Nat) (s : State) : Host.Outcome State Fault Refusal :=
  s.cc fun b =>
    if !b.inDomain agent ∨ (b.lineOf agent line).isSome ∨ b.asking agent line ∨ !b.cacheRoom agent then b
    else if b.isScratch line ∧ 3 ≤ agent then b.ccDown 3 agent
    else b.ccRequest { kind := .rdS, agent := agent, line := line }

/-- RD_M (R342, R345): of a scratch line by a Lamplighter core; any other one is a protocol violation. -/
def execRdM (agent line : Nat) (s : State) : Host.Outcome State Fault Refusal :=
  s.cc fun b =>
    if !b.inDomain agent ∨ b.asking agent line ∨ (b.lineOf agent line).map (·.st) = some .m
      ∨ ((b.lineOf agent line).isNone ∧ !b.cacheRoom agent) then b
    else if !b.isScratch line ∨ 3 ≤ agent then b.ccDown 3 agent
    else (b.dropLine agent line).ccRequest { kind := .rdM, agent := agent, line := line }

/-- RD_NA (R333, R345). -/
def execRdNa (agent line : Nat) (s : State) : Host.Outcome State Fault Refusal :=
  s.cc fun b =>
    if !b.mayAsk agent ∨ b.asking agent line then b else b.ccRequest { kind := .rdNa, agent := agent, line := line }

/-- A write enters its agent's buffer (R343), and goes to the home while the domain is up. -/
def Block.ccWrite (b : Block) (agent line : Nat) (nc : Bool) (data : BitVec 512) (mask : BitVec 64) : Block :=
  let b := b.ccMod fun c => { c with wbuf := c.wbuf ++ [{ agent := agent, line := line, nc := nc, data := data, mask := mask }] }
  if b.down then b else b.ccRequest { kind := if nc then .wrNc else .wrT, agent := agent, line := line, data := data, mask := mask }

/-- A Lamplighter core's write-through of a persistent line outside the journal: a record line. -/
def Block.isRecord (b : Block) (agent line : Nat) : Bool := decide (agent < 3) && !b.isJournal line && !b.isScratch line

/-- The bytes of a line as a write leaves them. -/
def mergeLine (old data : BitVec 512) (mask : BitVec 64) : BitVec 512 :=
  BitVec.ofNat 512 ((List.range 64).foldl (fun n k =>
    n + (if mask.getLsbD k then data.toNat else old.toNat) / 2 ^ (8 * k) % 256 * 2 ^ (8 * k)) 0)

/-- A record line that is written through joins the last journal entry, whose full new value of it replaces an earlier one (R351). -/
def Block.noteRecord (b : Block) (line : Nat) (data : BitVec 512) (mask : BitVec 64) : Block :=
  match b.coh.entries.getLast? with
  | none => b
  | some e =>
    let old := ((e.recs.find? (·.1 = line)).map (·.2.1)).getD (b.lineData line)
    let e' := { e with recs := (e.recs.filter (·.1 ≠ line)) ++ [(line, mergeLine old data mask, false)] }
    b.ccMod fun c => { c with entries := c.entries.dropLast ++ [e'] }

/-- WR_T (R341, R351): a journal entry waits while the journal holds its limit beyond the checkpoint, and a record line until the entry
before it is written through. -/
def execWrT (agent line : Nat) (data : BitVec 512) (mask : BitVec 64) (s : State) : Host.Outcome State Fault Refusal :=
  s.core fun b =>
    if !b.ccLive ∨ !b.inDomain agent ∨ b.asking agent line ∨ 512 ≤ agent then b
    else if agent < 3 ∧ b.isJournal line ∧ b.coh.checkpoint + 16384 ≤ b.coh.journal then b
    else if b.isRecord agent line ∧ b.coh.wbuf.any fun w => w.agent < 3 ∧ b.isJournal w.line then b
    else (if b.isRecord agent line then b.noteRecord line data mask else b).ccWrite agent line false data mask

/-- WR_NC (R347). -/
def execWrNc (agent line : Nat) (data : BitVec 512) (mask : BitVec 64) (s : State) : Host.Outcome State Fault Refusal :=
  s.core fun b => if !b.ccLive ∨ !b.mayAsk agent ∨ b.asking agent line then b else b.ccWrite agent line true data mask

/-- Whether a snoop of a line is on its way to an agent, which has not answered it. -/
def Block.snooped (b : Block) (a line : Nat) : Bool :=
  b.coh.msgs.any fun m => m.agent = a ∧ m.line = line ∧ (m.kind = .snpFwd ∨ m.kind = .snpInv ∨ m.kind = .snpBinv ∨ m.kind = .snpWb)

/-- An eviction leaves its agent in I; it answers a snoop that it crosses (R346), one that the agent has not answered yet. -/
def Block.ccEvict (b : Block) (m : Msg) : Block :=
  let b := b.dropLine m.agent m.line
  match b.txn m.line with
  | some t =>
    if t.await.contains m.agent ∧ b.snooped m.agent m.line then
      let b := b.dropHolder m.line m.agent
      let b := if m.kind = .wb then b.putLine m.line m.data wholeLine else b
      let b := b.ccSend [{ kind := .cmp, agent := m.agent, line := m.line, crossed := true }]
      (b.ccAnswer m.line m.agent false)
    else b.ccRequest m
  | none => b.ccRequest m

/-- EVICT (R345): of a line held clean. -/
def execEvict (agent line : Nat) (s : State) : Host.Outcome State Fault Refusal :=
  s.cc fun b => match b.lineOf agent line with
    | some l => if l.st = .m ∨ b.asking agent line then b else b.ccEvict { kind := .evict, agent := agent, line := line }
    | none => b

/-- WB (R345): of a line held in M, with its data. -/
def execWb (agent line : Nat) (data : BitVec 512) (s : State) : Host.Outcome State Fault Refusal :=
  s.cc fun b => match b.lineOf agent line with
    | some l => if l.st = .m ∧ !b.asking agent line then b.ccEvict { kind := .wb, agent := agent, line := line, data := data } else b
    | none => b

/-! ### Rows of snoops -/

/-- An M holder's line goes to memory. -/
def Block.ccSpill (b : Block) (line : Nat) : Block :=
  let d := b.dirtyData
  d.2.putLine line d.1 wholeLine

/-- A snoop of a kind reaches an agent: `f` answers it. A snoop of a reserved agent ID is a protocol violation. -/
def Block.ccSnoop (b : Block) (k : MsgKind) (agent line : Nat) (f : Msg → Block → Block) : Block :=
  if 5 ≤ agent ∧ agent < 8 then b.ccDown 3 agent
  else match b.msg? k agent line with
    | none => b
    | some m => f m (b.dropMsg m)

/-- SNP_FWD (R345). -/
def execSnpFwd (agent line : Nat) (s : State) : Host.Outcome State Fault Refusal :=
  s.cc fun b => b.ccSnoop .snpFwd agent line fun m b => match b.lineOf agent line with
    | none => b.ccSend [{ kind := .ackInv, agent := agent, line := line }]
    | some l =>
      if l.st = .s then b.ccDown 3 agent
      else
        let b := if l.st = .m then b.ccSpill line else b
        let data := b.lineData line
        let b := b.setLine agent line .s data
        let b := b.modTxn line fun t => { t with out := true }
        b.ccSend [{ kind := .data, agent := m.req, line := line, grant := some .l, data := data },
          { kind := .ackFwd, agent := agent, line := line }]

/-- The answer to an invalidation. -/
def Block.ccInvalidate (b : Block) (agent line : Nat) : Block :=
  let b := if (b.lineOf agent line).map (·.st) = some .m then b.ccSpill line else b
  (b.dropLine agent line).ccSend [{ kind := .ackInv, agent := agent, line := line }]

/-- SNP_INV (R345). -/
def execSnpInv (agent line : Nat) (s : State) : Host.Outcome State Fault Refusal :=
  s.cc fun b => b.ccSnoop .snpInv agent line fun _ b => b.ccInvalidate agent line

/-- SNP_BINV (R339, R345). -/
def execSnpBinv (agent line : Nat) (s : State) : Host.Outcome State Fault Refusal :=
  s.cc fun b => b.ccSnoop .snpBinv agent line fun _ b => b.ccInvalidate agent line

/-- SNP_WB (R345): the line goes to memory and stays in E; its data is the answer. -/
def execSnpWb (agent line : Nat) (s : State) : Host.Outcome State Fault Refusal :=
  s.cc fun b => b.ccSnoop .snpWb agent line fun _ b =>
    let b := if (b.lineOf agent line).map (·.st) = some .m then
        let b := b.ccSpill line
        let b := b.setLine agent line .e (b.lineData line)
        b.setDir { line := line, way := b.freeWay line, st := .e, lead := agent, sharers := [agent] }
      else b
    b.ccAnswer line agent false

/-! ### Rows of answers -/

/-- An answer on its way to the home is taken. -/
def Block.ccReply (b : Block) (k : MsgKind) (agent line : Nat) : Block :=
  match b.msg? k agent line with
  | none => b
  | some m => (b.dropMsg m).ccAnswer line agent (k = .ackFwd)

/-- ACK_INV (R345). -/
def execAckInv (agent line : Nat) (s : State) : Host.Outcome State Fault Refusal := s.cc fun b => b.ccReply .ackInv agent line

/-- ACK_FWD (R345). -/
def execAckFwd (agent line : Nat) (s : State) : Host.Outcome State Fault Refusal := s.cc fun b => b.ccReply .ackFwd agent line

/-- Entries that the checkpoint passes: those whose record writes have all received CMP (R351); one without any is passed once another
follows it. `n` bounds them. -/
def passEntries : Nat → List JEntry → List JEntry
  | 0, l => l
  | _ + 1, [] => []
  | n + 1, e :: t => if e.recs.all (·.2.2) ∧ (!e.recs.isEmpty ∨ !t.isEmpty) then passEntries n t else e :: t

/-- A write of a Lamplighter core has received CMP (R351): a journal line is an entry, with the next sequence number (log entry 78); a
record line is done; and the checkpoint advances. -/
def Block.ccJournal (b : Block) (agent line : Nat) : Block :=
  if 3 ≤ agent then b
  else if b.isJournal line then b.ccMod fun c => { c with
    journal := c.journal + 1, entries := c.entries ++ [{ seq := c.journal + 1 }] }
  else
    let es := b.coh.entries.map fun (e : JEntry) => { e with recs := e.recs.map fun r => if r.1 = line then (r.1, r.2.1, true) else r }
    let left := passEntries es.length es
    b.ccMod fun c => { c with
      entries := left
      checkpoint := match left with
        | [] => c.journal
        | e :: _ => e.seq - 1 }

/-- CMP (R341, R343): a write leaves its buffer; a writer that held the line holds it in E. One with no request outstanding is a
protocol violation. -/
def execCmp (agent line : Nat) (s : State) : Host.Outcome State Fault Refusal :=
  s.cc fun b => match b.msg? .cmp agent line with
    | none => b.ccDown 3 agent
    | some m =>
      let b := b.dropMsg m
      if m.crossed then b
      else
        let write := ((b.txn line).map fun (t : Txn) => decide (t.kind = MsgKind.wrT ∨ t.kind = MsgKind.wrNc)).getD false
        let b := if write then
            let b := match b.coh.wbuf.find? fun w => w.agent = agent ∧ w.line = line with
              | some w => b.ccMod fun c => { c with wbuf := c.wbuf.erase w }
              | none => b
            let b := if (b.lineOf agent line).isSome then b.setLine agent line .e (b.lineData line) else b
            b.ccJournal agent line
          else b
        b.ccTaken line agent

/-- DATA (R345): the agent enters the granted state. -/
def execData (agent line : Nat) (s : State) : Host.Outcome State Fault Refusal :=
  s.cc fun b => match b.msg? .data agent line with
    | none => b.ccDown 3 agent
    | some m =>
      let b := b.dropMsg m
      let b := match m.grant with
        | some g => b.setLine agent line g m.data
        | none => b
      b.ccTaken line agent

/-! ### Rows of failures -/

/-- SNOOP_TIMEOUT (R348): a snoop of the line has been left unanswered for CC_SNP_TIMEOUT. -/
def execSnoopTimeout (line : Nat) (s : State) : Host.Outcome State Fault Refusal :=
  s.cc fun b => match b.txn line with
    | some t => match t.await with
      | a :: _ => if b.field Reg.CC_SNP_TIMEOUT 15 0 * Config.cyclesUs ≤ t.age then b.ccDown 4 a else b
      | [] => b
    | none => b

/-- What a storage error of cause 1 costs (R348, R350, R424): the directory way `way` is retired and its slice's spare way serves;
68 and above name storage that is no directory way. -/
def Block.ccStorage (b : Block) (way : Nat) : Block :=
  if way < 68 then
    let b := (b.storageUe 3 way).retireInst 3 way
    match (b.sparesOf 3 way).head? with
    | some k => b.enterSpare 3 k
    | none => b
  else b.plainUe pgCc

/-- COHERENCE_DOWN (R348, R350): a storage error, a message error, a protocol violation, or the failure of a Lamplighter core. -/
def execCoherenceDown (cause agent way : Nat) (s : State) : Host.Outcome State Fault Refusal :=
  s.core fun b =>
    if !b.ccLive ∨ cause = 0 ∨ 5 < cause then b
    else
      let b := if cause = 1 then b.ccStorage way else b
      let b := b.ccDown cause agent
      if cause = 5 ∧ agent < 3 then (b.storageUe 0 agent).takeOver agent else b

end Sys2Proof.Machine
end

