-- ==== Sys2Proof/Machine/Lamplighter.lean ====
section
/-!
DEFINITION. The Lamplighter's rows: one decision (R144 to R150, R186, R349, R478, R493) and the end of an occupancy window
(R185, R186).
-/
namespace Sys2Proof.Machine

/-! ### The wait list of a harness (R170) -/

/-- Where a launch stands in a wait list: RT by deadline and queue number, then KQ, then UQ. -/
def Block.placeKey (b : Block) (c : Cmd) : Nat :=
  match (b.queue c.q).cls with
  | 2 => (c.deadline.getD max64) * 4096 + c.q
  | 0 => 2 ^ 80
  | _ => 2 ^ 81

/-- A launch enters the wait list of its harness. -/
def Block.enterPlacing (b : Block) (c : Cmd) : Block :=
  match (b.queue c.q).harness with
  | none => b
  | some h =>
    let key (x : Nat × Nat) : Nat := match b.cmd? x.1 x.2 with
      | some y => b.placeKey y
      | none => 2 ^ 81
    let x := b.harness h
    (b.setHarness h { x with waiting := insertBy key (c.q, c.i) x.waiting }).modCmd c.q c.i fun c => { c with phase := .placing }

/-! ### One decision -/

/-- The eligible commands of the queues of a class. -/
def Block.eligibleOf (b : Block) (cls : Nat) : List Cmd := b.cmds.filter fun c => decide ((b.queue c.q).cls = cls) && b.eligible c

/-- The next queue of a class in round-robin order after queue `last` (R149), among those of `es`. -/
def nextRr (last : Nat) (es : List Cmd) : Option Nat :=
  let qs := sortBy id (dedup (es.map (·.q)))
  match qs.find? (last < ·) with
  | some q => some q
  | none => qs.head?

/-- The oldest eligible command of a queue. -/
def oldest (es : List Cmd) (q : Nat) : Option Cmd := es.find? (·.q = q)

/-- The eligible RT command with the earliest deadline, then the lower queue number (R148 row 3), among the oldest eligible command of
each queue, since one queue is served in ring order (R146). -/
def earliest (es : List Cmd) : Option Cmd :=
  (sortBy (fun c => (c.deadline.getD max64) * 4096 + c.q) ((dedup (es.map (·.q))).filterMap (oldest es))).head?

/-- What R148 chooses: the row of the table and the command. -/
def Block.pick (b : Block) : Option (Nat × Cmd) :=
  let rt := b.eligibleOf 2
  let kq := b.eligibleOf 0
  let uq := b.eligibleOf 1
  let uqNext := (nextRr b.ll.lastUq uq).bind (oldest uq)
  let kqNext := (nextRr b.ll.lastKq kq).bind (oldest kq)
  if !uq.isEmpty ∧ b.ll.nhi = 15 then uqNext.map ((1, ·))
  else if (!kq.isEmpty ∨ !uq.isEmpty) ∧ b.ll.nrt = 15 then (if kq.isEmpty then uqNext.map ((2, ·)) else kqNext.map ((2, ·)))
  else if !rt.isEmpty then (earliest rt).map ((3, ·))
  else if !kq.isEmpty then kqNext.map ((4, ·))
  else uqNext.map ((5, ·))

/-- n_rt and n_hi return to 0 where nothing they favour is eligible (R150). -/
def Block.calm (b : Block) : Block :=
  let kq := !(b.eligibleOf 0).isEmpty
  let uq := !(b.eligibleOf 1).isEmpty
  { b with ll := { b.ll with
      nrt := if kq ∨ uq then b.ll.nrt else 0
      nhi := if uq then b.ll.nhi else 0 } }

/-- n_rt, n_hi and the round-robin places after a decision for a queue of class `cls` (R148 to R150), and its busy cycles: 45, and those of
a background slice that the decision waited for, a free value (R185; log entry 108). -/
def Block.countDecision (b : Block) (cls q : Nat) : Block :=
  let kq := !(b.eligibleOf 0).isEmpty
  let uq := !(b.eligibleOf 1).isEmpty
  let l := b.ll
  let l := match cls with
    | 2 => { l with nrt := if kq ∨ uq then l.nrt + 1 else 0, nhi := if uq then l.nhi + 1 else 0 }
    | 0 => { l with nrt := 0, nhi := if uq then l.nhi + 1 else 0, lastKq := q }
    | _ => { l with nrt := 0, nhi := 0, lastUq := q }
  let r := b.fresh 16
  { r.2 with ll := { l with busy := l.busy + 45 + r.1 } }

/-- A DECISION record (R434, R435). -/
def Block.traceDecision (b : Block) (c : Cmd) (batch : Bool) : Block :=
  let x := b.queue c.q
  let w2 := c.opcode * 2 ^ 56 + x.cls * 2 ^ 54 + ofBit batch * 2 ^ 53 + c.q * 2 ^ 32 + x.harness.getD 0
  b.traceAll (fun _ t => t.decision) c.ctx
    (traceRec (b.traceWord0 0x04 c.ctx c.qidx c.i) b.ns w2 (if x.cls = 2 then c.deadline.getD 0 else 0))

/-- A command is dispatched to the unit that runs it (R144); a command other than a launch starts now (R442). -/
def Block.dispatch (b : Block) (c : Cmd) : Block :=
  let launch := decide (c.needsPlace ∧ c.opcode ≤ 0x12)
  let b := b.modCmd c.q c.i fun c => { c with phase := .decided, started := !launch, budget := 0 }
  if launch then b else b.profStart c (c.opcode * 2 ^ 56)

/-- Whether a command is a launch that coalesced dispatch takes (R186). -/
def Cmd.coalesces (c : Cmd) : Bool := c.opcode = 0x10 ∨ c.opcode = 0x11

/-- The batch of a coalesced decision (R186): from the chosen queue in round-robin order, up to 16 UQ queues of the same
harness whose oldest eligible command is a launch. -/
def Block.batch (b : Block) (c : Cmd) : List Cmd :=
  let uq := b.eligibleOf 1
  let h := (b.queue c.q).harness
  let qs := sortBy id (dedup (uq.map (·.q)))
  let order := qs.filter (c.q ≤ ·) ++ qs.filter (· < c.q)
  ((order.filterMap (oldest uq)).filter fun x => x.coalesces ∧ (b.queue x.q).harness = h).take 16

/-- The block takes decisions: READY or RUN, no global dispatch pause (R349, R478, R493). -/
def Block.decides (b : Block) : Bool :=
  (decide (b.st = .ready) || decide (b.st = .run)) && !b.down && (match b.mc.busy with
    | .handover _ => false
    | _ => true)

/-- One decision (R148). -/
def Block.takeDecision (b : Block) : Block :=
  match b.pick with
  | none => b
  | some (row, c) =>
    let cls := (b.queue c.q).cls
    let hot := bit (b.reg Reg.LL_OCCUPANCY) 31
    if hot ∧ (row = 1 ∨ row = 5) ∧ c.coalesces then
      let l := b.batch c
      let b := l.foldl (fun b x => if x.empty then b.dispatch x else (b.dispatch x).enterPlacing x) b
      let b := b.count64 Reg.LL_DECISIONS_LO 1
      (b.countDecision 1 ((l.getLast?.map (·.q)).getD c.q)).traceDecision c true
    else
      let b := b.dispatch c
      let b := b.count64 Reg.LL_DECISIONS_LO 1
      (b.countDecision cls c.q).traceDecision c false

/-- LAMPLIGHTER_DECISION (R148). -/
def execLamplighterDecision (s : State) : Host.Outcome State Fault Refusal :=
  s.core fun b => if b.decides then b.calm.takeDecision else b

/-! ### Occupancy -/

/-- OCC and HOT at the end of a window (R185, R186). -/
def Block.windowEnd (b : Block) : Block :=
  let occ := min 1024 (b.ll.busy / 64)
  let hot := b.reg Reg.LL_HOT
  let cool := b.reg Reg.LL_COOL
  let was := bit (b.reg Reg.LL_OCCUPANCY) 31
  let now := if was then !(decide (occ < (if hot ≤ cool then hot else cool))) else decide (hot ≤ occ)
  let b := b.setReg Reg.LL_OCCUPANCY (ofBit now * 2 ^ 31 + occ)
  { b with ll := { b.ll with busy := 0, winCycles := 0 } }

/-- OCCUPANCY_WINDOW_END (R185): once 65,536 cycles of the window have passed. -/
def execOccupancyWindowEnd (s : State) : Host.Outcome State Fault Refusal :=
  s.core fun b => if Config.windowCycles ≤ b.ll.winCycles then b.windowEnd else b

end Sys2Proof.Machine
end

