-- ==== Sys2Proof/Machine/Hal.lean ====
section
/-!
DEFINITION. HAL and the power interface: placement order (R168), the wait list and placement (R169 to R171, R173, R177, R217,
R303, R304, R423), grow and shrink (R59, R60, R172 to R175), lighting and paced wakes (R34, R187, R189, R523), and their
rows.
-/
namespace Sys2Proof.Machine

/-! ### Engines of harnesses -/

/-- The number that decides an engine's place: its own, or that of the engine it replaces (R168). -/
def Block.engPos (b : Block) (e : Nat) : Nat :=
  let p := (b.eng e).pos
  if p = 0 then e else p - 1

/-- The near stack of an engine's place. -/
def Block.posStack (b : Block) (e : Nat) : Nat := b.nearStack (b.engPos e)

/-- Engines of a kind in placement order (R168): units of home stacks ahead of all others. -/
def Block.placeOrder (b : Block) (home : Nat) (es : List Nat) : List Nat :=
  sortBy (fun e => (if e < unitBase ∨ bit home (b.posStack e) then 0 else 2 ^ 20) + b.engPos e) es

/-- Engines of a kind that no harness holds and that HAL may assign (R172). -/
def Block.spareEngs (b : Block) (cores : Bool) : List Nat :=
  (if cores then b.coresIn else b.unitsIn).filter fun e => (b.eng e).harness.isNone && !(b.eng e).retiring

/-- Engines of a kind held by RT harnesses (R174). -/
def Block.rtHeld (b : Block) (cores : Bool) : Nat :=
  sumBy (fun h => let x := b.harness h
    if x.rt ∧ x.st ≠ .free then (if cores then x.cores.length else x.units.length) else 0) (List.range 64)

/-- Engines of a harness that are bound to tasks. -/
def Block.isBound (b : Block) (e : Nat) : Bool := match (b.eng e).use with
  | .task _ _ => true
  | _ => false

/-- Whether an L1 order still runs on an engine (R407). -/
def Block.resetting (b : Block) (e : Nat) : Bool := match b.order with
  | some o => decide (o.level = 1) && decide (ofEngCode o.target = e)
  | none => false

/-- An engine takes work: it is lit, holds nothing, and neither drains, is reset, leaves service nor waits at a step boundary (R33). -/
def Block.canPlace (b : Block) (e : Nat) : Bool :=
  let x := b.eng e
  decide (x.use = .free) && x.lit && !x.draining && !x.retiring && !b.resetting e && !b.heldStep e

/-! ### Lighting and wakes -/

/-- Groups of engines to be lit, in the order of R187, after those that wait. -/
def Block.lightEngs (b : Block) (es : List Nat) : Block :=
  let es := sortBy id (es.filter fun e => !(b.eng e).lit)
  let n := max 1 (b.field Reg.LIGHT_CTL 31 16)
  let gs : List PGroup := (List.range (ceilDiv es.length n)).map fun k => { engs := (es.drop (k * n)).take n, asked := b.zclk }
  { b with groups := b.groups ++ gs }

/-- ZCLK cycles between the starts of groups of a kind. -/
def Block.groupGap (b : Block) (wake : Bool) : Nat := ceilDiv (b.field (if wake then Reg.WAKE_CTL else Reg.LIGHT_CTL) 15 0 * 9) 5

/-- The interval since the previous group of its kind has passed. -/
def Block.groupDue (b : Block) (wake : Bool) : Bool :=
  let t := if wake then b.lastWake else b.lastLight
  t = 0 ∨ t - 1 + b.groupGap wake ≤ b.zclk

/-- HARNESS_GROW commands whose engines are all lit end OK (R109). -/
def Block.settleGrow (b : Block) : Block :=
  (b.cmds.filter fun c => c.opcode = 0x8A ∧ c.phase = .running ∧ c.left.all fun x => (b.eng x.1).lit).foldl
    (fun b c => b.endCmd c.q c.i 0) b

/-- The head group starts (R187, R189, R523): its engines are lit, or have their clocks back and are scrubbed where they are stale
(R423); the next group asks for its grant. -/
def Block.startGroup (b : Block) : Block :=
  match b.groups with
  | [] => b
  | g :: t =>
    let t := modAt (fun (x : PGroup) => { x with asked := b.zclk }) 0 t
    let b : Block := { b with groups := t }
    if g.wake then
      let b := { b with lastWake := b.zclk + 1 }.count32 Reg.PW_WAKE_GROUPS
      g.engs.foldl (fun b e => b.setEng e { (b.eng e).scrub (b.reg Reg.RC_EPOCH) with gated := false, waking := false }) b
    else
      let b := { b with lastLight := b.zclk + 1 }
      (g.engs.foldl (fun b e => b.setEng e { b.eng e with lit := true }) b).settleGrow

/-- The head group starts once it has its grant and its interval has passed; `wake` says which kind the row starts. -/
def Block.tryGroup (b : Block) (wake : Bool) : Block :=
  match b.groups with
  | [] => b
  | g :: _ => if g.wake = wake ∧ g.granted ∧ b.groupDue wake then b.startGroup else b

/-- A power grant for the head group (R34, R518, R523). -/
def Block.grant (b : Block) : Block :=
  match b.groups with
  | [] => b
  | g :: t =>
    if g.granted then b
    else
      let b := { b with groups := { g with granted := true } :: t }.count32 Reg.PW_GRANTS
      let ns := min (2 ^ 32 - 1) ((b.zclk - g.asked) * 5 / 9)
      let b := b.setReg Reg.PW_GRANT_MAX (max (b.reg Reg.PW_GRANT_MAX) ns)
      b.tryGroup g.wake

/-- Every engine of every ACTIVE harness is lit on entry to RUN (R482). -/
def Block.lightAll (b : Block) : Block :=
  b.lightEngs ((List.range 64).flatMap fun h =>
    let x := b.harness h
    if x.st = .active then x.cores ++ x.units else [])

/-! ### Placement -/

/-- The engines that a COPY or FILL names, by space and place (R112, R304); none where the harness no longer has one. -/
def Block.namedEngs (b : Block) (c : Cmd) : Option (List Nat) :=
  let at_ (s n : Nat) : Option (List Nat) :=
    if s = 0 then some [] else ((b.spaceEngs c.q s)[n]?).map fun e => [e]
  match c.op with
  | .copy _ _ _ s d se de => match at_ s se, at_ d de with
    | some x, some y => some (dedup (x ++ y))
    | _, _ => none
  | .fill _ _ _ _ d de => at_ d de
  | _ => some []

/-- What a waiting command meets when it reaches placement (R113, R171, R173). -/
def Block.placeStatus (b : Block) (h : Nat) (c : Cmd) : Option Nat :=
  match c.launch? with
  | some l =>
    let x := b.harness h
    if x.cores.length < l.cores ∨ x.units.length < l.units then some 0x12
    else if (x.cores.filter fun e => !b.isBound e).length < l.cores ∨ (x.units.filter fun e => !b.isBound e).length < l.units then
      some 0x14
    else none
  | none => if (b.namedEngs c).isSome then none else some 0x12

/-- The engines that a waiting command takes now (R169, R304), if it fits. -/
def Block.choose (b : Block) (h : Nat) (c : Cmd) : Option (List Nat) :=
  match c.launch? with
  | some l =>
    let x := b.harness h
    let cs := (x.cores.filter b.canPlace).take l.cores
    let us := (x.units.filter b.canPlace).take l.units
    if cs.length = l.cores ∧ us.length = l.units then some (cs ++ us) else none
  | none => match b.namedEngs c with
    | some es => if es.all b.canPlace then some es else none
    | none => none

/-- Whether an engine clears its spaces before work of a context (R303). -/
def Block.mustClear (b : Block) (e ctx : Nat) : Bool :=
  let x := b.eng e
  x.needClear || (match x.lastCtx with
    | some c => c ≠ ctx
    | none => false)

/-- Engines taken for a command: a stale one is scrubbed (R423), and those of R303 start to clear. -/
def Block.reserve (b : Block) (c : Cmd) (es : List Nat) : Block :=
  let b := es.foldl (fun b e =>
    b.setEng e { (b.eng e).scrub (b.reg Reg.RC_EPOCH) with use := .cmd c.q c.i, inv := 0, args := [], clearing := b.mustClear e c.ctx }) b
  ((b.dropPlacing c.q c.i).modCmd c.q c.i fun c => { c with engs := es })

/-- An argument record is loaded, or a migration of its page started (R203, R275). Poison costs the context (R418), and so does a range
that registers invalidated (R42). -/
def Block.loadArgs (b : Block) (e : Nat) : Block :=
  let r := b.argRecord e
  match b.argBytes e with
  | .ok bs => (b.setArgs e bs).fillTlb e r.1 r.2.1
  | .poison a x => (b.notePoison r.1 a x).endWork e 0x40 true
  | .bad st => b.endWork e st (b.deadRange r.1 r.2.1 r.2.2)
  | m => b.meet r.1 (.engine e) false m

/-- Whether the version `v` of a context holds a stitch for engine `e` (R205). -/
def Block.streams (b : Block) (ctx : Nat) (v : Nat × Nat) (e : Nat) : Bool :=
  match b.version? ctx v.1 v.2 with
  | some x => if e < unitBase then x.sum.anyCore else x.sum.anyUnit
  | none => false

/-- The invocations that the engines of a work have to end by the stream (R204): none where their kind has no stitch (R205). -/
def Block.invsOf (b : Block) (ctx : Nat) (v : Nat × Nat) (es : List Nat) (reps : Nat) : List (Nat × Nat) :=
  es.map fun e => (e, if b.streams ctx v e then reps else 0)

/-- A work takes its delivery lane (R206), from the first stitch of its first invocation. -/
def Block.openLane (b : Block) (w : Work) (ctx : Nat) (v : Nat × Nat) (reps : Nat) : Block :=
  let l : Lane := { who := w, ctx := ctx, listId := v.1, epoch := v.2, reps := reps }
  { b.dropLane w with lanes := (b.dropLane w).lanes ++ [l] }

/-- A launch starts on its engines (R169, R203): those for which the list holds no stitch end every invocation at once, with its beat
(R205). -/
def Block.startLaunch (b : Block) (c : Cmd) (l : LaunchP) : Block :=
  let v := c.version.getD (0, 0)
  let left := b.invsOf c.ctx v c.engs l.reps
  let b := c.engs.foldl (fun b e => b.setEng e { b.eng e with lastCtx := some c.ctx }) b
  let b := b.modCmd c.q c.i fun c => { c with
    phase := .running, left := left, budget := 0
    beats := c.beats + l.reps * (left.filter (·.2 = 0)).length }
  if left.all (·.2 = 0) then b.endCmd c.q c.i 0
  else ((left.filter (·.2 ≠ 0)).map (·.1)).foldl Block.loadArgs (b.openLane (.cmd c.q c.i) c.ctx v l.reps).fixDeadlines

/-- A task waits on its TASK_WICK for item `n` with its own record (R178, R241). -/
def Block.waitItem (b : Block) (t : Task) : Block :=
  match b.slotOf t.ctx t.wick with
  | none => b
  | some s =>
    let w : Waiter := { slot := s, value := t.next, gt := true, who := .task t.ctx t.id }
    if (b.slot s).snuffed then { b with waiters := b.waiters ++ [w] }.snuffWaiter w
    else if t.next < (b.slot s).value ∨ b.waiters.contains w then b
    else { b with waiters := b.waiters ++ [w] }

/-- The stall budget of a command in µs (R136). -/
def Block.budgetUs (b : Block) (ctx us : Nat) : Nat := if us = 0 then (b.ctx ctx).stallUs else us

/-- A LAUNCH_PERSIST binds its engines (R114, R177, R226, R538), or ends with a failure and binds none: where another version is
CURRENT now, steps 6 and 7 of R129 are made again on it (R217). In a context that is CLOSING it ends with ABORTED (DESIGN CHOICE, log
entry 98). -/
def Block.bindTask (b : Block) (c : Cmd) (id : Nat) (l : LaunchP) (ring wick log2 : Nat) : Block :=
  let fail (st : Nat) : Block :=
    ((b.releaseEngs c.engs).modCmd c.q c.i fun c => { c with engs := [] }).endCmd c.q c.i st
  if (b.ctx c.ctx).st = .closing then fail 0x31
  else if (b.task? c.ctx id).isSome then fail 0x14
  else match b.launchVersion? c.ctx l with
    | none => fail 0x12
    | some v => match (if c.version = some (v.listId, v.epoch) then MRes.ok c.descs else b.launchNames c.ctx l v) with
      | .ok ds =>
        let keep := b.pinsOf [{ ctx := c.ctx, va := ring, len := 2 ^ log2, rights := 1 }]
        let t : Task := {
          ctx := c.ctx, id := id, listId := v.listId, epoch := v.epoch, ring := ring, log2 := log2, wick := wick
          engs := c.engs, pins := keep.filter c.pins.contains, descs := ds, stallUs := b.budgetUs c.ctx c.stallUs }
        let b := c.engs.foldl (fun b e => b.setEng e { b.eng e with use := .task c.ctx id, lastCtx := some c.ctx }) b
        let b := b.profStart c (c.opcode * 2 ^ 56 + l.listId * 2 ^ 32 + l.cores * 2 ^ 16 + l.units)
        let b : Block := { b with tasks := b.tasks ++ [t] }
        let b := b.modCmd c.q c.i fun c => { c with engs := [], descs := [], pins := c.pins.filter fun p => !t.pins.contains p }
        (b.endCmd c.q c.i 0).waitItem t
      | .bad _ => fail 0x12
      | .poison a x => (fail 0x40).poisonCmd c a x
      | m => b.meet c.ctx (.cmd c.q c.i) false m

/-- A command whose engines are taken and cleared is placed. -/
def Block.placeOne (b : Block) (c : Cmd) : Block :=
  if c.engs.isEmpty ∨ c.phase ≠ .placing ∨ c.engs.any fun e => (b.eng e).clearing then b
  else match c.op with
    | .launchPersist id l ring wick lg => b.bindTask c id l ring wick lg
    | _ => match c.launch? with
      | some l => b.startLaunch c l
      | none =>
        let b := c.engs.foldl (fun b e => b.setEng e { b.eng e with lastCtx := some c.ctx }) b
        (b.modCmd c.q c.i fun c => { c with phase := .running, budget := 0 }).fixDeadlines

/-- The commands of harness `h` that hold their engines and are not placed yet. -/
def Block.placeHeld (b : Block) (h : Nat) : Block :=
  (b.cmds.filter fun c => c.phase = .placing ∧ (b.queue c.q).harness = some h).foldl
    (fun b c => match b.cmd? c.q c.i with
      | some c => b.placeOne c
      | none => b) b

/-- Placement from the head of the wait list while the head fits (R170); `n` bounds the steps. -/
def Block.placeN (h : Nat) : Nat → Block → Block
  | 0, b => b
  | n + 1, b =>
    match (b.harness h).waiting with
    | [] => b
    | (q, i) :: _ => match b.cmd? q i with
      | none => Block.placeN h n (b.dropPlacing q i)
      | some c => match b.placeStatus h c with
        | some st => Block.placeN h n (b.endCmd q i st)
        | none => match b.choose h c with
          | none => b
          | some es =>
            let b := b.reserve c es
            Block.placeN h n (match b.cmd? q i with
              | some c => b.placeOne c
              | none => b)

/-- HAL places what it can in harness `h`; nothing in RESET (R58) or while a step boundary of it waits (R33), unlit or draining engines
aside. -/
def Block.placeAll (b : Block) (h : Nat) : Block :=
  if (b.harness h).st = .active ∧ !b.boundaryHeld h then
    let b := b.placeHeld h
    Block.placeN h (2 * (b.harness h).waiting.length) b
  else b

/-- LAUNCH_PLACEMENT (R170). -/
def execLaunchPlacement (h : Nat) (s : State) : Host.Outcome State Fault Refusal := s.core fun b => b.placeAll h

/-- A launch reaches HAL: it is placed at once or waits (R169, R170). -/
def Block.toHal (b : Block) (c : Cmd) : Block :=
  match (b.queue c.q).harness with
  | none => b.endCmd c.q c.i 0x12
  | some h =>
    let b := match c.phase with
      | .decided => b.enterPlacing c
      | _ => b
    b.placeAll h

/-- ENGINE_SPACE_CLEAR_DONE (R303): both spaces of the engine read zero. -/
def execEngineSpaceClearDone (e : Nat) (s : State) : Host.Outcome State Fault Refusal :=
  s.core fun b =>
    let x := b.eng e
    if x.clearing then
      let b := { b with
        spm := b.spm.filter fun kv => kv.1 / 2 ^ 32 ≠ e
        ssc := b.ssc.filter fun kv => kv.1 / 2 ^ 32 ≠ e }
      let b := b.setEng e { x with clearing := false, needClear := false, lastCtx := none }
      match x.use with
      | .cmd q i => match b.cmd? q i with
        | some c => b.placeOne c
        | none => b
      | _ => b
    else b

/-! ### Rows of launches -/

/-- LAUNCH (R113, R169 to R171). -/
def execLaunch (q i : Nat) (s : State) : Host.Outcome State Fault Refusal :=
  s.core fun b => b.runCmd q i 0x10 fun c b => if c.phase = .running then b else b.toHal c

/-- LAUNCH_IND (R133): a launch with the parameters of its record. -/
def execLaunchInd (q i : Nat) (s : State) : Host.Outcome State Fault Refusal :=
  s.core fun b => b.runCmd q i 0x11 fun c b => if c.phase = .running then b else b.toHal c

/-- LAUNCH_PERSIST (R114, R177). -/
def execLaunchPersist (q i : Nat) (s : State) : Host.Outcome State Fault Refusal :=
  s.core fun b => b.runCmd q i 0x12 fun c b => if c.phase = .running then b else b.toHal c

/-! ### Grow and shrink -/

/-- HARNESS_GROW at execution (R58, R59, R172, R174, R482). DEDUCED (log entry 100): a mask or flag that differs from the harness's own
is judged here, and a harness in RESET counts as ACTIVE (log entry 35). -/
def Block.grow (b : Block) (c : Cmd) (h cores units home : Nat) (rt : Bool) : Block :=
  let x := b.harness h
  let free := decide (x.st = .free)
  if !free ∧ (home ≠ x.home ∨ rt ≠ x.rt) then b.endCmd c.q c.i 0x12
  else
    let home := if free then home else x.home
    let fc := b.spareEngs true
    let fu := b.spareEngs false
    let near (e : Nat) : Nat := (if bit home (b.nearStack e) then 0 else 2 ^ 20) + e
    let cs := (sortBy near fc).take cores
    let us := (sortBy near fu).take units
    let short := cs.length < cores ∨ us.length < units
    let eats := !rt ∧ (fc.length - cores + b.rtHeld true < b.field Reg.RT_RESERVE_CORES 8 0
      ∨ fu.length - units + b.rtHeld false < b.field Reg.RT_RESERVE_UNITS 8 0)
    if short ∨ eats then b.endCmd c.q c.i 0x14
    else
      let b := (cs ++ us).foldl (fun b e => b.setEng e { b.eng e with harness := some h }) b
      let b := b.setHarness h { x with
        st := if free then .active else x.st
        home := home, rt := rt
        cores := b.placeOrder home (x.cores ++ cs)
        units := b.placeOrder home (x.units ++ us) }
      if b.st = .ready ∨ (cs ++ us).all fun e => (b.eng e).lit then (b.endCmd c.q c.i 0).placeAll h
      else
        let b := b.modCmd c.q c.i fun c => { c with phase := .running, left := (cs ++ us).map fun e => (e, 0) }
        b.lightEngs (cs ++ us)

/-- HARNESS_GROW (R59). -/
def execHarnessGrow (q i : Nat) (s : State) : Host.Outcome State Fault Refusal :=
  s.core fun b => b.runCmd q i 0x8A fun c b => match c.op with
    | .harnessGrow h cores units home rt => if c.phase = .running then b.settleGrow else b.grow c h cores units home rt
    | _ => b

/-- The share of RT harnesses in a reserve (R175). -/
def Block.rtShare (b : Block) (reserve : Nat) : Nat :=
  reserve / max 1 ((List.range 64).filter fun h => (b.harness h).rt && decide ((b.harness h).st = .active)).length

/-- Waiting launches that now exceed their harness end with ERR_ARG, in list order (R173). -/
def Block.recheckWaits (b : Block) (h : Nat) : Block :=
  (b.harness h).waiting.foldl (fun b w => match b.cmd? w.1 w.2 with
    | some c => if b.placeStatus h c = some 0x12 then b.endCmd w.1 w.2 0x12 else b
    | none => b) b

/-- A harness left without engines is FREE; its commit wick stays named with EN clear (R58, R322). -/
def Harness.emptied (x : Harness) : Harness :=
  { lastBoundary := x.lastBoundary, pacedCycles := x.pacedCycles, commitCtx := x.commitCtx, commitVid := x.commitVid }

/-- A shrink ends once the removed engines hold nothing: they leave the harness, which is FREE when it is left without
engines (R58, R60, R322). -/
def Block.endShrink (b : Block) (c : Cmd) (h : Nat) : Block :=
  let es := c.left.map (·.1)
  if es.all fun e => decide ((b.eng e).use = .free) && !(b.eng e).draining then
    let b := es.foldl (fun b e => b.setEng e { b.eng e with harness := none }) b
    let x := b.harness h
    let b := if x.cores.isEmpty ∧ x.units.isEmpty ∧ (b.engsOf (some h)).isEmpty then b.setHarness h x.emptied
      else b
    (b.modCmd c.q c.i fun c => { c with left := [] }).endCmd c.q c.i 0
  else b

/-- HARNESS_SHRINK at execution (R60, R173, R175). DEDUCED (log entry 100): naming more engines than the harness holds is judged here. -/
def Block.shrink (b : Block) (c : Cmd) (h cores units : Nat) : Block :=
  let x := b.harness h
  let nc := x.cores.length
  let nu := x.units.length
  if nc < cores ∨ nu < units then b.endCmd c.q c.i 0x12
  else
    let es := x.cores.drop (nc - cores) ++ x.units.drop (nu - units)
    let empties := nc = cores ∧ nu = units ∧ b.queues.any fun kv => kv.2.st ≠ .unused ∧ kv.2.harness = some h
    let short := x.rt ∧ (nc - cores < b.rtShare (b.field Reg.RT_RESERVE_CORES 8 0)
      ∨ nu - units < b.rtShare (b.field Reg.RT_RESERVE_UNITS 8 0))
    if es.any b.isBound ∨ empties ∨ short then b.endCmd c.q c.i 0x14
    else
      let b := b.setHarness h { x with cores := x.cores.take (nc - cores), units := x.units.take (nu - units) }
      let b := b.modCmd c.q c.i fun c => { c with phase := .running, left := es.map fun e => (e, 0) }
      let b := b.recheckWaits h
      match b.cmd? c.q c.i with
      | some c => (b.endShrink c h).placeAll h
      | none => b

/-- HARNESS_SHRINK (R60): it completes when the running launches on the removed engines have finished. -/
def execHarnessShrink (q i : Nat) (s : State) : Host.Outcome State Fault Refusal :=
  s.core fun b => b.runCmd q i 0x8B fun c b => match c.op with
    | .harnessShrink h cores units => if c.phase = .running then b.endShrink c h else b.shrink c h cores units
    | _ => b

/-! ### Rows of the power interface -/

/-- LIGHTING_GROUP_START (R187). -/
def execLightingGroupStart (s : State) : Host.Outcome State Fault Refusal := s.core fun b => b.tryGroup false

/-- WAKE_GROUP_START (R189). -/
def execWakeGroupStart (s : State) : Host.Outcome State Fault Refusal := s.core fun b => b.tryGroup true

/-- POWER_GRANT (R523): ignored while no group asks for a grant. -/
def execPowerGrant (s : State) : Host.Outcome State Fault Refusal := s.core fun b => b.grant

/-- GRANT_WAIT_TIMEOUT (R34): one event for a group that has waited 1 ms; the group keeps its place. -/
def execGrantWaitTimeout (s : State) : Host.Outcome State Fault Refusal :=
  s.core fun b => match b.groups with
    | [] => b
    | g :: t =>
      if !g.granted ∧ !g.waited ∧ g.asked + Config.cyclesMs ≤ b.zclk then
        { b with groups := { g with waited := true } :: t }.event pgHal 8 0 g.engs.length
      else b

/-- Whether an engine sleeps on a wick: in a SYNC WAIT, or bound to a task that has no item. -/
def Block.sleeps (b : Block) (e : Nat) : Bool :=
  (b.eng e).wickWait.isSome || (match (b.eng e).use with
    | .task c t => (b.waiters.any fun w => w.who = WaitFor.task c t)
    | _ => false)

/-- ENGINE_CLOCK_GATE (R245): after WK_GATE_NS of waiting; never with WK_GATE_NS 0. Its control core leaves the coherence
domain (R335). -/
def execEngineClockGate (e : Nat) (s : State) : Host.Outcome State Fault Refusal :=
  s.core fun b =>
    let x := b.eng e
    let ns := b.reg Reg.WK_GATE_NS
    if x.lit ∧ !x.gated ∧ !x.draining ∧ b.sleeps e ∧ ns ≠ 0 ∧ ns * 9 ≤ x.waitCycles * 5 then
      let b := b.setEng e { x with gated := true }
      if e < unitBase then b.leaveDomain (8 + e) false else b
    else b

end Sys2Proof.Machine
end

