-- ==== Sys2Proof/Machine/Streamer.lean ====
section
/-!
DEFINITION. The Stitch Streamer: delivery lanes and input queues (R206, R207), the repeats and beats of stitches (R193, R204), the SYNC
slots (R202), and where breakpoints hold delivery (R455).
-/
namespace Sys2Proof.Machine

/-! ### Engine spaces -/

/-- The key of a byte of an engine's space. -/
def spaceKey (e off : Nat) : Nat := e * 2 ^ 32 + off

/-- A space of engines: 1 scratchpads, 2 stack-side caches. -/
def Block.spaceMem (b : Block) (space : Nat) : Tab Byte := if space = 1 then b.spm else b.ssc

/-! ### Work that engines run -/

/-- What an engine's use is to the streamer. -/
def EngUse.work? : EngUse → Option Work
  | .free => none
  | .cmd q i => some (.cmd q i)
  | .task c t => some (.task c t)

/-- The engines of a work. -/
def Block.workEngs (b : Block) : Work → List Nat
  | .cmd q i => ((b.cmd? q i).map (·.engs)).getD []
  | .task c t => ((b.task? c t).map (·.engs)).getD []

/-- Whether a work runs stitches now: it is not cancelled, stalled or halted at a breakpoint. -/
def Block.workRuns (b : Block) : Work → Bool
  | .cmd q i => match b.cmd? q i with
    | some c => c.runsStitches && decide (c.phase = .running) && c.cancel.isNone && !c.stalled && c.bp.isNone
    | none => false
  | .task c t => match b.task? c t with
    | some t => (t.item.map fun x => x.cancel.isNone && x.ended.isNone).getD false && !t.stalled && t.bp.isNone
    | none => false

/-- The invocations that the engines of a work have still to end. -/
def Block.workLeft (b : Block) : Work → List (Nat × Nat)
  | .cmd q i => ((b.cmd? q i).map (·.left)).getD []
  | .task c t => (((b.task? c t).bind (·.item)).map (·.left)).getD []

/-- The descriptors that a work holds (R226). -/
def Block.workDescs (b : Block) : Work → List (Nat × Desc)
  | .cmd q i => ((b.cmd? q i).map (·.descs)).getD []
  | .task c t => ((b.task? c t).map (·.descs)).getD []

/-- Invocations that engine `e` has still to end, of the work it runs: none where it runs no stitches, or its work is
cancelled, stalled or halted at a breakpoint. -/
def Block.invLeft (b : Block) (e : Nat) : Nat :=
  match (b.eng e).use.work? with
  | none => 0
  | some w => if b.workRuns w then (((b.workLeft w).find? (·.1 = e)).map (·.2)).getD 0 else 0

/-- Whether engine `e` waits for a translation. -/
def Block.translating (b : Block) (e : Nat) : Bool := b.faulting (.engine e) || b.atsAsked.any (·.who.contains (.engine e))

/-- Whether engine `e` is clocked, has work and is held by no drain, SYNC WAIT, translation or step boundary (R33). -/
def Block.ready (b : Block) (e : Nat) : Bool :=
  let x := b.eng e
  x.lit && !x.gated && !x.draining && !x.quiet && x.wickWait.isNone && !b.translating e && !b.heldStep e && decide (0 < b.invLeft e)

/-- Whether the argument record of the engine's invocation is still to be loaded (R203). -/
def Block.wantsArgs (b : Block) (e : Nat) : Bool := decide ((b.argRecord e).2.2 ≠ 0) && (b.eng e).args.isEmpty

/-- Whether engine `e` executes stitches. -/
def Block.executes (b : Block) (e : Nat) : Bool := b.ready e && !b.wantsArgs e

/-! ### Breakpoints (R453 to R455) -/

/-- Whether breakpoints apply to a context (R453). -/
def Block.debugOn (b : Block) (c : Nat) : Bool := decide (c = 0) || (b.ctx c).debug

/-- The stitch that a lane delivers next, and the byte that follows it. -/
def Block.nextStitch (b : Block) (l : Lane) : Option (Stitch × Nat) :=
  (b.version? l.ctx l.listId l.epoch).bind fun v =>
    (stitchesOf 1 (v.stream.drop l.off)).bind fun r => r.1.head?.map fun st => (st, v.stream.length - r.2.length)

/-- Whether a lane still delivers. -/
def Lane.live (l : Lane) : Bool := decide (l.inv < l.reps)

/-- Whether breakpoint `p` stands before the stitch that a lane delivers next: a stitch of KIND 1 is never hit, nor is work without
cores. -/
def Block.hits (b : Block) (p : Breakpoint) (l : Lane) : Bool :=
  p.en && decide (p.ctx = l.ctx ∧ p.listId = l.listId ∧ p.epoch = l.epoch ∧ p.at_ = l.pos) && b.debugOn l.ctx && l.live && !l.past
    && (b.workEngs l.who).any (· < unitBase) && (match b.nextStitch l with
      | some x => decide (x.1.kind ≠ 1)
      | none => false)

/-- Whether a breakpoint holds a lane. -/
def Block.laneStops (b : Block) (l : Lane) : Bool := b.bps.any fun kv => b.hits kv.2 l

/-! ### Delivery (R206) -/

/-- Whether an engine takes a stitch (R194). -/
def Stitch.takenBy (x : Stitch) (e : Nat) : Bool := decide (x.kind = 2) || decide (x.kind = if e < unitBase then 0 else 1)

def Block.lane? (b : Block) (w : Work) : Option Lane := b.lanes.find? (·.who = w)
def Block.modLane (b : Block) (w : Work) (f : Lane → Lane) : Block := { b with lanes := mapIf (·.who = w) f b.lanes }

/-- A lane moves past the stitch at its place: `off` is the byte that follows, and `fin` says that the stream ends there. -/
def Lane.advance (l : Lane) (off : Nat) (fin : Bool) : Lane :=
  if fin then { l with inv := l.inv + 1, pos := 0, off := 0, past := false } else { l with pos := l.pos + 1, off := off, past := false }

/-- The start of a launch whose first stitch is delivered (R442). -/
def Block.firstStitch (b : Block) (w : Work) : Block :=
  match w with
  | .cmd q i => match b.cmd? q i with
    | some c => match c.started, c.launch? with
      | false, some l =>
        let b := b.profStart c (c.opcode * 2 ^ 56 + l.listId * 2 ^ 32 + l.cores * 2 ^ 16 + l.units)
        b.modCmd q i fun c => { c with started := true }
      | _, _ => b
    | none => b
  | .task _ _ => b

/-- A stitch enters the input queue of an engine. -/
def Block.enqueue (b : Block) (e : Nat) (r : QStitch) : Block :=
  let x := b.eng e
  b.setEng e { x with inq := x.inq ++ [r], delivered := r.idx, starved := false }

/-- The next stitch of a lane is delivered to the engines that take it; the lane waits while one of them holds 32 records. -/
def Block.deliver (b : Block) (l : Lane) : Block :=
  match b.nextStitch l with
  | none => b
  | some (st, off) =>
    let es := (b.workEngs l.who).filter st.takenBy
    if es.any fun e => 32 ≤ (b.eng e).inq.length then b
    else
      let r : QStitch := { inv := l.inv, idx := l.pos, copies := bits st.hdr 7 4 + 1, st := st }
      let fin := ((b.version? l.ctx l.listId l.epoch).map fun v => decide (v.stream.length ≤ off)).getD true
      let b := if es.isEmpty then b else b.firstStitch l.who
      (es.foldl (fun b e => b.enqueue e r) b).modLane l.who fun l => l.advance off fin

/-- A lane in one cycle. -/
def Block.laneTick (b : Block) (w : Work) : Block :=
  match b.lane? w with
  | none => b
  | some l => if l.live ∧ b.workRuns w ∧ !((b.workEngs w).any b.heldStep) ∧ !b.laneStops l then b.deliver l else b

/-- The order of deliveries on one edge: by hardware queue, as R436 orders their records. -/
def laneKey (l : Lane) : Nat := match l.who with
  | .cmd q _ => q
  | .task _ _ => 4096

/-- The 16 lanes in one cycle: more works than that take them in turn (R206). -/
def Block.lanesTick (b : Block) : Block :=
  let b := ((sortBy laneKey (b.lanes.take 16)).map (·.who)).foldl Block.laneTick b
  if 16 < b.lanes.length then { b with lanes := b.lanes.drop 16 ++ b.lanes.take 16 } else b

/-! ### Records in an input queue -/

/-- The SYNC slot of a record, and whether it sends a beat. -/
def QStitch.sync? (r : QStitch) : Option Nat := r.st.slot 7
def QStitch.beat (r : QStitch) : Bool := bit r.st.hdr 3

/-- One copy of the first record of an input queue retires (R193). -/
def retireFirst : List QStitch → List QStitch
  | [] => []
  | r :: t => if r.copies ≤ 1 then t else { r with copies := r.copies - 1 } :: t

/-- The queue once every record of invocation `inv` up to and with the first beat has retired, and the stitch that sent it; none where
a SYNC slot that has not acted, or the end of what is delivered, comes first. `acted` speaks of the first record. -/
def toBeat (inv : Nat) : Bool → List QStitch → Option (List QStitch × Nat)
  | _, [] => none
  | acted, r :: t =>
    if r.inv ≠ inv ∨ (r.sync?.isSome ∧ !acted) then none
    else if r.beat then some (retireFirst (r :: t), r.idx)
    else if r.sync?.isSome ∧ 1 < r.copies then none
    else toBeat inv false t

/-- The queue once every record of invocation `inv` has retired; none where a beat is still to be sent or a SYNC slot to act. -/
def toEnd (inv : Nat) : Bool → List QStitch → Option (List QStitch)
  | _, [] => some []
  | acted, r :: t =>
    if r.inv ≠ inv then some (r :: t)
    else if r.beat ∨ (r.sync?.isSome ∧ (!acted ∨ 1 < r.copies)) then none
    else toEnd inv false t

/-- One copy of the first record of engine `e` retires. -/
def Block.retireRec (b : Block) (e : Nat) : Block :=
  let x := b.eng e
  b.setEng e { x with inq := retireFirst x.inq, synced := false, retired := (x.inq.head?.map (·.idx)).getD x.retired }

/-! ### SYNC slots (R202) -/

def Block.setSynced (b : Block) (e : Nat) : Block := b.setEng e { b.eng e with synced := true }

/-- BARRIER: it opens once every engine of the work whose kind takes the stitch has come to the same copy of it. -/
def Block.syncBarrier (b : Block) (w : Work) (r : QStitch) : Block :=
  let es := (b.workEngs w).filter r.st.takenBy
  if es.all fun e => decide ((b.eng e).inq.head? = some r ∧ (b.eng e).inv = r.inv) then es.foldl Block.setSynced b else b

/-- WAIT of engine `e` on wick `v` of a context with value `n`: met, or a waiter record (R241); a snuffed wick cancels the work. -/
def Block.syncWait (b : Block) (e ctx v n : Nat) : Block :=
  match b.slotOf ctx v with
  | none => b.setSynced e
  | some s =>
    let w : Waiter := { slot := s, value := n, gt := false, who := .engine e }
    if (b.slot s).snuffed then b.snuffWaiter w
    else if n ≤ (b.slot s).value then b.setSynced e
    else { b with waiters := b.waiters ++ [w] }.setEng e { b.eng e with wickWait := some (v, n), waitCycles := 0 }

/-- An argument word of engine `e`. -/
def Block.argWord (b : Block) (e k : Nat) : Nat := ((b.eng e).args.getD k 0).toNat

def Block.setArgWord (b : Block) (e k v : Nat) : Block :=
  let x := b.eng e
  b.setEng e { x with args := modAt (fun _ => BitVec.ofNat 64 v) k (x.args ++ List.replicate (64 - x.args.length) 0) }

/-- The first bytes of row `row` of a descriptor that ARGLOAD reads, at most 8; an engine migrates pages (R275). -/
def Block.rowHead (b : Block) (e ctx : Nat) (d : Desc) (row : Nat) : MRes (List Byte) :=
  let n := min 8 (rowBytes d.format (nth d.ext 0))
  let a := d.base + d.rowOffset row
  if d.space = 0 then b.readVa ctx a n needRd false else .ok (Memory.read (b.spaceMem d.space) (spaceKey e a) n)

/-- ARGLOAD of engine `e`. A row that the tensor does not have gives a free value (DESIGN CHOICE, log entry 103). -/
def Block.syncArgload (b : Block) (e ctx : Nat) (w : Work) (k h row : Nat) : Block :=
  let d := descFor (b.workDescs w) h
  if d.rows ≤ row ∨ d.isEmpty then
    let r := b.fresh 64
    (r.2.setArgWord e k r.1).setSynced e
  else match b.rowHead e ctx d row with
    | .ok bs => (b.setArgWord e k (ofLeBytes bs)).setSynced e
    | .poison a x => (b.notePoison ctx a x).endWork e 0x40 true
    | .bad st => b.endWork e st (b.deadRange ctx (d.base + d.rowOffset row) 8)
    | m => b.meet ctx (.engine e) false m

/-- The SYNC slot of the first record of engine `e` acts. RETIRE ends when the writes of the engine are visible, which the block does
not see: it passes (log entry 67). -/
def Block.syncRec (b : Block) (e : Nat) (w : Work) (r : QStitch) (v : Nat) : Block :=
  let ctx := (b.engCtx e).getD 0
  match bits v 63 60 with
  | 1 => b.syncBarrier w r
  | 3 => b.syncWait e ctx (bits v 47 32) (b.argWord e (bits v 59 54))
  | 4 => b.syncArgload e ctx w (bits v 59 54) (bits v 47 32) (bits v 31 0)
  | _ => b.setSynced e

/-! ### Engines -/

/-- An engine finds its input queue empty before its invocation ends (R206): counted once for each wait. -/
def Block.starve (b : Block) (e : Nat) (w : Work) : Block :=
  let x := b.eng e
  let more := ((b.lane? w).map fun l => decide (l.inv ≤ x.inv)).getD false
  if more ∧ !x.starved then (b.setEng e { x with starved := true }).count32 Reg.SS_STARVE else b

/-- Whether a record of engine `e` retires in this cycle: a free choice, since the cycles that a stitch takes are the engine's (log
entry 67). -/
def Block.mayRetire (b : Block) (e : Nat) : Block :=
  let r := b.fresh 1
  if r.1 = 1 then r.2.retireRec e else r.2

/-- Engine `e` in one cycle: the first record of its invocation acts or retires. An engine that drains goes on only with records whose
SYNC slot has acted, and a record that sends a beat retires with PROGRESS_BEAT. -/
def Block.streamEng (b : Block) (e : Nat) : Block :=
  let x := b.eng e
  match x.use.work? with
  | none => b
  | some w => match x.inq with
    | [] => if b.executes e then b.starve e w else b
    | r :: _ =>
      if r.inv ≠ x.inv then b
      else match (if x.synced then none else r.sync?) with
        | some v => if b.executes e then b.syncRec e w r v else b
        | none => if !r.beat ∧ (b.executes e ∨ (x.draining ∧ !b.translating e)) then b.mayRetire e else b

/-- An engine in one cycle: one whose argument record is still to be loaded tries again. -/
def Block.streamTick (b : Block) (e : Nat) : Block :=
  if b.ready e ∧ b.wantsArgs e then b.loadArgs e else b.streamEng e

def Block.streamsTick (b : Block) : Block := (b.engines.map (·.1)).foldl Block.streamTick b.lanesTick

end Sys2Proof.Machine
end

