-- ==== Sys2Proof/Machine/Fabric.lean ====
section
/-!
DEFINITION. The fabric port: received remote signals (R30, R96, R253), the signals it sends (R117, R516) and the destination
table (R517).
-/
namespace Sys2Proof.Machine

/-- A received signal is dropped and recorded (R516). -/
def Block.fabricDrop (b : Block) (cause target : Nat) : Block :=
  let b := b.ledgerTerm fun l => { l with issued := l.issued + 1, remote := l.remote + 1 }
  (b.count32 Reg.FP_REMOTE_DROP).setReg Reg.FP_LAST_DROP (cause * 2 ^ 30 + target % 2 ^ 18)

/-- A remote wick signal (R253): SETMAX of the slot that its token names, or a drop. -/
def Block.recvWick (b : Block) (token v : Nat) : Block :=
  let b := b.count32 Reg.FP_RECV
  let low := token % 2 ^ 32
  let ok := decide (token / 2 ^ 32 = b.reg Reg.WK_INCARNATION)
  match (if ok then b.tokenSlot? low else none) with
  | some s => (b.sigSlot s true v).settleWicks b [s]
  | none => b.fabricDrop 1 (low % 2 ^ 17)

/-- A remote doorbell signal (R96): SETMAX of the queue's DB_COUNT under R94, if it is an ACTIVE service queue. -/
def Block.recvDoor (b : Block) (q v : Nat) : Block :=
  let b := b.count32 Reg.FP_RECV
  let x := b.queue q
  if x.st = .active ∧ x.svc then
    let b := b.ledgerTerm fun l => { l with issued := l.issued + 1, applied := l.applied + 1 }
    if x.dbCount < v then b.dbSet q v else b
  else b.fabricDrop 2 q

/-- REMOTE_WICK_SIGNAL (R253). -/
def execRemoteWickSignal (token v : BitVec 64) (s : State) : Host.Outcome State Fault Refusal :=
  s.core fun b => b.recvWick token.toNat v.toNat

/-- REMOTE_DOORBELL_SIGNAL (R96). -/
def execRemoteDoorbellSignal (q : Nat) (v : BitVec 64) (s : State) : Host.Outcome State Fault Refusal :=
  s.core fun b => b.recvDoor q v.toNat

/-- A signal accepted for sending (R117): one to this chip loops back and is applied here; any other leaves by the fabric. -/
def Block.sendRemote (b : Block) (qdoor : Bool) (value chip dest : Nat) : Block :=
  let b := b.count32 Reg.FP_SENT
  if chip = b.chipId then (if qdoor then b.recvDoor (dest % 4096) value else b.recvWick dest value)
  else
    let x : FabricSig := { chip := chip, qdoor := qdoor, dest := dest, value := value }
    { b with fabricOut := b.fabricOut ++ [x] }

/-- The unused value of a destination entry. -/
abbrev noDest : W32 := 0xFFFFFFFF

/-- Entry `k` of the destination table. -/
def Block.dest (b : Block) (k : Nat) : W32 := Tab.get (fun _ => noDest) b.fpDest k

/-- A write of FP_DEST (R517): an own or listed CHIP_ID is refused with an access error, and every write in OFF. -/
def Block.destWrite (b : Block) (path : Nat) (v : W32) : Block :=
  let k := b.field Reg.FP_DEST_SEL 7 0
  if b.st = .off then b.pageErr path Reg.FP_DEST
  else if v ≠ noDest ∧ (v.toNat = b.chipId ∨ b.fpDest.any fun kv => kv.1 ≠ k ∧ kv.2 = v) then b.pageErr path Reg.FP_DEST
  else { b with fpDest := Tab.set (fun _ => noDest) b.fpDest k v }

/-- FP_DEST_WRITE (R517). -/
def execFpDestWrite (path : Nat) (v : BitVec 32) (s : State) : Host.Outcome State Fault Refusal :=
  s.write path Reg.FP_DEST fun b => b.destWrite path v

end Sys2Proof.Machine
end

