-- ==== Sys2Proof/Machine/Compute.lean ====
section
/-!
DEFINITION. The rows of the commands of every queue below opcode 0x80, launches aside (R108, R112, R115 to R120, R142, R182,
R292, R293, R444 to R446).
-/
namespace Sys2Proof.Machine

/-! ### Accesses through the home -/

/-- Whether a walk that an agent waits for is held back while the domain is down (R349). -/
def Block.walkHeld (b : Block) (a : Asker) : Bool := b.down && b.walks.any fun w => w.who = some a

/-- An access of the block to places of memory: it waits for the home of their lines (R333, R338, R347), a line in M being written back
first, and while the domain is down (R349, R350). -/
def Block.atHome (b : Block) (q i : Nat) (m : MRes (List Phys)) (go : Block) : Block :=
  match m with
  | .ok ps =>
    if b.walkHeld (.cmd q i) ∨ (b.down ∧ ps.any fun p => match p with
      | .dev _ => true
      | .host _ => false) ∨ b.homeHolds ps then (b.homeAsk ps).setRunning q i
    else go
  | _ => go

/-- The answer of a memory access that a command makes at [va, va + len) in context `x`: go on, wait, or end with a status (R42, R298,
R418). -/
def Block.access {α : Type} (b : Block) (c : Cmd) (x va len : Nat) (write : Bool) (m : MRes α) (f : α → Block) : Block :=
  match m with
  | .ok v => b.atHome c.q c.i (b.resolveN x 0 true va len) (f v)
  | .bad st => b.faultCmd c x va len st
  | .poison a y => b.poisonCmd c a y
  | m => (b.setRunning c.q c.i).meet x (.cmd c.q c.i) write m

/-! ### Engine spaces and DMA -/

def Block.writeSpace (b : Block) (space e off : Nat) (xs : List Byte) : Block :=
  if space = 1 then { b with spm := Memory.write b.spm (spaceKey e off) xs }
  else { b with ssc := Memory.write b.ssc (spaceKey e off) xs }

/-- The translation caches see an access to every page of a range (R278). -/
def Block.touchRange (b : Block) (c va len : Nat) (who : Option Asker := none) : Block :=
  (pagesOf va (va + len) 65536).foldl (fun b p => b.touch c (max p va) who) b

/-- The engines that a placed COPY or FILL holds: for its source and for its destination. -/
def Cmd.srcEng (c : Cmd) : Nat := c.engs.headD 0
def Cmd.dstEng (c : Cmd) : Nat := c.engs.getLastD 0

/-- Bytes that a block DMA reads: memory in place (R275), or a space of an engine. -/
def Block.dmaRead (b : Block) (c : Cmd) (space e a len : Nat) : MRes (List Byte) :=
  if space = 0 then b.readVa c.ctx a len else .ok (Memory.read (b.spaceMem space) (spaceKey e a) len)

/-- Where a block DMA writes: places of memory; none for a space of an engine. -/
def Block.dmaPlaces (b : Block) (c : Cmd) (space a len : Nat) : MRes (List Phys) :=
  if space = 0 then b.resolveN c.ctx needWr true a len else .ok []

def Block.dmaWrite (b : Block) (space e a : Nat) (ps : List Phys) (xs : List Byte) : Block :=
  if space = 0 then b.putBytes ps xs else b.writeSpace space e a xs

/-- Caches touched by one side of a DMA. -/
def Block.dmaTouch (b : Block) (c : Cmd) (space a len : Nat) : Block := if space = 0 then b.touchRange c.ctx a len (some (.cmd c.q c.i)) else b

/-- A command that HAL places goes to the wait list first (R304); one that waits there goes on waiting. -/
def Block.whenPlaced (b : Block) (c : Cmd) (f : Block → Block) : Block :=
  if c.needsPlace then match c.phase with
    | .decided => b.toHal c
    | .placing => b
    | _ => f b
  else f b

/-- COPY's transfer (R115, R309). -/
def Block.copyMove (b : Block) (c : Cmd) (src dst len ss ds : Nat) : Block :=
  let b := (b.dmaTouch c ss src len).dmaTouch c ds dst len
  b.access c c.ctx src (if ss = 0 then len else 0) false (b.dmaRead c ss c.srcEng src len) fun xs =>
    b.access c c.ctx dst (if ds = 0 then len else 0) true (b.dmaPlaces c ds dst len) fun ps =>
      let b := b.countBursts c.q src dst len ps
      (b.dmaWrite ds c.dstEng dst ps xs).endCmd c.q c.i 0

/-- COPY (R115). -/
def execCopy (q i : Nat) (s : State) : Host.Outcome State Fault Refusal :=
  s.core fun b => b.runCmd q i 0x20 fun c b => match c.op with
    | .copy src dst len ss ds _ _ => b.whenPlaced c fun b => b.copyMove c src dst len ss ds
    | _ => b

/-- The bytes of FILL: the low 2^WIDTH bytes of PATTERN repeated. -/
def fillBytes (pattern width len : Nat) : List Byte :=
  (List.range (len / 2 ^ width)).flatMap fun _ => leBytes (2 ^ width) pattern

/-- FILL (R110). -/
def execFill (q i : Nat) (s : State) : Host.Outcome State Fault Refusal :=
  s.core fun b => b.runCmd q i 0x21 fun c b => match c.op with
    | .fill dst pattern len width ds _ => b.whenPlaced c fun b =>
      let b := b.dmaTouch c ds dst len
      b.access c c.ctx dst (if ds = 0 then len else 0) true (b.dmaPlaces c ds dst len) fun ps =>
        let b := b.countBursts c.q dst dst len ps
        (b.dmaWrite ds c.dstEng dst ps (fillBytes pattern width len)).endCmd c.q c.i 0
    | _ => b

/-! ### ATOMIC -/

/-- The value that ATOMIC leaves (R116). -/
def atomicResult (aop m a cmp : Nat) : Nat :=
  match aop with
  | 0 => (m + a) % 2 ^ 64
  | 1 => max m a
  | _ => if m = cmp then a else m

/-- Whether every place lies in this chip's device memory. -/
def inDev (ps : List Phys) : Bool := ps.all fun p => match p with
  | .dev _ => true
  | .host _ => false

/-- ATOMIC (R116): host memory gives ERR_ARG. -/
def execAtomic (q i : Nat) (s : State) : Host.Outcome State Fault Refusal :=
  s.core fun b => b.runCmd q i 0x22 fun c b => match c.op with
    | .atomic aop a x cmp r =>
      let b := (b.touch c.ctx a (some (.cmd q i))).touch c.ctx r (some (.cmd q i))
      b.access c c.ctx a 8 true (b.resolveN c.ctx needAt false a 8) fun ps =>
        b.access c c.ctx r (if r = 0 then 0 else 8) true (if r = 0 then .ok [] else b.resolveN c.ctx needWr false r 8) fun rs =>
          if !inDev ps ∨ !inDev rs then b.endCmd q i 0x12
          else b.access c c.ctx a 8 true (b.readPlaces ps) fun bs =>
            let m := ofLeBytes bs
            let b := b.putBytes ps (leBytes 8 (atomicResult aop m x cmp))
            (b.putBytes rs (leBytes 8 m)).endCmd q i 0
    | _ => b

/-! ### PREFETCH and ADVISE -/

/-- PREFETCH (R292): it ends when every migration or request that it joined has ended. -/
def execPrefetch (q i : Nat) (s : State) : Host.Outcome State Fault Refusal :=
  s.core fun b => b.runCmd q i 0x24 fun c b => match c.op with
    | .prefetch a len =>
      let settle (b : Block) : Block := if b.faulting (.cmd q i) then b else b.endCmd q i 0
      if c.phase = .running then settle b
      else
        let ps := b.hostPages c.ctx a len
        let b := b.setRunning q i
        settle (ps.foldl (fun b p => b.startFault c.ctx p false 1 [.cmd q i] (.cmd q i)) b)
    | _ => b

/-- WILL_NEED starts the work of PREFETCH in the background, which holds the pins of the command (R293). -/
def Block.willNeed (b : Block) (c : Cmd) (a len : Nat) : Block :=
  let ps := b.hostPages c.ctx a len
  if ps.isEmpty then b
  else
    let x : Advice := { ctx := c.ctx, pages := ps.map fun p => alignDown p (b.faultPage c.ctx), pins := c.pins }
    let b := { b with advices := b.advices ++ [x] }.modCmd c.q c.i fun c => { c with pins := [] }
    ps.foldl (fun b p => b.startFault c.ctx p false 2 [] (.cmd c.q c.i)) b

/-- ADVISE (R293). -/
def execAdvise (q i : Nat) (s : State) : Host.Outcome State Fault Refusal :=
  s.core fun b => b.runCmd q i 0x25 fun c b => match c.op with
    | .advise advice a len =>
      let b := b.count Reg.ZT_ADVISE 15 0 1
      ((if advice = 1 then b.willNeed c a len else b)).endCmd q i 0
    | _ => b

/-! ### Waits, signals and time -/

/-- NOP (R142). -/
def execNop (q i : Nat) (s : State) : Host.Outcome State Fault Refusal :=
  s.core fun b => b.runCmd q i 0x00 fun _ b => b.endCmd q i 0

/-- WAIT (R108): its waits are met once it is dispatched. -/
def execWait (q i : Nat) (s : State) : Host.Outcome State Fault Refusal :=
  s.core fun b => b.runCmd q i 0x30 fun _ b => b.endCmd q i 0

/-- SIGNAL (R142): its entries are applied at completion (R106). -/
def execSignal (q i : Nat) (s : State) : Host.Outcome State Fault Refusal :=
  s.core fun b => b.runCmd q i 0x31 fun _ b => b.endCmd q i 0

/-- SIGNAL_REMOTE (R117). -/
def execSignalRemote (q i : Nat) (s : State) : Host.Outcome State Fault Refusal :=
  s.core fun b => b.runCmd q i 0x32 fun c b => match c.op with
    | .signalRemote qd v chip dest => (b.sendRemote qd v chip dest).endCmd q i 0
    | _ => b

/-- TIMESTAMP (R118): both values are sampled when it starts. -/
def execTimestamp (q i : Nat) (s : State) : Host.Outcome State Fault Refusal :=
  s.core fun b => b.runCmd q i 0x38 fun c b => match c.op with
    | .timestamp a =>
      let t := if c.phase = .running then c.sample else b.ns + b.cadence * 2 ^ 64
      let b := (b.modCmd q i fun c => { c with sample := t }).touch c.ctx a (some (.cmd q i))
      b.access c c.ctx a 16 true (b.writeVa c.ctx a (leBytes 8 (t % 2 ^ 64) ++ leBytes 8 (t / 2 ^ 64))) fun b => b.endCmd q i 0
    | _ => b

/-- A CADENCE_WAIT completes and sets ANCHOR of its queue (R161, R162). -/
def Block.cadenceMet (b : Block) (c : Cmd) (target : Nat) : Block :=
  (b.setQueue c.q { b.queue c.q with anchor := target }).endCmd c.q c.i 0

/-- CADENCE_WAIT (R119): at once where TARGET is at or below the cadence. -/
def execCadenceWait (q i : Nat) (s : State) : Host.Outcome State Fault Refusal :=
  s.core fun b => b.runCmd q i 0x39 fun c b => match c.op with
    | .cadenceWait t => if t ≤ b.cadence then b.cadenceMet c t else b.setRunning q i
    | _ => b

/-- CADENCE_TARGET_REACHED (R119). -/
def execCadenceTargetReached (q i : Nat) (s : State) : Host.Outcome State Fault Refusal :=
  s.core fun b => b.runCmd q i 0x39 fun c b => match c.op with
    | .cadenceWait t => if c.phase = .running ∧ t ≤ b.cadence then b.cadenceMet c t else b
    | _ => b

/-- MARK (R120, R447): a record for buffer BUF alone; it may request a global stop. -/
def execMark (q i : Nat) (s : State) : Host.Outcome State Fault Refusal :=
  s.core fun b => b.runCmd q i 0x3A fun c b => match c.op with
    | .mark buf v =>
      let r := traceRec (b.traceWord0 0x01 c.ctx c.qidx c.i) b.ns v b.cadence
      let b := (b.traceAll (fun k _ => k = buf) c.ctx r).endCmd q i 0
      if bit (b.reg Reg.OB_STOP_CTL) 5 ∧ v = b.reg Reg.OB_STOP_MARK then b.requestStop 3 else b
    | _ => b

/-! ### STOP_PERSIST -/

/-- STOP_PERSIST on a task (R182): the larger item limit of those waiting holds. -/
def Block.stopTask (b : Block) (c : Cmd) (all : Bool) (t : Task) : Block :=
  let published := ((b.slotOf t.ctx t.wick).map fun s => (b.slot s).value).getD 0
  let lim := if all then max t.next published else t.next
  let lim := match t.stopAt with
    | some n => max n lim
    | none => lim
  let b := b.setRunning c.q c.i
  let b := b.modTask t.ctx t.id fun t => { t with stopAt := some lim, stops := t.stops ++ [(c.q, c.i)] }
  b.settleTask t.ctx t.id

/-- STOP_PERSIST (R114, R182). -/
def execStopPersist (q i : Nat) (s : State) : Host.Outcome State Fault Refusal :=
  s.core fun b => b.runCmd q i 0x13 fun c b => match c.op with
    | .stopPersist all id =>
      if c.phase = .running then b.settleTask c.ctx id
      else match b.task? c.ctx id with
        | some t => b.stopTask c all t
        | none => b.endCmd q i 0x13
    | _ => b

/-! ### WATCH -/

/-- `n` rows of a tensor from row `r` on. -/
def Block.tensorRows (b : Block) (c : Nat) (d : Desc) : Nat → Nat → MRes (List (List Byte))
  | 0, _ => .ok []
  | n + 1, r =>
    (b.readVa c (d.base + d.rowOffset r) (rowBytes d.format (nth d.ext 0))).bind fun x =>
    (b.tensorRows c d n (r + 1)).bind fun t => .ok (x :: t)

/-- The scale bytes of `n` rows from row `r` on: empty where the format has no scales. -/
def Block.scaleRows (b : Block) (c : Nat) (d : Desc) : Nat → Nat → MRes (List (List Byte))
  | 0, _ => .ok []
  | n + 1, r =>
    let k := scaleRowBytes d.format (nth d.ext 0)
    (if k = 0 then MRes.ok [] else b.readVa c (d.scaleBase + r * k) k).bind fun y =>
    (b.scaleRows c d n (r + 1)).bind fun t => .ok (y :: t)

/-- WATCH (R444 to R446): the descriptor is the one that QFE read. -/
def execWatch (q i : Nat) (s : State) : Host.Outcome State Fault Refusal :=
  s.core fun b => b.runCmd q i 0x40 fun c b => match c.op with
    | .watch mode h r =>
      let d := descFor c.descs h
      let b := d.footprint.foldl (fun b x => b.touchRange c.ctx x.1 x.2 (some (.cmd q i))) b
      let n := if d.isEmpty then 0 else d.rows
      b.access c c.ctx d.base d.reach false (b.tensorRows c.ctx d n 0) fun xs =>
        b.access c c.ctx d.scaleBase d.scaleLen false (b.scaleRows c.ctx d n 0) fun ys =>
          b.access c c.ctx r 64 true (b.resolveN c.ctx needWr true r 64) fun ps =>
            let b := d.footprint.foldl (fun b x => b.countBursts c.q x.1 x.1 x.2 []) b
            (b.putBytes ps (watchResult mode d (xs.zip ys))).endCmd q i 0
    | _ => b

end Sys2Proof.Machine
end

