-- ==== Sys2Proof/Machine/Kernel.lean ====
section
/-!
DEFINITION. The rows of the kernel commands on mappings, queues, wicks and frames (R45, R48, R51, R55, R62, R65, R67, R68,
R121, R128, R254, R270, R273, R276, R294, R295).
-/
namespace Sys2Proof.Machine

/-- Pins are taken again (R294 step 5). -/
def Block.takePins (b : Block) (ids : List Nat) : Block :=
  { b with maps := mapIf (fun m => ids.contains m.id) (fun m => { m with noPins := m.noPins - 1 }) b.maps }

/-- What the early end of a command undoes (R399, R45): a list command frees its version, an UNMAP or INV_RANGE lets its range take
pins again, a shrink keeps its engines. -/
def Block.undoEnd (b : Block) (c : Cmd) : Block :=
  match c.op with
  | .listLoad .. => b.dropLoadOf c
  | .listPatch .. => b.dropLoadOf c
  | .unmap .. => b.takePins (c.left.map (·.1))
  | .invRange .. => b.takePins (c.left.map (·.1))
  | .harnessShrink h _ _ =>
    let es := c.left.map (·.1)
    let x := b.harness h
    b.setHarness h { x with
      cores := b.placeOrder x.home (x.cores ++ es.filter (· < unitBase))
      units := b.placeOrder x.home (x.units ++ es.filter (unitBase ≤ ·)) }
  | _ => b

/-- A kernel command meets the state of its target context (R39, R45, R130, R214; log entry 25): a context that is lost ends it whether it
has started or not. -/
def Block.kernel (b : Block) (c : Cmd) (f : Block → Block) : Block :=
  match c.op.target with
  | none => f b
  | some t =>
    if b.ctxLost t ∧ !c.op.onLost then (if c.phase = .running then b.undoEnd c else b).endCmd c.q c.i 0x32
    else if c.phase = .running then f b
    else
      if b.ctxFree t ∧ c.opcode ≠ 0x88 ∧ c.opcode ≠ 0xB1 then b.endCmd c.q c.i 0x13
      else if b.ctxClosing t ∧ c.op.adds then b.endCmd c.q c.i (if c.opcode = 0x90 ∨ c.opcode = 0x91 then 0x31 else 0x13)
      else f b

/-! ### Mappings -/

/-- MAP at execution (R62, R273, R276). -/
def Block.doMap (b : Block) (c : Cmd) (m : MapP) : Block :=
  let ats := (b.ctx m.ctx).ats
  if b.maps.any fun x => x.ctx = m.ctx ∧ overlaps x.va x.len m.va m.len then b.endCmd c.q c.i 0x12
  else if !ats ∧ (b.pool (b.field Reg.ZT_CTL 11 8)).length < b.tablesNeeded m.ctx m.len m.backed then b.endCmd c.q c.i 0x14
  else
    let id := b.nextMap
    let r := if ats then (0, b) else b.takeRecord m.ctx
    let b := if ats ∨ m.backed then r.2 else r.2.takeTables m.ctx id (b.field Reg.ZT_CTL 11 8) (pageFrames m.len)
    let x : Mapping := {
      id := id, ctx := m.ctx, va := m.va, len := m.len, rd := m.rd, wr := m.wr, at_ := m.at_, sharedRo := m.sharedRo
      golden := m.golden, goldenAddr := m.goldenAddr, backed := m.backed, backing := m.backing, recFrame := r.1 }
    { b with maps := b.maps ++ [x], nextMap := id + 1 }.endCmd c.q c.i 0

/-- MAP (R273). -/
def execMap (q i : Nat) (s : State) : Host.Outcome State Fault Refusal :=
  s.core fun b => b.runCmd q i 0x80 fun c b => match c.op with
    | .map m => b.kernel c fun b => b.doMap c m
    | _ => b

/-- New pins stop on mappings (R65). -/
def Block.stopPins (b : Block) (ids : List Nat) : Block :=
  { b with maps := mapIf (fun m => ids.contains m.id) (fun m => { m with noPins := m.noPins + 1 }) b.maps }

/-- The mapping goes once its pins have drained and none of its pages is MIGRATING (log entry 99): the command ends and the epoch
advances (R421). -/
def Block.tryUnmap (b : Block) (c : Cmd) (id : Nat) : Block :=
  match b.map? id with
  | none => b.endCmd c.q c.i 0
  | some m =>
    if m.pins ≠ 0 ∨ m.movesIn 0 (2 ^ 65) then b
    else
      let r := (b.unmapWork id 2).unmapEnd id
      if r.1 then r.2.bumpEpoch.endCmd c.q c.i 0 else r.2

/-- UNMAP (R295): it waits until the pins of its mapping have drained. DEDUCED (log entry 104): a mapping that has gone since the command
was validated gives ERR_HANDLE. -/
def execUnmap (q i : Nat) (s : State) : Host.Outcome State Fault Refusal :=
  s.core fun b => b.runCmd q i 0x81 fun c b => match c.op with
    | .unmap t va => b.kernel c fun b =>
      if c.phase = .running then b.tryUnmap c ((c.left.map (·.1)).headD 0)
      else match b.maps.find? fun m => m.ctx = t ∧ m.va = va with
        | none => b.endCmd q i 0x13
        | some m =>
          let b := b.modCmd q i fun c => { c with phase := .running, left := [(m.id, 0)] }
          (b.stopPins [m.id]).tryUnmap c m.id
    | _ => b

/-- Steps 2 to 5 of INV_RANGE (R294) on the mappings `ids` that the range touched, none of whose pages in it is MIGRATING (log entry
99). -/
def Block.tryInvRange (b : Block) (c : Cmd) (ctx va len : Nat) (ids : List Nat) : Block :=
  if b.maps.any fun m => ids.contains m.id ∧ (m.pins ≠ 0 ∨ m.movesIn va (va + len)) then b
  else
    let b := b.dropRange ctx va len
    let b := ids.foldl (fun b id => b.demote id 3 va (va + len)) b
    if ids.any b.entriesLeft then b
    else (b.takePins ids).bumpEpoch.endCmd c.q c.i 0

/-- INV_RANGE (R294). -/
def execInvRange (q i : Nat) (s : State) : Host.Outcome State Fault Refusal :=
  s.core fun b => b.runCmd q i 0x82 fun c b => match c.op with
    | .invRange t va len => b.kernel c fun b =>
      if c.phase = .running then b.tryInvRange c t va len (c.left.map (·.1))
      else
        let ids := (b.maps.filter fun m => m.ctx = t ∧ m.va < va + len ∧ va < m.va + m.len).map (·.id)
        let b := b.modCmd q i fun c => { c with phase := .running, left := ids.map fun id => (id, 0) }
        (b.stopPins ids).tryInvRange c t va len ids
    | _ => b

/-! ### Queues -/

/-- A context opens (R39, R123). -/
def Block.openCtx (b : Block) (c pasid stall : Nat) : Block :=
  b.setCtx c { b.ctx c with st := .opn, pasid := pasid, stallUs := if stall = 0 then Config.defaultStallUs else stall, lostCode := 0 }

/-- The lowest-numbered free hardware queue (R47). -/
def Block.freeQueue? (b : Block) : Option Nat := firstNat (fun q => (b.queue q).st = .unused) 0 Config.numQueues

/-- QUEUE_CREATE once its checks pass (R47, R49, R161, R163). -/
def Block.createQueue (b : Block) (p : QCreate) : Block :=
  match b.freeQueue? with
  | none => b
  | some q =>
    let m := 2 * (2 ^ p.ringLog2 / 64)
    b.setQueue q {
      st := .active, ctx := p.ctx, qidx := p.qidx, cls := p.cls, svc := p.svc, ringBase := p.ringBase, ringLog2 := p.ringLog2
      harness := some p.harness, dbCount := p.start, startIndex := p.start, fetched := p.start % m, completed := p.start % m
      anchor := if p.cls = 2 then b.cadence else 0, span := if p.cls = 2 then b.reg Reg.RTQ_DEFAULT_SPAN else 0 }

/-- QUEUE_CREATE at execution (R48, R270). -/
def Block.doCreate (b : Block) (c : Cmd) (p : QCreate) : Block :=
  match b.queueArgs p c.stallUs with
  | .bad st => b.endCmd c.q c.i st
  | _ =>
    if !b.queueRoom p ∨ (b.bootmap ∧ p.ctx ≠ 0) then b.endCmd c.q c.i 0x14
    else
      let b := if b.ctxFree p.ctx then b.openCtx p.ctx p.pasid p.stallUs else b
      (b.createQueue p).endCmd c.q c.i 0

/-- QUEUE_CREATE (R48). -/
def execQueueCreate (q i : Nat) (s : State) : Host.Outcome State Fault Refusal :=
  s.core fun b => b.runCmd q i 0x88 fun c b => match c.op with
    | .queueCreate p => b.kernel c fun b => b.doCreate c p
    | _ => b

/-- The state that QUEUE_DESTROY gives a queue (R51). -/
def QState.destroyed (s : QState) (abort : Bool) : QState :=
  match s with
  | .active => if abort then .aborting else .draining
  | .halted => if abort then .aborting else .draining
  | .draining => if abort then .aborting else .draining
  | .lost => .aborting
  | s => s

/-- Whether a queue of a context still takes no part in its end (R39). -/
def Block.hasLiveQueue (b : Block) (c : Nat) : Bool :=
  b.queues.any fun kv => kv.2.ctx = c ∧ (kv.2.st = .active ∨ kv.2.st = .halted ∨ kv.2.st = .lost)

/-- QUEUE_DESTROY on hardware queue `t` (R39, R51, R55): nothing of it waits for room any longer (R242). -/
def Block.destroyQueue (b : Block) (t : Nat) (abort : Bool) : Block :=
  let x := b.queue t
  let n := x.st.destroyed abort
  let b : Block := { b with waitHold := b.waitHold.filter (· ≠ t) }.setQueue t { x with st := n }
  let b := if n = .aborting then
      let b := b.discard t false
      (b.cmds.filter fun c => c.q = t ∧ c.runsStitches ∧ c.phase = .running).foldl (fun b c => b.abortCmd c.q c.i 0x31) b
    else b
  let k := (b.ctx x.ctx).st
  let b := if !b.hasLiveQueue x.ctx ∧ (k = .opn ∨ k = .saved ∨ k = .lost) then b.beginClosing x.ctx else b
  (b.fixDeadlines).settleQueue t

/-- QUEUE_DESTROY (R55): it ends when the queue is UNUSED. DEDUCED (log entry 104): a queue that has gone since the command was
validated gives ERR_HANDLE. -/
def execQueueDestroy (q i : Nat) (s : State) : Host.Outcome State Fault Refusal :=
  s.core fun b => b.runCmd q i 0x89 fun c b => match c.op with
    | .queueDestroy t k abort => b.kernel c fun b =>
      match b.queueOf? t k with
      | none => b.endCmd q i (if c.phase = .running then 0 else 0x13)
      | some x => if c.phase = .running then b.settleQueue x else (b.setRunning q i).destroyQueue x abort
    | _ => b

/-! ### Wicks -/

/-- WICK_ALLOC (R67, R121). -/
def execWickAlloc (q i : Nat) (s : State) : Host.Outcome State Fault Refusal :=
  s.core fun b => b.runCmd q i 0xA0 fun c b => match c.op with
    | .wickAlloc t v x => b.kernel c fun b =>
      match b.vid t v, b.freeSlot? with
      | .free, some s => (b.allocVid t v s x).endCmd q i 0
      | _, _ => b.endCmd q i 0x14
    | _ => b

/-- Whether a fetched command names a virtual ID of its context. -/
def Block.cmdNames (b : Block) (c : Cmd) (v : Nat) : Bool :=
  (c.waits.any (·.wick = v)) || (c.sigs.any (·.wick = v)) || (match c.op with
    | .launchPersist _ _ _ w _ => w = v
    | _ => false) || (match c.version with
    | some (l, e) => (((b.version? c.ctx l e).map fun x => x.sum.wicks.contains v).getD false)
    | none => false)

/-- Whether a waiter record or a fetched command of a context names a virtual ID (R68, R257). -/
def Block.vidNamed (b : Block) (ctx v : Nat) : Bool :=
  (b.cmds.any fun c => c.ctx = ctx ∧ b.cmdNames c v) || b.waiters.any fun w => match w.who with
    | .task c t => c = ctx ∧ ((b.task? c t).map (·.wick)) = some v
    | .engine e => decide (((b.eng e).wickWait.map (·.1)) = some v) && (match (b.eng e).use with
      | .task c _ => c = ctx
      | _ => false)
    | _ => false

/-- WICK_FREE (R68). DEDUCED (log entry 104): a wick that has gone since the command was validated gives ERR_HANDLE. -/
def execWickFree (q i : Nat) (s : State) : Host.Outcome State Fault Refusal :=
  s.core fun b => b.runCmd q i 0xA1 fun c b => match c.op with
    | .wickFree t v => b.kernel c fun b =>
      if b.vid t v = .free then b.endCmd q i 0x13
      else if b.vidNamed t v then b.endCmd q i 0x14
      else (b.freeVid t v).endCmd q i 0
    | _ => b

/-- WICK_EXPORT (R69, R254): the token is written in place (R275). DEDUCED (log entry 104): a wick that has gone since the command was
validated gives ERR_HANDLE, and one that has become an import ERR_ARG. -/
def execWickExport (q i : Nat) (s : State) : Host.Outcome State Fault Refusal :=
  s.core fun b => b.runCmd q i 0xA2 fun c b => match c.op with
    | .wickExport t v a => b.kernel c fun b =>
      match b.vid t v with
      | .free => b.endCmd q i 0x13
      | .imported _ _ => b.endCmd q i 0x12
      | .owned k =>
        let b := b.touch t a (some (.cmd q i))
        b.access c t a 8 true (b.writeVa t a (leBytes 8 (b.token k))) fun b =>
          (b.setSlot k { b.slot k with exported := true, everExported := true }).endCmd q i 0
    | _ => b

/-! ### Frames -/

/-- FRAME_SUPPLY (R128, R287): all frames or none. The addresses that step 5 checked are read again as it starts, and judged again
(log entry 104). -/
def execFrameSupply (q i : Nat) (s : State) : Host.Outcome State Fault Refusal :=
  s.core fun b => b.runCmd q i 0xC0 fun c b => match c.op with
    | .frameSupply p a n => b.kernel c fun b =>
      let b := b.touchRange c.ctx a (8 * n) (some (.cmd q i))
      b.access c c.ctx a (8 * n) false (b.readVa c.ctx a (8 * n)) fun bs =>
        let b := b.countBursts q a a (8 * n) []
        let fs := words64 bs
        if !fs.all b.frameOk then b.endCmd q i 0x12
        else if b.poolRoom p < n then b.endCmd q i 0x14
        else
          let b := b.setPool p (b.pool p ++ fs)
          let b := b.ledgerTerm fun l => { l with supplied := Tab.set (fun _ => 0) l.supplied p (Tab.get (fun _ => 0) l.supplied p + n) }
          b.resumeFrames.endCmd q i 0
    | _ => b

end Sys2Proof.Machine
end

