-- ==== Sys2Proof/Machine/Work.lean ====
section
/-!
DEFINITION. Work on engines: beats and ends of invocations (R203 to R205), drains (R138, R401), task items (R178 to R184) and
stalls (R136 to R139, R398 to R400).
-/
namespace Sys2Proof.Machine

/-! ### Engines -/

/-- PROGRESS_BEAT (R204, R136): a stitch with BEAT retires on engine `e`, with every one before it, and the counter of the work
advances. -/
def execProgressBeat (e : Nat) (s : State) : Host.Outcome State Fault Refusal :=
  s.core fun b =>
    let x := b.eng e
    match toBeat x.inv x.synced x.inq with
    | some (l, i) => if b.executes e then (b.setEng e { x with inq := l, synced := false, retired := i }).beatEng e else b
    | none => b

/-- One invocation of engine `e` taken off a list of those left. -/
def takeInv (e : Nat) (l : List (Nat × Nat)) : List (Nat × Nat) := mapIf (fun (x : Nat × Nat) => x.1 = e) (fun x => (x.1, x.2 - 1)) l

/-- Engine `e` ends an invocation (R204): its beat, then its next invocation's arguments, or the end of the work once no
engine has one left. -/
def Block.endInvocation (b : Block) (e : Nat) : Block :=
  let b := b.beatEng e
  let b := b.setEng e { b.eng e with inv := (b.eng e).inv + 1, args := [], synced := false, starved := false }
  match (b.eng e).use with
  | .free => b
  | .cmd q i =>
    let b := b.modCmd q i fun c => { c with left := takeInv e c.left }
    let done := ((b.cmd? q i).map fun c => c.left.all (·.2 = 0)).getD false
    if done then b.endCmd q i 0 else if 0 < b.invLeft e then b.loadArgs e else b
  | .task c t =>
    let b := b.modTask c t fun t => { t with item := t.item.map fun x =>
      let l := takeInv e x.left
      { x with left := l, ended := if l.all (·.2 = 0) then some 0 else none } }
    if 0 < b.invLeft e then b.loadArgs e else b

/-- Whether every stitch of the invocation that engine `e` runs is delivered. -/
def Block.allDelivered (b : Block) (e : Nat) : Bool :=
  (((b.eng e).use.work?.bind b.lane?).map fun l => decide ((b.eng e).inv < l.inv)).getD false

/-- ENGINE_INVOCATION_END (R204): every stitch of the invocation is delivered, those left have retired, and the writes are visible. -/
def execEngineInvocationEnd (e : Nat) (s : State) : Host.Outcome State Fault Refusal :=
  s.core fun b =>
    let x := b.eng e
    match toEnd x.inv x.synced x.inq with
    | some l => if b.executes e ∧ b.allDelivered e then (b.setEng e { x with inq := l }).endInvocation e else b
    | none => b

/-- The item of a task whose cancellation waited for its engines ends. -/
def Block.settleItem (b : Block) (c t : Nat) : Block :=
  match b.task? c t with
  | none => b
  | some x => match x.item with
    | some y => match y.cancel with
      | some st => if b.allQuiet x.engs ∧ st ≠ retryStep then b.modTask c t fun t => { t with item := some { y with ended := some st } } else b
      | none => b
    | none => b.settleTask c t

/-- The mark of a drain whose limit has been recorded. -/
abbrev drainNoted : Nat := 2 ^ 40

/-- Whether the work of engine `e` is cancelled. -/
def Block.cancelled (b : Block) (e : Nat) : Bool := match (b.eng e).use with
  | .free => false
  | .cmd q i => ((b.cmd? q i).map fun c => c.cancel.isSome).getD false
  | .task c t => (((b.task? c t).bind (·.item)).map fun x => x.cancel.isSome).getD false

/-- An engine has drained: it holds its work, quiet, or is free; cancelled work whose engines have all drained ends. One that was recorded
as undrained keeps its cancelled work until it is reset (R401). -/
def Block.drained (b : Block) (e : Nat) : Block :=
  let x := b.eng e
  if !x.draining ∨ (drainNoted ≤ x.drainCycles ∧ b.cancelled e) then b
  else
    let b := b.setEng e { x with draining := false, drainCycles := 0, quiet := decide (x.use ≠ .free) }
    match x.use with
    | .free => b
    | .cmd q i => b.settleCmd q i
    | .task c t => b.settleItem c t

/-- ENGINE_DRAINED (R138, R207). -/
def execEngineDrained (e : Nat) (s : State) : Host.Outcome State Fault Refusal := s.core fun b => b.drained e

/-- An engine that did not drain in time is recorded (R401). -/
def Block.undrained (b : Block) (e : Nat) : Block :=
  let x := b.eng e
  let b := b.setEng e { x with drainCycles := drainNoted }
  let b := if bit (b.reg Reg.RC_UNDRAINED) 31 then b.count Reg.RC_UNDRAINED 23 16 1
    else b.setReg Reg.RC_UNDRAINED (2 ^ 31 + 2 ^ 16 + engCode e)
  b.event pgRc 9 0 (engCode e)

/-- DRAIN_LIMIT_EXPIRY (R401): once for each drain. -/
def execDrainLimitExpiry (e : Nat) (s : State) : Host.Outcome State Fault Refusal :=
  s.core fun b =>
    let x := b.eng e
    if x.draining ∧ x.drainCycles < drainNoted ∧ b.field Reg.RC_DRAIN_LIMIT 15 0 * Config.cyclesUs ≤ x.drainCycles then b.undrained e
    else b

/-! ### Task items -/

/-- The address of item `i` of a task (R178). -/
def Task.itemVa (t : Task) (i : Nat) : Nat := t.ring + i % (2 ^ t.log2 / 64) * 64

/-- The items published: the VALUE of TASK_WICK, and whether the wick still counts. -/
def Block.published (b : Block) (t : Task) : Nat := match b.slotOf t.ctx t.wick with
  | some s => if (b.slot s).snuffed then 0 else (b.slot s).value
  | none => 0

/-- Whether a task takes its next item now (R33, R178, R181, R182, R139). -/
def Block.takesItem (b : Block) (t : Task) : Bool :=
  !t.halted && !t.unbinding && !t.stalled && t.item.isNone && decide (t.next < b.published t)
    && (match t.stopAt with
      | some n => decide (t.next < n)
      | none => true)
    && t.engs.all fun e => (b.eng e).lit && !(b.eng e).gated && !(b.eng e).draining && !b.heldStep e

/-- The status with which an item ends as it is taken (R179, R181), if it does not run. -/
def Block.itemStatus (b : Block) (ctx : Nat) (x : Item) : Option Nat :=
  if x.argAddr % 64 ≠ 0 ∨ (x.argLen = 0 ∧ x.argAddr ≠ 0) then some 0x12
  else if x.hasSig ∧ !b.sigOk ctx x.sig then some 0x13
  else if x.reps = 0 then some 1
  else none

/-- Engine state at the start of an item and after one: nothing queued, no invocation behind it. -/
def Engine.rewind (x : Engine) : Engine := { x.clearQueue with inv := 0, args := [], quiet := false, delivered := 0, retired := 0, waitCycles := 0 }

/-- An item whose eight words are read (R179 to R181): it runs on the engines whose kind has a stitch in its version (R205). -/
def Block.startItem (b : Block) (t : Task) (w : List Nat) : Block :=
  let take (x : Item) : Block := { b with waiters := b.waiters.filter fun r => r.who ≠ WaitFor.task t.ctx t.id }.modTask t.ctx t.id
    fun t => { t with next := t.next + 1, item := some x, budget := 0 }
  match itemOf t.next w with
  | none => take { idx := t.next, ended := some 0x10 }
  | some x => match b.itemStatus t.ctx x with
    | some st => take { x with ended := some st }
    | none =>
      let left := b.invsOf t.ctx (t.listId, t.epoch) t.engs x.reps
      let on := (left.filter (·.2 ≠ 0)).map (·.1)
      let b := take { x with left := left, ended := if on.isEmpty then some 0 else none }
      let b := t.engs.foldl (fun b e => b.setEng e (b.eng e).rewind) b
      if on.isEmpty then b else on.foldl Block.loadArgs (b.openLane (.task t.ctx t.id) t.ctx (t.listId, t.epoch) x.reps)

/-- An access of a task's ring that fails (R181, R298, R538): the task is HALTED, or its context lost where registers invalidated the
range. -/
def Block.itemFault (b : Block) (ctx task va st : Nat) : Block :=
  if b.deadRange ctx va 64 then b.loseCtx ctx 0x20 none else b.haltTask ctx task st

/-- TASK_ITEM_TAKE (R180): the item is read once, with no decision; poison loses the context (R418). -/
def execTaskItemTake (ctx task : Nat) (s : State) : Host.Outcome State Fault Refusal :=
  s.core fun b => match b.task? ctx task with
    | none => b
    | some t =>
      if b.takesItem t then
        let va := t.itemVa t.next
        let b := b.touch ctx va (some (.task ctx task))
        match b.readVa ctx va 64 with
        | .ok bs => b.viaHome ctx va 64 (b.startItem t (words64 bs))
        | .poison a x => (b.notePoison ctx a x).loseCtx ctx 0x40 none
        | .bad st => b.itemFault ctx task va st
        | m => b.meet ctx (.task ctx task) false m
      else b

/-- The end of an item whose STATUS is written: its signal, then the task's next step (R180 to R182, R417). -/
def Block.finishItem (b : Block) (t : Task) (x : Item) (st : Nat) : Block :=
  let b := if st ≤ 1 ∧ x.hasSig then b.sigAll t.ctx [x.sig] else b
  let b := t.engs.foldl (fun b e => b.setEng e (b.eng e).rewind) (b.dropLane (.task t.ctx t.id))
  let b := b.modTask t.ctx t.id fun t => { t with item := none, budget := 0, stalled := false, bp := none }
  let b := if 1 < st ∧ st ≠ 0x41 ∧ !t.unbinding then b.haltTask t.ctx t.id st else b.settleTask t.ctx t.id
  match b.task? t.ctx t.id with
  | some t => if t.halted ∨ t.unbinding then b else b.waitItem t
  | none => b

/-- TASK_ITEM_COMPLETION (R180): STATUS is written in place, as a ring's is (R86); a fault there halts the task with FAULT_XLAT, STATUS
unwritten and the signal not delivered (R538). An item that has stalled meanwhile waits (R398). -/
def execTaskItemCompletion (ctx task : Nat) (s : State) : Host.Outcome State Fault Refusal :=
  s.core fun b => match b.task? ctx task with
    | none => b
    | some t => match t.item with
      | none => b
      | some x => match x.ended with
        | none => b
        | some st =>
          if t.stalled then b
          else match b.writeHome ctx (t.itemVa x.idx + 7) [BitVec.ofNat 8 st] needRd with
            | .ok b => b.finishItem t x st
            | .poison a y => (b.notePoison ctx a y).loseCtx ctx 0x40 none
            | .bad _ => b.itemFault ctx task (t.itemVa x.idx) 0x20
            | m => b.meet ctx (.task ctx task) false m

/-! ### Stalls -/

/-- Whether the stall budget of a command runs (R137). -/
def Block.cmdBudgetRuns (b : Block) (c : Cmd) : Bool :=
  !c.stalled && c.bp.isNone && (b.faulting (.cmd c.q c.i) || (match c.phase with
    | .ready => b.waitsLeft c
    | .decided => !c.needsPlace && decide (c.opcode ≠ 0x39)
    | .placing => false
    | .running => c.cancel.isNone && decide (c.opcode ≠ 0x39)
    | .ended _ => false))

/-- Whether engines of a task work its item: it has not ended, and is not cancelled. -/
def Task.works (t : Task) : Bool := (t.item.map fun x => x.ended.isNone && x.cancel.isNone).getD false

/-- Whether the stall budget of a task runs (R139): it works an item, or an item that it is to take is published. -/
def Block.taskBudgetRuns (b : Block) (t : Task) : Bool :=
  !t.stalled && t.bp.isNone && !t.halted && !t.unbinding && (t.works || (decide (t.next < b.published t) && (match t.stopAt with
    | some n => decide (t.next < n)
    | none => true)))

/-- A command stalls (R138, R442): its engines drain and a STALL event is raised. -/
def Block.stallCmd (b : Block) (c : Cmd) : Block :=
  let b := b.modCmd c.q c.i fun c => { c with stalled := true, stalls := c.stalls + 1, bp := none }
  let b := c.engs.foldl Block.drainEng b
  let b := b.cinderRec 0x03 0x30 c.ctx (qCode c.qidx c.i)
  b.event pgRc 8 c.ctx (qCode c.qidx c.i)

/-- A task item stalls. -/
def Block.stallTask (b : Block) (t : Task) : Block :=
  let b := b.modTask t.ctx t.id fun t => { t with stalled := true, stalls := t.stalls + 1, bp := none }
  let b := t.engs.foldl Block.drainEng b
  let b := b.cinderRec 0x03 0x30 t.ctx t.id
  b.event pgRc 8 t.ctx (tCode t.id)

/-- STALL_BUDGET_EXPIRY (R138): once a whole budget of µs has passed without progress. -/
def execStallBudgetExpiry (w : Work) (s : State) : Host.Outcome State Fault Refusal :=
  s.core fun b => match w with
    | .cmd q i => match b.cmd? q i with
      | some c => if b.cmdBudgetRuns c ∧ b.budgetUs c.ctx c.stallUs ≤ c.budget / Config.cyclesUs then b.stallCmd c else b
      | none => b
    | .task c t => match b.task? c t with
      | some t => if b.taskBudgetRuns t ∧ t.stallUs ≤ t.budget / Config.cyclesUs then b.stallTask t else b
      | none => b

/-- Whether stalled work runs on engines or on the block DMA, and so does not resume by itself (R400). -/
def Cmd.onEngines (c : Cmd) : Bool :=
  !c.engs.isEmpty || (decide (c.phase = .running) && (decide (c.opcode = 0x20) || decide (c.opcode = 0x21)))

/-- The stop request of engine `e` is withdrawn (R207): it goes on, with its argument record. -/
def Block.resumeEng (b : Block) (e : Nat) : Block :=
  let b := b.setEng e { b.eng e with draining := false, quiet := false, drainCycles := 0 }
  if b.ready e ∧ b.wantsArgs e then b.loadArgs e else b

/-- A command resumes (R138, R399); it may be eligible now (R161). -/
def Block.resumeCmd (b : Block) (c : Cmd) : Block :=
  (c.engs.foldl Block.resumeEng (b.modCmd c.q c.i fun c => { c with stalled := false, budget := 0 })).fixDeadlines

def Block.resumeTask (b : Block) (t : Task) : Block :=
  t.engs.foldl Block.resumeEng (b.modTask t.ctx t.id fun t => { t with stalled := false, budget := 0 })

/-- STALL_AUTO_RESUME (R400): the progress counter has advanced since the stall. -/
def execStallAutoResume (w : Work) (s : State) : Host.Outcome State Fault Refusal :=
  s.core fun b => match w with
    | .cmd q i => match b.cmd? q i with
      | some c => if c.stalled ∧ c.budget = 0 ∧ !c.onEngines then b.resumeCmd c else b
      | none => b
    | .task c t => match b.task? c t with
      | some t => if t.stalled ∧ t.budget = 0 ∧ !t.works then b.resumeTask t else b
      | none => b

/-- The stalled work that RC_STALL_Q and RC_STALL_IDX name (R399). -/
def Block.stalledCmd? (b : Block) : Option Cmd :=
  if bit (b.reg Reg.RC_STALL_Q) 31 then none
  else b.cmds.find? fun c => c.stalled ∧ c.ctx = b.field Reg.RC_STALL_Q 15 4 ∧ c.qidx = b.field Reg.RC_STALL_Q 3 0
    ∧ c.i = b.field Reg.RC_STALL_IDX 20 0
def Block.stalledTask? (b : Block) : Option Task :=
  if bit (b.reg Reg.RC_STALL_Q) 31 then
    b.tasks.find? fun t => t.stalled ∧ t.ctx = b.field Reg.RC_STALL_Q 15 4 ∧ t.id = b.field Reg.RC_STALL_IDX 15 0
  else none

/-- The answer of RC_STALL_CMD (R399): BUSY reads 1 for a free time of at most 2 µs (log entry 107). -/
def Block.stallRes (b : Block) (st : Nat) : Block :=
  let t := b.busyTime 2
  { t.2 with stallBusy := t.1 }.setReg Reg.RC_STALL_RES st

/-- RESUME (R399). -/
def Block.stallOpResume (b : Block) : Block :=
  match b.stalledCmd?, b.stalledTask? with
  | some c, _ => (b.resumeCmd c).stallRes 0
  | _, some t => (b.resumeTask t).stallRes 0
  | _, _ => b.stallRes 0x13

/-- A stalled command ends with STALL (R399), whatever it had ended with before its STATUS was written. -/
def Block.endStalled (b : Block) (c : Cmd) : Block :=
  ((if c.phase = .running then b.undoEnd c else b).endCmd c.q c.i 0x30).restatus c.q c.i 0x30

/-- A stalled task item ends with STALL (R399), the engines having drained. -/
def Block.endStalledItem (b : Block) (t : Task) (x : Item) : Block :=
  ((b.dropLane (.task t.ctx t.id)).clearQueues t.engs).modTask t.ctx t.id fun t => { t with
    stalled := false, bp := none, item := some { x with cancel := some 0x30, ended := some 0x30 } }

/-- END (R399): ERR_BUSY while an engine of the work has not drained. -/
def Block.stallOpEnd (b : Block) : Block :=
  match b.stalledCmd?, b.stalledTask? with
  | some c, _ =>
    if b.allQuiet c.engs then (b.endStalled c).stallRes 0
    else b.stallRes 0x14
  | _, some t =>
    if b.allQuiet t.engs then
      match t.item with
      | some x => (b.endStalledItem t x).stallRes 0
      | none => ((b.modTask t.ctx t.id fun t => { t with stalled := false }).haltTask t.ctx t.id 0x30).stallRes 0
    else b.stallRes 0x14
  | _, _ => b.stallRes 0x13

/-- STALL_RESUME (R399). -/
def execStallResume (path : Nat) (s : State) : Host.Outcome State Fault Refusal :=
  s.write path Reg.RC_STALL_CMD fun b => b.stallOpResume

/-- STALL_END (R399). -/
def execStallEnd (path : Nat) (s : State) : Host.Outcome State Fault Refusal :=
  s.write path Reg.RC_STALL_CMD fun b => b.stallOpEnd

end Sys2Proof.Machine
end

