-- ==== Sys2Proof/Machine/Recovery.lean ====
section
/-!
DEFINITION. The Recovery Controller: the watchdog (R402), the escalation ladder (R404 to R409), job membership (R410, R411)
and poison (R415 to R419).
-/
namespace Sys2Proof.Machine

/-! ### The watchdog -/

/-- The mark of a period that has lapsed: the next one starts with a pet or a write of HANG_WD_CTL (log entry 14). -/
abbrev wdLapsed : Nat := 2 ^ 60

/-- WATCHDOG_PET (R402): from either port, without the semaphore (R429). -/
def execWatchdogPet (path : Nat) (s : State) : Host.Outcome State Fault Refusal :=
  s.write path Reg.HANG_WD fun b => { b with wdCycles := 0 }

/-- WATCHDOG_LAPSE (R402): a whole period without a pet; it resets nothing. -/
def execWatchdogLapse (s : State) : Host.Outcome State Fault Refusal :=
  s.core fun b =>
    let ms := b.field Reg.HANG_WD_CTL 15 0
    if ms ≠ 0 ∧ b.wdCycles < wdLapsed ∧ ms * Config.cyclesMs ≤ b.wdCycles then
      let b := { b with wdCycles := wdLapsed }.setField Reg.HANG_WD_CTL 31 31 1
      (b.cinderRec 0x0F 0 0 0).event pgRc 13
    else b

/-! ### Job membership -/

/-- A write of RC_JOB_CTL with VALID = 1 (R410). -/
def Block.jobCommit (b : Block) (path v : Nat) : Block :=
  let c := b.field Reg.RC_JOB_SEL 11 0
  let x := b.ctx c
  let job := b.stagedOr path Reg.RC_JOB_ID x.job
  let b := b.unstagePath path fun a => a = Reg.RC_JOB_ID
  if c = 0 ∨ x.st ≠ .opn ∨ job = 0 then b.pageErr path Reg.RC_JOB_CTL
  else b.setCtx c { x with job := job, jobPorts := bits v 7 0, jobValid := true }

/-- A write of RC_JOB_CTL with VALID = 0 (R410). -/
def Block.jobEnd (b : Block) : Block :=
  let c := b.field Reg.RC_JOB_SEL 11 0
  b.setCtx c { b.ctx c with job := 0, jobPorts := 0, jobValid := false }

/-- JOB_MEMBERSHIP_COMMIT (R410). -/
def execJobMembershipCommit (path : Nat) (v : BitVec 32) (s : State) : Host.Outcome State Fault Refusal :=
  s.write path Reg.RC_JOB_CTL fun b => b.jobCommit path v.toNat

/-- JOB_MEMBERSHIP_END (R410). -/
def execJobMembershipEnd (path : Nat) (s : State) : Host.Outcome State Fault Refusal :=
  s.write path Reg.RC_JOB_CTL fun b => b.jobEnd

/-- Jobs with a member context, each once (R411). -/
def Block.jobs (b : Block) : List Nat := dedup ((b.ctxs.filter fun kv => kv.2.jobValid).map fun kv => kv.2.job)

/-- ERR_EVENT_POST (R411): the Recovery Controller's posting for a job that has a local member. The causes of R411 post within
their own rows. -/
def execErrEventPost (abort : Bool) (job : BitVec 32) (code : BitVec 8) (s : State) : Host.Outcome State Fault Refusal :=
  s.core fun b => if b.jobs.contains job.toNat then b.postErr abort job.toNat code.toNat else b

/-! ### Engine resets -/

/-- The context whose work a reset of engine `e` cancels (R407): none where the work has ended or is cancelled already, or its task is
HALTED. -/
def Block.workCtx (b : Block) (e : Nat) : Option Nat :=
  match (b.eng e).use with
  | .free => none
  | .cmd q i => (b.cmd? q i).bind fun c => match c.phase with
    | .ended _ => none
    | _ => if c.cancel.isNone then some c.ctx else none
  | .task c t => (b.task? c t).bind fun x => match x.item with
    | some y => if y.cancel.isNone then some c else none
    | none => if x.halted then none else some c

/-- The work of an engine cancelled with ABORTED, its signal wicks left alone (R407): a task without an item is HALTED at once. -/
def Block.cancelWork (b : Block) (e : Nat) : Block :=
  match (b.eng e).use with
  | .free => b
  | .cmd q i => b.cancelCmd q i 0x31
  | .task c t => match b.task? c t with
    | none => b
    | some x => match x.item with
      | some y =>
        if y.ended.isSome then b.modTask c t fun x => { x with item := some { y with cancel := some 0x31, ended := some 0x31 } }
        else b.cancelItem c t 0x31
      | none => if x.halted then b else b.haltTask c t 0x31

/-- What a reset of an engine clears (R407): it has drained, and its control core leaves the coherence domain with its write
buffer (R352). -/
def Block.resetEng (b : Block) (e : Nat) : Block :=
  let b := (b.dropEngWait e).ungate e
  let b := if e < unitBase then b.leaveDomain (8 + e) true else b
  let x := b.eng e
  let b := b.setEng e { x.clearQueue with
    tlb := [], args := [], inv := 0, delivered := 0, retired := 0, draining := false, drainCycles := 0, quiet := decide (x.use ≠ .free)
    clearing := false, needClear := true }
  match x.use with
  | .free => b
  | .cmd q i => b.settleCmd q i
  | .task c t => b.settleItem c t

/-- ERROR events for the jobs of contexts whose work a reset cancelled (R411). -/
def Block.postCancelled (b : Block) (cs : List Nat) : Block :=
  cs.foldl (fun b c => if (b.ctx c).jobValid then b.postErr false (b.ctx c).job 0x31 else b) b

/-- An L1 reset (R407): the engine-reset event has one record for each context whose work was cancelled, or one of none. -/
def Block.l1Reset (b : Block) (e : Nat) : Block :=
  let cs := (b.workCtx e).toList
  let b := ((b.cancelWork e).resetEng e).count Reg.RC_L_COUNT0 31 16 1
  let b := if cs.isEmpty then b.event pgHal 10 0 (engCode e) else cs.foldl (fun b c => b.event pgHal 10 c (engCode e)) b
  b.postCancelled cs

/-- The held writes that satisfy `p` are discarded (R321, R407, R417): memory holds what it held before them. -/
def Block.discardHeld (b : Block) (p : HeldWrite → Bool) : Block :=
  let gone := (b.held.filter p).reverse
  { b with
    held := b.held.filter fun w => !p w
    dev := gone.foldl (fun m w => Tab.set memDefault m w.addr w.old) b.dev }

/-- An L2 reset (R407): the harness is in RESET with its engines reset, unlit, and waiting to be lit again; RC_EPOCH advances
(R421). -/
def Block.l2Reset (b : Block) (h : Nat) : Block :=
  let x := b.harness h
  let es := x.cores ++ x.units
  let cs := dedup (es.filterMap b.workCtx)
  let b := b.setHarness h { x with st := .reset }
  let b := es.foldl Block.cancelWork b
  let b := es.foldl Block.resetEng b
  let b := b.discardHeld (·.h = h)
  let b := es.foldl (fun b e => b.setEng e { b.eng e with lit := false }) b
  let b := (b.bumpEpoch).count Reg.RC_L_COUNT1 15 0 1
  let b := if b.st = .ready then b else b.lightEngs es
  b.postCancelled cs

/-! ### Orders -/

/-- Whether the target of an order is valid (R404). -/
def Block.orderTarget (b : Block) (level target : Nat) : Bool :=
  match level with
  | 0 => target ≠ 0 ∧ target < Config.numContexts ∧ (b.ctx target).st ≠ .free
  | 1 => b.inService (ofEngCode target)
  | 2 => target < 64 ∧ (b.harness target).st ≠ .free
  | _ => true

/-- The running order ends (R405): RESULT 0x31 shows that it subsumed another. -/
def Block.endOrder (b : Block) : Block :=
  match b.order with
  | none => b
  | some o =>
    let res := if o.result ≠ 0 then o.result else if o.subsumed then 0x31 else 0
    ({ b with order := none }).setReg Reg.RC_ORDER_STS (o.level * 2 ^ 24 + res * 2 ^ 16 + min 65535 (o.cycles / Config.cyclesUs))

/-- An L3 reset (R407): ABORT for every job with a member, then the core domain, the Recovery Controller's order among it
(R502). -/
def Block.l3Reset (b : Block) : Block :=
  let b := b.jobs.foldl (fun b j => b.postErr true j 0x32) b
  let b := b.count Reg.RC_L_COUNT1 31 16 1
  { b.coreReset with l3Done := true }.resetLedger 2

/-- Steps 2 to 4 of an L4 (R408). -/
def Block.l4Cycle (b : Block) : Block :=
  let b := b.jobs.foldl (fun b j => b.postErr true j 0x32) b
  let b := b.cinderRec 0x10 4 0 0
  let b := { b.coreReset with st := .power, pwr := some {} }
  let b := { b with pins := { b.pins with coreHeld := true, pwrcycReq := true } }
  b.setField Reg.RC_PWR 1 1 1

/-- What an order does (R407). An L0 of a context that is LOST ends at once (R404). -/
def Block.actOrder (b : Block) (o : Order) : Block :=
  let b := { b with order := some { o with acted := true } }
  match o.level with
  | 0 => if (b.ctx o.target).st = .lost then b.endOrder else b.loseCtx o.target 0x32 none
  | 1 => b.l1Reset (ofEngCode o.target)
  | 2 => b.l2Reset o.target
  | 3 => b.l3Reset
  | _ => b.l4Cycle

/-- An order is the running one: BUSY and its LEVEL. -/
def Block.setOrder (b : Block) (o : Order) : Block :=
  let old := b.field Reg.RC_ORDER_STS 23 0
  let b := b.setReg Reg.RC_ORDER_STS (2 ^ 31 + o.level * 2 ^ 24 + old)
  { b with order := some o }

/-- An accepted order (R404, R405): BUSY, its record, and its effect, at once or when the rebuild under way ends. -/
def Block.acceptOrder (b : Block) (level target : Nat) : Block :=
  let o : Order := { level := level, target := target, acted := false, subsumed := b.order.isSome }
  let b := (b.setOrder o).cinderRec 0x04 level 0 target
  if !b.orderTarget level target then (b.setOrder { o with result := 0x12, acted := true }).endOrder
  else if level < 3 ∧ b.down then b
  else b.actOrder o

/-- A write of RC_ORDER whose CONFIRM is right (R404, R405, R408): held during a global stop; an error where the semaphore, or an order
of the same or a higher level that runs or is held, forbids it. -/
def Block.order_ (b : Block) (path level target : Nat) : Block :=
  let busy : Bool := match b.order with
    | some o => decide (level ≤ o.level)
    | none => false
  if level < 3 ∧ !b.holds path pgRc then b.pageErr path Reg.RC_ORDER
  else if b.stop.stopped then
    if busy ∨ b.stop.heldOrders.any fun w => level ≤ bits w.toNat 22 20 then b.pageErr path Reg.RC_ORDER
    else { b with stop := { b.stop with heldOrders := b.stop.heldOrders ++ [BitVec.ofNat 32 (level * 2 ^ 20 + target)] } }
  else if 3 ≤ level ∧ b.pwr.isSome then b
  else if busy then b.pageErr path Reg.RC_ORDER
  else b.acceptOrder level target

/-- A held order is taken once the stop is released (R405). -/
def Block.takeHeld (b : Block) (w : W32) : Block := b.acceptOrder (bits w.toNat 22 20) (bits w.toNat 12 0)

/-- L0_CONTEXT_TEARDOWN (R404, R407). -/
def execL0ContextTeardown (path ctx : Nat) (s : State) : Host.Outcome State Fault Refusal :=
  s.write path Reg.RC_ORDER fun b => b.order_ path 0 ctx

/-- L1_ENGINE_RESET (R404, R407). -/
def execL1EngineReset (path e : Nat) (s : State) : Host.Outcome State Fault Refusal :=
  s.write path Reg.RC_ORDER fun b => b.order_ path 1 (engCode e)

/-- L2_HARNESS_RESET (R404, R407). -/
def execL2HarnessReset (path h : Nat) (s : State) : Host.Outcome State Fault Refusal :=
  s.write path Reg.RC_ORDER fun b => b.order_ path 2 h

/-- L3_CHIP_RESET (R404, R407). -/
def execL3ChipReset (path : Nat) (s : State) : Host.Outcome State Fault Refusal :=
  s.write path Reg.RC_ORDER fun b => b.order_ path 3 0

/-- L4_POWER_CYCLE (R404, R408). -/
def execL4PowerCycle (path : Nat) (s : State) : Host.Outcome State Fault Refusal :=
  s.write path Reg.RC_ORDER fun b => b.order_ path 4 0

/-- Whether the actions of the running order are complete (R407): the commands and tasks of a lost context have ended, the
engines of a harness are lit again. -/
def Block.orderDone (b : Block) (o : Order) : Bool :=
  o.acted && (match o.level with
    | 0 => !(b.cmds.any (·.ctx = o.target)) && !(b.tasks.any (·.ctx = o.target))
    | 1 => true
    | 2 => decide (b.st = .ready) || ((b.harness o.target).cores ++ (b.harness o.target).units).all fun e => (b.eng e).lit
    | _ => false)

/-- ORDER_DONE (R405, R407): a harness returns to ACTIVE, with its step pacing started afresh. -/
def execOrderDone (s : State) : Host.Outcome State Fault Refusal :=
  s.core fun b => match b.order with
    | none => b
    | some o =>
      if !b.orderDone o then b
      else if o.level = 2 then
        let h := o.target
        let b := b.setHarness h { b.harness h with st := .active, lastBoundary := none }
        ((b.event pgHal 9 0 h).endOrder).placeAll h
      else b.endOrder

/-! ### The power cycle (R408, R409) -/

/-- ms of the sequence in its own counts. -/
def PwrSeq.reached (p : PwrSeq) (ms : Nat) : Bool := decide (ms * Config.cyclesMs ≤ p.cycles)

/-- A change of the sequence while one runs. -/
def Block.modPwr (b : Block) (f : PwrSeq → PwrSeq) : Block := { b with pwr := b.pwr.map f }

/-- PWRCYC_ACK_ASSERT (R408, R529): a rise that comes before PWRCYC_REQ counts for nothing. -/
def execPwrcycAckAssert (s : State) : Host.Outcome State Fault Refusal :=
  s.aon fun b => { b with pins := { b.pins with pwrcycAck := true } }.modPwr fun p => { p with ack := true }

/-- PWRCYC_NOACK_TIMEOUT (R408). -/
def execPwrcycNoackTimeout (s : State) : Host.Outcome State Fault Refusal :=
  s.aon fun b => match b.pwr with
    | some p => if p.reached 1 ∧ !p.ack then b.setField Reg.RC_PWR 2 2 1 else b
    | none => b

/-- RDOUT_ACK (R408). -/
def execRdoutAck (path : Nat) (s : State) : Host.Outcome State Fault Refusal :=
  s.write path Reg.RC_PWR fun b => b.modPwr fun p => { p with rdout := true }

/-- READOUT_HOLD_EXPIRY (R408): 50 ms after PWRCYC_REQ. -/
def execReadoutHoldExpiry (s : State) : Host.Outcome State Fault Refusal :=
  s.aon fun b => b.modPwr fun p => if p.reached 50 then { p with rdout := true } else p

/-- PWRCYC_REQ_RELEASE (R408, R409): at the end of the hold and not before PWRCYC_ACK, HOLD clears, PWRCYC_REQ falls, and the
tray controller takes every rail away. -/
def execPwrcycReqRelease (s : State) : Host.Outcome State Fault Refusal :=
  s.aon fun b => match b.pwr with
    | some p => if p.ack ∧ p.rdout then b.powerReset else b
    | none => b

/-! ### Poison -/

/-- POISON_READ (R415, R416, R424): the burst is marked, which counts an uncorrectable error of its channel, and frozen where a golden
copy will repair it. -/
def execPoisonRead (addr : Nat) (s : State) : Host.Outcome State Fault Refusal :=
  s.core fun b =>
    let a := alignDown addr 256
    if !b.isDev a ∨ b.poison.any (·.addr = a) then b
    else
      let k := a / 2 ^ 37 * 16 + b.channelOf a
      let w := b.wearOf 8 k
      let p : Poison := { addr := a }
      { b with poison := b.poison ++ [p] }.setWear 8 k { w with ue := satAdd 8 w.ue 1 }

/-- The golden burst of a frozen burst (R416); none where it faults, is poisoned, or lies in the burst's own stack. -/
def Block.golden (b : Block) (p : Poison) : Option (MRes (List Byte)) :=
  match b.goldenOf p.addr with
  | none => none
  | some (m, va) =>
    let g := m.goldenAddr + (va - m.va)
    let own := match b.resolve m.ctx g needRd true with
      | .ok (.dev x) => decide (x / 2 ^ 37 = p.addr / 2 ^ 37)
      | _ => false
    if own then none
    else match b.readVa m.ctx g 256 with
      | .bad _ => none
      | .poison _ _ => none
      | r => some r

/-- POISON_REPAIR_DONE (R416): the golden burst is written, which clears the mark; a burst without one stays poisoned. -/
def execPoisonRepairDone (addr : Nat) (s : State) : Host.Outcome State Fault Refusal :=
  s.core fun b => match b.poison.find? fun p => p.addr = alignDown addr 256 ∧ b.repairs p with
    | none => b
    | some p => match b.golden p with
      | none => { b with poison := mapIf (· = p) (fun p => { p with dead := true }) b.poison }
      | some (.ok xs) =>
        let ps := (List.range 256).map fun k => Phys.dev (p.addr + k)
        if b.down ∨ b.homeHolds ps then b.homeAsk ps else (b.putBytes ((List.range 256).map fun k => .dev (p.addr + k)) xs).count Reg.RC_POISON 15 0 1
      | some (.ask pasid va) => b.askAts pasid va []
      | some _ => b

/-- The context's launches and items on a harness stop for a retry of their step (R417). -/
def Block.stopStep (b : Block) (c h : Nat) : Block :=
  let r : RetryStop := { ctx := c, h := h }
  let b := { b with retry := if b.retry.contains r then b.retry else b.retry ++ [r] }
  let b := (b.cmds.filter fun x => x.ctx = c ∧ (b.queue x.q).harness = some h ∧ x.runsStitches ∧ x.phase = .running).foldl
    (fun b x => b.cancelCmd x.q x.i retryStep) b
  (b.tasks.filter fun t => t.ctx = c ∧ t.engs.any fun e => (b.eng e).harness = some h).foldl
    (fun b t => b.cancelItem c t.id retryStep) b

/-- POISON_CONSUMED (R417, R418): an engine that runs work reports a burst that is marked, or that its golden copy has repaired
since. -/
def execPoisonConsumed (e addr : Nat) (s : State) : Host.Outcome State Fault Refusal :=
  s.core fun b =>
    let a := alignDown addr 256
    let golden := match b.poisonAt a with
      | some f => f
      | none => (b.goldenOf a).isSome
    match b.engCtx e with
    | none => b
    | some c =>
      if golden then match (b.eng e).harness with
        | some h => (b.cinderRec 0x05 retryStep c (burstCode a)).stopStep c h
        | none => b
      else if (b.poisonAt a).isSome then (b.notePoison c a true).endWork e 0x40 true
      else b

/-- The stopped work of a step: launches, then tasks with their item. -/
def Block.stoppedCmds (b : Block) (c h : Nat) : List Cmd :=
  b.cmds.filter fun x => x.ctx = c ∧ (b.queue x.q).harness = some h ∧ x.cancel = some retryStep ∧ x.phase = .running
def Block.stoppedTasks (b : Block) (c h : Nat) : List Task :=
  b.tasks.filter fun t => t.ctx = c ∧ (t.engs.any fun e => (b.eng e).harness = some h)
    ∧ ((t.item.map fun x => decide (x.cancel = some retryStep ∧ x.ended = none)).getD false)

/-- VALUE of the commit wick of a harness; 0 without one. -/
def Block.commitValue (b : Block) (h : Nat) : Nat :=
  let x := b.harness h
  if x.commitEn then match b.slotOf x.commitCtx x.commitVid with
    | some s => (b.slot s).value
    | none => 0
  else 0

/-- Steps 2 to 4 of R417, and an ERROR event for each launch or item of a job's member (R411). -/
def Block.retryStepNow (b : Block) (c h : Nat) : Block :=
  let cs := b.stoppedCmds c h
  let ts := b.stoppedTasks c h
  let b := { b with retry := b.retry.filter fun r => !(r.ctx = c ∧ r.h = h) }.discardHeld fun w => w.ctx = c ∧ w.h = h
  let b := cs.foldl (fun b x => b.endCmd x.q x.i retryStep) b
  let b := ts.foldl (fun b t => b.modTask c t.id fun t => { t with item := t.item.map fun x => { x with ended := some retryStep } }) b
  let b := b.event pgRc 10 c h (b.commitValue h)
  if (b.ctx c).jobValid then (List.range (cs.length + ts.length)).foldl (fun b _ => b.postErr false (b.ctx c).job retryStep) b else b

/-- RETRY_STEP_DISCARD (R417): once every engine of the stopped work has drained. -/
def execRetryStepDiscard (ctx h : Nat) (s : State) : Host.Outcome State Fault Refusal :=
  s.core fun b =>
    let es := (b.stoppedCmds ctx h).flatMap (·.engs) ++ (b.stoppedTasks ctx h).flatMap (·.engs)
    if (b.retry.any fun r => r.ctx = ctx ∧ r.h = h) ∧ b.allQuiet es then b.retryStepNow ctx h else b

end Sys2Proof.Machine
end

