-- ==== Sys2Proof/Machine/CohRows.lean ====
section
/-!
DEFINITION. The rebuild of the control coherence domain (R349 to R352): the roll call, the replay of the journal, the writes
issued again, and the return of dispatch.
-/
namespace Sys2Proof.Machine

/-- Whether a write buffer entry survives the roll call (R343, R352): that of every agent that has not been fenced out. -/
def Block.keepsWrite (b : Block) (w : WBuf) : Bool := !b.coh.fenced.contains w.agent

/-- An agent that has not answered is fenced out: its engine is reset at L1, or a spare takes over from its Lamplighter core
(R350 step 3, R403, R492). -/
def Block.fence (b : Block) (a : Nat) : Block :=
  let b := b.ccMod fun c => { c with fenced := dedup (c.fenced ++ [a]) }
  if a < 3 then b.takeOver a
  else if 8 ≤ a ∧ b.inService (a - 8) then b.l1Reset (a - 8)
  else b

/-- ROLL_CALL_CLOSE (R350 steps 3 and 4): 10 µs after the domain went down. -/
def execRollCallClose (silent : List Nat) (s : State) : Host.Outcome State Fault Refusal :=
  s.core fun b =>
    if b.down ∧ b.coh.phase = .rollCall ∧ 10 * Config.cyclesUs ≤ b.coh.phaseCycles then
      let b := (silent.filter fun a => a < 512 ∧ b.inDomain a).foldl Block.fence b
      b.ccMod fun c => { c with wbuf := c.wbuf.filter b.keepsWrite, phase := .replay, phaseCycles := 0 }
    else b

/-- The journal replayed (R350 step 4): every entry beyond the checkpoint, in sequence order. -/
def Block.replayJournal (b : Block) : Block :=
  (b.coh.entries.flatMap (·.recs)).foldl (fun b r => b.putLine r.1 r.2.1 wholeLine) b

/-- Write buffers issued again, in order (R350 step 5): memory holds every write, and the journal's checkpoint is its last entry. -/
def Block.reissue (b : Block) : Block :=
  let b := b.coh.wbuf.foldl (fun b w =>
    let b := b.putLine w.line w.data w.mask
    if w.agent < 3 ∧ b.isJournal w.line then b.ccMod fun c => { c with journal := c.journal + 1 } else b) b
  b.ccMod fun c => { c with wbuf := [], checkpoint := c.journal, entries := [] }

/-- COHERENCE_REBUILD_DONE (R350 step 6, R404, R421): the domain is up, and an order that waited for it acts. -/
def execCoherenceRebuildDone (s : State) : Host.Outcome State Fault Refusal :=
  s.core fun b =>
    if b.down ∧ b.coh.phase = .replay then
      let us := b.coh.downCycles / Config.cyclesUs
      let cause := b.field Reg.CC_STS 31 24
      let agent := b.field Reg.CC_STS 17 9
      let b := b.replayJournal.reissue.ccMod fun c => { c with
        phase := .up, phaseCycles := 0, downCycles := 0, restarts := 0, fenced := c.fenced.filter (· < 8) }
      let b := (b.setField Reg.CC_STS 0 0 0).count32 Reg.CC_REBUILDS
      let b := b.setReg Reg.CC_LAST_PAUSE (min us (2 ^ 32 - 1))
      let b := b.cinderRec 0x08 cause 0 (min us 1023 * 2 ^ 9 + agent)
      let b := (b.event pgCc 8 0 (cause * 2 ^ 24 + agent) us).bumpEpoch.startWalks
      match b.order with
      | some o => if o.acted then b else b.actOrder o
      | none => b
    else b

end Sys2Proof.Machine
end

