-- ==== Sys2Proof/Machine/Save.lean ====
section
/-!
DEFINITION. CTX_SAVE and CTX_RESTORE (R39, R57, R126, R127, R260 to R262): the image, its checks, and what is restored.
-/
namespace Sys2Proof.Machine

/-! ### The image -/

def zeros (n : Nat) : List Byte := List.replicate n 0

/-- The virtual IDs of a context that are not free, ascending. -/
def Block.vidsOf (b : Block) (c : Nat) : List Nat := (b.vids.filter fun kv => kv.1 / 65536 = c).map fun kv => kv.1 % 65536

/-- The hardware queues of a context in ascending queue index. -/
def Block.queuesOf (b : Block) (c : Nat) : List HwQueue :=
  sortBy (·.qidx) ((b.queues.filter fun kv => kv.2.st ≠ .unused ∧ kv.2.ctx = c).map (·.2))

/-- The 4,096 bytes of the image's header (R127). -/
def Block.imageHead (b : Block) (c nq nw : Nat) : List Byte :=
  let x := b.ctx c
  leBytes 8 (4096 + 256 * nq + 16 * nw) ++ leBytes 4 b.chipId ++ leBytes 4 nw ++ leBytes 4 nq ++ leBytes 4 Config.blockId
    ++ leBytes 4 (b.reg Reg.WK_INCARNATION) ++ leBytes 4 x.pasid ++ leBytes 4 x.stallUs ++ leBytes 4 (ofBit x.ats)
    ++ leBytes 8 x.dtBase ++ leBytes 4 x.dtCount ++ zeros 4044

/-- A queue record of the image (R127). -/
def HwQueue.record (x : HwQueue) : List Byte :=
  let st := if x.st = .halted then 2 else 1
  let w := st * 2 ^ 24 + x.qidx * 2 ^ 20 + x.harness.getD 0 * 2 ^ 12 + ofBit x.svc * 2 ^ 10 + x.cls * 2 ^ 8 + x.ringLog2
  leBytes 8 x.ringBase ++ leBytes 8 x.dbCount ++ leBytes 4 x.completed ++ leBytes 4 x.fetched ++ leBytes 4 w
    ++ leBytes 4 (x.errCode * 2 ^ 24) ++ leBytes 8 (if x.cls = 2 then x.anchor else 0)
    ++ leBytes 4 (if x.cls = 2 then x.span else 0) ++ zeros 212

/-- A wick entry of the image (R261). -/
def Block.wickEntry (b : Block) (c v : Nat) : List Byte :=
  let n := b.vid c v
  let s := n.slot?.getD 0
  let x := b.slot s
  let imp := n.isImport
  let rights := match n with
    | .imported _ r => r
    | _ => 0
  let tok := if imp ∨ x.exported then tokenLow s x else 0
  leBytes 8 x.value ++ leBytes 8 (tok * 2 ^ 32 + rights * 2 ^ 24 + ofBit x.window * 2 ^ 20 + ofBit imp * 2 ^ 19
    + ofBit (x.exported && !imp) * 2 ^ 18 + ofBit x.snuffed * 2 ^ 17 + ofBit x.sat * 2 ^ 16 + v)

def Block.image (b : Block) (c : Nat) : List Byte :=
  let qs := b.queuesOf c
  let vs := b.vidsOf c
  b.imageHead c qs.length vs.length ++ qs.flatMap HwQueue.record ++ vs.flatMap (b.wickEntry c)

/-! ### CTX_SAVE -/

/-- What becomes of the virtual IDs of a saved context (R260): those that own an exported slot keep it. -/
def Block.saveWicks (b : Block) (c : Nat) : Block :=
  (b.vidsOf c).foldl (fun b v => match b.vid c v with
    | .owned s => if (b.slot s).exported then b else b.freeVid c v
    | .imported _ _ => b.freeVid c v
    | .free => b) b

/-- CTX_SAVE (R126, R260): ERR_BUSY for a context with work, or for one that is not OPEN (log entry 27). -/
def execCtxSave (q i : Nat) (s : State) : Host.Outcome State Fault Refusal :=
  s.core fun b => b.runCmd q i 0xB0 fun c b => match c.op with
    | .ctxSave t a len => b.kernel c fun b =>
      if len < b.saveLen t then b.endCmd q i 0x12
      else if (b.ctx t).st ≠ .opn ∨ (b.cmds.any (·.ctx = t)) ∨ b.tasks.any (·.ctx = t) then b.endCmd q i 0x14
      else
        let n := b.saveLen t
        let b := b.touchRange t a n (some (.cmd q i))
        b.access c t a n true (b.resolveN t needWr true a n) fun ps =>
          let b := (b.putBytes ps (b.image t)).countBursts q a a n ps
          let b := (b.saveWicks t).dropBounds (·.ctx = t)
          let b := b.dropCommits (·.commitCtx = t)
          (b.setCtx t { b.ctx t with st := .saved, debug := false }).endCmd q i 0
    | _ => b

/-! ### Checks of an image -/

/-- A little-endian field of an image. -/
def imgField (bs : List Byte) (off n : Nat) : Nat := ofLeBytes ((bs.drop off).take n)

/-- A queue record and a wick entry as read from an image. -/
structure QRec where
  base : Nat
  db : Nat
  completed : Nat
  fetched : Nat
  word : Nat
  err : Nat
  anchor : Nat
  span : Nat
deriving DecidableEq, Repr

structure WRec where
  value : Nat
  ctl : Nat
deriving DecidableEq, Repr

def WRec.vid (w : WRec) : Nat := bits w.ctl 15 0
def WRec.token (w : WRec) : Nat := bits w.ctl 63 32
def WRec.imported (w : WRec) : Bool := bit w.ctl 19
def WRec.exported (w : WRec) : Bool := bit w.ctl 18

def qRecOf (bs : List Byte) (k : Nat) : QRec :=
  let o := 4096 + 256 * k
  { base := imgField bs o 8, db := imgField bs (o + 8) 8, completed := imgField bs (o + 0x10) 4
    fetched := imgField bs (o + 0x14) 4, word := imgField bs (o + 0x18) 4, err := imgField bs (o + 0x1C) 4
    anchor := imgField bs (o + 0x20) 8, span := imgField bs (o + 0x28) 4 }

def wRecOf (bs : List Byte) (nq k : Nat) : WRec :=
  let o := 4096 + 256 * nq + 16 * k
  { value := imgField bs o 8, ctl := imgField bs (o + 8) 8 }

/-- Whether the bytes [lo, lo + n) of an image are all 0. -/
def zeroAt (bs : List Byte) (lo n : Nat) : Bool := ((bs.drop lo).take n).all (· = 0)

/-- The header's checks (R126, R127): its lengths, BLOCK_ID and reserved fields. -/
def headOk (h : List Byte) (len : Nat) : Bool :=
  let nq := imgField h 0x10 4
  let nw := imgField h 0x0C 4
  decide (imgField h 0 8 = 4096 + 256 * nq + 16 * nw) && decide (imgField h 0 8 ≤ len) && decide (nq ≤ 16) && decide (nw ≤ 65536)
    && decide (imgField h 0x14 4 = Config.blockId) && decide (imgField h 0x1C 4 < 2 ^ 20) && decide (imgField h 0x20 4 < 2 ^ 22)
    && decide (imgField h 0x24 4 < 2) && decide (imgField h 0x30 4 < 2 ^ 17) && zeroAt h 0x34 4044

/-- The reserved fields of the queue records (R127). -/
def qRecOk (bs : List Byte) (k : Nat) : Bool :=
  let r := qRecOf bs k
  let st := bits r.word 26 24
  decide (r.completed < 2 ^ 21) && decide (r.fetched < 2 ^ 21) && decide (bits r.word 31 27 = 0) && decide (bits r.word 19 18 = 0)
    && !bit r.word 11 && decide (bits r.word 7 5 = 0) && decide (bits r.err 23 0 = 0) && decide (st = 1 ∨ st = 2)
    && zeroAt bs (4096 + 256 * k + 0x2C) 212

/-- The ERR_ARG checks on wick entries (R262). -/
def wRecsOk (ws : List WRec) : Bool :=
  (ws.all fun w => bits w.ctl 31 27 = 0 ∧ bits w.ctl 23 21 = 0 ∧ !isDoorbell w.vid ∧ !(w.imported ∧ w.exported))
    && decide ((dedup (ws.map (·.vid))).length = ws.length)

/-- The slot that the token of an entry matches (R262): none for an image that another chip saved. -/
def Block.wRecSlot? (b : Block) (inc : Nat) (home : Bool) (w : WRec) : Option Nat :=
  if home ∧ (w.imported ∨ w.exported) ∧ inc = b.reg Reg.WK_INCARNATION then b.tokenSlot? w.token else none

/-- What QUEUE_CREATE would check of a queue record (R48, R127). -/
def QRec.create (r : QRec) (c pasid : Nat) : QCreate :=
  { pasid := pasid, harness := bits r.word 17 12, svc := bit r.word 10, cls := bits r.word 9 8, qidx := bits r.word 23 20, ctx := c
    ringBase := r.base, start := r.completed, ringLog2 := bits r.word 4 0 }

/-- The records of an image judged in order, each after the queues before it (R48, R127). -/
def Block.qRecsOk (b : Block) (c pasid : Nat) : List QRec → MRes Unit
  | [] => .ok ()
  | r :: t =>
    let p := r.create c pasid
    (b.queueArgs p 0).bind fun _ => (need (b.queueRoom p) 0x14).bind fun _ => (b.createQueue p).qRecsOk c pasid t

/-! ### Restoring -/

/-- A new slot for a restored wick; a snuffed one raises an event (R262). -/
def Block.newWick (b : Block) (c v value : Nat) (sat snuffed : Bool) : Block :=
  match b.freeSlot? with
  | none => b
  | some s =>
    let b := b.allocVid c v s value
    let b := b.setSlot s { b.slot s with sat := sat, snuffed := snuffed }
    if snuffed then b.event pgWk 10 c (s * 2 ^ 32 + v) else b

/-- One entry restored (R262); `home` says that this chip saved the image. DESIGN CHOICE (log entry 105): a kept slot that is snuffed
already raises no event; of two entries that match one slot each names it, an owner's entry last; and a kept slot restored into another
context takes that context as its owner. -/
def Block.restoreWick (b : Block) (c inc : Nat) (home : Bool) (w : WRec) : Block :=
  let sat := bit w.ctl 16
  let snuffed := bit w.ctl 17
  match b.wRecSlot? inc home w with
  | some s =>
    if w.imported then b.setVid c w.vid (.imported s (bits w.ctl 26 24))
    else (b.setSlot s { b.slot s with owner := some (c, w.vid) }).setVid c w.vid (.owned s)
  | none =>
    if w.imported then b.newWick c w.vid w.value sat true
    else b.newWick c w.vid w.value sat (snuffed || (w.exported && home))

/-- New slots that the entries need. -/
def Block.slotsNeeded (b : Block) (inc : Nat) (home : Bool) (ws : List WRec) : Nat :=
  (ws.filter fun w => (b.wRecSlot? inc home w).isNone).length

/-- A queue created from its record (R127). -/
def Block.restoreQueue (b : Block) (c pasid : Nat) (home : Bool) (r : QRec) : Block :=
  match b.freeQueue? with
  | none => b
  | some q =>
    let p := r.create c pasid
    let b := b.createQueue p
    let x := b.queue q
    let halted := bits r.word 26 24 = 2
    let y := { x with
      st := if halted then .halted else .active
      errCode := if halted then r.err / 2 ^ 24 else 0
      completed := r.completed, fetched := r.fetched, dbCount := r.db
      anchor := if p.cls = 2 then (if home then r.anchor else b.cadence) else 0
      span := if p.cls = 2 then r.span else 0 }
    b.setQueue q { y with startIndex := r.db - y.unfetched }

/-- CTX_RESTORE with its image read: `bs` are its USED_LEN bytes (R126, R127, R262). -/
def Block.doRestore (b : Block) (c : Cmd) (t : Nat) (bs : List Byte) : Block :=
  let nq := imgField bs 0x10 4
  let nw := imgField bs 0x0C 4
  let home := decide (imgField bs 8 4 = b.chipId)
  let inc := imgField bs 0x18 4
  let pasid := imgField bs 0x1C 4
  let qs := (List.range nq).map (qRecOf bs)
  let ws := (List.range nw).map (wRecOf bs nq)
  let free := b.ctxFree t
  let queues : MRes Unit :=
    if free then
      (need (!b.pasidHeld t pasid) 0x12).bind fun _ => (need (imgField bs 0x24 4 = ofBit (b.ctx t).ats) 0x12).bind fun _ => b.qRecsOk t pasid qs
    else need home 0x12
  let all := (need (((List.range nq).all (qRecOk bs)) && wRecsOk ws) 0x12).bind fun _ => queues.bind fun _ =>
    need (b.slotsNeeded inc home ws ≤ b.freeSlots) 0x14
  match all with
  | .ok _ =>
    let b := if free then b.openCtx t pasid (imgField bs 0x20 4) else b.setCtx t { b.ctx t with st := .opn }
    let b := b.setCtx t { b.ctx t with dtBase := imgField bs 0x28 8, dtCount := imgField bs 0x30 4 }
    let b := if free then qs.foldl (fun b r => b.restoreQueue t pasid home r) b else b
    (ws.foldl (fun b w => b.restoreWick t inc home w) b).endCmd c.q c.i 0
  | .bad st => b.endCmd c.q c.i st
  | _ => b

/-- CTX_RESTORE (R126): a context that is OPEN or CLOSING gives ERR_BUSY. -/
def execCtxRestore (q i : Nat) (s : State) : Host.Outcome State Fault Refusal :=
  s.core fun b => b.runCmd q i 0xB1 fun c b => match c.op with
    | .ctxRestore t a len => b.kernel c fun b =>
      let k := (b.ctx t).st
      if k = .opn ∨ k = .closing then b.endCmd q i 0x14
      else if len < 4096 then b.endCmd q i 0x12
      else
        let x := b.addrCtx c
        let b := b.touchRange x a 4096 (some (.cmd q i))
        b.access c x a 4096 false (b.readVa x a 4096) fun h =>
          let n := imgField h 0 8
          if !headOk h len then b.endCmd q i 0x12
          else
            let b := b.touchRange x a n (some (.cmd q i))
            b.access c x a n false (b.readVa x a n) fun bs => (b.countBursts q a a bs.length []).doRestore c t bs
    | _ => b

end Sys2Proof.Machine
end

