-- ==== Sys2Proof/Machine/Lists.lean ====
section
/-!
DEFINITION. The rows of stitch lists (R70 to R72, R122, R209 to R215, R218) and of descriptor tables (R229).
-/
namespace Sys2Proof.Machine

/-- Bytes that a stream occupies in the stitch cache (R213). -/
def cacheBytes (len : Nat) : Nat := ceilDiv len 256 * 256

/-- Bytes in use in the stitch cache (R213). -/
def Block.cacheUsed (b : Block) : Nat := sumBy (fun v => cacheBytes v.stream.length) b.versions

/-- The conflicts of R214 with R71, R72 and R122 (step 1 of R209). A list whose versions R218 has all freed still takes a LIST_PATCH. -/
def Block.listConflict (b : Block) (ctx list : Nat) (patch inPlace : Bool) : Option Nat :=
  let vs := b.versionsOf ctx list
  let cur := b.current? ctx list
  if patch then
    if b.epochOf ctx list = 0 ∨ b.retired.contains (ctx * 65536 + list) then some 0x13
    else if b.epochOf ctx list = 0xFFFF then some 0x12
    else if vs.any fun v => v.st = .loading then some 0x14
    else if !inPlace ∧ 4 ≤ vs.length then some 0x14
    else if inPlace ∧ (cur.map b.verHeld).getD false then some 0x14
    else none
  else if !vs.isEmpty then some 0x14
  else if b.epochOf ctx list = 0xFFFF then some 0x12
  else none

/-- A version in LOADING (R70, R215). -/
def Block.newVersion (b : Block) (c : Cmd) (ctx list len : Nat) (inPlace : Bool) : Block :=
  let ep := b.epochOf ctx list + 1
  let v : Version := { ctx := ctx, listId := list, epoch := ep, stream := zeros len, inPlace := inPlace }
  ({ b with versions := b.versions ++ [v] }.setEpoch ctx list ep).modCmd c.q c.i fun c => { c with phase := .running, version := some (list, ep) }

/-- A list command ends with a failure, and its version is freed. -/
def Block.failList (b : Block) (c : Cmd) (st : Nat) : Block := (b.dropLoadOf c).endCmd c.q c.i st

/-- Steps 4 and 5 of R209: the rest of the image, checks 2 to 9 of R210, and the hand-over to the security block. -/
def Block.loadBody (b : Block) (c : Cmd) (ctx addr len ep list : Nat) : Block :=
  let m := b.readVa ctx addr len
  let b := match m with
    | .bad _ => b.dropLoadOf c
    | .poison _ _ => b.dropLoadOf c
    | _ => b
  b.access c ctx addr len false m fun bs =>
    let b := b.countBursts c.q (addr + 64) (addr + 64) (len - 64) []
    let slen := imgField bs 8 4
    let stream := (bs.drop 0x40).take slen
    match checkStream stream (imgField bs 0x0C 4) with
    | none => b.failList c 0x12
    | some sum =>
      let b := b.modVersion ctx list ep fun v => { v with stream := stream, sum := sum }
      { b with secOut := bs }.modCmd c.q c.i fun c => { c with sample := 1 }

/-- LIST_LOAD and LIST_PATCH at execution (R209): the header and the rest of the image are two transfers. -/
def Block.loadList (b : Block) (c : Cmd) (ctx list addr len : Nat) (patch inPlace : Bool) : Block :=
  if c.sample = 1 then b
  else match c.version with
  | some (l, e) => b.loadBody c ctx addr len e l
  | none => match b.listConflict ctx list patch inPlace with
    | some st => b.endCmd c.q c.i st
    | none =>
      let b := b.touchRange ctx addr len (some (.cmd c.q c.i))
      b.access c ctx addr 64 false (b.readVa ctx addr 64) fun h =>
        let b := b.countBursts c.q addr addr 64 []
        let slen := imgField h 8 4
        if !imageHeaderOk (words64 h) len then b.endCmd c.q c.i 0x12
        else if Config.stitchCacheBytes < b.cacheUsed + cacheBytes slen then b.endCmd c.q c.i 0x14
        else
          let b := b.newVersion c ctx list slen inPlace
          match b.cmd? c.q c.i with
          | some c => b.loadBody c ctx addr len (b.epochOf ctx list) list
          | none => b

/-- LIST_LOAD (R209). -/
def execListLoad (q i : Nat) (s : State) : Host.Outcome State Fault Refusal :=
  s.core fun b => b.runCmd q i 0x90 fun c b => match c.op with
    | .listLoad t l a len => b.kernel c fun b => b.loadList c t l a len false false
    | _ => b

/-- LIST_PATCH (R209). -/
def execListPatch (q i : Nat) (s : State) : Host.Outcome State Fault Refusal :=
  s.core fun b => b.runCmd q i 0x91 fun c b => match c.op with
    | .listPatch t l a len ip => b.kernel c fun b => b.loadList c t l a len true ip
    | _ => b

/-- LIST_RETIRE (R72, R214). DEDUCED (log entry 104): a list that has gone since the command was validated gives ERR_HANDLE. -/
def execListRetire (q i : Nat) (s : State) : Host.Outcome State Fault Refusal :=
  s.core fun b => b.runCmd q i 0x92 fun c b => match c.op with
    | .listRetire t l => b.kernel c fun b =>
      let vs := b.versionsOf t l
      if b.epochOf t l = 0 then b.endCmd q i 0x13
      else if vs.any fun v => v.st = .loading then b.endCmd q i 0x14
      else
        let b : Block := { b with
          versions := mapIf (fun v => v.ctx = t ∧ v.listId = l) (fun v => { v with st := .superseded }) b.versions
          retired := dedup (b.retired ++ [t * 65536 + l]) }
        b.reapVersions.endCmd q i 0
    | _ => b

/-! ### Verdicts -/

/-- A version becomes CURRENT (R70, R122, R214): the old one is SUPERSEDED, or with IN_PLACE freed at once. DEDUCED (log entry 106): where a
launch has come to reference the CURRENT version since step 1 of R209, an IN_PLACE patch ends with ERR_BUSY at the verdict. -/
def Block.makeCurrent (b : Block) (c : Cmd) (v : Version) : Block :=
  let old := b.versions.find? fun x => x.ctx = v.ctx ∧ x.listId = v.listId ∧ x.st = .current
  let held := (old.map b.verHeld).getD false
  if v.inPlace ∧ held ∧ (b.current? v.ctx v.listId).isSome then b.failList c 0x14
  else
    let b := match old with
      | some x => b.modVersion x.ctx x.listId x.epoch fun y => { y with st := .superseded }
      | none => b
    let b := b.modVersion v.ctx v.listId v.epoch fun y => { y with st := .current }
    let b := b.modCmd c.q c.i fun c => { c with version := none }
    b.reapVersions.endCmd c.q c.i 0

/-- The list command whose image the security block holds, the oldest first. -/
def Block.atSecurity (b : Block) : Option (Cmd × Version) :=
  (b.cmds.find? fun c => (c.opcode = 0x90 ∨ c.opcode = 0x91) ∧ c.phase = .running ∧ c.sample = 1).bind fun c =>
    match c.version, c.op.target with
    | some (l, e), some t => (b.version? t l e).map fun v => (c, v)
    | _, _ => none

/-- LIST_VERDICT (R209, R522): SEC_IMG_OK alone accepts; a verdict with no image in hand is ignored. -/
def execListVerdict (ok bad : Bool) (s : State) : Host.Outcome State Fault Refusal :=
  s.core fun b => match b.atSecurity with
    | none => b
    | some (c, v) =>
      if bad then b.failList c 0x12
      else if ok then b.makeCurrent c v
      else b

/-! ### Errors of the stitch cache -/

/-- A version breaks (R218): what runs it is cancelled as under ABORT; a LOADING one is freed and its command ends ABORTED (log
entry 29). -/
def Block.breakVersion (b : Block) (v : Version) : Block :=
  let b := b.modVersion v.ctx v.listId v.epoch fun x => { x with broken := true }
  let runs (c : Cmd) : Bool := decide (c.ctx = v.ctx) && decide (c.version = some (v.listId, v.epoch)) && c.opcode < 0x20
  let b := (b.cmds.filter fun c => runs c ∧ c.begun).foldl (fun b c => b.abortCmd c.q c.i 0x31) b
  let b := (b.tasks.filter fun t => t.ctx = v.ctx ∧ t.listId = v.listId ∧ t.epoch = v.epoch).foldl (fun b t => b.abortTask t.ctx t.id) b
  let b := if v.st = .loading then
      (b.cmds.filter fun c => c.op.target = some v.ctx ∧ c.version = some (v.listId, v.epoch) ∧ c.phase = .running).foldl
        (fun b c => b.failList c 0x31) b
    else b
  let b := b.reapVersions
  let b := b.cinderRec 0x0C 0 v.ctx (v.listId * 2 ^ 12 + v.epoch % 2 ^ 12)
  b.event pgSs 8 v.ctx (v.listId * 2 ^ 16 + v.epoch)

/-- STITCH_CACHE_UE (R218). -/
def execStitchCacheUe (ctx list epoch : Nat) (s : State) : Host.Outcome State Fault Refusal :=
  s.core fun b => match b.version? ctx list epoch with
    | some v => if v.broken then b else (b.plainUe pgSs).breakVersion v
    | none => b

/-! ### Descriptor tables -/

/-- A write of DT_COUNT (R229): above 65,536 it commits nothing; it is ignored with an access error while the context holds
work. -/
def Block.dtCommit (b : Block) (path v : Nat) : Block :=
  let c := b.field Reg.DT_SEL 11 0
  let x := b.ctx c
  let lo := b.stagedOr path Reg.DT_BASE_LO (x.dtBase % 2 ^ 32)
  let hi := b.stagedOr path Reg.DT_BASE_HI (x.dtBase / 2 ^ 32)
  if 2 ^ 16 < v % 2 ^ 17 then b
  else
    let b := b.unstagePath path fun a => a = Reg.DT_BASE_LO ∨ a = Reg.DT_BASE_HI
    if (b.cmds.any (·.ctx = c)) ∨ b.tasks.any (·.ctx = c) then b.pageErr path Reg.DT_COUNT
    else b.setCtx c { x with dtBase := alignDown (hi * 2 ^ 32 + lo) 64, dtCount := v % 2 ^ 17 }

/-- DT_COUNT_COMMIT (R229). -/
def execDtCountCommit (path : Nat) (v : BitVec 32) (s : State) : Host.Outcome State Fault Refusal :=
  s.write path Reg.DT_COUNT fun b => b.dtCommit path v.toNat

end Sys2Proof.Machine
end

