-- ==== Sys2Proof/Machine/Microcode.lean ====
section
/-!
DEFINITION. The microcode store of the Lamplighter cores: its words and their check (R486 to R490), copies into the spares (R491),
the handover (R493, R494), and the rows of the MC page (R489, R490, R493, R496).
-/
namespace Sys2Proof.Machine

/-! ### Words -/

/-- Defined OP codes of a microword (R486). -/
def mwOpOk (op : Nat) : Bool := op ≤ 0x0A ∨ (0x10 ≤ op ∧ op ≤ 0x13) ∨ op = 0x18 ∨ op = 0x19 ∨ op = 0x20

/-- Whether the microword `w` at address `a` keeps R486 and R487 and never leads to 0x3FFF (R490 step 2). -/
def mwOk (a w : Nat) : Bool :=
  let nmode := bits w 47 45
  let cond := bits w 44 40
  let next := bits w 13 0
  mwOpOk (bits w 39 34) && (match nmode with
    | 0 => decide (cond = 0 ∧ next ≠ 0x3FFF)
    | 1 => decide (next % 2 = 0 ∧ next ≠ 0x3FFE)
    | 2 => decide (next % 16 = 0 ∧ next ≠ 0x3FF0)
    | 3 => decide (cond = 0 ∧ next ≠ 0x3FFF ∧ a ≠ 0x3FFE)
    | 4 => decide (cond = 0 ∧ next = 0)
    | 5 => decide (next ≠ 0x3FFF)
    | _ => false)

/-- Whether the image in a core's store passes the scan (R490 step 2). -/
def Block.imageOk (b : Block) (k : Nat) : Bool :=
  decide (b.word48 k 0x3FFF % 256 = 0xA5) && (List.range 0x3FFF).all fun a => mwOk a (b.word48 k a)

/-- The bytes of a core's store, 6 for each word (R490 step 1). -/
def Block.storeBytes (b : Block) (k : Nat) : List Byte := (List.range 0x4000).flatMap fun a => leBytes 6 (b.word48 k a)

/-! ### The MC page -/

/-- The core that MC_SEL selects. -/
def Block.mcSel (b : Block) : Nat := b.field Reg.MC_SEL 1 0

/-- MC_STS.BUSY. -/
def Block.mcBusy (b : Block) : Bool := b.mc.busy ≠ .idle

/-- A VERIFY or HANDOVER ends: FAIL with its REASON, or none (R496). -/
def Block.mcFail (b : Block) (reason : Nat) : Block := b.setReg Reg.MC_STS (reason * 2 ^ 24 + 2)

/-- The active store and its VERIFIED bit copied into every spare core (R491). -/
def Block.copyStores (b : Block) : Block :=
  let a := b.mc.active
  let dests := (List.range 3).filter fun k => k ≠ a ∧ (b.wearOf 0 k).st = 3
  let src := b.store.filter fun kv => kv.1 / 16384 = a
  let keep := b.store.filter fun kv => !dests.contains (kv.1 / 16384)
  let store := dests.foldl (fun m k => src.foldl (fun m kv => Tab.set (fun _ => (0 : BitVec 48)) m (k * 16384 + kv.1 % 16384) kv.2) m) keep
  let old := b.mc.verified.filter fun k => !dests.contains k
  { b with store := store }.mcMod fun m => { m with verified := if m.verified.contains a then sortBy id (old ++ dests) else old }

/-- A copy begins where there is a spare core (R491); it takes one ZCLK cycle a word. -/
def Block.beginCopy (b : Block) : Block :=
  if (List.range 3).any fun k => k ≠ b.mc.active ∧ (b.wearOf 0 k).st = 3 then b.mcMod fun m => { m with busy := .copy 0x4000 }
  else b.mcMod fun m => { m with busy := .idle }

/-- A copy in one cycle. -/
def Block.copyTick (b : Block) : Block :=
  match b.mc.busy with
  | .copy n => if n ≤ 1 then b.copyStores.mcMod fun m => { m with busy := .idle } else b.mcMod fun m => { m with busy := .copy (n - 1) }
  | _ => b

/-- A write of MC_DATA_HI (R489): the word of the low half that the path has staged last, 0 before it has, and this upper half. A
handover in progress sets BUSY. -/
def Block.storeWord (b : Block) (path v : Nat) : Block :=
  let k := b.mcSel
  let a := b.reg Reg.MC_ADDR
  if (k = b.mc.active ∧ b.st ≠ .load) ∨ (b.wearOf 0 k).st = 2 ∨ b.mcBusy then b.pageErr path Reg.MC_DATA_HI
  else
    let lo := b.stagedOr path Reg.MC_DATA_LO 0
    let b := b.setWord48 k a (v % 65536 * 2 ^ 32 + lo)
    let b := b.setReg Reg.MC_ADDR ((a + 1) % 0x4000)
    b.mcMod fun m => { m with verified := m.verified.filter (· ≠ k) }

/-- MC_STORE_WRITE (R489). -/
def execMcStoreWrite (path : Nat) (v : BitVec 32) (s : State) : Host.Outcome State Fault Refusal :=
  s.write path Reg.MC_DATA_HI fun b => b.storeWord path v.toNat

/-- VERIFY (R490): the scan, and the hand-over of the image to the security block. -/
def Block.verify (b : Block) (path : Nat) : Block :=
  if b.mcBusy then b.pageErr path Reg.MC_CTL
  else
    let k := b.mcSel
    let bs := b.storeBytes k
    let b := b.mcMod fun m => { m with crc := Tab.set (fun _ => 0) m.crc k (crc32 bs) }
    if b.imageOk k then { b with secOut := bs ++ b.mc.sig }.mcMod fun m => { m with busy := .verify k }
    else (b.mcFail 1).mcMod fun m => { m with sig := [] }

def execVerify (path : Nat) (s : State) : Host.Outcome State Fault Refusal := s.write path Reg.MC_CTL fun b => b.verify path

/-- The end of a verification (R490 step 4, R491). -/
def Block.verdict (b : Block) (k : Nat) (ok : Bool) : Block :=
  let was := b.mc.verified.contains k
  let b := b.mcMod fun m => { m with busy := .idle, sig := [] }
  if ok then
    let b := (b.setField Reg.MC_STS 1 1 0).mcMod fun m => { m with verified := sortBy id (dedup (k :: m.verified)) }
    if k = b.mc.active ∧ b.st = .load ∧ !was then b.beginCopy else b
  else b.mcFail 2

/-- MICROCODE_VERDICT (R490). -/
def execMicrocodeVerdict (ok bad : Bool) (s : State) : Host.Outcome State Fault Refusal :=
  s.core fun b => match b.mc.busy with
    | .verify k => if bad then b.verdict k false else if ok then b.verdict k true else b
    | _ => b

/-! ### Handover -/

/-- Core `k` writes back its scratch lines (R493 step 2): what it stored there is a free value. -/
def Block.spillAll (b : Block) (k : Nat) : Block :=
  (b.coh.caches.filter fun l => l.agent = k ∧ l.st = .m).foldl (fun b l => b.ccSpill l.line) b

/-- The active role moves to core `c` (R493 steps 2 to 4): the old core leaves the domain with its writes at their home, and `c`
starts at microaddress 0. -/
def Block.handTo (b : Block) (c : Nat) : Block :=
  let a := b.mc.active
  ((b.spillAll a).leaveDomain a false).startCore c

/-- The reason for which a handover to core `c` fails (R493); 0 for none. -/
def Block.handoverReason (b : Block) (c : Nat) : Nat :=
  if b.st ≠ .ready ∧ b.st ≠ .run then 4
  else if (b.wearOf 0 c).st ≠ 3 then 4
  else if !b.mc.verified.contains c then 1
  else if b.recFmt c ≠ b.recFmt b.mc.active then 3
  else if b.down ∨ b.mcBusy then 5
  else 0

/-- A handover goes on (R493): once the old core's write buffer is empty, core `c` becomes active, the old one a spare, and the
image is copied into every spare. -/
def Block.moveRole (b : Block) : Block :=
  match b.mc.busy with
  | .handover c =>
    if b.down ∨ b.coh.wbuf.any (·.agent = b.mc.active) then b
    else
      let a := b.mc.active
      let b := (b.ccMod fun x => { x with checkpoint := x.journal }).handTo c
      let b := (b.setWear 0 a { b.wearOf 0 a with st := 3 }).setWear 0 c { b.wearOf 0 c with st := 0 }
      let b := (b.cinderRec 0x07 0 0 (2 ^ 20 + c)).changeCaps
      (b.setField Reg.MC_STS 1 1 0).beginCopy
  | _ => b

/-- HANDOVER (R493). -/
def Block.handover (b : Block) : Block :=
  let c := b.mcSel
  let r := b.handoverReason c
  if r = 0 then (b.mcMod fun m => { m with busy := .handover c }).moveRole else b.mcFail r

def execHandover (path : Nat) (s : State) : Host.Outcome State Fault Refusal := s.write path Reg.MC_CTL fun b => b.handover

/-! ### Signatures -/

/-- The signature buffer emptied. -/
def Block.clearSig (b : Block) : Block := b.mcMod fun m => { m with sig := [] }

/-- CLR_SIG (R496). -/
def execClrSig (path : Nat) (s : State) : Host.Outcome State Fault Refusal :=
  s.write path Reg.MC_CTL fun b => b.clearSig

/-- Four bytes appended to the signature buffer (R496): at most 4,096 bytes. -/
def Block.appendSig (b : Block) (path v : Nat) : Block :=
  if 4096 < b.mc.sig.length + 4 then b.pageErr path Reg.MC_SIG_DATA
  else b.mcMod fun m => { m with sig := m.sig ++ leBytes 4 v }

/-- MC_SIG_DATA_WRITE (R496). -/
def execMcSigDataWrite (path : Nat) (v : BitVec 32) (s : State) : Host.Outcome State Fault Refusal :=
  s.write path Reg.MC_SIG_DATA fun b => b.appendSig path v.toNat

end Sys2Proof.Machine
end

