-- ==== Sys2Proof/Machine/Rein.lean ====
section
/-!
DEFINITION. The Rein link (R356 to R394): the states of a port and its transitions (R367 to R375), reliable delivery and
credits (R359 to R364), rate limits (R379, R380), and what each message does once it is taken (R381 to R394).
-/
namespace Sys2Proof.Machine

/-! ### States of a port -/

/-- What leaves with the credits of a port (R365, R375). -/
def RPort.clearLink (r : RPort) : RPort :=
  { r with
    nextSeq := 0, expSeq := 0, ackedTo := none, nakFor := none, uncovered := [], rxHeld := [], txq := [], cinq := []
    replays := 0, ackCycles := 0
    sent := [0, 0, 0, 0, 0, 0], reported := [0, 0, 0, 0, 0, 0], consumed := [0, 0, 0, 0, 0, 0]
    toldCons := [0, 0, 0, 0, 0, 0], stallCycles := [0, 0, 0, 0, 0, 0], creditCycles := 0, unrepCycles := 0
    hbGood := 0, hbCycles := 0, hbLast := 0, authing := false, authAsked := false, authHeld := [], authCycles := 0
    peerDone := false, selfPass := false, stCycles := 0, lateErrs := [] }

/-- What a port clears as its training starts (R368). -/
def RPort.clearTraining (r : RPort) : RPort := { r with ts1Run := [0, 0], ts2Run := 0, ts2Sent := 0, wellA := false, wellB := false, peerSeen := false }

/-- What the core domain does after a port has entered or left RUN (R375, R411); held while a global stop freezes it. -/
def Block.linkNote (b : Block) (p : Nat) (left : Bool) : Block :=
  let b := b.changeCaps
  if left then
    ((b.ctxs.filter fun kv => kv.2.jobValid ∧ bit kv.2.jobPorts p).map (·.1)).foldl (fun b c => b.loseCtx c 0x31 none) b
  else b

def Block.noteLink (b : Block) (p : Nat) (left : Bool) : Block :=
  if b.stop.stopped then { b with linkNotes := b.linkNotes ++ [(p, left)] } else b.linkNote p left

/-- TS_LOCK changes, with its event (R390). -/
def Block.setLock (b : Block) (p : Nat) (v : Bool) : Block :=
  if b.sync.locked = v then b else ({ b with sync := { b.sync with locked := v } }).event (pgRein p) 9 0 (ofBit v)

/-- What leaving RUN means beside the port itself (R375, R390, R414): `lost` says that ERR events were lost. -/
def Block.leftRun (b : Block) (p cause peer : Nat) (lost : Bool) : Block :=
  let b := b.cinderRec 0x0A cause 0 (p * 2 ^ 24)
  let b := if lost then b.setField Reg.RC_STS 3 3 1 else b
  let b := b.event (pgRein p) 8 0 cause (ofBit lost * 2 ^ 32 + peer)
  let b := if b.tsUp? = some p then ({ b with sync := { b.sync with gained := false } }).setLock p false else b
  b.noteLink p true

/-- A port goes to another state (R373, R375), with the cause recorded where there is one. PT_PEER_ID reads all ones in OFF and
TRAIN (R395). -/
def Block.toState (b : Block) (p : Nat) (st : PtState) (cause : Nat) : Block :=
  let r := b.port p
  let run := decide (r.st = .run)
  let peer := b.reg (prt p Reg.PT_PEER_ID)
  let lost := run && (r.txq.any (·.cls = 1) || r.uncovered.any (·.cls = 1))
  let b := b.setPort p { r.clearLink.clearTraining with st := st, allot := [0, 0, 0, 0, 0, 0], mgBusy := false, exchOk := false, delays := [] }
  let b := if r.mgBusy then b.setField (prt p Reg.MG_TX_CTL) 1 1 1 else b
  let b := if cause = 0 then b else b.setReg (prt p Reg.PT_CAUSE) cause
  let b := if st = .off ∨ st = .train then b.setReg (prt p Reg.PT_PEER_ID) (2 ^ 32 - 1) else b
  if run then b.leftRun p cause peer lost else b

def Block.isolate (b : Block) (p cause : Nat) : Block := b.toState p .isolated cause
def Block.toTrain (b : Block) (p cause : Nat) : Block := b.toState p .train cause

/-- Training ends (R368): the lanes are chosen, and IDENT begins. -/
def Block.enterIdent (b : Block) (p rxok : Nat) : Block :=
  b.modPort p fun r => { r with
    st := .ident, fails := 0, stCycles := 0, hbCycles := 0, peerSeen := false
    txSpare := !bit rxok 0, rxSpare := !r.wellA }

/-- QUARANTINE begins with both directions at SEQ 0 (R360). -/
def Block.enterQuarantine (b : Block) (p : Nat) : Block := b.modPort p fun r => { r.clearLink with st := .quarantine }

/-- RUN begins (R371, R375, R413). -/
def Block.enterRun (b : Block) (p : Nat) : Block :=
  let b := b.modPort p fun r => { r with st := .run, authAsked := false, exchCycles := 0, exchOk := false, skip := 0, delays := [], goodRun := 0 }
  let peer := b.reg (prt p Reg.PT_PEER_ID)
  let b := { b with seen := b.seen.filter (·.origin ≠ peer) }
  let b := (b.cinderRec 0x0A 0 0 (p * 2 ^ 24 + peer % 2 ^ 24)).event (pgRein p) 8 0 0 peer
  b.noteLink p false

/-! ### Lanes -/

/-- Signal on the active receive lane, and whether the other lane is received well. -/
def RPort.sigActive (r : RPort) : Bool := if r.rxSpare then r.sigB else r.sigA
def RPort.otherWell (r : RPort) : Bool := if r.rxSpare then r.wellA else r.wellB
def RPort.anySignal (r : RPort) : Bool := r.sigA || r.sigB

/-- RXOK that a port sends (R368). -/
def RPort.rxok (r : RPort) : Nat := ofBit r.wellA + 2 * ofBit r.wellB

/-- Past training: IDENT, QUARANTINE or RUN. -/
def PtState.linked (s : PtState) : Bool := s = .ident ∨ s = .quarantine ∨ s = .run
/-- QUARANTINE or RUN. -/
def PtState.framed (s : PtState) : Bool := s = .quarantine ∨ s = .run

/-- The lane on which a port in training receives (R368). -/
def RPort.selects (r : RPort) (lane : Nat) : Bool := decide (lane = if r.wellA then 0 else 1)

/-- The ordered set that a port in TRAIN sends on both lanes: TS1, or TS2 with its RXOK once a lane is received well (R368). -/
def RPort.trainOut (r : RPort) : Option (Nat × Nat) :=
  if r.st ≠ .train then none else if r.wellA || r.wellB then some (2, r.rxok) else some (1, 0)

/-- A lane is no longer received well: its run of ordered sets starts again (R368). -/
def RPort.unwell (r : RPort) (lane : Nat) : RPort :=
  let r := { r with ts1Run := modAt (fun _ => 0) lane r.ts1Run, ts2Run := if r.selects lane then 0 else r.ts2Run }
  if lane = 0 then { r with wellA := false } else { r with wellB := false }

/-- A lane's signal changes (R356, R373). -/
def Block.laneSignal (b : Block) (p lane : Nat) (present : Bool) : Block :=
  let b := b.modPort p fun r =>
    let r := if present then r else r.unwell lane
    if lane = 0 then { r with sigA := present } else { r with sigB := present }
  let r := b.port p
  if r.st.linked ∧ (!r.anySignal ∨ (!r.sigActive ∧ !r.otherWell)) then b.toTrain p 3 else b

/-- A consecutive valid ordered set on a lane; the eighth makes it received well (R368). -/
def RPort.orderedSet (r : RPort) (lane : Nat) : RPort :=
  let r := { r with ts1Run := modAt (· + 1) lane r.ts1Run }
  if nth r.ts1Run lane < 8 then r else if lane = 0 then { r with wellA := true } else { r with wellB := true }

/-- Zilpoten sends an ordered set for each that it takes on the lane it selects (log entry 15): the TS2 sent are counted. -/
def RPort.sendsSet (r : RPort) (lane : Nat) : RPort :=
  if r.selects lane ∧ (r.wellA ∨ r.wellB) then { r with ts2Sent := r.ts2Sent + 1 } else r

/-- A receive lane that has been retired carries nothing any more (R424). -/
def Block.laneRetired (b : Block) (p lane : Nat) : Bool := decide ((b.wearOf 5 (2 * p + lane)).st = 2)

/-- A TS1 (R368, R372, R373). -/
def Block.takeTs1 (b : Block) (p lane : Nat) : Block :=
  let r := b.port p
  let sig := if lane = 0 then r.sigA else r.sigB
  if !sig ∨ b.laneRetired p lane then b
  else match r.st with
    | .train => b.modPort p fun r =>
      let r := (r.orderedSet lane).sendsSet lane
      { r with ts2Run := if r.selects lane then 0 else r.ts2Run }
    | .off => b
    | .isolated => b
    | _ => if decide (lane = 1) = r.rxSpare then b.toTrain p 8 else b

/-- A TS2 (R368): the eighth in a row on the lane received, with a nonzero RXOK, ends training once 8 TS2 have been sent. -/
def Block.takeTs2 (b : Block) (p lane rxok : Nat) : Block :=
  let r := b.port p
  let sig := if lane = 0 then r.sigA else r.sigB
  if r.st ≠ .train ∨ !sig ∨ b.laneRetired p lane then b
  else
    let r := (r.orderedSet lane).sendsSet lane
    let r := if !r.selects lane then r else { r with ts2Run := if rxok = 0 then 0 else r.ts2Run + 1 }
    let b := b.setPort p r
    if 8 ≤ r.ts2Run ∧ 8 ≤ r.ts2Sent ∧ (r.wellA ∨ r.wellB) then b.enterIdent p rxok else b

/-- An attempt at training fails (R368, R373). -/
def Block.attemptFails (b : Block) (p : Nat) : Block :=
  let r := b.port p
  let n := if r.anySignal then r.fails + 1 else r.fails
  let b := b.setPort p { r.clearTraining with fails := n, stCycles := 0 }
  if 16 ≤ n ∧ r.anySignal then b.isolate p 4 else b

/-! ### Replays and NAKs (R361) -/

/-- The ERR events that the uncovered frames carry and that no replay has carried yet. -/
def RPort.freshErrs (r : RPort) : List (BitVec 192) :=
  (dedup ((r.uncovered.filter fun f => f.cls = 1 ∧ !f.replay).map (·.payload))).filter fun p => !r.lateErrs.contains p

/-- Whether a replayed event had reached the partner before: only the partner knows, so it is a free value. An event that reaches it
only through replay is late (R385). -/
def Block.errReplayed (b : Block) (p : Nat) (payload : BitVec 192) : Block :=
  let (x, b) := b.fresh 1
  if x = 1 then b.errLate p payload else b

/-- A replay from the oldest uncovered frame. An exchange whose DELAY_REQ it carries is dropped (R389). -/
def Block.replay (b : Block) (p : Nat) : Block :=
  let r := b.port p
  if r.uncovered.isEmpty then b
  else if 8 ≤ r.replays then b.toTrain p 7
  else
    let dropped := r.uncovered.any fun f => f.cls = 0 ∧ f.typ = 2 ∧ f.payload = pay r.exch
    let l := r.uncovered.map fun (f : Frame) => { f with replay := true }
    let b := b.setPort p (l.foldl RPort.emit { r with
      uncovered := l, replays := r.replays + 1, ackCycles := 0, exchOk := r.exchOk && !dropped })
    r.freshErrs.foldl (fun b x => b.errReplayed p x) (b.count32 (prt p Reg.REPLAYS))

/-- A NAK, once for each value of the expected SEQ. -/
def Block.sendNak (b : Block) (p : Nat) : Block :=
  let r := b.port p
  if r.nakFor = some r.expSeq ∨ !r.st.framed then b
  else b.setPort p (({ r with nakFor := some r.expSeq }).emitLink 2 (pay r.expSeq))

/-- A bad frame (R359): discarded, counted, and answered with a NAK. -/
def Block.rxBad (b : Block) (p : Nat) : Block :=
  if (b.port p).st.linked then (b.count32 (prt p Reg.CRC_ERR)).sendNak p else b

/-- An ACK that a good frame carries: what it covers leaves the replay buffer, and a MESSAGE in it is done (R361, R394). -/
def RPort.takeAck (r : RPort) (f : Frame) : RPort :=
  if f.ackValid ∧ r.uncovered.any (·.seq = f.ack) then
    let l := (r.uncovered.dropWhile (·.seq ≠ f.ack)).drop 1
    { r with
      uncovered := l, ackCycles := 0, replays := 0
      mgBusy := r.mgBusy && (l.any (·.cls = 5) || r.txq.any (·.cls = 5)) }
  else r

/-- A good frame has come: its time, and its ACK. -/
def Block.rxGood (b : Block) (p : Nat) (f : Frame) : Block :=
  b.modPort p fun r => RPort.flush b.ns ({ r with lastGood := b.ns }.takeAck f)

/-! ### Credits and rate limits -/

/-- Consumptions of class `c` not yet reported. -/
def RPort.untold (r : RPort) (c : Nat) : Nat := (nth r.consumed c + 65536 - nth r.toldCons c) % 65536

/-- A CREDIT frame (R363). -/
def RPort.sendCredit (r : RPort) : RPort :=
  { r with toldCons := r.consumed, creditCycles := 0, unrepCycles := 0 }.emitLink 1
    (pay (((List.range 6).map fun c => nth r.consumed c * 2 ^ (16 * c)).foldl (· + ·) 0))

/-- A frame of class `c` is consumed. -/
def RPort.consume (r : RPort) (c : Nat) : RPort :=
  let none_ := (List.range 6).all fun k => r.untold k = 0
  let r := { r with consumed := modAt (fun n => (n + 1) % 65536) c r.consumed, unrepCycles := if none_ then 0 else r.unrepCycles }
  if 8 ≤ r.untold c then r.sendCredit else r

def Block.consume (b : Block) (p c : Nat) : Block := if (b.port p).st.framed then b.modPort p fun r => r.consume c else b

/-- Tokens of class `c`, in tokens × ZCLK cycles of a ms; a bucket never used is full (log entry 15). -/
def RPort.bucket (r : RPort) (c : Nat) : Nat := r.tokens.getD c ((r.rl.getD c (0, 0)).2 * Config.cyclesMs)

/-- One token taken from class `c`, if it has one (R379). -/
def RPort.takeToken (r : RPort) (c : Nat) : Option RPort :=
  if Config.cyclesMs ≤ r.bucket c then
    some { r with tokens := modAt (· - Config.cyclesMs) c ((List.range 8).map r.bucket) }
  else none

/-- A frame's content is discarded for want of a token; too many in a ms isolate the port (R379, R380). -/
def Block.rlDrop (b : Block) (p c : Nat) : Block :=
  let r := b.port p
  let l := b.aonClk :: ((Tab.get (fun _ => []) r.dropTimes c).filter fun t => b.aonClk < t + Config.cyclesMs)
  let b := (b.setPort p { r with dropTimes := Tab.set (fun _ => []) r.dropTimes c l }).count32 (prt p Reg.RL_DROP)
  let lim := b.field (prt p Reg.RL_STRIKES) 15 0
  if lim ≠ 0 ∧ lim < l.length ∧ r.st.framed then b.isolate p 15 else b

/-! ### Messages -/

/-- A HEARTBEAT is taken (R370, R373, R386). -/
def Block.takeHeartbeat (b : Block) (p : Nat) (f : Frame) : Block :=
  let r := b.port p
  if payField f.payload 0 4 ≠ b.reg (prt p Reg.PT_PEER_ID) then b.isolate p 14
  else
    let period := b.field (prt p Reg.HB_CTL) 15 0 * Config.cyclesUs
    let n := if r.hbGood = 0 ∨ 2 * r.hbLast ≤ 3 * period then r.hbGood + 1 else 1
    b.setPort p { r with hbGood := n, hbLast := 0, authAsked := r.authAsked || (decide (r.st = .quarantine) && decide (16 ≤ n)) }

/-- Whether this port's time master is followed (R387, R388). -/
def Block.follows (b : Block) (p : Nat) : Bool := bit (b.reg (prt p Reg.PT_CTL)) 3

/-- SYNC (R388, R389). -/
def Block.takeSync (b : Block) (p : Nat) (f : Frame) : Block :=
  if !b.follows p then b
  else
    let d := payField f.payload 4 1 % 16
    let b := b.modPort p fun r => { r with exch := payField f.payload 0 4, t2 := b.ns, exchOk := !f.replay, peerDepth := d }
    if d ≤ 13 then { b with sync := { b.sync with depth := some (d + 1) } } else b

/-- FOLLOW_UP: the follower takes T1 and answers with DELAY_REQ (R389). -/
def Block.takeFollowUp (b : Block) (p : Nat) (f : Frame) : Block :=
  let r := b.port p
  if !b.follows p ∨ payField f.payload 0 4 ≠ r.exch then b
  else
    let b := b.setPort p { r with t1 := payField f.payload 8 8, exchOk := r.exchOk && !f.replay }
    b.sendFrame p 0 2 (pay r.exch)

/-- DELAY_REQ: the master answers with T4 (R389). -/
def Block.takeDelayReq (b : Block) (p : Nat) (f : Frame) : Block :=
  if bit (b.reg (prt p Reg.PT_CTL)) 4 then b.sendFrame p 0 3 (pay (payField f.payload 0 4 + b.ns * 2 ^ 64)) else b

/-- The fabric time corrected by a kept exchange of offset `o` (R390). -/
def Block.correct (b : Block) (o : Int) : Block :=
  let s := b.sync
  if !s.gained ∧ o < -1000 then { b with fabric := b.fabric + (-o).toNat * 9000000000, sync := { s with gained := true } }
  else if !s.gained ∧ 1000 < o then { b with sync := { s with gained := true, hold := 9 * o.toNat } }
  else { b with sync := { s with gained := true, ppb := max (-100000) (min 100000 (-o * 4000)) } }

/-- A kept exchange: its registers, the correction, and the lock (R389, R390). -/
def Block.keepExchange (b : Block) (p : Nat) (o d : Int) : Block :=
  let b := (b.setReg (prt p Reg.TS_OFFSET) (o % 2 ^ 32).toNat).setReg (prt p Reg.TS_DELAY) (d % 2 ^ 32).toNat
  let b := b.modPort p fun r => { r with delays := (d :: r.delays).take 8, goodRun := if o.natAbs ≤ 4 then r.goodRun + 1 else 0 }
  let b := b.correct o
  if 8 < o.natAbs then b.setLock p false
  else if 4 ≤ (b.port p).goodRun then b.setLock p true
  else b

/-- DELAY_RESP: the follower's offset and delay, kept or dropped (R389). A mean is rounded down. -/
def Block.takeDelayResp (b : Block) (p : Nat) (f : Frame) : Block :=
  let r := b.port p
  if !b.follows p ∨ payField f.payload 0 4 ≠ r.exch ∨ 13 < r.peerDepth then b
  else
    let t4 : Int := payField f.payload 8 8
    let fwd : Int := (r.t2 : Int) - r.t1
    let back : Int := t4 - r.t3
    let o := (fwd - back) / 2
    let d := (fwd + back) / 2
    let mean := (r.delays.foldl (· + ·) 0) / max 1 (r.delays.length : Int)
    let far := !r.delays.isEmpty && decide (20 < (d - mean).natAbs)
    let b := b.setPort p { r with skip := r.skip - 1, exchOk := false }
    if !r.exchOk ∨ f.replay ∨ far ∨ 0 < r.skip then b else b.keepExchange p o d

/-- An ERR event forwarded on the other ports (R384). -/
def Block.forwardErr (b : Block) (p typ : Nat) (pl : BitVec 192) : Block :=
  let hops := payField pl 13 1 % 8
  if hops < 7 then
    (b.runPorts.filter fun k => k ≠ p ∧ bit (b.reg (prt k Reg.PT_CTL)) 5).foldl (fun b k => b.sendErr k typ (pl + pay (2 ^ 104))) b
  else b

/-- ERROR and ABORT (R383, R384, R412): an event already taken is ignored; one of a job without a local member is forwarded only. -/
def Block.takeErr (b : Block) (p typ : Nat) (pl : BitVec 192) : Block :=
  let origin := payField pl 0 4
  let no := payField pl 4 4
  let job := payField pl 8 4
  let code := payField pl 12 1
  let inc := payField pl 14 2
  if b.seen.any fun e => e.origin = origin ∧ e.inc = inc ∧ e.no = no then b
  else
    let b := (b.remember origin inc no).cinderRec 0x0B code 0 (p * 2 ^ 24 + job % 2 ^ 24)
    let mine := (b.ctxs.filter fun kv => kv.2.jobValid ∧ kv.2.job = job).map (·.1)
    let b := if typ = 1 then mine.foldl (fun b c => b.loseCtx c 0x31 none true) b
      else if mine.isEmpty then b
      else b.event pgRc 12 0 (origin * 2 ^ 32 + job) (p * 2 ^ 8 + code)
    b.forwardErr p typ pl

/-- RELAY (R155, R392): only from the TS_UP port. -/
def Block.takeRelayFrame (b : Block) (p : Nat) (pl : BitVec 192) : Block :=
  if b.follows p then b.takeRelay (payField pl 0 6) (payField pl 8 8) else b

/-- RECORD (R393, R457): a mirror record with its port, or nothing. -/
def Block.takeMirror (b : Block) (p : Nat) (pl : BitVec 192) : Block :=
  if bit (b.reg (prt p Reg.PT_CTL)) 7 then
    let r := payField pl 8 16
    let r := r - bits r 119 116 * 2 ^ 116 + (2 * p + 1) * 2 ^ 116
    b.cinderPut (r / 2 ^ 120) (BitVec.ofNat 128 r) false
  else b

/-- MESSAGE (R394): it waits for MG_RX, and is not consumed before its VALID is written. -/
def Block.takeMessage (b : Block) (p : Nat) (pl : BitVec 192) : Block :=
  let first := (b.port p).mgRx.isEmpty
  let b := b.modPort p fun r => { r with mgRx := r.mgRx ++ [pl] }
  if first then b.event (pgRein p) 10 else b

/-- What a message does (R381). -/
def Block.rxContent (b : Block) (p : Nat) (f : Frame) : Block :=
  match f.cls, f.typ with
  | 0, 0 => b.takeSync p f
  | 0, 1 => b.takeFollowUp p f
  | 0, 2 => b.takeDelayReq p f
  | 0, 3 => b.takeDelayResp p f
  | 1, t => b.takeErr p t f.payload
  | 2, _ => b.takeHeartbeat p f
  | 3, _ => b.takeRelayFrame p f.payload
  | 4, _ => b.takeMirror p f.payload
  | 5, _ => b.takeMessage p f.payload
  | _, _ => b

/-- Whether frames of a class wait in the receive buffers: a global stop or an L3 holds the units that take them (R377, R448). -/
def Block.rxHolds (b : Block) (c : Nat) : Bool := (b.stop.stopped || decide (b.st = .off)) && decide (c = 1 ∨ 3 ≤ c)

/-- A message taken, and consumed unless it waits in MG_RX (R363, R394). -/
def Block.rxTake (b : Block) (p : Nat) (f : Frame) : Block :=
  let b := b.rxContent p f
  if f.cls = 5 then b else b.consume p f.cls

/-- A frame accepted in order (R360, R379). A replay takes no token. -/
def Block.rxAccept (b : Block) (p : Nat) (f : Frame) : Block :=
  let b := b.modPort p fun r => { r with expSeq := (r.expSeq + 1) % 256, ackedTo := some f.seq, nakFor := none }
  match if f.replay then some (b.port p) else (b.port p).takeToken f.cls with
  | none => (b.consume p f.cls).rlDrop p f.cls
  | some r =>
    let b := b.setPort p r
    if b.rxHolds f.cls then b.modPort p fun r => { r with rxHeld := r.rxHeld ++ [f] } else b.rxTake p f

/-- A credited frame of a class and type arrives (R359, R360, R367, R370, R383). -/
def Block.rxFrame (b : Block) (p : Nat) (f : Frame) (cls typ : Nat) : Block :=
  let f := { f with cls := cls, typ := typ }
  let r := b.port p
  if !r.st.linked then b
  else if f.resv ≠ 0 then b.rxBad p
  else if !r.st.framed then b
  else if r.st = .quarantine ∧ cls ≠ 2 then b.isolate p 11
  else
    let b := b.rxGood p f
    let d := (r.expSeq + 256 - f.seq % 256) % 256
    if d = 0 then b.rxAccept p f
    else if d ≤ 128 then b
    else
      let b := if cls = 1 ∧ !b.rxHolds 1 then b.rxContent p f else b
      b.sendNak p

/-- A LINK frame arrives in a state that admits it (R359, R367, R379). -/
def Block.rxLink (b : Block) (p : Nat) (f : Frame) (admits : PtState → Bool) (g : Block → Block) : Block :=
  let r := b.port p
  if !r.st.linked then b
  else if f.resv ≠ 0 then b.rxBad p
  else if !admits r.st then b
  else
    let b := if r.st.framed then b.rxGood p f else b
    match (b.port p).takeToken 7 with
    | none => b.rlDrop p 7
    | some r => g (b.setPort p r)

/-- The frames that a port's receive buffers hold are taken, in order. -/
def Block.rxRelease (b : Block) (p : Nat) : Block :=
  let l := (b.port p).rxHeld
  l.foldl (fun b f => if (b.port p).st.framed then b.rxTake p f else b) (b.modPort p fun r => { r with rxHeld := [] })

/-- What a stop or an L3 has held of the link is taken (R377, R448). -/
def Block.linkRelease (b : Block) : Block :=
  let l := b.linkNotes
  let b := { b with linkNotes := [] }
  let b := l.foldl (fun b x => b.linkNote x.1 x.2) b
  (List.range 8).foldl Block.rxRelease b

/-! ### IDENT (R369) -/

/-- The payload of an IDENT frame of port `p`. -/
def Block.identPayload (b : Block) (p : Nat) : BitVec 192 :=
  let allot := ((List.range 6).map fun c => Config.allotment c * 2 ^ (8 * c)).foldl (· + ·) 0
  pay (b.chipId + Config.blockId * 2 ^ 32 + allot * 2 ^ 64
    + (b.field Reg.GLB_ROLE 1 0 + p * 4 + ofBit (b.port p).peerSeen * 32) * 2 ^ 112 + b.depth * 2 ^ 120)

/-- The credits that an IDENT grants. -/
def identAllot (pl : BitVec 192) : List Nat := (List.range 6).map fun c => payField pl (8 + c) 1

/-- Whether a received IDENT is bad. -/
def Block.identBad (b : Block) (pl : BitVec 192) : Bool :=
  let al := identAllot pl
  decide (64 ≤ payField pl 14 1) || decide (16 ≤ payField pl 15 1) || decide (payField pl 16 8 ≠ 0)
    || decide (payField pl 4 4 / 65536 ≠ 0x5A17) || al.contains 0 || decide (nth al 1 < 6) || decide (64 < sumBy id al)
    || decide (payField pl 0 4 = b.chipId)

/-- An IDENT is taken (R369, R373, R374). -/
def Block.takeIdent (b : Block) (p : Nat) (pl : BitVec 192) : Block :=
  let id := payField pl 0 4
  let allowed := [Reg.PT_ALLOW0, Reg.PT_ALLOW1, Reg.PT_ALLOW2, Reg.PT_ALLOW3].any fun a => b.reg (prt p a) = id ∧ id ≠ 2 ^ 32 - 1
  let bad := b.identBad pl
  let b := if bad then b
    else (b.setReg (prt p Reg.PT_PEER_ID) id).setReg (prt p Reg.PT_PEER_INFO)
      (payField pl 4 2 * 2 ^ 16 + payField pl 15 1 % 16 * 2 ^ 12 + payField pl 14 1 / 4 % 8 * 2 ^ 8 + payField pl 14 1 % 4)
  if !allowed then b.isolate p 9
  else if bad then b.isolate p 10
  else if (b.port p).st = .ident then
    let b := b.modPort p fun r => { r with peerSeen := true, allot := identAllot pl }
    if bit (payField pl 14 1) 5 then b.enterQuarantine p else b
  else b

/-! ### Authentication (R370, R371) -/

/-- The message bytes of an AUTH frame, handed to the security block. -/
def Block.toSecurity (b : Block) (pl : BitVec 192) : Block := { b with secOut := leBytes 22 (pl.toNat / 2 ^ 16) }

/-- RUN, once a port has its own PASS and the partner's AUTH_DONE. -/
def Block.authSettle (b : Block) (p : Nat) : Block := if (b.port p).selfPass ∧ (b.port p).peerDone then b.enterRun p else b

/-- The frames that carry a message of the security block: chunk index, chunk count, and up to 22 bytes. -/
def authChunks (bytes : List Byte) : List (BitVec 192) :=
  let n := ceilDiv bytes.length 22
  (List.range n).map fun k => pay (k + n * 2 ^ 8 + ofLeBytes ((bytes.drop (22 * k)).take 22) * 2 ^ 16)

/-! ### Lane sparing (R378) -/

/-- Code groups of a receive lane that are invalid or break running disparity (R357). Those of the last ms are kept (R378). -/
def Block.codeErrors (b : Block) (p lane n : Nat) : Block :=
  let a := prt p Reg.SYM_ERR
  let (hi, lo) := if lane = 0 then (15, 0) else (31, 16)
  let b := b.setField a hi lo (satAdd 16 (b.field a hi lo) n)
  b.modPort p fun r => { r with
    codeErrs := modAt (fun l => List.replicate (min n 65) b.aonClk ++ l.filter fun t => b.aonClk < t + Config.cyclesMs) lane r.codeErrs }

/-- More than 64 code-group errors of a lane within 1 ms (R378). -/
def RPort.noisy (r : RPort) (now lane : Nat) : Bool :=
  decide (64 < ((r.codeErrs.getD lane []).filter fun t => now < t + Config.cyclesMs).length)

/-- After a lane switch in either direction the delay history is cleared and 4 exchanges are dropped (R389). -/
def RPort.switched (r : RPort) : RPort := { r with delays := [], skip := 4 }

/-- The partner names the lanes it receives well: the transmitter moves, or the port trains. -/
def Block.takeLaneSwitch (b : Block) (p rxok : Nat) : Block :=
  let r := b.port p
  let other := if r.txSpare then 0 else 1
  if bit rxok other then
    let b := b.setField (prt p Reg.LANE_STS) (2 + (1 - other)) (2 + (1 - other)) 1
    (b.setPort p { r.switched with txSpare := decide (other = 1) }).replay p
  else if rxok % 4 = 0 then b.toTrain p 3
  else b

/-- The active receive lane fails: it counts as wear, the partner is told, and reception moves to the other lane or the port trains. -/
def Block.laneFails (b : Block) (p : Nat) : Block :=
  let r := b.port p
  let lane := ofBit r.rxSpare
  let b := b.setField (prt p Reg.LANE_STS) lane lane 1
  let w := b.wearOf 5 (2 * p + lane)
  let b := b.setWear 5 (2 * p + lane) { w with ce := satAdd 16 w.ce 1 }
  let r := r.unwell lane
  let b := b.setPort p (r.emitLink 5 (pay r.rxok))
  if r.rxok = 0 then b.toTrain p 3 else b.modPort p fun r => { r.switched with rxSpare := decide (lane = 0) }

/-! ### PT_CTL (R373, R374, R387, R525) -/

/-- A write of PT_CTL: TS_UP on a second port, TS_UP with TS_DOWN, and EN without a CHIP_ID are refused whole. -/
def Block.ptCtlWrite (b : Block) (path p v : Nat) : Block :=
  let a := prt p Reg.PT_CTL
  let up2 := bit v 3 && (match b.tsUp? with
    | some k => decide (k ≠ p)
    | none => false)
  if up2 ∨ (bit v 3 ∧ bit v 4) ∨ (bit v 0 ∧ b.chipId = 2 ^ 32 - 1) then b.pageErr path a
  else
    let moved := bit v 3 && !bit (b.reg a) 3
    let b := if moved then { b with sync := { b.sync with gained := false } } else b
    let b := b.setReg a (v &&& 0xF9)
    let st := (b.port p).st
    if !bit v 0 then (if st = .off then b else b.toState p .off 1)
    else if st = .off then b.toState p .train 0
    else if bit v 1 ∧ (st.linked ∨ st = .isolated) then b.toTrain p 2
    else b

end Sys2Proof.Machine
end

