-- ==== Sys2Proof/Machine/WickRows.lean ====
section
/-!
DEFINITION. The rows of the Wick Engine and the Credit Ledger: signals and pacing (R235, R320), the signal window (R265),
imports and windows (R256, R257), bounds (R246, R263), row errors (R236), commit wicks (R331), closings (R325) and the ledger's
own storage error (R329).
-/
namespace Sys2Proof.Machine

/-! ### Signals -/

/-- A signal reaches an allocated slot, with its waiters and bounds. -/
def Block.signalOne (b : Block) (slot : Nat) (setmax : Bool) (v : Nat) (win : Bool) : Block :=
  (b.sigSlot slot setmax v win).settleWicks b [slot]

/-- WICK_SIGNAL_APPLY (R235). -/
def execWickSignalApply (slot : Nat) (setmax : Bool) (v : BitVec 64) (s : State) : Host.Outcome State Fault Refusal :=
  s.core fun b => if (b.slot slot).alloc then b.signalOne slot setmax v.toNat false else b

/-- Held signals of the commit wicks of harness `h` leave where nothing holds them any longer (R320); commands that waited for them
complete (R23), and what the boundary held goes on (R33). -/
def Block.releaseSteps (b : Block) (h : Nat) : Block :=
  let ss := dedup ((b.heldSigs.filter (·.h = h)).map (·.slot))
  (ss.foldl (fun b s => (Block.releaseHeld s (b.heldSigs.filter (·.slot = s)) b).settleWicks b [s]) b).settlePosted

/-- STEP_PACING_EXPIRY (R320). -/
def execStepPacingExpiry (h : Nat) (s : State) : Host.Outcome State Fault Refusal := s.core fun b => b.releaseSteps h

/-- A 64-bit write to the VALUE half of a window page (R265). -/
def Block.windowWrite (b : Block) (slot v : Nat) : Block :=
  let x := b.slot slot
  if x.alloc ∧ x.exported ∧ x.window then b.signalOne slot true v true
  else (b.ledgerTerm fun l => { l with issued := l.issued + 1, win := l.win + 1 }).count32 Reg.WK_WIN_DROP

/-- The offset of the VALUE of a slot in its window page (R264). -/
def windowOff (slot : Nat) : Nat := 0x800 + slot % 128 * 8

/-- WINDOW_SIGNAL_WRITE (R265, R450, R513). -/
def execWindowSignalWrite (path slot : Nat) (v : BitVec 64) (s : State) : Host.Outcome State Fault Refusal :=
  s.aon fun b =>
    if !b.pathUp path ∨ b.pins.coreHeld then b
    else if b.stop.stopped then b.stopDrop
    else if path = 3 then b.accessErr pgWk path (windowOff slot) 0x11
    else b.windowWrite slot v.toNat

/-! ### Imports and windows -/

def Block.impCtx (b : Block) : Nat := b.field Reg.WK_IMP_DEST 11 0
def Block.impVid (b : Block) : Nat := b.field Reg.WK_IMP_DEST 31 16

/-- The slot that the staged token names (R257). -/
def Block.impSlot? (b : Block) : Option Nat := b.tokenSlot? (b.reg Reg.WK_IMP_TOKEN)

/-- The slot that the staged token names by number and generation, whether EXPORTED or not. -/
def Block.impNumber? (b : Block) : Option Nat :=
  let low := b.reg Reg.WK_IMP_TOKEN
  let s := low % 2 ^ 17
  if (b.slot s).gen = low / 2 ^ 17 % 2 ^ 15 then some s else none

/-- Whether a context holds a name of a slot (R238). -/
def Block.namesSlot (b : Block) (c s : Nat) : Bool :=
  b.vids.any fun kv => kv.1 / 65536 = c ∧ kv.2.slot? = some s

/-- STATUS of the import operation (R257). -/
def Block.importStatus (b : Block) (rights : Nat) : Nat :=
  let c := b.impCtx
  let v := b.impVid
  if b.ctxLost c then 0x32
  else if isDoorbell v ∨ rights = 0 ∨ ((b.impNumber?.map (b.namesSlot c)).getD false) then 0x12
  else if b.impSlot?.isNone ∨ b.ctxFree c ∨ b.ctxClosing c then 0x13
  else if b.vid c v ≠ .free then 0x14
  else 0

/-- The result of an import operation: BUSY reads 1 for a free time of at most 1 µs (R256, log entry 107). -/
def Block.impResult (b : Block) (st : Nat) : Block :=
  let t := b.busyTime 1
  { t.2 with impBusy := t.1 }.setReg Reg.WK_IMP_RESULT st

/-- A write to WK_IMP_CMD: ignored with an access error while BUSY is 1 (R256). -/
def Block.impOp (b : Block) (path : Nat) (f : Block → Block) : Block :=
  if b.impBusy ≠ 0 then b.pageErr path Reg.WK_IMP_CMD else f b

def Block.doImport (b : Block) (rights : Nat) : Block :=
  let st := b.importStatus rights
  match b.impSlot? with
  | some s => if st = 0 then (b.setVid b.impCtx b.impVid (.imported s rights)).impResult 0 else b.impResult st
  | none => b.impResult st

/-- WICK_IMPORT (R257). -/
def execWickImport (path : Nat) (rights : BitVec 3) (s : State) : Host.Outcome State Fault Refusal :=
  s.write path Reg.WK_IMP_CMD fun b => b.impOp path fun b => b.doImport rights.toNat

/-- STATUS of the release operation (R257). -/
def Block.releaseStatus (b : Block) : Nat :=
  let c := b.impCtx
  let v := b.impVid
  if b.ctxLost c then 0x32
  else if isDoorbell v then 0x12
  else if b.ctxFree c ∨ b.ctxClosing c ∨ !(b.vid c v).isImport then 0x13
  else if b.vidNamed c v then 0x14
  else 0

def Block.doRelease (b : Block) : Block :=
  let st := b.releaseStatus
  if st = 0 then (b.freeVid b.impCtx b.impVid).impResult 0 else b.impResult st

/-- WICK_RELEASE (R257). -/
def execWickRelease (path : Nat) (s : State) : Host.Outcome State Fault Refusal :=
  s.write path Reg.WK_IMP_CMD fun b => b.impOp path Block.doRelease

def Block.setWindow (b : Block) (on : Bool) : Block :=
  match b.impSlot? with
  | some s => (b.setSlot s { b.slot s with window := on }).impResult 0
  | none => b.impResult 0x13

/-- WINDOW_ON (R257). -/
def execWindowOn (path : Nat) (s : State) : Host.Outcome State Fault Refusal :=
  s.write path Reg.WK_IMP_CMD fun b => b.impOp path (Block.setWindow · true)

/-- WINDOW_OFF (R257). -/
def execWindowOff (path : Nat) (s : State) : Host.Outcome State Fault Refusal :=
  s.write path Reg.WK_IMP_CMD fun b => b.impOp path (Block.setWindow · false)

/-! ### Bounds -/

/-- The flags that a write of WK_BND_CTL clears (R247). -/
def Bound.clearFlags (y : Bound) (v : Nat) : Bound := { y with underrun := y.underrun && !bit v 3, overrun := y.overrun && !bit v 2 }

/-- The bound record selected. -/
def Block.bndSel (b : Block) : Nat := b.field Reg.WK_BND_SEL 9 0

/-- Registers of a staged bound record. -/
def isBndReg (a : Nat) : Bool := a = Reg.WK_BND_PAIR ∨ a = Reg.WK_BND_CTX ∨ a = Reg.WK_BND_LIMIT_LO ∨ a = Reg.WK_BND_LIMIT_HI

/-- The record as the path has staged it. -/
def Block.stagedBound (b : Block) (path : Nat) (y : Bound) : Bound :=
  let p := b.stagedOr path Reg.WK_BND_PAIR (y.prod * 2 ^ 16 + y.cons)
  { y with
    prod := bits p 31 16, cons := bits p 15 0
    ctx := bits (b.stagedOr path Reg.WK_BND_CTX y.ctx) 11 0
    limit := b.stagedOr path Reg.WK_BND_LIMIT_LO (y.limit % 2 ^ 32) + 2 ^ 32 * b.stagedOr path Reg.WK_BND_LIMIT_HI (y.limit / 2 ^ 32) }

/-- A write of WK_BND_CTL with EN = 1 (R246): the staged values are consumed, and a refused commit leaves the record disabled. -/
def Block.bndCommit (b : Block) (path v : Nat) : Block :=
  let k := b.bndSel
  let old := (b.bound k).clearFlags v
  let y := b.stagedBound path old
  let b := b.unstagePath path isBndReg
  match b.slotOf y.ctx y.prod, b.slotOf y.ctx y.cons with
  | some p, some c =>
    if (b.ctx y.ctx).st = .opn ∧ p ≠ c then b.setBound k { y with en := true, prodSlot := p, consSlot := c }
    else (b.setBound k { old with en := false }).pageErr path Reg.WK_BND_CTL
  | _, _ => (b.setBound k { old with en := false }).pageErr path Reg.WK_BND_CTL

/-- BOUND_COMMIT (R246). -/
def execBoundCommit (path : Nat) (v : BitVec 32) (s : State) : Host.Outcome State Fault Refusal :=
  s.write path Reg.WK_BND_CTL fun b => b.bndCommit path v.toNat

/-- A write of WK_BND_CTL with EN = 0. -/
def Block.bndDisable (b : Block) (v : Nat) : Block :=
  b.setBound b.bndSel { (b.bound b.bndSel).clearFlags v with en := false }

/-- BOUND_DISABLE (R263). -/
def execBoundDisable (path : Nat) (v : BitVec 32) (s : State) : Host.Outcome State Fault Refusal :=
  s.write path Reg.WK_BND_CTL fun b => b.bndDisable v.toNat

/-! ### Row errors -/

/-- The row that holds a slot (R424). -/
def Block.rowOf (b : Block) (s : Nat) : Nat := (b.slot s).spareRow.getD s

/-- A slot moves onto a spare row, or with none left leaves allocation once it is free (R236, R424). -/
def Block.moveRow (b : Block) (s : Nat) : Block :=
  let b := b.retireInst 2 (b.rowOf s)
  match (b.sparesOf 2 s).head? with
  | some r => (b.setSlot s { b.slot s with spareRow := some r }).enterSpare 2 r
  | none => if (b.slot s).alloc ∨ (b.slot s).withdrawn then b
    else (b.setSlot s { b.slot s with withdrawn := true }).setReg Reg.WK_WITHDRAWN (b.reg Reg.WK_WITHDRAWN + 1)

/-- The Cinder record and the event of a wick error (R236, R262). -/
def Block.wickError (b : Block) (s : Nat) : Block :=
  let o := (b.slot s).owner.getD (0, 0)
  (b.cinderRec 0x0D 0 o.1 s).event pgWk 10 o.1 (s * 2 ^ 32 + o.2)

/-- WICK_ROW_UE (R236). -/
def execWickRowUe (slot : Nat) (s : State) : Host.Outcome State Fault Refusal :=
  s.core fun b => (((b.storageUe 2 (b.rowOf slot)).snuff slot).moveRow slot).wickError slot

/-! ### The ledger -/

/-- A write of LG_H_COMMIT (R331): EN = 1 names and enables the commit wick of the selected harness. -/
def Block.commitWrite (b : Block) (path v : Nat) : Block :=
  let h := b.field Reg.LG_H_SEL 5 0
  let c := bits v 27 16
  let w := bits v 15 0
  let x := b.harness h
  if bit v 31 then
    if (b.ctx c).st ≠ .opn ∨ isDoorbell w ∨ x.st = .free ∨ (b.vid c w).slot?.isNone ∨ (b.vid c w).isImport then b.pageErr path Reg.LG_H_COMMIT
    else b.setHarness h { x with commitEn := true, commitCtx := c, commitVid := w }
  else b.setHarness h { x with commitEn := false, commitCtx := c, commitVid := w }

/-- COMMIT_WICK_ENABLE (R331). -/
def execCommitWickEnable (path : Nat) (v : BitVec 32) (s : State) : Host.Outcome State Fault Refusal :=
  s.write path Reg.LG_H_COMMIT fun b => b.commitWrite path (v.toNat ||| 2 ^ 31)

/-- LEDGER_CLOSING (R325): the periodic closing in RUN, at least once in every ms and never twice within 250 µs. -/
def execLedgerClosing (s : State) : Host.Outcome State Fault Refusal :=
  s.core fun b => if b.st = .run ∧ b.closingDue then b.closeAll else b

/-- LEDGER_STORAGE_UE (R329, R396). -/
def execLedgerStorageUe (s : State) : Host.Outcome State Fault Refusal := s.core fun b => (b.plainUe pgLg).rebase 1

end Sys2Proof.Machine
end

