-- ==== Sys2Proof/Machine/Spares.lean ====
section
/-!
DEFINITION. The Spare Manager: what a retirement and the entry of a spare do for each kind (R279, R307, R424 to R426), and the
rows of errors and retirements.
-/
namespace Sys2Proof.Machine

/-! ### Retirements by kind -/

/-- A walker leaves service, its walk restarts on another one, and a spare enters; without one there are fewer walkers (R279). -/
def Block.swapWalker (b : Block) (k : Nat) : Block :=
  let next := (b.sparesOf 1 k).head?
  let b := (b.retireInst 1 k)
  let b : Block := { b with
    walks := mapIf (fun w => w.walker = some k) (fun w => { w with walker := none }) b.walks
    swapping := b.swapping.filter (· ≠ k) }
  Block.startWalks (match next with
    | some n => b.enterSpare 1 n
    | none => b.changeCaps)

/-- A PREDICTED walker is swapped when idle (R424). -/
def Block.retireWalker (b : Block) (k : Nat) : Block :=
  if b.walks.any fun w => w.walker = some k then { b with swapping := dedup (b.swapping ++ [k]) } else b.swapWalker k

/-- A Lamplighter core that still works hands its role to a spare (R424, R493); without one the block has none (R424). -/
def Block.retireLl (b : Block) (k : Nat) : Block :=
  if k ≠ b.mc.active then b.retireInst 0 k
  else match b.takerOf k with
    | some c => ((b.handTo c).retireInst 0 k).enterSpare 0 c
    | none => (b.retireInst 0 k).noSpareLeft

/-- The slot that a wick row holds. -/
def Block.slotOnRow (b : Block) (r : Nat) : Nat :=
  ((b.slots.find? fun kv => kv.2.spareRow = some r).map (·.1)).getD r

/-- A wick row's VALUE and flags move to a spare row; without one the slot is snuffed (R236, R424). -/
def Block.retireRow (b : Block) (r : Nat) : Block :=
  let s := b.slotOnRow r
  if (b.sparesOf 2 s).isEmpty ∧ (b.slot s).alloc then (b.snuff s).moveRow s else b.moveRow s

/-- A directory way: its entries are back-invalidated, each after the transactions that its line has running, and the spare way serves (R339, R424). -/
def Block.retireWay (b : Block) (w : Nat) : Block :=
  let mine := b.coh.dir.filter fun d => d.line % 4 = w / 17 ∧ d.way = w % 17
  let next := (b.sparesOf 3 w).head?
  let b := b.retireInst 3 w
  let b := match next with
    | some k => b.enterSpare 3 k
    | none => b
  mine.foldl (fun b d => (b.count32 Reg.CC_BINV).ccRequest { kind := MsgKind.snpBinv, agent := 512, line := d.line }) b

/-- A range-cache way: its entries are dropped, and the spare way serves (R424). -/
def Block.retireRange (b : Block) (k : Nat) : Block :=
  let next := (b.sparesOf 4 k).head?
  let b := { b with rangeCache := b.rangeCache.filter (·.2 ≠ k) }.retireInst 4 k
  match next with
  | some n => b.enterSpare 4 n
  | none => b

/-- A receive lane: the port moves to its other lane under R378. -/
def Block.retireLane (b : Block) (k : Nat) : Block :=
  let p := k / 2
  let next := (b.sparesOf 5 k).head?
  let b := b.retireInst 5 k
  let b := match next with
    | some n => b.enterSpare 5 n
    | none => b
  if (b.port p).st.linked ∧ ofBit (b.port p).rxSpare = k % 2 then b.laneFails p else b.modPort p fun r => r.unwell (k % 2)

/-- A channel out of service (R307): the stack loses its share, and the frames that lie in it leave the pool. -/
def Block.mapOut (b : Block) (s ch : Nat) : Block :=
  let b := b.retireInst 8 (s * 16 + ch)
  let b : Block := { b with
    chanOk := modAt (fun m => m &&& (65535 - 2 ^ ch)) s b.chanOk
    capMb := modAt (· - b.straps.channelMb) s b.capMb }
  let b := (b.setField Reg.CAPACITY_SHRINK s s 1).poolEvent 3 s
  let l := b.pool s
  let out := l.filter fun f => f / 2 ^ 37 = s ∧ b.channelOf f = ch
  let b := b.setPool s (l.filter fun f => !out.contains f)
  let b := b.ledgerTerm fun t => { t with retired := Tab.set (fun _ => 0) t.retired s (Tab.get (fun _ => 0) t.retired s + out.length) }
  b.changeCaps

/-- Engine of a KIND 6 or 7 instance. -/
def engOfInst (kind inst : Nat) : Nat := if kind = 6 then inst else unitBase + inst

/-- An instance that still works is retired (R424, R425); an engine leaves once it holds no work. -/
def Block.retireNow (b : Block) (kind inst : Nat) : Block :=
  match kind with
  | 0 => b.retireLl inst
  | 1 => b.retireWalker inst
  | 2 => b.retireRow inst
  | 3 => b.retireWay inst
  | 4 => b.retireRange inst
  | 5 => b.retireLane inst
  | 6 => b.setEng inst { b.eng inst with retiring := true }
  | 7 => b.setEng (unitBase + inst) { b.eng (unitBase + inst) with retiring := true }
  | 8 => if bit (nth b.chanOk (inst / 16)) (inst % 16) then b.mapOut (inst / 16) (inst % 16) else b
  | _ => b

/-- SM_RETIRE.BUSY clears once the retirement that it runs has ended. -/
def Block.settleRetire (b : Block) : Block :=
  match b.retireReq with
  | some (kind, inst) =>
    if (b.wearOf kind inst).st = 2 then { b with retireReq := none }.setReg Reg.SM_RETIRE 0 else b
  | none => b

/-- SM_RETIRE.GO (R430): STATUS 0x14 while another retirement runs, 0x13 for an instance not in service. -/
def Block.retireGo (b : Block) : Block :=
  let kind := b.field Reg.SM_SEL 31 28
  let inst := b.field Reg.SM_SEL 19 0
  if b.retireReq.isSome then b.setField Reg.SM_RETIRE 7 0 0x14
  else if 2 ≤ (b.wearOf kind inst).st then b.setField Reg.SM_RETIRE 7 0 0x13
  else (({ b with retireReq := some (kind, inst) }.setReg Reg.SM_RETIRE (2 ^ 31)).retireNow kind inst).settleRetire

/-- SPARE_RETIRE_GO (R424, R425, R430). -/
def execSpareRetireGo (path : Nat) (s : State) : Host.Outcome State Fault Refusal :=
  s.write path Reg.SM_RETIRE fun b => b.retireGo

/-! ### Engines -/

/-- The spare for a retired engine (R425): a unit of the same stack; the lowest-numbered core of the same stack, or else the
lowest-numbered one. -/
def Block.spareFor (b : Block) (e : Nat) : Option Nat :=
  if e < unitBase then
    let l := b.sparesOf 6 e
    match l.find? fun k => b.nearStack k = b.nearStack e with
    | some k => some k
    | none => l.head?
  else ((b.sparesOf 7 (e - unitBase)).head?).map (unitBase + ·)

def engKind (e : Nat) : Nat := if e < unitBase then 6 else 7
def engInst (e : Nat) : Nat := if e < unitBase then e else e - unitBase

/-- The lists of a harness with engine `e` put through `f`. -/
def Harness.mapEngs (x : Harness) (f : List Nat → List Nat) : Harness := { x with cores := f x.cores, units := f x.units }

/-- A retiring engine that holds no work leaves service: its control core leaves the coherence domain (R335). -/
def Block.dropEngine (b : Block) (e : Nat) : Block :=
  let b := b.ungate e
  let b := if e < unitBase then b.leaveDomain (8 + e) false else b
  (b.setEng e { b.eng e with lit := false, retiring := false, harness := none, tlb := [], needClear := true }).retireInst (engKind e) (engInst e)

/-- A spare takes the place of engine `e`: its position, its wake wire and its harness, lit and cleared (R168, R303, R425). -/
def Block.replaceEngine (b : Block) (e n : Nat) : Block :=
  let h := (b.eng e).harness
  let pos := b.engPos e + 1
  let b := (b.dropEngine e).enterInst (engKind n) (engInst n)
  let b := b.setEng n { b.eng n with harness := h, pos := pos, needClear := true, stamp := b.reg Reg.RC_EPOCH }
  let b : Block := match h with
    | some h => b.setHarness h ((b.harness h).mapEngs fun l => l.map fun k => if k = e then n else k)
    | none => b
  let b := b.mapCmds (fun c => c.opcode = 0x8A ∨ c.opcode = 0x8B) fun c => { c with left := c.left.map fun x => if x.1 = e then (n, x.2) else x }
  let b : Block := if b.st = .run then b.lightEngs [n] else b
  b.changeCaps

/-- An engine without a spare leaves its harness, whose launches are checked again (R426). -/
def Block.loseEngine (b : Block) (e : Nat) : Block :=
  let h := (b.eng e).harness
  let b := b.dropEngine e
  let b := b.mapCmds (fun c => c.opcode = 0x8A ∨ c.opcode = 0x8B) fun c => { c with left := c.left.filter (·.1 ≠ e) }
  let b := match h with
    | some h => ((b.setHarness h ((b.harness h).mapEngs fun l => l.filter (· ≠ e))).recheckWaits h).placeAll h
    | none => b
  b.settleGrow.changeCaps

/-- ENGINE_REPLACEMENT (R425, R426): of a retiring engine that holds no work. -/
def execEngineReplacement (e : Nat) (s : State) : Host.Outcome State Fault Refusal :=
  s.core fun b =>
    let x := b.eng e
    if x.retiring ∧ x.use = .free ∧ !x.draining then
      Block.settleRetire (match b.spareFor e with
        | some n => b.replaceEngine e n
        | none => b.loseEngine e)
    else b

/-! ### Errors -/

/-- The times in ZCLK cycles of an instance's correctable errors within SM_WINDOW, the newest first, with one of now. -/
def Block.recentCe (b : Block) (w : Wear) : List Nat :=
  b.zclk :: w.recent.filter fun t => b.zclk < t + b.reg Reg.SM_WINDOW * 60000 * Config.cyclesMs

/-- CORRECTABLE_ERROR (R397, R424, R431, R512): it counts, and one beyond SM_THRESH in the window makes its instance PREDICTED; a
predicted stack channel is only flagged. -/
def execCorrectableError (kind inst : Nat) (s : State) : Host.Outcome State Fault Refusal :=
  s.core fun b =>
    if !b.instOk kind inst then b
    else
      let w := b.wearOf kind inst
      let l := b.recentCe w
      let pred := decide (w.st = 0) && decide (b.reg Reg.SM_THRESH < l.length)
      let b := b.setWear kind inst { w with ce := satAdd 16 w.ce 1, recent := l, st := if pred then 1 else w.st }
      let b := match kindPage kind inst with
        | some pg => (b.count32 (pg * 0x1000 + Reg.PG_AON0)).setArms pg (b.arms pg / 2 * 2)
        | none => b
      if pred then
        let b := b.spareEvent kind inst 0
        if bit (b.reg Reg.SM_CTL) 0 ∧ kind ≠ 8 then b.retireNow kind inst else b
      else b

/-- ENGINE_UE (R396, R424, R425): the engine's work is cancelled as at L1, and the engine retires. -/
def execEngineUe (e : Nat) (s : State) : Host.Outcome State Fault Refusal :=
  s.core fun b =>
    if !b.inService e then b
    else
      let cs := (b.workCtx e).toList
      let b := (b.storageUe (engKind e) (engInst e)).event pgRc 9 0 (engCode e)
      let b := ((b.cancelWork e).resetEng e).postCancelled cs
      b.setEng e { b.eng e with retiring := true }

/-- WALKER_UE (R279, R424). -/
def execWalkerUe (k : Nat) (s : State) : Host.Outcome State Fault Refusal :=
  s.core fun b => if b.walkers.contains k then (b.storageUe 1 k).swapWalker k else b

/-- RANGE_CACHE_WAY_UE (R424). -/
def execRangeCacheWayUe (k : Nat) (s : State) : Host.Outcome State Fault Refusal :=
  s.core fun b => if k < 17 ∧ (b.wearOf 4 k).st < 2 then (b.storageUe 4 k).retireRange k else b

/-- CHANNEL_FAILURE (R307): after READY, of a channel in service. -/
def execChannelFailure (stack ch : Nat) (s : State) : Host.Outcome State Fault Refusal :=
  s.core fun b =>
    let up := decide (b.st = .ready) || decide (b.st = .run) || decide (b.st = .fault)
    if up ∧ ch < 16 ∧ bit (nth b.chanOk stack) ch then (b.storageUe 8 (stack * 16 + ch)).mapOut stack ch else b

end Sys2Proof.Machine
end

