-- ==== Sys2Proof/Machine/ZtuRows.lean ====
section
/-!
DEFINITION. The rows of the translation unit: faults of accesses (R274, R281, R282), walks (R278), ATS and PRI answers (R280,
R285, R286), host and register invalidations (R297, R298), the frame completion ring (R290, R291) and the boot map (R272, R484).
-/
namespace Sys2Proof.Machine

/-! ### Accesses -/

/-- The command that a block agent accesses memory for: under way, and in the context it names (R275). -/
def Block.agentCmd? (b : Block) (q i ctx : Nat) : Option Cmd := match b.cmd? q i with
  | some c => if !c.stalled ∧ c.cancel.isNone ∧ (c.phase = .running ∨ c.phase = .decided) ∧ (ctx = c.ctx ∨ c.op.target = some ctx) then some c else none
  | none => none

/-- Whether an agent makes accesses in a context now. -/
def Block.accesses (b : Block) (a : Agent) (ctx : Nat) : Bool := match a with
  | .engine e => b.executes e && decide (b.engCtx e = some ctx)
  | .block q i => (b.agentCmd? q i ctx).isSome

/-- The asker of an agent, and whether the agent accesses host-resident pages in place (R275). -/
def askerOf : Agent → Asker
  | .engine e => .engine e
  | .block q i => .cmd q i
def Block.inPlace (b : Block) (a : Agent) : Bool := match a with
  | .engine _ => false
  | .block q i => ((b.cmd? q i).map fun c => decide (c.opcode ≠ 0x22 ∧ c.opcode ≠ 0x24)).getD true

/-- Whether an address lies in the descriptor table of a context (R220, R228). -/
def Block.inTable (b : Block) (ctx va : Nat) : Bool :=
  let x := b.ctx ctx
  decide (x.dtBase ≤ va) && decide (va < x.dtBase + 64 * x.dtCount)

/-- Where an access of an agent goes (R274): no engine writes into the descriptor table of its context (R228). -/
def Block.agentResolve (b : Block) (a : Agent) (ctx va : Nat) (write : Bool) : MRes Phys :=
  (b.resolve ctx va (if write then needWr else needRd) (b.inPlace a)).guard (match a with
    | .engine _ => write && b.inTable ctx va
    | .block _ _ => false)

/-- An access of an agent: it goes on with its translation, which an engine keeps (R277), or meets a host-resident page (R274 rows 4, 7
to 9). -/
def Block.missAccess (b : Block) (a : Agent) (ctx va : Nat) (write : Bool) : Block :=
  let b := b.touch ctx va (some (askerOf a))
  match b.agentResolve a ctx va write, a with
  | .ok _, .engine e => b.handOver e va
  | m, _ => if b.walkHeld (askerOf a) then b else b.meet ctx (askerOf a) write m

/-- MIGRATION_FAULT (R282). -/
def execMigrationFault (a : Agent) (ctx va : Nat) (write : Bool) (s : State) : Host.Outcome State Fault Refusal :=
  s.core fun b => if b.accesses a ctx then b.missAccess a ctx va write else b

/-- Work ends with the status that its access met; a range that registers invalidated costs its context (R298), and a list command frees
its version (R209). -/
def Block.faultWork (b : Block) (a : Agent) (ctx va st : Nat) : Block :=
  match a with
  | .block q i => match b.cmd? q i with
    | some c => (b.dropLoadOf c).faultCmd c ctx va 1 st
    | none => b
  | .engine e => b.endWork e st (decide (st = 0x20) && b.deadRange ctx va 1)

/-- TRANSLATION_FAULT (R228, R274): the access resolves to FAULT_XLAT or FAULT_PROT. -/
def execTranslationFault (a : Agent) (ctx va : Nat) (write : Bool) (s : State) : Host.Outcome State Fault Refusal :=
  s.core fun b =>
    if b.accesses a ctx then match b.agentResolve a ctx va write with
      | .bad st => b.faultWork a ctx va st
      | _ => b
    else b

/-- The places that the copy of a fault's page writes. -/
def FaultEnt.places (f : FaultEnt) : List Phys := match f.stage with
  | .copying _ fr _ => (List.range 65536).map fun k => .dev (fr + k)
  | _ => []

/-- MIGRATION_DMA_DONE (R282, R286): its writes go through the home (R333, R347). -/
def execMigrationDmaDone (ctx page : Nat) (ok : Bool) (s : State) : Host.Outcome State Fault Refusal :=
  s.core fun b => match b.fault? ctx page with
    | some f => if ok ∧ (b.down ∨ b.homeHolds f.places) then b.homeAsk f.places else b.copyDone ctx page ok
    | none => b

/-- A walk ends: it fills the caches, and its walker takes the next miss (R278, R279). -/
def Block.walkEnd (b : Block) (k : Nat) : Block :=
  match b.walks.find? fun w => w.walker = some k with
  | none => b
  | some w =>
    let b : Block := { b with walks := b.walks.filter fun x => x.walker ≠ some k }
    let b := match b.map? w.mapId with
      | some m =>
        let b := b.fillRange m.id
        if m.backed ∨ (b.ctx m.ctx).ats then b else b.fillPages m.id (m.group (w.page * 65536))
      | none => b
    b.startWalks

/-- WALK_DONE (R278): walks wait while the coherence domain is down (R349). -/
def execWalkDone (k : Nat) (s : State) : Host.Outcome State Fault Refusal :=
  s.core fun b => if b.down then b else b.walkEnd k

/-! ### ATS and PRI -/

/-- Faults of a PASID on [va, va + len) that wait for a translation. -/
def Block.atsFaults (b : Block) (pasid va len : Nat) : List FaultEnt :=
  b.faults.filter fun f => f.stage = .needAts ∧ (b.ctx f.ctx).pasid = pasid ∧ f.page < va + len ∧ va < f.page + b.faultPage f.ctx

/-- An ATS Translation Completion that answers an outstanding request (R280, R286). -/
def Block.atsDone (b : Block) (x : AtsEnt) (ok : Bool) : Block :=
  let len := 2 ^ x.log2
  let hit (a : AtsAsk) : Bool := decide (a.pasid = x.pasid) && decide (x.va ≤ a.va) && decide (a.va < x.va + len)
  let asks := b.atsAsked.filter hit
  if asks.isEmpty then b
  else
    let b : Block := { b with atsAsked := b.atsAsked.filter fun a => !hit a }
    let b := if ok then { b with
      atsCache := (x :: b.atsCache.filter fun e => !(e.pasid = x.pasid ∧ x.va ≤ e.va ∧ e.va < x.va + len)).take 8192 } else b
    let fs := b.atsFaults x.pasid x.va len
    let b := fs.foldl (fun b f => if ok then b.seekSource f.ctx f.page else b.closeFault f.ctx f.page false) b
    let who := asks.flatMap fun a => a.who.map fun w => (a.va, w)
    (who.foldl (fun b w => if ok then b.resumeAsker w.1 w.2 else b.failAsker w.2) b).settleFaults

/-- ATS_COMPLETION (R280). -/
def execAtsCompletion (pasid va log2 pa : Nat) (ok rd wr : Bool) (s : State) : Host.Outcome State Fault Refusal :=
  s.core fun b => b.atsDone
    { pasid := pasid, va := alignDown va (2 ^ log2), log2 := log2, pa := alignDown pa (2 ^ log2), rd := rd, wr := wr } ok

/-- A Page Request Group Response for a fault whose request is out (R285, R286). -/
def Block.priDone (b : Block) (ctx page : Nat) (code : PriCode) : Block :=
  match b.fault? ctx page with
  | none => b
  | some f =>
    if f.stage ≠ .needPri true then b
    else match code with
      | .success =>
        let pasid := (b.ctx ctx).pasid
        let n := b.faultPage ctx
        let b : Block := { b with atsCache := b.atsCache.filter fun e => !(e.pasid = pasid ∧ e.va < page + n ∧ page < e.va + 2 ^ e.log2) }
        ((b.modFault ctx page fun f => { f with stage := .needAts }).seekSource ctx page).settleFaults
      | .invalid => b.finishFault ctx page false
      | .failure => (b.setField Reg.ZT_CTL 1 1 1).finishFault ctx page false

/-- PRI_RESPONSE (R286). -/
def execPriResponse (ctx page : Nat) (code : PriCode) (s : State) : Host.Outcome State Fault Refusal :=
  s.core fun b => b.priDone ctx page code

/-! ### Invalidations -/

/-- Contexts of a PASID that are not FREE. -/
def Block.ctxsOf (b : Block) (pasid : Nat) : List Nat :=
  (b.ctxs.filter fun kv => kv.2.st ≠ .free ∧ kv.2.pasid = pasid).map (·.1)

/-- An ATS Invalidate Request (R297): the translations that it names are dropped; up to 32 at once. -/
def Block.atsInvalidate (b : Block) (tag pasid va len : Nat) : Block :=
  if 32 ≤ b.atsInvs.length ∨ b.atsInvs.any fun x => x.tag = tag then b
  else
    let x : AtsInv := { tag := tag, pasid := pasid, va := va, len := len }
    let cs := b.ctxsOf pasid
    let b : Block := { b with
      atsInvs := b.atsInvs ++ [x]
      atsCache := b.atsCache.filter fun e => !(e.pasid = pasid ∧ e.va < va + len ∧ va < e.va + 2 ^ e.log2)
      engines := b.engines.map fun kv => (kv.1, { kv.2 with
        tlb := kv.2.tlb.filter fun t => !(cs.contains t.1 ∧ t.2 * 65536 < va + len ∧ va < (t.2 + 1) * 65536) }) }
    let stale (f : FaultEnt) : Bool := cs.contains f.ctx && decide (f.page < va + len) && decide (va < f.page + b.faultPage f.ctx)
      && (match f.stage with
        | .needFrame _ => true
        | _ => false)
    (b.faults.filter stale).foldl (fun b f => (b.modFault f.ctx f.page fun f => { f with stage := .needAts }).seekSource f.ctx f.page) b

/-- ATS_INVALIDATE_REQUEST (R297). -/
def execAtsInvalidateRequest (tag pasid va len : Nat) (s : State) : Host.Outcome State Fault Refusal :=
  s.core fun b => b.atsInvalidate tag pasid va len

/-- Whether a migration still reads a source that an invalidation names (R297). -/
def Block.invHeld (b : Block) (x : AtsInv) : Bool :=
  b.faults.any fun f => decide ((b.ctx f.ctx).pasid = x.pasid) && decide (f.page < x.va + x.len) && decide (x.va < f.page + b.faultPage f.ctx) && (match f.stage with
    | .ready .. => true
    | .copying .. => true
    | _ => false)

/-- ATS_INVALIDATE_COMPLETION (R297, R421). -/
def execAtsInvalidateCompletion (tag : Nat) (s : State) : Host.Outcome State Fault Refusal :=
  s.core fun b => match b.atsInvs.find? fun x => x.tag = tag with
    | none => b
    | some x => if b.invHeld x then b else Block.bumpEpoch { b with atsInvs := b.atsInvs.filter fun y => y.tag ≠ tag }

/-- GO in ZT_INV_CTL (R298, R421): BUSY reads 1 for a free time of at most 2 µs. -/
def Block.regInvalidate (b : Block) (path : Nat) : Block :=
  let len := b.field Reg.ZT_INV_LEN_LO 31 12 * 4096 + b.reg Reg.ZT_INV_LEN_HI * 2 ^ 32
  let va := b.field Reg.ZT_INV_VA_LO 31 12 * 4096 + b.reg Reg.ZT_INV_VA_HI * 2 ^ 32
  if b.invBusy ≠ 0 ∨ len = 0 then b.pageErr path Reg.ZT_INV_CTL
  else
    let b := (b.invalidate (b.field Reg.ZT_INV_CTX 11 0) va len).bumpEpoch
    let t := b.busyTime 2
    { t.2 with invBusy := t.1 }

/-- REGISTER_INVALIDATION (R298). -/
def execRegisterInvalidation (path : Nat) (s : State) : Host.Outcome State Fault Refusal :=
  s.write path Reg.ZT_INV_CTL fun b => b.regInvalidate path

/-! ### The frame completion ring -/

/-- FRAME_RING_ENTRY_WRITE (R291). -/
def execFrameRingEntryWrite (s : State) : Host.Outcome State Fault Refusal := s.core fun b => b.writeEntries.landPages

/-- The tests of R290 and R437 on an index write: `tail` and `head` count modulo 2N. -/
def headOkay (n tail head v : Nat) : Bool :=
  decide (v < 2 * n) && decide ((tail + 2 * n - v) % (2 * n) ≤ n)
    && decide ((v + 2 * n - head) % (2 * n) ≤ (tail + 2 * n - head) % (2 * n))

/-- A write of ZT_FCR_HEAD (R290, R291). -/
def Block.fcrHeadWrite (b : Block) (path v : Nat) : Block :=
  let v := v % 2 ^ 21
  if headOkay b.fcrN (b.reg Reg.ZT_FCR_TAIL) (b.reg Reg.ZT_FCR_HEAD) v then
    let b := b.setReg Reg.ZT_FCR_HEAD v
    let b : Block := { b with fcrStuck := false, fcrFull := b.fcrFull && !b.fcrRoom }
    b.writeEntries.landPages
  else b.pageErr path Reg.ZT_FCR_HEAD

/-- ZT_FCR_HEAD_WRITE (R290). -/
def execZtFcrHeadWrite (path : Nat) (v : BitVec 32) (s : State) : Host.Outcome State Fault Refusal :=
  s.write path Reg.ZT_FCR_HEAD fun b => b.fcrHeadWrite path v.toNat

/-- Whether ZTU holds a frame (R290). -/
def Block.holdsFrames (b : Block) : Bool :=
  !b.fcrWait.isEmpty || (List.range b.straps.nStacks).any fun p => !(b.pool p).isEmpty || decide (b.framesInUse p ≠ 0)

/-- A write of ZT_FCR_SIZE (R290, R300): sizes other than 0 and 12 to 24 are ignored. -/
def Block.fcrSizeWrite (b : Block) (path v : Nat) : Block :=
  let lg := v % 32
  if lg ≠ 0 ∧ (lg < 12 ∨ 24 < lg) then b
  else
    let base := alignDown (b.stagedOr path Reg.ZT_FCR_BASE_LO (b.fcrBase % 2 ^ 32)) 4096
      + 2 ^ 32 * b.stagedOr path Reg.ZT_FCR_BASE_HI (b.fcrBase / 2 ^ 32)
    if b.holdsFrames ∨ (lg ≠ 0 ∧ base % 2 ^ lg ≠ 0) then b.pageErr path Reg.ZT_FCR_SIZE
    else
      let b := b.unstagePath path fun a => a = Reg.ZT_FCR_BASE_LO ∨ a = Reg.ZT_FCR_BASE_HI
      let b := ((b.setReg Reg.ZT_FCR_SIZE lg).setReg Reg.ZT_FCR_TAIL 0).setReg Reg.ZT_FCR_HEAD 0
      { b with fcrBase := base, fcrStuck := false, fcrFull := false }

/-- ZT_FCR_SIZE_WRITE (R290). -/
def execZtFcrSizeWrite (path : Nat) (v : BitVec 32) (s : State) : Host.Outcome State Fault Refusal :=
  s.write path Reg.ZT_FCR_SIZE fun b => b.fcrSizeWrite path v.toNat

/-! ### The boot map -/

/-- Boot-map entries that decide their VPN: the lowest-numbered VALID one of each. -/
def Block.bootDeciders (b : Block) : List BootEnt :=
  (((List.range 64).map b.bootEnt).filter (·.valid)).foldl (fun acc e => if acc.any fun x => x.vpn = e.vpn then acc else acc ++ [e]) []

/-- One boot-map entry becomes a mapping of context 0 (R484). -/
def Block.convertBoot (b : Block) (e : BootEnt) : Block :=
  if e.host ∨ (!e.rd ∧ !e.wr) then b
  else
    let skip := if e.vpn = 0 then 4096 else 0
    let r := b.takeRecord 0
    let m : Mapping := {
      id := b.nextMap, ctx := 0, va := e.vpn * 2 ^ 30 + skip, len := 2 ^ 30 - skip, rd := e.rd, wr := e.wr
      backed := true, backing := e.ppn * 2 ^ 30 + skip, recFrame := r.1 }
    { r.2 with maps := r.2.maps ++ [m], nextMap := b.nextMap + 1 }

/-- A write of 0 to BOOTMAP (R270, R484). -/
def Block.clearBootmap (b : Block) (path : Nat) : Block :=
  if !b.bootmap then b
  else if (b.st ≠ .ready ∧ b.st ≠ .run) ∨ (b.pool (b.field Reg.ZT_CTL 11 8)).isEmpty then b.pageErr path Reg.ZT_CTL
  else (b.bootDeciders.foldl Block.convertBoot b).setField Reg.ZT_CTL 0 0 0

/-- BOOTMAP_CLEAR (R484). -/
def execBootmapClear (path : Nat) (s : State) : Host.Outcome State Fault Refusal :=
  s.write path Reg.ZT_CTL fun b => b.clearBootmap path

/-- Whether the boot-map registers take writes (R272). -/
def Block.bootWrites (b : Block) : Bool := (decide (b.st = .load) || decide (b.st = .ready)) && b.bootmap

/-- A write of ZT_BOOT_ENT0 commits the selected entry (R272). -/
def Block.bootCommit (b : Block) (path v : Nat) : Block :=
  if b.bootWrites then
    let k := b.field Reg.ZT_BOOT_SEL 5 0
    let ppn := b.stagedOr path Reg.ZT_BOOT_ENT1 (b.bootEnt k).ppn
    let b := b.unstagePath path fun a => a = Reg.ZT_BOOT_ENT1
    let e : BootEnt := { valid := bit v 31, host := bit v 30, wr := bit v 29, rd := bit v 28, vpn := v % 2 ^ 18, ppn := ppn }
    { b with boot := Tab.set (fun _ => {}) b.boot k e }
  else b.pageErr path Reg.ZT_BOOT_ENT0

/-- ZT_BOOT_ENT0_WRITE (R272). -/
def execZtBootEnt0Write (path : Nat) (v : BitVec 32) (s : State) : Host.Outcome State Fault Refusal :=
  s.write path Reg.ZT_BOOT_ENT0 fun b => b.bootCommit path v.toNat

end Sys2Proof.Machine
end

