-- ==== Sys2Proof/Machine/Observe.lean ====
section
/-!
DEFINITION. The Observation Unit and the Cinder log: trace rings (R437 to R440), queue occupancy (R433), the global stop and its
release (R447 to R452), breakpoints (R453 to R456), and CN_CTL (R461).
-/
namespace Sys2Proof.Machine

/-! ### Trace rings -/

/-- Records of a buffer's ring (R437). -/
def TraceBuf.size (t : TraceBuf) : Nat := if t.log2 = 0 then 0 else 2 ^ t.log2 / 32

/-- The buffer that TB_SEL selects. -/
def Block.tbSel (b : Block) : Nat := b.field Reg.TB_SEL 3 0

/-- A trace DMA write faulted (R440). -/
def Block.traceFault (b : Block) (k : Nat) : Block :=
  let t := b.tbuf k
  (b.setTbuf k { t with fault := true, en := false, recs := [], times := [], lost := satAdd 32 t.lost t.recs.length }).event pgOb 9 0 k

/-- Up to `n` records of buffer `k` written, oldest first, while the ring has room (R437). -/
def Block.traceWrite (k : Nat) : Nat → Block → Block
  | 0, b => b
  | n + 1, b =>
    let t := b.tbuf k
    match t.recs with
    | [] => b
    | r :: l =>
      if (t.tail + 2 * t.size - t.head) % (2 * t.size) < t.size then
        match b.writeHome 0 (t.base + t.tail % t.size * 32) (leBytes 32 r.toNat) with
        | .ok b => Block.traceWrite k n (b.setTbuf k { t with recs := l, times := t.times.drop 1, tail := (t.tail + 1) % (2 * t.size) })
        | .bad _ => b.traceFault k
        | .migrate _ => b.traceFault k
        | .ask p va => b.askAts p va []
        | .wait => b.viaHome 0 (t.base + t.tail % t.size * 32) 32 b
        | .join _ => b
        | .poison _ _ => b
      else b

/-- The bursts below 256 bytes of `m` records written from ring index `i` (R309, R438). -/
def shortBursts (t : TraceBuf) (i m : Nat) : Nat :=
  let first := min m (t.size - i % max 1 t.size)
  let run (a n : Nat) : Nat := ((pieces a a (n * 32) 0 (n * 32)).filter fun p => p.2 < 256).length
  run (t.base + i % max 1 t.size * 32) first + run t.base (m - first)

/-- The trace DMA writes up to `n` records of buffer `k`. -/
def Block.traceDma (b : Block) (k n : Nat) : Block :=
  let t := b.tbuf k
  let b' := Block.traceWrite k n b
  let m := if (b'.tbuf k).fault ∧ !t.fault then 0 else t.recs.length - (b'.tbuf k).recs.length
  b'.count Reg.SHORT_BURST 31 0 (shortBursts t t.tail m)

/-- TRACE_DMA_WRITE (R438, R440): groups of 8 records, or everything once EN is 0. -/
def execTraceDmaWrite (buf : Nat) (s : State) : Host.Outcome State Fault Refusal :=
  s.core fun b =>
    let t := b.tbuf buf
    b.traceDma buf (if t.en then t.recs.length / 8 * 8 else t.recs.length)

/-- TRACE_FLUSH_TIMER (R438): 10 µs after the oldest waiting record was taken. -/
def execTraceFlushTimer (buf : Nat) (s : State) : Host.Outcome State Fault Refusal :=
  s.core fun b =>
    let t := b.tbuf buf
    match t.times with
    | [] => b
    | a :: _ => if a + 10 * Config.cyclesUs ≤ b.zclk then b.traceDma buf t.recs.length else b

/-- A write of TB_CTL (R435, R440, R464). -/
def Block.tbCtlWrite (b : Block) (path v : Nat) : Block :=
  let k := b.tbSel
  let t := b.tbuf k
  if bit v 31 ∧ t.log2 = 0 then b.pageErr path Reg.TB_CTL
  else b.setTbuf k { t with
    en := bit v 31, fault := t.fault && !bit v 30, filt := bit v 29, ctx := bits v 15 4, decision := bit v 1, profile := bit v 0 }

/-- TB_CTL as it reads. -/
def TraceBuf.ctl (t : TraceBuf) : Nat :=
  ofBit t.en * 2 ^ 31 + ofBit t.fault * 2 ^ 30 + ofBit t.filt * 2 ^ 29 + t.ctx * 16 + ofBit t.decision * 2 + ofBit t.profile

/-- TRACE_DISABLE (R440): EN = 0, the other fields as they stand; the trace DMA then writes what is held. -/
def execTraceDisable (path : Nat) (s : State) : Host.Outcome State Fault Refusal :=
  s.write path Reg.TB_CTL fun b =>
    let b := b.tbCtlWrite path ({ b.tbuf b.tbSel with en := false, fault := false }).ctl
    b.traceDma b.tbSel (b.tbuf b.tbSel).recs.length

/-- A write of TB_SIZE (R440, R464). -/
def Block.tbSizeSet (b : Block) (path v : Nat) : Block :=
  let k := b.tbSel
  let t := b.tbuf k
  let n := v % 32
  if t.en ∨ !t.recs.isEmpty ∨ !(n = 0 ∨ (12 ≤ n ∧ n ≤ 24)) then b
  else
    let base := b.stagedOr path Reg.TB_BASE_LO (t.base % 2 ^ 32) + 2 ^ 32 * b.stagedOr path Reg.TB_BASE_HI (t.base / 2 ^ 32)
    if n ≠ 0 ∧ base % 2 ^ n ≠ 0 then b.pageErr path Reg.TB_SIZE
    else (b.unstagePath path fun a => a = Reg.TB_BASE_LO ∨ a = Reg.TB_BASE_HI).setTbuf k { t with base := base, log2 := n, tail := 0, head := 0 }

/-- TB_SIZE_WRITE (R440). -/
def execTbSizeWrite (path : Nat) (v : BitVec 32) (s : State) : Host.Outcome State Fault Refusal :=
  s.write path Reg.TB_SIZE fun b => b.tbSizeSet path v.toNat

/-- A write of TB_HEAD under the tests of R290 (R437). -/
def Block.tbHeadSet (b : Block) (path v : Nat) : Block :=
  let k := b.tbSel
  let t := b.tbuf k
  if headOkay t.size t.tail t.head (v % 2 ^ 21) then b.setTbuf k { t with head := v % 2 ^ 21 } else b.pageErr path Reg.TB_HEAD

/-- TB_HEAD_WRITE (R437). -/
def execTbHeadWrite (path : Nat) (v : BitVec 32) (s : State) : Host.Outcome State Fault Refusal :=
  s.write path Reg.TB_HEAD fun b => b.tbHeadSet path v.toNat

/-! ### Queue occupancy -/

/-- Slots held by the queues of class `cls`; 3 for all classes (R433). -/
def Block.slotsHeld (b : Block) (cls : Nat) : Nat :=
  sumBy (fun kv =>
    let x := kv.2
    if (x.st = .active ∨ x.st = .halted ∨ x.st = .draining) ∧ (cls = 3 ∨ x.cls = cls) then
      (x.doorbell + 2 * x.slots - x.completed) % (2 * x.slots)
    else 0) b.queues

/-- A sample of the four classes (R433). -/
def Block.sampleOcc (b : Block) : Block :=
  let now := (List.range 4).map b.slotsHeld
  { b with occ := {
      now := now
      peak := (List.range 4).map fun c => max (nth b.occ.peak c) (nth now c)
      int := (List.range 4).map fun c => (nth b.occ.int c + nth now c) % 2 ^ 64 } }

/-- ZCLK cycles counted towards whole units of a time count, by the offset of the register that shows it. -/
def Block.frac (b : Block) (a : Nat) : Nat := Tab.get (fun _ => 0) b.cycFrac a
def Block.setFrac (b : Block) (a n : Nat) : Block := { b with cycFrac := Tab.set (fun _ => 0) b.cycFrac a n }

/-- OCCUPANCY_SAMPLE (R433): once per µs of ZCLK time. -/
def execOccupancySample (s : State) : Host.Outcome State Fault Refusal :=
  s.core fun b => if Config.cyclesUs ≤ b.frac Reg.OB_QOCC_NOW then (b.setFrac Reg.OB_QOCC_NOW 0).sampleOcc else b

/-! ### The global stop -/

/-- GLOBAL_STOP_REQUEST (R447): GO of OB_STOP_CTL. -/
def execGlobalStopRequest (path : Nat) (s : State) : Host.Outcome State Fault Refusal :=
  s.write path Reg.OB_STOP_CTL fun b => b.requestStop 1

/-- STOP_IN_EDGE (R447): it requests a stop while STOP_IN_EN is set. -/
def execStopInEdge (s : State) : Host.Outcome State Fault Refusal :=
  s.link fun b =>
    let b := { b with pins := { b.pins with stopIn := true } }
    if bit (b.reg Reg.OB_STOP_CTL) 2 then b.requestStop 2 else b

/-- The level of STOP_IN at a release: low unless an edge has come since, and open after one, since no row says when it falls (log
entry 9). -/
def Block.sampleStopIn (b : Block) : Bool × Block :=
  if b.pins.stopIn then
    let x := b.fresh 1
    (decide (x.1 = 1), { x.2 with pins := { x.2.pins with stopIn := decide (x.1 = 1) } })
  else (false, b)

/-- A stop ends (R405, R448, R451): its records, and then what it has held. -/
def Block.endStop (b : Block) : Block :=
  let st := b.stop
  let us := (b.ns - st.at_) / 1000
  let b := { b with stop := { cause := st.cause, at_ := st.at_ } }
  let b := (List.range 16).foldl (fun b k =>
    if (b.tbuf k).en then b.traceTo k (traceRec (b.traceWord0 0x10 0 0 0) st.at_ b.ns 0) else b) b
  let b := b.cinderRec 0x11 st.cause 0 (min us (2 ^ 28 - 1))
  let b := st.lost.foldl (fun b p => b.event pgHiu 8 0 p) b.linkRelease
  let b := st.errs.foldl (fun b e => b.accessErr e.pg e.path e.off e.typ e.ctx) b
  st.heldOrders.foldl Block.takeHeld b

/-- RELEASE (R451): ignored while STOP_IN is high and STOP_IN_EN set. -/
def Block.release (b : Block) : Block :=
  if !b.stop.stopped then b
  else if bit (b.reg Reg.OB_STOP_CTL) 2 then
    let x := b.sampleStopIn
    if x.1 then x.2.stopDrop else x.2.endStop
  else b.endStop

/-- GLOBAL_STOP_RELEASE (R451). -/
def execGlobalStopRelease (path : Nat) (s : State) : Host.Outcome State Fault Refusal :=
  s.write path Reg.OB_STOP_CTL fun b => b.release

/-! ### Breakpoints -/

/-- What a hit does beside halting the work (R455). -/
def Block.bpHit (b : Block) (k : Nat) (p : Breakpoint) : Block :=
  let b := (b.setBp k { p with hit := true }).event pgOb 8 p.ctx k
  if p.stop then b.requestStop 5 else b

/-- A work is halted at breakpoint `k`, or with none goes on. -/
def Block.setHalt (b : Block) (w : Work) (k : Option Nat) : Block :=
  match w with
  | .cmd q i => b.modCmd q i fun c => { c with bp := k }
  | .task c t => b.modTask c t fun t => { t with bp := k }

/-- BREAKPOINT_HIT (R455): the streamer is about to deliver stitch AT of the version on the lane of a work that runs; delivery stops and
the engines drain, with the stall budget suspended. -/
def execBreakpointHit (bp : Nat) (w : Work) (s : State) : Host.Outcome State Fault Refusal :=
  s.core fun b => match b.lane? w with
    | some l =>
      if b.workRuns w ∧ b.hits (b.bp bp) l then ((b.workEngs w).foldl Block.drainEng (b.setHalt w (some bp))).bpHit bp (b.bp bp)
      else b
    | none => b

/-- The breakpoint that OB_BP_SEL selects. -/
def Block.bpSel (b : Block) : Nat := b.field Reg.OB_BP_SEL 2 0

/-- A write of OB_BP_CTL with EN = 1 (R454, R464). -/
def Block.bpCommit (b : Block) (path v : Nat) : Block :=
  let k := b.bpSel
  let p := b.bp k
  let c := bits v 31 20
  let l := b.stagedOr path Reg.OB_BP_LIST (p.listId * 2 ^ 16 + p.epoch)
  let at_ := b.stagedOr path Reg.OB_BP_AT p.at_
  let b := b.unstagePath path fun a => a = Reg.OB_BP_LIST ∨ a = Reg.OB_BP_AT
  if !b.debugOn c ∨ (b.version? c (bits l 31 16) (bits l 15 0)).isNone then b.pageErr path Reg.OB_BP_CTL
  else b.setBp k {
    ctx := c, listId := bits l 31 16, epoch := bits l 15 0, at_ := at_
    en := true, hit := p.hit && !bit v 7, stop := bit v 1 }

/-- BREAKPOINT_COMMIT (R454). -/
def execBreakpointCommit (path : Nat) (v : BitVec 32) (s : State) : Host.Outcome State Fault Refusal :=
  s.write path Reg.OB_BP_CTL fun b => b.bpCommit path v.toNat

/-- The works halted at breakpoint `k`. -/
def Block.haltedAt (b : Block) (k : Nat) : List Work :=
  ((b.cmds.filter fun c => c.bp = some k).map fun c => Work.cmd c.q c.i) ++ (b.tasks.filter fun t => t.bp = some k).map fun t => .task t.ctx t.id

/-- RESUME (R456): delivery goes on for everything halted at the breakpoint, past the stitch that it stands before. -/
def Block.bpResume (b : Block) : Block :=
  (b.haltedAt b.bpSel).foldl (fun b w =>
    (b.workEngs w).foldl Block.resumeEng ((b.setHalt w none).modLane w fun l => { l with past := true })) b

/-- BREAKPOINT_RESUME (R456). -/
def execBreakpointResume (path : Nat) (s : State) : Host.Outcome State Fault Refusal :=
  s.write path Reg.OB_BP_CTL fun b => b.bpResume

/-- Engine `e` runs what it has been given and drains again. -/
def Block.stepEng (b : Block) (e : Nat) : Block :=
  if (b.eng e).inq.isEmpty then b else b.setEng e { b.eng e with quiet := false, draining := true, drainCycles := 0 }

/-- The next undelivered stitch of a halted work is delivered. -/
def Block.stepWork (b : Block) (w : Work) : Block :=
  match b.lane? w with
  | some l => if l.live then (b.workEngs w).foldl Block.stepEng (b.deliver l) else b
  | none => b

/-- STEP (R456): what is halted at the breakpoint has its next stitch delivered, and halts again before the following one. -/
def Block.bpStep (b : Block) : Block := (b.haltedAt b.bpSel).foldl Block.stepWork b

/-- BREAKPOINT_STEP (R456). -/
def execBreakpointStep (path : Nat) (s : State) : Host.Outcome State Fault Refusal :=
  s.write path Reg.OB_BP_CTL fun b => b.bpStep

/-! ### The Cinder log -/

/-- A write of CN_CTL (R461): a freeze at once ends one that was counting down. -/
def Block.cnCtlWrite (b : Block) (v : Nat) : Block :=
  let b := if bit v 0 then { b with cinder := { b.cinder with post := none } } else b
  b.setReg Reg.CN_CTL (v % 2)

/-- CN_FREEZE_WRITE (R461). -/
def execCnFreezeWrite (path : Nat) (v : BitVec 32) (s : State) : Host.Outcome State Fault Refusal :=
  s.write path Reg.CN_CTL fun b => b.cnCtlWrite v.toNat

end Sys2Proof.Machine
end

