-- ==== Sys2Proof/Machine/Ports.lean ====
section
/-!
DEFINITION. The control ports: reads by a path (R466 to R470, R513), the semaphore bank (R471 to R473), a port going down and
coming back (R17, R469), and the event path to the host (R507 to R509, R514).
-/
namespace Sys2Proof.Machine

/-! ### Reads -/

/-- What a read returned. -/
def Block.answer (b : Block) (v : Nat) : Block := { b with readData := BitVec.ofNat 64 v }

/-- A read of `w` bits by a path: all ones where the path is down, or the core is held under a port; `held` where it is held under
the sideband (R513); `f` otherwise. -/
def Block.readBy (b : Block) (path w : Nat) (held : Block → Block) (f : Block → Block) : Block :=
  if !b.pathUp path then b.answer (2 ^ w - 1)
  else if b.pins.coreHeld then (if path = 3 then held b else b.answer (2 ^ w - 1))
  else f b

/-! ### Semaphores -/

/-- What a read of semaphore `k` by a path returns, and its grant (R470, R471): none to the sideband, nor during a stop (R448). -/
def Block.takeSem (b : Block) (path k : Nat) : Nat × Block :=
  let o := b.sem k
  (o, if o = 0 ∧ path ≠ 3 ∧ !b.stop.stopped then b.setSem k path else b)

/-- SEM_READ (R471). -/
def execSemRead (path k : Nat) (s : State) : Host.Outcome State Fault Refusal :=
  s.aon fun b => b.readBy path 32 (·.answer 0) fun b =>
    let x := b.takeSem path (k % 64)
    x.2.answer x.1

/-- The page of an offset belongs to semaphore `k`. -/
def semOfReg (k a : Nat) : Bool := decide (k < 32) && isUnitPage (a / 0x1000) && decide (pageSem (a / 0x1000) = k)

/-- A semaphore is released, and what its owner has staged in its page is discarded (R473). -/
def Block.freeSem (b : Block) (k : Nat) : Block := (b.unstagePath (b.sem k) (semOfReg k)).setSem k 0

/-- SEM_RELEASE (R15, R473): by its owner. -/
def execSemRelease (path k : Nat) (s : State) : Host.Outcome State Fault Refusal :=
  s.write path (0x1100 + 4 * (k % 64)) fun b => if b.sem (k % 64) = path then b.freeSem (k % 64) else b

/-- SEM_BREAK (R472). -/
def Block.breakSem (b : Block) (path key k : Nat) : Block :=
  if key ≠ Config.semBreakKey then b.pageErr path Reg.SEM_BREAK
  else
    let o := b.sem (k % 64)
    if o = 0 then b else (b.freeSem (k % 64)).event pgHiu 9 0 (o * 2 ^ 8 + k % 64)

def execSemBreak (path : Nat) (key : BitVec 8) (index : Nat) (s : State) : Host.Outcome State Fault Refusal :=
  s.write path Reg.SEM_BREAK fun b => b.breakSem path key.toNat index

/-! ### Ports -/

/-- Every semaphore of a path released (R17, R469). -/
def Block.freeSemsOf (b : Block) (p : Nat) : Block := { b with sems := b.sems.filter fun kv => kv.2 ≠ p }

/-- The FIFO of a port that goes down is emptied (R509). -/
def Hiu.portLost (h : Hiu) (p : Nat) : Hiu :=
  if p = 1 then { h with lostA := satAdd 16 h.lostA h.fifoA.length, fifoA := [], pend := [] }
  else { h with lostB := satAdd 16 h.lostB h.fifoB.length, fifoB := [] }

def Pins.setPort (x : Pins) (p : Nat) (v : Bool) : Pins := if p = 1 then { x with portA := v } else { x with portB := v }

/-- What a port's loss does while the core is up (R17, R469, R509): its event on the other port arises after release during a
stop (R511). -/
def Block.portLost (b : Block) (p : Nat) : Block :=
  let b := { b.freeSemsOf p with hiu := b.hiu.portLost p }
  let b := (b.unstagePath p fun _ => true).setField Reg.GLB_PORT_STS (3 + p) (3 + p) 1
  if b.stop.stopped then { b with stop := { b.stop with lost := b.stop.lost ++ [p] } } else b.event pgHiu 8 0 p

/-- PORT_DOWN (R469): of Port A (1) or Port B (2) while it is up. -/
def execPortDown (p : Nat) (s : State) : Host.Outcome State Fault Refusal :=
  s.aon fun b =>
    if (p ≠ 1 ∧ p ≠ 2) ∨ !b.pathUp p then b
    else
      let b := { b with pins := b.pins.setPort p false }
      if b.pins.coreHeld then b else b.portLost p

/-- PORT_UP (R469, R507): on the return of Port A, a message for every page with an event pending. -/
def execPortUp (p : Nat) (s : State) : Host.Outcome State Fault Refusal :=
  s.aon fun b =>
    if (p ≠ 1 ∧ p ≠ 2) ∨ b.pathUp p then b
    else
      let b := { b with pins := b.pins.setPort p true }
      if p = 1 ∧ !b.pins.coreHeld then ((List.range 0x28).filter fun pg => isUnitPage pg && b.errPend pg).foldl Block.msix b else b

/-! ### Messages and records -/

/-- MSIX_SPACING_END (R507): the cause that arose within the 1 µs of spacing. -/
def execMsixSpacingEnd (page : Nat) (s : State) : Host.Outcome State Fault Refusal :=
  s.core fun b => if b.hiu.pend.contains page then b.msix page else b

/-- POP (R514): of the writing path's FIFO. -/
def Block.popFifo (b : Block) (path : Nat) : Block :=
  { b with hiu :=
    if path = 1 then { b.hiu with fifoA := b.hiu.fifoA.drop 1 }
    else if path = 2 then { b.hiu with fifoB := b.hiu.fifoB.drop 1 }
    else b.hiu }

def execPop (path : Nat) (s : State) : Host.Outcome State Fault Refusal := s.write path Reg.EV_CTL fun b => b.popFifo path

end Sys2Proof.Machine
end

