-- ==== Sys2Proof/Machine/Queues.lean ====
section
/-!
DEFINITION. The rows of the Queue Front End: doorbell writes (R90 to R92), ring reads (R97), indirect records (R133 to
R135), completions (R23) and the freeing of a context (R40).
-/
namespace Sys2Proof.Machine

/-- A doorbell write of a queue (R87, R90, R91, R92, R519). The field holds 21 bits. -/
def Block.doorbell (b : Block) (ctx qidx v : Nat) : Block :=
  let v := v % 2 ^ 21
  match b.queueOf? ctx qidx with
  | none => b
  | some q =>
    let x := b.queue q
    if !x.takesDb then b
    else if 2 * x.slots ≤ v then b.dbReject q
    else b.dbSet q (x.dbCount + (v + 2 * x.slots - x.doorbell) % (2 * x.slots))

/-- DOORBELL_WRITE (R90, R450, R478, R519): ignored in OFF and LOAD, counted during a stop, an access error from the
sideband. -/
def execDoorbellWrite (path ctx qidx : Nat) (v : BitVec 32) (s : State) : Host.Outcome State Fault Refusal :=
  s.aon fun b =>
    if !b.pathUp path ∨ b.pins.coreHeld then b
    else if b.stop.stopped then b.stopDrop
    else if path = 3 then b.accessErr pgQfe path (qidx * 0x100) 0 ctx
    else if b.st = .off ∨ b.st = .load ∨ b.st = .power then b
    else b.doorbell ctx qidx v.toNat

/-- RING_READ_COMPLETION (R97): the commands of the aligned 256-byte block that holds the next index. -/
def execRingReadCompletion (q : Nat) (s : State) : Host.Outcome State Fault Refusal :=
  s.core fun b =>
    let x := b.queue q
    let b := b.settleHalt q
    let b := if b.mayFetch q then b.touch x.ctx (x.ringBase + x.fetched % x.slots * 64) (some (.queue q)) else b
    Block.fetchBlockN q (x.fetched / 4) 4 b

/-- The record of a LAUNCH_IND, once read, is checked by steps 4 to 9 (R135) and becomes the launch's parameters. -/
def Block.acceptRecord (b : Block) (c : Cmd) (w : List Nat) : Block :=
  let l := indirectOf w
  let r := (need (indirectOk w) 0x10).bind fun _ => (need l.argsOk 0x12).bind fun _ =>
    (b.launchPlan c.ctx l []).bind fun p => (b.steps89 p).bind fun _ => .ok p
  match r with
  | .ok p =>
    if Config.descCacheEntries < b.descsHeld + p.descs.length then { b with descHold := p.descs.length }
    else
      let more := (b.pinsOf p.ranges).filter fun m => !c.pins.contains m
      let b := { b with descHold := 0 }.addPins more
      (b.modCmd c.q c.i fun c => { c with
        ind := some l, pins := c.pins ++ more, version := p.version, descs := p.descs }).fixDeadlines
  | .bad st => if st = lostXlat then (b.endCmd c.q c.i (st % 256)).loseCtx c.ctx (st % 256) (some (c.q, c.i))
      else b.endCmd c.q c.i st
  | .poison a x => b.poisonCmd c a x
  | m => b.meet c.ctx (.cmd c.q c.i) false m

/-- INDIRECT_RECORD_READ (R133): once, after the waits of the command are met; QFE validates nothing while the coherence
domain is down (R349). -/
def execIndirectRecordRead (q i : Nat) (s : State) : Host.Outcome State Fault Refusal :=
  s.core fun b => match b.cmd? q i with
    | none => b
    | some c => match c.op with
      | .launchInd a =>
        if c.phase = .ready ∧ c.ind.isNone ∧ b.clear c ∧ !b.down then
          if !c.record.isEmpty then b.acceptRecord c c.record
          else match b.readVa c.ctx a 24 with
            | .ok bs => b.viaHome c.ctx a 24 ((b.modCmd q i fun c => { c with record := words64 bs }).acceptRecord c (words64 bs))
            | .bad st => b.faultCmd c c.ctx a 24 st
            | .poison x y => b.poisonCmd c x y
            | m => b.meet c.ctx (.cmd q i) false m
        else b
      | _ => b

/-- COMMAND_COMPLETION (R23). -/
def execCommandCompletion (q i : Nat) (s : State) : Host.Outcome State Fault Refusal := s.core fun b => b.completeCmd q i

/-- CONTEXT_FREED (R40). -/
def execContextFreed (ctx : Nat) (s : State) : Host.Outcome State Fault Refusal := s.core fun b => b.freeCtx ctx

end Sys2Proof.Machine
end

