-- ==== Sys2Proof/Machine/ReinRows.lean ====
section
/-!
DEFINITION. The rows of the Rein ports (R356 to R394). A row of the link layer goes on during a global stop (R448).
-/
namespace Sys2Proof.Machine

/-! ### States -/

/-- PT_EN_WRITE (R373, R387, R525). -/
def execPtEnWrite (path p : Nat) (v : BitVec 32) (s : State) : Host.Outcome State Fault Refusal :=
  s.write path (prt p Reg.PT_CTL) fun b => b.ptCtlWrite path p v.toNat

/-- RETRAIN (R373): PT_CTL as it stands, with RETRAIN. -/
def execRetrain (path p : Nat) (s : State) : Host.Outcome State Fault Refusal :=
  s.write path (prt p Reg.PT_CTL) fun b => b.ptCtlWrite path p (b.reg (prt p Reg.PT_CTL) ||| 2)

/-- LANE_SIGNAL_CHANGE (R356, R373). -/
def execLaneSignalChange (p lane : Nat) (present : Bool) (s : State) : Host.Outcome State Fault Refusal :=
  s.link fun b => b.laneSignal p lane present

/-- TS1 (R368, R373). -/
def execTs1 (p lane : Nat) (s : State) : Host.Outcome State Fault Refusal := s.link fun b => b.takeTs1 p lane

/-- TS2 (R368). -/
def execTs2 (p lane : Nat) (rxok : BitVec 2) (s : State) : Host.Outcome State Fault Refusal :=
  s.link fun b => b.takeTs2 p lane rxok.toNat

/-- TRAINING_ATTEMPT_TIMEOUT (R368): 10 ms without IDENT. -/
def execTrainingAttemptTimeout (p : Nat) (s : State) : Host.Outcome State Fault Refusal :=
  s.link fun b => if (b.port p).st = .train ∧ 10 * Config.cyclesMs ≤ (b.port p).stCycles then b.attemptFails p else b

/-- IDENT (R369, R373). -/
def execIdent (p : Nat) (f : Frame) (s : State) : Host.Outcome State Fault Refusal :=
  s.link fun b => b.rxLink p f (fun st => st = .ident ∨ st = .quarantine) fun b => b.takeIdent p f.payload

/-- IDENT_SEND (R369): every 10 µs. -/
def execIdentSend (p : Nat) (s : State) : Host.Outcome State Fault Refusal :=
  s.link fun b =>
    if (b.port p).st = .ident ∧ 10 * Config.cyclesUs ≤ (b.port p).hbCycles then
      (b.sendLink p 0 (b.identPayload p)).modPort p fun r => { r with hbCycles := 0 }
    else b

/-- IDENT_TIMEOUT (R373): 1 ms in IDENT. -/
def execIdentTimeout (p : Nat) (s : State) : Host.Outcome State Fault Refusal :=
  s.link fun b => if (b.port p).st = .ident ∧ Config.cyclesMs ≤ (b.port p).stCycles then b.toTrain p 5 else b

/-! ### Credits and reliable delivery -/

/-- The counts of a CREDIT frame (R363). -/
def creditCounts (pl : BitVec 192) : List Nat := (List.range 6).map fun c => payField pl (2 * c) 2

/-- Whether the counts `l` are an error of the partner (R364). -/
def RPort.creditBad (r : RPort) (l : List Nat) : Bool :=
  (List.range 6).any fun c =>
    (nth r.sent c + 65536 - nth r.reported c) % 65536 < (nth l c + 65536 - nth r.reported c) % 65536

/-- CREDIT (R363, R364): counts that are an error isolate a port in RUN and are not taken in QUARANTINE. -/
def execCredit (p : Nat) (f : Frame) (s : State) : Host.Outcome State Fault Refusal :=
  s.link fun b => b.rxLink p f PtState.framed fun b =>
    let l := creditCounts f.payload
    if (b.port p).creditBad l then (if (b.port p).st = .run then b.isolate p 16 else b)
    else b.modPort p fun r => RPort.flush b.ns { r with reported := l }

/-- CREDIT_REPORT_TIMER (R363): 2 µs after the first unreported consumption, or 100 µs after the last CREDIT. -/
def execCreditReportTimer (p : Nat) (s : State) : Host.Outcome State Fault Refusal :=
  s.link fun b =>
    let r := b.port p
    let some_ := (List.range 6).any fun c => 0 < r.untold c
    if r.st.framed ∧ ((some_ ∧ 2 * Config.cyclesUs ≤ r.unrepCycles) ∨ 100 * Config.cyclesUs ≤ r.creditCycles) then b.setPort p r.sendCredit
    else b

/-- µs that frames of a class wait for credit (R364); classes 4 and 5 wait without limit. -/
def stallLimit (cls : Nat) : Option Nat := if cls = 1 then some 20 else if cls = 0 ∨ cls = 2 ∨ cls = 3 then some 100 else none

/-- CREDIT_STALL_TIMEOUT (R364). -/
def execCreditStallTimeout (p cls : Nat) (s : State) : Host.Outcome State Fault Refusal :=
  s.link fun b =>
    let r := b.port p
    match stallLimit cls with
    | some us => if r.st = .run ∧ us * Config.cyclesUs ≤ nth r.stallCycles cls then b.isolate p 17 else b
    | none => b

/-- NAK (R361). -/
def execNak (p : Nat) (f : Frame) (s : State) : Host.Outcome State Fault Refusal :=
  s.link fun b => b.rxLink p f PtState.framed fun b => b.replay p

/-- REPLAY_TIMER (R361): 8 µs without ACK progress. -/
def execReplayTimer (p : Nat) (s : State) : Host.Outcome State Fault Refusal :=
  s.link fun b => if (b.port p).st.framed ∧ 8 * Config.cyclesUs ≤ (b.port p).ackCycles then b.replay p else b

/-- BAD_FRAME (R357, R359, R361): 32 bytes taken on the active lane with code groups in error. Bytes that are a good frame
are no bad frame. -/
def execBadFrame (x : RxBytes) (s : State) : Host.Outcome State Fault Refusal :=
  s.link fun b =>
    if !(b.port x.port).st.linked then b
    else
      let b := b.codeErrors x.port (ofBit (b.port x.port).rxSpare) x.errs
      if x.errs = 0 ∧ (frameOf x.bytes).isSome then b else b.rxBad x.port

/-! ### Authentication -/

/-- AUTH (R370, R371): passed on while the session is open, held before; RUN ignores it (R367). -/
def execAuth (p : Nat) (f : Frame) (s : State) : Host.Outcome State Fault Refusal :=
  s.link fun b => b.rxLink p f (fun st => st = .quarantine) fun b =>
    let r := b.port p
    if r.authing then (b.toSecurity f.payload).setPort p { r with authCycles := 0 }
    else if 255 ≤ r.authHeld.length then b.isolate p 11
    else b.setPort p { r with authHeld := r.authHeld ++ [f.payload] }

/-- AUTH_DONE (R370, R371). -/
def execAuthDone (p : Nat) (f : Frame) (s : State) : Host.Outcome State Fault Refusal :=
  s.link fun b => b.rxLink p f (fun st => st = .quarantine) fun b =>
    (b.modPort p fun r => { r with peerDone := true }).authSettle p

/-- AUTH_VERDICT (R371). -/
def execAuthVerdict (p : Nat) (pass : Bool) (chipId : BitVec 32) (s : State) : Host.Outcome State Fault Refusal :=
  s.core fun b =>
    let r := b.port p
    if r.st ≠ .quarantine ∨ !r.authing then b
    else if !pass then b.isolate p 12
    else if chipId.toNat ≠ b.reg (prt p Reg.PT_PEER_ID) then b.isolate p 14
    else (b.setPort p (({ r with selfPass := true }).emitLink 4 0)).authSettle p

/-- AUTH_TIMEOUT (R371): 100 ms without an AUTH frame while the session is open. -/
def execAuthTimeout (p : Nat) (s : State) : Host.Outcome State Fault Refusal :=
  s.link fun b =>
    let r := b.port p
    if r.st = .quarantine ∧ r.authing ∧ 100 * Config.cyclesMs ≤ r.authCycles then b.isolate p 13 else b

/-- AUTH_SESSION_OPEN (R370): the frames held are passed on, in order. -/
def execAuthSessionOpen (p : Nat) (s : State) : Host.Outcome State Fault Refusal :=
  s.core fun b =>
    let r := b.port p
    if r.st ≠ .quarantine ∨ !r.authAsked ∨ r.authing then b
    else
      let b := { b with secOut := r.authHeld.flatMap fun (pl : BitVec 192) => leBytes 22 (pl.toNat / 2 ^ 16) }
      b.setPort p { r with authing := true, authHeld := [], authCycles := 0 }

/-- SECURITY_AUTH_BYTES (R371): a message of the security block leaves in AUTH frames. -/
def execSecurityAuthBytes (p : Nat) (bytes : List (BitVec 8)) (s : State) : Host.Outcome State Fault Refusal :=
  s.core fun b =>
    let r := b.port p
    if r.st ≠ .quarantine ∨ !r.authing ∨ 5610 < bytes.length then b
    else b.setPort p ((authChunks bytes).foldl (fun r pl => r.emitLink 3 pl) r)

/-! ### Lanes -/

/-- LANE_SWITCH (R378). -/
def execLaneSwitch (p : Nat) (f : Frame) (s : State) : Host.Outcome State Fault Refusal :=
  s.link fun b => b.rxLink p f PtState.framed fun b => b.takeLaneSwitch p (payField f.payload 0 1)

/-- LANE_FAILURE (R357, R378): a lane with more code groups in error, and whether it holds symbol lock. The active lane of a
port past training fails without lock, or with more than 64 errors in 1 ms; another lane without lock is not received well. -/
def execLaneFailure (x : LaneReport) (s : State) : Host.Outcome State Fault Refusal :=
  s.link fun b =>
    if (b.port x.port).st = .off then b
    else
      let b := b.codeErrors x.port x.lane x.errs
      let r := b.port x.port
      if r.st.linked ∧ x.lane = ofBit r.rxSpare then (if !x.lock ∨ r.noisy b.aonClk x.lane then b.laneFails x.port else b)
      else if x.lock then b else b.setPort x.port (r.unwell x.lane)

/-! ### Heartbeats and time -/

/-- HEARTBEAT (R370, R386). -/
def execHeartbeat (p : Nat) (f : Frame) (s : State) : Host.Outcome State Fault Refusal := s.link fun b => b.rxFrame p f 2 0

/-- HEARTBEAT_SEND (R381, R386): CHIP_ID, the count and the fabric time, every PERIOD_US. -/
def execHeartbeatSend (p : Nat) (s : State) : Host.Outcome State Fault Refusal :=
  s.link fun b =>
    let r := b.port p
    if r.st.framed ∧ b.field (prt p Reg.HB_CTL) 15 0 * Config.cyclesUs ≤ r.hbCycles then
      let b := b.setPort p { r with hbSent := (r.hbSent + 1) % 2 ^ 32, hbCycles := 0 }
      b.sendFrame p 2 0 (pay (b.chipId + r.hbSent * 2 ^ 32 + b.ns * 2 ^ 64))
    else b

/-- HEARTBEAT_TIMEOUT (R373): none for TIMEOUT_US. -/
def execHeartbeatTimeout (p : Nat) (s : State) : Host.Outcome State Fault Refusal :=
  s.link fun b =>
    let r := b.port p
    if r.st.framed ∧ b.field (prt p Reg.HB_CTL) 31 16 * Config.cyclesUs ≤ r.hbLast then b.toTrain p 6 else b

/-- TIME_SYNC_EXCHANGE (R381, R389): every 62.5 µs, on a TS_DOWN port in RUN. -/
def execTimeSyncExchange (p : Nat) (s : State) : Host.Outcome State Fault Refusal :=
  s.link fun b =>
    let r := b.port p
    if r.st = .run ∧ bit (b.reg (prt p Reg.PT_CTL)) 4 ∧ 112500 ≤ r.exchCycles then
      let n := (r.exch + 1) % 2 ^ 32
      let b := b.setPort p { r with exch := n, exchCycles := 0 }
      (b.sendFrame p 0 0 (pay (n + b.depth * 2 ^ 32))).sendFrame p 0 1 (pay (n + b.ns * 2 ^ 64))
    else b

/-- SYNC (R388, R389). -/
def execSync (p : Nat) (f : Frame) (s : State) : Host.Outcome State Fault Refusal := s.link fun b => b.rxFrame p f 0 0
/-- FOLLOW_UP (R389). -/
def execFollowUp (p : Nat) (f : Frame) (s : State) : Host.Outcome State Fault Refusal := s.link fun b => b.rxFrame p f 0 1
/-- DELAY_REQ (R389). -/
def execDelayReq (p : Nat) (f : Frame) (s : State) : Host.Outcome State Fault Refusal := s.link fun b => b.rxFrame p f 0 2
/-- DELAY_RESP (R389, R390). -/
def execDelayResp (p : Nat) (f : Frame) (s : State) : Host.Outcome State Fault Refusal := s.link fun b => b.rxFrame p f 0 3

/-! ### Messages -/

/-- RELAY (R155, R392). -/
def execRelay (p : Nat) (f : Frame) (s : State) : Host.Outcome State Fault Refusal := s.link fun b => b.rxFrame p f 3 0
/-- ERROR (R383, R384, R412). -/
def execError (p : Nat) (f : Frame) (s : State) : Host.Outcome State Fault Refusal := s.link fun b => b.rxFrame p f 1 0
/-- ABORT (R383, R384, R412). -/
def execAbort (p : Nat) (f : Frame) (s : State) : Host.Outcome State Fault Refusal := s.link fun b => b.rxFrame p f 1 1
/-- RECORD (R393). -/
def execRecord (p : Nat) (f : Frame) (s : State) : Host.Outcome State Fault Refusal := s.link fun b => b.rxFrame p f 4 0
/-- MESSAGE (R394). -/
def execMessage (p : Nat) (f : Frame) (s : State) : Host.Outcome State Fault Refusal := s.link fun b => b.rxFrame p f 5 0

/-- EVENT_FORGET (R413): 1 s after the event was taken. -/
def execEventForget (origin : BitVec 32) (inc : BitVec 16) (no : BitVec 32) (s : State) : Host.Outcome State Fault Refusal :=
  s.link fun b => { b with seen := b.seen.filter fun e =>
    !(e.origin = origin.toNat ∧ e.inc = inc.toNat ∧ e.no = no.toNat ∧ 1000 * Config.cyclesMs ≤ e.age) }

/-- The message that MG_TX0 to MG_TX5 hold. -/
def Block.mgTx (b : Block) (p : Nat) : BitVec 192 :=
  pay (((List.range 6).map fun k => b.reg (prt p (Reg.MG_TX0 + 4 * k)) * 2 ^ (32 * k)).foldl (· + ·) 0)

/-- A write of GO to MG_TX_CTL (R394). -/
def Block.mgGo (b : Block) (path p : Nat) : Block :=
  let r := b.port p
  if r.st ≠ .run ∨ r.mgBusy then b.pageErr path (prt p Reg.MG_TX_CTL)
  else
    let b := (b.setPort p { r with mgBusy := true }).setField (prt p Reg.MG_TX_CTL) 1 1 0
    b.sendFrame p 5 0 (b.mgTx p)

/-- MG_TX_GO (R394). -/
def execMgTxGo (path p : Nat) (s : State) : Host.Outcome State Fault Refusal :=
  s.write path (prt p Reg.MG_TX_CTL) fun b => b.mgGo path p

/-- VALID written with 1 (R394): the next message waiting appears, with its event. -/
def Block.mgConsume (b : Block) (p : Nat) : Block :=
  match (b.port p).mgRx with
  | [] => b
  | _ :: l =>
    let b := (b.modPort p fun r => { r with mgRx := l }).consume p 5
    if l.isEmpty then b else b.event (pgRein p) 10

/-- MG_RX_CONSUME (R394). -/
def execMgRxConsume (path p : Nat) (s : State) : Host.Outcome State Fault Refusal :=
  s.write path (prt p Reg.MG_RX_CTL) fun b => b.mgConsume p

end Sys2Proof.Machine
end

