-- ==== Sys2Proof/Machine/Startup.lean ====
section
/-!
DEFINITION. Start-up: the end of initialisation (R306, R477), GO_READY and the entry to READY (R479, R480), GO_RUN (R481, R482).
-/
namespace Sys2Proof.Machine

/-- The block state as PG_STS.STATE of the GLB page shows it (R476). -/
def BlockState.code : BlockState → Nat
  | .power => 0
  | .off => 0
  | .load => 7
  | .ready => 8
  | .run => 2
  | .fault => 5

/-- The block enters LOAD, READY or RUN, with its record and event (R458, R477, R480). -/
def Block.enterState (b : Block) (st : BlockState) : Block :=
  (({ b with st := st }).cinderRec 0x12 st.code 0 0).event pgGlb 8 0 st.code

/-- The channels of a stack that are not retired (R424), as a mask. -/
def Block.keptChannels (b : Block) (s : Nat) : Nat :=
  ((List.range 16).filter fun k => (b.wearOf 8 (s * 16 + k)).st ≠ 2).foldl (fun n k => n + 2 ^ k) 0

/-- The channel tests: the channels of each stack that failed, and those retired, are mapped out (R306, R424). -/
def Block.takeTests (b : Block) (failed : List Nat) : Block :=
  let ok := (List.range b.straps.nStacks).map fun s => (65535 - nth failed s % 65536) &&& b.keptChannels s
  let b := { b with chanOk := ok, capMb := ok.map fun m => b.straps.channelMb * (channels m).length }
  (List.range b.straps.nStacks).foldl (fun b s => if nth ok s = 65535 then b else b.setField Reg.CAPACITY_SHRINK s s 1) b

/-- INITIALISATION_END (R306, R477): from OFF to LOAD; after an L3 with a chip-reset event. -/
def execInitialisationEnd (failed : List (BitVec 16)) (s : State) : Host.Outcome State Fault Refusal :=
  s.core fun b =>
    if b.st ≠ .off then b
    else
      let b := (b.takeTests (failed.map (·.toNat))).computeLayout.enterState .load
      let b := { b with sync := { b.sync with started := true } }
      let b := if b.l3Done then { b with l3Done := false }.event pgGlb 9 else b
      b.linkRelease

/-! ### GO_READY -/

/-- Base and length of a window; one that is not aligned has length 0 (R353). -/
def Block.window (b : Block) (lo hi len : Nat) : Nat × Nat :=
  let base := b.reg lo + 2 ^ 32 * b.reg hi
  let n := b.reg len
  (base, if base % 65536 = 0 ∧ n % 65536 = 0 then n else 0)

/-- Check 3 of R479. -/
def Block.windowsOk (b : Block) : Bool :=
  let j := b.window Reg.CC_JRNL_BASE_LO Reg.CC_JRNL_BASE_HI Reg.CC_JRNL_LEN
  let c := b.window Reg.CC_SCR_BASE_LO Reg.CC_SCR_BASE_HI Reg.CC_SCR_LEN
  decide (2 ^ 20 ≤ j.2) && (decide (c.2 = 0) || decide (j.1 + j.2 ≤ c.1) || decide (c.1 + c.2 ≤ j.1))

/-- The ring of KQ0 (R479, R480). -/
def Block.kq0Base (b : Block) : Nat := b.reg Reg.KQ0_BASE_LO + 2 ^ 32 * b.reg Reg.KQ0_BASE_HI
def Block.kq0Log2 (b : Block) : Nat := b.field Reg.KQ0_CFG 4 0

/-- Check 4 of R479: a ring is aligned and at most 64 MiB, so the 1 GiB entry of its base covers it whole. -/
def Block.kq0Ok (b : Block) : Bool :=
  let n := b.kq0Log2
  decide (12 ≤ n) && decide (n ≤ 26) && decide (b.kq0Base % 2 ^ n = 0) && (match b.bootFor? b.kq0Base with
    | some e => e.rd && e.wr
    | none => false)

/-- The code of the first check of R479 that fails; 0 when all pass. -/
def Block.readyCode (b : Block) : Nat :=
  let stall := b.field Reg.KQ0_STALL 21 0
  if !b.mc.verified.contains b.mc.active then 1
  else if !b.roleSet then 2
  else if !b.windowsOk then 3
  else if !b.kq0Ok then 4
  else if !(stall = 0 ∨ (64 ≤ stall ∧ stall ≤ 4000000)) then 5
  else if !((List.range 3).any fun k => (b.wearOf 0 k).st < 2) then 6
  else if b.reg Reg.WK_INCARNATION = 0 then 7
  else 0

/-- Context 0 and KQ0 (R480 step 2). -/
def Block.openKq0 (b : Block) : Block :=
  let stall := b.field Reg.KQ0_STALL 21 0
  let b := b.setCtx 0 { b.ctx 0 with st := .opn, pasid := b.field Reg.KQ0_CFG 24 5, stallUs := if stall = 0 then Config.defaultStallUs else stall }
  b.setQueue 0 { st := .active, ctx := 0, qidx := 0, cls := 0, ringBase := b.kq0Base, ringLog2 := b.kq0Log2 }

/-- Entry to READY (R306, R480). -/
def Block.enterReady (b : Block) : Block :=
  let b := (b.writeCaps).openKq0
  let b := (b.startCore b.mc.active).startCadence
  let b := b.enterState .ready
  (List.range b.straps.nStacks).foldl (fun b s => if nth b.chanOk s = 65535 then b else b.poolEvent 3 s) b

/-- A write of GO_READY (R479). -/
def Block.goReady (b : Block) (path : Nat) : Block :=
  if b.st ≠ .load then b.pageErr path Reg.GLB_CTL
  else
    let code := b.readyCode
    if code = 0 then b.enterReady else b.setReg Reg.GLB_REFUSE code

/-- GO_READY (R479, R480). -/
def execGoReady (path : Nat) (s : State) : Host.Outcome State Fault Refusal := s.write path Reg.GLB_CTL fun b => b.goReady path

/-- A write of GO_RUN (R481). -/
def Block.goRun (b : Block) (path : Nat) : Block :=
  if b.st ≠ .ready then b.pageErr path Reg.GLB_CTL
  else if b.reg Reg.ZT_FCR_SIZE = 0 then b.setReg Reg.GLB_REFUSE 8
  else (b.enterState .run).lightAll

/-- GO_RUN (R481, R482). -/
def execGoRun (path : Nat) (s : State) : Host.Outcome State Fault Refusal := s.write path Reg.GLB_CTL fun b => b.goRun path

end Sys2Proof.Machine
end

