-- ==== Sys2Proof/Machine/RegRead.lean ====
section
/-!
DEFINITION. What each register reads as: the stored word, or what the state of its unit gives (the register tables of every
chapter, R503, R504, R510), on unit pages, doorbell pages (R87 to R89, R56) and wick window pages (R264 to R266).
-/
namespace Sys2Proof.Machine

/-- What a register reads, from the block, the reading path and the offset in the window. -/
abbrev Reader := Block → Nat → Nat → Nat

/-! ### The common header -/

def PtState.code : PtState → Nat
  | .off => 0
  | .train => 1
  | .ident => 2
  | .quarantine => 3
  | .run => 4
  | .isolated => 5

/-- Whether a page is a Rein port page, and of which port. -/
def isReinPage (pg : Nat) : Bool := decide (0x20 ≤ pg)
def portOf (a : Nat) : Nat := a / 0x1000 - 0x20

/-- The unit has lost its last instance with no spare left (R424), or its rebuilds restart (R350). -/
def Block.unitLost (b : Block) (pg : Nat) : Bool :=
  (decide (pg = pgLl) && b.mc.noSpare) || (decide (pg = pgZt) && b.walkers.isEmpty) || (decide (pg = pgCc) && decide (3 ≤ b.coh.restarts))

/-- A handover pauses dispatch (R493). -/
def Block.handing (b : Block) : Bool := match b.mc.busy with
  | .handover _ => true
  | _ => false

/-- STATE of a unit page other than GLB (R504). -/
def Block.unitState (b : Block) (pg : Nat) : Nat :=
  let rein := isReinPage pg
  let p := pg - 0x20
  let st := (b.port p).st
  if rein ∧ !bit b.straps.reinBond p then 6
  else if b.st = .fault ∨ b.unitLost pg then 5
  else if (b.stop.stopped ∧ !rein ∧ pg ≠ pgCn) ∨ (rein ∧ st = .isolated) then 4
  else if (pg = pgLl ∧ (b.down ∨ b.handing)) ∨ (pg = pgCc ∧ b.down) then 3
  else if b.st = .off ∨ b.st = .power ∨ (rein ∧ st = .off) then 0
  else if b.st = .load ∨ (rein ∧ (st = .train ∨ st = .ident ∨ st = .quarantine)) then 1
  else 2

/-- PG_STS.STATE of a page (R476, R504). -/
def Block.pageState (b : Block) (pg : Nat) : Nat := if pg = pgGlb then b.st.code else b.unitState pg

/-- PG_STS of a page; that of a core-domain page reads 0 while the core is held (R513). -/
def Block.pageSts (b : Block) (pg : Nat) : Nat :=
  if b.pins.coreHeld ∧ pg ≠ pgCn ∧ !isReinPage pg then 0 else ofBit (b.errPend pg) * 2 ^ 8 + b.pageState pg

/-- PG_CAP of a row of R537. -/
def PageInfo.cap (x : PageInfo) : Nat :=
  ofBit x.aon * 2 ^ 31 + ofBit x.sideband * 2 ^ 30 + ofBit x.gated * 2 ^ 29 + ofBit x.ecc * 2 ^ 28 + x.unitEnd

/-- PG_EPOCH of a page (R503): the stamp of the active core, the lowest stamp among walkers in service, or RC_EPOCH. -/
def Block.pageEpoch (b : Block) (pg : Nat) : Nat :=
  let e := b.reg Reg.RC_EPOCH
  if pg = pgLl then b.stampOf b.mc.active
  else if pg = pgZt then (match b.walkers with
    | [] => e
    | k :: l => l.foldl (fun m j => min m (b.stampOf (16 + j))) (b.stampOf (16 + k)))
  else e

/-- A header register at offset `o` of page `pg`. -/
def Block.header (b : Block) (pg o : Nat) : Nat :=
  if o = Reg.PG_ID then pageType pg * 2 ^ 16 + pageInst pg * 2 ^ 8 + 1
  else if o = Reg.PG_CAP then (pageInfo pg).cap
  else if o = Reg.PG_STS then b.pageSts pg
  else if o = Reg.PG_ERR_INJ then bits (b.arms pg) 1 1 * 2 + b.arms pg % 2 * 4
  else if o = Reg.PG_SEM then b.sem (pageSem pg)
  else if o = Reg.PG_EPOCH then b.pageEpoch pg
  else b.reg (pg * 0x1000 + o)

/-! ### Helpers of the tables -/

/-- A reader that depends on the block alone. -/
def plain (f : Block → Nat) : Reader := fun b _ _ => f b

/-- A reader of a Rein port. -/
def ofPort (f : Block → Nat → RPort → Nat) : Reader := fun b _ a => f b (portOf a) (b.port (portOf a))

def lo32 (n : Nat) : Nat := n % 2 ^ 32
def hi32 (n : Nat) : Nat := n / 2 ^ 32 % 2 ^ 32

/-- The event FIFO that a path reads, and its LOST (R514). -/
def Hiu.fifo (h : Hiu) (path : Nat) : List EvRec := if path = 1 then h.fifoA else if path = 2 then h.fifoB else []
def Hiu.lost (h : Hiu) (path : Nat) : Nat := if path = 1 then h.lostA else if path = 2 then h.lostB else 0

/-- The four 64-bit words of an event record (R510), as one number. -/
def EvRec.num (r : EvRec) : Nat :=
  r.time % 2 ^ 64 + (r.typ * 2 ^ 48 + r.inst * 2 ^ 40 + r.bit * 2 ^ 35 + ofBit r.inj * 2 ^ 32 + r.ctx) * 2 ^ 64
    + r.d0 % 2 ^ 64 * 2 ^ 128 + r.d1 % 2 ^ 64 * 2 ^ 192

/-- EV_DATA k of a path: the head record, 0 when the FIFO is empty. -/
def evData : Reader := fun b path a => match b.hiu.fifo path with
  | [] => 0
  | r :: _ => lo32 (r.num / 2 ^ (8 * (a - Reg.EV_DATA0)))

def evSts : Reader := fun b path _ => b.hiu.lost path * 2 ^ 16 + (b.hiu.fifo path).length

/-- The RT queue that RTQ_SEL names (R166). -/
def Block.rtqSel (b : Block) : Option Nat :=
  (b.queueOf? (b.field Reg.RTQ_SEL 15 4) (b.field Reg.RTQ_SEL 3 0)).bind fun q => if (b.queue q).cls = 2 then some q else none

def Block.rtq (b : Block) (f : HwQueue → Nat) : Nat := match b.rtqSel with
  | some q => f (b.queue q)
  | none => 0

/-- Objects that the selectors name. -/
def Block.hSel (b : Block) : Harness := b.harness (b.field Reg.H_SEL 5 0)
def Block.dtSel (b : Block) : Ctx := b.ctx (b.field Reg.DT_SEL 11 0)
def Block.ztSel (b : Block) : Ctx := b.ctx (b.field Reg.ZT_CTX_SEL 11 0)
def Block.lgSel (b : Block) : Harness := b.harness (b.field Reg.LG_H_SEL 5 0)
def Block.jobSel (b : Block) : Ctx := b.ctx (b.field Reg.RC_JOB_SEL 11 0)
def Block.smKind (b : Block) : Nat := b.field Reg.SM_SEL 31 28
def Block.smInst (b : Block) : Nat := b.field Reg.SM_SEL 19 0
def Block.smSel (b : Block) : Wear := b.wearOf b.smKind b.smInst
def Block.occSel (b : Block) : Nat := b.field Reg.OB_QOCC_SEL 1 0

/-- H_INFO (R176). -/
def Block.hInfo (b : Block) : Nat :=
  let x := b.hSel
  let st := match x.st with
    | .free => 0
    | .active => 1
    | .reset => 2
  st * 2 ^ 30 + ofBit x.rt * 2 ^ 29 + x.cores.length * 2 ^ 18 + x.units.length * 2 ^ 9 + ((x.cores ++ x.units).filter b.isBound).length

/-- CAD_STS (R160). -/
def Block.cadSts (b : Block) : Nat :=
  b.field Reg.CAD_STS 6 6 * 2 ^ 6 + ofBit b.cad.locked * 2 ^ 5 + ofBit (decide (b.cad.src = 3)) * 2 ^ 4 + b.cad.src % 16

/-- The word of the Rein registers that shows available credits of the classes of `l`, lowest first (R395). -/
def creditWord (r : RPort) (l : List Nat) : Nat := l.reverse.foldl (fun n c => n * 256 + r.avail c % 256) 0

/-- PT_STS (R395). -/
def Block.ptSts (b : Block) (p : Nat) (r : RPort) : Nat :=
  b.depth * 2 ^ 12 + ofBit (b.sync.locked && decide (b.tsUp? = some p)) * 2 ^ 11 + ofBit r.sigActive * 2 ^ 10
    + ofBit r.rxSpare * 2 ^ 9 + ofBit r.txSpare * 2 ^ 8 + ofBit r.authAsked * 2 ^ 7 + r.st.code

/-- A word of the MESSAGE shown in MG_RX (R394). -/
def mgRxWord : Reader := fun b _ a => match (b.port (portOf a)).mgRx with
  | [] => 0
  | m :: _ => lo32 (m.toNat / 2 ^ (8 * (a % 0x1000 - 0x1A0)))

/-- SM_STAMP (R422): engines, Lamplighter cores and walkers carry stamps. -/
def Block.smStamp (b : Block) : Nat :=
  let k := b.smInst
  if !b.sync.started then 0 else match b.smKind with
  | 0 => b.stampOf k
  | 1 => b.stampOf (16 + k)
  | 6 => (b.eng k).stamp
  | 7 => (b.eng (unitBase + k)).stamp
  | _ => 0

/-- SM_WEAR (R430). -/
def Wear.word (w : Wear) : Nat := w.st * 2 ^ 30 + w.ue * 2 ^ 16 + w.ce

/-- A boot-map entry as ZT_BOOT_ENT0 shows it (R272, R300). -/
def BootEnt.word (e : BootEnt) : Nat :=
  ofBit e.valid * 2 ^ 31 + ofBit e.host * 2 ^ 30 + ofBit e.wr * 2 ^ 29 + ofBit e.rd * 2 ^ 28 + e.vpn

/-- Bits of the numbers of `l`. -/
def bitSet (l : List Nat) : Nat := l.foldl (fun n k => n ||| 2 ^ k) 0

/-- MC_STS (R496): the stored REASON and FAIL with the live fields. -/
def Block.mcSts (b : Block) : Nat :=
  b.field Reg.MC_STS 31 24 * 2 ^ 24 + bitSet b.mc.verified % 8 * 2 ^ 8 + b.mc.active * 2 ^ 4 + b.field Reg.MC_STS 1 1 * 2 + ofBit b.mcBusy

/-- OB_BP_CTL (R464). -/
def Block.bpCtl (b : Block) : Nat :=
  let k := b.bpSel
  let p := b.bp k
  p.ctx * 2 ^ 20 + ofBit p.hit * 2 ^ 7 + ofBit (!(b.haltedAt k).isEmpty) * 2 ^ 6 + ofBit p.stop * 2 + ofBit p.en

/-- The scan-out word that OB_SCAN_ADDR names (R452). -/
def Block.scanWord (b : Block) : Nat := if b.stop.stopped then b.stop.image.getD (b.reg Reg.OB_SCAN_ADDR) 0 else 0

/-- A word of the Cinder record selected (R462). -/
def cnData : Reader := fun b _ a =>
  lo32 ((Tab.get (fun _ => (0 : BitVec 128)) b.cinder.log (b.field Reg.CN_SEL 15 0)).toNat / 2 ^ (8 * (a - Reg.CN_DATA0)))

/-- PW_STS (R518). -/
def Block.pwSts (b : Block) : Nat :=
  let n := (b.groups.filter fun g => !g.granted).length
  ofBit (decide (0 < n)) * 2 ^ 31 + min n 255

/-! ### The tables -/

def readsStart : List (Nat × Reader) := [
  (Reg.GLB_ROLE, plain fun b => ofBit b.roleSet * 2 ^ 31 + b.field Reg.GLB_ROLE 1 0),
  (Reg.GLB_WHOAMI, fun _ path _ => path),
  (Reg.GLB_PORT_STS, plain fun b =>
    b.field Reg.GLB_PORT_STS 5 4 * 16 + ofBit b.pins.sideband * 4 + ofBit b.pins.portB * 2 + ofBit b.pins.portA),
  (Reg.SEM_HELD_LO, plain fun b => bitSet ((List.range 32).filter fun k => b.sem k ≠ 0)),
  (Reg.SEM_HELD_HI, plain fun b => bitSet ((List.range 32).filter fun k => b.sem (32 + k) ≠ 0)),
  (Reg.EV_DATA0, evData), (Reg.EV_DATA1, evData), (Reg.EV_DATA2, evData), (Reg.EV_DATA3, evData),
  (Reg.EV_DATA4, evData), (Reg.EV_DATA5, evData), (Reg.EV_DATA6, evData), (Reg.EV_DATA7, evData),
  (Reg.EV_STS, evSts),
  (Reg.MSIX_SIZE, plain fun b => b.straps.msixSize),
  (Reg.QFE_INFLIGHT, plain fun b => b.cmds.length),
  (Reg.QFE_QUEUES, plain fun b =>
    (b.queues.filter fun kv => kv.2.st ≠ .unused ∧ kv.2.cls = 2).length * 2 ^ 16 + (b.queues.filter fun kv => kv.2.st ≠ .unused).length),
  (Reg.MC_DATA_LO, plain fun b => lo32 (b.word48 b.mcSel (b.reg Reg.MC_ADDR))),
  (Reg.MC_DATA_HI, plain fun b => hi32 (b.word48 b.mcSel (b.reg Reg.MC_ADDR))),
  (Reg.MC_SIG_LEN, plain fun b => b.mc.sig.length),
  (Reg.MC_STS, plain Block.mcSts),
  (Reg.MC_VERSION_LO, plain fun b => if b.mc.verified.contains b.mcSel then b.word48 b.mcSel 0x3FFF / 2 ^ 16 else 0),
  (Reg.MC_VERSION_HI, plain fun b => Tab.get (fun _ => 0) b.mc.crc b.mcSel)]

def readsSched : List (Nat × Reader) := [
  (Reg.RTQ_SPAN, plain fun b => b.rtq (·.span)),
  (Reg.RTQ_MISS, plain fun b => b.rtq (·.misses)),
  (Reg.H_INFO, plain Block.hInfo),
  (Reg.H_HOME, plain fun b => b.hSel.home),
  (Reg.H_STEP_PACED, plain fun b => min (b.hSel.pacedCycles / Config.cyclesUs) (2 ^ 32 - 1)),
  (Reg.CAD_STS, plain Block.cadSts),
  (Reg.CAD_NOW_LO, plain fun b => lo32 b.cadence),
  (Reg.CAD_NOW_HI, plain fun b => hi32 b.cadence),
  (Reg.DT_BASE_LO, plain fun b => lo32 b.dtSel.dtBase),
  (Reg.DT_BASE_HI, plain fun b => hi32 b.dtSel.dtBase),
  (Reg.DT_COUNT, plain fun b => b.dtSel.dtCount),
  (Reg.SC_USED, plain Block.cacheUsed),
  (Reg.SC_VERSIONS, plain fun b => b.versions.length),
  (Reg.WK_FREE_SLOTS, plain Block.freeSlots),
  (Reg.WK_FREE_WAITERS, plain fun b => Config.numSharedWaiters - b.sharedUsed),
  (Reg.WK_BND_PAIR, plain fun b => (b.bound b.bndSel).prod * 2 ^ 16 + (b.bound b.bndSel).cons),
  (Reg.WK_BND_CTX, plain fun b => (b.bound b.bndSel).ctx),
  (Reg.WK_BND_LIMIT_LO, plain fun b => lo32 (b.bound b.bndSel).limit),
  (Reg.WK_BND_LIMIT_HI, plain fun b => hi32 (b.bound b.bndSel).limit),
  (Reg.WK_IMP_RESULT, plain fun b => ofBit (decide (b.impBusy ≠ 0)) * 2 ^ 31 + b.reg Reg.WK_IMP_RESULT % 2 ^ 8),
  (Reg.WK_BND_CTL, plain fun b =>
    let y := b.bound b.bndSel
    ofBit y.underrun * 8 + ofBit y.overrun * 4 + ofBit y.en)]

def readsZtu : List (Nat × Reader) := [
  (Reg.ZT_CTX_MODE, plain fun b => ofBit (decide (b.ztSel.st ≠ .free)) * 2 + ofBit b.ztSel.ats),
  (Reg.ZT_BOOT_ENT0, plain fun b => (b.bootEnt (b.field Reg.ZT_BOOT_SEL 5 0)).word),
  (Reg.ZT_BOOT_ENT1, plain fun b => (b.bootEnt (b.field Reg.ZT_BOOT_SEL 5 0)).ppn),
  (Reg.ZT_FCR_BASE_LO, plain fun b => lo32 b.fcrBase),
  (Reg.ZT_FCR_BASE_HI, plain fun b => hi32 b.fcrBase),
  (Reg.ZT_POOL_LEVEL, plain fun b =>
    let k := b.field Reg.ZT_POOL_SEL 3 0
    if k < b.straps.nStacks then (b.pool k).length else 0),
  (Reg.ZT_INV_CTL, plain fun b => ofBit (decide (b.invBusy ≠ 0)) * 2 ^ 31),
  (Reg.ZT_WALKERS, plain fun b =>
    bitSet ((List.range 10).filter fun k => (b.wearOf 1 k).st = 2) * 2 ^ 16 + bitSet b.walkers),
  (Reg.LG_H_COMMIT, plain fun b => ofBit b.lgSel.commitEn * 2 ^ 31 + b.lgSel.commitCtx * 2 ^ 16 + b.lgSel.commitVid),
  (Reg.CC_DIR_USED, plain fun b => b.coh.dir.length),
  (Reg.CC_SPARE_WAYS, plain fun b => bitSet ((List.range 4).filter fun k => (b.wearOf 3 (k * 17 + 16)).st < 2))]

def readsRecovery : List (Nat × Reader) := [
  (Reg.RC_STALL_RES, plain fun b => ofBit (decide (b.stallBusy ≠ 0)) * 2 ^ 31 + b.reg Reg.RC_STALL_RES % 2 ^ 8),
  (Reg.RC_STALL_PEND, plain fun b => min ((b.cmds.filter (·.stalled)).length + (b.tasks.filter (·.stalled)).length) 65535),
  (Reg.RC_STS, plain fun b => b.field Reg.RC_STS 3 3 * 8 + ofBit b.mc.noSpare * 4),
  (Reg.RC_JOB_ID, plain fun b => b.jobSel.job),
  (Reg.RC_JOB_CTL, plain fun b => ofBit b.jobSel.jobValid * 2 ^ 31 + b.jobSel.jobPorts),
  (Reg.SM_WEAR, plain fun b => b.smSel.word),
  (Reg.SM_WIN_CE, plain fun b => min ((b.recentCe b.smSel).length - 1) 65535),
  (Reg.SM_STAMP, plain Block.smStamp),
  (Reg.SM_SPARE_LEFT, plain fun b => b.spareLeft b.smKind b.smInst),
  (Reg.FP_DEST, plain fun b => (b.dest (b.field Reg.FP_DEST_SEL 7 0)).toNat),
  (Reg.PW_STS, plain Block.pwSts)]

def readsObserve : List (Nat × Reader) := [
  (Reg.OB_QOCC_NOW, plain fun b => nth b.occ.now b.occSel),
  (Reg.OB_QOCC_PEAK, plain fun b => nth b.occ.peak b.occSel),
  (Reg.OB_QOCC_INT_LO, plain fun b => lo32 (nth b.occ.int b.occSel)),
  (Reg.OB_QOCC_INT_HI, plain fun b => hi32 (nth b.occ.int b.occSel)),
  (Reg.TB_CTL, plain fun b => (b.tbuf b.tbSel).ctl),
  (Reg.TB_BASE_LO, plain fun b => lo32 (b.tbuf b.tbSel).base),
  (Reg.TB_BASE_HI, plain fun b => hi32 (b.tbuf b.tbSel).base),
  (Reg.TB_SIZE, plain fun b => (b.tbuf b.tbSel).log2),
  (Reg.TB_TAIL, plain fun b => (b.tbuf b.tbSel).tail),
  (Reg.TB_HEAD, plain fun b => (b.tbuf b.tbSel).head),
  (Reg.TB_FILL, plain fun b => 32 * (b.tbuf b.tbSel).recs.length),
  (Reg.TB_LOST, plain fun b => (b.tbuf b.tbSel).lost),
  (Reg.OB_STOP_STS, plain fun b => b.stop.cause * 16 + ofBit b.stop.stopped),
  (Reg.OB_SCAN_DATA_LO, plain fun b => lo32 b.scanWord),
  (Reg.OB_SCAN_DATA_HI, plain fun b => hi32 b.scanWord),
  (Reg.OB_DBG_CTL, plain fun b => ofBit (b.ctx (b.field Reg.OB_DBG_SEL 11 0)).debug),
  (Reg.OB_BP_LIST, plain fun b => (b.bp b.bpSel).listId * 2 ^ 16 + (b.bp b.bpSel).epoch),
  (Reg.OB_BP_AT, plain fun b => (b.bp b.bpSel).at_),
  (Reg.OB_BP_CTL, plain Block.bpCtl),
  (Reg.CN_DATA0, cnData), (Reg.CN_DATA1, cnData), (Reg.CN_DATA2, cnData), (Reg.CN_DATA3, cnData)]

def readsRein : List (Nat × Reader) := [
  (Reg.PT_STS, ofPort Block.ptSts),
  (Reg.PT_PEER_ID, ofPort fun b p r => if r.st = .off ∨ r.st = .train then 2 ^ 32 - 1 else b.reg (prt p Reg.PT_PEER_ID)),
  (Reg.RL_CFG, ofPort fun b p r =>
    let k := b.field (prt p Reg.RL_SEL) 2 0
    if k = 6 then 0 else (r.rl.getD k (0, 0)).1 * 2 ^ 16 + (r.rl.getD k (0, 0)).2),
  (Reg.CRED_AVAIL_LO, ofPort fun _ _ r => creditWord r [0, 1, 2, 3]),
  (Reg.CRED_AVAIL_HI, ofPort fun _ _ r => creditWord r [4, 5]),
  (Reg.TRAIN_FAILS, ofPort fun _ _ r => min r.fails 255),
  (Reg.MG_TX_CTL, ofPort fun b p r => ofBit r.mgBusy * 2 ^ 31 + b.field (prt p Reg.MG_TX_CTL) 1 1 * 2),
  (Reg.MG_RX0, mgRxWord), (Reg.MG_RX1, mgRxWord), (Reg.MG_RX2, mgRxWord),
  (Reg.MG_RX3, mgRxWord), (Reg.MG_RX4, mgRxWord), (Reg.MG_RX5, mgRxWord),
  (Reg.MG_RX_CTL, ofPort fun _ _ r => ofBit (!r.mgRx.isEmpty))]

/-- Registers whose value the state of their unit gives. -/
def readers : List (Nat × Reader) :=
  readsStart ++ readsSched ++ readsZtu ++ readsRecovery ++ readsObserve ++ readsRein

/-! ### The window (R497) -/

/-- A unit page. -/
def Block.unitWord (b : Block) (path a : Nat) : Nat :=
  let pg := a / 0x1000
  let o := a % 0x1000
  if o < 0x40 then b.header pg o
  else if pg = pgCapt ∧ 0x100 ≤ o then b.capWord o
  else if pg = pgSem ∧ 0x100 ≤ o ∧ o < 0x200 then b.sem ((o - 0x100) / 4)
  else match readers.find? fun r => r.1 = canonAddr a with
    | some r => r.2 b path a
    | none => if (regInfo a).isSome then b.reg a else 0

def QState.code : QState → Nat
  | .unused => 0
  | .active => 1
  | .halted => 2
  | .draining => 3
  | .aborting => 4
  | .lost => 5

/-- A queue record (R87 to R89, R56): all 0 for an UNUSED queue. -/
def Block.queueWord (b : Block) (ctx qidx o : Nat) : Nat :=
  match b.queueOf? ctx qidx with
  | none => 0
  | some q =>
    let x := b.queue q
    if o = 0 then x.doorbell
    else if o = 4 then x.fetched
    else if o = 8 then x.completed
    else if o = 0xC then x.errCode * 2 ^ 24 + ofBit (b.saved ctx) * 2 ^ 9 + ofBit x.svc * 2 ^ 8 + x.cls * 2 ^ 4 + x.st.code
    else if o = 0x10 then lo32 x.dbCount
    else if o = 0x14 then hi32 x.dbCount
    else if o = 0x18 then x.dbRej
    else if o = 0x1C then b.inflight q
    else if o = 0x20 then 2 ^ 31 + q
    else 0

/-- The metadata word of a slot (R266). -/
def Block.slotMeta (b : Block) (s : Nat) : Nat :=
  let x := b.slot s
  let o := if x.alloc then x.owner.getD (0, 0) else (0, 0)
  ofBit x.alloc * 2 ^ 63 + ofBit x.snuffed * 2 ^ 62 + ofBit x.sat * 2 ^ 61 + ofBit x.exported * 2 ^ 60 + ofBit x.window * 2 ^ 59
    + x.gen % 2 ^ 15 * 2 ^ 44 + min (b.waiters.filter (·.slot = s)).length 255 * 2 ^ 36 + min (b.importsOf s) 255 * 2 ^ 28
    + o.1 * 2 ^ 16 + (if o.1 = 0 then 0 else o.2)

/-- A word of a wick window page (R264 to R266). -/
def Block.windowWord (b : Block) (a : Nat) : Nat :=
  let o := a % 0x1000
  let s := (a / 0x1000 - 0x400) * 128 + o % 0x400 / 8
  let half (n : Nat) : Nat := if o % 8 = 0 then lo32 n else hi32 n
  if o = Reg.PG_ID then 0x00110001
  else if o = Reg.PG_CAP then 0xC00
  else if o < 0x40 then b.header pgWk o
  else if 0x400 ≤ o ∧ o < 0x800 then (if bit (b.reg Reg.WK_CTL) 0 then half (b.slotMeta s) else 0)
  else if 0x800 ≤ o ∧ o < 0xC00 then (if (b.slot s).window then half (b.slot s).value else 0)
  else 0

/-- The parts of the window. -/
def isWindow (a : Nat) : Bool := decide (0x400000 ≤ a) && decide (a < 0x800000)
def isDoor (a : Nat) : Bool := decide (0x1000000 ≤ a) && decide (a < 0x2000000)

/-- The 32-bit word at window offset `a`; a reserved range reads 0 (R498). -/
def Block.word (b : Block) (path a : Nat) : Nat :=
  if isUnitPage (a / 0x1000) then b.unitWord path a
  else if isWindow a then b.windowWord a
  else if isDoor a then b.queueWord (a / 0x1000 % 0x1000) (a % 0x1000 / 0x100) (a % 0x100)
  else 0

/-- What the sideband reads while the core rail is off or the core is held (R513). -/
def Block.heldWord (b : Block) (a : Nat) : Nat :=
  let o := a % 0x1000
  if !isUnitPage (a / 0x1000) then 0
  else if o = Reg.PG_ID ∨ o = Reg.PG_STS ∨ (Reg.PG_AON0 ≤ o ∧ o ≤ Reg.PG_AON5) ∨ a / 0x1000 = pgCn
    ∨ [Reg.RC_PWR, Reg.RC_EVENT_NO, Reg.RC_L_COUNT1, Reg.SM_SEL, Reg.SM_WEAR, Reg.SM_SPARE_LEFT].contains a
  then b.unitWord 3 a
  else 0

/-! ### Reads that change state -/

/-- The RC bits of a word cleared (R15): counts that the units keep, and stored ones. -/
def Block.clearRc (b : Block) (path a : Nat) : Block :=
  if a = Reg.EV_STS then { b with hiu := if path = 1 then { b.hiu with lostA := 0 } else { b.hiu with lostB := 0 } }
  else if a = Reg.RTQ_MISS then (match b.rtqSel with
    | some q => b.setQueue q { b.queue q with misses := 0 }
    | none => b)
  else if a = Reg.H_STEP_PACED then b.setHarness (b.field Reg.H_SEL 5 0) { b.hSel with pacedCycles := b.hSel.pacedCycles % Config.cyclesUs }
  else if a = Reg.OB_QOCC_PEAK then { b with occ := { b.occ with peak := modAt (fun _ => 0) b.occSel b.occ.peak } }
  else if a = Reg.TB_LOST then b.setTbuf b.tbSel { b.tbuf b.tbSel with lost := 0 }
  else match regInfo a with
    | some r => if r.rc = 0 then b else b.setReg a (b.reg a - (b.reg a &&& r.rc))
    | none => b

/-- The semaphore that a word is a lock of (R471, R503). -/
def semWord (a : Nat) : Option Nat :=
  if !isUnitPage (a / 0x1000) then none
  else if a % 0x1000 = Reg.PG_SEM then some (pageSem (a / 0x1000))
  else if 0x1100 ≤ a ∧ a < 0x1200 then some ((a - 0x1100) / 4)
  else none

/-- What a read of the word at `a` does beside returning it (R15, R448, R470, R513): RC fields clear and locks are granted on Port A
and Port B while no stop holds the block; the sideband does not reach doorbell and wick window pages. -/
def Block.readEffect (b : Block) (path a : Nat) : Block :=
  if path = 3 then
    if isWindow a then b.readErr pgWk path (a % 0x1000) 0x11 0
    else if isDoor a then b.readErr pgQfe path (a % 0x1000) 0 (a / 0x1000 % 0x1000)
    else b
  else if b.stop.stopped then b
  else match semWord a with
    | some k => (b.takeSem path k).2
    | none =>
      if isDoor a then
        (match b.queueOf? (a / 0x1000 % 0x1000) (a % 0x1000 / 0x100) with
        | some q => if a % 0x100 = 0x18 then b.setQueue q { b.queue q with dbRej := 0 } else b
        | none => b)
      else if isUnitPage (a / 0x1000) then b.clearRc path a
      else b

/-- What a path reads at `a`: nothing through the sideband where it does not reach. -/
def Block.seenWord (b : Block) (path a : Nat) : Nat := if path = 3 ∧ (isWindow a ∨ isDoor a) then 0 else b.word path a

/-- A read of 32 bits. -/
def Block.read32 (b : Block) (path a : Nat) : Nat × Block := (b.seenWord path a, b.readEffect path a)

/-- A read of 64 bits (R9, R16): both words of one edge, then the effects of each. -/
def Block.read64 (b : Block) (path a : Nat) : Nat × Block :=
  (b.seenWord path a + 2 ^ 32 * b.seenWord path (a + 4),
   if path = 3 then b.readEffect path a else (b.readEffect path a).readEffect path (a + 4))

end Sys2Proof.Machine
end

