-- ==== Sys2Proof/Machine/RegWrite.lean ====
section
/-!
DEFINITION. What a write of each register does (the register tables of every chapter): the registers with an effect of their own,
under the functions that their named rows call, and the access codes of R15 for every other one.
-/
namespace Sys2Proof.Machine

/-- What a write does, from the block, the writing path, the offset in the window and the value. -/
abbrev Writer := Block → Nat → Nat → Nat → Block

/-- A write under the access codes of a row (R12, R15): RW bits take the value, W1C bits clear where it has a 1. -/
def Block.codeWrite (b : Block) (r : RegInfo) (a v : Nat) : Block :=
  let old := b.reg a
  b.setReg a ((old - (old &&& (r.rw ||| r.w1c))) ||| (v &&& r.rw) ||| ((old &&& r.w1c) - (old &&& r.w1c &&& v)))

/-- A write of the word at `a` with no effect of its own; one that no table lists is an access error (R501). -/
def plainWrite : Writer := fun b path a v => match regInfo a with
  | some r => b.codeWrite r a v
  | none => b.pageErr path a

/-- A write that is taken only where `p` holds, else ignored (R13). -/
def ifTaken (p : Nat → Bool) (w : Writer) : Writer := fun b path a v => if p v then w b path a v else b

/-- A write that is an access error where `p` does not hold of the block. -/
def whileTaken (p : Block → Nat → Bool) (w : Writer) : Writer := fun b path a v => if p b a then w b path a v else b.pageErr path a

/-- A staged write (R473). -/
def stageWrite (m : Nat) : Writer := fun b path a v => b.stage path a (v &&& m)

/-- A selector whose write discards what has been staged for the registers of `l`. -/
def selWrite (l : List Nat) : Writer := fun b path a v => plainWrite (b.unstage l.contains) path a v

/-! ### The common header -/

/-- The bits of EVT_INJ that R511 lists for a page, and those that it does not. -/
def listedEvts (pg v : Nat) : List Nat := (List.range 32).filter fun n => bit v n && decide (8 ≤ n) && bit (pageInfo pg).evts n
def unlistedEvts (pg v : Nat) : Bool := (List.range 32).any fun n => bit v n && decide (8 ≤ n) && !bit (pageInfo pg).evts n

/-- A write of PG_ERR_INJ (R512). -/
def Block.inject (b : Block) (path a v : Nat) : Block :=
  let pg := a / 0x1000
  if b.st = .off ∨ b.st = .load ∨ b.st = .power then b.pageErr path a
  else
    let b := if bit v 0 then b.raiseBit pg 0 0 (path * 2 ^ 12 + a % 0x1000) (pageType pg) true path (a % 0x1000) else b
    let b := if unlistedEvts pg v then b.pageErr path a else b
    let b := (listedEvts pg v).foldl (fun b n => b.raiseBit pg n 0 0 0 true 0 0) b
    if (pageInfo pg).ecc then b.setArms pg (b.arms pg ||| ofBit (bit v 1) * 2 ||| ofBit (bit v 2)) else b

/-- PG_CTL: a VECTOR beyond the message table is refused (R507). -/
def vectorWrite : Writer := fun b path a v => if b.straps.msixSize ≤ v % 2 ^ 11 then b.pageErr path a else plainWrite b path a v

/-- PG_ERR_EN: enabling a bit already set signals it (R507). -/
def enWrite : Writer := fun b path a v =>
  let pg := a / 0x1000
  let new := v &&& errMask pg &&& b.reg (pg * 0x1000 + Reg.PG_ERR)
  let old := b.reg a
  let b := plainWrite b path a v
  if new - (new &&& old) ≠ 0 then b.msix pg else b

/-- PG_ERR_FIRST: VALID written with 1 clears the whole register (R503). -/
def firstWrite : Writer := fun b _ a v => if bit v 31 then b.setReg a 0 else b

/-- A lock: a write by its owner releases it (R15). -/
def lockWrite (k : Nat) : Writer := fun b path _ _ => if b.sem k = path then b.freeSem k else b

/-! ### Units -/

/-- GLB_CTL: GO_READY, then GO_RUN (R479, R481). -/
def glbCtlWrite : Writer := fun b path _ v =>
  let b := if bit v 0 then b.goReady path else b
  if bit v 1 then b.goRun path else b

/-- GLB_ROLE: only in LOAD (R27). -/
def roleWrite : Writer := fun b path a v =>
  if b.st = .load then { plainWrite b path a v with roleSet := true } else b.pageErr path a

/-- MC_CTL: CLR_SIG, HANDOVER, VERIFY (R496). -/
def mcCtlWrite : Writer := fun b path _ v =>
  let b := if bit v 2 then b.clearSig else b
  let b := if bit v 1 then b.handover else b
  if bit v 0 then b.verify path else b

/-- RTQ_SPAN of the RT queue selected (R166). -/
def spanWrite : Writer := fun b _ _ v => match b.rtqSel with
  | some q => b.setQueue q { b.queue q with span := v }
  | none => b

/-- RT_RESERVE: at most the engines free or in RT harnesses (R174). -/
def reserveWrite (cores : Bool) : Writer := fun b path a v =>
  if (b.spareEngs cores).length + b.rtHeld cores < v % 2 ^ 9 then b.pageErr path a else plainWrite b path a v

/-- OFF or LOAD (R188), LOAD (R353, R483). -/
def unlitState (b : Block) : Bool := decide (b.st = .off) || decide (b.st = .load)
def inLoad (b : Block) (_ : Nat) : Bool := decide (b.st = .load)

/-- LIGHT_CTL and WAKE_CTL: GROUP 1 to 64, INTERVAL_NS at least 100. -/
def groupWrite : Writer := fun b _ a v =>
  let b := if 1 ≤ bits v 31 16 ∧ bits v 31 16 ≤ 64 then b.setField a 31 16 (bits v 31 16) else b
  if 100 ≤ bits v 15 0 then b.setField a 15 0 (bits v 15 0) else b

/-- CAD_NOMINAL: it is CAD_PERIOD until a source has been measured (R156, R160). -/
def nominalWrite : Writer := fun b _ a v =>
  if lockable v then
    let b := b.setReg a v
    if b.cad.measured then b else b.setPeriod v
  else b

/-- WK_INCARNATION (R240): once, in LOAD. -/
def incarnationWrite : Writer := fun b path a v =>
  if b.st = .load ∧ b.reg a = 0 ∧ v ≠ 0 then b.setReg a v else b.pageErr path a

/-- WK_IMP_CMD (R256, R257): its OP. -/
def impWrite : Writer := fun b path _ v => b.impOp path fun b => match v % 4 with
  | 0 => b.doImport (bits v 7 5)
  | 1 => b.doRelease
  | 2 => b.setWindow true
  | _ => b.setWindow false

/-- ZT_CTL (R270, R300): TPOOL, then BOOTMAP, which no write sets from 0. -/
def ztCtlWrite : Writer := fun b path a v =>
  let b := if bits v 11 8 < b.straps.nStacks then b.setField a 11 8 (bits v 11 8) else b
  if bit v 0 = b.bootmap then b
  else if bit v 0 then b.pageErr path a
  else b.clearBootmap path

/-- ZT_CTX_MODE: only of a FREE context (R268). -/
def modeWrite : Writer := fun b path a v =>
  let c := b.field Reg.ZT_CTX_SEL 11 0
  if (b.ctx c).st = .free then b.setCtx c { b.ctx c with ats := bit v 0 } else b.pageErr path a

/-- RC_ORDER (R404). -/
def orderWrite : Writer := fun b path a v =>
  let level := bits v 22 20
  let target := match level with
    | 0 => bits v 11 0
    | 1 => bits v 12 0
    | 2 => bits v 5 0
    | _ => 0
  if 5 ≤ level then b.pageErr path a
  else if 3 ≤ level ∧ bits v 31 24 ≠ Config.confirmKey then b.pageErr path a
  else b.order_ path level target

/-- RC_UNDRAINED: VALID written with 1 clears COUNT too (R429). -/
def undrainedWrite : Writer := fun b _ a v => if bit v 31 then b.setReg a (b.reg a % 2 ^ 13) else b

/-- RC_STALL_CMD (R399). -/
def stallWrite : Writer := fun b _ _ v => match v % 4 with
  | 1 => b.stallOpResume
  | 2 => b.stallOpEnd
  | _ => b

/-- HANG_WD: any value but the pet is an access error (R402). -/
def petWrite : Writer := fun b path a v => if v % 2 ^ 16 = Config.petWord then { b with wdCycles := 0 } else b.pageErr path a

/-- HANG_WD_CTL: the period starts with the write (R402). -/
def wdCtlWrite : Writer := fun b path a v => { plainWrite b path a v with wdCycles := 0 }

/-- RC_JOB_CTL (R410). -/
def jobCtlWrite : Writer := fun b path _ v => if bit v 31 then b.jobCommit path v else b.jobEnd

/-- SM_SEL: an instance that exists (R430); no error is recorded while the core is held (R513). -/
def smSelWrite : Writer := fun b path a v =>
  if b.instOk (bits v 31 28) (bits v 19 0) then plainWrite b path a v
  else if b.pins.coreHeld then b else b.pageErr path a

/-- A retirement written back in LOAD (R427): a spare serves; the active role passes to the first spare core, and the layout is
computed anew without a channel (R306). -/
def Block.retireWritten (b : Block) (kind inst : Nat) : Block :=
  let st := (b.wearOf kind inst).st
  if st = 2 then b
  else if st = 3 then b.retireInst kind inst
  else if kind = 0 then
    let next := (b.sparesOf 0 inst).head?
    let b := b.retireInst 0 inst
    if inst ≠ b.mc.active then b
    else match next with
      | some c => (b.enterSpare 0 c).mcMod fun m => { m with active := c }
      | none => b
  else if kind = 8 then
    let s := inst / 16
    let b := b.retireInst 8 inst
    let b : Block := { b with chanOk := modAt (fun m => m &&& (65535 - 2 ^ (inst % 16))) s b.chanOk }
    (b.setField Reg.CAPACITY_SHRINK s s 1).computeLayout
  else b.retireNow kind inst

/-- SM_WEAR: only in LOAD (R427). -/
def wearWrite : Writer := fun b _ _ v =>
  if b.st = .load then
    let b := b.setWear b.smKind b.smInst { b.smSel with ue := bits v 23 16, ce := bits v 15 0 }
    if bits v 31 30 = 2 then b.retireWritten b.smKind b.smInst else b
  else b

/-- TB_CTL: a buffer that stops is drained (R440). -/
def traceCtlWrite : Writer := fun b path _ v =>
  let k := b.tbSel
  let was := (b.tbuf k).en
  let b := b.tbCtlWrite path v
  if was ∧ !(b.tbuf k).en then b.traceDma k (b.tbuf k).recs.length else b

/-- TB_BASE: staged while the buffer is off and empty (R440). -/
def traceBaseWrite : Writer := fun b path a v =>
  if (b.tbuf b.tbSel).en ∨ !(b.tbuf b.tbSel).recs.isEmpty then b else b.stage path a (if a = Reg.TB_BASE_LO then alignDown v 4096 else v)

/-- OB_STOP_CTL (R447, R451): RELEASE acts on a stop, GO on a running block. -/
def stopCtlWrite : Writer := fun b path a v =>
  let b := plainWrite b path a v
  if b.stop.stopped then (if bit v 1 then b.release else b)
  else if bit v 0 then b.requestStop 1 else b

/-- OB_DBG_CTL (R453, R464). -/
def dbgWrite : Writer := fun b _ _ v =>
  let c := b.field Reg.OB_DBG_SEL 11 0
  if bit v 0 ∧ (b.ctx c).st ≠ .opn then b else b.setCtx c { b.ctx c with debug := bit v 0 }

/-- OB_BP_CTL (R454, R456, R464): EN, then RESUME and STEP. -/
def bpCtlWrite : Writer := fun b path _ v =>
  let k := b.bpSel
  let p := b.bp k
  let b := if bit v 0 then b.bpCommit path v
    else b.setBp k { p with ctx := bits v 31 20, en := false, hit := p.hit && !bit v 7, stop := bit v 1 }
  let b := if bit v 3 then b.bpResume else b
  if bit v 4 then b.bpStep else b

/-- FP_DEST_SEL: in any state but OFF (R517). -/
def notOff (b : Block) (_ : Nat) : Bool := decide (b.st ≠ .off)

/-- PT_ALLOW: only in OFF and ISOLATED (R395). -/
def allowTaken (b : Block) (a : Nat) : Bool :=
  decide ((b.port (portOf a)).st = .off) || decide ((b.port (portOf a)).st = .isolated)

/-- HB_CTL (R395). -/
def hbOk (v : Nat) : Bool := decide (bits v 15 0 ≠ 0) && decide (3 * bits v 15 0 ≤ bits v 31 16)

/-- RL_CFG of the class selected (R395); a bucket holds no more than its new BURST. -/
def rateWrite : Writer := fun b _ a v =>
  let p := portOf a
  let c := b.field (prt p Reg.RL_SEL) 2 0
  if c = 6 then b
  else b.modPort p fun r =>
    let burst := if bits v 15 0 = 0 then (r.rl.getD c (0, 0)).2 else bits v 15 0
    { r with
      rl := modAt (fun _ => (bits v 31 16, burst)) c r.rl
      tokens := modAt (fun t => min t (burst * Config.cyclesMs)) c r.tokens }

/-! ### The tables -/

def writesStart : List (Nat × Writer) := [
  (Reg.GLB_CTL, glbCtlWrite), (Reg.GLB_ROLE, roleWrite),
  (Reg.KQ0_BASE_LO, whileTaken inLoad plainWrite), (Reg.KQ0_BASE_HI, whileTaken inLoad plainWrite),
  (Reg.KQ0_CFG, whileTaken inLoad plainWrite), (Reg.KQ0_STALL, whileTaken inLoad plainWrite),
  (Reg.SEM_BREAK, fun b path _ v => b.breakSem path (bits v 15 8) (bits v 5 0)),
  (Reg.EV_CTL, fun b path _ v => if bit v 0 then b.popFifo path else b),
  (Reg.MC_SEL, ifTaken (fun v => decide (v % 4 ≠ 3)) plainWrite), (Reg.MC_DATA_LO, stageWrite (2 ^ 32 - 1)),
  (Reg.MC_DATA_HI, fun b path _ v => b.storeWord path v), (Reg.MC_SIG_DATA, fun b path _ v => b.appendSig path v),
  (Reg.MC_CTL, mcCtlWrite)]

def writesSched : List (Nat × Writer) := [
  (Reg.RTQ_SPAN, spanWrite), (Reg.RT_RESERVE_CORES, reserveWrite true), (Reg.RT_RESERVE_UNITS, reserveWrite false),
  (Reg.LIGHT_CTL, whileTaken (fun b _ => unlitState b) groupWrite),
  (Reg.WAKE_CTL, whileTaken (fun b _ => unlitState b) groupWrite),
  (Reg.CAD_CTL, ifTaken (fun v => decide (v % 4 ≠ 3)) plainWrite), (Reg.CAD_NOMINAL, nominalWrite),
  (Reg.DT_SEL, selWrite [Reg.DT_BASE_LO, Reg.DT_BASE_HI]),
  (Reg.DT_BASE_LO, stageWrite 0xFFFFFFC0), (Reg.DT_BASE_HI, stageWrite (2 ^ 32 - 1)),
  (Reg.DT_COUNT, fun b path _ v => b.dtCommit path v),
  (Reg.WK_INCARNATION, incarnationWrite), (Reg.WK_IMP_CMD, impWrite),
  (Reg.WK_BND_SEL, selWrite [Reg.WK_BND_PAIR, Reg.WK_BND_CTX, Reg.WK_BND_LIMIT_LO, Reg.WK_BND_LIMIT_HI]),
  (Reg.WK_BND_PAIR, stageWrite (2 ^ 32 - 1)), (Reg.WK_BND_CTX, stageWrite 0xFFF),
  (Reg.WK_BND_LIMIT_LO, stageWrite (2 ^ 32 - 1)), (Reg.WK_BND_LIMIT_HI, stageWrite (2 ^ 32 - 1)),
  (Reg.WK_BND_CTL, fun b path _ v => if bit v 0 then b.bndCommit path v else b.bndDisable v)]

def writesZtu : List (Nat × Writer) := [
  (Reg.ZT_CTL, ztCtlWrite), (Reg.ZT_CTX_MODE, modeWrite),
  (Reg.ZT_BOOT_SEL, whileTaken (fun b _ => b.bootWrites) (selWrite [Reg.ZT_BOOT_ENT1])),
  (Reg.ZT_BOOT_ENT0, fun b path _ v => b.bootCommit path v),
  (Reg.ZT_BOOT_ENT1, whileTaken (fun b _ => b.bootWrites) (stageWrite (2 ^ 32 - 1))),
  (Reg.ZT_FCR_BASE_LO, stageWrite 0xFFFFF000), (Reg.ZT_FCR_BASE_HI, stageWrite (2 ^ 32 - 1)),
  (Reg.ZT_FCR_SIZE, fun b path _ v => b.fcrSizeWrite path v), (Reg.ZT_FCR_HEAD, fun b path _ v => b.fcrHeadWrite path v),
  (Reg.ZT_POOL_LOW, ifTaken (fun v => decide (v % 2 ^ 13 ≤ 4096)) plainWrite),
  (Reg.ZT_INV_CTL, fun b path _ v => if bit v 0 then b.regInvalidate path else b),
  (Reg.LG_H_COMMIT, fun b path _ v => b.commitWrite path v),
  (Reg.CC_SNP_TIMEOUT, ifTaken (fun v => decide (v % 2 ^ 16 ≠ 0) && decide (v % 2 ^ 16 ≤ 1000)) plainWrite),
  (Reg.CC_SCR_BASE_LO, whileTaken inLoad plainWrite), (Reg.CC_SCR_BASE_HI, whileTaken inLoad plainWrite),
  (Reg.CC_SCR_LEN, whileTaken inLoad plainWrite), (Reg.CC_JRNL_BASE_LO, whileTaken inLoad plainWrite),
  (Reg.CC_JRNL_BASE_HI, whileTaken inLoad plainWrite), (Reg.CC_JRNL_LEN, whileTaken inLoad plainWrite)]

def writesRecovery : List (Nat × Writer) := [
  (Reg.RC_ORDER, orderWrite), (Reg.RC_DRAIN_LIMIT, ifTaken (fun v => decide (v % 2 ^ 16 ≠ 0)) plainWrite),
  (Reg.RC_UNDRAINED, undrainedWrite), (Reg.RC_STALL_CMD, stallWrite), (Reg.HANG_WD, petWrite), (Reg.HANG_WD_CTL, wdCtlWrite),
  (Reg.RC_JOB_SEL, selWrite [Reg.RC_JOB_ID]), (Reg.RC_JOB_ID, stageWrite (2 ^ 32 - 1)), (Reg.RC_JOB_CTL, jobCtlWrite),
  (Reg.RC_PWR, fun b _ _ v => if bit v 0 then b.modPwr fun p => { p with rdout := true } else b),
  (Reg.SM_WINDOW, ifTaken (fun v => decide (v % 2 ^ 16 ≠ 0)) plainWrite), (Reg.SM_THRESH, ifTaken (fun v => decide (v % 2 ^ 16 ≠ 0)) plainWrite),
  (Reg.SM_SEL, smSelWrite), (Reg.SM_WEAR, wearWrite), (Reg.SM_RETIRE, fun b _ _ v => if bit v 8 then b.retireGo else b),
  (Reg.FP_DEST_SEL, whileTaken notOff plainWrite), (Reg.FP_DEST, fun b path _ v => b.destWrite path (BitVec.ofNat 32 v))]

def writesObserve : List (Nat × Writer) := [
  (Reg.TB_CTL, traceCtlWrite), (Reg.TB_BASE_LO, traceBaseWrite), (Reg.TB_BASE_HI, traceBaseWrite),
  (Reg.TB_SIZE, fun b path _ v => b.tbSizeSet path v), (Reg.TB_HEAD, fun b path _ v => b.tbHeadSet path v),
  (Reg.OB_STOP_CTL, stopCtlWrite), (Reg.OB_DBG_CTL, dbgWrite),
  (Reg.OB_BP_SEL, selWrite [Reg.OB_BP_LIST, Reg.OB_BP_AT]), (Reg.OB_BP_LIST, stageWrite (2 ^ 32 - 1)),
  (Reg.OB_BP_AT, stageWrite (2 ^ 32 - 1)), (Reg.OB_BP_CTL, bpCtlWrite),
  (Reg.CN_CTL, fun b _ _ v => b.cnCtlWrite v),
  (Reg.PT_CTL, fun b path a v => b.ptCtlWrite path (portOf a) v),
  (Reg.PT_ALLOW0, whileTaken allowTaken plainWrite), (Reg.PT_ALLOW1, whileTaken allowTaken plainWrite),
  (Reg.PT_ALLOW2, whileTaken allowTaken plainWrite), (Reg.PT_ALLOW3, whileTaken allowTaken plainWrite),
  (Reg.HB_CTL, ifTaken hbOk plainWrite), (Reg.RL_CFG, rateWrite),
  (Reg.MG_TX_CTL, fun b path a v => if bit v 0 then b.mgGo path (portOf a) else b),
  (Reg.MG_RX_CTL, fun b _ a v => if bit v 0 then b.mgConsume (portOf a) else b)]

/-- Registers whose write has an effect of its own. -/
def writers : List (Nat × Writer) := writesStart ++ writesSched ++ writesZtu ++ writesRecovery ++ writesObserve

/-! ### The window -/

/-- A header register. -/
def headerWrite : Writer := fun b path a v =>
  let o := a % 0x1000
  if o = Reg.PG_CTL then vectorWrite b path a v
  else if o = Reg.PG_ERR_EN then enWrite b path a v
  else if o = Reg.PG_ERR_FIRST then firstWrite b path a v
  else if o = Reg.PG_ERR_INJ then b.inject path a v
  else if o = Reg.PG_SEM then lockWrite (pageSem (a / 0x1000)) b path a v
  else plainWrite b path a v

/-- A register of a unit page, once the write is taken. -/
def unitWrite : Writer := fun b path a v =>
  let pg := a / 0x1000
  let o := a % 0x1000
  if o < 0x100 then headerWrite b path a v
  else if pg = pgCapt then b
  else if pg = pgSem ∧ o < 0x200 then lockWrite ((o - 0x100) / 4) b path a v
  else match writers.find? fun w => w.1 = canonAddr a with
    | some w => w.2 b path a v
    | none => plainWrite b path a v

/-- A 32-bit write of a register of a unit page, under the rules of its path (R166, R450, R513). -/
def Block.write32 (b : Block) (path a v : Nat) : Block := b.regWrite path a fun b => unitWrite b path a v

/-- A write outside the unit pages, while the path is up and the core is not held: ignored and counted during a stop (R450), an
access error from the sideband (R513). -/
def Block.outsideWrite (b : Block) (path : Nat) (err f : Block → Block) : Block :=
  if !b.pathUp path ∨ b.pins.coreHeld then b
  else if b.stop.stopped then b.stopDrop
  else if path = 3 then err b
  else f b

/-- A write of the wick window (R265): VALUE halves take 64 bits only. -/
def Block.windowAccess (b : Block) (path a : Nat) (wide : Bool) (v : Nat) : Block :=
  let o := a % 0x1000
  let err (b : Block) : Block := b.accessErr pgWk path o 0x11
  b.outsideWrite path err fun b =>
    if 0x800 ≤ o ∧ o < 0xC00 then
      if wide then b.windowWrite ((a / 0x1000 - 0x400) * 128 + (o - 0x800) / 8) v else err b
    else b

/-- A write of a doorbell page (R87, R519): only DOORBELL takes one, and from READY on (R478). -/
def Block.doorAccess (b : Block) (path a v : Nat) : Block :=
  b.outsideWrite path (fun b => b.accessErr pgQfe path (a % 0x1000) 0 (a / 0x1000 % 0x1000)) fun b =>
    if a % 0x100 ≠ 0 ∨ b.st = .off ∨ b.st = .load ∨ b.st = .power then b
    else b.doorbell (a / 0x1000 % 0x1000) (a % 0x1000 / 0x100) (v % 2 ^ 32)

/-- A write of a reserved range (R498). -/
def Block.reservedWrite (b : Block) (path a : Nat) : Block :=
  let err (b : Block) : Block := b.accessErr pgHiu path (a % 0x1000) 0
  b.outsideWrite path err err

/-- The page that an access error at window offset `a` is recorded in (R500), with the type code and the context of its record. -/
def errorPage (a : Nat) : Nat × Nat × Nat :=
  if isUnitPage (a / 0x1000) then (a / 0x1000, pageType (a / 0x1000), 0)
  else if isWindow a then (pgWk, 0x11, 0)
  else if isDoor a then (pgQfe, 0, a / 0x1000 % 0x1000)
  else (pgHiu, 0, 0)

/-- An access of another size or alignment (R10): nothing is recorded while the core is held, and a write that a stop ignores is
only counted (R450). -/
def Block.misaligned (b : Block) (path a : Nat) (write : Bool) : Block :=
  if !b.pathUp path ∨ b.pins.coreHeld then b
  else if b.stop.stopped ∧ write ∧ !stopTakes (a / 4 * 4) then b.stopDrop
  else b.readErr (errorPage a).1 path (a % 0x1000) (errorPage a).2.1 (errorPage a).2.2

/-- An aligned write of 32 bits, or of 64 bits over two registers, the lower one first (R9). -/
def Block.writeAt (b : Block) (path a : Nat) (wide : Bool) (v : Nat) : Block :=
  if isUnitPage (a / 0x1000) then
    let b := b.write32 path a (v % 2 ^ 32)
    if wide then b.write32 path (a + 4) (v / 2 ^ 32 % 2 ^ 32) else b
  else if isWindow a then b.windowAccess path a wide v
  else if isDoor a then b.doorAccess path a v
  else b.reservedWrite path a

end Sys2Proof.Machine
end

