-- ==== Sys2Proof/Machine/RegRows.lean ====
section
/-!
DEFINITION. The rows of plain register accesses (R9 to R16): writes, reads that clear, accesses of another size, the cadence pair
(R159), the scan-out pair (R452) and the injections of PG_ERR_INJ (R512).
-/
namespace Sys2Proof.Machine

/-- Whether an access of 32 or 64 bits is naturally aligned (R9). -/
def aligned (a : Nat) (wide : Bool) : Bool := decide (a % (if wide then 8 else 4) = 0)

/-- A 64-bit write that a stop drops counts once (R450). -/
def Block.wideDrop (b : Block) (path a : Nat) : Bool :=
  b.pathUp path && !b.pins.coreHeld && b.stop.stopped && !stopTakes a && !stopTakes (a + 4)

/-- REGISTER_WRITE (R9, R12, R13, R15, R498, R501). -/
def execRegisterWrite (path addr : Nat) (wide : Bool) (v : BitVec 64) (s : State) : Host.Outcome State Fault Refusal :=
  s.aon fun b =>
    if !aligned addr wide then b.misaligned path addr true
    else if wide ∧ b.wideDrop path addr then b.stopDrop
    else b.writeAt path addr wide v.toNat

/-- MISALIGNED_ACCESS (R10): a read of `size` bytes returns all ones. -/
def execMisalignedAccess (path addr size : Nat) (write : Bool) (s : State) : Host.Outcome State Fault Refusal :=
  s.aon fun b =>
    let b := b.misaligned path addr write
    if write then b else b.answer (2 ^ (8 * size) - 1)

/-- RC_FIELD_READ (R15, R16): the value of the word or words, and then the clear. -/
def execRcFieldRead (path addr : Nat) (wide : Bool) (s : State) : Host.Outcome State Fault Refusal :=
  s.aon fun b =>
    let w := if wide then 64 else 32
    if !aligned addr wide then (b.misaligned path addr false).answer (2 ^ w - 1)
    else b.readBy path w (fun b => b.answer (b.heldWord addr + if wide then 2 ^ 32 * b.heldWord (addr + 4) else 0)) fun b =>
      let r := if wide then b.read64 path addr else b.read32 path addr
      r.2.answer r.1

/-- CAD_NOW_READ (R159): the latch belongs to the reading path. -/
def execCadNowRead (path : Nat) (r : NowRead) (s : State) : Host.Outcome State Fault Refusal :=
  s.aon fun b =>
    let w := match r with
      | .lo64 => 64
      | _ => 32
    b.readBy path w (·.answer 0) fun b =>
      let n := b.cadence
      match r with
      | .lo64 => b.answer n
      | .lo32 => { b with nowLatch := Tab.set (fun _ => 0) b.nowLatch path (BitVec.ofNat 32 (hi32 n)) }.answer (lo32 n)
      | .hi32 => b.answer (Tab.get (fun _ => (0 : W32)) b.nowLatch path).toNat

/-- OB_SCAN_DATA_READ (R452): a 64-bit read, or one of the upper half, advances OB_SCAN_ADDR. -/
def execObScanDataRead (path : Nat) (r : NowRead) (s : State) : Host.Outcome State Fault Refusal :=
  s.aon fun b =>
    let w := match r with
      | .lo64 => 64
      | _ => 32
    b.readBy path w (·.answer 0) fun b =>
      let n := b.scanWord
      let next := b.setReg Reg.OB_SCAN_ADDR (b.reg Reg.OB_SCAN_ADDR + 1)
      match r with
      | .lo32 => b.answer (lo32 n)
      | .hi32 => next.answer (hi32 n)
      | .lo64 => next.answer n

/-- A write of PG_ERR_INJ of a unit page (R512). -/
def State.injectRow (s : State) (path page v : Nat) : Host.Outcome State Fault Refusal :=
  s.aon fun b => if isUnitPage page then b.write32 path (page * 0x1000 + Reg.PG_ERR_INJ) v else b

/-- EVT_INJ (R512). -/
def execEvtInj (path page : Nat) (evts : BitVec 24) (s : State) : Host.Outcome State Fault Refusal :=
  s.injectRow path page (evts.toNat * 2 ^ 8)

/-- ACC_INJ (R512). -/
def execAccInj (path page : Nat) (s : State) : Host.Outcome State Fault Refusal := s.injectRow path page 1

/-- UE_ARM (R512). -/
def execUeArm (path page : Nat) (s : State) : Host.Outcome State Fault Refusal := s.injectRow path page 2

/-- CE_ARM (R512). -/
def execCeArm (path page : Nat) (s : State) : Host.Outcome State Fault Refusal := s.injectRow path page 4

end Sys2Proof.Machine
end

