-- ==== Sys2Proof/Machine/Dispatch.lean ====
section
/-!
DEFINITION. One arm for each row of the table (R-numbers stand at the meanings).
-/
namespace Sys2Proof.Machine

def exec (i : Instr) (s : State) : Host.Outcome State Fault Refusal :=
  match i with
  | .powerOn => Sys2Proof.Machine.execPowerOn s
  | .aonResetRelease chipId => Sys2Proof.Machine.execAonResetRelease chipId s
  | .initialisationEnd failed => Sys2Proof.Machine.execInitialisationEnd failed s
  | .goReady path => Sys2Proof.Machine.execGoReady path s
  | .goRun path => Sys2Proof.Machine.execGoRun path s
  | .doorbellWrite path ctx qidx v => Sys2Proof.Machine.execDoorbellWrite path ctx qidx v s
  | .ringReadCompletion q => Sys2Proof.Machine.execRingReadCompletion q s
  | .indirectRecordRead q idx => Sys2Proof.Machine.execIndirectRecordRead q idx s
  | .lamplighterDecision => Sys2Proof.Machine.execLamplighterDecision s
  | .occupancyWindowEnd => Sys2Proof.Machine.execOccupancyWindowEnd s
  | .nop q idx => Sys2Proof.Machine.execNop q idx s
  | .launch q idx => Sys2Proof.Machine.execLaunch q idx s
  | .launchInd q idx => Sys2Proof.Machine.execLaunchInd q idx s
  | .launchPersist q idx => Sys2Proof.Machine.execLaunchPersist q idx s
  | .stopPersist q idx => Sys2Proof.Machine.execStopPersist q idx s
  | .copy q idx => Sys2Proof.Machine.execCopy q idx s
  | .fill q idx => Sys2Proof.Machine.execFill q idx s
  | .atomic q idx => Sys2Proof.Machine.execAtomic q idx s
  | .prefetch q idx => Sys2Proof.Machine.execPrefetch q idx s
  | .advise q idx => Sys2Proof.Machine.execAdvise q idx s
  | .wait q idx => Sys2Proof.Machine.execWait q idx s
  | .signal q idx => Sys2Proof.Machine.execSignal q idx s
  | .signalRemote q idx => Sys2Proof.Machine.execSignalRemote q idx s
  | .timestamp q idx => Sys2Proof.Machine.execTimestamp q idx s
  | .cadenceWait q idx => Sys2Proof.Machine.execCadenceWait q idx s
  | .mark q idx => Sys2Proof.Machine.execMark q idx s
  | .watch q idx => Sys2Proof.Machine.execWatch q idx s
  | .map q idx => Sys2Proof.Machine.execMap q idx s
  | .unmap q idx => Sys2Proof.Machine.execUnmap q idx s
  | .invRange q idx => Sys2Proof.Machine.execInvRange q idx s
  | .queueCreate q idx => Sys2Proof.Machine.execQueueCreate q idx s
  | .queueDestroy q idx => Sys2Proof.Machine.execQueueDestroy q idx s
  | .harnessGrow q idx => Sys2Proof.Machine.execHarnessGrow q idx s
  | .harnessShrink q idx => Sys2Proof.Machine.execHarnessShrink q idx s
  | .listLoad q idx => Sys2Proof.Machine.execListLoad q idx s
  | .listPatch q idx => Sys2Proof.Machine.execListPatch q idx s
  | .listRetire q idx => Sys2Proof.Machine.execListRetire q idx s
  | .wickAlloc q idx => Sys2Proof.Machine.execWickAlloc q idx s
  | .wickFree q idx => Sys2Proof.Machine.execWickFree q idx s
  | .wickExport q idx => Sys2Proof.Machine.execWickExport q idx s
  | .ctxSave q idx => Sys2Proof.Machine.execCtxSave q idx s
  | .ctxRestore q idx => Sys2Proof.Machine.execCtxRestore q idx s
  | .frameSupply q idx => Sys2Proof.Machine.execFrameSupply q idx s
  | .commandCompletion q idx => Sys2Proof.Machine.execCommandCompletion q idx s
  | .contextFreed ctx => Sys2Proof.Machine.execContextFreed ctx s
  | .launchPlacement h => Sys2Proof.Machine.execLaunchPlacement h s
  | .engineSpaceClearDone e => Sys2Proof.Machine.execEngineSpaceClearDone e s
  | .lightingGroupStart => Sys2Proof.Machine.execLightingGroupStart s
  | .wakeGroupStart => Sys2Proof.Machine.execWakeGroupStart s
  | .powerGrant => Sys2Proof.Machine.execPowerGrant s
  | .grantWaitTimeout => Sys2Proof.Machine.execGrantWaitTimeout s
  | .engineClockGate e => Sys2Proof.Machine.execEngineClockGate e s
  | .progressBeat e => Sys2Proof.Machine.execProgressBeat e s
  | .engineInvocationEnd e => Sys2Proof.Machine.execEngineInvocationEnd e s
  | .engineDrained e => Sys2Proof.Machine.execEngineDrained e s
  | .taskItemTake ctx task => Sys2Proof.Machine.execTaskItemTake ctx task s
  | .taskItemCompletion ctx task => Sys2Proof.Machine.execTaskItemCompletion ctx task s
  | .breakpointHit bp w => Sys2Proof.Machine.execBreakpointHit bp w s
  | .wickSignalApply slot setmax v => Sys2Proof.Machine.execWickSignalApply slot setmax v s
  | .stepPacingExpiry h => Sys2Proof.Machine.execStepPacingExpiry h s
  | .ledgerClosing => Sys2Proof.Machine.execLedgerClosing s
  | .ledgerStorageUe => Sys2Proof.Machine.execLedgerStorageUe s
  | .remoteWickSignal token v => Sys2Proof.Machine.execRemoteWickSignal token v s
  | .remoteDoorbellSignal q v => Sys2Proof.Machine.execRemoteDoorbellSignal q v s
  | .windowSignalWrite path slot v => Sys2Proof.Machine.execWindowSignalWrite path slot v s
  | .wickImport path rights => Sys2Proof.Machine.execWickImport path rights s
  | .wickRelease path => Sys2Proof.Machine.execWickRelease path s
  | .windowOn path => Sys2Proof.Machine.execWindowOn path s
  | .windowOff path => Sys2Proof.Machine.execWindowOff path s
  | .boundCommit path v => Sys2Proof.Machine.execBoundCommit path v s
  | .boundDisable path v => Sys2Proof.Machine.execBoundDisable path v s
  | .wickRowUe slot => Sys2Proof.Machine.execWickRowUe slot s
  | .stitchCacheUe ctx list epoch => Sys2Proof.Machine.execStitchCacheUe ctx list epoch s
  | .listVerdict ok bad => Sys2Proof.Machine.execListVerdict ok bad s
  | .cadenceFrameEdge => Sys2Proof.Machine.execCadenceFrameEdge s
  | .cadenceTargetReached q idx => Sys2Proof.Machine.execCadenceTargetReached q idx s
  | .cadInEdge => Sys2Proof.Machine.execCadInEdge s
  | .cadLockLoss => Sys2Proof.Machine.execCadLockLoss s
  | .holdoverEdge => Sys2Proof.Machine.execHoldoverEdge s
  | .relayTimeout => Sys2Proof.Machine.execRelayTimeout s
  | .cadSrcChange => Sys2Proof.Machine.execCadSrcChange s
  | .stallBudgetExpiry w => Sys2Proof.Machine.execStallBudgetExpiry w s
  | .stallAutoResume w => Sys2Proof.Machine.execStallAutoResume w s
  | .stallResume path => Sys2Proof.Machine.execStallResume path s
  | .stallEnd path => Sys2Proof.Machine.execStallEnd path s
  | .drainLimitExpiry e => Sys2Proof.Machine.execDrainLimitExpiry e s
  | .watchdogPet path => Sys2Proof.Machine.execWatchdogPet path s
  | .watchdogLapse => Sys2Proof.Machine.execWatchdogLapse s
  | .l0ContextTeardown path ctx => Sys2Proof.Machine.execL0ContextTeardown path ctx s
  | .l1EngineReset path e => Sys2Proof.Machine.execL1EngineReset path e s
  | .l2HarnessReset path h => Sys2Proof.Machine.execL2HarnessReset path h s
  | .l3ChipReset path => Sys2Proof.Machine.execL3ChipReset path s
  | .l4PowerCycle path => Sys2Proof.Machine.execL4PowerCycle path s
  | .orderDone => Sys2Proof.Machine.execOrderDone s
  | .pwrcycAckAssert => Sys2Proof.Machine.execPwrcycAckAssert s
  | .pwrcycNoackTimeout => Sys2Proof.Machine.execPwrcycNoackTimeout s
  | .rdoutAck path => Sys2Proof.Machine.execRdoutAck path s
  | .readoutHoldExpiry => Sys2Proof.Machine.execReadoutHoldExpiry s
  | .pwrcycReqRelease => Sys2Proof.Machine.execPwrcycReqRelease s
  | .jobMembershipCommit path v => Sys2Proof.Machine.execJobMembershipCommit path v s
  | .jobMembershipEnd path => Sys2Proof.Machine.execJobMembershipEnd path s
  | .errEventPost abort job code => Sys2Proof.Machine.execErrEventPost abort job code s
  | .spareRetireGo path => Sys2Proof.Machine.execSpareRetireGo path s
  | .engineReplacement e => Sys2Proof.Machine.execEngineReplacement e s
  | .correctableError kind inst => Sys2Proof.Machine.execCorrectableError kind inst s
  | .engineUe e => Sys2Proof.Machine.execEngineUe e s
  | .walkerUe k => Sys2Proof.Machine.execWalkerUe k s
  | .channelFailure stack ch => Sys2Proof.Machine.execChannelFailure stack ch s
  | .poisonRead addr => Sys2Proof.Machine.execPoisonRead addr s
  | .poisonRepairDone addr => Sys2Proof.Machine.execPoisonRepairDone addr s
  | .poisonConsumed e addr => Sys2Proof.Machine.execPoisonConsumed e addr s
  | .retryStepDiscard ctx h => Sys2Proof.Machine.execRetryStepDiscard ctx h s
  | .migrationFault a ctx va write => Sys2Proof.Machine.execMigrationFault a ctx va write s
  | .migrationDmaDone ctx page ok => Sys2Proof.Machine.execMigrationDmaDone ctx page ok s
  | .walkDone k => Sys2Proof.Machine.execWalkDone k s
  | .atsCompletion pasid va log2 pa ok rd wr => Sys2Proof.Machine.execAtsCompletion pasid va log2 pa ok rd wr s
  | .priResponse ctx page code => Sys2Proof.Machine.execPriResponse ctx page code s
  | .atsInvalidateRequest tag pasid va len => Sys2Proof.Machine.execAtsInvalidateRequest tag pasid va len s
  | .atsInvalidateCompletion tag => Sys2Proof.Machine.execAtsInvalidateCompletion tag s
  | .registerInvalidation path => Sys2Proof.Machine.execRegisterInvalidation path s
  | .frameRingEntryWrite => Sys2Proof.Machine.execFrameRingEntryWrite s
  | .ztFcrHeadWrite path v => Sys2Proof.Machine.execZtFcrHeadWrite path v s
  | .ztFcrSizeWrite path v => Sys2Proof.Machine.execZtFcrSizeWrite path v s
  | .bootmapClear path => Sys2Proof.Machine.execBootmapClear path s
  | .ztBootEnt0Write path v => Sys2Proof.Machine.execZtBootEnt0Write path v s
  | .dtCountCommit path v => Sys2Proof.Machine.execDtCountCommit path v s
  | .commitWickEnable path v => Sys2Proof.Machine.execCommitWickEnable path v s
  | .snoopTimeout line => Sys2Proof.Machine.execSnoopTimeout line s
  | .coherenceDown cause agent way => Sys2Proof.Machine.execCoherenceDown cause agent way s
  | .rollCallClose silent => Sys2Proof.Machine.execRollCallClose silent s
  | .coherenceRebuildDone => Sys2Proof.Machine.execCoherenceRebuildDone s
  | .rdS agent line => Sys2Proof.Machine.execRdS agent line s
  | .rdM agent line => Sys2Proof.Machine.execRdM agent line s
  | .rdNa agent line => Sys2Proof.Machine.execRdNa agent line s
  | .wrT agent line data mask => Sys2Proof.Machine.execWrT agent line data mask s
  | .wrNc agent line data mask => Sys2Proof.Machine.execWrNc agent line data mask s
  | .evict agent line => Sys2Proof.Machine.execEvict agent line s
  | .wb agent line data => Sys2Proof.Machine.execWb agent line data s
  | .snpFwd agent line => Sys2Proof.Machine.execSnpFwd agent line s
  | .snpInv agent line => Sys2Proof.Machine.execSnpInv agent line s
  | .snpBinv agent line => Sys2Proof.Machine.execSnpBinv agent line s
  | .snpWb agent line => Sys2Proof.Machine.execSnpWb agent line s
  | .ackInv agent line => Sys2Proof.Machine.execAckInv agent line s
  | .ackFwd agent line => Sys2Proof.Machine.execAckFwd agent line s
  | .cmp agent line => Sys2Proof.Machine.execCmp agent line s
  | .data agent line => Sys2Proof.Machine.execData agent line s
  | .mcStoreWrite path v => Sys2Proof.Machine.execMcStoreWrite path v s
  | .verify path => Sys2Proof.Machine.execVerify path s
  | .microcodeVerdict ok bad => Sys2Proof.Machine.execMicrocodeVerdict ok bad s
  | .handover path => Sys2Proof.Machine.execHandover path s
  | .clrSig path => Sys2Proof.Machine.execClrSig path s
  | .mcSigDataWrite path v => Sys2Proof.Machine.execMcSigDataWrite path v s
  | .semRead path k => Sys2Proof.Machine.execSemRead path k s
  | .semRelease path k => Sys2Proof.Machine.execSemRelease path k s
  | .semBreak path key index => Sys2Proof.Machine.execSemBreak path key index s
  | .portDown p => Sys2Proof.Machine.execPortDown p s
  | .portUp p => Sys2Proof.Machine.execPortUp p s
  | .msixSpacingEnd page => Sys2Proof.Machine.execMsixSpacingEnd page s
  | .pop path => Sys2Proof.Machine.execPop path s
  | .evtInj path page evts => Sys2Proof.Machine.execEvtInj path page evts s
  | .accInj path page => Sys2Proof.Machine.execAccInj path page s
  | .ueArm path page => Sys2Proof.Machine.execUeArm path page s
  | .ceArm path page => Sys2Proof.Machine.execCeArm path page s
  | .registerWrite path addr wide v => Sys2Proof.Machine.execRegisterWrite path addr wide v s
  | .misalignedAccess path addr size write => Sys2Proof.Machine.execMisalignedAccess path addr size write s
  | .cadNowRead path r => Sys2Proof.Machine.execCadNowRead path r s
  | .obScanDataRead path r => Sys2Proof.Machine.execObScanDataRead path r s
  | .traceDmaWrite buf => Sys2Proof.Machine.execTraceDmaWrite buf s
  | .traceFlushTimer buf => Sys2Proof.Machine.execTraceFlushTimer buf s
  | .traceDisable path => Sys2Proof.Machine.execTraceDisable path s
  | .tbSizeWrite path v => Sys2Proof.Machine.execTbSizeWrite path v s
  | .tbHeadWrite path v => Sys2Proof.Machine.execTbHeadWrite path v s
  | .occupancySample => Sys2Proof.Machine.execOccupancySample s
  | .globalStopRequest path => Sys2Proof.Machine.execGlobalStopRequest path s
  | .stopInEdge => Sys2Proof.Machine.execStopInEdge s
  | .globalStopRelease path => Sys2Proof.Machine.execGlobalStopRelease path s
  | .breakpointCommit path v => Sys2Proof.Machine.execBreakpointCommit path v s
  | .breakpointResume path => Sys2Proof.Machine.execBreakpointResume path s
  | .breakpointStep path => Sys2Proof.Machine.execBreakpointStep path s
  | .cnFreezeWrite path v => Sys2Proof.Machine.execCnFreezeWrite path v s
  | .ptEnWrite path p v => Sys2Proof.Machine.execPtEnWrite path p v s
  | .retrain path p => Sys2Proof.Machine.execRetrain path p s
  | .laneSignalChange p lane present => Sys2Proof.Machine.execLaneSignalChange p lane present s
  | .ts1 p lane => Sys2Proof.Machine.execTs1 p lane s
  | .ts2 p lane rxok => Sys2Proof.Machine.execTs2 p lane rxok s
  | .trainingAttemptTimeout p => Sys2Proof.Machine.execTrainingAttemptTimeout p s
  | .ident p f => Sys2Proof.Machine.execIdent p f s
  | .identSend p => Sys2Proof.Machine.execIdentSend p s
  | .identTimeout p => Sys2Proof.Machine.execIdentTimeout p s
  | .credit p f => Sys2Proof.Machine.execCredit p f s
  | .creditReportTimer p => Sys2Proof.Machine.execCreditReportTimer p s
  | .creditStallTimeout p cls => Sys2Proof.Machine.execCreditStallTimeout p cls s
  | .nak p f => Sys2Proof.Machine.execNak p f s
  | .replayTimer p => Sys2Proof.Machine.execReplayTimer p s
  | .badFrame r => Sys2Proof.Machine.execBadFrame r s
  | .auth p f => Sys2Proof.Machine.execAuth p f s
  | .authDone p f => Sys2Proof.Machine.execAuthDone p f s
  | .authVerdict p pass chipId => Sys2Proof.Machine.execAuthVerdict p pass chipId s
  | .authTimeout p => Sys2Proof.Machine.execAuthTimeout p s
  | .laneSwitch p f => Sys2Proof.Machine.execLaneSwitch p f s
  | .laneFailure r => Sys2Proof.Machine.execLaneFailure r s
  | .heartbeat p f => Sys2Proof.Machine.execHeartbeat p f s
  | .heartbeatSend p => Sys2Proof.Machine.execHeartbeatSend p s
  | .heartbeatTimeout p => Sys2Proof.Machine.execHeartbeatTimeout p s
  | .timeSyncExchange p => Sys2Proof.Machine.execTimeSyncExchange p s
  | .sync p f => Sys2Proof.Machine.execSync p f s
  | .followUp p f => Sys2Proof.Machine.execFollowUp p f s
  | .delayReq p f => Sys2Proof.Machine.execDelayReq p f s
  | .delayResp p f => Sys2Proof.Machine.execDelayResp p f s
  | .relay p f => Sys2Proof.Machine.execRelay p f s
  | .error p f => Sys2Proof.Machine.execError p f s
  | .abort p f => Sys2Proof.Machine.execAbort p f s
  | .eventForget origin inc no => Sys2Proof.Machine.execEventForget origin inc no s
  | .record p f => Sys2Proof.Machine.execRecord p f s
  | .message p f => Sys2Proof.Machine.execMessage p f s
  | .mgTxGo path p => Sys2Proof.Machine.execMgTxGo path p s
  | .mgRxConsume path p => Sys2Proof.Machine.execMgRxConsume path p s
  | .fpDestWrite path v => Sys2Proof.Machine.execFpDestWrite path v s
  | .coreResetAssert => Sys2Proof.Machine.execCoreResetAssert s
  | .translationFault a ctx va write => Sys2Proof.Machine.execTranslationFault a ctx va write s
  | .rangeCacheWayUe k => Sys2Proof.Machine.execRangeCacheWayUe k s
  | .rcFieldRead path addr wide => Sys2Proof.Machine.execRcFieldRead path addr wide s
  | .authSessionOpen p => Sys2Proof.Machine.execAuthSessionOpen p s
  | .securityAuthBytes p bytes => Sys2Proof.Machine.execSecurityAuthBytes p bytes s

end Sys2Proof.Machine
end

