-- ==== Sys2Proof/Machine/Microword.lean ====
section
/-!
DEFINITION. One microword of a Lamplighter core (R486, R487): its condition, its operation on the working registers and the flags,
and its next microaddress. What a unit port, a load or an operation that R486 only names yields is a free value (log entry 9).
What the cores write to the domain and what the units do are rows of their own (log entry 11).
-/
namespace Sys2Proof.Machine

/-- Working register `k` of a core. -/
def MicroCore.reg (m : MicroCore) (k : Nat) : Nat := (Tab.get (fun _ => (0 : W32)) m.w k).toNat
def MicroCore.setReg (m : MicroCore) (k v : Nat) : MicroCore :=
  { m with w := Tab.set (fun _ => (0 : W32)) m.w k (BitVec.ofNat 32 v) }

/-- What COND selects (R486); none where the core's surroundings decide it. -/
def Block.mwCond (b : Block) (k : Nat) (m : MicroCore) (cond : Nat) : Option Bool :=
  if 4 ≤ cond ∧ cond ≤ 19 then some (bit (m.reg 0) (cond - 4))
  else match cond with
    | 0 => some true
    | 1 => some m.z
    | 2 => some m.n
    | 3 => some m.c
    | 21 => some !(b.eligibleOf 2).isEmpty
    | 22 => some !(b.eligibleOf 0).isEmpty
    | 23 => some !(b.eligibleOf 1).isEmpty
    | 27 => some (b.coh.msgs.any fun x => x.agent = k ∧ (x.kind = MsgKind.data ∨ x.kind = MsgKind.cmp))
    | 28 => some b.cad.due
    | 29 => some (bit (b.reg Reg.LL_OCCUPANCY) 31)
    | 30 => some b.down
    | 31 => some false
    | _ => none

/-- The result of an ALU operation of two 32-bit operands; none where R486 does not fix it: which operand MOV takes, whether MIN, MAX
and SHR are signed, and shifts of 32 and more. -/
def mwAlu (op x y : Nat) : Option Nat :=
  match op with
  | 0x00 => if x = y then some x else none
  | 0x01 => some ((x + y) % 2 ^ 32)
  | 0x02 => some ((x + 2 ^ 32 - y) % 2 ^ 32)
  | 0x03 => some (x &&& y)
  | 0x04 => some (x ||| y)
  | 0x05 => some (x ^^^ y)
  | 0x06 => if y < 32 then some (x * 2 ^ y % 2 ^ 32) else none
  | 0x07 => if y = 0 ∨ (y < 32 ∧ x < 2 ^ 31) then some (x / 2 ^ y) else none
  | 0x08 => some ((x + 2 ^ 32 - y) % 2 ^ 32)
  | 0x09 => if x / 2 ^ 31 = y / 2 ^ 31 then some (min x y) else none
  | 0x0A => if x / 2 ^ 31 = y / 2 ^ 31 then some (max x y) else none
  | _ => none

/-- A value that may be open, or a free one of `w` bits in its place. -/
def Block.orFresh (b : Block) (x : Option Nat) (w : Nat) : Nat × Block :=
  match x with
  | some v => (v, b)
  | none => b.fresh w

/-- OP of a microword: the registers and flags after it. -/
def Block.mwOp (b : Block) (m : MicroCore) (w : Nat) : MicroCore × Block :=
  let op := bits w 39 34
  let dst := bits w 33 28
  let x := m.reg (bits w 27 22)
  let y := if bit w 21 then bits w 20 14 else m.reg (bits w 19 14)
  if op ≤ 0x0A then
    let r := b.orFresh (mwAlu op x y) 32
    let c := r.2.orFresh (if op = 0x01 then some ((x + y) / 2 ^ 32) else none) 1
    let m := if op = 0x08 then m else m.setReg dst r.1
    ({ m with z := decide (r.1 = 0), n := bit r.1 31, c := decide (c.1 = 1) }, c.2)
  else if op = 0x10 ∨ op = 0x13 ∨ op = 0x18 then
    let r := b.fresh 32
    (m.setReg dst r.1, r.2)
  else (m, b)

/-- The next microaddress and return stack (R487); none is a failure of the core. -/
def mwNext (m : MicroCore) (w : Nat) (t : Bool) : Option (Nat × List Nat) :=
  let next := bits w 13 0
  let r : Option (Nat × List Nat) := match bits w 47 45 with
    | 1 => some (next / 2 * 2 + ofBit t, m.stack)
    | 2 => some (next / 16 * 16 + m.reg 63 % 16, m.stack)
    | 3 => if m.stack.length = 8 then none else some (next, (m.pc + 1) % 16384 :: m.stack)
    | 4 => match m.stack with
      | [] => none
      | a :: l => some (a, l)
    | _ => some (next, m.stack)
  r.bind fun x => if x.1 = 0x3FFF then none else some x

/-- A Lamplighter core fails (R348, R424, R487): cause 5. -/
def Block.mwFail (b : Block) (k : Nat) : Block := ((b.ccDown 5 k).storageUe 0 k).takeOver k

/-- Core `k` executes the microword at its address: one that waits holds, its operation not executed; a reserved form, which no
verified image has, holds too. -/
def Block.mwStep (b : Block) (k : Nat) : Block :=
  let m := b.mcore k
  let w := b.word48 k m.pc
  let t := b.orFresh ((b.mwCond k m (bits w 44 40)).map ofBit) 1
  let b := t.2
  let on := decide (t.1 = 1)
  if 6 ≤ bits w 47 45 ∨ !mwOpOk (bits w 39 34) ∨ (bits w 47 45 = 5 ∧ !on) then b
  else
    let r := b.mwOp m w
    match mwNext m w on with
    | some (pc, st) => r.2.setMcore k { r.1 with pc := pc, stack := st }
    | none => (r.2.setMcore k r.1).mwFail k

/-- The active core executes from READY on (R480), unless it has failed or left service. -/
def Block.mwRun (b : Block) : Block :=
  let k := b.mc.active
  let up := decide (b.st = .ready) || decide (b.st = .run) || decide (b.st = .fault)
  if up ∧ (b.wearOf 0 k).st < 2 ∧ !(b.mcore k).failed then b.mwStep k else b

end Sys2Proof.Machine
end

