-- ==== Sys2Proof/Machine/Tick.lean ====
section
/-!
DEFINITION. One idle ZCLK cycle (log entry 1): what each part of the block counts in it, and what goes on with no row of its own. A
row whose condition is a time finds it here.
-/
namespace Sys2Proof.Machine

/-! ### Parts that a global stop does not hold (R448) -/

/-- The always-on domain (R21, R408). -/
def Block.aonTick (b : Block) : Block :=
  { b with aonClk := b.aonClk + 1, pwr := b.pwr.map fun p => { p with cycles := p.cycles + 1 } }

/-- The fabric time (R390, R441): 5/9 ns, at its rate correction, unless it holds. -/
def Block.timeTick (b : Block) : Block :=
  if b.sync.hold = 0 then { b with fabric := b.fabric + (5 * (1000000000 + b.sync.ppb)).toNat }
  else { b with sync := { b.sync with hold := b.sync.hold - 5 } }

/-- The Cadence Unit's counts (R152). -/
def Block.cadTick (b : Block) : Block := b.modCad fun x => { x with clk := x.clk + 1, cyc := x.cyc + 1 }

/-- Tokens that class `c` gains in one cycle (R379). -/
def RPort.refill (r : RPort) : List Nat :=
  r.tokens.zipIdx.map fun x =>
    let l := r.rl.getD x.2 (0, 0)
    min (x.1 + l.1) (l.2 * Config.cyclesMs)

/-- The counts of a Rein port. -/
def RPort.tick (r : RPort) : RPort :=
  { r with
    stCycles := r.stCycles + 1
    ackCycles := if r.uncovered.isEmpty then 0 else r.ackCycles + 1
    stallCycles := r.stallCycles.zipIdx.map fun x => if r.txq.any (·.cls = x.2) ∧ r.avail x.2 = 0 then x.1 + 1 else 0
    creditCycles := r.creditCycles + 1
    unrepCycles := r.unrepCycles + 1
    hbCycles := r.hbCycles + 1
    hbLast := r.hbLast + 1
    authCycles := r.authCycles + 1
    exchCycles := r.exchCycles + 1
    tokens := r.refill }

/-- The Rein ports that are not OFF: what can leave, leaves (R393); and the events remembered (R413). -/
def Block.reinTick (b : Block) : Block :=
  let b := (List.range 8).foldl (fun b p => if (b.port p).st = .off then b else b.modPort p fun r => RPort.flush b.ns r.tick) b
  { b with seen := b.seen.map fun e => { e with age := e.age + 1 } }

/-- One cycle added to the count of register `a` in units of `unit` cycles. -/
def Block.addCycle (b : Block) (unit a : Nat) : Block :=
  let n := b.frac a + 1
  if unit ≤ n then (b.setFrac a 0).count32 a else b.setFrac a n

/-- RUN_MS and FAULT_MS of every page (R431). -/
def Block.pageTick (b : Block) (pg : Nat) : Block :=
  match b.pageSts pg % 256 with
  | 2 => b.addCycle Config.cyclesMs (pg * 0x1000 + Reg.PG_AON4)
  | 4 => b.addCycle Config.cyclesMs (pg * 0x1000 + Reg.PG_AON5)
  | 5 => b.addCycle Config.cyclesMs (pg * 0x1000 + Reg.PG_AON5)
  | _ => b

def Block.pagesTick (b : Block) : Block := ((List.range 0x28).filter isUnitPage).foldl Block.pageTick b

/-! ### The core domain -/

/-- A count of µs in register `a` while `on`. -/
def Block.usWhile (b : Block) (on : Bool) (a : Nat) : Block := if on then b.addCycle Config.cyclesUs a else b

/-- The TIME registers (R34, R227, R242, R281, R291, R303, R186) and the clock of the occupancy samples (R433). -/
def Block.timesTick (b : Block) : Block :=
  let waits := (b.groups.head?.map fun g => !g.granted).getD false
  let b := b.usWhile waits Reg.LIGHT_WAIT
  let b := b.usWhile (!b.waitHold.isEmpty) Reg.WK_WAIT_FULL
  let b := b.usWhile (decide (b.descHold ≠ 0) && decide (Config.descCacheEntries < b.descsHeld + b.descHold)) Reg.DESC_WAIT
  let b := b.usWhile (!b.faultWait.isEmpty) Reg.ZT_FQ_FULL
  let b := b.usWhile b.fcrFull Reg.ZT_FCR_FULL
  let b := b.usWhile (b.engines.any fun kv => kv.2.clearing) Reg.SCRUB_WAIT
  let b := b.usWhile (bit (b.reg Reg.LL_OCCUPANCY) 31) Reg.LL_HOT_US
  b.setFrac Reg.OB_QOCC_NOW (b.frac Reg.OB_QOCC_NOW + 1)

/-- The stall budget of a command and what its PROF_END reports (R136, R434). -/
def Block.cmdTick (b : Block) (c : Cmd) : Cmd :=
  let waits := decide (c.phase = .placing) || (decide (c.phase = .decided) && c.needsPlace)
  let faults := b.faulting (.cmd c.q c.i) || c.engs.any fun e => b.faulting (.engine e)
  { c with
    budget := if b.cmdBudgetRuns c then c.budget + 1 else c.budget
    placeCycles := if waits then c.placeCycles + 1 else c.placeCycles
    faultCycles := if faults then c.faultCycles + 1 else c.faultCycles }

def Block.workTick (b : Block) : Block :=
  { b with
    cmds := b.cmds.map b.cmdTick
    tasks := b.tasks.map fun t => { t with budget := if b.taskBudgetRuns t then t.budget + 1 else t.budget } }

/-- The drain of an engine and its wait on a wick (R245, R401). -/
def Block.engTick (b : Block) (e : Nat) : Block :=
  let x := b.eng e
  if x.draining ∧ x.drainCycles < drainNoted then b.setEng e { x with drainCycles := x.drainCycles + 1 }
  else if b.sleeps e then b.setEng e { x with waitCycles := x.waitCycles + 1 }
  else b

def Block.engsTick (b : Block) : Block := (b.engines.map (·.1)).foldl Block.engTick b

/-- The pacing of step boundaries (R33): each harness whose commit wick holds a signal. -/
def Block.paceTick (b : Block) : Block :=
  (dedup (b.heldSigs.map (·.h))).foldl (fun b h => b.setHarness h { b.harness h with pacedCycles := (b.harness h).pacedCycles + 1 }) b

/-- The coherence domain: unanswered snoops (R348) and the dispatch pause (R350). -/
def Block.cohTick (b : Block) : Block :=
  let n := ofBit b.down
  b.ccMod fun c => { c with
    txns := c.txns.map fun (t : Txn) => if t.await.isEmpty then t else { t with age := t.age + 1 }
    phaseCycles := c.phaseCycles + n
    downCycles := c.downCycles + n }

/-- The Recovery Controller: the order in hand (R405) and the watchdog's period (R402). -/
def Block.recoveryTick (b : Block) : Block :=
  { b with
    order := b.order.map fun o => { o with cycles := o.cycles + 1 }
    wdCycles := if b.field Reg.HANG_WD_CTL 15 0 ≠ 0 ∧ b.wdCycles < wdLapsed then b.wdCycles + 1 else b.wdCycles }

/-- Walkers that leave once idle (R424). -/
def Block.swapTick (b : Block) : Block :=
  let idle := b.swapping.filter fun k => !(b.walks.any fun w => w.walker = some k)
  (idle.foldl Block.swapWalker b).settleRetire

/-- Markers that wait are tried again (R53), and queues whose last marker is written go on. -/
def Block.marksTick (b : Block) : Block :=
  ((b.queues.filter fun kv => !kv.2.marks.isEmpty).map (·.1)).foldl (fun b q => (b.markWait q).settleHalt q) b |>.settleQueues

/-- The core domain in one cycle. -/
def Block.coreTick (b : Block) : Block :=
  let b : Block := { b with
    zclk := b.zclk + 1, invBusy := b.invBusy - 1, impBusy := b.impBusy - 1, stallBusy := b.stallBusy - 1
    ll := { b.ll with winCycles := b.ll.winCycles + 1 } }
  let b := b.timesTick.workTick.engsTick.streamsTick.paceTick.cohTick.recoveryTick
  let b := b.moveRole.swapTick
  b.calm.marksTick.settlePosted.copyTick.mwRun

/-- One idle ZCLK cycle: the always-on domain counts in every state, the Rein links, the fabric time and the Cadence Unit while the
core domain is up, and the rest of the core domain unless a global stop holds it (R21, R448). -/
def tick (b : Block) : Block :=
  let b := b.aonTick
  if b.pins.coreHeld then b
  else
    let b := b.timeTick.cadTick.reinTick.pagesTick
    if b.stop.stopped then b else b.coreTick

end Sys2Proof.Machine
end

