-- ==== Sys2Proof/Safety.lean ====
section
/-!
DEFINITION. What a safe run of the block is, in the terms the statements use: the parts of the block, which of them two blocks
share, when a row acts, and the invariant of every step.
-/
namespace Sys2Proof.Safety

open Sys2Proof.Machine

/-- The parts of the block, each a group of its fields. -/
inductive Part where
  /-- The straps. -/
  | straps
  /-- CHIP_ID and whether ROLE is written. -/
  | chip
  /-- The pins and the state of the paths. -/
  | pins
  /-- The block state. -/
  | mode
  /-- The clocks, the fabric time and the fractions of the time counts. -/
  | clocks
  /-- The number of free values used. -/
  | free
  /-- What reads returned. -/
  | answer
  /-- Stored registers. -/
  | regs
  /-- Staged values and armed errors. -/
  | staged
  /-- The capability tables. -/
  | tables
  /-- The semaphores. -/
  | sems
  /-- Messages and event FIFOs. -/
  | events
  /-- Contexts. -/
  | contexts
  /-- Hardware queues and the commands fetched. -/
  | queues
  /-- Harnesses. -/
  | harnesses
  /-- Engines and their lighting. -/
  | engines
  /-- The stamps. -/
  | stamps
  /-- Persistent tasks. -/
  | tasks
  /-- Device memory. -/
  | dev
  /-- Host memory. -/
  | host
  /-- Scratchpads and stack-side caches. -/
  | spaces
  /-- The layout of the stacks. -/
  | layout
  /-- Wick slots, virtual IDs, bounds and the BUSY of an import. -/
  | wicks
  /-- Waiters and signals held back. -/
  | waits
  /-- Stitch lists, the lanes that deliver them, and descriptors held. -/
  | lists
  /-- Mappings and the boot map. -/
  | mappings
  /-- Caches, walks and faults. -/
  | translation
  /-- Frame pools and the frame completion ring. -/
  | frames
  /-- The Credit Ledger. -/
  | ledger
  /-- The Cadence Unit. -/
  | cadence
  /-- The Lamplighter, its handover, and walkers on their way out. -/
  | lamplighter
  /-- The Lamplighter cores and the microcode store. -/
  | microcode
  /-- The coherence domain. -/
  | coherence
  /-- The Rein ports. -/
  | ports
  /-- Time sync and remembered events. -/
  | rein
  /-- Reset orders, the watchdog and the BUSY of a stall operation. -/
  | orders
  /-- The power cycle. -/
  | power
  /-- Poison, the retry step and a range to retire. -/
  | poison
  /-- Bytes that units wrote in the current step. -/
  | heldWrites
  /-- Wear records. -/
  | wear
  /-- Trace buffers. -/
  | trace
  /-- Breakpoints and occupancy. -/
  | breakpoints
  /-- The global stop. -/
  | stop
  /-- The Cinder log. -/
  | cinder
  /-- The destinations of the fabric port. -/
  | fabric
  /-- What went out of the fabric port. -/
  | sent
  /-- What went to the security block. -/
  | security
deriving DecidableEq, Repr

/-- Two blocks agree on a part. -/
def Part.same : Part → Block → Block → Prop
  | .straps, a, b => a.straps = b.straps
  | .chip, a, b => a.chipId = b.chipId ∧ a.roleSet = b.roleSet
  | .pins, a, b => a.pins = b.pins
  | .mode, a, b => a.st = b.st
  | .clocks, a, b => a.zclk = b.zclk ∧ a.aonClk = b.aonClk ∧ a.fabric = b.fabric ∧ a.cycFrac = b.cycFrac
  | .free, a, b => a.freeCount = b.freeCount
  | .answer, a, b => a.readData = b.readData ∧ a.nowLatch = b.nowLatch
  | .regs, a, b => a.regs = b.regs
  | .staged, a, b => a.staged = b.staged ∧ a.armed = b.armed
  | .tables, a, b => a.capt = b.capt ∧ a.tableGen = b.tableGen
  | .sems, a, b => a.sems = b.sems
  | .events, a, b => a.hiu = b.hiu
  | .contexts, a, b => a.ctxs = b.ctxs
  | .queues, a, b => a.queues = b.queues ∧ a.cmds = b.cmds
  | .harnesses, a, b => a.harnesses = b.harnesses
  | .engines, a, b => a.engines = b.engines ∧ a.groups = b.groups ∧ a.lastLight = b.lastLight ∧ a.lastWake = b.lastWake
  | .stamps, a, b => a.stamps = b.stamps
  | .tasks, a, b => a.tasks = b.tasks
  | .dev, a, b => a.dev = b.dev
  | .host, a, b => a.host = b.host
  | .spaces, a, b => a.spm = b.spm ∧ a.ssc = b.ssc
  | .layout, a, b => a.chanOk = b.chanOk ∧ a.capMb = b.capMb ∧ a.layChan = b.layChan ∧ a.layMb = b.layMb
  | .wicks, a, b => a.slots = b.slots ∧ a.vids = b.vids ∧ a.bounds = b.bounds ∧ a.impBusy = b.impBusy
  | .waits, a, b => a.waiters = b.waiters ∧ a.waitHold = b.waitHold ∧ a.heldSigs = b.heldSigs
  | .lists, a, b => a.versions = b.versions ∧ a.lastEpoch = b.lastEpoch ∧ a.retired = b.retired ∧ a.descHold = b.descHold ∧ a.lanes = b.lanes
  | .mappings, a, b => a.maps = b.maps ∧ a.nextMap = b.nextMap ∧ a.boot = b.boot
  | .translation, a, b => a.rangeCache = b.rangeCache ∧ a.pageCache = b.pageCache ∧ a.atsCache = b.atsCache ∧ a.atsAsked = b.atsAsked ∧ a.walks = b.walks ∧ a.faults = b.faults ∧ a.faultWait = b.faultWait ∧ a.advices = b.advices ∧ a.invBusy = b.invBusy ∧ a.atsInvs = b.atsInvs
  | .frames, a, b => a.pools = b.pools ∧ a.fcrBase = b.fcrBase ∧ a.fcrWait = b.fcrWait ∧ a.fcrStuck = b.fcrStuck ∧ a.fcrFull = b.fcrFull ∧ a.tabFrames = b.tabFrames
  | .ledger, a, b => a.ledger = b.ledger
  | .cadence, a, b => a.cad = b.cad
  | .lamplighter, a, b => a.ll = b.ll ∧ a.mc = b.mc ∧ a.swapping = b.swapping
  | .microcode, a, b => a.micro = b.micro ∧ a.store = b.store
  | .coherence, a, b => a.coh = b.coh
  | .ports, a, b => a.ports = b.ports
  | .rein, a, b => a.sync = b.sync ∧ a.seen = b.seen ∧ a.linkNotes = b.linkNotes
  | .orders, a, b => a.order = b.order ∧ a.l3Done = b.l3Done ∧ a.wdCycles = b.wdCycles ∧ a.stallBusy = b.stallBusy
  | .power, a, b => a.pwr = b.pwr
  | .poison, a, b => a.poison = b.poison ∧ a.retry = b.retry ∧ a.retireReq = b.retireReq
  | .heldWrites, a, b => a.held = b.held
  | .wear, a, b => a.wear = b.wear
  | .trace, a, b => a.trace = b.trace
  | .breakpoints, a, b => a.bps = b.bps ∧ a.occ = b.occ
  | .stop, a, b => a.stop = b.stop
  | .cinder, a, b => a.cinder = b.cinder
  | .fabric, a, b => a.fpDest = b.fpDest
  | .sent, a, b => a.fabricOut = b.fabricOut
  | .security, a, b => a.secOut = b.secOut

/-- Two blocks agree on every part but those listed. -/
def agreeBut (ps : List Part) (a b : Block) : Prop := ∀ p, p ∉ ps → p.same a b

/-- Every part. -/
def Part.all : List Part := [.straps, .chip, .pins, .mode, .clocks, .free, .answer, .regs, .staged, .tables, .sems, .events, .contexts, .queues, .harnesses, .engines, .stamps, .tasks, .dev, .host, .spaces, .layout, .wicks, .waits, .lists, .mappings, .translation, .frames, .ledger, .cadence, .lamplighter, .microcode, .coherence, .ports, .rein, .orders, .power, .poison, .heldWrites, .wear, .trace, .breakpoints, .stop, .cinder, .fabric, .sent, .security]

/-- Every part but those listed. -/
def allBut (l : List Part) : List Part := Part.all.filter fun p => !l.contains p

/-- The parts of the block that the meaning of each command writes, on every operand: it leaves every other part as it was.
It is an upper bound, and the completion statements say which fields of these parts change. -/
def touches : Instr → List Part
  | .powerOn => [.pins, .mode, .regs, .events, .engines, .ports, .stop, .cinder]
  | .aonResetRelease _ => allBut [.straps, .free, .host, .sent]
  | .initialisationEnd _ => allBut [.straps, .chip, .pins, .free, .answer, .staged, .sems, .stamps, .spaces, .frames, .lamplighter, .microcode, .power, .heldWrites, .wear, .trace, .fabric, .sent, .security]
  | .goReady _ => [.mode, .regs, .tables, .events, .contexts, .queues, .stamps, .cadence, .lamplighter, .microcode, .ports, .stop, .cinder]
  | .goRun _ => [.mode, .regs, .events, .engines, .ports, .stop, .cinder]
  | .doorbellWrite _ _ _ _ => [.regs, .events, .queues]
  | .ringReadCompletion _ => [.regs, .events, .contexts, .queues, .harnesses, .engines, .stamps, .tasks, .dev, .host, .wicks, .waits, .lists, .mappings, .translation, .frames, .ledger, .coherence, .ports, .poison, .breakpoints, .stop, .cinder]
  | .indirectRecordRead _ _ => [.regs, .events, .contexts, .queues, .harnesses, .engines, .tasks, .dev, .host, .wicks, .waits, .lists, .mappings, .translation, .frames, .ledger, .coherence, .ports, .poison, .breakpoints, .stop, .cinder]
  | .lamplighterDecision => [.free, .regs, .queues, .harnesses, .lamplighter, .trace]
  | .occupancyWindowEnd => [.regs, .lamplighter]
  | .nop _ _ => [.queues, .harnesses, .waits, .lists, .translation]
  | .launch _ _ => [.regs, .events, .contexts, .queues, .harnesses, .engines, .tasks, .dev, .host, .wicks, .waits, .lists, .mappings, .translation, .frames, .ledger, .coherence, .ports, .poison, .trace, .breakpoints, .stop, .cinder]
  | .launchInd _ _ => [.regs, .events, .contexts, .queues, .harnesses, .engines, .tasks, .dev, .host, .wicks, .waits, .lists, .mappings, .translation, .frames, .ledger, .coherence, .ports, .poison, .trace, .breakpoints, .stop, .cinder]
  | .launchPersist _ _ => [.regs, .events, .contexts, .queues, .harnesses, .engines, .tasks, .dev, .host, .wicks, .waits, .lists, .mappings, .translation, .frames, .ledger, .coherence, .ports, .poison, .trace, .breakpoints, .stop, .cinder]
  | .stopPersist _ _ => [.queues, .harnesses, .engines, .tasks, .waits, .lists, .mappings, .translation, .breakpoints]
  | .copy _ _ => allBut [.straps, .chip, .pins, .mode, .clocks, .free, .answer, .staged, .tables, .sems, .layout, .cadence, .lamplighter, .microcode, .rein, .orders, .power, .heldWrites, .wear, .fabric, .sent, .security]
  | .fill _ _ => allBut [.straps, .chip, .pins, .mode, .clocks, .free, .answer, .staged, .tables, .sems, .layout, .cadence, .lamplighter, .microcode, .rein, .orders, .power, .heldWrites, .wear, .fabric, .sent, .security]
  | .atomic _ _ => [.regs, .events, .contexts, .queues, .harnesses, .engines, .stamps, .tasks, .dev, .host, .wicks, .waits, .lists, .mappings, .translation, .frames, .ledger, .coherence, .ports, .poison, .breakpoints, .stop, .cinder]
  | .prefetch _ _ => [.regs, .events, .contexts, .queues, .harnesses, .engines, .tasks, .dev, .host, .wicks, .waits, .lists, .mappings, .translation, .frames, .ledger, .coherence, .ports, .poison, .breakpoints, .stop, .cinder]
  | .advise _ _ => [.regs, .events, .contexts, .queues, .harnesses, .engines, .tasks, .dev, .host, .wicks, .waits, .lists, .mappings, .translation, .frames, .ledger, .coherence, .ports, .poison, .breakpoints, .stop, .cinder]
  | .wait _ _ => [.queues, .harnesses, .waits, .lists, .translation]
  | .signal _ _ => [.queues, .harnesses, .waits, .lists, .translation]
  | .signalRemote _ _ => [.regs, .events, .queues, .harnesses, .engines, .tasks, .wicks, .waits, .lists, .translation, .ledger, .ports, .heldWrites, .stop, .cinder, .sent]
  | .timestamp _ _ => [.regs, .events, .contexts, .queues, .harnesses, .engines, .stamps, .tasks, .dev, .host, .wicks, .waits, .lists, .mappings, .translation, .frames, .ledger, .coherence, .ports, .poison, .breakpoints, .stop, .cinder]
  | .cadenceWait _ _ => [.queues, .harnesses, .waits, .lists, .translation]
  | .mark _ _ => [.regs, .queues, .harnesses, .waits, .lists, .translation, .trace, .stop]
  | .watch _ _ => [.regs, .events, .contexts, .queues, .harnesses, .engines, .stamps, .tasks, .dev, .host, .wicks, .waits, .lists, .mappings, .translation, .frames, .ledger, .coherence, .ports, .poison, .breakpoints, .stop, .cinder]
  | .map _ _ => [.regs, .events, .queues, .harnesses, .waits, .lists, .mappings, .translation, .frames, .breakpoints]
  | .unmap _ _ => [.regs, .events, .contexts, .queues, .harnesses, .engines, .stamps, .tasks, .dev, .host, .wicks, .waits, .lists, .mappings, .translation, .frames, .ledger, .coherence, .ports, .poison, .breakpoints, .stop, .cinder]
  | .invRange _ _ => [.regs, .events, .contexts, .queues, .harnesses, .engines, .stamps, .tasks, .dev, .host, .wicks, .waits, .lists, .mappings, .translation, .frames, .ledger, .coherence, .ports, .poison, .breakpoints, .stop, .cinder]
  | .queueCreate _ _ => [.contexts, .queues, .harnesses, .waits, .lists, .mappings, .translation, .breakpoints]
  | .queueDestroy _ _ => [.regs, .events, .contexts, .queues, .harnesses, .engines, .tasks, .dev, .host, .wicks, .waits, .lists, .mappings, .translation, .frames, .ledger, .coherence, .ports, .poison, .breakpoints, .stop, .cinder]
  | .harnessGrow _ _ => [.regs, .events, .contexts, .queues, .harnesses, .engines, .tasks, .dev, .host, .wicks, .waits, .lists, .mappings, .translation, .frames, .ledger, .coherence, .ports, .poison, .trace, .breakpoints, .stop, .cinder]
  | .harnessShrink _ _ => [.regs, .events, .contexts, .queues, .harnesses, .engines, .tasks, .dev, .host, .wicks, .waits, .lists, .mappings, .translation, .frames, .ledger, .coherence, .ports, .poison, .trace, .breakpoints, .stop, .cinder]
  | .listLoad _ _ => allBut [.straps, .chip, .pins, .mode, .clocks, .free, .answer, .staged, .tables, .sems, .spaces, .layout, .cadence, .lamplighter, .microcode, .rein, .orders, .power, .heldWrites, .wear, .trace, .fabric, .sent]
  | .listPatch _ _ => allBut [.straps, .chip, .pins, .mode, .clocks, .free, .answer, .staged, .tables, .sems, .spaces, .layout, .cadence, .lamplighter, .microcode, .rein, .orders, .power, .heldWrites, .wear, .trace, .fabric, .sent]
  | .listRetire _ _ => [.queues, .harnesses, .waits, .lists, .mappings, .translation, .breakpoints]
  | .wickAlloc _ _ => [.queues, .harnesses, .wicks, .waits, .lists, .mappings, .translation, .breakpoints]
  | .wickFree _ _ => [.regs, .queues, .harnesses, .wicks, .waits, .lists, .mappings, .translation, .ledger, .breakpoints]
  | .wickExport _ _ => [.regs, .events, .contexts, .queues, .harnesses, .engines, .stamps, .tasks, .dev, .host, .wicks, .waits, .lists, .mappings, .translation, .frames, .ledger, .coherence, .ports, .poison, .breakpoints, .stop, .cinder]
  | .ctxSave _ _ => [.regs, .events, .contexts, .queues, .harnesses, .engines, .stamps, .tasks, .dev, .host, .wicks, .waits, .lists, .mappings, .translation, .frames, .ledger, .coherence, .ports, .poison, .breakpoints, .stop, .cinder]
  | .ctxRestore _ _ => [.regs, .events, .contexts, .queues, .harnesses, .engines, .stamps, .tasks, .dev, .host, .wicks, .waits, .lists, .mappings, .translation, .frames, .ledger, .coherence, .ports, .poison, .breakpoints, .stop, .cinder]
  | .frameSupply _ _ => [.regs, .events, .contexts, .queues, .harnesses, .engines, .stamps, .tasks, .dev, .host, .wicks, .waits, .lists, .mappings, .translation, .frames, .ledger, .coherence, .ports, .poison, .breakpoints, .stop, .cinder]
  | .commandCompletion _ _ => allBut [.straps, .chip, .pins, .mode, .clocks, .free, .answer, .staged, .tables, .sems, .stamps, .spaces, .layout, .cadence, .lamplighter, .microcode, .rein, .orders, .power, .wear, .fabric, .sent, .security]
  | .contextFreed _ => [.regs, .events, .contexts, .queues, .harnesses, .engines, .tasks, .dev, .host, .wicks, .waits, .lists, .mappings, .translation, .frames, .ledger, .coherence, .ports, .poison, .breakpoints, .stop, .cinder]
  | .launchPlacement _ => [.regs, .events, .contexts, .queues, .harnesses, .engines, .tasks, .dev, .host, .wicks, .waits, .lists, .mappings, .translation, .frames, .ledger, .coherence, .ports, .poison, .trace, .breakpoints, .stop, .cinder]
  | .engineSpaceClearDone _ => allBut [.straps, .chip, .pins, .mode, .clocks, .free, .answer, .staged, .tables, .sems, .stamps, .layout, .cadence, .lamplighter, .microcode, .rein, .orders, .power, .heldWrites, .wear, .fabric, .sent, .security]
  | .lightingGroupStart => [.regs, .queues, .harnesses, .engines, .waits, .lists, .translation]
  | .wakeGroupStart => [.regs, .queues, .harnesses, .engines, .waits, .lists, .translation]
  | .powerGrant => [.regs, .queues, .harnesses, .engines, .waits, .lists, .translation]
  | .grantWaitTimeout => [.regs, .events, .engines]
  | .engineClockGate _ => [.regs, .engines, .dev, .coherence]
  | .progressBeat _ => [.queues, .engines, .tasks]
  | .engineInvocationEnd _ => [.regs, .events, .contexts, .queues, .harnesses, .engines, .tasks, .dev, .host, .wicks, .waits, .lists, .mappings, .translation, .frames, .ledger, .coherence, .ports, .poison, .breakpoints, .stop, .cinder]
  | .engineDrained _ => [.queues, .harnesses, .engines, .tasks, .waits, .lists, .mappings, .translation, .breakpoints]
  | .taskItemTake _ _ => [.regs, .events, .contexts, .queues, .harnesses, .engines, .stamps, .tasks, .dev, .host, .wicks, .waits, .lists, .mappings, .translation, .frames, .ledger, .coherence, .ports, .poison, .breakpoints, .stop, .cinder]
  | .taskItemCompletion _ _ => [.regs, .events, .contexts, .queues, .harnesses, .engines, .tasks, .dev, .host, .wicks, .waits, .lists, .mappings, .translation, .frames, .ledger, .coherence, .ports, .poison, .heldWrites, .breakpoints, .stop, .cinder]
  | .breakpointHit _ _ => [.regs, .events, .queues, .engines, .tasks, .waits, .translation, .breakpoints, .stop]
  | .wickSignalApply _ _ _ => [.regs, .events, .queues, .harnesses, .engines, .tasks, .wicks, .waits, .ledger, .ports, .heldWrites, .stop, .cinder]
  | .stepPacingExpiry _ => [.regs, .events, .contexts, .queues, .harnesses, .engines, .tasks, .dev, .host, .wicks, .waits, .lists, .mappings, .translation, .frames, .ledger, .coherence, .ports, .poison, .heldWrites, .breakpoints, .stop, .cinder]
  | .ledgerClosing => [.regs, .events, .ledger, .ports, .stop, .cinder]
  | .ledgerStorageUe => [.free, .regs, .staged, .events, .queues, .ledger, .ports, .stop, .cinder]
  | .remoteWickSignal _ _ => [.regs, .events, .queues, .harnesses, .engines, .tasks, .wicks, .waits, .ledger, .ports, .heldWrites, .stop, .cinder]
  | .remoteDoorbellSignal _ _ => [.regs, .events, .queues, .ledger]
  | .windowSignalWrite _ _ _ => [.regs, .events, .queues, .harnesses, .engines, .tasks, .wicks, .waits, .ledger, .ports, .heldWrites, .stop, .cinder]
  | .wickImport _ _ => [.free, .regs, .events, .wicks]
  | .wickRelease _ => [.free, .regs, .events, .harnesses, .wicks, .waits, .ledger]
  | .windowOn _ => [.free, .regs, .events, .wicks]
  | .windowOff _ => [.free, .regs, .events, .wicks]
  | .boundCommit _ _ => [.regs, .staged, .events, .wicks]
  | .boundDisable _ _ => [.regs, .events, .wicks]
  | .wickRowUe _ => [.regs, .staged, .tables, .events, .queues, .harnesses, .engines, .tasks, .wicks, .waits, .lists, .mappings, .translation, .ledger, .ports, .wear, .breakpoints, .stop, .cinder]
  | .stitchCacheUe _ _ _ => [.free, .regs, .staged, .events, .queues, .harnesses, .engines, .tasks, .wicks, .waits, .lists, .mappings, .translation, .ledger, .ports, .breakpoints, .stop, .cinder]
  | .listVerdict _ _ => [.queues, .harnesses, .waits, .lists, .translation, .breakpoints]
  | .cadenceFrameEdge => [.cadence, .ports]
  | .cadenceTargetReached _ _ => [.queues, .harnesses, .waits, .lists, .translation]
  | .cadInEdge => [.regs, .events, .cadence, .ports, .stop, .cinder]
  | .cadLockLoss => [.regs, .events, .cadence, .ports, .stop, .cinder]
  | .holdoverEdge => [.cadence]
  | .relayTimeout => [.regs, .events, .cadence, .ports, .stop, .cinder]
  | .cadSrcChange => [.regs, .events, .cadence, .ports, .stop, .cinder]
  | .stallBudgetExpiry _ => [.regs, .events, .queues, .engines, .tasks, .waits, .translation, .ports, .stop, .cinder]
  | .stallAutoResume _ => [.regs, .events, .contexts, .queues, .harnesses, .engines, .tasks, .dev, .host, .wicks, .waits, .lists, .mappings, .translation, .frames, .ledger, .coherence, .ports, .poison, .breakpoints, .stop, .cinder]
  | .stallResume _ => allBut [.straps, .chip, .pins, .mode, .clocks, .answer, .staged, .tables, .sems, .stamps, .spaces, .layout, .cadence, .lamplighter, .microcode, .rein, .power, .heldWrites, .wear, .trace, .fabric, .sent, .security]
  | .stallEnd _ => [.free, .regs, .events, .queues, .harnesses, .engines, .tasks, .waits, .lists, .mappings, .translation, .orders, .breakpoints]
  | .drainLimitExpiry _ => [.regs, .events, .engines]
  | .watchdogPet _ => [.regs, .events, .orders]
  | .watchdogLapse => [.regs, .events, .ports, .orders, .stop, .cinder]
  | .l0ContextTeardown _ _ => allBut [.straps, .free, .spaces, .wear, .fabric, .sent]
  | .l1EngineReset _ _ => allBut [.straps, .free, .spaces, .wear, .fabric, .sent]
  | .l2HarnessReset _ _ => allBut [.straps, .free, .spaces, .wear, .fabric, .sent]
  | .l3ChipReset _ => allBut [.straps, .free, .spaces, .wear, .fabric, .sent]
  | .l4PowerCycle _ => allBut [.straps, .free, .spaces, .wear, .fabric, .sent]
  | .orderDone => allBut [.straps, .chip, .pins, .mode, .clocks, .free, .answer, .staged, .tables, .sems, .stamps, .spaces, .layout, .cadence, .lamplighter, .microcode, .rein, .power, .heldWrites, .wear, .fabric, .sent, .security]
  | .pwrcycAckAssert => [.pins, .power]
  | .pwrcycNoackTimeout => [.regs]
  | .rdoutAck _ => [.regs, .events, .power]
  | .readoutHoldExpiry => [.power]
  | .pwrcycReqRelease => allBut [.straps, .free, .host, .sent]
  | .jobMembershipCommit _ _ => [.regs, .staged, .events, .contexts]
  | .jobMembershipEnd _ => [.regs, .events, .contexts]
  | .errEventPost _ _ _ => [.regs, .ports]
  | .spareRetireGo _ => allBut [.straps, .chip, .pins, .clocks, .answer, .staged, .sems, .spaces, .cadence, .orders, .power, .heldWrites, .trace, .fabric, .sent, .security]
  | .engineReplacement _ => allBut [.straps, .chip, .pins, .mode, .clocks, .free, .answer, .staged, .sems, .stamps, .spaces, .layout, .cadence, .lamplighter, .microcode, .rein, .orders, .power, .heldWrites, .fabric, .sent, .security]
  | .correctableError _ _ => allBut [.straps, .chip, .pins, .clocks, .answer, .sems, .spaces, .cadence, .orders, .power, .heldWrites, .trace, .fabric, .sent, .security]
  | .engineUe _ => [.regs, .staged, .events, .queues, .harnesses, .engines, .tasks, .dev, .waits, .lists, .mappings, .translation, .coherence, .ports, .wear, .breakpoints, .stop, .cinder]
  | .walkerUe _ => [.regs, .staged, .tables, .events, .stamps, .translation, .lamplighter, .ports, .wear, .stop, .cinder]
  | .channelFailure _ _ => [.regs, .staged, .tables, .events, .layout, .frames, .ledger, .ports, .wear, .stop, .cinder]
  | .poisonRead _ => [.poison, .wear]
  | .poisonRepairDone _ => [.regs, .dev, .host, .mappings, .translation, .coherence, .poison]
  | .poisonConsumed _ _ => [.regs, .events, .contexts, .queues, .harnesses, .engines, .tasks, .dev, .host, .wicks, .waits, .lists, .mappings, .translation, .ledger, .coherence, .ports, .poison, .breakpoints, .stop, .cinder]
  | .retryStepDiscard _ _ => [.regs, .events, .queues, .harnesses, .tasks, .dev, .waits, .lists, .translation, .ports, .poison, .heldWrites]
  | .migrationFault _ _ _ _ => [.regs, .events, .contexts, .queues, .harnesses, .engines, .stamps, .tasks, .dev, .host, .wicks, .waits, .lists, .mappings, .translation, .frames, .ledger, .coherence, .ports, .poison, .breakpoints, .stop, .cinder]
  | .migrationDmaDone _ _ _ => [.regs, .events, .contexts, .queues, .harnesses, .engines, .tasks, .dev, .host, .wicks, .waits, .lists, .mappings, .translation, .frames, .ledger, .coherence, .ports, .poison, .breakpoints, .stop, .cinder]
  | .walkDone _ => [.stamps, .translation]
  | .atsCompletion _ _ _ _ _ _ _ => [.regs, .events, .contexts, .queues, .harnesses, .engines, .tasks, .dev, .host, .wicks, .waits, .lists, .mappings, .translation, .frames, .ledger, .coherence, .ports, .poison, .breakpoints, .stop, .cinder]
  | .priResponse _ _ _ => [.regs, .events, .contexts, .queues, .harnesses, .engines, .tasks, .dev, .host, .wicks, .waits, .lists, .mappings, .translation, .frames, .ledger, .coherence, .ports, .poison, .breakpoints, .stop, .cinder]
  | .atsInvalidateRequest _ _ _ _ => [.regs, .events, .contexts, .queues, .harnesses, .engines, .tasks, .dev, .host, .wicks, .waits, .lists, .mappings, .translation, .frames, .ledger, .coherence, .ports, .poison, .breakpoints, .stop, .cinder]
  | .atsInvalidateCompletion _ => [.regs, .engines, .stamps, .translation]
  | .registerInvalidation _ => allBut [.straps, .chip, .pins, .mode, .clocks, .answer, .staged, .tables, .sems, .spaces, .layout, .cadence, .lamplighter, .microcode, .rein, .orders, .power, .heldWrites, .wear, .trace, .fabric, .sent, .security]
  | .frameRingEntryWrite => [.regs, .events, .contexts, .queues, .harnesses, .engines, .tasks, .dev, .host, .wicks, .waits, .lists, .mappings, .translation, .frames, .ledger, .coherence, .ports, .poison, .breakpoints, .stop, .cinder]
  | .ztFcrHeadWrite _ _ => [.regs, .events, .contexts, .queues, .harnesses, .engines, .tasks, .dev, .host, .wicks, .waits, .lists, .mappings, .translation, .frames, .ledger, .coherence, .ports, .poison, .breakpoints, .stop, .cinder]
  | .ztFcrSizeWrite _ _ => [.regs, .staged, .events, .frames]
  | .bootmapClear _ => [.regs, .events, .mappings, .frames]
  | .ztBootEnt0Write _ _ => [.regs, .staged, .events, .mappings]
  | .dtCountCommit _ _ => [.regs, .staged, .events, .contexts]
  | .commitWickEnable _ _ => [.regs, .events, .harnesses]
  | .snoopTimeout _ => [.regs, .lamplighter, .coherence]
  | .coherenceDown _ _ _ => [.mode, .free, .regs, .staged, .tables, .events, .stamps, .lamplighter, .microcode, .coherence, .ports, .wear, .stop, .cinder]
  | .rollCallClose _ => [.mode, .regs, .tables, .events, .queues, .harnesses, .engines, .stamps, .tasks, .dev, .waits, .lists, .mappings, .translation, .lamplighter, .microcode, .coherence, .ports, .wear, .breakpoints, .stop, .cinder]
  | .coherenceRebuildDone => allBut [.straps, .free, .spaces, .wear, .fabric, .sent]
  | .rdS _ _ => [.regs, .dev, .lamplighter, .coherence]
  | .rdM _ _ => [.regs, .dev, .lamplighter, .coherence]
  | .rdNa _ _ => [.regs, .dev, .coherence]
  | .wrT _ _ _ _ => [.regs, .dev, .coherence]
  | .wrNc _ _ _ _ => [.regs, .dev, .coherence]
  | .evict _ _ => [.regs, .dev, .coherence]
  | .wb _ _ _ => [.regs, .dev, .coherence]
  | .snpFwd _ _ => [.free, .regs, .dev, .lamplighter, .coherence]
  | .snpInv _ _ => [.free, .regs, .dev, .lamplighter, .coherence]
  | .snpBinv _ _ => [.free, .regs, .dev, .lamplighter, .coherence]
  | .snpWb _ _ => [.free, .regs, .dev, .lamplighter, .coherence]
  | .ackInv _ _ => [.regs, .dev, .coherence]
  | .ackFwd _ _ => [.regs, .dev, .coherence]
  | .cmp _ _ => [.regs, .dev, .lamplighter, .coherence]
  | .data _ _ => [.regs, .dev, .lamplighter, .coherence]
  | .mcStoreWrite _ _ => [.regs, .events, .lamplighter, .microcode]
  | .verify _ => [.regs, .events, .lamplighter, .security]
  | .microcodeVerdict _ _ => [.regs, .lamplighter]
  | .handover _ => [.free, .regs, .tables, .events, .stamps, .dev, .lamplighter, .microcode, .coherence, .ports, .wear, .stop, .cinder]
  | .clrSig _ => [.regs, .events, .lamplighter]
  | .mcSigDataWrite _ _ => [.regs, .events, .lamplighter]
  | .semRead _ _ => [.answer, .sems]
  | .semRelease _ _ => [.regs, .staged, .sems, .events]
  | .semBreak _ _ _ => [.regs, .staged, .sems, .events]
  | .portDown _ => [.pins, .regs, .staged, .sems, .events, .stop]
  | .portUp _ => [.pins, .events]
  | .msixSpacingEnd _ => [.events]
  | .pop _ => [.regs, .events]
  | .evtInj _ _ _ => allBut [.straps, .spaces, .sent]
  | .accInj _ _ => allBut [.straps, .spaces, .sent]
  | .ueArm _ _ => allBut [.straps, .spaces, .sent]
  | .ceArm _ _ => allBut [.straps, .spaces, .sent]
  | .registerWrite _ _ _ _ => allBut [.straps, .spaces, .sent]
  | .misalignedAccess _ _ _ _ => [.answer, .regs, .events, .stop]
  | .cadNowRead _ _ => [.answer]
  | .obScanDataRead _ _ => [.answer, .regs]
  | .traceDmaWrite _ => [.regs, .events, .dev, .host, .mappings, .translation, .coherence, .poison, .trace]
  | .traceFlushTimer _ => [.regs, .events, .dev, .host, .mappings, .translation, .coherence, .poison, .trace]
  | .traceDisable _ => [.regs, .events, .dev, .host, .mappings, .translation, .coherence, .poison, .trace]
  | .tbSizeWrite _ _ => [.regs, .staged, .events, .trace]
  | .tbHeadWrite _ _ => [.regs, .events, .trace]
  | .occupancySample => [.clocks, .breakpoints]
  | .globalStopRequest _ => [.regs, .events, .stop]
  | .stopInEdge => [.pins, .regs, .stop]
  | .globalStopRelease _ => allBut [.straps, .spaces, .wear, .fabric, .sent]
  | .breakpointCommit _ _ => [.regs, .staged, .events, .breakpoints]
  | .breakpointResume _ => [.regs, .events, .contexts, .queues, .harnesses, .engines, .tasks, .dev, .host, .wicks, .waits, .lists, .mappings, .translation, .frames, .ledger, .coherence, .ports, .poison, .breakpoints, .stop, .cinder]
  | .breakpointStep _ => [.regs, .events, .queues, .engines, .lists, .trace]
  | .cnFreezeWrite _ _ => [.regs, .events, .cinder]
  | .ptEnWrite _ _ _ => [.regs, .tables, .events, .contexts, .queues, .harnesses, .engines, .tasks, .dev, .host, .wicks, .waits, .lists, .mappings, .translation, .ledger, .coherence, .ports, .rein, .poison, .breakpoints, .stop, .cinder]
  | .retrain _ _ => [.regs, .tables, .events, .contexts, .queues, .harnesses, .engines, .tasks, .dev, .host, .wicks, .waits, .lists, .mappings, .translation, .ledger, .coherence, .ports, .rein, .poison, .breakpoints, .stop, .cinder]
  | .laneSignalChange _ _ _ => [.regs, .tables, .events, .contexts, .queues, .harnesses, .engines, .tasks, .dev, .host, .wicks, .waits, .lists, .mappings, .translation, .ledger, .coherence, .ports, .rein, .poison, .breakpoints, .stop, .cinder]
  | .ts1 _ _ => [.regs, .tables, .events, .contexts, .queues, .harnesses, .engines, .tasks, .dev, .host, .wicks, .waits, .lists, .mappings, .translation, .ledger, .coherence, .ports, .rein, .poison, .breakpoints, .stop, .cinder]
  | .ts2 _ _ _ => [.ports]
  | .trainingAttemptTimeout _ => [.regs, .tables, .events, .contexts, .queues, .harnesses, .engines, .tasks, .dev, .host, .wicks, .waits, .lists, .mappings, .translation, .ledger, .coherence, .ports, .rein, .poison, .breakpoints, .stop, .cinder]
  | .ident _ _ => [.regs, .tables, .events, .contexts, .queues, .harnesses, .engines, .tasks, .dev, .host, .wicks, .waits, .lists, .mappings, .translation, .ledger, .coherence, .ports, .rein, .poison, .breakpoints, .stop, .cinder]
  | .identSend _ => [.ports]
  | .identTimeout _ => [.regs, .tables, .events, .contexts, .queues, .harnesses, .engines, .tasks, .dev, .host, .wicks, .waits, .lists, .mappings, .translation, .ledger, .coherence, .ports, .rein, .poison, .breakpoints, .stop, .cinder]
  | .credit _ _ => [.regs, .tables, .events, .contexts, .queues, .harnesses, .engines, .tasks, .dev, .host, .wicks, .waits, .lists, .mappings, .translation, .ledger, .coherence, .ports, .rein, .poison, .breakpoints, .stop, .cinder]
  | .creditReportTimer _ => [.ports]
  | .creditStallTimeout _ _ => [.regs, .tables, .events, .contexts, .queues, .harnesses, .engines, .tasks, .dev, .host, .wicks, .waits, .lists, .mappings, .translation, .ledger, .coherence, .ports, .rein, .poison, .breakpoints, .stop, .cinder]
  | .nak _ _ => allBut [.straps, .chip, .pins, .mode, .clocks, .answer, .staged, .sems, .stamps, .spaces, .layout, .frames, .cadence, .lamplighter, .microcode, .orders, .power, .heldWrites, .wear, .trace, .fabric, .sent, .security]
  | .replayTimer _ => allBut [.straps, .chip, .pins, .mode, .clocks, .answer, .staged, .sems, .stamps, .spaces, .layout, .frames, .cadence, .lamplighter, .microcode, .orders, .power, .heldWrites, .wear, .trace, .fabric, .sent, .security]
  | .badFrame _ => [.regs, .ports]
  | .auth _ _ => allBut [.straps, .chip, .pins, .mode, .clocks, .free, .answer, .staged, .sems, .stamps, .spaces, .layout, .frames, .cadence, .lamplighter, .microcode, .orders, .power, .heldWrites, .wear, .trace, .fabric, .sent]
  | .authDone _ _ => [.regs, .tables, .events, .contexts, .queues, .harnesses, .engines, .tasks, .dev, .host, .wicks, .waits, .lists, .mappings, .translation, .ledger, .coherence, .ports, .rein, .poison, .breakpoints, .stop, .cinder]
  | .authVerdict _ _ _ => [.regs, .tables, .events, .contexts, .queues, .harnesses, .engines, .tasks, .dev, .host, .wicks, .waits, .lists, .mappings, .translation, .ledger, .coherence, .ports, .rein, .poison, .breakpoints, .stop, .cinder]
  | .authTimeout _ => [.regs, .tables, .events, .contexts, .queues, .harnesses, .engines, .tasks, .dev, .host, .wicks, .waits, .lists, .mappings, .translation, .ledger, .coherence, .ports, .rein, .poison, .breakpoints, .stop, .cinder]
  | .laneSwitch _ _ => allBut [.straps, .chip, .pins, .mode, .clocks, .answer, .staged, .sems, .stamps, .spaces, .layout, .frames, .cadence, .lamplighter, .microcode, .orders, .power, .heldWrites, .wear, .trace, .fabric, .sent, .security]
  | .laneFailure _ => allBut [.straps, .chip, .pins, .mode, .clocks, .free, .answer, .staged, .sems, .stamps, .spaces, .layout, .frames, .cadence, .lamplighter, .microcode, .orders, .power, .heldWrites, .trace, .fabric, .sent, .security]
  | .heartbeat _ _ => allBut [.straps, .chip, .pins, .mode, .free, .answer, .staged, .sems, .stamps, .spaces, .layout, .frames, .lamplighter, .microcode, .orders, .power, .heldWrites, .wear, .trace, .fabric, .sent, .security]
  | .heartbeatSend _ => [.ports]
  | .heartbeatTimeout _ => [.regs, .tables, .events, .contexts, .queues, .harnesses, .engines, .tasks, .dev, .host, .wicks, .waits, .lists, .mappings, .translation, .ledger, .coherence, .ports, .rein, .poison, .breakpoints, .stop, .cinder]
  | .timeSyncExchange _ => [.ports]
  | .sync _ _ => allBut [.straps, .chip, .pins, .mode, .free, .answer, .staged, .sems, .stamps, .spaces, .layout, .frames, .lamplighter, .microcode, .orders, .power, .heldWrites, .wear, .trace, .fabric, .sent, .security]
  | .followUp _ _ => allBut [.straps, .chip, .pins, .mode, .free, .answer, .staged, .sems, .stamps, .spaces, .layout, .frames, .lamplighter, .microcode, .orders, .power, .heldWrites, .wear, .trace, .fabric, .sent, .security]
  | .delayReq _ _ => allBut [.straps, .chip, .pins, .mode, .free, .answer, .staged, .sems, .stamps, .spaces, .layout, .frames, .lamplighter, .microcode, .orders, .power, .heldWrites, .wear, .trace, .fabric, .sent, .security]
  | .delayResp _ _ => allBut [.straps, .chip, .pins, .mode, .free, .answer, .staged, .sems, .stamps, .spaces, .layout, .frames, .lamplighter, .microcode, .orders, .power, .heldWrites, .wear, .trace, .fabric, .sent, .security]
  | .relay _ _ => allBut [.straps, .chip, .pins, .mode, .free, .answer, .staged, .sems, .stamps, .spaces, .layout, .frames, .lamplighter, .microcode, .orders, .power, .heldWrites, .wear, .trace, .fabric, .sent, .security]
  | .error _ _ => allBut [.straps, .chip, .pins, .mode, .free, .answer, .staged, .sems, .stamps, .spaces, .layout, .frames, .lamplighter, .microcode, .orders, .power, .heldWrites, .wear, .trace, .fabric, .sent, .security]
  | .abort _ _ => allBut [.straps, .chip, .pins, .mode, .free, .answer, .staged, .sems, .stamps, .spaces, .layout, .frames, .lamplighter, .microcode, .orders, .power, .heldWrites, .wear, .trace, .fabric, .sent, .security]
  | .eventForget _ _ _ => [.rein]
  | .record _ _ => allBut [.straps, .chip, .pins, .mode, .free, .answer, .staged, .sems, .stamps, .spaces, .layout, .frames, .lamplighter, .microcode, .orders, .power, .heldWrites, .wear, .trace, .fabric, .sent, .security]
  | .message _ _ => allBut [.straps, .chip, .pins, .mode, .free, .answer, .staged, .sems, .stamps, .spaces, .layout, .frames, .lamplighter, .microcode, .orders, .power, .heldWrites, .wear, .trace, .fabric, .sent, .security]
  | .mgTxGo _ _ => [.regs, .events, .ports]
  | .mgRxConsume _ _ => [.regs, .events, .ports]
  | .fpDestWrite _ _ => [.regs, .events, .fabric]
  | .coreResetAssert => allBut [.straps, .free, .dev, .host, .spaces, .ports, .power, .wear, .cinder, .fabric, .sent]
  | .translationFault _ _ _ _ => [.regs, .events, .contexts, .queues, .harnesses, .engines, .tasks, .dev, .host, .wicks, .waits, .lists, .mappings, .translation, .ledger, .coherence, .ports, .poison, .breakpoints, .stop, .cinder]
  | .rangeCacheWayUe _ => [.regs, .staged, .tables, .events, .translation, .ports, .wear, .stop, .cinder]
  | .rcFieldRead _ _ _ => [.answer, .regs, .sems, .events, .queues, .harnesses, .trace, .breakpoints, .stop]
  | .authSessionOpen _ => [.ports, .security]
  | .securityAuthBytes _ _ => [.ports]

/-- The four memories are in their canonical form. -/
def memoriesCanonical (b : Block) : Bool := Memory.wf b.dev && Memory.wf b.host && Memory.wf b.spm && Memory.wf b.ssc

/-- Every semaphore that is held is held by Port A or by Port B (R15, R470). -/
def semsLegal (b : Block) : Bool := b.sems.all fun kv => decide (kv.2 = 1) || decide (kv.2 = 2)

/-- The invariant of every step: canonical memories, legal semaphores. -/
def Legal (b : Block) : Prop := memoriesCanonical b = true ∧ semsLegal b = true


/-! ### When a row acts -/

/-- The core domain runs: it is not held in reset (R531) and no global stop is in force (R448). -/
def Runs (s : State) : Prop := s.blk.frozen = false

/-- The core domain is not held in reset; a global stop does not hold the Rein link layer (R448). -/
def Linked (s : State) : Prop := s.blk.pins.coreHeld = false

/-- A write of the register at `a` by path `path` is taken: the path is a port that is up (R469), the core is not held in
reset, a global stop lets it through (R450), and the path holds the semaphore of the page where the page asks for it (R166). -/
def Takes (s : State) (path a : Nat) : Prop :=
  (path = 1 ∨ path = 2) ∧ s.blk.pathUp path = true ∧ s.blk.pins.coreHeld = false
    ∧ (s.blk.stop.stopped = false ∨ stopTakes a = true)
    ∧ (((regInfo a).map (·.gated)).getD false = true → s.blk.holds path (a / 0x1000) = true)

/-- A path reads registers: it is up, and the core is not held in reset. -/
def Reads (s : State) (path : Nat) : Prop := s.blk.pathUp path = true ∧ s.blk.pins.coreHeld = false

/-- The command at (q, i) has been decided (R148), it is not stalled, has work to do (R140), and is not turned away by the boot
map (R270). -/
def Decided (s : State) (q i opc : Nat) (c : Cmd) : Prop :=
  s.blk.cmd? q i = some c ∧ c.opcode = opc ∧ c.stalled = false ∧ c.phase = .decided ∧ c.empty = false
    ∧ ¬(bootBusy opc = true ∧ s.blk.bootmap = true)

/-- The command at (q, i) runs, is not stalled and is not being cancelled. -/
def Underway (s : State) (q i opc : Nat) (c : Cmd) : Prop :=
  s.blk.cmd? q i = some c ∧ c.opcode = opc ∧ c.stalled = false ∧ c.phase = .running ∧ c.cancel = none

/-- Row `i` answers a next state: block `b`, with the queue of `s`. -/
def Gives (i : Instr) (s : State) (b : Block) : Prop := exec i s = .next { s with blk := b }

/-- Row `i` answers a next state: block `b`, of which `P` holds, with the queue of `s`. -/
def Leaves (i : Instr) (s : State) (b : Block) (P : Block → Prop) : Prop := Gives i s b ∧ P b

/-- The command at (q, i) is at phase `ph`. -/
def InPhase (q i : Nat) (ph : Phase) (b : Block) : Prop := ∃ c, b.cmd? q i = some c ∧ c.phase = ph

/-- The command at (q, i) has ended with status `st`. -/
def HasEnded (q i st : Nat) (b : Block) : Prop := InPhase q i (.ended st) b

/-- The coherence domain is up, and the home holds no line for a transaction or in M: an access of a block agent goes on at
once (R333, R338, R349). -/
def AtRest (b : Block) : Prop := b.down = false ∧ ∀ ps, b.homeHolds ps = false

/-- The home has no request waiting, and no transaction runs for a line (R338). -/
def HomeFree (b : Block) (line : Nat) : Prop := b.coh.queue = [] ∧ b.txn line = none

/-- A kernel command on context `t` that is OPEN. -/
def OpenFor (s : State) (t : Nat) : Prop := (s.blk.ctx t).st = .opn

/-- Rows of the always-on domain, of the host's paths and of the Rein link layer, which act in a global stop too (R448); the
register writes among them under the rules of their path (R450). -/
def stopActs : Instr → Bool
  | .powerOn .. => true
  | .aonResetRelease .. => true
  | .goReady .. => true
  | .goRun .. => true
  | .doorbellWrite .. => true
  | .windowSignalWrite .. => true
  | .wickImport .. => true
  | .wickRelease .. => true
  | .windowOn .. => true
  | .windowOff .. => true
  | .boundCommit .. => true
  | .boundDisable .. => true
  | .cadenceFrameEdge .. => true
  | .cadInEdge .. => true
  | .holdoverEdge .. => true
  | .stallResume .. => true
  | .stallEnd .. => true
  | .watchdogPet .. => true
  | .l0ContextTeardown .. => true
  | .l1EngineReset .. => true
  | .l2HarnessReset .. => true
  | .l3ChipReset .. => true
  | .l4PowerCycle .. => true
  | .pwrcycAckAssert .. => true
  | .pwrcycNoackTimeout .. => true
  | .rdoutAck .. => true
  | .readoutHoldExpiry .. => true
  | .pwrcycReqRelease .. => true
  | .jobMembershipCommit .. => true
  | .jobMembershipEnd .. => true
  | .spareRetireGo .. => true
  | .registerInvalidation .. => true
  | .ztFcrHeadWrite .. => true
  | .ztFcrSizeWrite .. => true
  | .bootmapClear .. => true
  | .ztBootEnt0Write .. => true
  | .dtCountCommit .. => true
  | .commitWickEnable .. => true
  | .mcStoreWrite .. => true
  | .verify .. => true
  | .handover .. => true
  | .clrSig .. => true
  | .mcSigDataWrite .. => true
  | .semRead .. => true
  | .semRelease .. => true
  | .semBreak .. => true
  | .portDown .. => true
  | .portUp .. => true
  | .pop .. => true
  | .evtInj .. => true
  | .accInj .. => true
  | .ueArm .. => true
  | .ceArm .. => true
  | .registerWrite .. => true
  | .misalignedAccess .. => true
  | .cadNowRead .. => true
  | .obScanDataRead .. => true
  | .traceDisable .. => true
  | .tbSizeWrite .. => true
  | .tbHeadWrite .. => true
  | .globalStopRequest .. => true
  | .stopInEdge .. => true
  | .globalStopRelease .. => true
  | .breakpointCommit .. => true
  | .breakpointResume .. => true
  | .breakpointStep .. => true
  | .cnFreezeWrite .. => true
  | .ptEnWrite .. => true
  | .retrain .. => true
  | .laneSignalChange .. => true
  | .ts1 .. => true
  | .ts2 .. => true
  | .trainingAttemptTimeout .. => true
  | .ident .. => true
  | .identSend .. => true
  | .identTimeout .. => true
  | .credit .. => true
  | .creditReportTimer .. => true
  | .creditStallTimeout .. => true
  | .nak .. => true
  | .replayTimer .. => true
  | .badFrame .. => true
  | .auth .. => true
  | .authDone .. => true
  | .authTimeout .. => true
  | .laneSwitch .. => true
  | .laneFailure .. => true
  | .heartbeat .. => true
  | .heartbeatSend .. => true
  | .heartbeatTimeout .. => true
  | .timeSyncExchange .. => true
  | .sync .. => true
  | .followUp .. => true
  | .delayReq .. => true
  | .delayResp .. => true
  | .relay .. => true
  | .error .. => true
  | .abort .. => true
  | .eventForget .. => true
  | .record .. => true
  | .message .. => true
  | .mgTxGo .. => true
  | .mgRxConsume .. => true
  | .fpDestWrite .. => true
  | .coreResetAssert .. => true
  | .rcFieldRead .. => true
  | _ => false

end Sys2Proof.Safety
end

