-- ==== Sys2Proof/Certificates/Slice0/Obligations.lean ====
section
/-!
DEFINITION. The statements for the provers. Each docstring names the rules of the spec its statement rests on.
-/
open Sys2Proof Sys2Proof.Machine Sys2Proof.Safety

/-! ### The machine as a whole -/

/-- A step takes the command at the front of the queue and gives the outcome of its meaning, with the rest of the queue. -/
def Obligations.StepRunsTheFrontCommand : Prop :=
  ∀ (c : Instr) (s : State), step { s with pending := c :: s.pending } = exec c s

/-- On an empty queue one ZCLK cycle passes (log entry 1, the model's choice). -/
def Obligations.IdleStepIsOneCycle : Prop :=
  ∀ s : State, s.pending = [] → step s = .next { s with blk := tick s.blk }

/-- Every command answers a next state, and the queue behind it is as it was. -/
def Obligations.EveryCommandGoesOn : Prop :=
  ∀ (i : Instr) (s : State), ∃ t, exec i s = .next t ∧ t.pending = s.pending

/-- The frame of every command: each part of the block outside `touches i` is as it was, and so is the queue. -/
def Obligations.CommandFrames : Prop :=
  ∀ (i : Instr) (s t : State), exec i s = .next t → agreeBut (touches i) s.blk t.blk ∧ t.pending = s.pending

/-- Every step keeps the memories in canonical form and every held semaphore in the hands of Port A or Port B (R15, R470). -/
def Obligations.StepKeepsLegal : Prop :=
  ∀ s t : State, Legal s.blk → step s = .next t → Legal t.blk

/-- The invariant holds at reset. -/
def Obligations.LegalAtReset : Prop := Legal State.reset.blk

/-- In a held core (R21, R531) and in a global stop (R448), every command outside `stopActs` leaves the block as it is. -/
def Obligations.CoreRowsHold : Prop :=
  ∀ (i : Instr) (s : State), s.blk.frozen = true → stopActs i = false → exec i s = .next s

/-- No step changes the straps. -/
def Obligations.StrapsNeverChange : Prop :=
  ∀ s t : State, step s = .next t → t.blk.straps = s.blk.straps

/-- The machine at reset: the core domain is held in reset and the block is in the state before OFF, no command waits, every
register reads its reset value, every semaphore is free, every context is FREE, every queue is UNUSED, and no step is pending
of what the host sent (R470, R477, R531; the values that log entries 3 to 8 name are the model's). -/
def Obligations.ResetState : Prop :=
  State.reset.pending = [] ∧ State.reset.blk.pins.coreHeld = true ∧ State.reset.blk.st = .power
    ∧ (∀ a, State.reset.blk.reg a = (resetWord a).toNat) ∧ (∀ k, State.reset.blk.sem k = 0)
    ∧ (∀ c, (State.reset.blk.ctx c).st = .free) ∧ (∀ q, (State.reset.blk.queue q).st = .unused)
    ∧ (∀ a, Memory.byte State.reset.blk.dev a = 0)

/-- What ending a command does (R23, R107): the command holds its status and is no longer stalled, it still stands in the
fetched commands until COMMAND_COMPLETION, every other command is as it was but for a deadline fixed now (R161), and every part of the
block without queues, waits, translations, lists and harnesses is as it was. -/
def Obligations.EndedCommand : Prop :=
  ∀ (b : Block) (q i st : Nat) (c : Cmd), b.cmd? q i = some c → (∀ k, c.phase ≠ .ended k) →
    (b.endCmd q i st).cmd? q i = some { c with phase := .ended st, stalled := false, bp := none }
      ∧ (∀ q' i', ¬(q' = q ∧ i' = i) → ((b.endCmd q i st).cmd? q' i').map (fun c => { c with deadline := none })
          = (b.cmd? q' i').map fun c => { c with deadline := none })
      ∧ agreeBut [.queues, .harnesses, .waits, .translation, .lists] b (b.endCmd q i st)

/-- Bytes written at distinct places read back, and every byte of device and host memory at no place of them is as it was. -/
def Obligations.BytesWritten : Prop :=
  ∀ (b : Block) (ps : List Phys) (xs : List Byte), ps.length = xs.length → ps.Nodup →
    (∀ k (h : k < ps.length) (g : k < xs.length) a, ps[k] = .dev a → Memory.byte (b.putBytes ps xs).dev a = xs[k])
      ∧ (∀ k (h : k < ps.length) (g : k < xs.length) a, ps[k] = .host a → Memory.byte (b.putBytes ps xs).host a = xs[k])
      ∧ (∀ a, Phys.dev a ∉ ps → Memory.byte (b.putBytes ps xs).dev a = Memory.byte b.dev a)
      ∧ (∀ a, Phys.host a ∉ ps → Memory.byte (b.putBytes ps xs).host a = Memory.byte b.host a)

/-! ### Start-up -/

/-- AON_RESET_RELEASE starts everything but the straps, the host's memory and the clocks' count afresh and takes CHIP_ID (R525,
R531). POWER_ON takes the block to OFF with the core released and every engine as it is after a reset (R477, R532); where the
ledger's registers hold no re-base yet, as after an L4, it gives the ledger its re-base of CAUSE 3 with its event (R331).
CORE_RESET_ASSERT holds the core: contexts, commands and semaphores are gone, and device memory, the Cinder log and the wear records
are as they were (R532). -/
def Obligations.PowerRows : Prop :=
  ∀ s : State,
    (∀ id : BitVec 32, ∃ t, exec (.aonResetRelease id) s = .next t ∧ t.blk = { s.blk.powerReset with chipId := id.toNat }
      ∧ t.blk.straps = s.blk.straps ∧ t.blk.host = s.blk.host ∧ t.blk.zclk = s.blk.zclk ∧ t.blk.dev = [] ∧ t.blk.regs = []
      ∧ t.blk.chipId = id.toNat ∧ t.blk.pins.coreHeld = true)
    ∧ (s.blk.st = .power → s.blk.pwr = none → s.blk.reg Reg.LG_REBASE ≠ 0 →
        Gives .powerOn s { s.blk with st := .off, engines := s.blk.resetEngines, pins := { s.blk.pins with coreHeld := false } })
    ∧ (s.blk.st = .power → s.blk.pwr = none → s.blk.reg Reg.LG_REBASE = 0 →
        Leaves .powerOn s
          ((Block.resetLedger { s.blk with st := .off, engines := s.blk.resetEngines, pins := { s.blk.pins with coreHeld := false } } 3).event
            pgLg 8 0 (2 * 2 ^ 16 + 3) 0)
          fun b => b.st = .off ∧ b.pins.coreHeld = false ∧ b.engines = s.blk.resetEngines)
    ∧ (s.blk.pins.coreHeld = false → ∃ t, exec .coreResetAssert s = .next t ∧ t.blk.pins.coreHeld = true ∧ t.blk.st = .power
        ∧ t.blk.ctxs = [] ∧ t.blk.cmds = [] ∧ t.blk.sems = [] ∧ t.blk.dev = s.blk.dev ∧ t.blk.cinder = s.blk.cinder
        ∧ t.blk.wear = s.blk.wear)

/-- INITIALISATION_END takes the block from OFF to LOAD, with the channels that passed their tests in service (R306, R477). GO_READY
takes it from LOAD to READY, where R480 finds nothing missing: the capability tables are written and KQ0 is ACTIVE for context 0,
which is OPEN (R481); else it writes the reason that R480 gives and stays in LOAD. GO_RUN takes it from READY to RUN with a frame
completion ring, and gives reason 8 without one (R482). -/
def Obligations.StartRows : Prop :=
  ∀ s : State,
    (∀ failed : List (BitVec 16), Runs s → s.blk.st = .off → ∃ t, exec (.initialisationEnd failed) s = .next t ∧ t.blk.st = .load
        ∧ t.blk.chanOk = (List.range s.blk.straps.nStacks).map
            (fun k => (65535 - nth (failed.map (·.toNat)) k % 65536) &&& s.blk.keptChannels k))
    ∧ (∀ path, Takes s path Reg.GLB_CTL → s.blk.st = .load → s.blk.readyCode = 0 →
        Leaves (.goReady path) s s.blk.enterReady
          fun b => b.st = .ready ∧ b.tableGen = 1 ∧ (b.queue 0).st = .active ∧ (b.queue 0).ctx = 0 ∧ (b.ctx 0).st = .opn)
    ∧ (∀ path, Takes s path Reg.GLB_CTL → s.blk.st = .load → s.blk.readyCode ≠ 0 →
        Gives (.goReady path) s (s.blk.setReg Reg.GLB_REFUSE s.blk.readyCode))
    ∧ (∀ path, Takes s path Reg.GLB_CTL → s.blk.st = .ready → s.blk.reg Reg.ZT_FCR_SIZE ≠ 0 →
        Leaves (.goRun path) s (s.blk.enterState .run).lightAll fun b => b.st = .run)
    ∧ (∀ path, Takes s path Reg.GLB_CTL → s.blk.st = .ready → s.blk.reg Reg.ZT_FCR_SIZE = 0 →
        Gives (.goRun path) s (s.blk.setReg Reg.GLB_REFUSE 8))

/-! ### Queues and dispatch -/

/-- A doorbell write of an ACTIVE, HALTED or LOST queue, after LOAD, advances DB_COUNT by the distance of its value from the last
one modulo twice the size of the ring, and the queue's DOORBELL is that value; a value that lies more than the size of the ring
beyond DOORBELL or beyond COMPLETED_INDEX, or is not below twice that size, is rejected and counted in the queue (R90).
RING_READ_COMPLETION takes in the command at FETCHED, of a ring that is read without a fault, where exactly that command is
published, it passes validation, and the waiters and the descriptor cache have room: FETCHED passes it, and it is held as ready (R97,
R98). INDIRECT_RECORD_READ reads the 24 bytes of a launch's record and the launch takes what it names (R133). -/
def Obligations.DoorbellAndFetch : Prop :=
  ∀ s : State,
    (∀ path ctx qidx q m (v : BitVec 32), (path = 1 ∨ path = 2) → s.blk.pathUp path = true → Runs s →
        (s.blk.st = .ready ∨ s.blk.st = .run ∨ s.blk.st = .fault) → s.blk.queueOf? ctx qidx = some q → (s.blk.queue q).takesDb = true →
        m = 2 * (s.blk.queue q).slots →
        (v.toNat % 2 ^ 21 < m → Gives (.doorbellWrite path ctx qidx v) s
          (s.blk.dbSet q ((s.blk.queue q).dbCount + (v.toNat % 2 ^ 21 + m - (s.blk.queue q).doorbell) % m)))
        ∧ (v.toNat % 2 ^ 21 < m → (s.blk.queue q).dbCount + m < 2 ^ 64 →
            (v.toNat % 2 ^ 21 + m - (s.blk.queue q).completed) % m ≤ (s.blk.queue q).slots →
            (v.toNat % 2 ^ 21 + m - (s.blk.queue q).doorbell) % m ≤ (s.blk.queue q).slots →
            ∃ t, exec (.doorbellWrite path ctx qidx v) s = .next t ∧ (t.blk.queue q).doorbell = v.toNat % 2 ^ 21
              ∧ (t.blk.queue q).dbCount = (s.blk.queue q).dbCount + (v.toNat % 2 ^ 21 + m - (s.blk.queue q).doorbell) % m
              ∧ ∀ k, k ≠ q → t.blk.queue k = s.blk.queue k)
        ∧ (v.toNat % 2 ^ 21 < m → (s.blk.queue q).dbCount + m < 2 ^ 64 →
            ((s.blk.queue q).slots < (v.toNat % 2 ^ 21 + m - (s.blk.queue q).completed) % m
              ∨ (s.blk.queue q).slots < (v.toNat % 2 ^ 21 + m - (s.blk.queue q).doorbell) % m) →
            Leaves (.doorbellWrite path ctx qidx v) s (s.blk.dbReject q)
              fun b => b.queue q = { s.blk.queue q with dbRej := satAdd 16 (s.blk.queue q).dbRej 1 })
        ∧ (m ≤ v.toNat % 2 ^ 21 → Leaves (.doorbellWrite path ctx qidx v) s (s.blk.dbReject q)
            fun b => b.queue q = { s.blk.queue q with dbRej := satAdd 16 (s.blk.queue q).dbRej 1 }))
    ∧ (∀ q x b hd bs c p, Runs s → x = s.blk.queue q → s.blk.mayFetch q = true → x.marks = [] → x.halting = none →
        s.blk.cmd? q x.fetched = none → x.fetched < 2 * x.slots →
        b = s.blk.touch x.ctx (x.ringBase + x.fetched % x.slots * 64) (some (.queue q)) → b.down = false → b.mayFetch q = true →
        b.readVa x.ctx (x.ringBase + x.fetched % x.slots * 64) 64 = .ok hd → x.unfetched = slotsAt x.fetched (ofLeBytes (hd.take 8)) →
        b.readVa x.ctx (x.ringBase + x.fetched % x.slots * 64) (64 * x.unfetched) = .ok bs →
        c = { cmdOf q x.fetched (words64 bs) with ctx := x.ctx, qidx := x.qidx, valTime := b.ns } →
        (b.ctx x.ctx).st ≠ .lost → b.validate c (words64 bs) = .ok p → b.waitsSnuffed c = false →
        b.sharedUsed + (b.unmet c).length ≤ Config.numSharedWaiters → b.descsHeld + p.descs.length ≤ Config.descCacheEntries →
        ∃ t, exec (.ringReadCompletion q) s = .next t ∧ (t.blk.queue q).fetched = (x.fetched + x.unfetched) % (2 * x.slots)
          ∧ InPhase q x.fetched .ready t.blk)
    ∧ (∀ q i c a bs, Runs s → s.blk.cmd? q i = some c → c.op = .launchInd a → c.phase = .ready → c.ind = none → c.record = [] →
        s.blk.clear c = true → AtRest s.blk → s.blk.readVa c.ctx a 24 = .ok bs →
        Gives (.indirectRecordRead q i) s
          ((s.blk.modCmd q i fun c => { c with record := words64 bs }).acceptRecord c (words64 bs))
        ∧ (∀ b l p, b = s.blk.modCmd q i (fun c => { c with record := words64 bs }) → l = indirectOf (words64 bs) →
            indirectOk (words64 bs) = true → l.argsOk = true → b.launchPlan c.ctx l [] = .ok p → b.steps89 p = .ok () →
            b.descsHeld + p.descs.length ≤ Config.descCacheEntries →
            ∃ t c', exec (.indirectRecordRead q i) s = .next t ∧ t.blk.cmd? q i = some c' ∧ c'.ind = some l ∧ c'.version = p.version
              ∧ c'.descs = p.descs ∧ c'.phase = .ready))

/-- COMMAND_COMPLETION writes the STATUS byte of a command that has ended and sends its signals, and the command leaves (R23, R86). A
command without entries that ends with OK or OK_EMPTY in ring order leaves the fetched commands, and COMPLETED_INDEX passes it, where
no queue is draining or aborting (R23, R99). CONTEXT_FREED frees the objects of a CLOSING context without a queue, and leaves the context
FREE once nothing of it is left (R40).
A row whose condition does not hold changes nothing (log entry 2, the model's choice). -/
def Obligations.CompletionAndFreeing : Prop :=
  ∀ s : State, Runs s →
    (∀ q i c st b, s.blk.cmd? q i = some c → c.phase = .ended st → c.posted = false → c.stalled = false →
        s.blk.writeStatus q i st = .ok b →
        Gives (.commandCompletion q i) s (b.finishCmd c st)
        ∧ (c.sigs = [] → s.blk.sigsHeld q i = false → st ≤ 1 → (s.blk.queue q).done = [] → (s.blk.queue q).completed = i →
            (s.blk.queues.any fun kv => kv.2.st = .draining ∨ kv.2.st = .aborting) = false →
            (b.finishCmd c st).cmd? q i = none
            ∧ ((b.finishCmd c st).queue q).completed = (i + c.slots) % (2 * (s.blk.queue q).slots)))
    ∧ (∀ q i, s.blk.cmd? q i = none → Gives (.commandCompletion q i) s s.blk)
    ∧ (∀ c, (s.blk.ctx c).st = .closing → s.blk.hasQueue c = false → (s.blk.freeObjects c).empty c = true →
        Leaves (.contextFreed c) s
          (((s.blk.freeObjects c).dropPasid ((s.blk.freeObjects c).ctx c).pasid).setCtx c { ats := ((s.blk.freeObjects c).ctx c).ats })
          fun b => (b.ctx c).st = .free ∧ (b.atsCache.any fun e => e.pasid = ((s.blk.freeObjects c).ctx c).pasid) = false)
    ∧ (∀ c, (s.blk.ctx c).st = .closing → s.blk.hasQueue c = false → (s.blk.freeObjects c).empty c = false →
        Gives (.contextFreed c) s (s.blk.freeObjects c))

/-- LAMPLIGHTER_DECISION dispatches the command that its rows pick and counts the decision (R148, R149); a hot block takes up to 16
launches in one decision of UQ (R186). OCCUPANCY_WINDOW_END shows the occupancy of the window and whether dispatch is
coalesced: from LL_HOT on, and no longer below the smaller of LL_HOT and LL_COOL (R185, R186).
A row whose condition does not hold changes nothing (log entry 2, the model's choice). -/
def Obligations.LamplighterRows : Prop :=
  ∀ s : State, Runs s →
    (∀ row c, s.blk.decides = true → s.blk.calm.pick = some (row, c) →
        ¬(bit (s.blk.calm.reg Reg.LL_OCCUPANCY) 31 = true ∧ (row = 1 ∨ row = 5) ∧ c.coalesces = true) →
        Leaves .lamplighterDecision s
          ((((s.blk.calm.dispatch c).count64 Reg.LL_DECISIONS_LO 1).countDecision (s.blk.calm.queue c.q).cls c.q).traceDecision c false)
          fun b => (∀ x, s.blk.cmd? c.q c.i = some x → InPhase c.q c.i .decided b)
            ∧ b.reg Reg.LL_DECISIONS_LO = (s.blk.reg Reg.LL_DECISIONS_LO + 1) % 2 ^ 32)
    ∧ (∀ row c l, s.blk.decides = true → s.blk.calm.pick = some (row, c) → bit (s.blk.calm.reg Reg.LL_OCCUPANCY) 31 = true →
        (row = 1 ∨ row = 5) → c.coalesces = true → l = s.blk.calm.batch c →
        Gives .lamplighterDecision s
          ((((l.foldl (fun b x => if x.empty then b.dispatch x else (b.dispatch x).enterPlacing x) s.blk.calm).count64 Reg.LL_DECISIONS_LO 1).countDecision
            1 ((l.getLast?.map (·.q)).getD c.q)).traceDecision c true))
    ∧ (s.blk.decides = true → s.blk.calm.pick = none → Gives .lamplighterDecision s s.blk.calm)
    ∧ (s.blk.decides = false → Gives .lamplighterDecision s s.blk)
    ∧ (∀ occ hot cool now, Config.windowCycles ≤ s.blk.ll.winCycles → occ = min 1024 (s.blk.ll.busy / 64) → hot = s.blk.reg Reg.LL_HOT →
        cool = s.blk.reg Reg.LL_COOL →
        now = (if bit (s.blk.reg Reg.LL_OCCUPANCY) 31 then decide (min hot cool ≤ occ) else decide (hot ≤ occ)) → ∃ t,
        exec .occupancyWindowEnd s = .next t ∧ t.blk.reg Reg.LL_OCCUPANCY = ofBit now * 2 ^ 31 + occ
        ∧ t.blk.ll = { s.blk.ll with busy := 0, winCycles := 0 })

/-- NOP completes with OK whatever its entries; WAIT with NWAIT 0, and SIGNAL with NSIG 0, complete with OK_EMPTY (R142); with
entries they complete with OK. -/
def Obligations.NopWaitSignal : Prop :=
  ∀ (s : State) (q i : Nat) (c : Cmd), Runs s → s.blk.cmd? q i = some c → c.stalled = false → c.phase = .decided →
    (c.opcode = 0x00 → c.op = .nop → Leaves (.nop q i) s (s.blk.endCmd q i 0x00) (HasEnded q i 0x00))
    ∧ (c.opcode = 0x30 → c.op = .wait → c.waits = [] → Leaves (.wait q i) s (s.blk.endCmd q i 0x01) (HasEnded q i 0x01))
    ∧ (c.opcode = 0x30 → c.op = .wait → c.waits ≠ [] → Leaves (.wait q i) s (s.blk.endCmd q i 0x00) (HasEnded q i 0x00))
    ∧ (c.opcode = 0x31 → c.op = .signal → c.sigs = [] → Leaves (.signal q i) s (s.blk.endCmd q i 0x01) (HasEnded q i 0x01))
    ∧ (c.opcode = 0x31 → c.op = .signal → c.sigs ≠ [] → Leaves (.signal q i) s (s.blk.endCmd q i 0x00) (HasEnded q i 0x00))

/-! ### Commands -/

/-- A launch goes to its harness (R113, R133, R170, R177). At an ACTIVE harness whose step does not wait (R33) and where no launch waits,
a launch takes the lowest-placed free engines it asks for, is placed on them, and is then the last to have been placed (R169); one
that asks for more engines than the harness has ends with ERR_ARG (R113), and for more than are not bound to tasks with ERR_BUSY (R171).
STOP_PERSIST sets the item at which its task stops, ends at once with ERR_HANDLE where there is no such task, and in MODE 0 unbinds a
task that has no item in hand and whose engines are quiet, and ends with OK (R114, R182). -/
def Obligations.LaunchCommands : Prop :=
  ∀ (s : State) (q i : Nat) (c : Cmd), Runs s →
    (∀ opc r, (opc, r) ∈ [(0x10, Instr.launch q i), (0x11, .launchInd q i), (0x12, .launchPersist q i)] → Decided s q i opc c →
      Gives r s (s.blk.toHal c)
      ∧ (∀ h x l b c', (s.blk.queue q).harness = some h → x = s.blk.harness h → x.st = .active → s.blk.boundaryHeld h = false →
          x.waiting = [] → s.blk.cmds.any (fun x => x.phase = .placing) = false → c.engs = [] → c.launch? = some l →
          b = s.blk.enterPlacing c → c' = { c with phase := .placing } →
          (∀ cs us, cs = (x.cores.filter b.canPlace).take l.cores → us = (x.units.filter b.canPlace).take l.units →
            cs.length = l.cores → us.length = l.units →
            Gives r s (Block.placeN h 1 ((b.reserve c' (cs ++ us)).placeOne { c' with engs := cs ++ us })))
          ∧ (x.cores.length < l.cores ∨ x.units.length < l.units → Leaves r s (b.endCmd q i 0x12) (HasEnded q i 0x12))
          ∧ (l.cores ≤ x.cores.length → l.units ≤ x.units.length →
              (x.cores.filter fun e => !b.isBound e).length < l.cores ∨ (x.units.filter fun e => !b.isBound e).length < l.units →
              Leaves r s (b.endCmd q i 0x14) (HasEnded q i 0x14))))
    ∧ (∀ all id x, Decided s q i 0x13 c → c.op = .stopPersist all id → s.blk.task? c.ctx id = some x →
        Gives (.stopPersist q i) s (s.blk.stopTask c all x)
        ∧ (all = false → x.item = none → x.stopAt = none → x.stops = [] → s.blk.allQuiet x.engs = true →
            (s.blk.stopTask c all x).task? c.ctx id = none ∧ HasEnded q i 0 (s.blk.stopTask c all x)))
    ∧ (∀ all id, Decided s q i 0x13 c → c.op = .stopPersist all id → s.blk.task? c.ctx id = none →
        Leaves (.stopPersist q i) s (s.blk.endCmd q i 0x13) (HasEnded q i 0x13))
    ∧ (∀ all id, Underway s q i 0x13 c → c.op = .stopPersist all id → Gives (.stopPersist q i) s (s.blk.settleTask c.ctx id))

/-- A COPY, once it runs or needs no engine, moves the bytes of its source to its destination and ends with OK (R115); a FILL
writes its pattern there (R110). One that names an engine's space goes to its harness first (R115). -/
def Obligations.CopyAndFill : Prop :=
  ∀ (s : State) (q i : Nat) (c : Cmd), Runs s → c.q = q → c.i = i →
    (∀ src dst len ss ds se de b xs ps, Decided s q i 0x20 c ∨ Underway s q i 0x20 c → (c.phase = .decided → c.needsPlace = false) →
        c.op = .copy src dst len ss ds se de → b = (s.blk.dmaTouch c ss src len).dmaTouch c ds dst len → AtRest b →
        b.dmaRead c ss c.srcEng src len = .ok xs → b.dmaPlaces c ds dst len = .ok ps →
        Leaves (.copy q i) s (((b.countBursts q src dst len ps).dmaWrite ds c.dstEng dst ps xs).endCmd q i 0) (HasEnded q i 0))
    ∧ (∀ dst pattern len width ds e b ps, Decided s q i 0x21 c ∨ Underway s q i 0x21 c → (c.phase = .decided → c.needsPlace = false) →
        c.op = .fill dst pattern len width ds e → b = s.blk.dmaTouch c ds dst len → AtRest b → b.dmaPlaces c ds dst len = .ok ps →
        Leaves (.fill q i) s (((b.countBursts q dst dst len ps).dmaWrite ds c.dstEng dst ps (fillBytes pattern width len)).endCmd q i 0)
          (HasEnded q i 0))
    ∧ (∀ src dst len ss ds se de, Decided s q i 0x20 c → c.needsPlace = true → c.op = .copy src dst len ss ds se de →
        Gives (.copy q i) s (s.blk.toHal c))
    ∧ (∀ dst pattern len width ds e, Decided s q i 0x21 c → c.needsPlace = true → c.op = .fill dst pattern len width ds e →
        Gives (.fill q i) s (s.blk.toHal c))

/-- The memory that a FILL to memory leaves: the bytes of its range hold the pattern, and every other byte of device and host
memory is as it was (R110). -/
def Obligations.FillStores : Prop :=
  ∀ (s : State) (q i : Nat) (c : Cmd) (dst pattern len width e : Nat) (b : Block) (ps : List Phys), Runs s → Decided s q i 0x21 c →
    c.needsPlace = false → c.q = q → c.i = i → c.op = .fill dst pattern len width 0 e →
    b = s.blk.touchRange c.ctx dst len (some (.cmd q i)) → AtRest b → b.resolveN c.ctx needWr true dst len = .ok ps → ps.Nodup →
    (fillBytes pattern width len).length = len →
    ∃ t, exec (.fill q i) s = .next t
      ∧ (∀ k (h : k < ps.length) a, ps[k] = .dev a → Memory.byte t.blk.dev a = (fillBytes pattern width len).getD k 0)
      ∧ (∀ k (h : k < ps.length) a, ps[k] = .host a → Memory.byte t.blk.host a = (fillBytes pattern width len).getD k 0)
      ∧ (∀ a, Phys.dev a ∉ ps → Memory.byte t.blk.dev a = Memory.byte s.blk.dev a)
      ∧ (∀ a, Phys.host a ∉ ps → Memory.byte t.blk.host a = Memory.byte s.blk.host a)

/-- ATOMIC on device memory applies its operation to the eight bytes at its address, in one step, returns what they held to RESULT where
it names one, and ends with OK (R116); on host memory it ends with ERR_ARG. -/
def Obligations.AtomicCommand : Prop :=
  ∀ (s : State) (q i : Nat) (c : Cmd) (aop a x y r : Nat) (b : Block) (ps rs : List Phys), Runs s → Decided s q i 0x22 c →
    c.op = .atomic aop a x y r → b = (s.blk.touch c.ctx a (some (.cmd q i))).touch c.ctx r (some (.cmd q i)) → AtRest b →
    b.resolveN c.ctx needAt false a 8 = .ok ps → (if r = 0 then MRes.ok [] else b.resolveN c.ctx needWr false r 8) = .ok rs →
    (∀ bs, inDev ps = true → inDev rs = true → b.readPlaces ps = .ok bs →
      Leaves (.atomic q i) s
        (((b.putBytes ps (leBytes 8 (atomicResult aop (ofLeBytes bs) x y))).putBytes rs (leBytes 8 (ofLeBytes bs))).endCmd q i 0)
        (HasEnded q i 0))
    ∧ ((inDev ps = false ∨ inDev rs = false) → Leaves (.atomic q i) s (b.endCmd q i 0x12) (HasEnded q i 0x12))

/-- PREFETCH of pages that are all in device memory ends with OK, and one whose migrations have ended does (R292). ADVISE counts in
ZT_ADVISE and ends with OK; advice 1 also asks for the pages that are in host memory (R293). TIMESTAMP writes the fabric time and the
cadence at its start and ends with OK (R118). -/
def Obligations.HintCommands : Prop :=
  ∀ (s : State) (q i : Nat) (c : Cmd), Runs s →
    (∀ a len, Underway s q i 0x24 c → c.op = .prefetch a len → s.blk.faulting (.cmd q i) = false →
        Leaves (.prefetch q i) s (s.blk.endCmd q i 0) (HasEnded q i 0))
    ∧ (∀ a len, Decided s q i 0x24 c → c.op = .prefetch a len → s.blk.hostPages c.ctx a len = [] →
        (s.blk.setRunning q i).faulting (.cmd q i) = false →
        Leaves (.prefetch q i) s ((s.blk.setRunning q i).endCmd q i 0) (HasEnded q i 0))
    ∧ (∀ a len b, Decided s q i 0x24 c → c.op = .prefetch a len →
        b = (s.blk.hostPages c.ctx a len).foldl (fun b p => b.startFault c.ctx p false 1 [.cmd q i] (.cmd q i)) (s.blk.setRunning q i) →
        b.faulting (.cmd q i) = true → Gives (.prefetch q i) s b)
    ∧ (∀ advice a len, Decided s q i 0x25 c → c.op = .advise advice a len → advice ≠ 1 →
        Leaves (.advise q i) s ((s.blk.count Reg.ZT_ADVISE 15 0 1).endCmd q i 0) (HasEnded q i 0))
    ∧ (∀ a len, Decided s q i 0x25 c → c.op = .advise 1 a len →
        Gives (.advise q i) s (((s.blk.count Reg.ZT_ADVISE 15 0 1).willNeed c a len).endCmd q i 0)
        ∧ ((s.blk.count Reg.ZT_ADVISE 15 0 1).hostPages c.ctx a len = [] →
            HasEnded q i 0 (((s.blk.count Reg.ZT_ADVISE 15 0 1).willNeed c a len).endCmd q i 0)))
    ∧ (∀ a t b b', Decided s q i 0x38 c → c.op = .timestamp a → t = s.blk.ns + s.blk.cadence * 2 ^ 64 →
        b = (s.blk.modCmd q i fun c => { c with sample := t }).touch c.ctx a (some (.cmd q i)) → AtRest b →
        b.writeVa c.ctx a (leBytes 8 (t % 2 ^ 64) ++ leBytes 8 (t / 2 ^ 64)) = .ok b' →
        Leaves (.timestamp q i) s (b'.endCmd q i 0) (HasEnded q i 0))

/-- CADENCE_WAIT ends with OK once the cadence has reached TARGET, and sets its queue's anchor; before that it runs (R119).
MARK writes one trace record for its buffer and ends with OK, and requests a global stop where its value is OB_STOP_MARK and that
source is enabled (R120, R447). WATCH reads its tensor and scales and writes 64 bytes (R444). -/
def Obligations.CadenceMarkWatch : Prop :=
  ∀ (s : State) (q i : Nat) (c : Cmd), Runs s → c.q = q → c.i = i →
    (∀ x, Decided s q i 0x39 c → c.op = .cadenceWait x → x ≤ s.blk.cadence →
        Leaves (.cadenceWait q i) s ((s.blk.setQueue q { s.blk.queue q with anchor := x }).endCmd q i 0)
          fun b => HasEnded q i 0 b ∧ (b.queue q).anchor = x)
    ∧ (∀ x, Decided s q i 0x39 c → c.op = .cadenceWait x → s.blk.cadence < x →
        Leaves (.cadenceWait q i) s (s.blk.setRunning q i) (InPhase q i .running))
    ∧ (∀ x, Underway s q i 0x39 c → c.op = .cadenceWait x → x ≤ s.blk.cadence →
        Leaves (.cadenceTargetReached q i) s ((s.blk.setQueue q { s.blk.queue q with anchor := x }).endCmd q i 0)
          fun b => HasEnded q i 0 b ∧ (b.queue q).anchor = x)
    ∧ (∀ x, Underway s q i 0x39 c → c.op = .cadenceWait x → s.blk.cadence < x → Gives (.cadenceTargetReached q i) s s.blk)
    ∧ (∀ k v b, Decided s q i 0x3A c → c.op = .mark k v →
        b = (s.blk.traceAll (fun j _ => decide (j = k)) c.ctx
          (traceRec (s.blk.traceWord0 0x01 c.ctx c.qidx c.i) s.blk.ns v s.blk.cadence)).endCmd q i 0 →
        HasEnded q i 0 b
        ∧ (¬(bit (b.reg Reg.OB_STOP_CTL) 5 = true ∧ v = b.reg Reg.OB_STOP_MARK) → Gives (.mark q i) s b)
        ∧ (bit (b.reg Reg.OB_STOP_CTL) 5 = true → v = b.reg Reg.OB_STOP_MARK → Gives (.mark q i) s (b.requestStop 3)))
    ∧ (∀ mode h r d b xs ys ps, Decided s q i 0x40 c → c.op = .watch mode h r → d = descFor c.descs h →
        b = d.footprint.foldl (fun b x => b.touchRange c.ctx x.1 x.2 (some (.cmd q i))) s.blk → AtRest b →
        b.tensorRows c.ctx d (if d.isEmpty then 0 else d.rows) 0 = .ok xs → b.scaleRows c.ctx d (if d.isEmpty then 0 else d.rows) 0 = .ok ys →
        b.resolveN c.ctx needWr true r 64 = .ok ps →
        Leaves (.watch q i) s (((d.footprint.foldl (fun b x => b.countBursts q x.1 x.1 x.2 []) b).putBytes ps
          (watchResult mode d (xs.zip ys))).endCmd q i 0) (HasEnded q i 0))

/-- SIGNAL_REMOTE counts and leaves by the fabric port, or comes back to a chip that names itself (R117). A remote wick signal
applies as SETMAX to the exported slot its token names, and is dropped and counted with cause 1 where its token names none (R253). A
remote doorbell sets DB_COUNT of an ACTIVE service queue to its value where that is greater and lies within its ring, and is dropped and
counted with cause 2 for any other queue (R96). -/
def Obligations.RemoteRows : Prop :=
  ∀ s : State, Runs s →
    (∀ q i c qd v chip dest, Decided s q i 0x32 c → c.op = .signalRemote qd v chip dest → chip ≠ s.blk.chipId →
        ∃ t, exec (.signalRemote q i) s = .next t
          ∧ t.blk.fabricOut = s.blk.fabricOut ++ [{ chip := chip, qdoor := qd, dest := dest, value := v }] ∧ HasEnded q i 0 t.blk
          ∧ t.blk = Block.endCmd { s.blk.count32 Reg.FP_SENT with
              fabricOut := s.blk.fabricOut ++ [{ chip := chip, qdoor := qd, dest := dest, value := v }] } q i 0)
    ∧ (∀ q i c v chip dest, Decided s q i 0x32 c → c.op = .signalRemote false v chip dest → chip = s.blk.chipId →
        Gives (.signalRemote q i) s (((s.blk.count32 Reg.FP_SENT).recvWick dest v).endCmd q i 0))
    ∧ (∀ q i c v chip dest, Decided s q i 0x32 c → c.op = .signalRemote true v chip dest → chip = s.blk.chipId →
        Gives (.signalRemote q i) s (((s.blk.count32 Reg.FP_SENT).recvDoor (dest % 4096) v).endCmd q i 0))
    ∧ (∀ (token v : BitVec 64) b k, b = s.blk.count32 Reg.FP_RECV → token.toNat / 2 ^ 32 = b.reg Reg.WK_INCARNATION →
        b.tokenSlot? (token.toNat % 2 ^ 32) = some k →
        Gives (.remoteWickSignal token v) s ((b.sigSlot k true v.toNat).settleWicks b [k])
        ∧ ((b.slot k).snuffed = false → b.paced k true v.toNat = none →
            (((b.sigSlot k true v.toNat).settleWicks b [k]).slot k).value = max (s.blk.slot k).value v.toNat))
    ∧ (∀ (token v : BitVec 64) b, b = s.blk.count32 Reg.FP_RECV →
        (token.toNat / 2 ^ 32 ≠ b.reg Reg.WK_INCARNATION ∨ b.tokenSlot? (token.toNat % 2 ^ 32) = none) →
        Leaves (.remoteWickSignal token v) s (b.fabricDrop 1 (token.toNat % 2 ^ 32 % 2 ^ 17))
          fun b' => b'.slots = s.blk.slots ∧ b'.ledger = { s.blk.ledger with issued := s.blk.ledger.issued + 1, remote := s.blk.ledger.remote + 1 })
    ∧ (∀ q (v : BitVec 64), (s.blk.queue q).st = .active → (s.blk.queue q).svc = true → (s.blk.queue q).dbCount < v.toNat →
        (v.toNat % (2 * (s.blk.queue q).slots) + 2 * (s.blk.queue q).slots - (s.blk.queue q).completed) % (2 * (s.blk.queue q).slots)
          ≤ (s.blk.queue q).slots →
        (v.toNat % (2 * (s.blk.queue q).slots) + 2 * (s.blk.queue q).slots - (s.blk.queue q).doorbell) % (2 * (s.blk.queue q).slots)
          ≤ (s.blk.queue q).slots →
        ∃ t, exec (.remoteDoorbellSignal q v) s = .next t ∧ (t.blk.queue q).dbCount = v.toNat ∧ ∀ k, k ≠ q → t.blk.queue k = s.blk.queue k)
    ∧ (∀ q (v : BitVec 64), (s.blk.queue q).st = .active → (s.blk.queue q).svc = true → v.toNat ≤ (s.blk.queue q).dbCount →
        Leaves (.remoteDoorbellSignal q v) s
          ((s.blk.count32 Reg.FP_RECV).ledgerTerm fun l => { l with issued := l.issued + 1, applied := l.applied + 1 })
          fun b => b.queues = s.blk.queues)
    ∧ (∀ q (v : BitVec 64), ((s.blk.queue q).svc = false ∨ (s.blk.queue q).st ≠ .active) →
        Leaves (.remoteDoorbellSignal q v) s ((s.blk.count32 Reg.FP_RECV).fabricDrop 2 q) fun b => b.queues = s.blk.queues)

/-- MAP of an OPEN context: one that meets a mapping of its context ends with ERR_ARG (R273); one whose tables find no frame in its
pool ends with ERR_BUSY (R121); any other adds its mapping under the next identifier and ends with OK. UNMAP of nothing ends with
ERR_HANDLE; of a mapping without pins and without a page on the move, whose entries can leave, it takes the mapping away and ends
with OK (R295). INV_RANGE ends with OK once its mappings hold no pin and no entry of a walked range is left (R294). -/
def Obligations.MappingCommands : Prop :=
  ∀ (s : State) (q i : Nat) (c : Cmd), Runs s → c.q = q → c.i = i →
    (∀ m, Decided s q i 0x80 c → c.op = .map m → OpenFor s m.ctx →
        (s.blk.maps.any fun x => x.ctx = m.ctx ∧ overlaps x.va x.len m.va m.len) = true →
        Leaves (.map q i) s (s.blk.endCmd q i 0x12) (HasEnded q i 0x12))
    ∧ (∀ m, Decided s q i 0x80 c → c.op = .map m → OpenFor s m.ctx →
        (s.blk.maps.any fun x => x.ctx = m.ctx ∧ overlaps x.va x.len m.va m.len) = false → (s.blk.ctx m.ctx).ats = false →
        (s.blk.pool (s.blk.field Reg.ZT_CTL 11 8)).length < s.blk.tablesNeeded m.ctx m.len m.backed →
        Leaves (.map q i) s (s.blk.endCmd q i 0x14) (HasEnded q i 0x14))
    ∧ (∀ m, Decided s q i 0x80 c → c.op = .map m → OpenFor s m.ctx →
        (s.blk.maps.any fun x => x.ctx = m.ctx ∧ overlaps x.va x.len m.va m.len) = false →
        ((s.blk.ctx m.ctx).ats = true ∨
          s.blk.tablesNeeded m.ctx m.len m.backed ≤ (s.blk.pool (s.blk.field Reg.ZT_CTL 11 8)).length) →
        ∃ t, exec (.map q i) s = .next t ∧ HasEnded q i 0 t.blk
          ∧ ∃ x ∈ t.blk.maps, x.id = s.blk.nextMap ∧ x.ctx = m.ctx ∧ x.va = m.va ∧ x.len = m.len ∧ x.rd = m.rd ∧ x.wr = m.wr ∧ x.at_ = m.at_
            ∧ x.sharedRo = m.sharedRo ∧ x.backed = m.backed ∧ x.pins = 0)
    ∧ (∀ t va, Decided s q i 0x81 c → c.op = .unmap t va → OpenFor s t → (s.blk.maps.find? fun m => m.ctx = t ∧ m.va = va) = none →
        Leaves (.unmap q i) s (s.blk.endCmd q i 0x13) (HasEnded q i 0x13))
    ∧ (∀ t va m b m' r c', Decided s q i 0x81 c → c.op = .unmap t va → OpenFor s t →
        (s.blk.maps.find? fun m => m.ctx = t ∧ m.va = va) = some m →
        b = (s.blk.modCmd q i fun c => { c with phase := .running, left := [(m.id, 0)] }).stopPins [m.id] → b.map? m.id = some m' →
        m'.pins = 0 → m'.movesIn 0 (2 ^ 65) = false → r = (b.unmapWork m.id 2).unmapEnd m.id → r.1 = true →
        r.2.cmd? q i = some c' → c'.phase = .running →
        Leaves (.unmap q i) s (r.2.bumpEpoch.endCmd q i 0) fun b => HasEnded q i 0 b ∧ b.map? m.id = none)
    ∧ (∀ t va m id l n r c', Underway s q i 0x81 c → c.op = .unmap t va → OpenFor s t → c.left = (id, n) :: l → s.blk.map? id = some m →
        m.pins = 0 → m.movesIn 0 (2 ^ 65) = false → r = (s.blk.unmapWork id 2).unmapEnd id → r.1 = true → r.2.cmd? q i = some c' →
        c'.phase = .running → Leaves (.unmap q i) s (r.2.bumpEpoch.endCmd q i 0) fun b => HasEnded q i 0 b ∧ b.map? id = none)
    ∧ (∀ t va m id n l, Underway s q i 0x81 c → c.op = .unmap t va → OpenFor s t → c.left = (id, n) :: l → s.blk.map? id = some m →
        m.pins ≠ 0 → Gives (.unmap q i) s s.blk)
    ∧ (∀ t va len b c', Underway s q i 0x82 c → c.op = .invRange t va len → OpenFor s t →
        (∀ m ∈ s.blk.maps, m.id ∈ c.left.map (·.1) → m.pins = 0 ∧ m.movesIn va (va + len) = false) →
        b = (c.left.map (·.1)).foldl (fun b id => b.demote id 3 va (va + len)) (s.blk.dropRange t va len) →
        (c.left.map (·.1)).any b.entriesLeft = false → b.cmd? q i = some c' → c'.phase = .running →
        Leaves (.invRange q i) s ((b.takePins (c.left.map (·.1))).bumpEpoch.endCmd q i 0) (HasEnded q i 0))
    ∧ (∀ t va len, Decided s q i 0x82 c → c.op = .invRange t va len → OpenFor s t →
        (∀ m ∈ s.blk.maps, m.ctx = t → ¬(m.va < va + len ∧ va < m.va + m.len)) →
        ∃ t, exec (.invRange q i) s = .next t ∧ HasEnded q i 0 t.blk)

/-- QUEUE_CREATE with arguments that pass R48's checks makes its queue, ACTIVE and as its arguments say, in the first hardware queue
that is UNUSED, and ends with OK; a FREE context is opened by it (R39). With no queue free it ends with ERR_BUSY, and with an argument
out of its range with the status that R48 gives it. QUEUE_DESTROY of no queue ends with ERR_HANDLE (R124). Of an ACTIVE queue of a
context that has another live queue, in mode DRAIN, with no command of it fetched and no marker to write, it leaves the queue UNUSED
and ends with OK; with commands fetched it leaves the queue DRAINING and runs on (R55). -/
def Obligations.QueueCommands : Prop :=
  ∀ (s : State) (q i : Nat) (c : Cmd), Runs s → c.q = q → c.i = i →
    (∀ p u k b, Decided s q i 0x88 c → c.op = .queueCreate p → (OpenFor s p.ctx ∨ (s.blk.ctx p.ctx).st = .free) →
        s.blk.queueArgs p c.stallUs = .ok u → s.blk.queueRoom p = true → (s.blk.bootmap = true → p.ctx = 0) → s.blk.freeQueue? = some k →
        b = (if (s.blk.ctx p.ctx).st = .free then s.blk.openCtx p.ctx p.pasid p.stallUs else s.blk) →
        Leaves (.queueCreate q i) s ((b.createQueue p).endCmd q i 0) fun b => HasEnded q i 0 b ∧ (b.ctx p.ctx).st = .opn
          ∧ (b.queue k).st = .active ∧ (b.queue k).ctx = p.ctx ∧ (b.queue k).qidx = p.qidx ∧ (b.queue k).cls = p.cls
          ∧ (b.queue k).svc = p.svc ∧ (b.queue k).ringBase = p.ringBase ∧ (b.queue k).ringLog2 = p.ringLog2
          ∧ (b.queue k).harness = some p.harness ∧ (b.queue k).dbCount = p.start)
    ∧ (∀ p u, Decided s q i 0x88 c → c.op = .queueCreate p → OpenFor s p.ctx → s.blk.queueArgs p c.stallUs = .ok u →
        s.blk.queueRoom p = false → Leaves (.queueCreate q i) s (s.blk.endCmd q i 0x14) (HasEnded q i 0x14))
    ∧ (∀ p st, Decided s q i 0x88 c → c.op = .queueCreate p → OpenFor s p.ctx → s.blk.queueArgs p c.stallUs = .bad st →
        Leaves (.queueCreate q i) s (s.blk.endCmd q i st) (HasEnded q i st))
    ∧ (∀ t k a, Decided s q i 0x89 c → c.op = .queueDestroy t k a → OpenFor s t → s.blk.queueOf? t k = none →
        Leaves (.queueDestroy q i) s (s.blk.endCmd q i 0x13) (HasEnded q i 0x13))
    ∧ (∀ t k x b, Decided s q i 0x89 c → c.op = .queueDestroy t k false → OpenFor s t → s.blk.queueOf? t k = some x →
        (s.blk.queue x).st = .active → (s.blk.queue x).ctx = t → (s.blk.queue x).qidx = k → x ≠ q →
        b = Block.setQueue { s.blk.setRunning q i with waitHold := s.blk.waitHold.filter (· ≠ x) } x { s.blk.queue x with st := .draining } →
        b.hasLiveQueue t = true →
        (s.blk.inflight x ≠ 0 → Leaves (.queueDestroy q i) s b.fixDeadlines fun b => (b.queue x).st = .draining ∧ InPhase q i .running b)
        ∧ (s.blk.inflight x = 0 → (s.blk.queue x).marks = [] →
            ∃ t, exec (.queueDestroy q i) s = .next t ∧ (t.blk.queue x).st = .unused ∧ HasEnded q i 0 t.blk))
    ∧ (∀ t k a, Underway s q i 0x89 c → c.op = .queueDestroy t k a → OpenFor s t → s.blk.queueOf? t k = none →
        Leaves (.queueDestroy q i) s (s.blk.endCmd q i 0) (HasEnded q i 0))

/-- HARNESS_GROW with another home mask or RT flag than its harness has ends with ERR_ARG, and with too few free engines or into the
RT reserve with ERR_BUSY (R59, R61); otherwise the engines it takes, nearest to the home mask first, are the harness's. It ends
with OK where they are all lit, or in READY; else it runs on until they are. HARNESS_SHRINK of more engines than the harness
has ends with ERR_ARG; otherwise the last engines of the harness's order leave it, and it ends with OK when they hold no work (R60). -/
def Obligations.HarnessCommands : Prop :=
  ∀ (s : State) (q i : Nat) (c : Cmd), Runs s → c.q = q → c.i = i →
    (∀ h cores units home rt, Decided s q i 0x8A c → c.op = .harnessGrow h cores units home rt → (s.blk.harness h).st = .active →
        (home ≠ (s.blk.harness h).home ∨ rt ≠ (s.blk.harness h).rt) →
        Leaves (.harnessGrow q i) s (s.blk.endCmd q i 0x12) (HasEnded q i 0x12))
    ∧ (∀ h cores units home rt, Decided s q i 0x8A c → c.op = .harnessGrow h cores units home rt → (s.blk.harness h).st = .free →
        ((s.blk.spareEngs true).length < cores ∨ (s.blk.spareEngs false).length < units) →
        Leaves (.harnessGrow q i) s (s.blk.endCmd q i 0x14) (HasEnded q i 0x14))
    ∧ (∀ h cores units home rt near es b, Decided s q i 0x8A c → c.op = .harnessGrow h cores units home rt →
        ((s.blk.harness h).st = .free ∨ (s.blk.harness h).st = .active ∧ home = (s.blk.harness h).home ∧ rt = (s.blk.harness h).rt) →
        cores ≤ (s.blk.spareEngs true).length → units ≤ (s.blk.spareEngs false).length →
        (rt = true ∨ s.blk.field Reg.RT_RESERVE_CORES 8 0 + cores ≤ (s.blk.spareEngs true).length + s.blk.rtHeld true
          ∧ s.blk.field Reg.RT_RESERVE_UNITS 8 0 + units ≤ (s.blk.spareEngs false).length + s.blk.rtHeld false) →
        near = (fun e => (if bit home (s.blk.nearStack e) then 0 else 2 ^ 20) + e) →
        es = (sortBy near (s.blk.spareEngs true)).take cores ++ (sortBy near (s.blk.spareEngs false)).take units →
        b = es.foldl (fun b e => b.setEng e { b.eng e with harness := some h }) s.blk →
        (s.blk.st = .ready ∨ (es.all fun e => (b.eng e).lit) = true →
          ∃ b', Gives (.harnessGrow q i) s (b'.placeAll h) ∧ HasEnded q i 0 b' ∧ (b'.harness h).st = .active
            ∧ ∀ e ∈ es, (b'.eng e).harness = some h)
        ∧ (s.blk.st = .run → (es.all fun e => (b.eng e).lit) = false →
          ∃ t, exec (.harnessGrow q i) s = .next t ∧ InPhase q i .running t.blk ∧ (t.blk.harness h).st = .active
            ∧ ∀ e ∈ es, (t.blk.eng e).harness = some h))
    ∧ (∀ h cores units home rt, Underway s q i 0x8A c → c.op = .harnessGrow h cores units home rt →
        (c.left.all fun x => (s.blk.eng x.1).lit) = true → Leaves (.harnessGrow q i) s s.blk.settleGrow (HasEnded q i 0))
    ∧ (∀ h cores units, Decided s q i 0x8B c → c.op = .harnessShrink h cores units →
        ((s.blk.harness h).cores.length < cores ∨ (s.blk.harness h).units.length < units) →
        Leaves (.harnessShrink q i) s (s.blk.endCmd q i 0x12) (HasEnded q i 0x12))
    ∧ (∀ h cores units x es, Decided s q i 0x8B c → c.op = .harnessShrink h cores units → x = s.blk.harness h → x.rt = false →
        x.waiting = [] → cores < x.cores.length → units ≤ x.units.length →
        es = x.cores.drop (x.cores.length - cores) ++ x.units.drop (x.units.length - units) →
        (∀ e ∈ es, (s.blk.eng e).use = .free ∧ (s.blk.eng e).draining = false) →
        ∃ b', Gives (.harnessShrink q i) s (b'.placeAll h) ∧ HasEnded q i 0 b' ∧ (b'.harness h).cores = x.cores.take (x.cores.length - cores)
          ∧ (b'.harness h).units = x.units.take (x.units.length - units) ∧ ∀ e ∈ es, (b'.eng e).harness = none)
    ∧ (∀ h cores units, Underway s q i 0x8B c → c.op = .harnessShrink h cores units →
        (c.left.any fun x => decide ((s.blk.eng x.1).use ≠ .free) || (s.blk.eng x.1).draining) = true →
        Gives (.harnessShrink q i) s s.blk)
    ∧ (∀ h cores units, Underway s q i 0x8B c → c.op = .harnessShrink h cores units →
        (c.left.all fun x => decide ((s.blk.eng x.1).use = .free) && !(s.blk.eng x.1).draining) = true →
        Leaves (.harnessShrink q i) s (s.blk.endShrink c h) fun b => HasEnded q i 0 b ∧ ∀ x ∈ c.left, (b.eng x.1).harness = none)

/-- LIST_LOAD and LIST_PATCH of a list that conflicts end with the status of the conflict (R214). An image whose version is there
goes, once it is read and passes R210's checks, to the security block, and the command waits for the verdict; one that
fails the checks ends with ERR_ARG (R209, R210). The verdict makes the version CURRENT and ends the command with OK, where no launch
holds a version to be replaced in place, or refuses it with ERR_ARG. LIST_RETIRE of a list without an epoch ends with ERR_HANDLE, of one
with a version loading with ERR_BUSY; otherwise no version of the list is CURRENT and it ends with OK (R72). An uncorrectable error in
the stitch cache breaks a version without a user, and it leaves the cache at once (R218). -/
def Obligations.ListCommands : Prop :=
  ∀ (s : State) (q i : Nat) (c : Cmd), Runs s → c.q = q → c.i = i →
    (∀ t l a len st, Decided s q i 0x90 c → c.op = .listLoad t l a len → OpenFor s t → c.sample ≠ 1 → c.version = none →
        s.blk.listConflict t l false false = some st → Leaves (.listLoad q i) s (s.blk.endCmd q i st) (HasEnded q i st))
    ∧ (∀ t l a len p st, Decided s q i 0x91 c → c.op = .listPatch t l a len p → OpenFor s t → c.sample ≠ 1 → c.version = none →
        s.blk.listConflict t l true p = some st → Leaves (.listPatch q i) s (s.blk.endCmd q i st) (HasEnded q i st))
    ∧ (∀ t l a len h b b', Decided s q i 0x90 c → c.op = .listLoad t l a len → OpenFor s t → c.sample ≠ 1 → c.version = none →
        s.blk.listConflict t l false false = none → b = s.blk.touchRange t a len (some (.cmd q i)) → AtRest b →
        b.readVa t a 64 = .ok h → b' = b.countBursts q a a 64 [] →
        (imageHeaderOk (words64 h) len = false → Leaves (.listLoad q i) s (b'.endCmd q i 0x12) (HasEnded q i 0x12))
        ∧ (imageHeaderOk (words64 h) len = true → Config.stitchCacheBytes < b'.cacheUsed + cacheBytes (imgField h 8 4) →
            Leaves (.listLoad q i) s (b'.endCmd q i 0x14) (HasEnded q i 0x14)))
    ∧ (∀ t l e a len bs sum n, (Underway s q i 0x90 c ∧ c.op = .listLoad t l a len ∧ n = Instr.listLoad q i
          ∨ ∃ p, Underway s q i 0x91 c ∧ c.op = .listPatch t l a len p ∧ n = Instr.listPatch q i) →
        OpenFor s t → c.sample ≠ 1 → c.version = some (l, e) → AtRest s.blk → s.blk.readVa t a len = .ok bs →
        (checkStream ((bs.drop 0x40).take (imgField bs 8 4)) (imgField bs 0x0C 4) = some sum →
          ∃ t c', exec n s = .next t ∧ t.blk.secOut = bs ∧ t.blk.cmd? q i = some c' ∧ c'.sample = 1 ∧ c'.phase = .running)
        ∧ (checkStream ((bs.drop 0x40).take (imgField bs 8 4)) (imgField bs 0x0C 4) = none →
          ∃ t', exec n s = .next t' ∧ HasEnded q i 0x12 t'.blk ∧ t'.blk.version? t l e = none))
    ∧ (∀ t l, Decided s q i 0x92 c → c.op = .listRetire t l → OpenFor s t → s.blk.epochOf t l = 0 →
        Leaves (.listRetire q i) s (s.blk.endCmd q i 0x13) (HasEnded q i 0x13))
    ∧ (∀ t l, Decided s q i 0x92 c → c.op = .listRetire t l → OpenFor s t → s.blk.epochOf t l ≠ 0 →
        ((s.blk.versionsOf t l).any fun v => v.st = .loading) = true →
        Leaves (.listRetire q i) s (s.blk.endCmd q i 0x14) (HasEnded q i 0x14))
    ∧ (∀ t l, Decided s q i 0x92 c → c.op = .listRetire t l → OpenFor s t → s.blk.epochOf t l ≠ 0 →
        ((s.blk.versionsOf t l).any fun v => v.st = .loading) = false →
        Leaves (.listRetire q i) s ((Block.reapVersions { s.blk with
          versions := mapIf (fun v => v.ctx = t ∧ v.listId = l) (fun v => { v with st := .superseded }) s.blk.versions
          retired := dedup (s.blk.retired ++ [t * 65536 + l]) }).endCmd q i 0)
          fun b => HasEnded q i 0 b ∧ ∀ v ∈ b.versions, v.ctx = t → v.listId = l → v.st = .superseded)
    ∧ (∀ ok v, s.blk.atSecurity = some (c, v) → s.blk.cmd? q i = some c →
        Leaves (.listVerdict ok true) s ((s.blk.dropLoadOf c).endCmd q i 0x12) (HasEnded q i 0x12))
    ∧ (∀ v, s.blk.atSecurity = some (c, v) → s.blk.cmd? q i = some c → v.inPlace = false → v.broken = false →
        ∃ t, exec (.listVerdict true false) s = .next t ∧ HasEnded q i 0 t.blk
          ∧ ∃ x ∈ t.blk.versions, x.ctx = v.ctx ∧ x.listId = v.listId ∧ x.epoch = v.epoch ∧ x.st = .current)
    ∧ (∀ t l e v, s.blk.version? t l e = some v → v.broken = false → (∀ x ∈ s.blk.versions, x.st ≠ .loading) → s.blk.cmds = [] → s.blk.tasks = [] →
        ∃ t', exec (.stitchCacheUe t l e) s = .next t' ∧ t'.blk.version? t l e = none)

/-- WICK_ALLOC of a free virtual ID takes the lowest free slot, with its value, and ends with OK; with none free it ends with ERR_BUSY
(R67). WICK_FREE of a free virtual ID ends with ERR_HANDLE, of one that a waiter or an uncompleted
command of its context names with ERR_BUSY, otherwise it frees the virtual ID and ends with OK (R68). WICK_EXPORT writes the token of an
owned slot, marks the slot exported and ends with OK; of an imported one it ends with ERR_ARG (R69, R254). -/
def Obligations.WickCommands : Prop :=
  ∀ (s : State) (q i : Nat) (c : Cmd), Runs s →
    (∀ t v x k, Decided s q i 0xA0 c → c.op = .wickAlloc t v x → OpenFor s t → s.blk.vid t v = .free → s.blk.freeSlot? = some k →
        Leaves (.wickAlloc q i) s ((s.blk.allocVid t v k x).endCmd q i 0)
          fun b => HasEnded q i 0 b ∧ b.vid t v = .owned k ∧ (b.slot k).alloc = true ∧ (b.slot k).value = x ∧ (b.slot k).owner = some (t, v))
    ∧ (∀ t v x, Decided s q i 0xA0 c → c.op = .wickAlloc t v x → OpenFor s t → s.blk.freeSlot? = none →
        Leaves (.wickAlloc q i) s (s.blk.endCmd q i 0x14) (HasEnded q i 0x14))
    ∧ (∀ t v, Decided s q i 0xA1 c → c.op = .wickFree t v → OpenFor s t → s.blk.vid t v = .free →
        Leaves (.wickFree q i) s (s.blk.endCmd q i 0x13) (HasEnded q i 0x13))
    ∧ (∀ t v, Decided s q i 0xA1 c → c.op = .wickFree t v → OpenFor s t → s.blk.vid t v ≠ .free → s.blk.vidNamed t v = true →
        Leaves (.wickFree q i) s (s.blk.endCmd q i 0x14) (HasEnded q i 0x14))
    ∧ (∀ t v, Decided s q i 0xA1 c → c.op = .wickFree t v → OpenFor s t → s.blk.vid t v ≠ .free → s.blk.vidNamed t v = false →
        Leaves (.wickFree q i) s ((s.blk.freeVid t v).endCmd q i 0) fun b => HasEnded q i 0 b ∧ b.vid t v = .free)
    ∧ (∀ t v a k r, Decided s q i 0xA2 c → c.op = .wickExport t v a → OpenFor s t → s.blk.vid t v = .imported k r →
        Leaves (.wickExport q i) s (s.blk.endCmd q i 0x12) (HasEnded q i 0x12))
    ∧ (∀ t v a k b b', Decided s q i 0xA2 c → c.op = .wickExport t v a → OpenFor s t → s.blk.vid t v = .owned k →
        b = s.blk.touch t a (some (.cmd q i)) → AtRest b → b.writeVa t a (leBytes 8 (b.token k)) = .ok b' →
        Leaves (.wickExport q i) s ((b'.setSlot k { b'.slot k with exported := true, everExported := true }).endCmd q i 0)
          fun b => HasEnded q i 0 b ∧ (b.slot k).exported = true)

/-- CTX_SAVE of an OPEN context without work writes its image, clears its debug bit and its bounds, and leaves it SAVED; with too short a
range it ends with ERR_ARG and with work with ERR_BUSY (R126, R260). CTX_RESTORE of an OPEN context ends with ERR_BUSY, of
a range below 4,096 bytes with ERR_ARG; of a SAVED context, an image of this chip that passes the checks of its records and finds
free slots enough leaves the context OPEN and ends with OK (R126, R262). FRAME_SUPPLY gives all its frames to their pool, or none
(R128, R287). -/
def Obligations.ContextCommands : Prop :=
  ∀ (s : State) (q i : Nat) (c : Cmd), Runs s → c.q = q → c.i = i →
    (∀ t a len, Decided s q i 0xB0 c → c.op = .ctxSave t a len → OpenFor s t → len < s.blk.saveLen t →
        Leaves (.ctxSave q i) s (s.blk.endCmd q i 0x12) (HasEnded q i 0x12))
    ∧ (∀ t a len, Decided s q i 0xB0 c → c.op = .ctxSave t a len → OpenFor s t → s.blk.saveLen t ≤ len →
        (s.blk.cmds.any (·.ctx = t) = true ∨ s.blk.tasks.any (·.ctx = t) = true) →
        Leaves (.ctxSave q i) s (s.blk.endCmd q i 0x14) (HasEnded q i 0x14))
    ∧ (∀ t a len b ps b', Decided s q i 0xB0 c → c.op = .ctxSave t a len → OpenFor s t → s.blk.saveLen t ≤ len →
        s.blk.cmds.any (·.ctx = t) = false → s.blk.tasks.any (·.ctx = t) = false →
        b = s.blk.touchRange t a (s.blk.saveLen t) (some (.cmd q i)) → AtRest b →
        b.resolveN t needWr true a (s.blk.saveLen t) = .ok ps →
        b' = ((((b.putBytes ps (b.image t)).countBursts q a a (s.blk.saveLen t) ps).saveWicks t).dropBounds (·.ctx = t)).dropCommits
          (·.commitCtx = t) →
        Leaves (.ctxSave q i) s ((b'.setCtx t { b'.ctx t with st := .saved, debug := false }).endCmd q i 0)
          fun b => HasEnded q i 0 b ∧ (b.ctx t).st = .saved ∧ (b.ctx t).debug = false)
    ∧ (∀ t a len, Decided s q i 0xB1 c → c.op = .ctxRestore t a len → OpenFor s t →
        Leaves (.ctxRestore q i) s (s.blk.endCmd q i 0x14) (HasEnded q i 0x14))
    ∧ (∀ t a len, Decided s q i 0xB1 c → c.op = .ctxRestore t a len → (s.blk.ctx t).st = .saved → len < 4096 →
        Leaves (.ctxRestore q i) s (s.blk.endCmd q i 0x12) (HasEnded q i 0x12))
    ∧ (∀ t a len b b' h bs, Decided s q i 0xB1 c → c.op = .ctxRestore t a len → (s.blk.ctx t).st = .saved → 4096 ≤ len →
        b = s.blk.touchRange (s.blk.addrCtx c) a 4096 (some (.cmd q i)) → AtRest b →
        b.readVa (s.blk.addrCtx c) a 4096 = .ok h → headOk h len = true →
        b' = b.touchRange (s.blk.addrCtx c) a (imgField h 0 8) (some (.cmd q i)) → AtRest b' →
        b'.readVa (s.blk.addrCtx c) a (imgField h 0 8) = .ok bs →
        imgField bs 8 4 = s.blk.chipId → (List.range (imgField bs 0x10 4)).all (qRecOk bs) = true →
        wRecsOk ((List.range (imgField bs 0x0C 4)).map (wRecOf bs (imgField bs 0x10 4))) = true →
        s.blk.slotsNeeded (imgField bs 0x18 4) true ((List.range (imgField bs 0x0C 4)).map (wRecOf bs (imgField bs 0x10 4))) ≤ s.blk.freeSlots →
        ∃ t', exec (.ctxRestore q i) s = .next t' ∧ HasEnded q i 0 t'.blk ∧ (t'.blk.ctx t).st = .opn)
    ∧ (∀ p a n bs b b', Decided s q i 0xC0 c → c.op = .frameSupply p a n → b = s.blk.touchRange c.ctx a (8 * n) (some (.cmd q i)) →
        AtRest b → b.readVa c.ctx a (8 * n) = .ok bs → b' = b.countBursts q a a (8 * n) [] →
        ((words64 bs).all b'.frameOk = false → Leaves (.frameSupply q i) s (b'.endCmd q i 0x12) (HasEnded q i 0x12))
        ∧ ((words64 bs).all b'.frameOk = true → b'.poolRoom p < n → Leaves (.frameSupply q i) s (b'.endCmd q i 0x14) (HasEnded q i 0x14))
        ∧ ((words64 bs).all b'.frameOk = true → n ≤ b'.poolRoom p →
            Leaves (.frameSupply q i) s ((((b'.setPool p (b'.pool p ++ words64 bs)).ledgerTerm fun l => { l with
              supplied := Tab.set (fun _ => 0) l.supplied p (Tab.get (fun _ => 0) l.supplied p + n) }).resumeFrames).endCmd q i 0)
              (HasEnded q i 0)))

/-! ### Engines, work and stalls -/

/-- LAUNCH_PLACEMENT places the one command that waits in an ACTIVE harness on the engines that are chosen for it (R170): they are
the command's, and it runs at once, a launch with its lanes open (R205, R206), unless one of them must be cleared first (R303); a launch
whose engines have no stitch in the list ends with OK. ENGINE_SPACE_CLEAR_DONE leaves no word of the two spaces of an engine, so
that each reads zero, and takes its marks away (R303). LIGHTING_GROUP_START and WAKE_GROUP_START light and wake their group, with its
grant and its spacing (R187, R189), POWER_GRANT gives the grant to the first group (R523), and GRANT_WAIT_TIMEOUT raises its event once
(R34). A row whose condition does not hold changes nothing (log entry 2, the model's choice). -/
def Obligations.HalRows : Prop :=
  ∀ s : State, Runs s →
    (∀ h q i (c : Cmd) es b, (s.blk.harness h).st = .active → s.blk.boundaryHeld h = false → (∀ x ∈ s.blk.cmds, x.phase = .placing → x.engs = []) →
        (s.blk.harness h).waiting = [(q, i)] → s.blk.cmd? q i = some c → c.phase = .placing → s.blk.placeStatus h c = none →
        s.blk.choose h c = some es → es ≠ [] → b = s.blk.reserve c es →
        ((es.any fun e => (b.eng e).clearing) = true →
          Leaves (.launchPlacement h) s b fun b => (∀ e ∈ es, (b.eng e).use = .cmd q i) ∧ ∃ c', b.cmd? q i = some c' ∧ c'.engs = es)
        ∧ ((es.any fun e => (b.eng e).clearing) = false → c.launch? = none →
          ∃ t, exec (.launchPlacement h) s = .next t ∧ InPhase q i .running t.blk ∧ ∀ e ∈ es, (t.blk.eng e).use = .cmd q i)
        ∧ (∀ l : LaunchP, (es.any fun e => (b.eng e).clearing) = false → (∀ t p r w n, c.op ≠ .launchPersist t p r w n) → c.launch? = some l →
          (s.blk.invsOf c.ctx (c.version.getD (0, 0)) es l.reps).all (·.2 = 0) = true →
          ∃ t, exec (.launchPlacement h) s = .next t ∧ HasEnded q i 0 t.blk))
    ∧ (∀ h q i c st, (s.blk.harness h).st = .active → s.blk.boundaryHeld h = false →
        (∀ x ∈ s.blk.cmds, x.phase = .placing → x.engs = []) → (s.blk.harness h).waiting = [(q, i)] → s.blk.cmd? q i = some c →
        c.phase = .placing → s.blk.placeStatus h c = some st → Leaves (.launchPlacement h) s (s.blk.endCmd q i st) (HasEnded q i st))
    ∧ (∀ h, (s.blk.harness h).st ≠ .active → Gives (.launchPlacement h) s s.blk)
    ∧ (∀ e, (s.blk.eng e).clearing = true → (s.blk.eng e).use = .free →
        Leaves (.engineSpaceClearDone e) s (Block.setEng { s.blk with
            spm := s.blk.spm.filter fun kv => kv.1 / 2 ^ 32 ≠ e
            ssc := s.blk.ssc.filter fun kv => kv.1 / 2 ^ 32 ≠ e } e
          { s.blk.eng e with clearing := false, needClear := false, lastCtx := none })
          fun b => (b.eng e).clearing = false ∧ (b.eng e).needClear = false
            ∧ ∀ k, k < 2 ^ 32 → Memory.byte b.spm (spaceKey e k) = 0 ∧ Memory.byte b.ssc (spaceKey e k) = 0)
    ∧ (∀ g l, s.blk.groups = g :: l → g.wake = false → g.granted = true → s.blk.groupDue false = true →
        Leaves .lightingGroupStart s s.blk.startGroup fun b => ∀ e ∈ g.engs, (b.eng e).lit = true)
    ∧ (∀ g l, s.blk.groups = g :: l → g.wake = true → g.granted = true → s.blk.groupDue true = true →
        Leaves .wakeGroupStart s s.blk.startGroup fun b => ∀ e ∈ g.engs, (b.eng e).gated = false)
    ∧ (∀ g l b, s.blk.groups = g :: l → g.granted = false →
        b = Block.count32 { s.blk with groups := { g with granted := true } :: l } Reg.PW_GRANTS →
        (s.blk.groupDue g.wake = false → Leaves .powerGrant s (b.setReg Reg.PW_GRANT_MAX
          (max (b.reg Reg.PW_GRANT_MAX) (min (2 ^ 32 - 1) ((s.blk.zclk - g.asked) * 5 / 9))))
          fun b => b.groups = { g with granted := true } :: l)
        ∧ (s.blk.groupDue g.wake = true → g.wake = false →
          ∃ t, exec .powerGrant s = .next t ∧ ∀ e ∈ g.engs, (t.blk.eng e).lit = true))
    ∧ (∀ g l, s.blk.groups = g :: l → g.granted = false → g.waited = false → g.asked + Config.cyclesMs ≤ s.blk.zclk →
        Leaves .grantWaitTimeout s (Block.event { s.blk with groups := { g with waited := true } :: l } pgHal 8 0 g.engs.length)
          fun b => b.groups = { g with waited := true } :: l)

/-- ENGINE_CLOCK_GATE gates a lit engine that has waited for WK_GATE_NS, and a gated core leaves the coherence domain (R245, R335).
PROGRESS_BEAT retires the next beat of the queue of an engine that executes, and the progress of its work restarts its budget (R136,
R204); ENGINE_INVOCATION_END ends one of its invocations, and with the last one its launch ends with OK (R205); ENGINE_DRAINED ends
a drain, and with it the cancellation that waited for it (R138); DRAIN_LIMIT_EXPIRY marks an engine that has drained for RC_DRAIN_LIMIT, which keeps its cancelled work (R401).
A row whose condition does not hold changes nothing (log entry 2, the model's choice). -/
def Obligations.EngineRows : Prop :=
  ∀ (s : State) (e : Nat), Runs s →
    ((s.blk.eng e).lit = true → (s.blk.eng e).gated = false → (s.blk.eng e).draining = false → s.blk.sleeps e = true →
        s.blk.reg Reg.WK_GATE_NS ≠ 0 → s.blk.reg Reg.WK_GATE_NS * 9 ≤ (s.blk.eng e).waitCycles * 5 →
        (unitBase ≤ e → Leaves (.engineClockGate e) s (s.blk.setEng e { s.blk.eng e with gated := true }) fun b => (b.eng e).gated = true)
        ∧ (e < unitBase → Leaves (.engineClockGate e) s ((s.blk.setEng e { s.blk.eng e with gated := true }).leaveDomain (8 + e) false)
            fun b => (b.eng e).gated = true))
    ∧ (s.blk.reg Reg.WK_GATE_NS = 0 → Gives (.engineClockGate e) s s.blk)
    ∧ (∀ q i c l n, s.blk.executes e = true → (s.blk.eng e).use = .cmd q i → s.blk.cmd? q i = some c →
        toBeat (s.blk.eng e).inv (s.blk.eng e).synced (s.blk.eng e).inq = some (l, n) →
        ∃ t, exec (.progressBeat e) s = .next t ∧ t.blk.cmd? q i = some { c with budget := 0, beats := c.beats + 1 }
          ∧ (t.blk.eng e).inq = l ∧ (t.blk.eng e).retired = n)
    ∧ (∀ c k x l n, s.blk.executes e = true → (s.blk.eng e).use = .task c k → s.blk.task? c k = some x →
        toBeat (s.blk.eng e).inv (s.blk.eng e).synced (s.blk.eng e).inq = some (l, n) →
        ∃ t, exec (.progressBeat e) s = .next t ∧ t.blk.task? c k = some { x with budget := 0 }
          ∧ (t.blk.eng e).inq = l ∧ (t.blk.eng e).retired = n)
    ∧ (s.blk.executes e = false → Gives (.progressBeat e) s s.blk)
    ∧ (∀ q i c l, s.blk.executes e = true → s.blk.allDelivered e = true → (s.blk.eng e).use = .cmd q i → s.blk.cmd? q i = some c →
        c.phase = .running → toEnd (s.blk.eng e).inv (s.blk.eng e).synced (s.blk.eng e).inq = some l →
        (takeInv e c.left).all (·.2 = 0) = true →
        ∃ t, exec (.engineInvocationEnd e) s = .next t ∧ HasEnded q i 0 t.blk ∧ (t.blk.eng e).inv = (s.blk.eng e).inv + 1
          ∧ (t.blk.eng e).inq = l)
    ∧ ((s.blk.eng e).draining = true → (s.blk.eng e).use = .free →
        Leaves (.engineDrained e) s (s.blk.setEng e { s.blk.eng e with draining := false, drainCycles := 0, quiet := false })
          fun b => (b.eng e).draining = false)
    ∧ (∀ q i c st, (s.blk.eng e).draining = true → (s.blk.eng e).drainCycles < drainNoted → (s.blk.eng e).use = .cmd q i →
        s.blk.cmd? q i = some c → c.phase = .running → c.cancel = some st → st ≠ retryStep → c.engs = [e] →
        ∃ t, exec (.engineDrained e) s = .next t ∧ HasEnded q i st t.blk ∧ (t.blk.eng e).draining = false)
    ∧ (drainNoted ≤ (s.blk.eng e).drainCycles → s.blk.cancelled e = true → Gives (.engineDrained e) s s.blk)
    ∧ ((s.blk.eng e).draining = true → (s.blk.eng e).drainCycles < drainNoted →
        s.blk.field Reg.RC_DRAIN_LIMIT 15 0 * Config.cyclesUs ≤ (s.blk.eng e).drainCycles →
        Leaves (.drainLimitExpiry e) s (s.blk.undrained e)
          fun b => (b.eng e).drainCycles = drainNoted ∧ (b.eng e).draining = true ∧ b.cmds = s.blk.cmds)

/-- TASK_ITEM_TAKE reads the next item of a task that may take one, and the task holds it in hand (R180): an item whose words are
reserved, or which runs no stitch, ends at once. TASK_ITEM_COMPLETION writes the STATUS byte of an item that has ended in
place and ends its stay: where it ended with OK and the next item is published, the task has no item in hand and takes no part of a budget (R180, R139).
A row whose condition does not hold changes nothing (log entry 2, the model's choice). -/
def Obligations.TaskRows : Prop :=
  ∀ (s : State) (c k : Nat) (t : Task), Runs s → s.blk.task? c k = some t →
    (∀ b bs, s.blk.takesItem t = true → b = s.blk.touch c (t.itemVa t.next) (some (.task c k)) → AtRest b →
        b.readVa c (t.itemVa t.next) 64 = .ok bs →
        Gives (.taskItemTake c k) s (b.startItem t (words64 bs))
        ∧ (itemOf t.next (words64 bs) = none → (b.startItem t (words64 bs)).task? c k
            = some { t with next := t.next + 1, item := some { idx := t.next, ended := some 0x10 }, budget := 0 })
        ∧ (∀ x, itemOf t.next (words64 bs) = some x → b.itemStatus c x = none →
            (b.invsOf c (t.listId, t.epoch) t.engs x.reps).all (·.2 = 0) = true →
            (b.startItem t (words64 bs)).task? c k = some { t with
              next := t.next + 1
              item := some { x with left := b.invsOf c (t.listId, t.epoch) t.engs x.reps, ended := some 0 }
              budget := 0 }))
    ∧ (s.blk.takesItem t = false → Gives (.taskItemTake c k) s s.blk)
    ∧ (∀ x st b, t.item = some x → x.ended = some st → t.stalled = false →
        s.blk.writeHome c (t.itemVa x.idx + 7) [BitVec.ofNat 8 st] needRd = .ok b →
        Gives (.taskItemCompletion c k) s (b.finishItem t x st)
        ∧ (∀ w, st ≤ 1 → x.hasSig = false → t.stopAt = none → t.unbinding = false → t.halted = false → s.blk.slotOf c t.wick = some w →
            (s.blk.slot w).snuffed = false → t.next < (s.blk.slot w).value →
            (b.finishItem t x st).task? c k = some { t with item := none, budget := 0, bp := none }))
    ∧ (t.item = none → Gives (.taskItemCompletion c k) s s.blk)

/-- STALL_BUDGET_EXPIRY stalls the command or the task whose budget has run out, and leaves any other as it is (R138), and
STALL_AUTO_RESUME resumes stalled work that is on no engine, whose progress has advanced, and its budget restarts (R400). -/
def Obligations.StallRows : Prop :=
  ∀ s : State, Runs s →
    (∀ q i c, s.blk.cmd? q i = some c → s.blk.cmdBudgetRuns c = true → s.blk.budgetUs c.ctx c.stallUs ≤ c.budget / Config.cyclesUs →
        Leaves (.stallBudgetExpiry (.cmd q i)) s (s.blk.stallCmd c)
          fun b => ∃ c', b.cmd? q i = some c' ∧ c'.stalled = true ∧ c'.stalls = c.stalls + 1)
    ∧ (∀ q i c, s.blk.cmd? q i = some c → c.budget / Config.cyclesUs < s.blk.budgetUs c.ctx c.stallUs →
        Gives (.stallBudgetExpiry (.cmd q i)) s s.blk)
    ∧ (∀ c k t, s.blk.task? c k = some t → s.blk.taskBudgetRuns t = true → t.stallUs ≤ t.budget / Config.cyclesUs →
        Leaves (.stallBudgetExpiry (.task c k)) s (s.blk.stallTask t)
          fun b => ∃ t', b.task? c k = some t' ∧ t'.stalled = true ∧ t'.stalls = t.stalls + 1)
    ∧ (∀ q i c, s.blk.cmd? q i = some c → c.stalled = true → c.budget = 0 → c.onEngines = false →
        Leaves (.stallAutoResume (.cmd q i)) s (s.blk.resumeCmd c)
          fun b => ∃ c', b.cmd? q i = some c' ∧ c'.stalled = false ∧ c'.budget = 0 ∧ c'.phase = c.phase)
    ∧ (∀ c k t, s.blk.task? c k = some t → t.stalled = true → t.budget = 0 → t.item = none →
        (∀ e ∈ t.engs, (s.blk.eng e).use = .task c k) →
        Leaves (.stallAutoResume (.task c k)) s (s.blk.resumeTask t)
          fun b => ∃ t', b.task? c k = some t' ∧ t'.stalled = false ∧ t'.budget = 0)

/-- A write of RC_STALL_CMD resumes or ends the stalled work that its selection names, and answers OK; it answers ERR_HANDLE where
there is none, and END answers ERR_BUSY while an engine of the work drains (R399). -/
def Obligations.StallOperations : Prop :=
  ∀ (s : State) (path : Nat), Takes s path Reg.RC_STALL_CMD →
    (∀ c, s.blk.stalledCmd? = some c → s.blk.cmd? c.q c.i = some c →
        Gives (.stallResume path) s ((s.blk.resumeCmd c).stallRes 0)
        ∧ (c.engs = [] → ∃ c', ((s.blk.resumeCmd c).stallRes 0).cmd? c.q c.i = some c' ∧ c'.stalled = false ∧ c'.budget = 0)
        ∧ ((s.blk.resumeCmd c).stallRes 0).reg Reg.RC_STALL_RES = 0)
    ∧ (∀ t, s.blk.stalledTask? = some t → Gives (.stallResume path) s ((s.blk.resumeTask t).stallRes 0))
    ∧ (s.blk.stalledCmd? = none → s.blk.stalledTask? = none →
        Leaves (.stallResume path) s (s.blk.stallRes 0x13) (fun b => b.reg Reg.RC_STALL_RES = 0x13)
        ∧ Leaves (.stallEnd path) s (s.blk.stallRes 0x13) (fun b => b.reg Reg.RC_STALL_RES = 0x13))
    ∧ (∀ c, s.blk.stalledCmd? = some c → s.blk.allQuiet c.engs = false →
        Leaves (.stallEnd path) s (s.blk.stallRes 0x14) fun b => b.reg Reg.RC_STALL_RES = 0x14)
    ∧ (∀ c, s.blk.stalledCmd? = some c → s.blk.cmd? c.q c.i = some c → s.blk.allQuiet c.engs = true → c.op.target = none →
        (∀ k, c.phase ≠ .ended k) →
        Leaves (.stallEnd path) s ((s.blk.endStalled c).stallRes 0) fun b => HasEnded c.q c.i 0x30 b ∧ b.reg Reg.RC_STALL_RES = 0)
    ∧ (∀ t x, s.blk.stalledTask? = some t → s.blk.task? t.ctx t.id = some t → s.blk.allQuiet t.engs = true → t.item = some x →
        Leaves (.stallEnd path) s ((s.blk.endStalledItem t x).stallRes 0)
          fun b => ∃ t', b.task? t.ctx t.id = some t' ∧ t'.stalled = false ∧ t'.item = some { x with cancel := some 0x30, ended := some 0x30 })

/-! ### Wicks and the ledger -/

/-- WICK_SIGNAL_APPLY on an allocated slot that is not snuffed and that step pacing does not hold applies its operation: SETMAX takes the
greater of the two values (R232), ADD adds and saturates (R231), and a snuffed slot keeps its value (R236). STEP_PACING_EXPIRY applies what
step pacing held, once no harness holds it (R320). A window write signals an exported slot whose window is on, by SETMAX,
and is counted in WK_WIN_DROP otherwise (R265). WICK_ROW_UE snuffs the slot of its row (R236).
A row whose condition does not hold changes nothing (log entry 2, the model's choice). -/
def Obligations.WickRows : Prop :=
  ∀ s : State, Runs s →
    (∀ k m (v : BitVec 64), (s.blk.slot k).alloc = true → (s.blk.slot k).snuffed = false → s.blk.paced k m v.toNat = none →
        Leaves (.wickSignalApply k m v) s (s.blk.signalOne k m v.toNat false)
          fun b => (b.slot k).value = if m then max (s.blk.slot k).value v.toNat else min ((s.blk.slot k).value + v.toNat) (2 ^ 64 - 1))
    ∧ (∀ k m (v : BitVec 64), (s.blk.slot k).alloc = true → (s.blk.slot k).snuffed = true → s.blk.heldSigs = [] →
        Leaves (.wickSignalApply k m v) s (s.blk.signalOne k m v.toNat false) fun b => (b.slot k).value = (s.blk.slot k).value)
    ∧ (∀ k m (v : BitVec 64), (s.blk.slot k).alloc = false → Gives (.wickSignalApply k m v) s s.blk)
    ∧ (∀ h y, s.blk.heldSigs = [y] → y.h = h → (s.blk.slot y.slot).snuffed = false →
        Block.paced { s.blk with heldSigs := [] } y.slot y.setmax y.value = none → (∀ c ∈ s.blk.cmds, c.posted = false) →
        Leaves (.stepPacingExpiry h) s (s.blk.releaseSteps h)
          fun b => b.heldSigs = [] ∧ (b.slot y.slot).value = sigResult (s.blk.slot y.slot).value y.setmax y.value)
    ∧ (∀ path k (v : BitVec 64), (path = 1 ∨ path = 2) → s.blk.pathUp path = true → (s.blk.slot k).alloc = true →
        (s.blk.slot k).exported = true → (s.blk.slot k).window = true → (s.blk.slot k).snuffed = false →
        s.blk.paced k true v.toNat = none →
        Leaves (.windowSignalWrite path k v) s (s.blk.signalOne k true v.toNat true)
          fun b => (b.slot k).value = max (s.blk.slot k).value v.toNat)
    ∧ (∀ path k (v : BitVec 64), (path = 1 ∨ path = 2) → s.blk.pathUp path = true → (s.blk.slot k).window = false →
        Leaves (.windowSignalWrite path k v) s
          ((s.blk.ledgerTerm fun l => { l with issued := l.issued + 1, win := l.win + 1 }).count32 Reg.WK_WIN_DROP)
          fun b => b.slots = s.blk.slots)
    ∧ (∀ k, (s.blk.slot k).alloc = true →
        Leaves (.wickRowUe k) s ((((s.blk.storageUe 2 (s.blk.rowOf k)).snuff k).moveRow k).wickError k) fun b => (b.slot k).snuffed = true)

/-- The operations of WK_IMP_CMD, with none under way: an import binds its virtual ID to the slot of its token with its rights, a release
frees the virtual ID, and the window of a slot is turned on and off; WK_IMP_RESULT holds the status (R257). A write of WK_BND_CTL turns a
bound on between two wicks of an OPEN context, gives an access error for what it cannot bind, and turns it off (R246, R263). -/
def Obligations.WickRegisterRows : Prop :=
  ∀ (s : State) (path : Nat),
    (Takes s path Reg.WK_IMP_CMD → s.blk.impBusy = 0 →
      (∀ (r : BitVec 3) k, s.blk.importStatus r.toNat = 0 → s.blk.impSlot? = some k →
          Leaves (.wickImport path r) s ((s.blk.setVid s.blk.impCtx s.blk.impVid (.imported k r.toNat)).impResult 0)
            fun b => b.vid s.blk.impCtx s.blk.impVid = .imported k r.toNat ∧ b.reg Reg.WK_IMP_RESULT = 0)
      ∧ (∀ r : BitVec 3, s.blk.importStatus r.toNat ≠ 0 →
          Leaves (.wickImport path r) s (s.blk.impResult (s.blk.importStatus r.toNat))
            fun b => b.reg Reg.WK_IMP_RESULT = s.blk.importStatus r.toNat)
      ∧ (s.blk.releaseStatus = 0 → Leaves (.wickRelease path) s ((s.blk.freeVid s.blk.impCtx s.blk.impVid).impResult 0)
          fun b => b.vid s.blk.impCtx s.blk.impVid = .free ∧ b.reg Reg.WK_IMP_RESULT = 0)
      ∧ (s.blk.releaseStatus ≠ 0 → Leaves (.wickRelease path) s (s.blk.impResult s.blk.releaseStatus)
          fun b => b.reg Reg.WK_IMP_RESULT = s.blk.releaseStatus)
      ∧ (∀ k, s.blk.impSlot? = some k →
          Leaves (.windowOn path) s ((s.blk.setSlot k { s.blk.slot k with window := true }).impResult 0)
            (fun b => (b.slot k).window = true ∧ b.reg Reg.WK_IMP_RESULT = 0)
          ∧ Leaves (.windowOff path) s ((s.blk.setSlot k { s.blk.slot k with window := false }).impResult 0)
            (fun b => (b.slot k).window = false ∧ b.reg Reg.WK_IMP_RESULT = 0))
      ∧ (s.blk.impSlot? = none →
          Leaves (.windowOn path) s (s.blk.impResult 0x13) (fun b => b.reg Reg.WK_IMP_RESULT = 0x13)
          ∧ Leaves (.windowOff path) s (s.blk.impResult 0x13) (fun b => b.reg Reg.WK_IMP_RESULT = 0x13)))
    ∧ (Takes s path Reg.WK_IMP_CMD → s.blk.impBusy ≠ 0 → ∀ r : BitVec 3, Gives (.wickImport path r) s (s.blk.pageErr path Reg.WK_IMP_CMD))
    ∧ (Takes s path Reg.WK_BND_CTL →
      (∀ (v : BitVec 32) y p c, y = s.blk.stagedBound path ((s.blk.bound s.blk.bndSel).clearFlags v.toNat) →
          (s.blk.unstagePath path isBndReg).slotOf y.ctx y.prod = some p → (s.blk.unstagePath path isBndReg).slotOf y.ctx y.cons = some c →
          (s.blk.ctx y.ctx).st = .opn → p ≠ c →
          Leaves (.boundCommit path v) s
            ((s.blk.unstagePath path isBndReg).setBound s.blk.bndSel { y with en := true, prodSlot := p, consSlot := c })
            fun b => b.bound s.blk.bndSel = { y with en := true, prodSlot := p, consSlot := c })
      ∧ (∀ (v : BitVec 32) y, y = s.blk.stagedBound path ((s.blk.bound s.blk.bndSel).clearFlags v.toNat) →
          (s.blk.unstagePath path isBndReg).slotOf y.ctx y.prod = none →
          Leaves (.boundCommit path v) s (((s.blk.unstagePath path isBndReg).setBound s.blk.bndSel
            { (s.blk.bound s.blk.bndSel).clearFlags v.toNat with en := false }).pageErr path Reg.WK_BND_CTL)
            fun b => (b.bound s.blk.bndSel).en = false)
      ∧ (∀ v : BitVec 32, Leaves (.boundDisable path v) s
          (s.blk.setBound s.blk.bndSel { (s.blk.bound s.blk.bndSel).clearFlags v.toNat with en := false })
          fun b => b.bound s.blk.bndSel = { (s.blk.bound s.blk.bndSel).clearFlags v.toNat with en := false }))

/-- LEDGER_CLOSING closes every section of the ledger in RUN, once its time has come (R325), and keeps its time; an uncorrectable
error of its storage re-bases it: the terms are those of what the block holds now (R329). A commit wick is turned on for a harness that is not
FREE, on a wick that the context owns (R331). A row whose condition does not hold changes nothing (log entry 2, the model's choice). -/
def Obligations.LedgerRows : Prop :=
  ∀ s : State,
    (Runs s → s.blk.st = .run → s.blk.closingDue = true →
        Leaves .ledgerClosing s s.blk.closeAll fun b => b.ledger = { s.blk.ledger with last := some s.blk.zclk })
    ∧ (Runs s → s.blk.st ≠ .run → Gives .ledgerClosing s s.blk)
    ∧ (Runs s → Leaves .ledgerStorageUe s ((s.blk.plainUe pgLg).rebase 1)
        fun b => b.ledger.issued = s.blk.heldSigs.length ∧ b.ledger.applied = 0 ∧ b.ledger.last = s.blk.ledger.last)
    ∧ (∀ path (v : BitVec 32) h c w, Takes s path Reg.LG_H_COMMIT → h = s.blk.field Reg.LG_H_SEL 5 0 →
        c = bits (v.toNat ||| 2 ^ 31) 27 16 → w = bits (v.toNat ||| 2 ^ 31) 15 0 → bit (v.toNat ||| 2 ^ 31) 31 = true →
        (s.blk.ctx c).st = .opn → isDoorbell w = false → (s.blk.harness h).st ≠ .free → (s.blk.vid c w).slot?.isSome = true →
        (s.blk.vid c w).isImport = false →
        Leaves (.commitWickEnable path v) s (s.blk.setHarness h { s.blk.harness h with commitEn := true, commitCtx := c, commitVid := w })
          fun b => (b.harness h).commitEn = true ∧ (b.harness h).commitCtx = c ∧ (b.harness h).commitVid = w)
    ∧ (∀ path (v : BitVec 32), Takes s path Reg.LG_H_COMMIT → bit (v.toNat ||| 2 ^ 31) 31 = true →
        (s.blk.ctx (bits (v.toNat ||| 2 ^ 31) 27 16)).st ≠ .opn →
        Leaves (.commitWickEnable path v) s (s.blk.pageErr path Reg.LG_H_COMMIT) fun b => b.harnesses = s.blk.harnesses)

/-! ### The cadence -/

/-- The rows of the Cadence Unit: a due edge of the source in use is taken, and an edge of the Rein master that has come (R152, R155): the
frame count advances; the frame edge of a held cadence falls due after CAD_PERIOD cycles (R156), an edge of CAD_IN that does not bounce
is taken (R154), the lock is lost when its edges fail (R154), a relay is lost when its port leaves RUN or falls silent (R392), and a
change of source waits for a frame edge (R160). -/
def Obligations.CadenceRows : Prop :=
  ∀ s : State,
    (Linked s → s.blk.cad.started = true → s.blk.cad.due = true → s.blk.cad.src = 1 →
        Leaves .cadenceFrameEdge s (s.blk.frameEdge (s.blk.cad.frames + 1) (s.blk.cad.clk - s.blk.cad.lastEdge))
          fun b => b.cad.frames = (s.blk.cad.frames + 1) % 2 ^ 48 ∧ b.cad.due = false)
    ∧ (Linked s → s.blk.cad.started = true → s.blk.cad.due = true → s.blk.cad.src ≠ 1 →
        Leaves .cadenceFrameEdge s (s.blk.frameEdge (s.blk.cad.frames + 1) (s.blk.cad.cyc - s.blk.period))
          fun b => b.cad.frames = (s.blk.cad.frames + 1) % 2 ^ 48 ∧ b.cad.due = false)
    ∧ (∀ n ago, Linked s → s.blk.cad.started = true → s.blk.cad.due = false → s.blk.reinEdge? = some (n, ago) →
        Leaves .cadenceFrameEdge s (s.blk.frameEdge n (ago * 9 / 5)) fun b => b.cad.frames = n % 2 ^ 48)
    ∧ (Linked s → s.blk.bounces = true → Gives .cadInEdge s s.blk)
    ∧ (Linked s → s.blk.bounces = false → s.blk.cad.locked = false → s.blk.cad.edges = [] →
        Leaves .cadInEdge s (s.blk.modCad fun x => { x with pinAt := some x.clk }).lockEdge
          fun b => b.cad.pinAt = some s.blk.cad.clk ∧ b.cad.edges = [s.blk.cad.clk] ∧ b.cad.locked = false)
    ∧ (Linked s → s.blk.bounces = false → s.blk.cad.locked = true → s.blk.cad.started = true → s.blk.cad.src = 1 → s.blk.cad.due = false →
        9 * s.blk.period ≤ 10 * (s.blk.cad.clk - s.blk.cad.lastEdge) →
        2 * (s.blk.cad.clk - s.blk.cad.lastEdge) < 3 * s.blk.period →
        ∃ t, exec .cadInEdge s = .next t ∧ t.blk.cad.due = true ∧ t.blk.cad.lastEdge = s.blk.cad.clk)
    ∧ (Runs s → s.blk.cad.locked = true → 3 * s.blk.period ≤ 2 * (s.blk.cad.clk - s.blk.cad.lastEdge) →
        Leaves .cadLockLoss s (s.blk.modCad fun x => { x with locked := false, edges := [] }).reselect fun b => b.cad.locked = false)
    ∧ (Linked s → s.blk.cad.started = true → s.blk.cad.src = 3 → s.blk.cad.due = false → s.blk.period ≤ s.blk.cad.cyc →
        Leaves .holdoverEdge s (s.blk.modCad fun x => { x with due := true }) fun b => b.cad.due = true)
    ∧ (Runs s → s.blk.cad.relay ≠ [] → s.blk.tsUp? = none →
        Leaves .relayTimeout s (s.blk.modCad fun x => { x with relay := [] }).reselect fun b => b.cad.relay = [])
    ∧ (Runs s → s.blk.cad.relay = [] → Gives .relayTimeout s s.blk)
    ∧ (Runs s → s.blk.cad.srcPend = true → Leaves .cadSrcChange s
        (s.blk.modCad fun x => { x with srcPend := false, sel := s.blk.field Reg.CAD_CTL 1 0 }).reselect
        fun b => b.cad.sel = s.blk.field Reg.CAD_CTL 1 0)

/-! ### Recovery -/

/-- HANG_WD starts the watchdog's period afresh from either port (R402); a period without it sets LAPSE once and raises an event, and
resets nothing. A job membership is committed for an OPEN context, and ended (R410); an event posted for a job takes the next event
number, which the registers hold where no port runs (R411).
A row whose condition does not hold changes nothing (log entry 2, the model's choice). -/
def Obligations.WatchdogAndJobs : Prop :=
  ∀ s : State,
    (∀ path, Takes s path Reg.HANG_WD → Leaves (.watchdogPet path) s { s.blk with wdCycles := 0 } fun b => b.wdCycles = 0)
    ∧ (Runs s → s.blk.field Reg.HANG_WD_CTL 15 0 ≠ 0 → s.blk.wdCycles < wdLapsed →
        s.blk.field Reg.HANG_WD_CTL 15 0 * Config.cyclesMs ≤ s.blk.wdCycles →
        Leaves .watchdogLapse s
          (((Block.setField { s.blk with wdCycles := wdLapsed } Reg.HANG_WD_CTL 31 31 1).cinderRec 0x0F 0 0 0).event pgRc 13)
          fun b => b.wdCycles = wdLapsed ∧ b.cmds = s.blk.cmds ∧ b.engines = s.blk.engines ∧ b.ctxs = s.blk.ctxs)
    ∧ (Runs s → s.blk.field Reg.HANG_WD_CTL 15 0 = 0 → Gives .watchdogLapse s s.blk)
    ∧ (∀ path (v : BitVec 32) c job, Takes s path Reg.RC_JOB_CTL → c = s.blk.field Reg.RC_JOB_SEL 11 0 →
        job = s.blk.stagedOr path Reg.RC_JOB_ID (s.blk.ctx c).job → c ≠ 0 → (s.blk.ctx c).st = .opn → job ≠ 0 →
        Leaves (.jobMembershipCommit path v) s ((s.blk.unstagePath path fun a => a = Reg.RC_JOB_ID).setCtx c
          { s.blk.ctx c with job := job, jobPorts := bits v.toNat 7 0, jobValid := true })
          fun b => (b.ctx c).job = job ∧ (b.ctx c).jobPorts = bits v.toNat 7 0 ∧ (b.ctx c).jobValid = true)
    ∧ (∀ path (v : BitVec 32), Takes s path Reg.RC_JOB_CTL → s.blk.field Reg.RC_JOB_SEL 11 0 = 0 →
        Leaves (.jobMembershipCommit path v) s ((s.blk.unstagePath path fun a => a = Reg.RC_JOB_ID).pageErr path Reg.RC_JOB_CTL)
          fun b => b.ctxs = s.blk.ctxs)
    ∧ (∀ path c, Takes s path Reg.RC_JOB_CTL → c = s.blk.field Reg.RC_JOB_SEL 11 0 →
        Leaves (.jobMembershipEnd path) s (s.blk.setCtx c { s.blk.ctx c with job := 0, jobPorts := 0, jobValid := false })
          fun b => (b.ctx c).job = 0 ∧ (b.ctx c).jobPorts = 0 ∧ (b.ctx c).jobValid = false)
    ∧ (∀ abort (job : BitVec 32) (code : BitVec 8), Runs s → s.blk.jobs.contains job.toNat = true →
        Leaves (.errEventPost abort job code) s (s.blk.postErr abort job.toNat code.toNat)
          fun b => s.blk.runPorts = [] → b.reg Reg.RC_EVENT_NO = (s.blk.reg Reg.RC_EVENT_NO + 1) % 2 ^ 32)
    ∧ (∀ abort (job : BitVec 32) (code : BitVec 8), Runs s → s.blk.jobs.contains job.toNat = false →
        Gives (.errEventPost abort job code) s s.blk)

/-- An order of RC_ORDER, with none under way (R404, R407, R408): one whose target does not exist ends at once with ERR_ARG. L0 of an
OPEN context without commands or tasks makes it LOST; L1 of an idle engine leaves it to be cleared; L2 of a
harness whose engines are idle leaves it in reset until its engines are lit again; L3 resets the core, and device memory and the wear records are as they were; L4 requests a power cycle. In a
global stop an order is held (R405); one of a level not above that of the order under way is an access error, and one of level 3 or 4
in a power cycle is ignored. ORDER_DONE ends an order that has acted and whose work is gone, and returns the harness of an L2 to ACTIVE.
A row whose condition does not hold changes nothing (log entry 2, the model's choice). -/
def Obligations.OrderRows : Prop :=
  ∀ s : State,
    (∀ path, Takes s path Reg.RC_ORDER → s.blk.stop.stopped = false → s.blk.order = none → s.blk.holds path pgRc = true →
        (∀ c, s.blk.orderTarget 0 c = false → ∃ t, exec (.l0ContextTeardown path c) s = .next t ∧ t.blk.order = none
          ∧ t.blk.reg Reg.RC_ORDER_STS = 0x12 * 2 ^ 16)
        ∧ (∀ c, s.blk.orderTarget 0 c = true → s.blk.down = false → (s.blk.ctx c).st = .opn → (∀ x ∈ s.blk.cmds, x.ctx ≠ c) →
            (∀ x ∈ s.blk.tasks, x.ctx ≠ c) → ∃ t o, exec (.l0ContextTeardown path c) s = .next t ∧ (t.blk.ctx c).st = .lost
              ∧ t.blk.order = some o ∧ o.level = 0 ∧ o.target = c ∧ o.acted = true)
        ∧ (∀ e, s.blk.inService e = true → ofEngCode (engCode e) = e → s.blk.down = false → (s.blk.eng e).use = .free →
            ∃ t o, exec (.l1EngineReset path e) s = .next t ∧ (t.blk.eng e).needClear = true ∧ (t.blk.eng e).draining = false
              ∧ t.blk.order = some o ∧ o.level = 1 ∧ o.acted = true)
        ∧ (∀ h, s.blk.orderTarget 2 h = true → s.blk.down = false →
            (∀ e, e ∈ (s.blk.harness h).cores ∨ e ∈ (s.blk.harness h).units → (s.blk.eng e).use = .free) →
            ∃ t o, exec (.l2HarnessReset path h) s = .next t ∧ (t.blk.harness h).st = .reset ∧ t.blk.order = some o ∧ o.level = 2
              ∧ o.target = h ∧ o.acted = true))
    ∧ (∀ path, Takes s path Reg.RC_ORDER → s.blk.stop.stopped = false → s.blk.order = none → s.blk.pwr = none →
        (∃ t, exec (.l3ChipReset path) s = .next t ∧ t.blk.l3Done = true ∧ t.blk.st = .off ∧ t.blk.ctxs = [] ∧ t.blk.cmds = []
          ∧ t.blk.dev = s.blk.dev ∧ t.blk.wear = s.blk.wear)
        ∧ ∃ t, exec (.l4PowerCycle path) s = .next t ∧ t.blk.st = .power ∧ t.blk.pins.coreHeld = true ∧ t.blk.pins.pwrcycReq = true
          ∧ t.blk.pwr.isSome = true)
    ∧ (∀ path o, Takes s path Reg.RC_ORDER → s.blk.stop.stopped = false → s.blk.holds path pgRc = true → s.blk.order = some o →
        (∀ c, Leaves (.l0ContextTeardown path c) s (s.blk.pageErr path Reg.RC_ORDER) fun b => b.order = some o)
        ∧ (∀ e, 1 ≤ o.level → Leaves (.l1EngineReset path e) s (s.blk.pageErr path Reg.RC_ORDER) fun b => b.order = some o)
        ∧ (∀ h, 2 ≤ o.level → Leaves (.l2HarnessReset path h) s (s.blk.pageErr path Reg.RC_ORDER) fun b => b.order = some o))
    ∧ (∀ path h, Takes s path Reg.RC_ORDER → s.blk.stop.stopped = true → s.blk.holds path pgRc = true → s.blk.order = none →
        s.blk.stop.heldOrders = [] → ∃ t, exec (.l2HarnessReset path h) s = .next t
          ∧ t.blk.stop.heldOrders = [BitVec.ofNat 32 (2 * 2 ^ 20 + h)] ∧ t.blk.order = none ∧ t.blk.harnesses = s.blk.harnesses)
    ∧ (∀ path, Takes s path Reg.RC_ORDER → s.blk.stop.stopped = false → s.blk.pwr ≠ none →
        Gives (.l3ChipReset path) s s.blk ∧ Gives (.l4PowerCycle path) s s.blk)
    ∧ (∀ o, Runs s → s.blk.order = some o → s.blk.orderDone o = true → o.level ≠ 2 →
        Leaves .orderDone s s.blk.endOrder fun b => b.order = none)
    ∧ (∀ o, Runs s → s.blk.order = some o → s.blk.orderDone o = true → o.level = 2 →
        ∃ b : Block, Gives .orderDone s (b.placeAll o.target) ∧ (b.harness o.target).st = .active ∧ b.order = none)
    ∧ (∀ o, Runs s → s.blk.order = some o → s.blk.orderDone o = false → Gives .orderDone s s.blk)

/-- The power cycle (R408): its acknowledgement sets the pin and is kept by a cycle under way, 1 ms without it sets NOACK, a readout and
the end of the hold of 50 ms let it go on, and it takes the rails once it is acknowledged and read out: device memory and every context
are gone. -/
def Obligations.PowerCycleRows : Prop :=
  ∀ s : State,
    Leaves .pwrcycAckAssert s { s.blk with
      pins := { s.blk.pins with pwrcycAck := true }
      pwr := s.blk.pwr.map fun p => { p with ack := true } } (fun b => b.pins.pwrcycAck = true ∧ ∀ p, b.pwr = some p → p.ack = true)
    ∧ (∀ p, s.blk.pwr = some p → Config.cyclesMs ≤ p.cycles → p.ack = false →
        Leaves .pwrcycNoackTimeout s (s.blk.setField Reg.RC_PWR 2 2 1) fun b => bit (b.reg Reg.RC_PWR) 2 = true)
    ∧ (∀ p, s.blk.pwr = some p → p.ack = true → Gives .pwrcycNoackTimeout s s.blk)
    ∧ (∀ path p, Takes s path Reg.RC_PWR → s.blk.pwr = some p →
        Gives (.rdoutAck path) s { s.blk with pwr := some { p with rdout := true } })
    ∧ (∀ p, s.blk.pwr = some p → 50 * Config.cyclesMs ≤ p.cycles →
        Gives .readoutHoldExpiry s { s.blk with pwr := some { p with rdout := true } })
    ∧ (∀ p, s.blk.pwr = some p → p.cycles < 50 * Config.cyclesMs → Gives .readoutHoldExpiry s s.blk)
    ∧ (∀ p, s.blk.pwr = some p → p.ack = true → p.rdout = true →
        Leaves .pwrcycReqRelease s s.blk.powerReset fun b => b.pwr = none ∧ b.pins.coreHeld = true ∧ b.dev = [] ∧ b.ctxs = [] ∧ b.regs = [])
    ∧ (∀ p, s.blk.pwr = some p → p.ack = false → Gives .pwrcycReqRelease s s.blk)

/-- The rows of the Spare Manager: SM_RETIRE retires the selected part, which is turned away with ERR_BUSY while one is being retired, and
with ERR_HANDLE where it is out of service (R430); a retiring engine without work gives its place in its harness to its spare, or is
lost (R425, R426); a correctable error counts (R397), and an uncorrectable error of an engine,
a walker or a way of the range cache, or the failure of a channel, takes its part out of service (R424, R307). -/
def Obligations.SpareRows : Prop :=
  ∀ s : State,
    (∀ path inst, Takes s path Reg.SM_RETIRE → s.blk.field Reg.SM_SEL 31 28 = 6 → inst = s.blk.field Reg.SM_SEL 19 0 →
        s.blk.retireReq = none → (s.blk.wearOf 6 inst).st < 2 →
        ∃ t, exec (.spareRetireGo path) s = .next t ∧ t.blk.retireReq = some (6, inst) ∧ (t.blk.eng inst).retiring = true)
    ∧ (∀ path, Takes s path Reg.SM_RETIRE → s.blk.retireReq = none →
        2 ≤ (s.blk.wearOf (s.blk.field Reg.SM_SEL 31 28) (s.blk.field Reg.SM_SEL 19 0)).st →
        Gives (.spareRetireGo path) s (s.blk.setField Reg.SM_RETIRE 7 0 0x13))
    ∧ (∀ path x, Takes s path Reg.SM_RETIRE → s.blk.retireReq = some x →
        Gives (.spareRetireGo path) s (s.blk.setField Reg.SM_RETIRE 7 0 0x14))
    ∧ (∀ e, Runs s → (s.blk.eng e).retiring = true → (s.blk.eng e).use = .free → (s.blk.eng e).draining = false →
        (∀ n, s.blk.spareFor e = some n → Leaves (.engineReplacement e) s (s.blk.replaceEngine e n).settleRetire
          fun b => (b.eng n).harness = (s.blk.eng e).harness ∧ (b.eng n).needClear = true)
        ∧ (s.blk.spareFor e = none → Gives (.engineReplacement e) s (s.blk.loseEngine e).settleRetire))
    ∧ (∀ kind inst w, Runs s → s.blk.instOk kind inst = true → w = s.blk.wearOf kind inst →
        (w.st ≠ 0 ∨ (s.blk.recentCe w).length ≤ s.blk.reg Reg.SM_THRESH) →
        ∃ t, exec (.correctableError kind inst) s = .next t
          ∧ t.blk.wearOf kind inst = { w with ce := satAdd 16 w.ce 1, recent := s.blk.recentCe w })
    ∧ (∀ e, Runs s → s.blk.inService e = true → ∃ t, exec (.engineUe e) s = .next t ∧ (t.blk.eng e).retiring = true)
    ∧ (∀ k, Runs s → s.blk.walkers.contains k = true →
        Leaves (.walkerUe k) s ((s.blk.storageUe 1 k).swapWalker k) fun b => (b.wearOf 1 k).st = 2)
    ∧ (∀ k, Runs s → k < 17 → (s.blk.wearOf 4 k).st < 2 →
        Leaves (.rangeCacheWayUe k) s ((s.blk.storageUe 4 k).retireRange k)
          fun b => (b.wearOf 4 k).st = 2 ∧ ∀ x ∈ b.rangeCache, x.2 ≠ k)
    ∧ (∀ st ch, Runs s → (s.blk.st = .ready ∨ s.blk.st = .run ∨ s.blk.st = .fault) → ch < 16 → bit (nth s.blk.chanOk st) ch = true →
        Leaves (.channelFailure st ch) s ((s.blk.storageUe 8 (st * 16 + ch)).mapOut st ch) fun b => bit (nth b.chanOk st) ch = false)

/-- POISON_READ marks an unmarked burst of device memory, once (R415). POISON_REPAIR_DONE writes the golden bytes over a marked burst that a
golden copy repairs (R416). An engine that consumes a marked burst without a golden copy loses its context, for its command, with POISON (R418); of one that will
be repaired, it stops the step (R416, R417), and RETRY_STEP_DISCARD discards a stopped step once its engines are quiet: its one launch ends with RETRY_STEP (R417).
A row whose condition does not hold changes nothing (log entry 2, the model's choice). -/
def Obligations.PoisonRows : Prop :=
  ∀ s : State, Runs s →
    (∀ addr, s.blk.isDev (alignDown addr 256) = true → s.blk.poison.any (·.addr = alignDown addr 256) = false →
        ∃ t, exec (.poisonRead addr) s = .next t ∧ t.blk.poison = s.blk.poison ++ [{ addr := alignDown addr 256 }]
          ∧ t.blk.dev = s.blk.dev)
    ∧ (∀ addr, s.blk.poison.any (·.addr = alignDown addr 256) = true → Gives (.poisonRead addr) s s.blk)
    ∧ (∀ addr p xs, (s.blk.poison.find? fun p => p.addr = alignDown addr 256 ∧ s.blk.repairs p) = some p →
        s.blk.golden p = some (.ok xs) → xs.length = 256 → AtRest s.blk →
        Leaves (.poisonRepairDone addr) s
          ((s.blk.putBytes ((List.range 256).map fun k => .dev (p.addr + k)) xs).count Reg.RC_POISON 15 0 1)
          fun b => ∀ k (h : k < xs.length), Memory.byte b.dev (p.addr + k) = xs[k])
    ∧ (∀ addr p, (s.blk.poison.find? fun p => p.addr = alignDown addr 256 ∧ s.blk.repairs p) = some p → s.blk.golden p = none →
        Gives (.poisonRepairDone addr) s
          { s.blk with poison := mapIf (· = p) (fun p => { p with dead := true }) s.blk.poison })
    ∧ (∀ e addr c q i, s.blk.poisonAt (alignDown addr 256) = some false → (s.blk.eng e).use = .cmd q i → s.blk.cmd? q i = some c →
        Gives (.poisonConsumed e addr) s
          ((s.blk.notePoison c.ctx (alignDown addr 256) true).loseCtx c.ctx 0x40 (some (q, i))))
    ∧ (∀ e addr c h, s.blk.engCtx e = some c → s.blk.poisonAt (alignDown addr 256) = some true → (s.blk.eng e).harness = some h →
        Leaves (.poisonConsumed e addr) s ((s.blk.cinderRec 0x05 retryStep c (burstCode (alignDown addr 256))).stopStep c h)
          fun b => (b.retry.any fun r => r.ctx = c ∧ r.h = h) = true)
    ∧ (∀ c h x, (s.blk.retry.any fun r => r.ctx = c ∧ r.h = h) = true →
        s.blk.allQuiet ((s.blk.stoppedCmds c h).flatMap (·.engs) ++ (s.blk.stoppedTasks c h).flatMap (·.engs)) = true →
        s.blk.stoppedCmds c h = [x] → s.blk.cmd? x.q x.i = some x →
        Leaves (.retryStepDiscard c h) s (s.blk.retryStepNow c h)
          fun b => (b.retry.any fun r => r.ctx = c ∧ r.h = h) = false ∧ HasEnded x.q x.i retryStep b)
    ∧ (∀ c h, s.blk.retry = [] → Gives (.retryStepDiscard c h) s s.blk)

/-! ### Translation and memory -/

/-- The rows of migration: an access of running work that meets a page on the host joins the fault of that page as a waiter, or
starts it (R282, R274); one that resolves to a translation fault ends its command, or cancels its launch, with that status
(R274). A copy that has been read waits for its entry of the frame ring (R282, R291), and one that failed gives its frame back (R286); a page
response looks for the source again, or ends its fault (R286).
A row whose condition does not hold changes nothing (log entry 2, the model's choice). -/
def Obligations.FaultRows : Prop :=
  ∀ s : State, Runs s →
    (∀ a c va w p b g, s.blk.accesses a c = true → b = s.blk.touch c va (some (askerOf a)) → b.agentResolve a c va w = .migrate p →
        b.down = false → b.fault? c (alignDown p (b.faultPage c)) = some g → askerOf a ∉ g.waiters →
        Leaves (.migrationFault a c va w) s (b.startFault c p w 0 [askerOf a] (askerOf a))
          fun b' => ∃ g', b'.fault? c (alignDown p (b.faultPage c)) = some g' ∧ askerOf a ∈ g'.waiters)
    ∧ (∀ a c va w p b, s.blk.accesses a c = true → b = s.blk.touch c va (some (askerOf a)) → b.agentResolve a c va w = .migrate p →
        b.down = false → b.faults = [] → b.priFailed = false → b.pins.ats = true → (b.ctx c).ats = false →
        b.atsFor? (b.ctx c).pasid (alignDown p (b.faultPage c)) = none →
        Leaves (.migrationFault a c va w) s (b.startFault c p w 0 [askerOf a] (askerOf a))
          fun b' => ∃ g, b'.fault? c (alignDown p (b.faultPage c)) = some g ∧ g.waiters = [askerOf a] ∧ g.write = w)
    ∧ (∀ q i c0 c va w st, s.blk.cmd? q i = some c0 → s.blk.accesses (.block q i) c = true → s.blk.agentResolve (.block q i) c va w = .bad st →
        st ≠ 0x20 → ∃ t, exec (.translationFault (.block q i) c va w) s = .next t ∧ HasEnded q i st t.blk)
    ∧ (∀ e q i c0 c va w st, s.blk.accesses (.engine e) c = true → (s.blk.eng e).use = .cmd q i → s.blk.cmd? q i = some c0 →
        s.blk.agentResolve (.engine e) c va w = .bad st → (decide (st = 0x20) && s.blk.deadRange c va 1) = false →
        Leaves (.translationFault (.engine e) c va w) s (s.blk.cancelCmd q i st)
          fun b => ∃ c', b.cmd? q i = some c' ∧ c'.cancel = some st)
    ∧ (∀ a c va w, s.blk.accesses a c = false → Gives (.migrationFault a c va w) s s.blk ∧ Gives (.translationFault a c va w) s s.blk)
    ∧ (∀ c page f src fr p, s.blk.fault? c page = some f → f.stage = .copying src fr p →
        Gives (.migrationDmaDone c page false) s ((s.blk.setPool p (fr :: s.blk.pool p)).finishFault c page false)
        ∧ (s.blk.faults = [f] → f.waiters = [] → s.blk.faultWait = [] → s.blk.advices = [] →
            ((s.blk.setPool p (fr :: s.blk.pool p)).finishFault c page false).faults = []
            ∧ ((s.blk.setPool p (fr :: s.blk.pool p)).finishFault c page false).pool p = fr :: s.blk.pool p))
    ∧ (∀ c page f src fr p, s.blk.faults = [f] → f.ctx = c → f.page = page → f.stage = .copying src fr p → AtRest s.blk →
        s.blk.fcrStuck = true →
        ∃ t x, exec (.migrationDmaDone c page true) s = .next t ∧ t.blk.faults = [{ f with stage := .needEntry fr p }]
          ∧ t.blk.fcrWait = s.blk.fcrWait ++ [x] ∧ x.frame = fr ∧ x.typ = 1 ∧ x.va = page ∧ x.ctx = c)
    ∧ (∀ c page f, s.blk.fault? c page = some f → f.stage = .needPri true →
        Gives (.priResponse c page .invalid) s (s.blk.finishFault c page false)
        ∧ Gives (.priResponse c page .failure) s ((s.blk.setField Reg.ZT_CTL 1 1 1).finishFault c page false)
        ∧ (s.blk.faults = [f] → f.waiters = [] → s.blk.faultWait = [] → s.blk.advices = [] →
            (s.blk.finishFault c page false).faults = [] ∧ ((s.blk.setField Reg.ZT_CTL 1 1 1).finishFault c page false).faults = [])
        ∧ Gives (.priResponse c page .success) s ((Block.seekSource (Block.modFault { s.blk with
            atsCache := s.blk.atsCache.filter fun e =>
              !(e.pasid = (s.blk.ctx c).pasid ∧ e.va < page + s.blk.faultPage c ∧ page < e.va + 2 ^ e.log2) } c page
            fun f => { f with stage := .needAts }) c page).settleFaults))

/-- The rows of the walkers and of ATS: a walk ends at its walker and fills the caches (R278), not while the coherence domain is down
(R349); a completion is cached and restarts the budget of the command that asked, and one that failed ends it with FAULT_XLAT
(R280); an invalidation is taken while fewer than 32 are held (R297), and
completed once nothing holds it; ZT_INV_CTL marks the mappings of its range while the unit is idle, and gives an access error otherwise (R298). -/
def Obligations.TranslationRows : Prop :=
  ∀ s : State,
    (∀ k w m, Runs s → s.blk.down = false → (s.blk.walks.find? fun w => w.walker = some k) = some w → s.blk.map? w.mapId = some m →
        ∃ t, exec (.walkDone k) s = .next t ∧ (t.blk.rangeCache.any fun x => x.1 = m.id) = true
          ∧ (m.backed = false → (s.blk.ctx m.ctx).ats = false → t.blk.pageCache.contains (m.id, m.group (w.page * 65536)) = true))
    ∧ (∀ k, Runs s → s.blk.down = true → Gives (.walkDone k) s s.blk)
    ∧ (∀ pasid va log2 pa rd wr a q i c x, Runs s → x = AtsEnt.mk pasid (alignDown va (2 ^ log2)) log2 (alignDown pa (2 ^ log2)) rd wr →
        s.blk.atsAsked = [a] → a.pasid = pasid → x.va ≤ a.va → a.va < x.va + 2 ^ log2 →
        a.who = [.cmd q i] → s.blk.cmd? q i = some c → s.blk.faults = [] → s.blk.faultWait = [] →
        (∃ t, exec (.atsCompletion pasid va log2 pa true rd wr) s = .next t ∧ x ∈ t.blk.atsCache ∧ t.blk.atsAsked = []
          ∧ t.blk.cmd? q i = some { c with budget := 0 })
        ∧ (c.phase = .running → c.runsStitches = false → ∃ t, exec (.atsCompletion pasid va log2 pa false rd wr) s = .next t
          ∧ HasEnded q i 0x20 t.blk))
    ∧ (∀ pasid va log2 pa ok rd wr, Runs s → s.blk.atsAsked = [] → Gives (.atsCompletion pasid va log2 pa ok rd wr) s s.blk)
    ∧ (∀ tag pasid va len, Runs s → 32 ≤ s.blk.atsInvs.length → Gives (.atsInvalidateRequest tag pasid va len) s s.blk)
    ∧ (∀ tag pasid va len, Runs s → s.blk.atsInvs.length < 32 → (s.blk.atsInvs.any fun x => x.tag = tag) = false →
        s.blk.faults = [] → Gives (.atsInvalidateRequest tag pasid va len) s { s.blk with
          atsInvs := s.blk.atsInvs ++ [{ tag := tag, pasid := pasid, va := va, len := len }]
          atsCache := s.blk.atsCache.filter fun e => !(e.pasid = pasid ∧ e.va < va + len ∧ va < e.va + 2 ^ e.log2)
          engines := s.blk.engines.map fun kv => (kv.1, { kv.2 with
            tlb := kv.2.tlb.filter fun t =>
              !((s.blk.ctxsOf pasid).contains t.1 ∧ t.2 * 65536 < va + len ∧ va < (t.2 + 1) * 65536) }) })
    ∧ (∀ tag x, Runs s → (s.blk.atsInvs.find? fun x => x.tag = tag) = some x → s.blk.invHeld x = false →
        Leaves (.atsInvalidateCompletion tag) s (Block.bumpEpoch { s.blk with atsInvs := s.blk.atsInvs.filter fun y => y.tag ≠ tag })
          fun b => ∀ y ∈ b.atsInvs, y.tag ≠ tag)
    ∧ (∀ tag x, Runs s → (s.blk.atsInvs.find? fun x => x.tag = tag) = some x → s.blk.invHeld x = true →
        Gives (.atsInvalidateCompletion tag) s s.blk)
    ∧ (∀ path, Takes s path Reg.ZT_INV_CTL → s.blk.invBusy ≠ 0 →
        Gives (.registerInvalidation path) s (s.blk.pageErr path Reg.ZT_INV_CTL))
    ∧ (∀ path va len c, Takes s path Reg.ZT_INV_CTL → s.blk.invBusy = 0 → c = s.blk.field Reg.ZT_INV_CTX 11 0 →
        len = s.blk.field Reg.ZT_INV_LEN_LO 31 12 * 4096 + s.blk.reg Reg.ZT_INV_LEN_HI * 2 ^ 32 → len ≠ 0 →
        va = s.blk.field Reg.ZT_INV_VA_LO 31 12 * 4096 + s.blk.reg Reg.ZT_INV_VA_HI * 2 ^ 32 →
        s.blk.faults = [] → s.blk.faultWait = [] →
        ∃ t, exec (.registerInvalidation path) s = .next t ∧ ∀ m ∈ t.blk.maps, m.ctx = c → m.va < va + len → va < m.va + m.len →
          (va, len) ∈ m.invalid)

/-- The rows of the frame ring, the boot map and the descriptor tables: the entry that waits is written where the ring has room, and TAIL
passes it (R290, R291); a head write that the ring allows is taken, and any other is an access error (R290); a size of 0, or of 2^12 to
2^24 bytes with an aligned base, starts the ring afresh while no frame is held (R290); ZT_CTL clears the boot map in READY or RUN with
a frame in its pool (R484); a boot entry is written in LOAD and READY under the boot map (R272); and DT_COUNT commits the table of a
context without work (R229). -/
def Obligations.FrameRingRows : Prop :=
  ∀ s : State,
    (∀ x b, Runs s → s.blk.fcrWait = [x] → s.blk.fcrStuck = false → s.blk.fcrRoom = true → s.blk.faults = [] →
        s.blk.writeVa 0 (s.blk.fcrBase + s.blk.reg Reg.ZT_FCR_TAIL % s.blk.fcrN * 16) x.bytes = .ok b →
        Leaves .frameRingEntryWrite s
          (Block.setReg { b with fcrWait := [] } Reg.ZT_FCR_TAIL ((s.blk.reg Reg.ZT_FCR_TAIL + 1) % (2 * s.blk.fcrN)))
          fun b => b.fcrWait = [] ∧ b.reg Reg.ZT_FCR_TAIL = (s.blk.reg Reg.ZT_FCR_TAIL + 1) % (2 * s.blk.fcrN) % 2 ^ 32)
    ∧ (Runs s → s.blk.fcrWait = [] → s.blk.faults = [] → Gives .frameRingEntryWrite s s.blk)
    ∧ (∀ path (v : BitVec 32) b, Takes s path Reg.ZT_FCR_HEAD →
        headOkay s.blk.fcrN (s.blk.reg Reg.ZT_FCR_TAIL) (s.blk.reg Reg.ZT_FCR_HEAD) (v.toNat % 2 ^ 21) = true →
        b = s.blk.setReg Reg.ZT_FCR_HEAD (v.toNat % 2 ^ 21) →
        Gives (.ztFcrHeadWrite path v) s (Block.writeEntries { b with fcrStuck := false, fcrFull := b.fcrFull && !b.fcrRoom }).landPages
        ∧ (s.blk.fcrWait = [] → s.blk.faults = [] → Leaves (.ztFcrHeadWrite path v) s
            { b with fcrStuck := false, fcrFull := b.fcrFull && !b.fcrRoom } fun b => b.reg Reg.ZT_FCR_HEAD = v.toNat % 2 ^ 21))
    ∧ (∀ path (v : BitVec 32), Takes s path Reg.ZT_FCR_HEAD →
        headOkay s.blk.fcrN (s.blk.reg Reg.ZT_FCR_TAIL) (s.blk.reg Reg.ZT_FCR_HEAD) (v.toNat % 2 ^ 21) = false →
        Gives (.ztFcrHeadWrite path v) s (s.blk.pageErr path Reg.ZT_FCR_HEAD))
    ∧ (∀ path (v : BitVec 32), Takes s path Reg.ZT_FCR_SIZE → (v.toNat % 32 = 0 ∨ 12 ≤ v.toNat % 32 ∧ v.toNat % 32 ≤ 24) →
        s.blk.holdsFrames = true → Gives (.ztFcrSizeWrite path v) s (s.blk.pageErr path Reg.ZT_FCR_SIZE))
    ∧ (∀ path (v : BitVec 32) base, Takes s path Reg.ZT_FCR_SIZE → s.blk.holdsFrames = false →
        base = alignDown (s.blk.stagedOr path Reg.ZT_FCR_BASE_LO (s.blk.fcrBase % 2 ^ 32)) 4096
          + 2 ^ 32 * s.blk.stagedOr path Reg.ZT_FCR_BASE_HI (s.blk.fcrBase / 2 ^ 32) →
        (v.toNat % 32 = 0 ∨ 12 ≤ v.toNat % 32 ∧ v.toNat % 32 ≤ 24 ∧ base % 2 ^ (v.toNat % 32) = 0) →
        Leaves (.ztFcrSizeWrite path v) s { ((((s.blk.unstagePath path fun a => a = Reg.ZT_FCR_BASE_LO ∨ a = Reg.ZT_FCR_BASE_HI).setReg
          Reg.ZT_FCR_SIZE (v.toNat % 32)).setReg Reg.ZT_FCR_TAIL 0).setReg Reg.ZT_FCR_HEAD 0) with
            fcrBase := base, fcrStuck := false, fcrFull := false }
          fun b => b.fcrBase = base ∧ b.reg Reg.ZT_FCR_SIZE = v.toNat % 32 ∧ b.reg Reg.ZT_FCR_TAIL = 0 ∧ b.reg Reg.ZT_FCR_HEAD = 0)
    ∧ (∀ path, Takes s path Reg.ZT_CTL → s.blk.bootmap = true → (s.blk.st = .ready ∨ s.blk.st = .run) →
        s.blk.pool (s.blk.field Reg.ZT_CTL 11 8) ≠ [] →
        Leaves (.bootmapClear path) s ((s.blk.bootDeciders.foldl Block.convertBoot s.blk).setField Reg.ZT_CTL 0 0 0)
          fun b => bit (b.reg Reg.ZT_CTL) 0 = false)
    ∧ (∀ path, Takes s path Reg.ZT_CTL → s.blk.bootmap = false → Gives (.bootmapClear path) s s.blk)
    ∧ (∀ path (v : BitVec 32), Takes s path Reg.ZT_BOOT_ENT0 → s.blk.bootWrites = false →
        Gives (.ztBootEnt0Write path v) s (s.blk.pageErr path Reg.ZT_BOOT_ENT0))
    ∧ (∀ path (v : BitVec 32) k, Takes s path Reg.ZT_BOOT_ENT0 → s.blk.bootWrites = true → k = s.blk.field Reg.ZT_BOOT_SEL 5 0 →
        ∃ t, exec (.ztBootEnt0Write path v) s = .next t ∧ t.blk.bootEnt k = {
          valid := bit v.toNat 31, host := bit v.toNat 30, wr := bit v.toNat 29, rd := bit v.toNat 28, vpn := v.toNat % 2 ^ 18
          ppn := s.blk.stagedOr path Reg.ZT_BOOT_ENT1 (s.blk.bootEnt k).ppn })
    ∧ (∀ path (v : BitVec 32) c lo hi, Takes s path Reg.DT_COUNT → c = s.blk.field Reg.DT_SEL 11 0 → v.toNat % 2 ^ 17 ≤ 2 ^ 16 →
        lo = s.blk.stagedOr path Reg.DT_BASE_LO ((s.blk.ctx c).dtBase % 2 ^ 32) →
        hi = s.blk.stagedOr path Reg.DT_BASE_HI ((s.blk.ctx c).dtBase / 2 ^ 32) →
        s.blk.cmds.any (·.ctx = c) = false → s.blk.tasks.any (·.ctx = c) = false →
        Leaves (.dtCountCommit path v) s ((s.blk.unstagePath path fun a => a = Reg.DT_BASE_LO ∨ a = Reg.DT_BASE_HI).setCtx c
          { s.blk.ctx c with dtBase := alignDown (hi * 2 ^ 32 + lo) 64, dtCount := v.toNat % 2 ^ 17 })
          fun b => (b.ctx c).dtBase = alignDown (hi * 2 ^ 32 + lo) 64 ∧ (b.ctx c).dtCount = v.toNat % 2 ^ 17)

/-! ### Coherence -/

/-- The requests of the coherence domain, with the domain up after OFF: each goes to the home of its line (R338, R342), and where the home
has nothing waiting and nothing runs for the line its answer follows at once (R345): DATA with its grant and the directory entry of the
reader, or CMP once memory holds the write (R341, R347) or the holder is gone. One for a scratch line by an agent other than a Lamplighter
core, and a read for ownership of any other line, is a protocol violation (R342). A read waits for room in the cache (R332),
and a journal write for the limit of R351.
A row whose condition does not hold changes nothing (log entry 2, the model's choice). -/
def Obligations.CohRequests : Prop :=
  ∀ (s : State) (a line : Nat), Runs s → s.blk.ccLive = true → s.blk.down = false → s.blk.asking a line = false →
    (s.blk.inDomain a = true → s.blk.cacheRoom a = true → s.blk.lineOf a line = none → (s.blk.isScratch line = true → a < 3) →
        Gives (.rdS a line) s (s.blk.ccRequest { kind := .rdS, agent := a, line := line })
        ∧ (HomeFree s.blk line → s.blk.dirOf line = none → s.blk.needsWay { kind := .rdS, agent := a, line := line } = false →
            ∃ b : Block, Leaves (.rdS a line) s b fun b =>
              ({ kind := .data, agent := a, line := line, grant := some .e, data := s.blk.lineData line } : Msg) ∈ b.coh.msgs
              ∧ b.dirOf line = some { line := line, way := s.blk.freeWay line, st := .e, lead := a, sharers := [a] }))
    ∧ (s.blk.inDomain a = true → s.blk.cacheRoom a = true → s.blk.lineOf a line = none → s.blk.isScratch line = true → 3 ≤ a →
        Gives (.rdS a line) s (s.blk.ccDown 3 a))
    ∧ (s.blk.inDomain a = true → s.blk.cacheRoom a = true → s.blk.lineOf a line = none → s.blk.isScratch line = true → a < 3 →
        Gives (.rdM a line) s ((s.blk.dropLine a line).ccRequest { kind := .rdM, agent := a, line := line })
        ∧ (HomeFree s.blk line → s.blk.dirOf line = none → s.blk.needsWay { kind := .rdM, agent := a, line := line } = false →
            ∃ b : Block, Leaves (.rdM a line) s b fun b =>
              ({ kind := .data, agent := a, line := line, grant := some .m, data := s.blk.lineData line } : Msg) ∈ b.coh.msgs
              ∧ b.dirOf line = some { line := line, way := s.blk.freeWay line, st := .m, lead := a, sharers := [a] }))
    ∧ (s.blk.inDomain a = true → s.blk.cacheRoom a = true → s.blk.lineOf a line = none → s.blk.isScratch line = false ∨ 3 ≤ a →
        Gives (.rdM a line) s (s.blk.ccDown 3 a))
    ∧ (s.blk.mayAsk a = true →
        Gives (.rdNa a line) s (s.blk.ccRequest { kind := .rdNa, agent := a, line := line })
        ∧ (HomeFree s.blk line → s.blk.dirOf line = none → ∃ b : Block, Leaves (.rdNa a line) s b fun b =>
            ({ kind := .data, agent := a, line := line, data := s.blk.lineData line } : Msg) ∈ b.coh.msgs ∧ b.dirOf line = none))
    ∧ (∀ (d : BitVec 512) (m : BitVec 64), s.blk.inDomain a = true → a < 512 → s.blk.isRecord a line = false →
        ¬(a < 3 ∧ s.blk.isJournal line = true ∧ s.blk.coh.checkpoint + 16384 ≤ s.blk.coh.journal) →
        Gives (.wrT a line d m) s (s.blk.ccWrite a line false d m)
        ∧ (HomeFree s.blk line → (∀ x ∈ s.blk.holders line, x = a) → ∃ b : Block, Leaves (.wrT a line d m) s b fun b =>
            ({ kind := .cmp, agent := a, line := line } : Msg) ∈ b.coh.msgs ∧ b.dev = (s.blk.putLine line d m).dev
            ∧ ({ agent := a, line := line, nc := false, data := d, mask := m } : WBuf) ∈ b.coh.wbuf))
    ∧ (∀ (d : BitVec 512) (m : BitVec 64), s.blk.inDomain a = true → s.blk.isRecord a line = true →
        (s.blk.coh.wbuf.any fun w => w.agent < 3 ∧ s.blk.isJournal w.line) = false →
        Gives (.wrT a line d m) s ((s.blk.noteRecord line d m).ccWrite a line false d m))
    ∧ (∀ (d : BitVec 512) (m : BitVec 64), a < 3 → s.blk.isJournal line = true →
        s.blk.coh.checkpoint + 16384 ≤ s.blk.coh.journal → Gives (.wrT a line d m) s s.blk)
    ∧ (∀ (d : BitVec 512) (m : BitVec 64), s.blk.isRecord a line = true →
        (s.blk.coh.wbuf.any fun w => w.agent < 3 ∧ s.blk.isJournal w.line) = true → Gives (.wrT a line d m) s s.blk)
    ∧ (∀ (d : BitVec 512) (m : BitVec 64), s.blk.mayAsk a = true →
        Gives (.wrNc a line d m) s (s.blk.ccWrite a line true d m)
        ∧ (HomeFree s.blk line → s.blk.holders line = [] → ∃ b : Block, Leaves (.wrNc a line d m) s b fun b =>
            ({ kind := .cmp, agent := a, line := line } : Msg) ∈ b.coh.msgs ∧ b.dev = (s.blk.putLine line d m).dev
            ∧ ({ agent := a, line := line, nc := true, data := d, mask := m } : WBuf) ∈ b.coh.wbuf ∧ b.dirOf line = none))
    ∧ (∀ l, s.blk.lineOf a line = some l → l.st ≠ .m →
        Gives (.evict a line) s (s.blk.ccEvict { kind := .evict, agent := a, line := line })
        ∧ (HomeFree s.blk line → ∃ b : Block, Leaves (.evict a line) s b fun b =>
            b.lineOf a line = none ∧ ({ kind := .cmp, agent := a, line := line } : Msg) ∈ b.coh.msgs))
    ∧ (∀ (d : BitVec 512) l, s.blk.lineOf a line = some l → l.st = .m →
        Gives (.wb a line d) s (s.blk.ccEvict { kind := .wb, agent := a, line := line, data := d })
        ∧ (HomeFree s.blk line → ∃ b : Block, Leaves (.wb a line d) s b fun b =>
            b.lineOf a line = none ∧ ({ kind := .cmp, agent := a, line := line } : Msg) ∈ b.coh.msgs
            ∧ b.dev = (s.blk.putLine line d wholeLine).dev ∧ b.dirOf line = none))

/-- The messages to and from an agent (R345): a snoop that waits is answered, by a forwarding holder with the line to the requester in L,
by an invalidated one by giving the line up (R339), by an M holder after the line has gone to memory; an agent outside the domain that
is snooped is a protocol violation; an acknowledgement is taken once; a write that CMP ends leaves its buffer (R343); DATA gives the agent
the state it grants; and CMP or DATA with no request outstanding is a protocol violation.
A row whose condition does not hold changes nothing (log entry 2, the model's choice). -/
def Obligations.CohAnswers : Prop :=
  ∀ (s : State) (a line : Nat), Runs s → s.blk.ccLive = true → s.blk.down = false →
    (∀ m, ¬(5 ≤ a ∧ a < 8) → s.blk.msg? .snpFwd a line = some m → s.blk.lineOf a line = none →
        Gives (.snpFwd a line) s ((s.blk.dropMsg m).ccSend [{ kind := .ackInv, agent := a, line := line }]))
    ∧ (∀ m l, ¬(5 ≤ a ∧ a < 8) → s.blk.msg? .snpFwd a line = some m → s.blk.lineOf a line = some l → l.st ≠ .s →
        ∃ b : Block, Leaves (.snpFwd a line) s b fun b =>
          (b.lineOf a line).map (·.st) = some .s ∧ ({ kind := .ackFwd, agent := a, line := line } : Msg) ∈ b.coh.msgs
          ∧ ({ kind := .data, agent := m.req, line := line, grant := some .l, data := b.lineData line } : Msg) ∈ b.coh.msgs)
    ∧ (∀ m l, ¬(5 ≤ a ∧ a < 8) → s.blk.msg? .snpFwd a line = some m → s.blk.lineOf a line = some l → l.st = .s →
        Gives (.snpFwd a line) s ((s.blk.dropMsg m).ccDown 3 a))
    ∧ (5 ≤ a → a < 8 → Gives (.snpFwd a line) s (s.blk.ccDown 3 a) ∧ Gives (.snpInv a line) s (s.blk.ccDown 3 a)
        ∧ Gives (.snpBinv a line) s (s.blk.ccDown 3 a) ∧ Gives (.snpWb a line) s (s.blk.ccDown 3 a))
    ∧ (∀ m, ¬(5 ≤ a ∧ a < 8) → s.blk.msg? .snpInv a line = some m →
        Leaves (.snpInv a line) s ((s.blk.dropMsg m).ccInvalidate a line) fun b =>
          b.lineOf a line = none ∧ ({ kind := .ackInv, agent := a, line := line } : Msg) ∈ b.coh.msgs)
    ∧ (∀ m, ¬(5 ≤ a ∧ a < 8) → s.blk.msg? .snpBinv a line = some m →
        Leaves (.snpBinv a line) s ((s.blk.dropMsg m).ccInvalidate a line) fun b =>
          b.lineOf a line = none ∧ ({ kind := .ackInv, agent := a, line := line } : Msg) ∈ b.coh.msgs)
    ∧ (∀ m, ¬(5 ≤ a ∧ a < 8) → s.blk.msg? .snpWb a line = some m → s.blk.lineOf a line = none →
        Gives (.snpWb a line) s ((s.blk.dropMsg m).ccAnswer line a false))
    ∧ (∀ m l, ¬(5 ≤ a ∧ a < 8) → s.blk.msg? .snpWb a line = some m → s.blk.lineOf a line = some l → l.st = .m →
        s.blk.txn line = none → ∃ b : Block, Leaves (.snpWb a line) s b fun b =>
          (b.lineOf a line).map (·.st) = some .e ∧ (b.dirOf line).map (·.st) = some .e ∧ (b.dirOf line).map (·.lead) = some a)
    ∧ (∀ m, s.blk.msg? .ackInv a line = some m → Gives (.ackInv a line) s ((s.blk.dropMsg m).ccAnswer line a false))
    ∧ (∀ m t x l, s.blk.msg? .ackInv a line = some m → s.blk.txn line = some t → t.await = a :: x :: l → s.blk.coh.queue = [] →
        ∃ b : Block, Leaves (.ackInv a line) s b fun b => (b.txn line).map (·.await) = some (x :: l))
    ∧ (∀ m, s.blk.msg? .ackFwd a line = some m → Gives (.ackFwd a line) s ((s.blk.dropMsg m).ccAnswer line a true))
    ∧ (∀ m t x l d, s.blk.msg? .ackFwd a line = some m → s.blk.txn line = some t → t.await = a :: x :: l → s.blk.coh.queue = [] →
        s.blk.dirOf line = some d → ∃ b : Block, Leaves (.ackFwd a line) s b fun b =>
          (b.txn line).map (·.await) = some (x :: l) ∧ (b.dirOf line).map (·.st) = some .l
          ∧ (b.dirOf line).map (·.lead) = some t.agent)
    ∧ (s.blk.msg? .ackInv a line = none → Gives (.ackInv a line) s s.blk)
    ∧ (s.blk.msg? .ackFwd a line = none → Gives (.ackFwd a line) s s.blk)
    ∧ (∀ m, s.blk.msg? .cmp a line = some m → m.crossed = true → Gives (.cmp a line) s (s.blk.dropMsg m))
    ∧ (∀ m, s.blk.msg? .cmp a line = some m → m.crossed = false → (s.blk.dropMsg m).txn line = none →
        Gives (.cmp a line) s ((s.blk.dropMsg m).ccTaken line a))
    ∧ (∀ m t w, s.blk.msg? .cmp a line = some m → m.crossed = false → s.blk.txn line = some t → t.kind = .wrT ∨ t.kind = .wrNc →
        s.blk.coh.queue = [] → (s.blk.coh.wbuf.find? fun w => w.agent = a ∧ w.line = line) = some w →
        ∃ b : Block, Leaves (.cmp a line) s b fun b => b.coh.wbuf = s.blk.coh.wbuf.erase w)
    ∧ (s.blk.msg? .cmp a line = none → Gives (.cmp a line) s (s.blk.ccDown 3 a))
    ∧ (∀ m g, s.blk.msg? .data a line = some m → m.grant = some g →
        Gives (.data a line) s (((s.blk.dropMsg m).setLine a line g m.data).ccTaken line a)
        ∧ (s.blk.coh.queue = [] → ∃ b : Block, Leaves (.data a line) s b fun b =>
            b.lineOf a line = some { agent := a, line := line, st := g, data := m.data }))
    ∧ (s.blk.msg? .data a line = none → Gives (.data a line) s (s.blk.ccDown 3 a))

/-- The domain goes down for a snoop left unanswered for CC_SNP_TIMEOUT and for the causes 1 to 5 (R348): its directory, caches, messages
and transactions are gone, and the roll call begins (R350). 10 µs later the roll call closes: it fences the agents that stayed silent,
and keeps the writes of the others (R350, R352). The rebuild replays the journal's entries beyond the checkpoint, issues the buffered
writes again, and brings the domain up (R350).
A row whose condition does not hold changes nothing (log entry 2, the model's choice). -/
def Obligations.CohDownRows : Prop :=
  ∀ s : State, Runs s →
    (∀ line t a l, s.blk.ccLive = true → s.blk.down = false → s.blk.txn line = some t → t.await = a :: l →
        s.blk.field Reg.CC_SNP_TIMEOUT 15 0 * Config.cyclesUs ≤ t.age →
        Leaves (.snoopTimeout line) s (s.blk.ccDown 4 a) fun b => b.down = true ∧ b.coh.phase = .rollCall ∧ b.coh.txns = [])
    ∧ (∀ line t, s.blk.txn line = some t → t.await = [] → Gives (.snoopTimeout line) s s.blk)
    ∧ (∀ cause a way, s.blk.ccLive = true → 2 ≤ cause → cause ≤ 4 →
        Leaves (.coherenceDown cause a way) s (s.blk.ccDown cause a) fun b => b.down = true ∧ b.coh.phase = .rollCall
          ∧ b.coh.dir = [] ∧ b.coh.caches = [] ∧ b.coh.msgs = [] ∧ b.coh.txns = [] ∧ b.coh.queue = [])
    ∧ (∀ a way, s.blk.ccLive = true → Leaves (.coherenceDown 1 a way) s ((s.blk.ccStorage way).ccDown 1 a) fun b =>
        b.down = true ∧ b.coh.phase = .rollCall)
    ∧ (∀ a way, s.blk.ccLive = true → a < 3 → Gives (.coherenceDown 5 a way) s (((s.blk.ccDown 5 a).storageUe 0 a).takeOver a))
    ∧ (∀ cause a way, cause = 0 ∨ 5 < cause → Gives (.coherenceDown cause a way) s s.blk)
    ∧ (s.blk.down = true → s.blk.coh.phase = .rollCall → 10 * Config.cyclesUs ≤ s.blk.coh.phaseCycles →
        Gives (.rollCallClose []) s (s.blk.ccMod fun c => { c with wbuf := c.wbuf.filter s.blk.keepsWrite, phase := .replay, phaseCycles := 0 })
        ∧ ∀ silent, ∃ b : Block, Leaves (.rollCallClose silent) s b fun b => b.coh.phase = .replay ∧ ∀ w ∈ b.coh.wbuf, w.agent ∉ b.coh.fenced)
    ∧ (∀ l, s.blk.down = false → Gives (.rollCallClose l) s s.blk ∧ Gives .coherenceRebuildDone s s.blk)
    ∧ (s.blk.down = true → s.blk.coh.phase = .replay → s.blk.order = none → ∃ b b' b'',
        b = s.blk.replayJournal.reissue.ccMod (fun c => { c with
          phase := .up, phaseCycles := 0, downCycles := 0, restarts := 0, fenced := c.fenced.filter (· < 8) })
        ∧ b' = (((b.setField Reg.CC_STS 0 0 0).count32 Reg.CC_REBUILDS).setReg Reg.CC_LAST_PAUSE
            (min (s.blk.coh.downCycles / Config.cyclesUs) (2 ^ 32 - 1)))
        ∧ b'' = ((((b'.cinderRec 0x08 (s.blk.field Reg.CC_STS 31 24) 0
            (min (s.blk.coh.downCycles / Config.cyclesUs) 1023 * 2 ^ 9 + s.blk.field Reg.CC_STS 17 9)).event pgCc 8 0
            (s.blk.field Reg.CC_STS 31 24 * 2 ^ 24 + s.blk.field Reg.CC_STS 17 9) (s.blk.coh.downCycles / Config.cyclesUs)).bumpEpoch).startWalks)
        ∧ Leaves .coherenceRebuildDone s b'' fun b => b.coh.phase = .up ∧ b.coh.wbuf = [] ∧ b.coh.entries = []
            ∧ b.coh.checkpoint = b.coh.journal)

/-! ### Microcode -/

/-- The rows of the microcode store: a word is written at MC_ADDR, which advances, and takes the core's verdict away; a write to the
active core after LOAD is an access error (R489). A signature is collected, and cleared (R496); VERIFY hands the store and the
signature to the security block, whose verdict ends it (R490); a handover makes the selected core the active one, at microaddress 0, once
the write buffer of the old one is empty, and one that has a reason against it fails (R493).
A row whose condition does not hold changes nothing (log entry 2, the model's choice). -/
def Obligations.MicrocodeRows : Prop :=
  ∀ s : State,
    (∀ path (v : BitVec 32) b, Takes s path Reg.MC_DATA_HI → (s.blk.mcSel = s.blk.mc.active → s.blk.st = .load) →
        (s.blk.wearOf 0 s.blk.mcSel).st ≠ 2 → s.blk.mcBusy = false →
        b = (s.blk.setWord48 s.blk.mcSel (s.blk.reg Reg.MC_ADDR) (v.toNat % 65536 * 2 ^ 32 + s.blk.stagedOr path Reg.MC_DATA_LO 0)).setReg
          Reg.MC_ADDR ((s.blk.reg Reg.MC_ADDR + 1) % 0x4000) →
        Leaves (.mcStoreWrite path v) s (b.mcMod fun m => { m with verified := m.verified.filter (· ≠ s.blk.mcSel) }) fun b =>
          s.blk.mcSel ∉ b.mc.verified ∧ b.word48 s.blk.mcSel (s.blk.reg Reg.MC_ADDR)
            = (v.toNat % 65536 * 2 ^ 32 + s.blk.stagedOr path Reg.MC_DATA_LO 0) % 2 ^ 48)
    ∧ (∀ path (v : BitVec 32), Takes s path Reg.MC_DATA_HI → s.blk.mcSel = s.blk.mc.active → s.blk.st ≠ .load →
        Gives (.mcStoreWrite path v) s (s.blk.pageErr path Reg.MC_DATA_HI))
    ∧ (∀ path (v : BitVec 32), Takes s path Reg.MC_SIG_DATA → s.blk.mc.sig.length + 4 ≤ 4096 →
        Gives (.mcSigDataWrite path v) s (s.blk.mcMod fun m => { m with sig := m.sig ++ leBytes 4 v.toNat }))
    ∧ (∀ path (v : BitVec 32), Takes s path Reg.MC_SIG_DATA → 4096 < s.blk.mc.sig.length + 4 →
        Gives (.mcSigDataWrite path v) s (s.blk.pageErr path Reg.MC_SIG_DATA))
    ∧ (∀ path, Takes s path Reg.MC_CTL → Gives (.clrSig path) s (s.blk.mcMod fun m => { m with sig := [] }))
    ∧ (∀ path b, Takes s path Reg.MC_CTL → s.blk.mcBusy = false →
        b = (s.blk.mcMod fun m => { m with crc := Tab.set (fun _ => 0) m.crc s.blk.mcSel (crc32 (s.blk.storeBytes s.blk.mcSel)) }) →
        Gives (.verify path) s (if b.imageOk s.blk.mcSel
          then Block.mcMod { b with secOut := s.blk.storeBytes s.blk.mcSel ++ b.mc.sig } fun m => { m with busy := .verify s.blk.mcSel }
          else (b.mcFail 1).mcMod fun m => { m with sig := [] }))
    ∧ (∀ path, Takes s path Reg.MC_CTL → s.blk.mcBusy = true → Gives (.verify path) s (s.blk.pageErr path Reg.MC_CTL))
    ∧ (∀ k ok, Runs s → s.blk.mc.busy = .verify k →
        (Leaves (.microcodeVerdict ok true) s (s.blk.verdict k false) fun b =>
          b.mc.busy = .idle ∧ b.mc.sig = [] ∧ b.field Reg.MC_STS 31 24 = 2 ∧ b.mc.verified = s.blk.mc.verified)
        ∧ (Leaves (.microcodeVerdict true false) s (s.blk.verdict k true) fun b => k ∈ b.mc.verified ∧ b.mc.sig = []))
    ∧ (Runs s → s.blk.mc.busy = .idle → ∀ ok bad, Gives (.microcodeVerdict ok bad) s s.blk)
    ∧ (∀ path, Takes s path Reg.MC_CTL → s.blk.handoverReason s.blk.mcSel = 0 →
        Gives (.handover path) s (s.blk.mcMod fun m => { m with busy := .handover s.blk.mcSel }).moveRole)
    ∧ (∀ path, Takes s path Reg.MC_CTL → s.blk.handoverReason s.blk.mcSel = 0 →
        (s.blk.coh.wbuf.any (·.agent = s.blk.mc.active)) = false →
        ∃ b : Block, Leaves (.handover path) s b fun b => b.mc.active = s.blk.mcSel ∧ b.mcore s.blk.mcSel = {}
          ∧ (b.wearOf 0 s.blk.mcSel).st = 0)
    ∧ (∀ path, Takes s path Reg.MC_CTL → s.blk.handoverReason s.blk.mcSel ≠ 0 →
        Gives (.handover path) s (s.blk.mcFail (s.blk.handoverReason s.blk.mcSel)))

/-! ### The host interface -/

/-- A read of a semaphore returns its owner, and gives a free one to the port that reads it (R471); its owner releases it, which
discards what the owner has staged under it (R15, R473), and a release by any other path does nothing; SEM_BREAK frees it under the key,
with an event, and is an access error without.
A row whose condition does not hold changes nothing (log entry 2, the model's choice). -/
def Obligations.SemaphoreRows : Prop :=
  ∀ (s : State) (path : Nat),
    (∀ k, Reads s path → (path = 1 ∨ path = 2) → s.blk.stop.stopped = false → s.blk.sem (k % 64) = 0 →
        Gives (.semRead path k) s ((s.blk.setSem (k % 64) path).answer 0))
    ∧ (∀ k, Reads s path → s.blk.sem (k % 64) ≠ 0 → Gives (.semRead path k) s (s.blk.answer (s.blk.sem (k % 64))))
    ∧ (∀ k, Reads s path → path = 3 → Gives (.semRead path k) s (s.blk.answer (s.blk.sem (k % 64))))
    ∧ (∀ k, Takes s path (0x1100 + 4 * (k % 64)) → s.blk.sem (k % 64) = path →
        Gives (.semRelease path k) s ((s.blk.unstagePath path (semOfReg (k % 64))).setSem (k % 64) 0))
    ∧ (∀ k, Takes s path (0x1100 + 4 * (k % 64)) → s.blk.sem (k % 64) ≠ path → Gives (.semRelease path k) s s.blk)
    ∧ (∀ (key : BitVec 8) k, Takes s path Reg.SEM_BREAK → key.toNat = Config.semBreakKey → s.blk.sem (k % 64) ≠ 0 →
        Gives (.semBreak path key k) s ((s.blk.freeSem (k % 64)).event pgHiu 9 0 (s.blk.sem (k % 64) * 2 ^ 8 + k % 64)))
    ∧ (∀ (key : BitVec 8) k, Takes s path Reg.SEM_BREAK → key.toNat ≠ Config.semBreakKey →
        Gives (.semBreak path key k) s (s.blk.pageErr path Reg.SEM_BREAK))

/-- A port that goes down loses its semaphores and what it has staged, and GLB_PORT_STS marks it (R469); on the return of Port A every page
with an event pending sends its message (R507); a cause that fell into the spacing is sent after it (R507); and POP takes the oldest
entry of the event FIFO of the port that writes it.
A row whose condition does not hold changes nothing (log entry 2, the model's choice). -/
def Obligations.PortRows : Prop :=
  ∀ s : State,
    (∀ p, (p = 1 ∨ p = 2) → s.blk.pathUp p = true → Runs s →
        Leaves (.portDown p) s (Block.portLost { s.blk with pins := s.blk.pins.setPort p false } p) fun b =>
          b.pathUp p = false ∧ ∀ k, b.sem k ≠ p)
    ∧ (∀ p, s.blk.pathUp p = false → Gives (.portDown p) s s.blk)
    ∧ (s.blk.pathUp 2 = false → Gives (.portUp 2) s { s.blk with pins := s.blk.pins.setPort 2 true })
    ∧ (s.blk.pathUp 1 = false → Runs s → ∃ b, b = { s.blk with pins := s.blk.pins.setPort 1 true }
        ∧ Gives (.portUp 1) s (((List.range 0x28).filter fun pg => isUnitPage pg && b.errPend pg).foldl Block.msix b))
    ∧ (∀ page, Runs s → s.blk.hiu.pend.contains page = true → Gives (.msixSpacingEnd page) s (s.blk.msix page))
    ∧ (∀ page, Runs s → s.blk.hiu.pend.contains page = false → Gives (.msixSpacingEnd page) s s.blk)
    ∧ (Takes s 1 Reg.EV_CTL → Gives (.pop 1) s { s.blk with hiu := { s.blk.hiu with fifoA := s.blk.hiu.fifoA.drop 1 } })
    ∧ (Takes s 2 Reg.EV_CTL → Gives (.pop 2) s { s.blk with hiu := { s.blk.hiu with fifoB := s.blk.hiu.fifoB.drop 1 } })

/-- A register write goes to its register, and one that is not aligned to its size is a misaligned access (R10); a read returns its value
and then has its effect (R15, R16); a port that is down returns all ones (R469); and past OFF and LOAD PG_ERR_INJ raises an event of its
page, raises ACCESS, and arms errors of a page with ECC (R512). -/
def Obligations.AccessRows : Prop :=
  ∀ (s : State) (path : Nat),
    (∀ a w (v : BitVec 64), aligned a w = true → s.blk.stop.stopped = false →
        Gives (.registerWrite path a w v) s (s.blk.writeAt path a w v.toNat))
    ∧ (∀ a w (v : BitVec 64), aligned a w = false → Gives (.registerWrite path a w v) s (s.blk.misaligned path a true))
    ∧ (∀ a n, Gives (.misalignedAccess path a n true) s (s.blk.misaligned path a true))
    ∧ (∀ a n, Gives (.misalignedAccess path a n false) s ((s.blk.misaligned path a false).answer (2 ^ (8 * n) - 1)))
    ∧ (∀ a, aligned a false = true → Reads s path →
        Gives (.rcFieldRead path a false) s ((s.blk.read32 path a).2.answer (s.blk.read32 path a).1))
    ∧ (∀ a, aligned a true = true → Reads s path →
        Gives (.rcFieldRead path a true) s ((s.blk.read64 path a).2.answer (s.blk.read64 path a).1))
    ∧ (∀ a, aligned a false = true → s.blk.pathUp path = false → Gives (.rcFieldRead path a false) s (s.blk.answer (2 ^ 32 - 1)))
    ∧ (∀ a, aligned a false = false → Gives (.rcFieldRead path a false) s ((s.blk.misaligned path a false).answer (2 ^ 32 - 1)))
    ∧ (∀ pg (e : BitVec 24), isUnitPage pg = true →
        Gives (.evtInj path pg e) s (s.blk.write32 path (pg * 0x1000 + Reg.PG_ERR_INJ) (e.toNat * 2 ^ 8))
        ∧ Gives (.accInj path pg) s (s.blk.write32 path (pg * 0x1000 + Reg.PG_ERR_INJ) 1)
        ∧ Gives (.ueArm path pg) s (s.blk.write32 path (pg * 0x1000 + Reg.PG_ERR_INJ) 2)
        ∧ Gives (.ceArm path pg) s (s.blk.write32 path (pg * 0x1000 + Reg.PG_ERR_INJ) 4))
    ∧ (∀ pg, isUnitPage pg = true → Takes s path (pg * 0x1000 + Reg.PG_ERR_INJ) →
        s.blk.st = .ready ∨ s.blk.st = .run ∨ s.blk.st = .fault →
        (∀ n, 8 ≤ n → n < 32 → bit (pageInfo pg).evts n = true → ∃ b : Block,
          Leaves (.evtInj path pg (BitVec.ofNat 24 (2 ^ (n - 8)))) s b fun b => bit (b.reg (pg * 0x1000 + Reg.PG_ERR)) n = true)
        ∧ (∃ b : Block, Leaves (.accInj path pg) s b fun b => bit (b.reg (pg * 0x1000 + Reg.PG_ERR)) 0 = true)
        ∧ ((pageInfo pg).ecc = true → (∃ b : Block, Leaves (.ueArm path pg) s b fun b => bit (b.arms pg) 1 = true)
            ∧ ∃ b : Block, Leaves (.ceArm path pg) s b fun b => bit (b.arms pg) 0 = true))

/-- A read of the lower word of CAD_NOW latches the upper word, and the next read of the upper word by the same path returns what it
latched; a 64-bit read returns the whole count (R159). -/
def Obligations.CadenceCountRead : Prop :=
  ∀ (s : State) (path : Nat), Reads s path →
    Gives (.cadNowRead path .lo64) s (s.blk.answer s.blk.cadence)
    ∧ Gives (.cadNowRead path .hi32) s (s.blk.answer (Tab.get (fun _ => (0 : W32)) s.blk.nowLatch path).toNat)
    ∧ (∃ t, exec (.cadNowRead path .lo32) s = .next t ∧ t.blk.readData = BitVec.ofNat 64 (lo32 s.blk.cadence)
        ∧ (Tab.get (fun _ => (0 : W32)) t.blk.nowLatch path) = BitVec.ofNat 32 (hi32 s.blk.cadence)
        ∧ ∃ u, exec (.cadNowRead path .hi32) t = .next u ∧ u.blk.readData = BitVec.ofNat 64 (BitVec.ofNat 32 (hi32 s.blk.cadence)).toNat)

/-! ### Observation -/

/-- The rows of the trace buffers and of sampling: TRACE_DMA_WRITE writes whole groups of eight records while the buffer is enabled, and
everything after (R438, R440); the flush timer writes what a record has waited 10 µs in (R438); TRACE_DISABLE clears EN, keeps the other
fields and drains the buffer; TB_SIZE gives a disabled, empty buffer its ring (R440); TB_HEAD advances the host's index or is an access
error (R437); the occupancy is sampled once a µs (R433); and a read of the upper half of OB_SCAN_DATA advances OB_SCAN_ADDR (R452).
A row whose condition does not hold changes nothing (log entry 2, the model's choice). -/
def Obligations.ObservationRows : Prop :=
  ∀ s : State,
    (∀ k, Runs s → (s.blk.tbuf k).en = true →
        Gives (.traceDmaWrite k) s (s.blk.traceDma k ((s.blk.tbuf k).recs.length / 8 * 8)))
    ∧ (∀ k, Runs s → (s.blk.tbuf k).en = false → Gives (.traceDmaWrite k) s (s.blk.traceDma k (s.blk.tbuf k).recs.length))
    ∧ (∀ k a l, Runs s → (s.blk.tbuf k).times = a :: l → a + 10 * Config.cyclesUs ≤ s.blk.zclk →
        Gives (.traceFlushTimer k) s (s.blk.traceDma k (s.blk.tbuf k).recs.length))
    ∧ (∀ k t r w, Runs s → t = s.blk.tbuf k → t.recs = [r] → (t.tail + 2 * t.size - t.head) % (2 * t.size) < t.size →
        s.blk.writeHome 0 (t.base + t.tail % t.size * 32) (leBytes 32 r.toNat) = .ok w →
        (t.en = false → ∃ b : Block, Leaves (.traceDmaWrite k) s b fun b =>
            (b.tbuf k).recs = [] ∧ (b.tbuf k).tail = (t.tail + 1) % (2 * t.size) ∧ b.dev = w.dev ∧ b.host = w.host)
        ∧ (∀ a l, t.times = a :: l → a + 10 * Config.cyclesUs ≤ s.blk.zclk → ∃ b : Block, Leaves (.traceFlushTimer k) s b fun b =>
            (b.tbuf k).recs = [] ∧ (b.tbuf k).tail = (t.tail + 1) % (2 * t.size) ∧ b.dev = w.dev ∧ b.host = w.host))
    ∧ (∀ k, Runs s → (s.blk.tbuf k).times = [] → Gives (.traceFlushTimer k) s s.blk)
    ∧ (∀ path b, Takes s path Reg.TB_CTL →
        b = s.blk.tbCtlWrite path ({ s.blk.tbuf s.blk.tbSel with en := false, fault := false } : TraceBuf).ctl →
        Gives (.traceDisable path) s (b.traceDma b.tbSel (b.tbuf b.tbSel).recs.length)
        ∧ ((s.blk.tbuf s.blk.tbSel).recs = [] → (s.blk.tbuf s.blk.tbSel).ctx < 4096 → ∃ b : Block, Leaves (.traceDisable path) s b fun b =>
            (b.tbuf s.blk.tbSel).en = false ∧ (b.tbuf s.blk.tbSel).base = (s.blk.tbuf s.blk.tbSel).base))
    ∧ (∀ path (v : BitVec 32), Takes s path Reg.TB_SIZE → (s.blk.tbuf s.blk.tbSel).en = true → Gives (.tbSizeWrite path v) s s.blk)
    ∧ (∀ path (v : BitVec 32) base, Takes s path Reg.TB_SIZE → (s.blk.tbuf s.blk.tbSel).en = false →
        (s.blk.tbuf s.blk.tbSel).recs = [] → 12 ≤ v.toNat % 32 → v.toNat % 32 ≤ 24 →
        base = s.blk.stagedOr path Reg.TB_BASE_LO ((s.blk.tbuf s.blk.tbSel).base % 2 ^ 32)
          + 2 ^ 32 * s.blk.stagedOr path Reg.TB_BASE_HI ((s.blk.tbuf s.blk.tbSel).base / 2 ^ 32) → base % 2 ^ (v.toNat % 32) = 0 →
        Gives (.tbSizeWrite path v) s ((s.blk.unstagePath path fun a => a = Reg.TB_BASE_LO ∨ a = Reg.TB_BASE_HI).setTbuf s.blk.tbSel
          { s.blk.tbuf s.blk.tbSel with base := base, log2 := v.toNat % 32, tail := 0, head := 0 }))
    ∧ (∀ path (v : BitVec 32) t, Takes s path Reg.TB_HEAD → t = s.blk.tbuf s.blk.tbSel →
        Gives (.tbHeadWrite path v) s (if headOkay t.size t.tail t.head (v.toNat % 2 ^ 21)
          then s.blk.setTbuf s.blk.tbSel { t with head := v.toNat % 2 ^ 21 } else s.blk.pageErr path Reg.TB_HEAD))
    ∧ (Runs s → Config.cyclesUs ≤ s.blk.frac Reg.OB_QOCC_NOW →
        Leaves .occupancySample s (s.blk.setFrac Reg.OB_QOCC_NOW 0).sampleOcc fun b => b.occ.now = (List.range 4).map s.blk.slotsHeld)
    ∧ (Runs s → s.blk.frac Reg.OB_QOCC_NOW < Config.cyclesUs → Gives .occupancySample s s.blk)
    ∧ (∀ path, Reads s path →
        Gives (.obScanDataRead path .lo32) s (s.blk.answer (lo32 s.blk.scanWord))
        ∧ Gives (.obScanDataRead path .hi32) s ((s.blk.setReg Reg.OB_SCAN_ADDR (s.blk.reg Reg.OB_SCAN_ADDR + 1)).answer (hi32 s.blk.scanWord))
        ∧ Gives (.obScanDataRead path .lo64) s ((s.blk.setReg Reg.OB_SCAN_ADDR (s.blk.reg Reg.OB_SCAN_ADDR + 1)).answer s.blk.scanWord))

/-- The global stop and the breakpoints: GO stops a running block and takes its image and time (R447, R452), an edge of STOP_IN does while
it is enabled, and RELEASE ends the stop (R451); a breakpoint that its work reaches halts it (R455), is committed for a version of a
context with debug on (R454), and resumes what it has halted, past the stitch, or delivers its next one (R456); CN_CTL freezes the Cinder log (R461).
A row whose condition does not hold changes nothing (log entry 2, the model's choice). -/
def Obligations.StopAndBreakpointRows : Prop :=
  ∀ s : State,
    (∀ path, Takes s path Reg.OB_STOP_CTL → s.blk.stop.stopped = false → ∃ b,
        b = { s.blk with stop := { stopped := true, cause := 1, at_ := s.blk.ns, image := s.blk.scanImage 1 } }
        ∧ Gives (.globalStopRequest path) s
          ((b.setReg Reg.OB_STOP_TIME_LO (s.blk.ns % 2 ^ 32)).setReg Reg.OB_STOP_TIME_HI (s.blk.ns / 2 ^ 32)))
    ∧ (∀ path, Takes s path Reg.OB_STOP_CTL → s.blk.stop.stopped = true → Gives (.globalStopRequest path) s s.blk)
    ∧ (Linked s → bit (s.blk.reg Reg.OB_STOP_CTL) 2 = false →
        Gives .stopInEdge s { s.blk with pins := { s.blk.pins with stopIn := true } })
    ∧ (Linked s → bit (s.blk.reg Reg.OB_STOP_CTL) 2 = true →
        Gives .stopInEdge s (Block.requestStop { s.blk with pins := { s.blk.pins with stopIn := true } } 2)
        ∧ (s.blk.stop.stopped = false → ∃ b : Block, Leaves .stopInEdge s b fun b =>
            b.stop.stopped = true ∧ b.stop.cause = 2 ∧ b.stop.at_ = s.blk.ns ∧ b.pins.stopIn = true))
    ∧ (∀ path, Takes s path Reg.OB_STOP_CTL → s.blk.stop.stopped = true →
        bit (s.blk.reg Reg.OB_STOP_CTL) 2 = false ∨ s.blk.pins.stopIn = false → Gives (.globalStopRelease path) s s.blk.endStop)
    ∧ (∀ path x, Takes s path Reg.OB_STOP_CTL → s.blk.stop.stopped = true → bit (s.blk.reg Reg.OB_STOP_CTL) 2 = true →
        x = s.blk.sampleStopIn → Gives (.globalStopRelease path) s (if x.1 then x.2.stopDrop else x.2.endStop))
    ∧ (∀ path, Takes s path Reg.OB_STOP_CTL → s.blk.stop.stopped = false → Gives (.globalStopRelease path) s s.blk)
    ∧ (∀ k w l, Runs s → s.blk.lane? w = some l → s.blk.workRuns w = true → s.blk.hits (s.blk.bp k) l = true →
        Leaves (.breakpointHit k w) s (((s.blk.workEngs w).foldl Block.drainEng (s.blk.setHalt w (some k))).bpHit k (s.blk.bp k)) fun b =>
          (b.bp k).hit = true ∧ ((s.blk.bp k).stop = true → b.stop.stopped = true))
    ∧ (∀ k w l, Runs s → s.blk.lane? w = some l → s.blk.workRuns w = false ∨ s.blk.hits (s.blk.bp k) l = false →
        Gives (.breakpointHit k w) s s.blk)
    ∧ (∀ k w, Runs s → s.blk.lane? w = none → Gives (.breakpointHit k w) s s.blk)
    ∧ (∀ path (v : BitVec 32) l p b, Takes s path Reg.OB_BP_CTL → p = s.blk.bp s.blk.bpSel →
        l = s.blk.stagedOr path Reg.OB_BP_LIST (p.listId * 2 ^ 16 + p.epoch) →
        b = (s.blk.unstagePath path fun a => a = Reg.OB_BP_LIST ∨ a = Reg.OB_BP_AT) → b.debugOn (bits v.toNat 31 20) = true →
        (b.version? (bits v.toNat 31 20) (bits l 31 16) (bits l 15 0)).isSome = true →
        Gives (.breakpointCommit path v) s (b.setBp s.blk.bpSel {
          ctx := bits v.toNat 31 20, listId := bits l 31 16, epoch := bits l 15 0, at_ := s.blk.stagedOr path Reg.OB_BP_AT p.at_
          en := true, hit := p.hit && !bit v.toNat 7, stop := bit v.toNat 1 }))
    ∧ (∀ path, Takes s path Reg.OB_BP_CTL → Gives (.breakpointResume path) s s.blk.bpResume ∧ Gives (.breakpointStep path) s s.blk.bpStep)
    ∧ (∀ path w l, Takes s path Reg.OB_BP_CTL → s.blk.haltedAt s.blk.bpSel = [w] → s.blk.lane? w = some l → l.live = true →
        Gives (.breakpointResume path) s ((s.blk.workEngs w).foldl Block.resumeEng
          ((s.blk.setHalt w none).modLane w fun l => { l with past := true }))
        ∧ Gives (.breakpointStep path) s ((s.blk.workEngs w).foldl Block.stepEng (s.blk.deliver l)))
    ∧ (∀ path (v : BitVec 32), Takes s path Reg.CN_CTL → bit v.toNat 0 = true →
        Gives (.cnFreezeWrite path v) s (Block.setReg { s.blk with cinder := { s.blk.cinder with post := none } } Reg.CN_CTL (v.toNat % 2)))
    ∧ (∀ path (v : BitVec 32), Takes s path Reg.CN_CTL → bit v.toNat 0 = false →
        Gives (.cnFreezeWrite path v) s (s.blk.setReg Reg.CN_CTL (v.toNat % 2)))

/-! ### The Rein ports -/

/-- Training and identification: PT_CTL takes a port out of OFF and back, and is an access error for a second TS_UP port (R373, R387); a
loss of signal is noted, and RETRAIN sends a port past training, or isolated, to TRAIN (R356, R373); TS1 and TS2 count in TRAIN, and a
TS2 ends it (R368); an attempt of 10 ms fails (R368); IDENT is sent every 10 µs, and taken in IDENT, where a good one of an allowed
partner that has seen this port's own leads to QUARANTINE, and 1 ms without it sends the port to TRAIN (R369, R373).
A row whose condition does not hold changes nothing (log entry 2, the model's choice). -/
def Obligations.TrainingRows : Prop :=
  ∀ (s : State) (p : Nat),
    (∀ path (v : BitVec 32), Takes s path (prt p Reg.PT_CTL) → bit v.toNat 3 = false → s.blk.chipId ≠ 2 ^ 32 - 1 →
        bit v.toNat 0 = true → (s.blk.port p).st = .off →
        Leaves (.ptEnWrite path p v) s ((s.blk.setReg (prt p Reg.PT_CTL) (v.toNat &&& 0xF9)).toState p .train 0) fun b =>
          (b.port p).st = .train)
    ∧ (∀ path (v : BitVec 32), Takes s path (prt p Reg.PT_CTL) → bit v.toNat 3 = true → bit v.toNat 4 = true →
        Gives (.ptEnWrite path p v) s (s.blk.pageErr path (prt p Reg.PT_CTL)))
    ∧ (∀ path, Takes s path (prt p Reg.PT_CTL) →
        Gives (.retrain path p) s (s.blk.ptCtlWrite path p (s.blk.reg (prt p Reg.PT_CTL) ||| 2))
        ∧ (bit (s.blk.reg (prt p Reg.PT_CTL)) 0 = true → bit (s.blk.reg (prt p Reg.PT_CTL)) 3 = false → s.blk.chipId ≠ 2 ^ 32 - 1 →
            (s.blk.port p).st = .ident ∨ (s.blk.port p).st = .quarantine ∨ (s.blk.port p).st = .isolated →
            ∃ b : Block, Leaves (.retrain path p) s b fun b => (b.port p).st = .train ∧ b.reg (prt p Reg.PT_CAUSE) = 2))
    ∧ (∀ lane on, Linked s → Gives (.laneSignalChange p lane on) s (s.blk.laneSignal p lane on))
    ∧ (∀ on, Linked s → (s.blk.port p).st.linked = false →
        (∃ b : Block, Leaves (.laneSignalChange p 0 on) s b fun b => (b.port p).sigA = on)
        ∧ ∃ b : Block, Leaves (.laneSignalChange p 1 on) s b fun b => (b.port p).sigB = on)
    ∧ (∀ lane x, Linked s → (s.blk.port p).st = .train → (if lane = 0 then (s.blk.port p).sigA else (s.blk.port p).sigB) = true →
        s.blk.laneRetired p lane = false → x = ((s.blk.port p).orderedSet lane).sendsSet lane → lane < (s.blk.port p).ts1Run.length →
        Leaves (.ts1 p lane) s (s.blk.setPort p { x with ts2Run := if x.selects lane then 0 else x.ts2Run }) fun b =>
          nth (b.port p).ts1Run lane = nth (s.blk.port p).ts1Run lane + 1)
    ∧ (∀ lane (x : BitVec 2), Linked s → (s.blk.port p).st ≠ .train → Gives (.ts2 p lane x) s s.blk)
    ∧ (∀ lane (x : BitVec 2), Linked s → Gives (.ts2 p lane x) s (s.blk.takeTs2 p lane x.toNat))
    ∧ (∀ x : BitVec 2, Linked s → (s.blk.port p).st = .train → (s.blk.port p).sigA = true → s.blk.laneRetired p 0 = false →
        (s.blk.port p).wellA = true → x ≠ 0 → 7 ≤ (s.blk.port p).ts2Run → 7 ≤ (s.blk.port p).ts2Sent →
        ∃ b : Block, Leaves (.ts2 p 0 x) s b fun b => (b.port p).st = .ident ∧ (b.port p).rxSpare = false
          ∧ (b.port p).txSpare = !bit x.toNat 0)
    ∧ (Linked s → (s.blk.port p).st = .train → 10 * Config.cyclesMs ≤ (s.blk.port p).stCycles →
        Gives (.trainingAttemptTimeout p) s (s.blk.attemptFails p)
        ∧ ((s.blk.port p).anySignal = true → (s.blk.port p).fails < 15 → ∃ b : Block, Leaves (.trainingAttemptTimeout p) s b fun b =>
            (b.port p).fails = (s.blk.port p).fails + 1 ∧ (b.port p).stCycles = 0))
    ∧ (Linked s → (s.blk.port p).st ≠ .train → Gives (.trainingAttemptTimeout p) s s.blk)
    ∧ (∀ f r, Linked s → (s.blk.port p).st = .ident → f.resv = 0 → (s.blk.port p).takeToken 7 = some r →
        Gives (.ident p f) s ((s.blk.setPort p r).takeIdent p f.payload)
        ∧ (s.blk.reg (prt p Reg.PT_ALLOW0) = payField f.payload 0 4 → payField f.payload 0 4 ≠ 2 ^ 32 - 1 →
            s.blk.identBad f.payload = false → bit (payField f.payload 14 1) 5 = true →
            ∃ b : Block, Leaves (.ident p f) s b fun b =>
              (b.port p).st = .quarantine ∧ (b.port p).allot = identAllot f.payload
              ∧ b.reg (prt p Reg.PT_PEER_ID) = payField f.payload 0 4))
    ∧ (∀ f, Linked s → (s.blk.port p).st = .ident → f.resv = 0 → (s.blk.port p).takeToken 7 = none →
        Gives (.ident p f) s (s.blk.rlDrop p 7))
    ∧ (Linked s → (s.blk.port p).st = .ident → 10 * Config.cyclesUs ≤ (s.blk.port p).hbCycles →
        Gives (.identSend p) s ((s.blk.sendLink p 0 (s.blk.identPayload p)).modPort p fun r => { r with hbCycles := 0 }))
    ∧ (Linked s → (s.blk.port p).st = .ident → Config.cyclesMs ≤ (s.blk.port p).stCycles →
        Leaves (.identTimeout p) s (s.blk.toState p .train 5) fun b =>
          (b.port p).st = .train ∧ b.reg (prt p Reg.PT_CAUSE) = 5)

/-- Credits, replay and authentication: CREDIT sets the counts of the peer, and counts in error isolate a port in RUN (R363, R364); the
report timer sends the port's own counts (R363); a class that waits for credits to its limit isolates the port (R364); NAK and the replay
timer replay (R361); a bad frame of a linked port counts, with its code-group errors, and is answered with NAK (R357, R359, R361); AUTH frames go to the security block while
the session is open, and are held before it (R370, R371); its verdict, a silence of 100 ms, the opening of the session and a message of
the security block do as R370 and R371 say.
A row whose condition does not hold changes nothing (log entry 2, the model's choice). -/
def Obligations.CreditAndAuthRows : Prop :=
  ∀ (s : State) (p : Nat),
    (∀ f r b, Linked s → (s.blk.port p).st = .run → f.resv = 0 → b = s.blk.rxGood p f → (b.port p).takeToken 7 = some r →
        ((b.setPort p r).port p).creditBad (creditCounts f.payload) = false →
        Gives (.credit p f) s ((b.setPort p r).modPort p fun r => RPort.flush b.ns { r with reported := creditCounts f.payload }))
    ∧ (∀ f r b, Linked s → (s.blk.port p).st = .run → f.resv = 0 → b = s.blk.rxGood p f → (b.port p).takeToken 7 = some r →
        Gives (.nak p f) s ((b.setPort p r).replay p))
    ∧ (Linked s → (s.blk.port p).st.framed = true → 100 * Config.cyclesUs ≤ (s.blk.port p).creditCycles →
        Gives (.creditReportTimer p) s (s.blk.setPort p (s.blk.port p).sendCredit))
    ∧ (∀ us cls, Linked s → (s.blk.port p).st = .run → stallLimit cls = some us → us * Config.cyclesUs ≤ nth (s.blk.port p).stallCycles cls →
        Gives (.creditStallTimeout p cls) s (s.blk.toState p .isolated 17))
    ∧ (∀ cls, Linked s → (s.blk.port p).st ≠ .run → Gives (.creditStallTimeout p cls) s s.blk)
    ∧ (Linked s → (s.blk.port p).st.framed = true → 8 * Config.cyclesUs ≤ (s.blk.port p).ackCycles →
        Gives (.replayTimer p) s (s.blk.replay p))
    ∧ (∀ errs bytes, Linked s → (s.blk.port p).st.linked = true → 0 < errs ∨ frameOf bytes = none →
        Gives (.badFrame ⟨p, errs, bytes⟩) s (((s.blk.codeErrors p (ofBit (s.blk.port p).rxSpare) errs).count32 (prt p Reg.CRC_ERR)).sendNak p))
    ∧ (∀ errs bytes, Linked s → (s.blk.port p).st.linked = false → Gives (.badFrame ⟨p, errs, bytes⟩) s s.blk)
    ∧ (∀ f r b, Linked s → (s.blk.port p).st = .quarantine → f.resv = 0 → b = s.blk.rxGood p f →
        (b.port p).takeToken 7 = some r →
        (((b.setPort p r).port p).authing = true →
          Gives (.auth p f) s (((b.setPort p r).toSecurity f.payload).setPort p { (b.setPort p r).port p with authCycles := 0 }))
        ∧ Gives (.authDone p f) s (((b.setPort p r).modPort p fun r => { r with peerDone := true }).authSettle p))
    ∧ (∀ id : BitVec 32, Runs s → (s.blk.port p).st = .quarantine → (s.blk.port p).authing = true →
        Leaves (.authVerdict p false id) s (s.blk.toState p .isolated 12) fun b =>
          (b.port p).st = .isolated ∧ b.reg (prt p Reg.PT_CAUSE) = 12)
    ∧ (∀ id : BitVec 32, Runs s → (s.blk.port p).st = .quarantine → (s.blk.port p).authing = true →
        id.toNat = s.blk.reg (prt p Reg.PT_PEER_ID) →
        Gives (.authVerdict p true id) s ((s.blk.setPort p (({ s.blk.port p with selfPass := true } : RPort).emitLink 4 0)).authSettle p))
    ∧ (Linked s → (s.blk.port p).st = .quarantine → (s.blk.port p).authing = true → 100 * Config.cyclesMs ≤ (s.blk.port p).authCycles →
        Leaves (.authTimeout p) s (s.blk.toState p .isolated 13) fun b =>
          (b.port p).st = .isolated ∧ b.reg (prt p Reg.PT_CAUSE) = 13)
    ∧ (Runs s → (s.blk.port p).st = .quarantine → (s.blk.port p).authAsked = true → (s.blk.port p).authing = false → (s.blk.port p).authHeld = [] →
        Gives (.authSessionOpen p) s (Block.setPort { s.blk with secOut := [] } p
          { s.blk.port p with authing := true, authHeld := [], authCycles := 0 }))
    ∧ (∀ bytes, Runs s → (s.blk.port p).st = .quarantine → (s.blk.port p).authing = true → bytes.length ≤ 5610 →
        Gives (.securityAuthBytes p bytes) s (s.blk.setPort p ((authChunks bytes).foldl (fun r pl => r.emitLink 3 pl) (s.blk.port p))))

/-- Frames of a port in RUN: one with the sequence number expected is taken and accepted by its class, whichever of the classes 0 to 5 it is
of (R361, R383 to R394), with a token of its class (R379), and a reserved bit makes it a bad frame (R359). Lanes, heartbeats and time synchronisation are timed
(R378, R386, R389); an event is forgotten after its second (R413); a message is sent, and consumed (R394); and FP_DEST sets its destination
(R517).
A row whose condition does not hold changes nothing (log entry 2, the model's choice). -/
def Obligations.FrameRows : Prop :=
  ∀ (s : State) (p : Nat),
    (∀ f : Frame, Linked s → (s.blk.port p).st = .run → f.resv = 0 → ((s.blk.port p).expSeq + 256 - f.seq % 256) % 256 = 0 →
        ∀ x ∈ [(Instr.heartbeat p f, 2, 0), (.sync p f, 0, 0), (.followUp p f, 0, 1), (.delayReq p f, 0, 2), (.delayResp p f, 0, 3),
          (.relay p f, 3, 0), (.error p f, 1, 0), (.abort p f, 1, 1), (.record p f, 4, 0), (.message p f, 5, 0)],
        Gives x.1 s ((s.blk.rxGood p { f with cls := x.2.1, typ := x.2.2 }).rxAccept p { f with cls := x.2.1, typ := x.2.2 }))
    ∧ (∀ (f : Frame) (b : Block) r, Linked s → (s.blk.port p).st = .run → f.resv = 0 → ((s.blk.port p).expSeq + 256 - f.seq % 256) % 256 = 0 →
        f.replay = false → s.blk.stop.stopped = false → s.blk.st ≠ .off →
        ∀ x ∈ [(Instr.heartbeat p f, 2, 0), (.sync p f, 0, 0), (.followUp p f, 0, 1), (.delayReq p f, 0, 2), (.delayResp p f, 0, 3),
          (.relay p f, 3, 0), (.error p f, 1, 0), (.abort p f, 1, 1), (.record p f, 4, 0), (.message p f, 5, 0)],
        b = ((s.blk.rxGood p { f with cls := x.2.1, typ := x.2.2 }).modPort p fun r =>
          { r with expSeq := (r.expSeq + 1) % 256, ackedTo := some f.seq, nakFor := none }) → (b.port p).takeToken x.2.1 = some r →
        Gives x.1 s ((b.setPort p r).rxTake p { f with cls := x.2.1, typ := x.2.2 }))
    ∧ (∀ (f : Frame) (b : Block) r, Linked s → (s.blk.port p).st = .run → f.resv = 0 → ((s.blk.port p).expSeq + 256 - f.seq % 256) % 256 = 0 →
        f.replay = false → s.blk.stop.stopped = false → s.blk.st ≠ .off →
        b = ((s.blk.rxGood p { f with cls := 5, typ := 0 }).modPort p fun r =>
          { r with expSeq := (r.expSeq + 1) % 256, ackedTo := some f.seq, nakFor := none }) → (b.port p).takeToken 5 = some r →
        ∃ c : Block, Leaves (.message p f) s c fun c => (c.port p).mgRx = (b.port p).mgRx ++ [f.payload])
    ∧ (∀ f : Frame, Linked s → (s.blk.port p).st = .run → f.resv ≠ 0 →
        ∀ i ∈ [Instr.heartbeat p f, .sync p f, .followUp p f, .delayReq p f, .delayResp p f, .relay p f, .error p f, .abort p f, .record p f,
          .message p f, .laneSwitch p f], Gives i s (s.blk.rxBad p))
    ∧ (∀ f r b, Linked s → (s.blk.port p).st = .run → f.resv = 0 → b = s.blk.rxGood p f → (b.port p).takeToken 7 = some r →
        Gives (.laneSwitch p f) s ((b.setPort p r).takeLaneSwitch p (payField f.payload 0 1)))
    ∧ (∀ lane errs lock b, Linked s → (s.blk.port p).st.linked = true → lane = ofBit (s.blk.port p).rxSpare →
        b = s.blk.codeErrors p lane errs → lock = false ∨ (b.port p).noisy b.aonClk lane = true →
        Gives (.laneFailure ⟨p, lane, errs, lock⟩) s (b.laneFails p))
    ∧ (∀ lane errs b, Linked s → (s.blk.port p).st.linked = true → b = s.blk.codeErrors p lane errs →
        (b.port p).noisy b.aonClk lane = false → Gives (.laneFailure ⟨p, lane, errs, true⟩) s b)
    ∧ (∀ lane errs, Linked s → (s.blk.port p).st = .train →
        Gives (.laneFailure ⟨p, lane, errs, false⟩) s
          ((s.blk.codeErrors p lane errs).setPort p (((s.blk.codeErrors p lane errs).port p).unwell lane)))
    ∧ (∀ lane errs lock, Linked s → (s.blk.port p).st = .off → Gives (.laneFailure ⟨p, lane, errs, lock⟩) s s.blk)
    ∧ (Linked s → (s.blk.port p).st.framed = true → s.blk.field (prt p Reg.HB_CTL) 15 0 * Config.cyclesUs ≤ (s.blk.port p).hbCycles →
        Gives (.heartbeatSend p) s ((s.blk.setPort p { s.blk.port p with hbSent := ((s.blk.port p).hbSent + 1) % 2 ^ 32, hbCycles := 0 }).sendFrame
          p 2 0 (pay (s.blk.chipId + (s.blk.port p).hbSent * 2 ^ 32 + s.blk.ns * 2 ^ 64))))
    ∧ (Linked s → (s.blk.port p).st.framed = true → s.blk.field (prt p Reg.HB_CTL) 31 16 * Config.cyclesUs ≤ (s.blk.port p).hbLast →
        Gives (.heartbeatTimeout p) s (s.blk.toState p .train 6))
    ∧ (Linked s → (s.blk.port p).st = .run → bit (s.blk.reg (prt p Reg.PT_CTL)) 4 = true → 112500 ≤ (s.blk.port p).exchCycles → ∃ n b,
        n = ((s.blk.port p).exch + 1) % 2 ^ 32 ∧ b = s.blk.setPort p { s.blk.port p with exch := n, exchCycles := 0 }
        ∧ Gives (.timeSyncExchange p) s
          ((b.sendFrame p 0 0 (pay (n + b.depth * 2 ^ 32))).sendFrame p 0 1 (pay (n + b.ns * 2 ^ 64))))
    ∧ (∀ (o : BitVec 32) (i : BitVec 16) (n : BitVec 32), Linked s → Gives (.eventForget o i n) s { s.blk with
        seen := s.blk.seen.filter fun e => !(e.origin = o.toNat ∧ e.inc = i.toNat ∧ e.no = n.toNat ∧ 1000 * Config.cyclesMs ≤ e.age) })
    ∧ (∀ path b, Takes s path (prt p Reg.MG_TX_CTL) → (s.blk.port p).st = .run → (s.blk.port p).mgBusy = false →
        b = (s.blk.setPort p { s.blk.port p with mgBusy := true }).setField (prt p Reg.MG_TX_CTL) 1 1 0 →
        Gives (.mgTxGo path p) s (b.sendFrame p 5 0 (b.mgTx p)))
    ∧ (∀ path, Takes s path (prt p Reg.MG_TX_CTL) → (s.blk.port p).st ≠ .run →
        Gives (.mgTxGo path p) s (s.blk.pageErr path (prt p Reg.MG_TX_CTL)))
    ∧ (∀ path x, Takes s path (prt p Reg.MG_RX_CTL) → (s.blk.port p).mgRx = [x] →
        Gives (.mgRxConsume path p) s ((s.blk.modPort p fun r => { r with mgRx := [] }).consume p 5))
    ∧ (∀ path, Takes s path (prt p Reg.MG_RX_CTL) → (s.blk.port p).mgRx = [] → Gives (.mgRxConsume path p) s s.blk)
    ∧ (∀ path (v : BitVec 32), Takes s path Reg.FP_DEST → s.blk.st ≠ .off → v = noDest →
        Gives (.fpDestWrite path v) s { s.blk with fpDest := Tab.set (fun _ => noDest) s.blk.fpDest (s.blk.field Reg.FP_DEST_SEL 7 0) v })
    ∧ (∀ path (v : BitVec 32), Takes s path Reg.FP_DEST → v ≠ noDest → v.toNat = s.blk.chipId →
        Gives (.fpDestWrite path v) s (s.blk.pageErr path Reg.FP_DEST))
end

