-- ==== Sys2Proof/Laws/Agree.lean ====
section
/-!
SUPPORT. Agreement of blocks on all but a set of parts, the set as a bit mask: an equivalence for each part, closed under
composition; what the frames of the shared operations are stated in.
-/
namespace Sys2Proof.Laws

open Sys2Proof Sys2Proof.Machine Sys2Proof.Safety

/-- The place of a part in a mask. -/
def idx : Part → Nat
  | .straps => 0
  | .chip => 1
  | .pins => 2
  | .mode => 3
  | .clocks => 4
  | .free => 5
  | .answer => 6
  | .regs => 7
  | .staged => 8
  | .tables => 9
  | .sems => 10
  | .events => 11
  | .contexts => 12
  | .queues => 13
  | .harnesses => 14
  | .engines => 15
  | .stamps => 16
  | .tasks => 17
  | .dev => 18
  | .host => 19
  | .spaces => 20
  | .layout => 21
  | .wicks => 22
  | .waits => 23
  | .lists => 24
  | .mappings => 25
  | .translation => 26
  | .frames => 27
  | .ledger => 28
  | .cadence => 29
  | .lamplighter => 30
  | .microcode => 31
  | .coherence => 32
  | .ports => 33
  | .rein => 34
  | .orders => 35
  | .power => 36
  | .poison => 37
  | .heldWrites => 38
  | .wear => 39
  | .trace => 40
  | .breakpoints => 41
  | .stop => 42
  | .cinder => 43
  | .fabric => 44
  | .sent => 45
  | .security => 46

/-- `b` agrees with `a` on every part outside the mask `m`. -/
def Keeps (m : Nat) (a b : Block) : Prop := ∀ p, m.testBit (idx p) = true ∨ p.same a b

/-- Every bit of `m` is a bit of `n`. -/
def sub (m n : Nat) : Prop := m ||| n = n

theorem sub_refl (m : Nat) : sub m m := Nat.or_self m

theorem sub_trans {a b c : Nat} (h : sub a b) (k : sub b c) : sub a c := by
  unfold sub at *
  rw [← k, ← Nat.or_assoc, h]

theorem sub.up {a b c : Nat} (k : sub b c) (h : sub a b) : sub a c := sub_trans h k

theorem sub_bit {m n i : Nat} (h : sub m n) (k : m.testBit i = true) : n.testBit i = true := by
  rw [← h, Nat.testBit_or, k]
  rfl

theorem same_refl (p : Part) (a : Block) : p.same a a := by cases p <;> simp [Part.same]

theorem same_trans {p : Part} {a b c : Block} (h : p.same a b) (k : p.same b c) : p.same a c := by
  cases p <;> simp_all [Part.same]

theorem Keeps.refl (m : Nat) (a : Block) : Keeps m a a := fun p => .inr (same_refl p a)

theorem Keeps.trans {m : Nat} {a b c : Block} (h : Keeps m a b) (k : Keeps m b c) : Keeps m a c := fun p =>
  match h p, k p with
  | .inl h, _ => .inl h
  | _, .inl k => .inl k
  | .inr h, .inr k => .inr (same_trans h k)

theorem Keeps.mono {m n : Nat} {a b : Block} (s : sub m n) (h : Keeps m a b) : Keeps n a b := fun p =>
  match h p with
  | .inl h => .inl (sub_bit s h)
  | .inr h => .inr h

/-- A step that keeps all outside `m`, after others that keep all outside a larger mask. -/
theorem Keeps.step {m n : Nat} {a b c : Block} (k : Keeps m b c) (s : sub m n) (h : Keeps n a b) : Keeps n a c :=
  h.trans (k.mono s)

/-- A record update that leaves all parts outside `m`. -/
theorem Keeps.upd {m n : Nat} {a b c : Block} (h : Keeps n a b) (s : sub m n) (k : ∀ p, m.testBit (idx p) = true ∨ p.same b c) :
    Keeps n a c :=
  h.trans (Keeps.mono s k)

/-- The block of a pair. -/
theorem Keeps.snd {α : Type} {m : Nat} {a b : Block} {n : α} {e : α × Block} (he : e = (n, b)) (h : Keeps m a e.2) : Keeps m a b := by
  rw [he] at h
  exact h

/-- A choice between two blocks. -/
theorem Keeps.choice {m : Nat} {a x y : Block} {p : Prop} {i : Decidable p} (hx : p → Keeps m a x) (hy : ¬p → Keeps m a y) :
    Keeps m a (@ite Block p i x y) := by
  split
  · exact hx ‹_›
  · exact hy ‹_›

/-- A choice between two pairs. -/
theorem Keeps.choice2 {α : Type} {m : Nat} {a : Block} {x y : α × Block} {p : Prop} {i : Decidable p} (hx : p → Keeps m a x.2)
    (hy : ¬p → Keeps m a y.2) : Keeps m a (@ite (α × Block) p i x y).2 := by
  split
  · exact hx ‹_›
  · exact hy ‹_›

/-- A mask within a list of parts. -/
theorem agree_of_keeps {m : Nat} {a b : Block} {ps : List Part} (h : Keeps m a b)
    (k : (Part.all.all fun p => ps.contains p || !m.testBit (idx p)) = true) : agreeBut ps a b := by
  intro p hp
  rcases h p with hb | hb
  · have ha : p ∈ Part.all := by cases p <;> decide
    have hk := List.all_eq_true.1 k p ha
    rw [hb] at hk
    simp [hp] at hk
  · exact hb

/-! ### The wrappers of the rows -/

theorem core_keeps {m : Nat} {s t : State} {f : Block → Block} (hf : ∀ b, Keeps m b (f b)) (h : s.core f = .next t) :
    Keeps m s.blk t.blk := by
  unfold State.core at h
  injection h with h
  subst h
  split
  · exact Keeps.refl m _
  · exact hf _

theorem link_keeps {m : Nat} {s t : State} {f : Block → Block} (hf : ∀ b, Keeps m b (f b)) (h : s.link f = .next t) :
    Keeps m s.blk t.blk := by
  unfold State.link at h
  injection h with h
  subst h
  split
  · exact Keeps.refl m _
  · exact hf _

theorem aon_keeps {m : Nat} {s t : State} {f : Block → Block} (hf : ∀ b, Keeps m b (f b)) (h : s.aon f = .next t) :
    Keeps m s.blk t.blk := by
  unfold State.aon at h
  injection h with h
  subst h
  exact hf _

/-- A fold of steps. -/
theorem Keeps.foldl {α : Type} {m : Nat} {a : Block} {f : Block → α → Block} (hf : ∀ b x, Keeps m a b → Keeps m a (f b x)) :
    ∀ (l : List α) {b : Block}, Keeps m a b → Keeps m a (l.foldl f b)
  | [], _, h => h
  | x :: t, b, h => Keeps.foldl hf t (hf b x h)

theorem Keeps.foldr {α : Type} {m : Nat} {a : Block} {f : α → Block → Block} (hf : ∀ x b, Keeps m a b → Keeps m a (f x b)) :
    ∀ (l : List α) {b : Block}, Keeps m a b → Keeps m a (l.foldr f b)
  | [], _, h => h
  | x :: t, _, h => hf x _ (Keeps.foldr hf t h)

end Sys2Proof.Laws
end

