-- ==== Sys2Proof/Laws/Rows.lean ====
section
/-!
SUPPORT. What the wrappers of the rows and of the commands answer, under the conditions that the statements name.
-/
namespace Sys2Proof.Laws

open Sys2Proof Sys2Proof.Machine Sys2Proof.Safety

theorem core_next {s : State} {f : Block → Block} : ∃ t, s.core f = .next t ∧ t.pending = s.pending := by
  unfold State.core
  split <;> exact ⟨_, rfl, rfl⟩

theorem link_next {s : State} {f : Block → Block} : ∃ t, s.link f = .next t ∧ t.pending = s.pending := by
  unfold State.link
  split <;> exact ⟨_, rfl, rfl⟩

theorem aon_next {s : State} {f : Block → Block} : ∃ t, s.aon f = .next t ∧ t.pending = s.pending := ⟨_, rfl, rfl⟩

theorem core_runs {s : State} {f : Block → Block} (h : Runs s) : s.core f = .next { s with blk := f s.blk } := by
  unfold State.core
  rw [if_neg]
  simpa [Runs] using h

theorem core_holds {s : State} {f : Block → Block} (h : s.blk.frozen = true) : s.core f = .next s := by
  unfold State.core
  rw [if_pos h]

theorem cc_runs {s : State} {f : Block → Block} (h : Runs s) (hl : s.blk.ccLive = true) (hd : s.blk.down = false) :
    s.cc f = .next { s with blk := f s.blk } := by
  unfold State.cc
  rw [core_runs h, if_pos]
  simp [hl, hd]

theorem link_runs {s : State} {f : Block → Block} (h : Linked s) : s.link f = .next { s with blk := f s.blk } := by
  unfold State.link
  rw [if_neg]
  simpa [Linked] using h

theorem Runs.linked {s : State} (h : Runs s) : Linked s := by
  unfold Runs Block.frozen at h
  simp only [Bool.or_eq_false_iff] at h
  exact h.2

/-- A write that is taken. -/
theorem regWrite_takes {s : State} {path a : Nat} {f : Block → Block} (h : Takes s path a) : s.blk.regWrite path a f = f s.blk := by
  obtain ⟨hp, hu, hc, hs, hg⟩ := h
  have h3 : path ≠ 3 := by omega
  unfold Block.regWrite
  rw [if_neg (by simp [hu]), if_neg (by simp [hc]), if_neg, if_neg h3, if_neg]
  · intro hx
    have hh := hg hx.1
    rw [hh] at hx
    exact absurd hx.2 (by decide)
  · rintro ⟨h1, h2⟩
    rcases hs with hs | hs
    · rw [hs] at h1
      cases h1
    · rw [hs] at h2
      cases h2

theorem write_takes {s : State} {path a : Nat} {f : Block → Block} (h : Takes s path a) :
    s.write path a f = .next { s with blk := f s.blk } := by
  unfold State.write State.aon
  dsimp only
  rw [regWrite_takes h]

theorem readBy_reads {s : State} {path w : Nat} {g f : Block → Block} (h : Reads s path) : s.blk.readBy path w g f = f s.blk := by
  unfold Block.readBy
  rw [if_neg (by simp [h.1]), if_neg (by simp [h.2])]

/-- A decided command takes its row's action. -/
theorem runCmd_decided {s : State} {q i opc : Nat} {c : Cmd} {f : Cmd → Block → Block} (h : Decided s q i opc c) :
    s.blk.runCmd q i opc f = f c s.blk := by
  obtain ⟨h1, h2, h3, h4, h5, h6⟩ := h
  unfold Block.runCmd
  rw [h1]
  simp only [h2, h3, h4, h5, ne_eq, not_true_eq_false, Bool.false_eq_true, or_self, if_false, if_neg h6]

/-- A command under way takes its row's action. -/
theorem runCmd_underway {s : State} {q i opc : Nat} {c : Cmd} {f : Cmd → Block → Block} (h : Underway s q i opc c) :
    s.blk.runCmd q i opc f = f c s.blk := by
  obtain ⟨h1, h2, h3, h4, h5⟩ := h
  unfold Block.runCmd
  rw [h1]
  simp [h2, h3, h4, h5]

/-- A kernel command on an OPEN context goes to its own action. -/
theorem kernel_open {b : Block} {c : Cmd} {t : Nat} {f : Block → Block} (ht : c.op.target = some t) (h : (b.ctx t).st = .opn) :
    b.kernel c f = f b := by
  unfold Block.kernel
  rw [ht]
  simp [Block.ctxLost, Block.ctxFree, Block.ctxClosing, h]

/-- A kernel command that names no context goes to its own action. -/
theorem kernel_none {b : Block} {c : Cmd} {f : Block → Block} (ht : c.op.target = none) : b.kernel c f = f b := by
  unfold Block.kernel
  rw [ht]

/-- A read by a unit of the block through a home at rest goes on. -/
theorem viaHome_rest {b : Block} {ctx va n : Nat} {go : Block} (h : AtRest b) : b.viaHome ctx va n go = go := by
  unfold Block.viaHome
  split
  · rw [if_neg (by simp [h.2])]
  · rfl

/-- An access through a home at rest goes on. -/
theorem atHome_rest {b : Block} {q i : Nat} {m : MRes (List Phys)} {go : Block} (h : AtRest b) : b.atHome q i m go = go := by
  unfold Block.atHome Block.walkHeld
  cases m <;> simp [h.1, h.2]

theorem access_ok {α : Type} {b : Block} {c : Cmd} {x va n : Nat} {w : Bool} {m : MRes α} {v : α} {f : α → Block} (r : AtRest b)
    (h : m = .ok v) : b.access c x va n w m f = f v := by
  unfold Block.access
  rw [h]
  exact atHome_rest r

end Sys2Proof.Laws
end

