-- ==== Sys2Proof/Laws/Commands.lean ====
section
/-!
SUPPORT. What ending and changing a command does to the commands that the block holds.
-/
namespace Sys2Proof.Laws

open Sys2Proof Sys2Proof.Machine Sys2Proof.Safety

/-- A map that keeps the place of each command keeps where a command is found. -/
theorem find_mapIf {p f} {l : List Cmd} {q i : Nat} (hf : ∀ c, (f c).q = c.q ∧ (f c).i = c.i) :
    (mapIf p f l).find? (fun c => decide (c.q = q ∧ c.i = i)) = (l.find? (fun c => decide (c.q = q ∧ c.i = i))).map fun c => if p c then f c else c := by
  unfold mapIf
  rw [List.find?_map]
  congr 1
  apply congrFun
  congr 1
  funext c
  simp only [Function.comp]
  split
  · rw [(hf c).1, (hf c).2]
  · rfl

/-- The command at a place after a map over the commands. -/
theorem mapCmds_cmd {b : Block} {p f} {q i : Nat} (hf : ∀ c, (f c).q = c.q ∧ (f c).i = c.i) :
    (b.mapCmds p f).cmd? q i = (b.cmd? q i).map fun c => if p c then f c else c := find_mapIf hf

/-- A change of one command leaves the others. -/
theorem modCmd_other {b : Block} {f} {q i q' i' : Nat} (hf : ∀ c, (f c).q = c.q ∧ (f c).i = c.i) (h : ¬(q' = q ∧ i' = i)) :
    (b.modCmd q i f).cmd? q' i' = b.cmd? q' i' := by
  unfold Block.modCmd
  rw [mapCmds_cmd hf]
  cases e : b.cmd? q' i' with
  | none => rfl
  | some c =>
    have hc := List.find?_some e
    simp only [decide_eq_true_eq] at hc
    simp only [Option.map_some]
    rw [if_neg]
    simp only [decide_eq_true_eq]
    rw [hc.1, hc.2]
    exact h

/-- A change of one command, at that command. -/
theorem modCmd_self {b : Block} {f} {q i : Nat} {c : Cmd} (hf : ∀ c, (f c).q = c.q ∧ (f c).i = c.i) (e : b.cmd? q i = some c) :
    (b.modCmd q i f).cmd? q i = some (f c) := by
  unfold Block.modCmd
  rw [mapCmds_cmd hf, e]
  have hc := List.find?_some e
  simp only [decide_eq_true_eq] at hc
  simp [hc]

/-- The command at a place after the deadlines are fixed (R161). -/
theorem fixDeadlines_cmd {b : Block} {q i : Nat} : b.fixDeadlines.cmd? q i = (b.cmd? q i).map fun c =>
    if (c.deadline.isNone && decide ((b.queue c.q).cls = 2) && b.eligible c) = true then
      { c with deadline := some (min max64 ((b.queue c.q).anchor + (b.queue c.q).span)) } else c := by
  unfold Block.fixDeadlines
  rw [mapCmds_cmd]
  intro c; exact ⟨rfl, rfl⟩

/-- The command that ends. -/
theorem endCmd_cmd {b : Block} {q i st : Nat} {c : Cmd} (h : b.cmd? q i = some c) (hp : ∀ k, c.phase ≠ .ended k) :
    (b.endCmd q i st).cmd? q i = some { c with phase := .ended st, stalled := false, bp := none } := by
  unfold Block.endCmd
  generalize hb : (((b.dropCmdWaits q i).dropPlacing q i).leaveFaults (Asker.cmd q i)).dropLane (Work.cmd q i) = b'
  have h' : b'.cmd? q i = some c := by rw [← hb]; exact h
  rw [fixDeadlines_cmd]
  rw [modCmd_self ?_ h']
  rotate_left
  · intro c; cases c.phase <;> exact ⟨rfl, rfl⟩
  have : ∀ b' : Block, b'.eligible { c with phase := .ended st, stalled := false, bp := none } = false := by
    intro b'
    simp [Block.eligible]
  cases hph : c.phase <;> simp_all

/-- The commands that do not end, but for their deadlines. -/
theorem endCmd_other {b : Block} {q i st q' i' : Nat} (hn : ¬(q' = q ∧ i' = i)) :
    ((b.endCmd q i st).cmd? q' i').map (fun c => { c with deadline := none }) = (b.cmd? q' i').map fun c => { c with deadline := none } := by
  unfold Block.endCmd
  rw [fixDeadlines_cmd, modCmd_other ?_ hn, Option.map_map]
  rotate_left
  · intro c; cases c.phase <;> exact ⟨rfl, rfl⟩
  show (b.cmd? q' i').map _ = _
  congr 1
  funext c
  simp only [Function.comp]
  split <;> rfl

/-- A command that had not ended has. -/
theorem endCmd_ended {b : Block} {q i st : Nat} {c : Cmd} (h : b.cmd? q i = some c) (hp : ∀ k, c.phase ≠ .ended k) :
    HasEnded q i st (b.endCmd q i st) := ⟨_, endCmd_cmd h hp, rfl⟩

/-- Blocks that agree on their queues hold the same commands. -/
theorem cmd_of {a b : Block} {q i : Nat} (h : Part.same .queues a b) : b.cmd? q i = a.cmd? q i := by
  unfold Block.cmd?
  rw [h.2]

/-- A decided command ends. -/
theorem decided_ended {s : State} {b : Block} {q i opc st : Nat} {c : Cmd} (h : Decided s q i opc c) (k : Part.same .queues s.blk b) : HasEnded q i st (b.endCmd q i st) :=
  endCmd_ended ((cmd_of k).trans h.1) (by intro k; rw [h.2.2.2.1]; exact nofun)

/-- A command under way ends. -/
theorem underway_ended {s : State} {b : Block} {q i opc st : Nat} {c : Cmd} (h : Underway s q i opc c) (k : Part.same .queues s.blk b) : HasEnded q i st (b.endCmd q i st) :=
  endCmd_ended ((cmd_of k).trans h.1) (by intro k; rw [h.2.2.2.1]; exact nofun)

/-- A command that needs no engine, or has its engines, goes to its action. -/
theorem whenPlaced_goes {b : Block} {c : Cmd} {f} (hp : c.phase = .decided ∨ c.phase = .running) (h : c.phase = .decided → c.needsPlace = false) : b.whenPlaced c f = f b := by
  unfold Block.whenPlaced
  rcases hp with hp | hp
  · rw [if_neg (by simp [h hp])]
  · rw [hp]; split <;> rfl

/-- A map over the commands keeps the queues. -/
theorem mapCmds_queue (b : Block) (p f k) : (b.mapCmds p f).queue k = b.queue k := rfl

/-- Ending a command keeps the queues. -/
theorem endCmd_queue (b : Block) (q i st k : Nat) : (b.endCmd q i st).queue k = b.queue k := by
  unfold Block.endCmd Block.fixDeadlines Block.modCmd
  rw [mapCmds_queue, mapCmds_queue]
  rfl

/-- Fixing deadlines keeps the phase of a command. -/
theorem fixDeadlines_phase {b : Block} {q i : Nat} {d : Cmd} {ph : Phase} (h : b.cmd? q i = some d) (hp : d.phase = ph) :
    InPhase q i ph b.fixDeadlines := by
  refine ⟨_, by rw [fixDeadlines_cmd, h]; rfl, ?_⟩
  dsimp only
  split <;> exact hp

/-- A command that had ended keeps its status when a command ends. -/
theorem endCmd_stays {b : Block} {q i st st' q' i' : Nat} (h : HasEnded q i st b) : HasEnded q i st (b.endCmd q' i' st') := by
  obtain ⟨c, hc, hp⟩ := h
  unfold Block.endCmd
  generalize hb : (((b.dropCmdWaits q' i').dropPlacing q' i').leaveFaults (Asker.cmd q' i')).dropLane (Work.cmd q' i') = b'
  have h' : b'.cmd? q i = some c := by
    rw [← hb]
    exact hc
  have hf : ∀ c : Cmd, (match c.phase with
      | .ended _ => c
      | _ => { c with phase := .ended st', stalled := false, bp := none }).q = c.q
      ∧ (match c.phase with
      | .ended _ => c
      | _ => { c with phase := .ended st', stalled := false, bp := none }).i = c.i := by
    intro c
    cases c.phase <;> exact ⟨rfl, rfl⟩
  by_cases e : q = q' ∧ i = i'
  · obtain ⟨rfl, rfl⟩ := e
    refine fixDeadlines_phase (modCmd_self hf h') ?_
    simp only [hp]
  · exact fixDeadlines_phase ((modCmd_other hf e).trans h') hp

/-- A command among those that end has ended. -/
theorem endCmds_ended {q i st : Nat} (l : List Cmd) : ∀ b : Block,
    (HasEnded q i st b ∨ ∃ c, b.cmd? q i = some c ∧ (∀ k, c.phase ≠ .ended k) ∧ ∃ x ∈ l, x.q = q ∧ x.i = i) →
    HasEnded q i st (l.foldl (fun b c => b.endCmd c.q c.i st) b) := by
  induction l with
  | nil => intro b h; rcases h with h | ⟨c, _, _, x, hx, _⟩; exact h; cases hx
  | cons y l ih =>
    intro b h
    rw [List.foldl_cons]
    apply ih
    rcases h with h | ⟨c, hc, hp, x, hx, h1, h2⟩
    · exact .inl (endCmd_stays h)
    · by_cases hy : y.q = q ∧ y.i = i
      · rw [hy.1, hy.2]; exact .inl (endCmd_ended hc hp)
      · right
        rcases List.mem_cons.1 hx with hx | hx
        · subst hx; exact absurd ⟨h1, h2⟩ hy
        · have := endCmd_other (b := b) (st := st) (q := y.q) (i := y.i) (q' := q) (i' := i) (by intro h; exact hy ⟨h.1.symm, h.2.symm⟩)
          rw [hc] at this
          cases e : (b.endCmd y.q y.i st).cmd? q i with
          | none => rw [e] at this; cases this
          | some d =>
            rw [e] at this
            simp only [Option.map_some, Option.some.injEq] at this
            have hph : d.phase = c.phase := by have := congrArg Cmd.phase this; exact this
            exact ⟨d, rfl, by rw [hph]; exact hp, x, hx, h1, h2⟩

end Sys2Proof.Laws
end

