-- ==== Sys2Proof/Laws/Frames1.lean ====
section
/-!
SUPPORT. What each operation and each row leaves as it was. Part 1 of 5.
-/
namespace Sys2Proof.Laws

open Sys2Proof Sys2Proof.Machine Sys2Proof.Safety

theorem Block.setEpoch_keeps {F : Nat} {a : Block} {b ctx list ep} (s : sub 16777216 F) (h : Keeps F a b) :
    Keeps F a (Block.setEpoch b ctx list ep) := by
  unfold Block.setEpoch
  exact Keeps.upd (m := 16777216) h (s.up rfl) (by intro p; cases p <;> first | exact .inl rfl | (right; simp only [Part.same, and_self]))

theorem Block.syncBps_keeps {F : Nat} {a : Block} {b} (s : sub 2199023255552 F) (h : Keeps F a b) :
    Keeps F a (Block.syncBps b) := by
  unfold Block.syncBps
  exact Keeps.upd (m := 2199023255552) h (s.up rfl) (by intro p; cases p <;> first | exact .inl rfl | (right; simp only [Part.same, and_self]))

theorem Block.reapVersions_keeps {F : Nat} {a : Block} {b} (s : sub 2199040032768 F) (h : Keeps F a b) :
    Keeps F a (Block.reapVersions b) := by
  unfold Block.reapVersions
  extract_lets z0 z1
  have h2 : Keeps F a z0 := by
    subst z0
    refine Block.syncBps_keeps (s.up rfl) ?_
    exact Keeps.upd (m := 16777216) h (s.up rfl) (by intro p; cases p <;> first | exact .inl rfl | (right; simp only [Part.same, and_self]))
  exact Keeps.upd (m := 16777216) h2 (s.up rfl) (by intro p; cases p <;> first | exact .inl rfl | (right; simp only [Part.same, and_self]))

theorem Block.dropVersion_keeps {F : Nat} {a : Block} {b ctx list ep} (s : sub 2199040032768 F) (h : Keeps F a b) :
    Keeps F a (Block.dropVersion b ctx list ep) := by
  unfold Block.dropVersion
  extract_lets z0
  have h1 : Keeps F a z0 := by
    subst z0
    exact Keeps.upd (m := 16777216) h (s.up rfl) (by intro p; cases p <;> first | exact .inl rfl | (right; simp only [Part.same, and_self]))
  refine Keeps.choice (fun h2 => ?_) (fun h2 => ?_)
  · exact (Block.setEpoch_keeps (s.up rfl) (Block.syncBps_keeps (s.up rfl) h1))
  · exact (Block.reapVersions_keeps (s.up rfl) h1)

theorem Block.mapCmds_keeps {F : Nat} {a : Block} {b p' f} (s : sub 8192 F) (h : Keeps F a b) :
    Keeps F a (Block.mapCmds b p' f) := by
  unfold Block.mapCmds
  exact Keeps.upd (m := 8192) h (s.up rfl) (by intro p; cases p <;> first | exact .inl rfl | (right; simp only [Part.same, and_self]))

theorem Block.modCmd_keeps {F : Nat} {a : Block} {b q i f} (s : sub 8192 F) (h : Keeps F a b) :
    Keeps F a (Block.modCmd b q i f) := by
  unfold Block.modCmd
  exact (Block.mapCmds_keeps (s.up rfl) h)

theorem Block.dropLoadOf_keeps {F : Nat} {a : Block} {b c} (s : sub 2199040040960 F) (h : Keeps F a b) :
    Keeps F a (Block.dropLoadOf b c) := by
  unfold Block.dropLoadOf
  split
  · rename_i y0 y1 y2 y3 y4 y5 y6
    exact (Block.dropVersion_keeps (s.up rfl) (Block.modCmd_keeps (s.up rfl) h))
  · rename_i y7 y8 y9
    exact h

theorem Block.setRunning_keeps {F : Nat} {a : Block} {b q i} (s : sub 8192 F) (h : Keeps F a b) :
    Keeps F a (Block.setRunning b q i) := by
  unfold Block.setRunning
  exact (Block.modCmd_keeps (s.up rfl) h)

theorem Block.ccMod_keeps {F : Nat} {a : Block} {b f} (s : sub 4294967296 F) (h : Keeps F a b) :
    Keeps F a (Block.ccMod b f) := by
  unfold Block.ccMod
  exact Keeps.upd (m := 4294967296) h (s.up rfl) (by intro p; cases p <;> first | exact .inl rfl | (right; simp only [Part.same, and_self]))

theorem Block.putLine_keeps {F : Nat} {a : Block} {b line data mask} (s : sub 262144 F) (h : Keeps F a b) :
    Keeps F a (Block.putLine b line data mask) := by
  unfold Block.putLine
  exact Keeps.upd (m := 262144) h (s.up rfl) (by intro p; cases p <;> first | exact .inl rfl | (right; simp only [Part.same, and_self]))

theorem Block.ccSend_keeps {F : Nat} {a : Block} {b ms} (s : sub 4294967296 F) (h : Keeps F a b) :
    Keeps F a (Block.ccSend b ms) := by
  unfold Block.ccSend
  exact (Block.ccMod_keeps (s.up rfl) h)

theorem Block.freeDir_keeps {F : Nat} {a : Block} {b line} (s : sub 4294967296 F) (h : Keeps F a b) :
    Keeps F a (Block.freeDir b line) := by
  unfold Block.freeDir
  exact (Block.ccMod_keeps (s.up rfl) h)

theorem Block.setDir_keeps {F : Nat} {a : Block} {b d} (s : sub 4294967296 F) (h : Keeps F a b) :
    Keeps F a (Block.setDir b d) := by
  unfold Block.setDir
  exact (Block.ccMod_keeps (s.up rfl) h)

theorem Block.dropHolder_keeps {F : Nat} {a : Block} {b line a'} (s : sub 4294967296 F) (h : Keeps F a b) :
    Keeps F a (Block.dropHolder b line a') := by
  unfold Block.dropHolder
  split
  · rename_i y0 y1
    exact h
  · rename_i y2 y3 y4
    extract_lets z5
    refine Keeps.choice (fun h6 => ?_) (fun h6 => ?_)
    · exact (Block.freeDir_keeps (s.up rfl) h)
    · refine Keeps.choice (fun h7 => ?_) (fun h7 => ?_)
      · exact (Block.setDir_keeps (s.up rfl) h)
      · exact (Block.setDir_keeps (s.up rfl) h)

theorem Block.ccAbsorb_keeps {F : Nat} {a : Block} {b line agents} (s : sub 4295229440 F) (h : Keeps F a b) :
    Keeps F a (Block.ccAbsorb b line agents) := by
  unfold Block.ccAbsorb
  refine Keeps.foldl (fun b x h => ?_) _ ?_
  · extract_lets z0 z1
    have h2 : Keeps F a z0 := by
      subst z0
      exact (Block.ccMod_keeps (s.up rfl) h)
    have h3 : Keeps F a z1 := by
      subst z1
      refine Keeps.choice (fun h4 => ?_) (fun h4 => ?_)
      · exact (Block.putLine_keeps (s.up rfl) h2)
      · exact h2
    exact (Block.ccSend_keeps (s.up rfl) (Block.dropHolder_keeps (s.up rfl) h3))
  · exact h

theorem Block.ccEnd_keeps {F : Nat} {a : Block} {b line} (s : sub 4294967296 F) (h : Keeps F a b) :
    Keeps F a (Block.ccEnd b line) := by
  unfold Block.ccEnd
  exact (Block.ccMod_keeps (s.up rfl) h)

theorem Block.modTxn_keeps {F : Nat} {a : Block} {b line f} (s : sub 4294967296 F) (h : Keeps F a b) :
    Keeps F a (Block.modTxn b line f) := by
  unfold Block.modTxn
  exact (Block.ccMod_keeps (s.up rfl) h)

theorem Block.ccGrant_keeps {F : Nat} {a : Block} {b t} (s : sub 4295229440 F) (h : Keeps F a b) :
    Keeps F a (Block.ccGrant b t) := by
  unfold Block.ccGrant
  extract_lets z0 z1 z2 z3 z4 z5
  subst z1
  subst z2
  have h6 : Keeps F a z3 := by
    subst z3
    exact (Block.putLine_keeps (s.up rfl) h)
  have h7 : Keeps F a z5 := by
    subst z5
    refine Keeps.choice (fun h8 => ?_) (fun h8 => ?_)
    · exact h
    · clear_value z4
      clear_value z3
      clear_value z0
      split
      · rename_i y9 y10
        split
        · rename_i y11 y12
          dsimp -zeta only
          exact (Block.ccSend_keeps (s.up rfl) (Block.setDir_keeps (s.up rfl) h))
        · rename_i y13 y14 y15
          dsimp -zeta only
          exact (Block.ccSend_keeps (s.up rfl) (Block.setDir_keeps (s.up rfl) h))
      · rename_i y16 y17
        dsimp -zeta only
        exact (Block.ccSend_keeps (s.up rfl) (Block.setDir_keeps (s.up rfl) h))
      · rename_i y18 y19
        dsimp -zeta only
        exact (Block.ccSend_keeps (s.up rfl) h)
      · rename_i y20 y21
        dsimp -zeta only
        refine Keeps.choice (fun h22 => ?_) (fun h22 => ?_)
        · refine Keeps.choice (fun h23 => ?_) (fun h23 => ?_)
          · exact (Block.setDir_keeps (s.up rfl) h6)
          · exact (Block.freeDir_keeps (s.up rfl) h6)
        · refine Block.ccSend_keeps (s.up rfl) ?_
          refine Keeps.choice (fun h24 => ?_) (fun h24 => ?_)
          · exact (Block.setDir_keeps (s.up rfl) h6)
          · exact (Block.freeDir_keeps (s.up rfl) h6)
      · rename_i y25 y26
        dsimp -zeta only
        refine Keeps.choice (fun h27 => ?_) (fun h27 => ?_)
        · exact (Block.freeDir_keeps (s.up rfl) (Block.putLine_keeps (s.up rfl) h))
        · exact (Block.ccSend_keeps (s.up rfl) (Block.freeDir_keeps (s.up rfl) (Block.putLine_keeps (s.up rfl) h)))
      · rename_i y28 y29
        dsimp -zeta only
        refine Keeps.choice (fun h30 => ?_) (fun h30 => ?_)
        · exact (Block.dropHolder_keeps (s.up rfl) h)
        · exact (Block.ccSend_keeps (s.up rfl) (Block.dropHolder_keeps (s.up rfl) h))
      · rename_i y31 y32
        dsimp -zeta only
        refine Keeps.choice (fun h33 => ?_) (fun h33 => ?_)
        · exact (Block.freeDir_keeps (s.up rfl) (Block.putLine_keeps (s.up rfl) h))
        · exact (Block.ccSend_keeps (s.up rfl) (Block.freeDir_keeps (s.up rfl) (Block.putLine_keeps (s.up rfl) h)))
      · rename_i y34 y35 y36 y37 y38 y39 y40 y41
        exact (Block.freeDir_keeps (s.up rfl) h)
  exact (Block.ccEnd_keeps (s.up rfl) (Block.modTxn_keeps (s.up rfl) h7))

theorem Block.ccBegin_keeps {F : Nat} {a : Block} {b m'} (s : sub 4295229440 F) (h : Keeps F a b) :
    Keeps F a (Block.ccBegin b m') := by
  unfold Block.ccBegin
  extract_lets z0 z1 z2 z3
  have h4 : Keeps F a z0 := by
    subst z0
    exact (Block.ccAbsorb_keeps (s.up rfl) h)
  have h5 : Keeps F a z3 := by
    subst z3
    exact (Block.ccMod_keeps (s.up rfl) h4)
  refine Keeps.choice (fun h6 => ?_) (fun h6 => ?_)
  · exact (Block.ccGrant_keeps (s.up rfl) h5)
  · exact (Block.ccSend_keeps (s.up rfl) h5)

theorem Block.setReg_keeps {F : Nat} {a : Block} {b a' v} (s : sub 128 F) (h : Keeps F a b) :
    Keeps F a (Block.setReg b a' v) := by
  unfold Block.setReg
  exact Keeps.upd (m := 128) h (s.up rfl) (by intro p; cases p <;> first | exact .inl rfl | (right; simp only [Part.same, and_self]))

theorem Block.setField_keeps {F : Nat} {a : Block} {b a' hi lo v} (s : sub 128 F) (h : Keeps F a b) :
    Keeps F a (Block.setField b a' hi lo v) := by
  unfold Block.setField
  extract_lets z0
  exact (Block.setReg_keeps (s.up rfl) h)

theorem Block.count_keeps {F : Nat} {a : Block} {b a' hi lo k} (s : sub 128 F) (h : Keeps F a b) :
    Keeps F a (Block.count b a' hi lo k) := by
  unfold Block.count
  exact (Block.setField_keeps (s.up rfl) h)

theorem Block.count32_keeps {F : Nat} {a : Block} {b a'} (s : sub 128 F) (h : Keeps F a b) :
    Keeps F a (Block.count32 b a') := by
  unfold Block.count32
  exact (Block.count_keeps (s.up rfl) h)

theorem Block.ccStart_keeps {F : Nat} {a b b' : Block} {m' : Msg} (s : sub 4295229568 F) (h : Keeps F a b) (e : b.ccStart m' = some b') : Keeps F a b' := by
  unfold Block.ccStart at e
  split at e
  · injection e with e
    subst e
    exact Block.ccBegin_keeps (s.up rfl) (Block.ccMod_keeps (s.up rfl) h)
  · split at e
    · cases e
    · cases hv : b.victim m'.line with
      | none => rw [hv] at e; cases e
      | some d =>
        rw [hv] at e
        injection e with e
        subst e
        exact Block.ccBegin_keeps (s.up rfl) (Block.count32_keeps (s.up rfl) h)

theorem Block.ccMove_keeps {F : Nat} {a b b' : Block} (s : sub 4295229568 F) (h : Keeps F a b) (e : b.ccMove = some b') : Keeps F a b' := by
  unfold Block.ccMove at e
  obtain ⟨_, m', _, _, he, _⟩ := List.findSome?_eq_some_iff.1 e
  exact Block.ccStart_keeps (s.up rfl) h he

theorem Block.ccPump_keeps {F : Nat} {a : Block} (s : sub 4295229568 F) : ∀ {n : Nat} {b : Block}, Keeps F a b → Keeps F a (Block.ccPump n b)
  | 0, _, h => h
  | n + 1, b, h => by
    unfold Block.ccPump
    split
    · exact h
    · rename_i e
      exact Block.ccPump_keeps s (Block.ccMove_keeps (s.up rfl) h e)

theorem Block.ccGo_keeps {F : Nat} {a : Block} {b} (s : sub 4295229568 F) (h : Keeps F a b) :
    Keeps F a (Block.ccGo b) := by
  unfold Block.ccGo
  exact (Block.ccPump_keeps (s.up rfl) h)

theorem Block.ccRequest_keeps {F : Nat} {a : Block} {b m'} (s : sub 4295229568 F) (h : Keeps F a b) :
    Keeps F a (Block.ccRequest b m') := by
  unfold Block.ccRequest
  exact (Block.ccGo_keeps (s.up rfl) (Block.ccMod_keeps (s.up rfl) h))

theorem Block.homeAsk_keeps {F : Nat} {a : Block} {b ps} (s : sub 4295229568 F) (h : Keeps F a b) :
    Keeps F a (Block.homeAsk b ps) := by
  unfold Block.homeAsk
  refine Keeps.foldl (fun b x h => ?_) _ ?_
  · refine Keeps.choice (fun h0 => ?_) (fun h0 => ?_)
    · exact h
    · exact (Block.ccRequest_keeps (s.up rfl) h)
  · exact h

theorem Block.atHome_keeps {F : Nat} {a : Block} {b q i m' go} (s : sub 4295237760 F) (h : Keeps F a b) (h1 : Keeps F a go) :
    Keeps F a (Block.atHome b q i m' go) := by
  unfold Block.atHome
  split
  · rename_i y0 y1
    refine Keeps.choice (fun h2 => ?_) (fun h2 => ?_)
    · exact (Block.setRunning_keeps (s.up rfl) (Block.homeAsk_keeps (s.up rfl) h))
    · exact h1
  · rename_i y3 y4
    exact h1

theorem Block.leaveFaults_keeps {F : Nat} {a : Block} {b a'} (s : sub 67108864 F) (h : Keeps F a b) :
    Keeps F a (Block.leaveFaults b a') := by
  unfold Block.leaveFaults
  extract_lets z0
  subst z0
  exact Keeps.upd (m := 67108864) h (s.up rfl) (by intro p; cases p <;> first | exact .inl rfl | (right; simp only [Part.same, and_self]))

theorem Block.dropPlacing_keeps {F : Nat} {a : Block} {b q i} (s : sub 16384 F) (h : Keeps F a b) :
    Keeps F a (Block.dropPlacing b q i) := by
  unfold Block.dropPlacing
  exact Keeps.upd (m := 16384) h (s.up rfl) (by intro p; cases p <;> first | exact .inl rfl | (right; simp only [Part.same, and_self]))

theorem Block.dropCmdWaits_keeps {F : Nat} {a : Block} {b q i} (s : sub 8388608 F) (h : Keeps F a b) :
    Keeps F a (Block.dropCmdWaits b q i) := by
  unfold Block.dropCmdWaits
  exact Keeps.upd (m := 8388608) h (s.up rfl) (by intro p; cases p <;> first | exact .inl rfl | (right; simp only [Part.same, and_self]))

theorem Block.setEng_keeps {F : Nat} {a : Block} {b e v} (s : sub 32768 F) (h : Keeps F a b) :
    Keeps F a (Block.setEng b e v) := by
  unfold Block.setEng
  exact Keeps.upd (m := 32768) h (s.up rfl) (by intro p; cases p <;> first | exact .inl rfl | (right; simp only [Part.same, and_self]))

theorem Block.ungate_keeps {F : Nat} {a : Block} {b e} (s : sub 32768 F) (h : Keeps F a b) :
    Keeps F a (Block.ungate b e) := by
  unfold Block.ungate
  extract_lets z0 z1
  refine Block.setEng_keeps (s.up rfl) ?_
  exact Keeps.upd (m := 32768) h (s.up rfl) (by intro p; cases p <;> first | exact .inl rfl | (right; simp only [Part.same, and_self]))

theorem Block.dropEngWait_keeps {F : Nat} {a : Block} {b e} (s : sub 75530240 F) (h : Keeps F a b) :
    Keeps F a (Block.dropEngWait b e) := by
  unfold Block.dropEngWait
  extract_lets z0 z1
  have h2 : Keeps F a z0 := by
    subst z0
    exact (Block.leaveFaults_keeps (s.up rfl) h)
  refine Block.setEng_keeps (s.up rfl) ?_
  exact Keeps.upd (m := 8388608) h2 (s.up rfl) (by intro p; cases p <;> first | exact .inl rfl | (right; simp only [Part.same, and_self]))

theorem Block.releaseEng_keeps {F : Nat} {a : Block} {b e} (s : sub 75530240 F) (h : Keeps F a b) :
    Keeps F a (Block.releaseEng b e) := by
  unfold Block.releaseEng
  extract_lets z0 z1 z2
  have h3 : Keeps F a z0 := by
    subst z0
    exact (Block.ungate_keeps (s.up rfl) (Block.dropEngWait_keeps (s.up rfl) h))
  exact (Block.setEng_keeps (s.up rfl) h3)

theorem Block.releaseEngs_keeps {F : Nat} {a : Block} {b es} (s : sub 75530240 F) (h : Keeps F a b) :
    Keeps F a (Block.releaseEngs b es) := by
  unfold Block.releaseEngs
  refine Keeps.foldl (fun b x h => ?_) _ ?_
  · refine Block.releaseEng_keeps (s.up rfl) ?_
    exact h
  · exact h

theorem Block.dropPins_keeps {F : Nat} {a : Block} {b ids} (s : sub 33562624 F) (h : Keeps F a b) :
    Keeps F a (Block.dropPins b ids) := by
  unfold Block.dropPins
  extract_lets z0 z1
  subst z0
  have h2 : Keeps F a z1 := by
    subst z1
    exact Keeps.upd (m := 33554432) h (s.up rfl) (by intro p; cases p <;> first | exact .inl rfl | (right; simp only [Part.same, and_self]))
  exact (Block.mapCmds_keeps (s.up rfl) h2)

theorem Block.removeCmd_keeps {F : Nat} {a : Block} {b c} (s : sub 2199149142016 F) (h : Keeps F a b) :
    Keeps F a (Block.removeCmd b c) := by
  unfold Block.removeCmd
  extract_lets z0 z1
  have h2 : Keeps F a z0 := by
    subst z0
    exact (Block.leaveFaults_keeps (s.up rfl) (Block.dropPlacing_keeps (s.up rfl) (Block.dropCmdWaits_keeps (s.up rfl) (Block.releaseEngs_keeps (s.up rfl) h))))
  have h3 : Keeps F a z1 := by
    subst z1
    exact Keeps.upd (m := 8192) h2 (s.up rfl) (by intro p; cases p <;> first | exact .inl rfl | (right; simp only [Part.same, and_self]))
  exact (Block.reapVersions_keeps (s.up rfl) (Block.dropPins_keeps (s.up rfl) h3))

theorem Block.setQueue_keeps {F : Nat} {a : Block} {b q v} (s : sub 8192 F) (h : Keeps F a b) :
    Keeps F a (Block.setQueue b q v) := by
  unfold Block.setQueue
  exact Keeps.upd (m := 8192) h (s.up rfl) (by intro p; cases p <;> first | exact .inl rfl | (right; simp only [Part.same, and_self]))

theorem Block.discard_keeps {F : Nat} {a : Block} {b q mark} (s : sub 2199149142016 F) (h : Keeps F a b) :
    Keeps F a (Block.discard b q mark) := by
  unfold Block.discard
  refine Keeps.foldl (fun b x h => ?_) _ ?_
  · extract_lets z0 z1
    have h2 : Keeps F a z0 := by
      subst z0
      exact (Block.removeCmd_keeps (s.up rfl) h)
    exact (Block.setQueue_keeps (s.up rfl) h2)
  · exact h

theorem Block.clearMarks_keeps {F : Nat} {a : Block} {b ps} (s : sub 137472507904 F) (h : Keeps F a b) :
    Keeps F a (Block.clearMarks b ps) := by
  unfold Block.clearMarks
  extract_lets z0 z1
  subst z0
  refine Keeps.choice (fun h2 => ?_) (fun h2 => ?_)
  · exact h
  · exact Keeps.upd (m := 137472507904) h (s.up rfl) (by intro p; cases p <;> first | exact .inl rfl | (right; simp only [Part.same, and_self]))

theorem Block.putByte_keeps {F : Nat} {a : Block} {b p' x} (s : sub 4295753728 F) (h : Keeps F a b) :
    Keeps F a (Block.putByte b p' x) := by
  unfold Block.putByte
  split
  · rename_i y0 y1
    exact Keeps.upd (m := 4295229440) h (s.up rfl) (by intro p; cases p <;> first | exact .inl rfl | (right; simp only [Part.same, and_self]))
  · rename_i y2 y3
    exact Keeps.upd (m := 524288) h (s.up rfl) (by intro p; cases p <;> first | exact .inl rfl | (right; simp only [Part.same, and_self]))

theorem Block.putBytes_keeps {F : Nat} {a : Block} {b ps xs} (s : sub 141768261632 F) (h : Keeps F a b) :
    Keeps F a (Block.putBytes b ps xs) := by
  unfold Block.putBytes
  refine Block.clearMarks_keeps (s.up rfl) ?_
  refine Keeps.foldl (fun b x h => ?_) _ ?_
  · refine Block.putByte_keeps (s.up rfl) ?_
    exact h
  · exact h

theorem Block.writeHome_keeps {F : Nat} {a b b' : Block} {c va : Nat} {xs : List Byte} {need : Nat} (s : sub 141768261632 F) (h : Keeps F a b)
    (e : b.writeHome c va xs need = .ok b') : Keeps F a b' := by
  unfold Block.writeHome at e
  cases hr : b.resolveN c need true va xs.length <;> rw [hr] at e
  case ok ps =>
    have e : (if b.homeHolds ps then MRes.wait else MRes.ok (b.putBytes ps xs)) = .ok b' := e
    split at e
    · cases e
    · injection e with e
      subst e
      exact Block.putBytes_keeps (s.up rfl) h
  all_goals cases e

theorem Block.writeStatus_keeps {F : Nat} {a b b' : Block} {q i st : Nat} (s : sub 141768261632 F) (h : Keeps F a b)
    (e : b.writeStatus q i st = .ok b') : Keeps F a b' :=
  Block.writeHome_keeps (s.up rfl) h e

theorem Block.askAts_keeps {F : Nat} {a : Block} {b pasid va who log2} (s : sub 67108992 F) (h : Keeps F a b) :
    Keeps F a (Block.askAts b pasid va who log2) := by
  unfold Block.askAts
  refine Keeps.choice (fun h0 => ?_) (fun h0 => ?_)
  · exact Keeps.upd (m := 67108864) h (s.up rfl) (by intro p; cases p <;> first | exact .inl rfl | (right; simp only [Part.same, and_self]))
  · extract_lets z1
    refine Block.count32_keeps (s.up rfl) ?_
    exact Keeps.upd (m := 67108864) h (s.up rfl) (by intro p; cases p <;> first | exact .inl rfl | (right; simp only [Part.same, and_self]))

theorem Block.markOne_keeps {F : Nat} {a : Block} {b q i} (s : sub 141835370624 F) (h : Keeps F a b) :
    Keeps F a (Block.markOne b q i).2 := by
  unfold Block.markOne
  split
  · rename_i y0 y1 y2
    have h3 := Block.writeStatus_keeps (s.up rfl) h y2
    dsimp -zeta only
    exact h3
  · rename_i y4 y5 y6
    dsimp -zeta only
    exact h
  · rename_i y8 y9 y10 y11
    dsimp -zeta only
    exact h
  · rename_i y13 y14 y15 y16
    dsimp -zeta only
    exact (Block.askAts_keeps (s.up rfl) h)
  · rename_i y18 y19
    dsimp -zeta only
    exact h
  · rename_i y21 y22 y23
    dsimp -zeta only
    exact h
  · rename_i y25 y26 y27
    dsimp -zeta only
    exact h

theorem Block.markN_keeps {F : Nat} {a : Block} {q : Nat} (s : sub 141835378816 F) : ∀ {n : Nat} {b : Block}, Keeps F a b → Keeps F a (Block.markN q n b)
  | 0, _, h => h
  | n + 1, b, h => by
    unfold Block.markN
    split
    · exact h
    · extract_lets r
      have hr : Keeps F a r.2 := by
        subst r
        exact Block.markOne_keeps (s.up rfl) h
      split
      · exact Block.markN_keeps s (Block.setQueue_keeps (s.up rfl) hr)
      · exact hr

theorem Block.settleHalt_keeps {F : Nat} {a : Block} {b q} (s : sub 141835378816 F) (h : Keeps F a b) :
    Keeps F a (Block.settleHalt b q) := by
  unfold Block.settleHalt
  extract_lets z0 z1
  have h2 : Keeps F a z0 := by
    subst z0
    exact (Block.markN_keeps (s.up rfl) h)
  clear_value z1
  clear_value z0
  split
  · rename_i y3 y4 y5
    refine Keeps.choice (fun h6 => ?_) (fun h6 => ?_)
    · exact (Block.setQueue_keeps (s.up rfl) h2)
    · exact h2
  · rename_i y7 y8
    exact h2

theorem Block.setPort_keeps {F : Nat} {a : Block} {b p' v} (s : sub 8589934592 F) (h : Keeps F a b) :
    Keeps F a (Block.setPort b p' v) := by
  unfold Block.setPort
  exact Keeps.upd (m := 8589934592) h (s.up rfl) (by intro p; cases p <;> first | exact .inl rfl | (right; simp only [Part.same, and_self]))

theorem Block.mirror_keeps {F : Nat} {a : Block} {b idx r} (s : sub 8589934720 F) (h : Keeps F a b) :
    Keeps F a (Block.mirror b idx r) := by
  unfold Block.mirror
  refine Keeps.foldl (fun b x h => ?_) _ ?_
  · refine Keeps.choice (fun h0 => ?_) (fun h0 => ?_)
    · extract_lets z1 z2
      refine Keeps.choice (fun h3 => ?_) (fun h3 => ?_)
      · exact (Block.setPort_keeps (s.up rfl) h)
      · exact (Block.count32_keeps (s.up rfl) (Block.setPort_keeps (s.up rfl) h))
    · exact h
  · exact h

theorem Block.requestStop_keeps {F : Nat} {a : Block} {b cause} (s : sub 4398046511232 F) (h : Keeps F a b) :
    Keeps F a (Block.requestStop b cause) := by
  unfold Block.requestStop
  refine Keeps.choice (fun h0 => ?_) (fun h0 => ?_)
  · exact h
  · extract_lets z1 z2 z3
    have h4 : Keeps F a z3 := by
      subst z3
      exact Keeps.upd (m := 4398046511104) h (s.up rfl) (by intro p; cases p <;> first | exact .inl rfl | (right; simp only [Part.same, and_self]))
    exact (Block.setReg_keeps (s.up rfl) (Block.setReg_keeps (s.up rfl) h4))

theorem Block.cinderPut_keeps {F : Nat} {a : Block} {b typ r own} (s : sub 13202729468032 F) (h : Keeps F a b) :
    Keeps F a (Block.cinderPut b typ r own) := by
  unfold Block.cinderPut
  refine Keeps.choice (fun h0 => ?_) (fun h0 => ?_)
  · exact (Block.count32_keeps (s.up rfl) h)
  · extract_lets z1 z2 z3 z4 z5 z6 z7 z8 z9 z10 z11
    have h12 : Keeps F a z4 := by
      subst z4
      exact Keeps.upd (m := 8796093022208) h (s.up rfl) (by intro p; cases p <;> first | exact .inl rfl | (right; simp only [Part.same, and_self]))
    have h13 : Keeps F a z5 := by
      subst z5
      exact (Block.setReg_keeps (s.up rfl) h12)
    have h14 : Keeps F a z6 := by
      subst z6
      refine Keeps.choice (fun h15 => ?_) (fun h15 => ?_)
      · exact (Block.count32_keeps (s.up rfl) h13)
      · exact h13
    have h16 : Keeps F a z7 := by
      subst z7
      refine Keeps.choice (fun h17 => ?_) (fun h17 => ?_)
      · exact (Block.mirror_keeps (s.up rfl) h14)
      · exact h14
    subst z8
    have h18 : Keeps F a z10 := by
      subst z10
      clear_value z11
      clear_value z9
      clear_value z7
      clear_value z6
      clear_value z5
      clear_value z4
      clear_value z3
      clear_value z2
      clear_value z1
      split
      · rename_i y19 y20 y21
        refine Keeps.choice (fun h22 => ?_) (fun h22 => ?_)
        · dsimp -zeta only
          refine Block.setReg_keeps (s.up rfl) ?_
          exact Keeps.upd (m := 8796093022208) h16 (s.up rfl) (by intro p; cases p <;> first | exact .inl rfl | (right; simp only [Part.same, and_self]))
        · exact Keeps.upd (m := 8796093022208) h16 (s.up rfl) (by intro p; cases p <;> first | exact .inl rfl | (right; simp only [Part.same, and_self]))
      · rename_i y23 y24
        refine Keeps.choice (fun h25 => ?_) (fun h25 => ?_)
        · refine Keeps.choice (fun h26 => ?_) (fun h26 => ?_)
          · dsimp -zeta only
            refine Block.setReg_keeps (s.up rfl) ?_
            exact Keeps.upd (m := 8796093022208) h16 (s.up rfl) (by intro p; cases p <;> first | exact .inl rfl | (right; simp only [Part.same, and_self]))
          · exact Keeps.upd (m := 8796093022208) h16 (s.up rfl) (by intro p; cases p <;> first | exact .inl rfl | (right; simp only [Part.same, and_self]))
        · exact h16
    have h27 : Keeps F a z11 := by
      subst z11
      refine Keeps.choice (fun h28 => ?_) (fun h28 => ?_)
      · dsimp -zeta only
        refine Block.setReg_keeps (s.up rfl) ?_
        exact Keeps.upd (m := 8796093022208) h18 (s.up rfl) (by intro p; cases p <;> first | exact .inl rfl | (right; simp only [Part.same, and_self]))
      · exact h18
    refine Keeps.choice (fun h29 => ?_) (fun h29 => ?_)
    · exact (Block.count32_keeps (s.up rfl) h)
    · refine Keeps.choice (fun h30 => ?_) (fun h30 => ?_)
      · exact (Block.requestStop_keeps (s.up rfl) h27)
      · exact h27

theorem Block.cinderRec_keeps {F : Nat} {a : Block} {b typ code ctx data} (s : sub 13202729468032 F) (h : Keeps F a b) :
    Keeps F a (Block.cinderRec b typ code ctx data) := by
  unfold Block.cinderRec
  extract_lets z0
  exact (Block.cinderPut_keeps (s.up rfl) h)

theorem Block.fixDeadlines_keeps {F : Nat} {a : Block} {b} (s : sub 8192 F) (h : Keeps F a b) :
    Keeps F a (Block.fixDeadlines b) := by
  unfold Block.fixDeadlines
  exact (Block.mapCmds_keeps (s.up rfl) h)

theorem Block.haltQueue_keeps {F : Nat} {a : Block} {b q i code} (s : sub 15543613317248 F) (h : Keeps F a b) :
    Keeps F a (Block.haltQueue b q i code) := by
  unfold Block.haltQueue
  extract_lets z0 z1 z2 z3 z4 z5
  have h6 : Keeps F a z1 := by
    subst z1
    exact (Block.discard_keeps (s.up rfl) h)
  have h7 : Keeps F a z3 := by
    subst z3
    refine Block.setQueue_keeps (s.up rfl) ?_
    exact Keeps.upd (m := 8388608) h6 (s.up rfl) (by intro p; cases p <;> first | exact .inl rfl | (right; simp only [Part.same, and_self]))
  have h8 : Keeps F a z4 := by
    subst z4
    exact (Block.settleHalt_keeps (s.up rfl) h7)
  have h9 : Keeps F a z5 := by
    subst z5
    exact (Block.cinderRec_keeps (s.up rfl) h8)
  refine Keeps.choice (fun h10 => ?_) (fun h10 => ?_)
  · exact h
  · exact (Block.fixDeadlines_keeps (s.up rfl) h9)

theorem Block.clearQueues_keeps {F : Nat} {a : Block} {b es} (s : sub 32768 F) (h : Keeps F a b) :
    Keeps F a (Block.clearQueues b es) := by
  unfold Block.clearQueues
  refine Keeps.foldl (fun b x h => ?_) _ ?_
  · refine Block.setEng_keeps (s.up rfl) ?_
    exact h
  · exact h

theorem Block.dropLane_keeps {F : Nat} {a : Block} {b w} (s : sub 16777216 F) (h : Keeps F a b) :
    Keeps F a (Block.dropLane b w) := by
  unfold Block.dropLane
  exact Keeps.upd (m := 16777216) h (s.up rfl) (by intro p; cases p <;> first | exact .inl rfl | (right; simp only [Part.same, and_self]))

theorem Block.endCmd_keeps {F : Nat} {a : Block} {b q i st} (s : sub 92299264 F) (h : Keeps F a b) :
    Keeps F a (Block.endCmd b q i st) := by
  unfold Block.endCmd
  exact (Block.fixDeadlines_keeps (s.up rfl) (Block.modCmd_keeps (s.up rfl) (Block.dropLane_keeps (s.up rfl) (Block.leaveFaults_keeps (s.up rfl) (Block.dropPlacing_keeps (s.up rfl) (Block.dropCmdWaits_keeps (s.up rfl) h))))))

theorem Block.settleCmd_keeps {F : Nat} {a : Block} {b q i} (s : sub 92299264 F) (h : Keeps F a b) :
    Keeps F a (Block.settleCmd b q i) := by
  unfold Block.settleCmd
  split
  · rename_i y0 y1 y2
    split
    · rename_i y3 y4 y5
      refine Keeps.choice (fun h6 => ?_) (fun h6 => ?_)
      · exact (Block.endCmd_keeps (s.up rfl) h)
      · exact h
    · rename_i y7 y8
      exact h
  · rename_i y9 y10
    exact h

theorem Block.drainEng_keeps {F : Nat} {a : Block} {b e} (s : sub 75530240 F) (h : Keeps F a b) :
    Keeps F a (Block.drainEng b e) := by
  unfold Block.drainEng
  extract_lets z0 z1
  have h2 : Keeps F a z0 := by
    subst z0
    exact (Block.ungate_keeps (s.up rfl) (Block.dropEngWait_keeps (s.up rfl) h))
  refine Keeps.choice (fun h3 => ?_) (fun h3 => ?_)
  · exact h2
  · exact (Block.setEng_keeps (s.up rfl) h2)

theorem Block.cancelCmd_keeps {F : Nat} {a : Block} {b q i st} (s : sub 92332032 F) (h : Keeps F a b) :
    Keeps F a (Block.cancelCmd b q i st) := by
  unfold Block.cancelCmd
  split
  · rename_i y0 y1
    exact h
  · rename_i y2 y3 y4
    split
    · rename_i y5 y6 y7
      exact h
    · rename_i y8 y9
      refine Keeps.choice (fun h10 => ?_) (fun h10 => ?_)
      · extract_lets z11 z12
        have h13 : Keeps F a z11 := by
          subst z11
          exact (Block.modCmd_keeps (s.up rfl) h)
        have h14 : Keeps F a z12 := by
          subst z12
          exact (Block.clearQueues_keeps (s.up rfl) (Block.dropLane_keeps (s.up rfl) h13))
        refine Block.settleCmd_keeps (s.up rfl) ?_
        refine Keeps.foldl (fun b x h => ?_) _ ?_
        · refine Block.drainEng_keeps (s.up rfl) ?_
          exact h
        · exact h14
      · exact (Block.endCmd_keeps (s.up rfl) h)
    · rename_i y15 y16 y17
      exact (Block.endCmd_keeps (s.up rfl) h)

theorem Block.pushRec_keeps {F : Nat} {a : Block} {b r} (s : sub 2048 F) (h : Keeps F a b) :
    Keeps F a (Block.pushRec b r) := by
  unfold Block.pushRec
  extract_lets z0 z1 z2
  exact Keeps.upd (m := 2048) h (s.up rfl) (by intro p; cases p <;> first | exact .inl rfl | (right; simp only [Part.same, and_self]))

theorem Block.msix_keeps {F : Nat} {a : Block} {b pg} (s : sub 2048 F) (h : Keeps F a b) :
    Keeps F a (Block.msix b pg) := by
  unfold Block.msix
  refine Keeps.choice (fun h0 => ?_) (fun h0 => ?_)
  · extract_lets z1 z2
    refine Keeps.choice (fun h3 => ?_) (fun h3 => ?_)
    · exact Keeps.upd (m := 2048) h (s.up rfl) (by intro p; cases p <;> first | exact .inl rfl | (right; simp only [Part.same, and_self]))
    · refine Keeps.choice (fun h4 => ?_) (fun h4 => ?_)
      · exact h
      · exact Keeps.upd (m := 2048) h (s.up rfl) (by intro p; cases p <;> first | exact .inl rfl | (right; simp only [Part.same, and_self]))
  · exact h

theorem Block.raiseBit_keeps {F : Nat} {a : Block} {b pg k ctx d0 d1 inj path off} (s : sub 2176 F) (h : Keeps F a b) :
    Keeps F a (Block.raiseBit b pg k ctx d0 d1 inj path off) := by
  unfold Block.raiseBit
  extract_lets z0 z1 z2 z3 z4 z5 z6
  have h7 : Keeps F a z3 := by
    subst z3
    exact (Block.setReg_keeps (s.up rfl) h)
  have h8 : Keeps F a z4 := by
    subst z4
    exact (Block.count32_keeps (s.up rfl) h7)
  have h9 : Keeps F a z5 := by
    subst z5
    refine Keeps.choice (fun h10 => ?_) (fun h10 => ?_)
    · exact h8
    · exact (Block.setReg_keeps (s.up rfl) h8)
  have h11 : Keeps F a z6 := by
    subst z6
    exact (Block.pushRec_keeps (s.up rfl) h9)
  refine Keeps.choice (fun h12 => ?_) (fun h12 => ?_)
  · refine Keeps.choice (fun h13 => ?_) (fun h13 => ?_)
    · exact h11
    · exact (Block.msix_keeps (s.up rfl) h11)
  · exact h9

theorem Block.event_keeps {F : Nat} {a : Block} {b pg k ctx d0 d1} (s : sub 2176 F) (h : Keeps F a b) :
    Keeps F a (Block.event b pg k ctx d0 d1) := by
  unfold Block.event
  exact (Block.raiseBit_keeps (s.up rfl) h)

theorem Block.setCtx_keeps {F : Nat} {a : Block} {b c v} (s : sub 4096 F) (h : Keeps F a b) :
    Keeps F a (Block.setCtx b c v) := by
  unfold Block.setCtx
  exact Keeps.upd (m := 4096) h (s.up rfl) (by intro p; cases p <;> first | exact .inl rfl | (right; simp only [Part.same, and_self]))

theorem Block.setSlot_keeps {F : Nat} {a : Block} {b s' v} (s : sub 4194304 F) (h : Keeps F a b) :
    Keeps F a (Block.setSlot b s' v) := by
  unfold Block.setSlot
  exact Keeps.upd (m := 4194304) h (s.up rfl) (by intro p; cases p <;> first | exact .inl rfl | (right; simp only [Part.same, and_self]))

theorem Block.dropBounds_keeps {F : Nat} {a : Block} {b p'} (s : sub 4194304 F) (h : Keeps F a b) :
    Keeps F a (Block.dropBounds b p') := by
  unfold Block.dropBounds
  exact Keeps.upd (m := 4194304) h (s.up rfl) (by intro p; cases p <;> first | exact .inl rfl | (right; simp only [Part.same, and_self]))

theorem Block.setHarness_keeps {F : Nat} {a : Block} {b h' v} (s : sub 16384 F) (h : Keeps F a b) :
    Keeps F a (Block.setHarness b h' v) := by
  unfold Block.setHarness
  exact Keeps.upd (m := 16384) h (s.up rfl) (by intro p; cases p <;> first | exact .inl rfl | (right; simp only [Part.same, and_self]))

theorem Block.ledgerTerm_keeps {F : Nat} {a : Block} {b f} (s : sub 268435456 F) (h : Keeps F a b) :
    Keeps F a (Block.ledgerTerm b f) := by
  unfold Block.ledgerTerm
  exact Keeps.upd (m := 268435456) h (s.up rfl) (by intro p; cases p <;> first | exact .inl rfl | (right; simp only [Part.same, and_self]))

theorem Block.sigDrop_keeps {F : Nat} {a : Block} {b win} (s : sub 268435584 F) (h : Keeps F a b) :
    Keeps F a (Block.sigDrop b win) := by
  unfold Block.sigDrop
  refine Keeps.choice (fun h0 => ?_) (fun h0 => ?_)
  · exact (Block.count32_keeps (s.up rfl) (Block.ledgerTerm_keeps (s.up rfl) h))
  · exact (Block.count32_keeps (s.up rfl) (Block.ledgerTerm_keeps (s.up rfl) h))

theorem Block.modTask_keeps {F : Nat} {a : Block} {b ctx id f} (s : sub 131072 F) (h : Keeps F a b) :
    Keeps F a (Block.modTask b ctx id f) := by
  unfold Block.modTask
  exact Keeps.upd (m := 131072) h (s.up rfl) (by intro p; cases p <;> first | exact .inl rfl | (right; simp only [Part.same, and_self]))

theorem Block.cancelItem_keeps {F : Nat} {a : Block} {b ctx id st} (s : sub 92438528 F) (h : Keeps F a b) :
    Keeps F a (Block.cancelItem b ctx id st) := by
  unfold Block.cancelItem
  split
  · rename_i y0 y1
    exact h
  · rename_i y2 y3 y4
    split
    · rename_i y5 y6
      exact h
    · rename_i y7 y8 y9
      refine Keeps.choice (fun h10 => ?_) (fun h10 => ?_)
      · exact h
      · extract_lets z11 z12 z13 z14
        have h15 : Keeps F a z11 := by
          subst z11
          exact (Block.clearQueues_keeps (s.up rfl) (Block.dropLane_keeps (s.up rfl) h))
        have h16 : Keeps F a z12 := by
          subst z12
          refine Keeps.foldl (fun b x h => ?_) _ ?_
          · refine Block.drainEng_keeps (s.up rfl) ?_
            exact h
          · exact h15
        exact (Block.modTask_keeps (s.up rfl) h16)

theorem Block.unbindTask_keeps {F : Nat} {a : Block} {b ctx id} (s : sub 2199149273088 F) (h : Keeps F a b) :
    Keeps F a (Block.unbindTask b ctx id) := by
  unfold Block.unbindTask
  split
  · rename_i y0 y1
    exact h
  · rename_i y2 y3 y4
    extract_lets z5 z6 z7
    have h8 : Keeps F a z5 := by
      subst z5
      exact (Block.dropLane_keeps (s.up rfl) (Block.releaseEngs_keeps (s.up rfl) h))
    have h9 : Keeps F a z6 := by
      subst z6
      exact Keeps.upd (m := 8519680) h8 (s.up rfl) (by intro p; cases p <;> first | exact .inl rfl | (right; simp only [Part.same, and_self]))
    have h10 : Keeps F a z7 := by
      subst z7
      exact (Block.reapVersions_keeps (s.up rfl) (Block.dropPins_keeps (s.up rfl) h9))
    refine Keeps.foldl (fun b x h => ?_) _ ?_
    · refine Block.endCmd_keeps (s.up rfl) ?_
      exact h
    · exact h10

theorem Block.settleTask_keeps {F : Nat} {a : Block} {b ctx id} (s : sub 2199149273088 F) (h : Keeps F a b) :
    Keeps F a (Block.settleTask b ctx id) := by
  unfold Block.settleTask
  split
  · rename_i y0 y1
    exact h
  · rename_i y2 y3 y4
    refine Keeps.choice (fun h5 => ?_) (fun h5 => ?_)
    · exact (Block.unbindTask_keeps (s.up rfl) h)
    · exact h

theorem Block.snuffWaiter_keeps {F : Nat} {a : Block} {b w} (s : sub 2199149275264 F) (h : Keeps F a b) :
    Keeps F a (Block.snuffWaiter b w) := by
  unfold Block.snuffWaiter
  extract_lets z0
  have h1 : Keeps F a z0 := by
    subst z0
    exact Keeps.upd (m := 8388608) h (s.up rfl) (by intro p; cases p <;> first | exact .inl rfl | (right; simp only [Part.same, and_self]))
  clear_value z0
  split
  · rename_i y2 y3 y4 y5 y6
    exact (Block.cancelCmd_keeps (s.up rfl) h1)
  · rename_i y7 y8 y9
    split
    · rename_i y10 y11 y12 y13
      exact (Block.cancelCmd_keeps (s.up rfl) h1)
    · rename_i y14 y15 y16 y17
      exact (Block.cancelItem_keeps (s.up rfl) h1)
    · rename_i y18 y19
      exact h1
  · rename_i y20 y21 y22 y23
    extract_lets z24
    have h25 : Keeps F a z24 := by
      subst z24
      exact (Block.modTask_keeps (s.up rfl) h1)
    exact (Block.settleTask_keeps (s.up rfl) (Block.event_keeps (s.up rfl) h25))

theorem Block.snuff_keeps {F : Nat} {a : Block} {b s'} (s : sub 2199421905024 F) (h : Keeps F a b) :
    Keeps F a (Block.snuff b s') := by
  unfold Block.snuff
  extract_lets z0 z1 z2 z3 z4 z5 z6
  have h7 : Keeps F a z1 := by
    subst z1
    exact (Block.setSlot_keeps (s.up rfl) h)
  have h8 : Keeps F a z2 := by
    subst z2
    exact (Block.dropBounds_keeps (s.up rfl) h7)
  have h9 : Keeps F a z4 := by
    subst z4
    refine Keeps.foldl (fun b x h => ?_) _ ?_
    · refine Block.setHarness_keeps (s.up rfl) ?_
      exact h
    · exact h8
  have h10 : Keeps F a z6 := by
    subst z6
    refine Keeps.foldl (fun b x h => ?_) _ ?_
    · refine Block.sigDrop_keeps (s.up rfl) ?_
      exact h
    · exact Keeps.upd (m := 8388608) h9 (s.up rfl) (by intro p; cases p <;> first | exact .inl rfl | (right; simp only [Part.same, and_self]))
  refine Keeps.choice (fun h11 => ?_) (fun h11 => ?_)
  · exact h
  · refine Block.fixDeadlines_keeps (s.up rfl) ?_
    refine Keeps.foldl (fun b x h => ?_) _ ?_
    · refine Block.snuffWaiter_keeps (s.up rfl) ?_
      exact h
    · exact h10

theorem Block.snuffSigs_keeps {F : Nat} {a : Block} {b ctx l} (s : sub 2199421905024 F) (h : Keeps F a b) :
    Keeps F a (Block.snuffSigs b ctx l) := by
  unfold Block.snuffSigs
  refine Keeps.foldl (fun b x h => ?_) _ ?_
  · refine Block.snuff_keeps (s.up rfl) ?_
    exact h
  · exact h

theorem Block.abortCmd_keeps {F : Nat} {a : Block} {b q i st} (s : sub 2199421905024 F) (h : Keeps F a b) :
    Keeps F a (Block.abortCmd b q i st) := by
  unfold Block.abortCmd
  split
  · rename_i y0 y1
    exact h
  · rename_i y2 y3 y4
    split
    · rename_i y5 y6 y7
      exact h
    · rename_i y8 y9
      exact (Block.snuffSigs_keeps (s.up rfl) (Block.cancelCmd_keeps (s.up rfl) h))

theorem Block.restatus_keeps {F : Nat} {a : Block} {b q i st} (s : sub 8396800 F) (h : Keeps F a b) :
    Keeps F a (Block.restatus b q i st) := by
  unfold Block.restatus
  extract_lets z0
  have h1 : Keeps F a z0 := by
    subst z0
    exact Keeps.upd (m := 8388608) h (s.up rfl) (by intro p; cases p <;> first | exact .inl rfl | (right; simp only [Part.same, and_self]))
  exact (Block.modCmd_keeps (s.up rfl) h1)

theorem Block.loseCmd_keeps {F : Nat} {a : Block} {b x st} (s : sub 2199421905024 F) (h : Keeps F a b) :
    Keeps F a (Block.loseCmd b x st) := by
  unfold Block.loseCmd
  refine Keeps.choice (fun h0 => ?_) (fun h0 => ?_)
  · exact (Block.abortCmd_keeps (s.up rfl) (Block.modCmd_keeps (s.up rfl) h))
  · exact (Block.restatus_keeps (s.up rfl) (Block.endCmd_keeps (s.up rfl) h))

theorem Block.loseCmds_keeps {F : Nat} {a : Block} {b c code cause} (s : sub 2199421905024 F) (h : Keeps F a b) :
    Keeps F a (Block.loseCmds b c code cause) := by
  unfold Block.loseCmds
  refine Keeps.foldl (fun b x h => ?_) _ ?_
  · refine Block.loseCmd_keeps (s.up rfl) ?_
    exact h
  · exact h

theorem Block.abortItem_keeps {F : Nat} {a : Block} {b ctx id st} (s : sub 2199421905024 F) (h : Keeps F a b) :
    Keeps F a (Block.abortItem b ctx id st) := by
  unfold Block.abortItem
  split
  · rename_i y0 y1
    exact h
  · rename_i y2 y3 y4
    split
    · rename_i y5 y6
      exact h
    · rename_i y7 y8 y9
      extract_lets z10
      have h11 : Keeps F a z10 := by
        subst z10
        refine Keeps.choice (fun h12 => ?_) (fun h12 => ?_)
        · exact (Block.modTask_keeps (s.up rfl) h)
        · exact (Block.cancelItem_keeps (s.up rfl) h)
      refine Keeps.choice (fun h13 => ?_) (fun h13 => ?_)
      · exact (Block.snuffSigs_keeps (s.up rfl) h11)
      · exact h11

theorem Block.abortTask_keeps {F : Nat} {a : Block} {b ctx id} (s : sub 2199421905024 F) (h : Keeps F a b) :
    Keeps F a (Block.abortTask b ctx id) := by
  unfold Block.abortTask
  exact (Block.settleTask_keeps (s.up rfl) (Block.modTask_keeps (s.up rfl) (Block.abortItem_keeps (s.up rfl) h)))

theorem Block.dropCommits_keeps {F : Nat} {a : Block} {b p'} (s : sub 16384 F) (h : Keeps F a b) :
    Keeps F a (Block.dropCommits b p') := by
  unfold Block.dropCommits
  exact Keeps.upd (m := 16384) h (s.up rfl) (by intro p; cases p <;> first | exact .inl rfl | (right; simp only [Part.same, and_self]))

theorem Block.modPort_keeps {F : Nat} {a : Block} {b p' f} (s : sub 8589934592 F) (h : Keeps F a b) :
    Keeps F a (Block.modPort b p' f) := by
  unfold Block.modPort
  exact (Block.setPort_keeps (s.up rfl) h)

theorem Block.sendFrames_keeps {F : Nat} {a : Block} {b p' l} (s : sub 8589934592 F) (h : Keeps F a b) :
    Keeps F a (Block.sendFrames b p' l) := by
  unfold Block.sendFrames
  exact (Block.modPort_keeps (s.up rfl) h)

theorem Block.errLate_keeps {F : Nat} {a : Block} {b p' payload} (s : sub 8589934720 F) (h : Keeps F a b) :
    Keeps F a (Block.errLate b p' payload) := by
  unfold Block.errLate
  exact (Block.count32_keeps (s.up rfl) (Block.modPort_keeps (s.up rfl) h))

theorem Block.sendErr_keeps {F : Nat} {a : Block} {b p' typ payload} (s : sub 8589934720 F) (h : Keeps F a b) :
    Keeps F a (Block.sendErr b p' typ payload) := by
  unfold Block.sendErr
  extract_lets z0
  have h1 : Keeps F a z0 := by
    subst z0
    exact (Block.sendFrames_keeps (s.up rfl) h)
  refine Keeps.choice (fun h2 => ?_) (fun h2 => ?_)
  · exact (Block.errLate_keeps (s.up rfl) h1)
  · exact h1

theorem Block.postErr_keeps {F : Nat} {a : Block} {b abort job code} (s : sub 8589934720 F) (h : Keeps F a b) :
    Keeps F a (Block.postErr b abort job code) := by
  unfold Block.postErr
  extract_lets z0 z1 z2 z3
  have h4 : Keeps F a z2 := by
    subst z2
    exact (Block.setReg_keeps (s.up rfl) h)
  refine Keeps.foldl (fun b x h => ?_) _ ?_
  · refine Block.sendErr_keeps (s.up rfl) ?_
    exact h
  · exact h4

theorem Block.loseCtx_keeps {F : Nat} {a : Block} {b c code cause fromAbort} (s : sub 15543886084224 F) (h : Keeps F a b) :
    Keeps F a (Block.loseCtx b c code cause fromAbort) := by
  unfold Block.loseCtx
  extract_lets z0 z1 z2 z3 z4 z5 z6 z7 z8 z9 z10 z11 z12
  have h13 : Keeps F a z1 := by
    subst z1
    clear_value z12
    clear_value z11
    clear_value z10
    clear_value z9
    clear_value z8
    clear_value z7
    clear_value z6
    clear_value z5
    clear_value z4
    clear_value z3
    clear_value z2
    clear_value z0
    split
    · rename_i y14 y15 y16
      exact (Block.haltQueue_keeps (s.up rfl) (Block.cancelCmd_keeps (s.up rfl) h))
    · rename_i y17
      exact h
  have h18 : Keeps F a z3 := by
    subst z3
    exact (Block.setCtx_keeps (s.up rfl) h)
  have h19 : Keeps F a z4 := by
    subst z4
    exact Keeps.upd (m := 8396800) h18 (s.up rfl) (by intro p; cases p <;> first | exact .inl rfl | (right; simp only [Part.same, and_self]))
  have h20 : Keeps F a z5 := by
    subst z5
    exact (Block.loseCmds_keeps (s.up rfl) h19)
  have h21 : Keeps F a z6 := by
    subst z6
    refine Keeps.foldl (fun b x h => ?_) _ ?_
    · refine Block.abortTask_keeps (s.up rfl) ?_
      exact h
    · exact h20
  have h22 : Keeps F a z7 := by
    subst z7
    refine Keeps.foldl (fun b x h => ?_) _ ?_
    · refine Block.snuff_keeps (s.up rfl) ?_
      exact h
    · exact h21
  have h23 : Keeps F a z8 := by
    subst z8
    exact (Block.dropCommits_keeps (s.up rfl) (Block.dropBounds_keeps (s.up rfl) h22))
  have h24 : Keeps F a z9 := by
    subst z9
    exact (Block.cinderRec_keeps (s.up rfl) h23)
  have h25 : Keeps F a z10 := by
    subst z10
    exact (Block.event_keeps (s.up rfl) h24)
  have h26 : Keeps F a z11 := by
    subst z11
    exact (Block.count_keeps (s.up rfl) h25)
  have h27 : Keeps F a z12 := by
    subst z12
    refine Keeps.choice (fun h28 => ?_) (fun h28 => ?_)
    · exact (Block.postErr_keeps (s.up rfl) h26)
    · exact h26
  refine Keeps.choice (fun h29 => ?_) (fun h29 => ?_)
  · exact (Block.event_keeps (s.up rfl) h13)
  · refine Keeps.choice (fun h30 => ?_) (fun h30 => ?_)
    · exact h
    · exact (Block.fixDeadlines_keeps (s.up rfl) h27)

theorem Block.faultCmd_keeps {F : Nat} {a : Block} {b c x va len st} (s : sub 15543886084224 F) (h : Keeps F a b) :
    Keeps F a (Block.faultCmd b c x va len st) := by
  unfold Block.faultCmd
  refine Keeps.choice (fun h0 => ?_) (fun h0 => ?_)
  · exact (Block.loseCtx_keeps (s.up rfl) (Block.endCmd_keeps (s.up rfl) h))
  · exact (Block.endCmd_keeps (s.up rfl) h)

theorem Block.notePoison_keeps {F : Nat} {a : Block} {b ctx a' consumed} (s : sub 13202763024512 F) (h : Keeps F a b) :
    Keeps F a (Block.notePoison b ctx a' consumed) := by
  unfold Block.notePoison
  extract_lets z0 z1 z2
  have h3 : Keeps F a z0 := by
    subst z0
    exact (Block.count_keeps (s.up rfl) h)
  have h4 : Keeps F a z2 := by
    subst z2
    refine Keeps.choice (fun h5 => ?_) (fun h5 => ?_)
    · refine Block.cinderRec_keeps (s.up rfl) ?_
      exact Keeps.upd (m := 33554432) h3 (s.up rfl) (by intro p; cases p <;> first | exact .inl rfl | (right; simp only [Part.same, and_self]))
    · exact h3
  exact (Block.event_keeps (s.up rfl) h4)

theorem Block.poisonCmd_keeps {F : Nat} {a : Block} {b c a' consumed} (s : sub 15543886084224 F) (h : Keeps F a b) :
    Keeps F a (Block.poisonCmd b c a' consumed) := by
  unfold Block.poisonCmd
  exact (Block.loseCtx_keeps (s.up rfl) (Block.endCmd_keeps (s.up rfl) (Block.notePoison_keeps (s.up rfl) h)))

theorem Block.modFault_keeps {F : Nat} {a : Block} {b c page f} (s : sub 67108864 F) (h : Keeps F a b) :
    Keeps F a (Block.modFault b c page f) := by
  unfold Block.modFault
  exact Keeps.upd (m := 67108864) h (s.up rfl) (by intro p; cases p <;> first | exact .inl rfl | (right; simp only [Part.same, and_self]))

theorem Block.joinWait_keeps {F : Nat} {a : Block} {b ctx va a'} (s : sub 67108864 F) (h : Keeps F a b) :
    Keeps F a (Block.joinWait b ctx va a') := by
  unfold Block.joinWait
  exact (Block.modFault_keeps (s.up rfl) h)

theorem Block.modMap_keeps {F : Nat} {a : Block} {b id f} (s : sub 33554432 F) (h : Keeps F a b) :
    Keeps F a (Block.modMap b id f) := by
  unfold Block.modMap
  exact Keeps.upd (m := 33554432) h (s.up rfl) (by intro p; cases p <;> first | exact .inl rfl | (right; simp only [Part.same, and_self]))

theorem Block.setPage_keeps {F : Nat} {a : Block} {b id n x} (s : sub 33554432 F) (h : Keeps F a b) :
    Keeps F a (Block.setPage b id n x) := by
  unfold Block.setPage
  exact (Block.modMap_keeps (s.up rfl) h)

theorem Block.endAdvice_keeps {F : Nat} {a : Block} {b c page ok} (s : sub 100671616 F) (h : Keeps F a b) :
    Keeps F a (Block.endAdvice b c page ok) := by
  unfold Block.endAdvice
  extract_lets z0 z1 z2 z3 z4 z5
  subst z0
  have h6 : Keeps F a z2 := by
    subst z2
    refine Keeps.choice (fun h7 => ?_) (fun h7 => ?_)
    · exact h
    · exact (Block.count_keeps (s.up rfl) h)
  have h8 : Keeps F a z3 := by
    subst z3
    exact Keeps.upd (m := 67108864) h6 (s.up rfl) (by intro p; cases p <;> first | exact .inl rfl | (right; simp only [Part.same, and_self]))
  have h9 : Keeps F a z5 := by
    subst z5
    exact Keeps.upd (m := 67108864) h8 (s.up rfl) (by intro p; cases p <;> first | exact .inl rfl | (right; simp only [Part.same, and_self]))
  refine Keeps.foldl (fun b x h => ?_) _ ?_
  · refine Block.dropPins_keeps (s.up rfl) ?_
    exact h
  · exact h9

theorem Block.fillTlb_keeps {F : Nat} {a : Block} {b e ctx va} (s : sub 32768 F) (h : Keeps F a b) :
    Keeps F a (Block.fillTlb b e ctx va) := by
  unfold Block.fillTlb
  extract_lets z0 z1
  exact (Block.setEng_keeps (s.up rfl) h)

theorem Block.handOver_keeps {F : Nat} {a : Block} {b e va} (s : sub 32768 F) (h : Keeps F a b) :
    Keeps F a (Block.handOver b e va) := by
  unfold Block.handOver
  split
  · rename_i y0 y1 y2
    exact (Block.fillTlb_keeps (s.up rfl) h)
  · rename_i y3 y4
    exact h

theorem Block.progress_keeps {F : Nat} {a : Block} {b q i} (s : sub 8192 F) (h : Keeps F a b) :
    Keeps F a (Block.progress b q i) := by
  unfold Block.progress
  exact (Block.modCmd_keeps (s.up rfl) h)

theorem Block.progressTask_keeps {F : Nat} {a : Block} {b c t} (s : sub 131072 F) (h : Keeps F a b) :
    Keeps F a (Block.progressTask b c t) := by
  unfold Block.progressTask
  exact (Block.modTask_keeps (s.up rfl) h)

theorem Block.progressEng_keeps {F : Nat} {a : Block} {b e} (s : sub 139264 F) (h : Keeps F a b) :
    Keeps F a (Block.progressEng b e) := by
  unfold Block.progressEng
  split
  · rename_i y0 y1
    exact h
  · rename_i y2 y3 y4 y5
    exact (Block.progress_keeps (s.up rfl) h)
  · rename_i y6 y7 y8 y9
    exact (Block.progressTask_keeps (s.up rfl) h)

theorem Block.resumeAsker_keeps {F : Nat} {a : Block} {b va a'} (s : sub 141835542656 F) (h : Keeps F a b) :
    Keeps F a (Block.resumeAsker b va a') := by
  unfold Block.resumeAsker
  split
  · rename_i y0 y1
    exact (Block.handOver_keeps (s.up rfl) (Block.progressEng_keeps (s.up rfl) h))
  · rename_i y2 y3 y4
    exact (Block.progress_keeps (s.up rfl) h)
  · rename_i y5 y6
    exact (Block.settleHalt_keeps (s.up rfl) h)
  · rename_i y7 y8 y9
    exact (Block.progressTask_keeps (s.up rfl) h)
  · rename_i y10
    exact h

theorem Block.endWork_keeps {F : Nat} {a : Block} {b e st lose} (s : sub 15543886084224 F) (h : Keeps F a b) :
    Keeps F a (Block.endWork b e st lose) := by
  unfold Block.endWork
  split
  · rename_i y0 y1
    exact h
  · rename_i y2 y3 y4 y5
    split
    · rename_i y6 y7 y8
      refine Keeps.choice (fun h9 => ?_) (fun h9 => ?_)
      · exact (Block.loseCtx_keeps (s.up rfl) h)
      · exact (Block.cancelCmd_keeps (s.up rfl) h)
    · rename_i y10 y11
      exact h
  · rename_i y12 y13 y14 y15
    refine Keeps.choice (fun h16 => ?_) (fun h16 => ?_)
    · exact (Block.loseCtx_keeps (s.up rfl) (Block.cancelItem_keeps (s.up rfl) h))
    · exact (Block.cancelItem_keeps (s.up rfl) h)

theorem Block.haltEvent_keeps {F : Nat} {a : Block} {b q i code} (s : sub 2176 F) (h : Keeps F a b) :
    Keeps F a (Block.haltEvent b q i code) := by
  unfold Block.haltEvent
  exact (Block.event_keeps (s.up rfl) h)

theorem Block.ringFault_keeps {F : Nat} {a : Block} {b q} (s : sub 15543613319296 F) (h : Keeps F a b) :
    Keeps F a (Block.ringFault b q) := by
  unfold Block.ringFault
  extract_lets z0 z1
  have h2 : Keeps F a z1 := by
    subst z1
    exact (Block.haltEvent_keeps (s.up rfl) (Block.haltQueue_keeps (s.up rfl) h))
  refine Keeps.choice (fun h3 => ?_) (fun h3 => ?_)
  · refine Keeps.choice (fun h4 => ?_) (fun h4 => ?_)
    · exact (Block.event_keeps (s.up rfl) h2)
    · exact h2
  · exact h

theorem Block.cmdError_keeps {F : Nat} {a : Block} {b ctx code st} (s : sub 2176 F) (h : Keeps F a b) :
    Keeps F a (Block.cmdError b ctx code st) := by
  unfold Block.cmdError
  exact (Block.event_keeps (s.up rfl) h)

theorem Block.haltTask_keeps {F : Nat} {a : Block} {b c t st} (s : sub 2199149275264 F) (h : Keeps F a b) :
    Keeps F a (Block.haltTask b c t st) := by
  unfold Block.haltTask
  extract_lets z0
  have h1 : Keeps F a z0 := by
    subst z0
    exact (Block.modTask_keeps (s.up rfl) h)
  exact (Block.settleTask_keeps (s.up rfl) (Block.cmdError_keeps (s.up rfl) h1))

theorem Block.failAsker_keeps {F : Nat} {a : Block} {b a'} (s : sub 15544020301952 F) (h : Keeps F a b) :
    Keeps F a (Block.failAsker b a') := by
  unfold Block.failAsker
  split
  · rename_i y0 y1
    exact (Block.endWork_keeps (s.up rfl) h)
  · rename_i y2 y3 y4
    split
    · rename_i y5 y6
      exact h
    · rename_i y7 y8 y9
      split
      · rename_i y10 y11 y12
        exact (Block.ringFault_keeps (s.up rfl) h)
      · rename_i y13 y14
        exact (Block.cancelCmd_keeps (s.up rfl) (Block.dropLoadOf_keeps (s.up rfl) h))
  · rename_i y15 y16
    exact (Block.ringFault_keeps (s.up rfl) h)
  · rename_i y17 y18 y19
    exact (Block.haltTask_keeps (s.up rfl) h)
  · rename_i y20
    refine Block.event_keeps (s.up rfl) ?_
    exact Keeps.upd (m := 134217728) h (s.up rfl) (by intro p; cases p <;> first | exact .inl rfl | (right; simp only [Part.same, and_self]))

theorem Block.unmigrate_keeps {F : Nat} {a : Block} {b c page} (s : sub 33554432 F) (h : Keeps F a b) :
    Keeps F a (Block.unmigrate b c page) := by
  unfold Block.unmigrate
  exact Keeps.upd (m := 33554432) h (s.up rfl) (by intro p; cases p <;> first | exact .inl rfl | (right; simp only [Part.same, and_self]))

theorem Block.closeFault_keeps {F : Nat} {a : Block} {b c page ok} (s : sub 15544020301952 F) (h : Keeps F a b) :
    Keeps F a (Block.closeFault b c page ok) := by
  unfold Block.closeFault
  split
  · rename_i y0 y1
    exact h
  · rename_i y2 y3 y4
    extract_lets z5 z6
    have h7 : Keeps F a z5 := by
      subst z5
      exact Keeps.upd (m := 67108864) h (s.up rfl) (by intro p; cases p <;> first | exact .inl rfl | (right; simp only [Part.same, and_self]))
    have h8 : Keeps F a z6 := by
      subst z6
      exact (Block.endAdvice_keeps (s.up rfl) h7)
    refine Keeps.choice (fun h9 => ?_) (fun h9 => ?_)
    · refine Keeps.foldl (fun b x h => ?_) _ ?_
      · refine Block.resumeAsker_keeps (s.up rfl) ?_
        exact h
      · exact h8
    · refine Keeps.foldl (fun b x h => ?_) _ ?_
      · refine Block.failAsker_keeps (s.up rfl) ?_
        exact h
      · exact (Block.unmigrate_keeps (s.up rfl) h8)

theorem Block.sendPri_keeps {F : Nat} {a : Block} {b c page} (s : sub 67108992 F) (h : Keeps F a b) :
    Keeps F a (Block.sendPri b c page) := by
  unfold Block.sendPri
  refine Keeps.choice (fun h0 => ?_) (fun h0 => ?_)
  · exact (Block.count32_keeps (s.up rfl) (Block.modFault_keeps (s.up rfl) h))
  · exact (Block.modFault_keeps (s.up rfl) h)

theorem Block.setPool_keeps {F : Nat} {a : Block} {b p' v} (s : sub 134217728 F) (h : Keeps F a b) :
    Keeps F a (Block.setPool b p' v) := by
  unfold Block.setPool
  exact Keeps.upd (m := 134217728) h (s.up rfl) (by intro p; cases p <;> first | exact .inl rfl | (right; simp only [Part.same, and_self]))

theorem Block.poolEvent_keeps {F : Nat} {a : Block} {b kind pool} (s : sub 2176 F) (h : Keeps F a b) :
    Keeps F a (Block.poolEvent b kind pool) := by
  unfold Block.poolEvent
  exact (Block.event_keeps (s.up rfl) h)

theorem Block.takeFrame_keeps {F : Nat} {a b b' : Block} {ps : List Nat} {f p : Nat} (s : sub 134219904 F) (h : Keeps F a b)
    (e : b.takeFrame ps = some (f, p, b')) : Keeps F a b' := by
  unfold Block.takeFrame at e
  split at e
  · cases e
  · split at e
    · cases e
    · injection e with e
      injection e with _ e
      injection e with _ e
      subst e
      split
      · exact Block.poolEvent_keeps (s.up rfl) (Block.setPool_keeps (s.up rfl) h)
      · exact Block.setPool_keeps (s.up rfl) h

theorem Block.startDma_keeps {F : Nat} {a : Block} {b} (s : sub 67108864 F) (h : Keeps F a b) :
    Keeps F a (Block.startDma b) := by
  unfold Block.startDma
  extract_lets z0 z1
  subst z0
  subst z1
  refine Keeps.choice (fun h2 => ?_) (fun h2 => ?_)
  · exact h
  · split
    · rename_i y3 y4
      exact h
    · rename_i y5 y6 y7
      split
      · rename_i y8 y9 y10 y11 y12
        exact (Block.modFault_keeps (s.up rfl) h)
      · rename_i y13 y14
        exact h

theorem Block.wantFrame_keeps {F : Nat} {a : Block} {b c page} (s : sub 201328768 F) (h : Keeps F a b) :
    Keeps F a (Block.wantFrame b c page) := by
  unfold Block.wantFrame
  split
  · rename_i y0 y1
    exact h
  · rename_i y2 y3 y4
    split
    · rename_i y5 y6 y7
      split
      · rename_i y8 y9 y10 y11 y12
        have h13 := Block.takeFrame_keeps (s.up rfl) h y12
        exact (Block.startDma_keeps (s.up rfl) (Block.modFault_keeps (s.up rfl) h13))
      · rename_i y14 y15
        refine Keeps.choice (fun h17 => ?_) (fun h17 => ?_)
        · exact h
        · exact (Block.poolEvent_keeps (s.up rfl) (Block.modFault_keeps (s.up rfl) h))
    · rename_i y20 y21
      exact h

theorem Block.seekSource_keeps {F : Nat} {a : Block} {b c page} (s : sub 15544020301952 F) (h : Keeps F a b) :
    Keeps F a (Block.seekSource b c page) := by
  unfold Block.seekSource
  split
  · rename_i y0 y1
    exact h
  · rename_i y2 y3 y4
    extract_lets z5
    refine Keeps.choice (fun h6 => ?_) (fun h6 => ?_)
    · exact (Block.closeFault_keeps (s.up rfl) h)
    · refine Keeps.choice (fun h7 => ?_) (fun h7 => ?_)
      · clear_value z5
        split
        · rename_i y8 y9
          exact (Block.askAts_keeps (s.up rfl) (Block.modFault_keeps (s.up rfl) h))
        · rename_i y10 y11 y12
          refine Keeps.choice (fun h13 => ?_) (fun h13 => ?_)
          · exact (Block.closeFault_keeps (s.up rfl) h)
          · exact (Block.sendPri_keeps (s.up rfl) h)
      · clear_value z5
        split
        · rename_i y14 y15 y16
          exact (Block.askAts_keeps (s.up rfl) (Block.modFault_keeps (s.up rfl) h))
        · rename_i y17 y18 y19
          refine Keeps.choice (fun h20 => ?_) (fun h20 => ?_)
          · extract_lets z21
            exact (Block.wantFrame_keeps (s.up rfl) (Block.modFault_keeps (s.up rfl) h))
          · exact (Block.sendPri_keeps (s.up rfl) h)

theorem Block.enterFault_keeps {F : Nat} {a : Block} {b f} (s : sub 15544020301952 F) (h : Keeps F a b) :
    Keeps F a (Block.enterFault b f) := by
  unfold Block.enterFault
  split
  · rename_i y0 y1 y2
    refine Keeps.choice (fun h3 => ?_) (fun h3 => ?_)
    · exact h
    · extract_lets z4
      have h5 : Keeps F a z4 := by
        subst z4
        exact (Block.count32_keeps (s.up rfl) h)
      exact (Block.modFault_keeps (s.up rfl) h5)
  · rename_i y6 y7
    extract_lets z8 z9
    have h10 : Keeps F a z8 := by
      subst z8
      exact (Block.count32_keeps (s.up rfl) h)
    have h11 : Keeps F a z9 := by
      subst z9
      refine Keeps.choice (fun h12 => ?_) (fun h12 => ?_)
      · exact h10
      · clear_value z8
        split
        · rename_i y13 y14 y15
          exact (Block.setPage_keeps (s.up rfl) h10)
        · rename_i y16 y17
          exact h10
    refine Block.seekSource_keeps (s.up rfl) ?_
    exact Keeps.upd (m := 67108864) h11 (s.up rfl) (by intro p; cases p <;> first | exact .inl rfl | (right; simp only [Part.same, and_self]))

theorem Block.startFault_keeps {F : Nat} {a : Block} {b c va write cls who a'} (s : sub 15544020301952 F) (h : Keeps F a b) :
    Keeps F a (Block.startFault b c va write cls who a') := by
  unfold Block.startFault
  extract_lets z0 z1
  refine Keeps.choice (fun h2 => ?_) (fun h2 => ?_)
  · exact (Block.enterFault_keeps (s.up rfl) h)
  · refine Keeps.choice (fun h3 => ?_) (fun h3 => ?_)
    · exact h
    · exact Keeps.upd (m := 67108864) h (s.up rfl) (by intro p; cases p <;> first | exact .inl rfl | (right; simp only [Part.same, and_self]))

theorem Block.meet_keeps {α : Type} {F : Nat} {a b : Block} {c : Nat} {who : Asker} {write : Bool} {m : MRes α} (s : sub 15544020301952 F)
    (h : Keeps F a b) : Keeps F a (b.meet c who write m) := by
  unfold Block.meet
  split
  · exact Block.askAts_keeps (s.up rfl) h
  · exact Block.joinWait_keeps (s.up rfl) h
  · exact Block.startFault_keeps (s.up rfl) h
  all_goals exact h

theorem Block.access_keeps {α : Type} {F : Nat} {a b : Block} {c : Cmd} {x va len : Nat} {write : Bool} {m : MRes α} {f : α → Block} (s : sub 15544020301952 F)
    (h : Keeps F a b) (hf : ∀ v, m = .ok v → Keeps F a (f v)) : Keeps F a (b.access c x va len write m f) := by
  unfold Block.access
  split
  · exact Block.atHome_keeps (s.up rfl) h (hf _ rfl)
  · exact Block.faultCmd_keeps (s.up rfl) h
  · exact Block.poisonCmd_keeps (s.up rfl) h
  · exact Block.meet_keeps (s.up rfl) (Block.setRunning_keeps (s.up rfl) h)

theorem Block.countFar_keeps {F : Nat} {a : Block} {b near p'} (s : sub 128 F) (h : Keeps F a b) :
    Keeps F a (Block.countFar b near p') := by
  unfold Block.countFar
  split
  · rename_i y0 y1 y2 y3
    refine Keeps.choice (fun h4 => ?_) (fun h4 => ?_)
    · exact h
    · exact (Block.count32_keeps (s.up rfl) h)
  · rename_i y5 y6 y7
    exact h

theorem Block.countBursts_keeps {F : Nat} {a : Block} {b q src dst len places} (s : sub 128 F) (h : Keeps F a b) :
    Keeps F a (Block.countBursts b q src dst len places) := by
  unfold Block.countBursts
  refine Keeps.foldl (fun b x h => ?_) _ ?_
  · extract_lets z0
    have h1 : Keeps F a z0 := by
      subst z0
      refine Keeps.choice (fun h2 => ?_) (fun h2 => ?_)
      · exact (Block.count32_keeps (s.up rfl) h)
      · exact h
    clear_value z0
    split
    · rename_i y3 y4 y5
      exact (Block.countFar_keeps (s.up rfl) h1)
    · rename_i y6 y7
      exact h1
  · exact h

theorem Block.failList_keeps {F : Nat} {a : Block} {b c st} (s : sub 2199115554816 F) (h : Keeps F a b) :
    Keeps F a (Block.failList b c st) := by
  unfold Block.failList
  exact (Block.endCmd_keeps (s.up rfl) (Block.dropLoadOf_keeps (s.up rfl) h))

theorem Block.modVersion_keeps {F : Nat} {a : Block} {b ctx list ep f} (s : sub 16777216 F) (h : Keeps F a b) :
    Keeps F a (Block.modVersion b ctx list ep f) := by
  unfold Block.modVersion
  exact Keeps.upd (m := 16777216) h (s.up rfl) (by intro p; cases p <;> first | exact .inl rfl | (right; simp only [Part.same, and_self]))

theorem Block.loadBody_keeps {F : Nat} {a : Block} {b c ctx addr len ep list} (s : sub 85912764479616 F) (h : Keeps F a b) :
    Keeps F a (Block.loadBody b c ctx addr len ep list) := by
  unfold Block.loadBody
  extract_lets z0 z1 z2
  have h3 : Keeps F a z1 := by
    subst z1
    clear_value z2
    clear_value z0
    split
    · rename_i y4 y5
      exact (Block.dropLoadOf_keeps (s.up rfl) h)
    · rename_i y6 y7 y8
      exact (Block.dropLoadOf_keeps (s.up rfl) h)
    · rename_i y9 y10 y11
      exact h
  have h12 : Keeps F a z2 := by
    subst z2
    exact (Block.countBursts_keeps (s.up rfl) h3)
  refine Block.access_keeps (s.up rfl) ?_ ?_
  · exact h3
  · intro x13 h14
    extract_lets z15 z16
    clear_value z16
    clear_value z15
    clear_value z2
    clear_value z1
    clear_value z0
    split
    · rename_i y17 y18
      exact (Block.failList_keeps (s.up rfl) h12)
    · rename_i y19 y20 y21
      extract_lets z22
      have h23 : Keeps F a z22 := by
        subst z22
        exact (Block.modVersion_keeps (s.up rfl) h12)
      refine Block.modCmd_keeps (s.up rfl) ?_
      exact Keeps.upd (m := 70368744177664) h23 (s.up rfl) (by intro p; cases p <;> first | exact .inl rfl | (right; simp only [Part.same, and_self]))

theorem Block.touchAts_keeps {F : Nat} {a : Block} {b pasid va} (s : sub 67108864 F) (h : Keeps F a b) :
    Keeps F a (Block.touchAts b pasid va) := by
  unfold Block.touchAts
  split
  · rename_i y0 y1 y2
    exact Keeps.upd (m := 67108864) h (s.up rfl) (by intro p; cases p <;> first | exact .inl rfl | (right; simp only [Part.same, and_self]))
  · rename_i y3 y4
    exact h

theorem Block.fillRange_keeps {F : Nat} {a : Block} {b id} (s : sub 67108864 F) (h : Keeps F a b) :
    Keeps F a (Block.fillRange b id) := by
  unfold Block.fillRange
  extract_lets z0 z1 z2 z3 z4 z5 z6
  exact Keeps.upd (m := 67108864) h (s.up rfl) (by intro p; cases p <;> first | exact .inl rfl | (right; simp only [Part.same, and_self]))

theorem Block.fillPages_keeps {F : Nat} {a : Block} {b id grp} (s : sub 67108864 F) (h : Keeps F a b) :
    Keeps F a (Block.fillPages b id grp) := by
  unfold Block.fillPages
  exact Keeps.upd (m := 67108864) h (s.up rfl) (by intro p; cases p <;> first | exact .inl rfl | (right; simp only [Part.same, and_self]))

theorem Block.setStamp_keeps {F : Nat} {a : Block} {b k v} (s : sub 65536 F) (h : Keeps F a b) :
    Keeps F a (Block.setStamp b k v) := by
  unfold Block.setStamp
  exact Keeps.upd (m := 65536) h (s.up rfl) (by intro p; cases p <;> first | exact .inl rfl | (right; simp only [Part.same, and_self]))

theorem Block.startWalks_keeps {F : Nat} {a : Block} {b} (s : sub 67174400 F) (h : Keeps F a b) :
    Keeps F a (Block.startWalks b) := by
  unfold Block.startWalks
  refine Keeps.choice (fun h0 => ?_) (fun h0 => ?_)
  · exact h
  · refine Keeps.foldl (fun b x h => ?_) _ ?_
    · refine Keeps.choice (fun h1 => ?_) (fun h1 => ?_)
      · exact h
      · split
        · rename_i y2 y3
          exact h
        · rename_i y4 y5 y6
          extract_lets z7
          have h8 : Keeps F a z7 := by
            subst z7
            exact (Block.setStamp_keeps (s.up rfl) h)
          exact Keeps.upd (m := 67108864) h8 (s.up rfl) (by intro p; cases p <;> first | exact .inl rfl | (right; simp only [Part.same, and_self]))
    · exact h

theorem Block.touch_keeps {F : Nat} {a : Block} {b c va who} (s : sub 67174528 F) (h : Keeps F a b) :
    Keeps F a (Block.touch b c va who) := by
  unfold Block.touch
  extract_lets z0 z1
  have h2 : Keeps F a z0 := by
    subst z0
    exact (Block.touchAts_keeps (s.up rfl) h)
  have h3 : Keeps F a z1 := by
    subst z1
    exact (Block.count32_keeps (s.up rfl) h2)
  refine Keeps.choice (fun h4 => ?_) (fun h4 => ?_)
  · exact h2
  · clear_value z1
    clear_value z0
    split
    · rename_i y5 y6
      exact h2
    · rename_i y7 y8 y9
      extract_lets z10 z11
      refine Keeps.choice (fun h12 => ?_) (fun h12 => ?_)
      · refine Keeps.choice (fun h13 => ?_) (fun h13 => ?_)
        · exact (Block.fillRange_keeps (s.up rfl) h2)
        · exact (Block.fillPages_keeps (s.up rfl) (Block.fillRange_keeps (s.up rfl) h2))
      · refine Keeps.choice (fun h14 => ?_) (fun h14 => ?_)
        · exact h2
        · refine Block.startWalks_keeps (s.up rfl) ?_
          exact Keeps.upd (m := 67108864) h3 (s.up rfl) (by intro p; cases p <;> first | exact .inl rfl | (right; simp only [Part.same, and_self]))

theorem Block.touchRange_keeps {F : Nat} {a : Block} {b c va len who} (s : sub 67174528 F) (h : Keeps F a b) :
    Keeps F a (Block.touchRange b c va len who) := by
  unfold Block.touchRange
  refine Keeps.foldl (fun b x h => ?_) _ ?_
  · refine Block.touch_keeps (s.up rfl) ?_
    exact h
  · exact h

theorem Block.newVersion_keeps {F : Nat} {a : Block} {b c ctx list len inPlace} (s : sub 16785408 F) (h : Keeps F a b) :
    Keeps F a (Block.newVersion b c ctx list len inPlace) := by
  unfold Block.newVersion
  extract_lets z0 z1
  refine Block.modCmd_keeps (s.up rfl) ?_
  refine Block.setEpoch_keeps (s.up rfl) ?_
  exact Keeps.upd (m := 16777216) h (s.up rfl) (by intro p; cases p <;> first | exact .inl rfl | (right; simp only [Part.same, and_self]))

theorem Block.loadList_keeps {F : Nat} {a : Block} {b c ctx list addr len patch inPlace} (s : sub 85912764545152 F) (h : Keeps F a b) :
    Keeps F a (Block.loadList b c ctx list addr len patch inPlace) := by
  unfold Block.loadList
  refine Keeps.choice (fun h0 => ?_) (fun h0 => ?_)
  · exact h
  · split
    · rename_i y1 y2 y3 y4
      exact (Block.loadBody_keeps (s.up rfl) h)
    · rename_i y5 y6
      split
      · rename_i y7 y8 y9
        exact (Block.endCmd_keeps (s.up rfl) h)
      · rename_i y10 y11
        extract_lets z12 z13
        have h14 : Keeps F a z12 := by
          subst z12
          exact (Block.touchRange_keeps (s.up rfl) h)
        have h15 : Keeps F a z13 := by
          subst z13
          exact (Block.countBursts_keeps (s.up rfl) h14)
        refine Block.access_keeps (s.up rfl) ?_ ?_
        · exact h14
        · intro x16 h17
          extract_lets z18 z19
          have h20 : Keeps F a z19 := by
            subst z19
            exact (Block.newVersion_keeps (s.up rfl) h15)
          refine Keeps.choice (fun h21 => ?_) (fun h21 => ?_)
          · exact (Block.endCmd_keeps (s.up rfl) h15)
          · refine Keeps.choice (fun h22 => ?_) (fun h22 => ?_)
            · exact (Block.endCmd_keeps (s.up rfl) h15)
            · clear_value z19
              clear_value z18
              clear_value z13
              clear_value z12
              split
              · rename_i y23 y24 y25
                exact (Block.loadBody_keeps (s.up rfl) h20)
              · rename_i y26 y27
                exact h20

theorem Block.waitItem_keeps {F : Nat} {a : Block} {b t} (s : sub 2199149275264 F) (h : Keeps F a b) :
    Keeps F a (Block.waitItem b t) := by
  unfold Block.waitItem
  split
  · rename_i y0 y1
    exact h
  · rename_i y2 y3 y4
    extract_lets z5
    refine Keeps.choice (fun h6 => ?_) (fun h6 => ?_)
    · refine Block.snuffWaiter_keeps (s.up rfl) ?_
      exact Keeps.upd (m := 8388608) h (s.up rfl) (by intro p; cases p <;> first | exact .inl rfl | (right; simp only [Part.same, and_self]))
    · refine Keeps.choice (fun h7 => ?_) (fun h7 => ?_)
      · exact h
      · exact Keeps.upd (m := 8388608) h (s.up rfl) (by intro p; cases p <;> first | exact .inl rfl | (right; simp only [Part.same, and_self]))

theorem Block.fcrHold_keeps {F : Nat} {a : Block} {b} (s : sub 134219904 F) (h : Keeps F a b) :
    Keeps F a (Block.fcrHold b) := by
  unfold Block.fcrHold
  refine Keeps.choice (fun h0 => ?_) (fun h0 => ?_)
  · exact h
  · refine Block.event_keeps (s.up rfl) ?_
    exact Keeps.upd (m := 134217728) h (s.up rfl) (by intro p; cases p <;> first | exact .inl rfl | (right; simp only [Part.same, and_self]))

theorem Block.writeVa_keeps {F : Nat} {a b b' : Block} {c va : Nat} {xs : List Byte} {need : Nat} {inPlace : Bool} (s : sub 141768261632 F) (h : Keeps F a b)
    (e : b.writeVa c va xs need inPlace = .ok b') : Keeps F a b' := by
  unfold Block.writeVa at e
  cases hr : b.resolveN c need inPlace va xs.length <;> rw [hr] at e <;> simp [MRes.bind] at e
  subst e
  exact Block.putBytes_keeps (s.up rfl) h

theorem Block.writeEntry_keeps {F : Nat} {a : Block} {b} (s : sub 15544020301952 F) (h : Keeps F a b) :
    Keeps F a (Block.writeEntry b) := by
  unfold Block.writeEntry
  split
  · rename_i y0 y1
    exact h
  · rename_i y2 y3 y4 y5
    refine Keeps.choice (fun h6 => ?_) (fun h6 => ?_)
    · exact h
    · refine Keeps.choice (fun h7 => ?_) (fun h7 => ?_)
      · exact (Block.fcrHold_keeps (s.up rfl) h)
      · extract_lets z8
        clear_value z8
        split
        · rename_i y9 y10 y11
          have h12 := Block.writeVa_keeps (s.up rfl) h y11
          refine Block.setReg_keeps (s.up rfl) ?_
          exact Keeps.upd (m := 134217728) h12 (s.up rfl) (by intro p; cases p <;> first | exact .inl rfl | (right; simp only [Part.same, and_self]))
        · rename_i y13 y14 y15
          exact (Block.failAsker_keeps (s.up rfl) h)
        · rename_i y17 y18 y19
          exact (Block.meet_keeps (s.up rfl) h)

theorem Block.settleRetire_keeps {F : Nat} {a : Block} {b} (s : sub 137438953600 F) (h : Keeps F a b) :
    Keeps F a (Block.settleRetire b) := by
  unfold Block.settleRetire
  split
  · rename_i y0 y1 y2 y3
    refine Keeps.choice (fun h4 => ?_) (fun h4 => ?_)
    · refine Block.setReg_keeps (s.up rfl) ?_
      exact Keeps.upd (m := 137438953472) h (s.up rfl) (by intro p; cases p <;> first | exact .inl rfl | (right; simp only [Part.same, and_self]))
    · exact h
  · rename_i y5 y6
    exact h

theorem Block.setWear_keeps {F : Nat} {a : Block} {b kind x2 v} (s : sub 549755813888 F) (h : Keeps F a b) :
    Keeps F a (Block.setWear b kind x2 v) := by
  unfold Block.setWear
  exact Keeps.upd (m := 549755813888) h (s.up rfl) (by intro p; cases p <;> first | exact .inl rfl | (right; simp only [Part.same, and_self]))

theorem Block.spareEvent_keeps {F : Nat} {a : Block} {b kind x2 what} (s : sub 2176 F) (h : Keeps F a b) :
    Keeps F a (Block.spareEvent b kind x2 what) := by
  unfold Block.spareEvent
  exact (Block.event_keeps (s.up rfl) h)

theorem Block.retireInst_keeps {F : Nat} {a : Block} {b kind x2} (s : sub 13752485283968 F) (h : Keeps F a b) :
    Keeps F a (Block.retireInst b kind x2) := by
  unfold Block.retireInst
  extract_lets z0 z1
  have h2 : Keeps F a z1 := by
    subst z1
    exact (Block.setWear_keeps (s.up rfl) h)
  exact (Block.spareEvent_keeps (s.up rfl) (Block.cinderRec_keeps (s.up rfl) h2))

theorem Block.changeCaps_keeps {F : Nat} {a : Block} {b} (s : sub 512 F) (h : Keeps F a b) :
    Keeps F a (Block.changeCaps b) := by
  unfold Block.changeCaps
  refine Keeps.choice (fun h0 => ?_) (fun h0 => ?_)
  · exact h
  · extract_lets z1
    have h2 : Keeps F a z1 := by
      subst z1
      exact Keeps.upd (m := 512) h (s.up rfl) (by intro p; cases p <;> first | exact .inl rfl | (right; simp only [Part.same, and_self]))
    exact Keeps.upd (m := 512) h2 (s.up rfl) (by intro p; cases p <;> first | exact .inl rfl | (right; simp only [Part.same, and_self]))

theorem Block.enterInst_keeps {F : Nat} {a : Block} {b kind x2} (s : sub 13752485283968 F) (h : Keeps F a b) :
    Keeps F a (Block.enterInst b kind x2) := by
  unfold Block.enterInst
  extract_lets z0 z1
  have h2 : Keeps F a z1 := by
    subst z1
    exact (Block.setWear_keeps (s.up rfl) h)
  exact (Block.spareEvent_keeps (s.up rfl) (Block.cinderRec_keeps (s.up rfl) h2))

theorem Block.enterSpare_keeps {F : Nat} {a : Block} {b kind x2} (s : sub 13752485284480 F) (h : Keeps F a b) :
    Keeps F a (Block.enterSpare b kind x2) := by
  unfold Block.enterSpare
  exact (Block.changeCaps_keeps (s.up rfl) (Block.enterInst_keeps (s.up rfl) h))

theorem Block.swapWalker_keeps {F : Nat} {a : Block} {b k} (s : sub 13753626200704 F) (h : Keeps F a b) :
    Keeps F a (Block.swapWalker b k) := by
  unfold Block.swapWalker
  extract_lets z0 z1 z2
  have h3 : Keeps F a z1 := by
    subst z1
    exact (Block.retireInst_keeps (s.up rfl) h)
  have h4 : Keeps F a z2 := by
    subst z2
    exact Keeps.upd (m := 1140850688) h3 (s.up rfl) (by intro p; cases p <;> first | exact .inl rfl | (right; simp only [Part.same, and_self]))
  refine Block.startWalks_keeps (s.up rfl) ?_
  clear_value z2
  clear_value z1
  clear_value z0
  split
  · rename_i y5 y6
    exact (Block.enterSpare_keeps (s.up rfl) h4)
  · rename_i y7
    exact (Block.changeCaps_keeps (s.up rfl) h4)

theorem Block.swapTick_keeps {F : Nat} {a : Block} {b} (s : sub 13891065154176 F) (h : Keeps F a b) :
    Keeps F a (Block.swapTick b) := by
  unfold Block.swapTick
  extract_lets z0
  refine Block.settleRetire_keeps (s.up rfl) ?_
  refine Keeps.foldl (fun b x h => ?_) _ ?_
  · refine Block.swapWalker_keeps (s.up rfl) ?_
    exact h
  · exact h

theorem Block.setSynced_keeps {F : Nat} {a : Block} {b e} (s : sub 32768 F) (h : Keeps F a b) :
    Keeps F a (Block.setSynced b e) := by
  unfold Block.setSynced
  exact (Block.setEng_keeps (s.up rfl) h)

theorem Block.syncBarrier_keeps {F : Nat} {a : Block} {b w r} (s : sub 32768 F) (h : Keeps F a b) :
    Keeps F a (Block.syncBarrier b w r) := by
  unfold Block.syncBarrier
  extract_lets z0
  refine Keeps.choice (fun h1 => ?_) (fun h1 => ?_)
  · refine Keeps.foldl (fun b x h => ?_) _ ?_
    · refine Block.setSynced_keeps (s.up rfl) ?_
      exact h
    · exact h
  · exact h

theorem Block.latchProf_keeps {F : Nat} {a : Block} {b start fin} (s : sub 128 F) (h : Keeps F a b) :
    Keeps F a (Block.latchProf b start fin) := by
  unfold Block.latchProf
  extract_lets z0
  have h1 : Keeps F a z0 := by
    subst z0
    refine Keeps.foldl (fun b x h => ?_) _ ?_
    · refine Block.setReg_keeps (s.up rfl) ?_
      exact h
    · exact h
  exact (Block.setReg_keeps (s.up rfl) h1)

theorem undrainedWrite_keeps {F : Nat} {a : Block} {x0 x1 x2 x3} (s : sub 128 F) (h : Keeps F a x0) :
    Keeps F a (undrainedWrite x0 x1 x2 x3) := by
  unfold undrainedWrite
  refine Keeps.choice (fun h0 => ?_) (fun h0 => ?_)
  · exact (Block.setReg_keeps (s.up rfl) h)
  · exact h

theorem Block.engTick_keeps {F : Nat} {a : Block} {b e} (s : sub 32768 F) (h : Keeps F a b) :
    Keeps F a (Block.engTick b e) := by
  unfold Block.engTick
  extract_lets z0
  refine Keeps.choice (fun h1 => ?_) (fun h1 => ?_)
  · exact (Block.setEng_keeps (s.up rfl) h)
  · refine Keeps.choice (fun h2 => ?_) (fun h2 => ?_)
    · exact (Block.setEng_keeps (s.up rfl) h)
    · exact h

theorem Block.enterPlacing_keeps {F : Nat} {a : Block} {b c} (s : sub 24576 F) (h : Keeps F a b) :
    Keeps F a (Block.enterPlacing b c) := by
  unfold Block.enterPlacing
  split
  · rename_i y0 y1
    exact h
  · rename_i y2 y3 y4
    extract_lets z5 z6
    subst z5
    exact (Block.modCmd_keeps (s.up rfl) (Block.setHarness_keeps (s.up rfl) h))

theorem Block.writeEntriesN_keeps {F : Nat} {a : Block} (s : sub 15544020301952 F) : ∀ {n : Nat} {b : Block}, Keeps F a b → Keeps F a (Block.writeEntriesN n b)
  | 0, _, h => h
  | n + 1, b, h => by
    unfold Block.writeEntriesN
    split
    · exact Block.writeEntriesN_keeps s (Block.writeEntry_keeps (s.up rfl) h)
    · exact Block.writeEntry_keeps (s.up rfl) h

theorem Block.writeEntries_keeps {F : Nat} {a : Block} {b} (s : sub 15544020301952 F) (h : Keeps F a b) :
    Keeps F a (Block.writeEntries b) := by
  unfold Block.writeEntries
  exact (Block.writeEntriesN_keeps (s.up rfl) h)

theorem Block.pushEntry_keeps {F : Nat} {a : Block} {b x} (s : sub 15544020301952 F) (h : Keeps F a b) :
    Keeps F a (Block.pushEntry b x) := by
  unfold Block.pushEntry
  extract_lets z0
  have h1 : Keeps F a z0 := by
    subst z0
    refine Keeps.choice (fun h2 => ?_) (fun h2 => ?_)
    · exact h
    · exact (Block.ledgerTerm_keeps (s.up rfl) h)
  refine Block.writeEntries_keeps (s.up rfl) ?_
  exact Keeps.upd (m := 134217728) h1 (s.up rfl) (by intro p; cases p <;> first | exact .inl rfl | (right; simp only [Part.same, and_self]))

theorem Block.demote_keeps {F : Nat} {a : Block} {b id typ lo hi} (s : sub 15544020301952 F) (h : Keeps F a b) :
    Keeps F a (Block.demote b id typ lo hi) := by
  unfold Block.demote
  split
  · rename_i y0 y1
    exact h
  · rename_i y2 y3 y4
    refine Keeps.foldl (fun b x h => ?_) _ ?_
    · refine Block.pushEntry_keeps (s.up rfl) ?_
      exact (Block.setPage_keeps (s.up rfl) h)
    · exact h

theorem Block.dropRange_keeps {F : Nat} {a : Block} {b c va len} (s : sub 67141632 F) (h : Keeps F a b) :
    Keeps F a (Block.dropRange b c va len) := by
  unfold Block.dropRange
  extract_lets z0 z1 z2
  subst z0
  exact Keeps.upd (m := 67141632) h (s.up rfl) (by intro p; cases p <;> first | exact .inl rfl | (right; simp only [Part.same, and_self]))

theorem Block.returnTables_keeps {F : Nat} {a : Block} {b m'} (s : sub 15544020301952 F) (h : Keeps F a b) :
    Keeps F a (Block.returnTables b m') := by
  unfold Block.returnTables
  extract_lets z0 z1 z2 z3
  have h4 : Keeps F a z0 := by
    subst z0
    exact Keeps.upd (m := 134217728) h (s.up rfl) (by intro p; cases p <;> first | exact .inl rfl | (right; simp only [Part.same, and_self]))
  have h5 : Keeps F a z1 := by
    subst z1
    exact (Block.modMap_keeps (s.up rfl) h4)
  have h6 : Keeps F a z3 := by
    subst z3
    exact Keeps.upd (m := 134217728) h5 (s.up rfl) (by intro p; cases p <;> first | exact .inl rfl | (right; simp only [Part.same, and_self]))
  refine Keeps.foldl (fun b x h => ?_) _ ?_
  · refine Block.pushEntry_keeps (s.up rfl) ?_
    exact h
  · exact h6

theorem Block.unmapWork_keeps {F : Nat} {a : Block} {b id typ} (s : sub 15544020301952 F) (h : Keeps F a b) :
    Keeps F a (Block.unmapWork b id typ) := by
  unfold Block.unmapWork
  split
  · rename_i y0 y1
    exact h
  · rename_i y2 y3 y4
    extract_lets z5
    have h6 : Keeps F a z5 := by
      subst z5
      exact (Block.demote_keeps (s.up rfl) (Block.dropRange_keeps (s.up rfl) h))
    clear_value z5
    split
    · rename_i y7 y8
      exact h6
    · rename_i y9 y10 y11
      exact (Block.returnTables_keeps (s.up rfl) h6)

theorem Block.popFifo_keeps {F : Nat} {a : Block} {b path} (s : sub 2048 F) (h : Keeps F a b) :
    Keeps F a (Block.popFifo b path) := by
  unfold Block.popFifo
  exact Keeps.upd (m := 2048) h (s.up rfl) (by intro p; cases p <;> first | exact .inl rfl | (right; simp only [Part.same, and_self]))

theorem Block.settleGrow_keeps {F : Nat} {a : Block} {b} (s : sub 92299264 F) (h : Keeps F a b) :
    Keeps F a (Block.settleGrow b) := by
  unfold Block.settleGrow
  refine Keeps.foldl (fun b x h => ?_) _ ?_
  · refine Block.endCmd_keeps (s.up rfl) ?_
    exact h
  · exact h

theorem Block.startGroup_keeps {F : Nat} {a : Block} {b} (s : sub 92332160 F) (h : Keeps F a b) :
    Keeps F a (Block.startGroup b) := by
  unfold Block.startGroup
  split
  · rename_i y0 y1
    exact h
  · rename_i y2 y3 y4 y5
    extract_lets z6 z7 z8 z9
    have h10 : Keeps F a z7 := by
      subst z7
      exact Keeps.upd (m := 32768) h (s.up rfl) (by intro p; cases p <;> first | exact .inl rfl | (right; simp only [Part.same, and_self]))
    have h11 : Keeps F a z8 := by
      subst z8
      refine Block.count32_keeps (s.up rfl) ?_
      exact Keeps.upd (m := 32768) h10 (s.up rfl) (by intro p; cases p <;> first | exact .inl rfl | (right; simp only [Part.same, and_self]))
    have h12 : Keeps F a z9 := by
      subst z9
      exact Keeps.upd (m := 32768) h10 (s.up rfl) (by intro p; cases p <;> first | exact .inl rfl | (right; simp only [Part.same, and_self]))
    refine Keeps.choice (fun h13 => ?_) (fun h13 => ?_)
    · refine Keeps.foldl (fun b x h => ?_) _ ?_
      · refine Block.setEng_keeps (s.up rfl) ?_
        exact h
      · exact h11
    · refine Block.settleGrow_keeps (s.up rfl) ?_
      refine Keeps.foldl (fun b x h => ?_) _ ?_
      · refine Block.setEng_keeps (s.up rfl) ?_
        exact h
      · exact h12

theorem Block.tryGroup_keeps {F : Nat} {a : Block} {b wake} (s : sub 92332160 F) (h : Keeps F a b) :
    Keeps F a (Block.tryGroup b wake) := by
  unfold Block.tryGroup
  split
  · rename_i y0 y1
    exact h
  · rename_i y2 y3 y4 y5
    refine Keeps.choice (fun h6 => ?_) (fun h6 => ?_)
    · exact (Block.startGroup_keeps (s.up rfl) h)
    · exact h

theorem Block.correct_keeps {F : Nat} {a : Block} {b o} (s : sub 17179869200 F) (h : Keeps F a b) :
    Keeps F a (Block.correct b o) := by
  unfold Block.correct
  extract_lets z0
  refine Keeps.choice (fun h1 => ?_) (fun h1 => ?_)
  · exact Keeps.upd (m := 17179869200) h (s.up rfl) (by intro p; cases p <;> first | exact .inl rfl | (right; simp only [Part.same, and_self]))
  · refine Keeps.choice (fun h2 => ?_) (fun h2 => ?_)
    · exact Keeps.upd (m := 17179869184) h (s.up rfl) (by intro p; cases p <;> first | exact .inl rfl | (right; simp only [Part.same, and_self]))
    · exact Keeps.upd (m := 17179869184) h (s.up rfl) (by intro p; cases p <;> first | exact .inl rfl | (right; simp only [Part.same, and_self]))

theorem Block.setLock_keeps {F : Nat} {a : Block} {b p' v} (s : sub 17179871360 F) (h : Keeps F a b) :
    Keeps F a (Block.setLock b p' v) := by
  unfold Block.setLock
  refine Keeps.choice (fun h0 => ?_) (fun h0 => ?_)
  · exact h
  · refine Block.event_keeps (s.up rfl) ?_
    exact Keeps.upd (m := 17179869184) h (s.up rfl) (by intro p; cases p <;> first | exact .inl rfl | (right; simp only [Part.same, and_self]))

theorem Block.keepExchange_keeps {F : Nat} {a : Block} {b p' o d} (s : sub 25769805968 F) (h : Keeps F a b) :
    Keeps F a (Block.keepExchange b p' o d) := by
  unfold Block.keepExchange
  extract_lets z0 z1 z2
  have h3 : Keeps F a z0 := by
    subst z0
    exact (Block.setReg_keeps (s.up rfl) (Block.setReg_keeps (s.up rfl) h))
  have h4 : Keeps F a z1 := by
    subst z1
    exact (Block.modPort_keeps (s.up rfl) h3)
  have h5 : Keeps F a z2 := by
    subst z2
    exact (Block.correct_keeps (s.up rfl) h4)
  refine Keeps.choice (fun h6 => ?_) (fun h6 => ?_)
  · exact (Block.setLock_keeps (s.up rfl) h5)
  · refine Keeps.choice (fun h7 => ?_) (fun h7 => ?_)
    · exact (Block.setLock_keeps (s.up rfl) h5)
    · exact h5

theorem Block.takeDelayResp_keeps {F : Nat} {a : Block} {b p' f} (s : sub 25769805968 F) (h : Keeps F a b) :
    Keeps F a (Block.takeDelayResp b p' f) := by
  unfold Block.takeDelayResp
  extract_lets z0 z1 z2 z3 z4 z5 z6 z7 z8
  have h9 : Keeps F a z8 := by
    subst z8
    exact (Block.setPort_keeps (s.up rfl) h)
  refine Keeps.choice (fun h10 => ?_) (fun h10 => ?_)
  · exact h
  · refine Keeps.choice (fun h11 => ?_) (fun h11 => ?_)
    · exact h9
    · exact (Block.keepExchange_keeps (s.up rfl) h9)

theorem Block.count64_keeps {F : Nat} {a : Block} {b lo k} (s : sub 128 F) (h : Keeps F a b) :
    Keeps F a (Block.count64 b lo k) := by
  unfold Block.count64
  extract_lets z0
  exact (Block.setReg_keeps (s.up rfl) (Block.setReg_keeps (s.up rfl) h))

theorem Block.checkAccount_keeps {F : Nat} {a : Block} {b a'} (s : sub 13202729470080 F) (h : Keeps F a b) :
    Keeps F a (Block.checkAccount b a') := by
  unfold Block.checkAccount
  split
  · rename_i y0 y1 y2 y3
    refine Keeps.choice (fun h4 => ?_) (fun h4 => ?_)
    · exact h
    · extract_lets z5 z6 z7 z8 z9 z10
      have h11 : Keeps F a z7 := by
        subst z7
        refine Keeps.choice (fun h12 => ?_) (fun h12 => ?_)
        · exact h
        · exact (Block.setReg_keeps (s.up rfl) (Block.setReg_keeps (s.up rfl) (Block.setReg_keeps (s.up rfl) h)))
      have h13 : Keeps F a z8 := by
        subst z8
        exact (Block.count32_keeps (s.up rfl) (Block.setField_keeps (s.up rfl) h11))
      have h14 : Keeps F a z10 := by
        subst z10
        exact (Block.cinderRec_keeps (s.up rfl) h13)
      exact (Block.event_keeps (s.up rfl) h14)

theorem Block.closeAt_keeps {F : Nat} {a : Block} {b hs} (s : sub 13202997905536 F) (h : Keeps F a b) :
    Keeps F a (Block.closeAt b hs) := by
  unfold Block.closeAt
  refine Keeps.choice (fun h0 => ?_) (fun h0 => ?_)
  · exact h
  · extract_lets z1 z2 z3 z4 z5
    have h6 : Keeps F a z1 := by
      subst z1
      exact (Block.count64_keeps (s.up rfl) h)
    have h7 : Keeps F a z2 := by
      subst z2
      refine Keeps.foldl (fun b x h => ?_) _ ?_
      · refine Block.checkAccount_keeps (s.up rfl) ?_
        exact h
      · exact h6
    have h8 : Keeps F a z4 := by
      subst z4
      exact Keeps.upd (m := 268435456) h7 (s.up rfl) (by intro p; cases p <;> first | exact .inl rfl | (right; simp only [Part.same, and_self]))
    refine Keeps.choice (fun h9 => ?_) (fun h9 => ?_)
    · refine Keeps.foldl (fun b x h => ?_) _ ?_
      · refine Block.checkAccount_keeps (s.up rfl) ?_
        exact h
      · exact h8
    · exact h7

theorem Block.stepBoundary_keeps {F : Nat} {a : Block} {b hs} (s : sub 13477875828864 F) (h : Keeps F a b) :
    Keeps F a (Block.stepBoundary b hs) := by
  unfold Block.stepBoundary
  extract_lets z0 z1
  have h2 : Keeps F a z0 := by
    subst z0
    refine Keeps.foldl (fun b x h => ?_) _ ?_
    · refine Block.setHarness_keeps (s.up rfl) ?_
      exact h
    · exact h
  have h3 : Keeps F a z1 := by
    subst z1
    exact Keeps.upd (m := 274877906944) h2 (s.up rfl) (by intro p; cases p <;> first | exact .inl rfl | (right; simp only [Part.same, and_self]))
  exact (Block.closeAt_keeps (s.up rfl) h3)

theorem Block.sigNow_keeps {F : Nat} {a : Block} {b s' setmax v win} (s : sub 13477880023168 F) (h : Keeps F a b) :
    Keeps F a (Block.sigNow b s' setmax v win) := by
  unfold Block.sigNow
  extract_lets z0 z1 z2 z3 z4 z5
  have h6 : Keeps F a z3 := by
    subst z3
    exact (Block.ledgerTerm_keeps (s.up rfl) h)
  have h7 : Keeps F a z4 := by
    subst z4
    exact (Block.setSlot_keeps (s.up rfl) h6)
  have h8 : Keeps F a z5 := by
    subst z5
    refine Keeps.choice (fun h9 => ?_) (fun h9 => ?_)
    · exact (Block.event_keeps (s.up rfl) (Block.count32_keeps (s.up rfl) h7))
    · exact h7
  refine Keeps.choice (fun h10 => ?_) (fun h10 => ?_)
  · exact (Block.sigDrop_keeps (s.up rfl) h)
  · refine Keeps.choice (fun h11 => ?_) (fun h11 => ?_)
    · exact (Block.count32_keeps (s.up rfl) (Block.ledgerTerm_keeps (s.up rfl) h))
    · refine Keeps.choice (fun h12 => ?_) (fun h12 => ?_)
      · exact (Block.ledgerTerm_keeps (s.up rfl) h)
      · refine Keeps.choice (fun h13 => ?_) (fun h13 => ?_)
        · exact h8
        · exact (Block.stepBoundary_keeps (s.up rfl) h8)

theorem Block.releaseHeld_keeps {F : Nat} {a : Block} {k : Nat} (s : sub 13477888411776 F) :
    ∀ {l : List HeldSig} {b : Block}, Keeps F a b → Keeps F a (Block.releaseHeld k l b)
  | [], _, h => h
  | y :: t, b, h => by
    unfold Block.releaseHeld
    extract_lets w
    split
    · exact h
    · exact Block.releaseHeld_keeps s (Block.sigNow_keeps (s.up rfl)
        (Keeps.upd (m := 8388608) h (s.up rfl) (by intro p; cases p <;> first | exact .inl rfl | (right; simp only [Part.same, and_self]))))

theorem Block.setSem_keeps {F : Nat} {a : Block} {b k v} (s : sub 1024 F) (h : Keeps F a b) :
    Keeps F a (Block.setSem b k v) := by
  unfold Block.setSem
  exact Keeps.upd (m := 1024) h (s.up rfl) (by intro p; cases p <;> first | exact .inl rfl | (right; simp only [Part.same, and_self]))

theorem Block.unstagePath_keeps {F : Nat} {a : Block} {b path p'} (s : sub 256 F) (h : Keeps F a b) :
    Keeps F a (Block.unstagePath b path p') := by
  unfold Block.unstagePath
  exact Keeps.upd (m := 256) h (s.up rfl) (by intro p; cases p <;> first | exact .inl rfl | (right; simp only [Part.same, and_self]))

theorem Block.freeSem_keeps {F : Nat} {a : Block} {b k} (s : sub 1280 F) (h : Keeps F a b) :
    Keeps F a (Block.freeSem b k) := by
  unfold Block.freeSem
  exact (Block.setSem_keeps (s.up rfl) (Block.unstagePath_keeps (s.up rfl) h))

theorem Block.stallCmd_keeps {F : Nat} {a : Block} {b c} (s : sub 13202805008512 F) (h : Keeps F a b) :
    Keeps F a (Block.stallCmd b c) := by
  unfold Block.stallCmd
  extract_lets z0 z1 z2
  have h3 : Keeps F a z0 := by
    subst z0
    exact (Block.modCmd_keeps (s.up rfl) h)
  have h4 : Keeps F a z1 := by
    subst z1
    refine Keeps.foldl (fun b x h => ?_) _ ?_
    · refine Block.drainEng_keeps (s.up rfl) ?_
      exact h
    · exact h3
  have h5 : Keeps F a z2 := by
    subst z2
    exact (Block.cinderRec_keeps (s.up rfl) h4)
  exact (Block.event_keeps (s.up rfl) h5)

theorem Block.setArgs_keeps {F : Nat} {a : Block} {b e bs} (s : sub 32768 F) (h : Keeps F a b) :
    Keeps F a (Block.setArgs b e bs) := by
  unfold Block.setArgs
  exact (Block.setEng_keeps (s.up rfl) h)

theorem Block.loadArgs_keeps {F : Nat} {a : Block} {b e} (s : sub 15544020301952 F) (h : Keeps F a b) :
    Keeps F a (Block.loadArgs b e) := by
  unfold Block.loadArgs
  extract_lets z0
  clear_value z0
  split
  · rename_i y1 y2 y3
    exact (Block.fillTlb_keeps (s.up rfl) (Block.setArgs_keeps (s.up rfl) h))
  · rename_i y4 y5 y6 y7
    exact (Block.endWork_keeps (s.up rfl) (Block.notePoison_keeps (s.up rfl) h))
  · rename_i y8 y9 y10
    exact (Block.endWork_keeps (s.up rfl) h)
  · rename_i y11 y12 y13 y14
    exact (Block.meet_keeps (s.up rfl) h)

theorem Block.resumeEng_keeps {F : Nat} {a : Block} {b e} (s : sub 15544020301952 F) (h : Keeps F a b) :
    Keeps F a (Block.resumeEng b e) := by
  unfold Block.resumeEng
  extract_lets z0 z1
  have h2 : Keeps F a z1 := by
    subst z1
    exact (Block.setEng_keeps (s.up rfl) h)
  refine Keeps.choice (fun h3 => ?_) (fun h3 => ?_)
  · exact (Block.loadArgs_keeps (s.up rfl) h2)
  · exact h2

end Sys2Proof.Laws
end

