-- ==== Sys2Proof/Laws/Frames2.lean ====
section
/-!
SUPPORT. What each operation and each row leaves as it was. Part 2 of 5.
-/
namespace Sys2Proof.Laws

open Sys2Proof Sys2Proof.Machine Sys2Proof.Safety

theorem Block.modLane_keeps {F : Nat} {a : Block} {b w f} (s : sub 16777216 F) (h : Keeps F a b) :
    Keeps F a (Block.modLane b w f) := by
  unfold Block.modLane
  exact Keeps.upd (m := 16777216) h (s.up rfl) (by intro p; cases p <;> first | exact .inl rfl | (right; simp only [Part.same, and_self]))

theorem Block.setHalt_keeps {F : Nat} {a : Block} {b w k} (s : sub 139264 F) (h : Keeps F a b) :
    Keeps F a (Block.setHalt b w k) := by
  unfold Block.setHalt
  split
  · rename_i y0 y1 y2
    exact (Block.modCmd_keeps (s.up rfl) h)
  · rename_i y3 y4 y5
    exact (Block.modTask_keeps (s.up rfl) h)

theorem Block.bpResume_keeps {F : Nat} {a : Block} {b} (s : sub 15544020301952 F) (h : Keeps F a b) :
    Keeps F a (Block.bpResume b) := by
  unfold Block.bpResume
  refine Keeps.foldl (fun b x h => ?_) _ ?_
  · refine Keeps.foldl (fun b x h => ?_) _ ?_
    · refine Block.resumeEng_keeps (s.up rfl) ?_
      exact h
    · exact (Block.modLane_keeps (s.up rfl) (Block.setHalt_keeps (s.up rfl) h))
  · exact h

theorem Block.accessErr_keeps {F : Nat} {a : Block} {b pg path off typ ctx} (s : sub 2176 F) (h : Keeps F a b) :
    Keeps F a (Block.accessErr b pg path off typ ctx) := by
  unfold Block.accessErr
  exact (Block.raiseBit_keeps (s.up rfl) h)

theorem Block.pageErr_keeps {F : Nat} {a : Block} {b path a'} (s : sub 2176 F) (h : Keeps F a b) :
    Keeps F a (Block.pageErr b path a') := by
  unfold Block.pageErr
  exact (Block.accessErr_keeps (s.up rfl) h)

theorem Block.destWrite_keeps {F : Nat} {a : Block} {b path v} (s : sub 17592186046592 F) (h : Keeps F a b) :
    Keeps F a (Block.destWrite b path v) := by
  unfold Block.destWrite
  extract_lets z0
  refine Keeps.choice (fun h1 => ?_) (fun h1 => ?_)
  · exact (Block.pageErr_keeps (s.up rfl) h)
  · refine Keeps.choice (fun h2 => ?_) (fun h2 => ?_)
    · exact (Block.pageErr_keeps (s.up rfl) h)
    · exact Keeps.upd (m := 17592186044416) h (s.up rfl) (by intro p; cases p <;> first | exact .inl rfl | (right; simp only [Part.same, and_self]))

theorem Block.recoveryTick_keeps {F : Nat} {a : Block} {b} (s : sub 34359738368 F) (h : Keeps F a b) :
    Keeps F a (Block.recoveryTick b) := by
  unfold Block.recoveryTick
  exact Keeps.upd (m := 34359738368) h (s.up rfl) (by intro p; cases p <;> first | exact .inl rfl | (right; simp only [Part.same, and_self]))

theorem Block.closeAll_keeps {F : Nat} {a : Block} {b} (s : sub 13202997905536 F) (h : Keeps F a b) :
    Keeps F a (Block.closeAll b) := by
  unfold Block.closeAll
  exact (Block.closeAt_keeps (s.up rfl) h)

theorem Block.dropPasid_keeps {F : Nat} {a : Block} {b p'} (s : sub 67108864 F) (h : Keeps F a b) :
    Keeps F a (Block.dropPasid b p') := by
  unfold Block.dropPasid
  exact Keeps.upd (m := 67108864) h (s.up rfl) (by intro p; cases p <;> first | exact .inl rfl | (right; simp only [Part.same, and_self]))

theorem Block.resumeFrames_keeps {F : Nat} {a : Block} {b} (s : sub 201328768 F) (h : Keeps F a b) :
    Keeps F a (Block.resumeFrames b) := by
  unfold Block.resumeFrames
  refine Keeps.foldl (fun b x h => ?_) _ ?_
  · refine Block.wantFrame_keeps (s.up rfl) ?_
    exact h
  · exact h

theorem Block.createQueue_keeps {F : Nat} {a : Block} {b p'} (s : sub 8192 F) (h : Keeps F a b) :
    Keeps F a (Block.createQueue b p') := by
  unfold Block.createQueue
  split
  · rename_i y0 y1
    exact h
  · rename_i y2 y3 y4
    extract_lets z5
    exact (Block.setQueue_keeps (s.up rfl) h)

theorem Block.openCtx_keeps {F : Nat} {a : Block} {b c pasid stall} (s : sub 4096 F) (h : Keeps F a b) :
    Keeps F a (Block.openCtx b c pasid stall) := by
  unfold Block.openCtx
  exact (Block.setCtx_keeps (s.up rfl) h)

theorem Block.restoreQueue_keeps {F : Nat} {a : Block} {b c pasid home r} (s : sub 8192 F) (h : Keeps F a b) :
    Keeps F a (Block.restoreQueue b c pasid home r) := by
  unfold Block.restoreQueue
  split
  · rename_i y0 y1
    exact h
  · rename_i y2 y3 y4
    extract_lets z5 z6 z7 z8 z9
    have h10 : Keeps F a z6 := by
      subst z6
      exact (Block.createQueue_keeps (s.up rfl) h)
    exact (Block.setQueue_keeps (s.up rfl) h10)

theorem Block.setVid_keeps {F : Nat} {a : Block} {b c v x} (s : sub 4194304 F) (h : Keeps F a b) :
    Keeps F a (Block.setVid b c v x) := by
  unfold Block.setVid
  exact Keeps.upd (m := 4194304) h (s.up rfl) (by intro p; cases p <;> first | exact .inl rfl | (right; simp only [Part.same, and_self]))

theorem Block.allocVid_keeps {F : Nat} {a : Block} {b c v s' value} (s : sub 4194304 F) (h : Keeps F a b) :
    Keeps F a (Block.allocVid b c v s' value) := by
  unfold Block.allocVid
  exact (Block.setVid_keeps (s.up rfl) (Block.setSlot_keeps (s.up rfl) h))

theorem Block.newWick_keeps {F : Nat} {a : Block} {b c v value sat snuffed} (s : sub 4196480 F) (h : Keeps F a b) :
    Keeps F a (Block.newWick b c v value sat snuffed) := by
  unfold Block.newWick
  split
  · rename_i y0 y1
    exact h
  · rename_i y2 y3 y4
    extract_lets z5 z6 z7
    have h8 : Keeps F a z5 := by
      subst z5
      exact (Block.allocVid_keeps (s.up rfl) h)
    have h9 : Keeps F a z7 := by
      subst z7
      exact (Block.setSlot_keeps (s.up rfl) h8)
    refine Keeps.choice (fun h10 => ?_) (fun h10 => ?_)
    · exact (Block.event_keeps (s.up rfl) h9)
    · exact h9

theorem Block.restoreWick_keeps {F : Nat} {a : Block} {b c inc home w} (s : sub 4196480 F) (h : Keeps F a b) :
    Keeps F a (Block.restoreWick b c inc home w) := by
  unfold Block.restoreWick
  extract_lets z0 z1
  clear_value z1
  clear_value z0
  split
  · rename_i y2 y3 y4
    refine Keeps.choice (fun h5 => ?_) (fun h5 => ?_)
    · exact (Block.setVid_keeps (s.up rfl) h)
    · exact (Block.setVid_keeps (s.up rfl) (Block.setSlot_keeps (s.up rfl) h))
  · rename_i y6 y7
    refine Keeps.choice (fun h8 => ?_) (fun h8 => ?_)
    · exact (Block.newWick_keeps (s.up rfl) h)
    · exact (Block.newWick_keeps (s.up rfl) h)

theorem Block.doRestore_keeps {F : Nat} {a : Block} {b c t bs} (s : sub 96499840 F) (h : Keeps F a b) :
    Keeps F a (Block.doRestore b c t bs) := by
  unfold Block.doRestore
  extract_lets z0 z1 z2 z3 z4 z5 z6 z7 z8 z9 z10 z11 z12 z13 z14
  have h15 : Keeps F a z11 := by
    subst z11
    refine Keeps.choice (fun h16 => ?_) (fun h16 => ?_)
    · exact (Block.openCtx_keeps (s.up rfl) h)
    · exact (Block.setCtx_keeps (s.up rfl) h)
  have h17 : Keeps F a z13 := by
    subst z13
    exact (Block.setCtx_keeps (s.up rfl) h15)
  have h18 : Keeps F a z14 := by
    subst z14
    refine Keeps.choice (fun h19 => ?_) (fun h19 => ?_)
    · refine Keeps.foldl (fun b x h => ?_) _ ?_
      · refine Block.restoreQueue_keeps (s.up rfl) ?_
        exact h
      · exact h17
    · exact h17
  clear_value z14
  clear_value z13
  clear_value z12
  clear_value z11
  clear_value z10
  clear_value z9
  clear_value z8
  clear_value z7
  clear_value z6
  clear_value z5
  clear_value z4
  clear_value z3
  clear_value z2
  clear_value z1
  clear_value z0
  split
  · rename_i y20 y21
    refine Block.endCmd_keeps (s.up rfl) ?_
    refine Keeps.foldl (fun b x h => ?_) _ ?_
    · refine Block.restoreWick_keeps (s.up rfl) ?_
      exact h
    · exact h18
  · rename_i y22 y23
    exact (Block.endCmd_keeps (s.up rfl) h)
  · rename_i y24 y25 y26
    exact h

theorem Block.freeSlot_keeps {F : Nat} {a : Block} {b s'} (s : sub 281018496 F) (h : Keeps F a b) :
    Keeps F a (Block.freeSlot b s') := by
  unfold Block.freeSlot
  extract_lets z0 z1 z2 z3 z4 z5
  have h6 : Keeps F a z2 := by
    subst z2
    exact (Block.setSlot_keeps (s.up rfl) h)
  have h7 : Keeps F a z3 := by
    subst z3
    refine Keeps.choice (fun h8 => ?_) (fun h8 => ?_)
    · exact (Block.setReg_keeps (s.up rfl) h6)
    · exact h6
  have h9 : Keeps F a z4 := by
    subst z4
    exact (Block.dropBounds_keeps (s.up rfl) h7)
  refine Keeps.foldl (fun b x h => ?_) _ ?_
  · refine Block.sigDrop_keeps (s.up rfl) ?_
    exact h
  · exact Keeps.upd (m := 8388608) h9 (s.up rfl) (by intro p; cases p <;> first | exact .inl rfl | (right; simp only [Part.same, and_self]))

theorem Block.freeVid_keeps {F : Nat} {a : Block} {b c v} (s : sub 281034880 F) (h : Keeps F a b) :
    Keeps F a (Block.freeVid b c v) := by
  unfold Block.freeVid
  split
  · rename_i y0 y1
    exact h
  · rename_i y2 y3
    extract_lets z4 z5 z6 z7 z8
    have h9 : Keeps F a z5 := by
      subst z5
      exact (Block.dropCommits_keeps (s.up rfl) h)
    have h10 : Keeps F a z6 := by
      subst z6
      exact (Block.setVid_keeps (s.up rfl) h9)
    have h11 : Keeps F a z8 := by
      subst z8
      refine Keeps.choice (fun h12 => ?_) (fun h12 => ?_)
      · exact (Block.setSlot_keeps (s.up rfl) h10)
      · exact h10
    refine Keeps.choice (fun h13 => ?_) (fun h13 => ?_)
    · exact h11
    · exact (Block.freeSlot_keeps (s.up rfl) h11)

theorem Block.dropLoading_keeps {F : Nat} {a : Block} {b c} (s : sub 92299264 F) (h : Keeps F a b) :
    Keeps F a (Block.dropLoading b c) := by
  unfold Block.dropLoading
  extract_lets z0 z1
  have h2 : Keeps F a z0 := by
    subst z0
    exact Keeps.upd (m := 16777216) h (s.up rfl) (by intro p; cases p <;> first | exact .inl rfl | (right; simp only [Part.same, and_self]))
  subst z1
  refine Keeps.foldl (fun b x h => ?_) _ ?_
  · refine Block.endCmd_keeps (s.up rfl) ?_
    exact h
  · exact h2

theorem Block.dropLists_keeps {F : Nat} {a : Block} {b c} (s : sub 2199115554816 F) (h : Keeps F a b) :
    Keeps F a (Block.dropLists b c) := by
  unfold Block.dropLists
  extract_lets z0 z1 z2
  have h3 : Keeps F a z0 := by
    subst z0
    exact (Block.dropLoading_keeps (s.up rfl) h)
  have h4 : Keeps F a z2 := by
    subst z2
    exact Keeps.upd (m := 16777216) h3 (s.up rfl) (by intro p; cases p <;> first | exact .inl rfl | (right; simp only [Part.same, and_self]))
  exact (Block.reapVersions_keeps (s.up rfl) h4)

theorem Block.unmapEnd_keeps {F : Nat} {a : Block} {b id} (s : sub 100663296 F) (h : Keeps F a b) :
    Keeps F a (Block.unmapEnd b id).2 := by
  unfold Block.unmapEnd
  refine Keeps.choice2 (fun h0 => ?_) (fun h0 => ?_)
  · dsimp -zeta only
    exact h
  · dsimp -zeta only
    exact Keeps.upd (m := 100663296) h (s.up rfl) (by intro p; cases p <;> first | exact .inl rfl | (right; simp only [Part.same, and_self]))

theorem Block.dropMaps_keeps {F : Nat} {a : Block} {b c} (s : sub 15544020301952 F) (h : Keeps F a b) :
    Keeps F a (Block.dropMaps b c) := by
  unfold Block.dropMaps
  refine Keeps.foldl (fun b x h => ?_) _ ?_
  · refine Block.unmapEnd_keeps (s.up rfl) ?_
    exact (Block.unmapWork_keeps (s.up rfl) h)
  · exact h

theorem Block.freeObjects_keeps {F : Nat} {a : Block} {b c} (s : sub 15544020301952 F) (h : Keeps F a b) :
    Keeps F a (Block.freeObjects b c) := by
  unfold Block.freeObjects
  extract_lets z0 z1 z2 z3 z4
  have h5 : Keeps F a z1 := by
    subst z1
    refine Keeps.foldl (fun b x h => ?_) _ ?_
    · refine Block.freeVid_keeps (s.up rfl) ?_
      exact h
    · exact h
  have h6 : Keeps F a z2 := by
    subst z2
    exact (Block.dropLists_keeps (s.up rfl) h5)
  have h7 : Keeps F a z4 := by
    subst z4
    exact (Block.setCtx_keeps (s.up rfl) h6)
  exact (Block.dropMaps_keeps (s.up rfl) h7)

theorem Block.settleQueue_keeps {F : Nat} {a : Block} {b q} (s : sub 15544020301952 F) (h : Keeps F a b) :
    Keeps F a (Block.settleQueue b q) := by
  unfold Block.settleQueue
  extract_lets z0 z1 z2
  have h3 : Keeps F a z1 := by
    subst z1
    exact (Block.setQueue_keeps (s.up rfl) h)
  have h4 : Keeps F a z2 := by
    subst z2
    refine Keeps.foldl (fun b x h => ?_) _ ?_
    · refine Block.endCmd_keeps (s.up rfl) ?_
      exact h
    · exact h3
  refine Keeps.choice (fun h5 => ?_) (fun h5 => ?_)
  · refine Keeps.choice (fun h6 => ?_) (fun h6 => ?_)
    · exact (Block.freeObjects_keeps (s.up rfl) h4)
    · exact h4
  · exact h

theorem Block.modCad_keeps {F : Nat} {a : Block} {b f} (s : sub 536870912 F) (h : Keeps F a b) :
    Keeps F a (Block.modCad b f) := by
  unfold Block.modCad
  exact Keeps.upd (m := 536870912) h (s.up rfl) (by intro p; cases p <;> first | exact .inl rfl | (right; simp only [Part.same, and_self]))

theorem Block.keepCadence_keeps {F : Nat} {a : Block} {b f} (s : sub 536870912 F) (h : Keeps F a b) (hf : ∀ v0, Keeps F a v0 → Keeps F a (f v0)) :
    Keeps F a (Block.keepCadence b f) := by
  unfold Block.keepCadence
  extract_lets z0
  refine Block.modCad_keeps (s.up rfl) ?_
  apply hf
  exact h

theorem Block.sendFrame_keeps {F : Nat} {a : Block} {b p' cls typ payload} (s : sub 8589934592 F) (h : Keeps F a b) :
    Keeps F a (Block.sendFrame b p' cls typ payload) := by
  unfold Block.sendFrame
  exact (Block.sendFrames_keeps (s.up rfl) h)

theorem Block.relayEdge_keeps {F : Nat} {a : Block} {b} (s : sub 8589934592 F) (h : Keeps F a b) :
    Keeps F a (Block.relayEdge b) := by
  unfold Block.relayEdge
  extract_lets z0 z1
  refine Keeps.foldl (fun b x h => ?_) _ ?_
  · refine Block.sendFrame_keeps (s.up rfl) ?_
    exact h
  · exact h

theorem Block.frameEdge_keeps {F : Nat} {a : Block} {b n ago} (s : sub 9126805504 F) (h : Keeps F a b) :
    Keeps F a (Block.frameEdge b n ago) := by
  unfold Block.frameEdge
  extract_lets z0 z1
  have h2 : Keeps F a z0 := by
    subst z0
    refine Block.keepCadence_keeps (s.up rfl) ?_ ?_
    · exact h
    · intro x3 h4
      exact (Block.modCad_keeps (s.up rfl) h4)
  have h5 : Keeps F a z1 := by
    subst z1
    exact (Block.modCad_keeps (s.up rfl) h2)
  refine Keeps.choice (fun h6 => ?_) (fun h6 => ?_)
  · exact h5
  · exact (Block.relayEdge_keeps (s.up rfl) h5)

theorem Block.takeDue_keeps {F : Nat} {a : Block} {b} (s : sub 9126805504 F) (h : Keeps F a b) :
    Keeps F a (Block.takeDue b) := by
  unfold Block.takeDue
  refine Keeps.choice (fun h0 => ?_) (fun h0 => ?_)
  · refine Keeps.choice (fun h1 => ?_) (fun h1 => ?_)
    · exact (Block.frameEdge_keeps (s.up rfl) h)
    · exact (Block.frameEdge_keeps (s.up rfl) h)
  · exact h

theorem Block.sendLink_keeps {F : Nat} {a : Block} {b p' typ payload} (s : sub 8589934592 F) (h : Keeps F a b) :
    Keeps F a (Block.sendLink b p' typ payload) := by
  unfold Block.sendLink
  exact (Block.modPort_keeps (s.up rfl) h)

theorem Block.dbReject_keeps {F : Nat} {a : Block} {b q} (s : sub 10368 F) (h : Keeps F a b) :
    Keeps F a (Block.dbReject b q) := by
  unfold Block.dbReject
  extract_lets z0 z1 z2
  have h3 : Keeps F a z1 := by
    subst z1
    exact (Block.setQueue_keeps (s.up rfl) h)
  have h4 : Keeps F a z2 := by
    subst z2
    exact (Block.count32_keeps (s.up rfl) h3)
  refine Keeps.choice (fun h5 => ?_) (fun h5 => ?_)
  · exact (Block.event_keeps (s.up rfl) h4)
  · exact h4

theorem Block.dbSet_keeps {F : Nat} {a : Block} {b q n} (s : sub 10368 F) (h : Keeps F a b) :
    Keeps F a (Block.dbSet b q n) := by
  unfold Block.dbSet
  extract_lets z0 z1 z2
  refine Keeps.choice (fun h3 => ?_) (fun h3 => ?_)
  · exact h
  · refine Keeps.choice (fun h4 => ?_) (fun h4 => ?_)
    · exact (Block.dbReject_keeps (s.up rfl) h)
    · exact (Block.setQueue_keeps (s.up rfl) h)

theorem Block.sigDoorbell_keeps {F : Nat} {a : Block} {b ctx qidx setmax v} (s : sub 10368 F) (h : Keeps F a b) :
    Keeps F a (Block.sigDoorbell b ctx qidx setmax v) := by
  unfold Block.sigDoorbell
  split
  · rename_i y0 y1
    exact h
  · rename_i y2 y3 y4
    extract_lets z5
    refine Keeps.choice (fun h6 => ?_) (fun h6 => ?_)
    · refine Keeps.choice (fun h7 => ?_) (fun h7 => ?_)
      · exact (Block.dbSet_keeps (s.up rfl) h)
      · exact h
    · refine Keeps.choice (fun h8 => ?_) (fun h8 => ?_)
      · exact h
      · exact (Block.dbSet_keeps (s.up rfl) h)

theorem Block.sigSlot_keeps {F : Nat} {a : Block} {b s' setmax v win who} (s : sub 13477888411776 F) (h : Keeps F a b) :
    Keeps F a (Block.sigSlot b s' setmax v win who) := by
  unfold Block.sigSlot
  extract_lets z0
  have h1 : Keeps F a z0 := by
    subst z0
    exact (Block.ledgerTerm_keeps (s.up rfl) h)
  clear_value z0
  split
  · rename_i y2 y3 y4
    extract_lets z5
    exact Keeps.upd (m := 8388608) h1 (s.up rfl) (by intro p; cases p <;> first | exact .inl rfl | (right; simp only [Part.same, and_self]))
  · rename_i y6 y7
    exact (Block.sigNow_keeps (s.up rfl) h1)

theorem Block.sigEntry_keeps {F : Nat} {a : Block} {b ctx who g} (s : sub 13477888419968 F) (h : Keeps F a b) :
    Keeps F a (Block.sigEntry b ctx who g) := by
  unfold Block.sigEntry
  refine Keeps.choice (fun h0 => ?_) (fun h0 => ?_)
  · exact (Block.sigDoorbell_keeps (s.up rfl) h)
  · split
    · rename_i y1 y2 y3
      exact (Block.sigSlot_keeps (s.up rfl) h)
    · rename_i y4 y5
      exact h

theorem Block.refillFaults_keeps {F : Nat} {a : Block} (s : sub 15544020301952 F) : ∀ {n : Nat} {b : Block}, Keeps F a b → Keeps F a (Block.refillFaults n b)
  | 0, _, h => h
  | n + 1, b, h => by
    unfold Block.refillFaults
    split
    · exact h
    · split
      · exact Block.refillFaults_keeps s (Block.enterFault_keeps (s.up rfl)
          (Keeps.upd (m := 67108864) h (s.up rfl) (by intro p; cases p <;> first | exact .inl rfl | (right; simp only [Part.same, and_self]))))
      · exact h

theorem Block.settleFaults_keeps {F : Nat} {a : Block} {b} (s : sub 15544020301952 F) (h : Keeps F a b) :
    Keeps F a (Block.settleFaults b) := by
  unfold Block.settleFaults
  extract_lets z0
  have h1 : Keeps F a z0 := by
    subst z0
    refine Keeps.foldl (fun b x h => ?_) _ ?_
    · refine Block.sendPri_keeps (s.up rfl) ?_
      exact h
    · exact h
  exact (Block.startDma_keeps (s.up rfl) (Block.refillFaults_keeps (s.up rfl) h1))

theorem Block.finishFault_keeps {F : Nat} {a : Block} {b c page ok} (s : sub 15544020301952 F) (h : Keeps F a b) :
    Keeps F a (Block.finishFault b c page ok) := by
  unfold Block.finishFault
  exact (Block.settleFaults_keeps (s.up rfl) (Block.closeFault_keeps (s.up rfl) h))

theorem Block.landPages_keeps {F : Nat} {a : Block} {b} (s : sub 15544020301952 F) (h : Keeps F a b) :
    Keeps F a (Block.landPages b) := by
  unfold Block.landPages
  refine Keeps.foldl (fun b x h => ?_) _ ?_
  · split
    · rename_i y0 y1 y2 y3
      refine Keeps.choice (fun h4 => ?_) (fun h4 => ?_)
      · exact h
      · extract_lets z5
        have h6 : Keeps F a z5 := by
          subst z5
          exact Keeps.upd (m := 33554432) h (s.up rfl) (by intro p; cases p <;> first | exact .inl rfl | (right; simp only [Part.same, and_self]))
        exact (Block.finishFault_keeps (s.up rfl) (Block.count32_keeps (s.up rfl) h6))
    · rename_i y7 y8
      exact h
  · exact h

theorem Block.copyDone_keeps {F : Nat} {a : Block} {b c page ok} (s : sub 15544020301952 F) (h : Keeps F a b) :
    Keeps F a (Block.copyDone b c page ok) := by
  unfold Block.copyDone
  split
  · rename_i y0 y1
    exact h
  · rename_i y2 y3 y4
    split
    · rename_i y5 y6 y7 y8 y9
      refine Keeps.choice (fun h10 => ?_) (fun h10 => ?_)
      · extract_lets z11 z12 z13 z14 z15
        have h16 : Keeps F a z12 := by
          subst z12
          exact (Block.putBytes_keeps (s.up rfl) h)
        have h17 : Keeps F a z13 := by
          subst z13
          refine Keeps.foldl (fun b x h => ?_) _ ?_
          · refine Block.countFar_keeps (s.up rfl) ?_
            exact h
          · exact h16
        have h18 : Keeps F a z14 := by
          subst z14
          exact (Block.modFault_keeps (s.up rfl) h17)
        exact (Block.startDma_keeps (s.up rfl) (Block.landPages_keeps (s.up rfl) (Block.pushEntry_keeps (s.up rfl) h18)))
      · extract_lets z19
        have h20 : Keeps F a z19 := by
          subst z19
          exact (Block.setPool_keeps (s.up rfl) h)
        exact (Block.finishFault_keeps (s.up rfl) h20)
    · rename_i y21 y22
      exact h

theorem Block.enterIdent_keeps {F : Nat} {a : Block} {b p' rxok} (s : sub 8589934592 F) (h : Keeps F a b) :
    Keeps F a (Block.enterIdent b p' rxok) := by
  unfold Block.enterIdent
  exact (Block.modPort_keeps (s.up rfl) h)

theorem Block.takeRecord_keeps {F : Nat} {a b : Block} {c : Nat} (s : sub 134219904 F) (h : Keeps F a b) : Keeps F a (b.takeRecord c).2 := by
  unfold Block.takeRecord
  split
  · exact Keeps.upd (m := 134217728) h (s.up rfl) (by intro p; cases p <;> first | exact .inl rfl | (right; simp only [Part.same, and_self]))
  · split
    · exact h
    · rename_i e
      exact Keeps.upd (m := 134217728) (Block.takeFrame_keeps (s.up rfl) h e) (s.up rfl) (by intro p; cases p <;> first | exact .inl rfl | (right; simp only [Part.same, and_self]))

theorem Block.takeTables_keeps {F : Nat} {a : Block} {c id p : Nat} (s : sub 134219904 F) :
    ∀ {n : Nat} {b : Block}, Keeps F a b → Keeps F a (Block.takeTables b c id p n)
  | 0, _, h => h
  | n + 1, b, h => by
    unfold Block.takeTables
    split
    · exact h
    · rename_i e
      exact Block.takeTables_keeps s (Keeps.upd (m := 134217728) (Block.takeFrame_keeps (s.up rfl) h e) (s.up rfl)
        (by intro p; cases p <;> first | exact .inl rfl | (right; simp only [Part.same, and_self])))

theorem Block.doMap_keeps {F : Nat} {a : Block} {b c m'} (s : sub 260073600 F) (h : Keeps F a b) :
    Keeps F a (Block.doMap b c m') := by
  unfold Block.doMap
  extract_lets z0 z1 z2 z3 z4
  have h5 : Keeps F a z2.2 := by
    subst z2
    refine Keeps.choice2 (fun h6 => ?_) (fun h6 => ?_)
    · dsimp -zeta only
      exact h
    · refine Block.takeRecord_keeps (s.up rfl) ?_
      exact h
  have h7 : Keeps F a z3 := by
    subst z3
    refine Keeps.choice (fun h8 => ?_) (fun h8 => ?_)
    · exact h5
    · refine Block.takeTables_keeps (s.up rfl) ?_
      exact h5
  refine Keeps.choice (fun h9 => ?_) (fun h9 => ?_)
  · exact (Block.endCmd_keeps (s.up rfl) h)
  · refine Keeps.choice (fun h10 => ?_) (fun h10 => ?_)
    · exact (Block.endCmd_keeps (s.up rfl) h)
    · refine Block.endCmd_keeps (s.up rfl) ?_
      exact Keeps.upd (m := 33554432) h7 (s.up rfl) (by intro p; cases p <;> first | exact .inl rfl | (right; simp only [Part.same, and_self]))

theorem Block.mcMod_keeps {F : Nat} {a : Block} {b f} (s : sub 1073741824 F) (h : Keeps F a b) :
    Keeps F a (Block.mcMod b f) := by
  unfold Block.mcMod
  exact Keeps.upd (m := 1073741824) h (s.up rfl) (by intro p; cases p <;> first | exact .inl rfl | (right; simp only [Part.same, and_self]))

theorem Block.setTbuf_keeps {F : Nat} {a : Block} {b k v} (s : sub 1099511627776 F) (h : Keeps F a b) :
    Keeps F a (Block.setTbuf b k v) := by
  unfold Block.setTbuf
  exact Keeps.upd (m := 1099511627776) h (s.up rfl) (by intro p; cases p <;> first | exact .inl rfl | (right; simp only [Part.same, and_self]))

theorem Block.tbHeadSet_keeps {F : Nat} {a : Block} {b path v} (s : sub 1099511629952 F) (h : Keeps F a b) :
    Keeps F a (Block.tbHeadSet b path v) := by
  unfold Block.tbHeadSet
  extract_lets z0 z1
  refine Keeps.choice (fun h2 => ?_) (fun h2 => ?_)
  · exact (Block.setTbuf_keeps (s.up rfl) h)
  · exact (Block.pageErr_keeps (s.up rfl) h)

theorem Block.ccAnswer_keeps {F : Nat} {a : Block} {b line a' fwd} (s : sub 4295229568 F) (h : Keeps F a b) :
    Keeps F a (Block.ccAnswer b line a' fwd) := by
  unfold Block.ccAnswer
  split
  · rename_i y0 y1
    exact h
  · rename_i y2 y3 y4
    refine Keeps.choice (fun h5 => ?_) (fun h5 => ?_)
    · exact h
    · extract_lets z6 z7
      have h8 : Keeps F a z6 := by
        subst z6
        exact (Block.modTxn_keeps (s.up rfl) h)
      have h9 : Keeps F a z7 := by
        subst z7
        refine Keeps.choice (fun h10 => ?_) (fun h10 => ?_)
        · clear_value z6
          split
          · rename_i y11 y12 y13
            exact (Block.setDir_keeps (s.up rfl) h8)
          · rename_i y14 y15
            exact h8
        · refine Keeps.choice (fun h16 => ?_) (fun h16 => ?_)
          · exact h8
          · exact (Block.dropHolder_keeps (s.up rfl) h8)
      clear_value z7
      clear_value z6
      split
      · rename_i y17 y18
        exact h9
      · rename_i y19 y20 y21
        refine Block.ccGo_keeps (s.up rfl) ?_
        refine Keeps.choice (fun h22 => ?_) (fun h22 => ?_)
        · exact (Block.ccGrant_keeps (s.up rfl) h9)
        · exact (Block.ccEnd_keeps (s.up rfl) h9)

theorem Block.setDrift_keeps {F : Nat} {a : Block} {b ns} (s : sub 128 F) (h : Keeps F a b) :
    Keeps F a (Block.setDrift b ns) := by
  unfold Block.setDrift
  exact (Block.setReg_keeps (s.up rfl) h)

theorem Block.cadEvent_keeps {F : Nat} {a : Block} {b kind} (s : sub 13202729470080 F) (h : Keeps F a b) :
    Keeps F a (Block.cadEvent b kind) := by
  unfold Block.cadEvent
  extract_lets z0 z1
  exact (Block.event_keeps (s.up rfl) (Block.cinderRec_keeps (s.up rfl) h))

theorem Block.setSource_keeps {F : Nat} {a : Block} {b src} (s : sub 13203266340992 F) (h : Keeps F a b) :
    Keeps F a (Block.setSource b src) := by
  unfold Block.setSource
  extract_lets z0 z1
  have h2 : Keeps F a z1 := by
    subst z1
    exact (Block.modCad_keeps (s.up rfl) h)
  refine Keeps.choice (fun h3 => ?_) (fun h3 => ?_)
  · exact (Block.cadEvent_keeps (s.up rfl) h2)
  · refine Keeps.choice (fun h4 => ?_) (fun h4 => ?_)
    · exact (Block.cadEvent_keeps (s.up rfl) h2)
    · exact h2

theorem Block.takeCadIn_keeps {F : Nat} {a : Block} {b} (s : sub 13203266340992 F) (h : Keeps F a b) :
    Keeps F a (Block.takeCadIn b) := by
  unfold Block.takeCadIn
  refine Keeps.choice (fun h0 => ?_) (fun h0 => ?_)
  · extract_lets z1
    have h2 : Keeps F a z1 := by
      subst z1
      exact (Block.setDrift_keeps (s.up rfl) h)
    exact (Block.setSource_keeps (s.up rfl) (Block.modCad_keeps (s.up rfl) h2))
  · extract_lets z3
    have h4 : Keeps F a z3 := by
      subst z3
      exact (Block.setDrift_keeps (s.up rfl) h)
    refine Block.setSource_keeps (s.up rfl) ?_
    refine Block.keepCadence_keeps (s.up rfl) ?_ ?_
    · exact h4
    · intro x5 h6
      exact (Block.modCad_keeps (s.up rfl) h6)

theorem Block.linkNote_keeps {F : Nat} {a : Block} {b p' left} (s : sub 15543886084736 F) (h : Keeps F a b) :
    Keeps F a (Block.linkNote b p' left) := by
  unfold Block.linkNote
  extract_lets z0
  have h1 : Keeps F a z0 := by
    subst z0
    exact (Block.changeCaps_keeps (s.up rfl) h)
  refine Keeps.choice (fun h2 => ?_) (fun h2 => ?_)
  · refine Keeps.foldl (fun b x h => ?_) _ ?_
    · refine Block.loseCtx_keeps (s.up rfl) ?_
      exact h
    · exact h1
  · exact h1

theorem Block.noteLink_keeps {F : Nat} {a : Block} {b p' left} (s : sub 15561065953920 F) (h : Keeps F a b) :
    Keeps F a (Block.noteLink b p' left) := by
  unfold Block.noteLink
  refine Keeps.choice (fun h0 => ?_) (fun h0 => ?_)
  · exact Keeps.upd (m := 17179869184) h (s.up rfl) (by intro p; cases p <;> first | exact .inl rfl | (right; simp only [Part.same, and_self]))
  · exact (Block.linkNote_keeps (s.up rfl) h)

theorem Block.openLane_keeps {F : Nat} {a : Block} {b w ctx v reps} (s : sub 16777216 F) (h : Keeps F a b) :
    Keeps F a (Block.openLane b w ctx v reps) := by
  unfold Block.openLane
  extract_lets z0 z1
  have h2 : Keeps F a z1 := by
    subst z1
    exact (Block.dropLane_keeps (s.up rfl) h)
  exact Keeps.upd (m := 16777216) h2 (s.up rfl) (by intro p; cases p <;> first | exact .inl rfl | (right; simp only [Part.same, and_self]))

theorem Block.startLaunch_keeps {F : Nat} {a : Block} {b c l} (s : sub 15544020301952 F) (h : Keeps F a b) :
    Keeps F a (Block.startLaunch b c l) := by
  unfold Block.startLaunch
  extract_lets z0 z1 z2 z3
  have h4 : Keeps F a z2 := by
    subst z2
    refine Keeps.foldl (fun b x h => ?_) _ ?_
    · refine Block.setEng_keeps (s.up rfl) ?_
      exact h
    · exact h
  have h5 : Keeps F a z3 := by
    subst z3
    exact (Block.modCmd_keeps (s.up rfl) h4)
  refine Keeps.choice (fun h6 => ?_) (fun h6 => ?_)
  · exact (Block.endCmd_keeps (s.up rfl) h5)
  · refine Keeps.foldl (fun b x h => ?_) _ ?_
    · refine Block.loadArgs_keeps (s.up rfl) ?_
      exact h
    · exact (Block.fixDeadlines_keeps (s.up rfl) (Block.openLane_keeps (s.up rfl) h5))

theorem Block.catchUp_keeps {F : Nat} {a : Block} (s : sub 9126805504 F) : ∀ {n : Nat} {b : Block}, Keeps F a b → Keeps F a (Block.catchUp n b)
  | 0, _, h => h
  | n + 1, b, h => by
    unfold Block.catchUp
    split
    · exact Block.catchUp_keeps s (Block.frameEdge_keeps (s.up rfl) h)
    · exact h

theorem Block.enterHoldover_keeps {F : Nat} {a : Block} {b} (s : sub 13203266340992 F) (h : Keeps F a b) :
    Keeps F a (Block.enterHoldover b) := by
  unfold Block.enterHoldover
  extract_lets z0
  have h1 : Keeps F a z0 := by
    subst z0
    exact (Block.takeDue_keeps (s.up rfl) h)
  exact (Block.setSource_keeps (s.up rfl) (Block.catchUp_keeps (s.up rfl) h1))

theorem Block.takeRein_keeps {F : Nat} {a : Block} {b} (s : sub 13203266340992 F) (h : Keeps F a b) :
    Keeps F a (Block.takeRein b) := by
  unfold Block.takeRein
  split
  · rename_i y0 y1 y2 y3 y4 y5 y6
    extract_lets z7 z8 z9 z10 z11 z12
    have h13 : Keeps F a z10 := by
      subst z10
      exact (Block.setDrift_keeps (s.up rfl) h)
    have h14 : Keeps F a z12 := by
      subst z12
      refine Block.keepCadence_keeps (s.up rfl) ?_ ?_
      · exact h13
      · intro x15 h16
        exact (Block.setReg_keeps (s.up rfl) (Block.modCad_keeps (s.up rfl) h16))
    refine Keeps.choice (fun h17 => ?_) (fun h17 => ?_)
    · dsimp -zeta only
      refine Block.cadEvent_keeps (s.up rfl) ?_
      refine Block.setField_keeps (s.up rfl) ?_
      refine Keeps.choice (fun h18 => ?_) (fun h18 => ?_)
      · exact h13
      · exact (Block.enterHoldover_keeps (s.up rfl) h13)
    · exact (Block.setSource_keeps (s.up rfl) h14)
  · rename_i y19 y20
    exact h

theorem Block.reselect_keeps {F : Nat} {a : Block} {b} (s : sub 13203266340992 F) (h : Keeps F a b) :
    Keeps F a (Block.reselect b) := by
  unfold Block.reselect
  refine Keeps.choice (fun h0 => ?_) (fun h0 => ?_)
  · exact h
  · extract_lets z1
    refine Keeps.choice (fun h2 => ?_) (fun h2 => ?_)
    · exact h
    · clear_value z1
      split
      · rename_i y3
        refine Keeps.choice (fun h4 => ?_) (fun h4 => ?_)
        · exact (Block.enterHoldover_keeps (s.up rfl) h)
        · exact h
      · rename_i y5
        exact (Block.takeRein_keeps (s.up rfl) h)
      · rename_i y6 y7 y8
        exact (Block.enterHoldover_keeps (s.up rfl) h)

theorem Block.setBp_keeps {F : Nat} {a : Block} {b k v} (s : sub 2199023255552 F) (h : Keeps F a b) :
    Keeps F a (Block.setBp b k v) := by
  unfold Block.setBp
  exact Keeps.upd (m := 2199023255552) h (s.up rfl) (by intro p; cases p <;> first | exact .inl rfl | (right; simp only [Part.same, and_self]))

theorem Block.bpCommit_keeps {F : Nat} {a : Block} {b path v} (s : sub 2199023257984 F) (h : Keeps F a b) :
    Keeps F a (Block.bpCommit b path v) := by
  unfold Block.bpCommit
  extract_lets z0 z1 z2 z3 z4 z5
  have h6 : Keeps F a z5 := by
    subst z5
    exact (Block.unstagePath_keeps (s.up rfl) h)
  refine Keeps.choice (fun h7 => ?_) (fun h7 => ?_)
  · exact (Block.pageErr_keeps (s.up rfl) h6)
  · exact (Block.setBp_keeps (s.up rfl) h6)

theorem Block.stepEng_keeps {F : Nat} {a : Block} {b e} (s : sub 32768 F) (h : Keeps F a b) :
    Keeps F a (Block.stepEng b e) := by
  unfold Block.stepEng
  refine Keeps.choice (fun h0 => ?_) (fun h0 => ?_)
  · exact h
  · exact (Block.setEng_keeps (s.up rfl) h)

theorem Block.traceTo_keeps {F : Nat} {a : Block} {b k r} (s : sub 1099511627776 F) (h : Keeps F a b) :
    Keeps F a (Block.traceTo b k r) := by
  unfold Block.traceTo
  extract_lets z0 z1 z2 z3
  refine Keeps.choice (fun h4 => ?_) (fun h4 => ?_)
  · exact (Block.setTbuf_keeps (s.up rfl) h)
  · exact (Block.setTbuf_keeps (s.up rfl) h)

theorem Block.traceAll_keeps {F : Nat} {a : Block} {b take ctx r} (s : sub 1099511627776 F) (h : Keeps F a b) :
    Keeps F a (Block.traceAll b take ctx r) := by
  unfold Block.traceAll
  refine Keeps.foldl (fun b x h => ?_) _ ?_
  · extract_lets z0
    refine Keeps.choice (fun h1 => ?_) (fun h1 => ?_)
    · exact (Block.traceTo_keeps (s.up rfl) h)
    · exact h
  · exact h

theorem Block.profStart_keeps {F : Nat} {a : Block} {b c w3} (s : sub 1099511635968 F) (h : Keeps F a b) :
    Keeps F a (Block.profStart b c w3) := by
  unfold Block.profStart
  refine Keeps.choice (fun h0 => ?_) (fun h0 => ?_)
  · extract_lets z1
    exact (Block.modCmd_keeps (s.up rfl) (Block.traceAll_keeps (s.up rfl) h))
  · exact h

theorem Block.firstStitch_keeps {F : Nat} {a : Block} {b w} (s : sub 1099511635968 F) (h : Keeps F a b) :
    Keeps F a (Block.firstStitch b w) := by
  unfold Block.firstStitch
  split
  · rename_i y0 y1 y2
    split
    · rename_i y3 y4 y5
      split
      · rename_i y6 y7 y8 y9 y10
        extract_lets z11
        have h12 : Keeps F a z11 := by
          subst z11
          exact (Block.profStart_keeps (s.up rfl) h)
        exact (Block.modCmd_keeps (s.up rfl) h12)
      · rename_i y13 y14 y15
        exact h
    · rename_i y16 y17
      exact h
  · rename_i y18 y19 y20
    exact h

theorem Block.enqueue_keeps {F : Nat} {a : Block} {b e r} (s : sub 32768 F) (h : Keeps F a b) :
    Keeps F a (Block.enqueue b e r) := by
  unfold Block.enqueue
  extract_lets z0
  exact (Block.setEng_keeps (s.up rfl) h)

theorem Block.deliver_keeps {F : Nat} {a : Block} {b l} (s : sub 1099528445952 F) (h : Keeps F a b) :
    Keeps F a (Block.deliver b l) := by
  unfold Block.deliver
  split
  · rename_i y0 y1
    exact h
  · rename_i y2 y3 y4 y5
    extract_lets z6 z7 z8 z9
    have h10 : Keeps F a z9 := by
      subst z9
      refine Keeps.choice (fun h11 => ?_) (fun h11 => ?_)
      · exact h
      · exact (Block.firstStitch_keeps (s.up rfl) h)
    refine Keeps.choice (fun h12 => ?_) (fun h12 => ?_)
    · exact h
    · refine Block.modLane_keeps (s.up rfl) ?_
      refine Keeps.foldl (fun b x h => ?_) _ ?_
      · refine Block.enqueue_keeps (s.up rfl) ?_
        exact h
      · exact h10

theorem Block.stepWork_keeps {F : Nat} {a : Block} {b w} (s : sub 1099528445952 F) (h : Keeps F a b) :
    Keeps F a (Block.stepWork b w) := by
  unfold Block.stepWork
  split
  · rename_i y0 y1 y2
    refine Keeps.choice (fun h3 => ?_) (fun h3 => ?_)
    · refine Keeps.foldl (fun b x h => ?_) _ ?_
      · refine Block.stepEng_keeps (s.up rfl) ?_
        exact h
      · exact (Block.deliver_keeps (s.up rfl) h)
    · exact h
  · rename_i y4 y5
    exact h

theorem Block.bpStep_keeps {F : Nat} {a : Block} {b} (s : sub 1099528445952 F) (h : Keeps F a b) :
    Keeps F a (Block.bpStep b) := by
  unfold Block.bpStep
  refine Keeps.foldl (fun b x h => ?_) _ ?_
  · refine Block.stepWork_keeps (s.up rfl) ?_
    exact h
  · exact h

theorem bpCtlWrite_keeps {F : Nat} {a : Block} {x0 x1 x2 x3} (s : sub 16643531929984 F) (h : Keeps F a x0) :
    Keeps F a (bpCtlWrite x0 x1 x2 x3) := by
  unfold bpCtlWrite
  extract_lets z0 z1 z2 z3
  have h4 : Keeps F a z2 := by
    subst z2
    refine Keeps.choice (fun h5 => ?_) (fun h5 => ?_)
    · exact (Block.bpCommit_keeps (s.up rfl) h)
    · exact (Block.setBp_keeps (s.up rfl) h)
  have h6 : Keeps F a z3 := by
    subst z3
    refine Keeps.choice (fun h7 => ?_) (fun h7 => ?_)
    · exact (Block.bpResume_keeps (s.up rfl) h4)
    · exact h4
  refine Keeps.choice (fun h8 => ?_) (fun h8 => ?_)
  · exact (Block.bpStep_keeps (s.up rfl) h6)
  · exact h6

theorem Block.poisonNew_keeps {F : Nat} {a : Block} {b c a' consumed} (s : sub 15543886084224 F) (h : Keeps F a b) :
    Keeps F a (Block.poisonNew b c a' consumed) := by
  unfold Block.poisonNew
  refine Block.poisonCmd_keeps (s.up rfl) ?_
  exact Keeps.upd (m := 8192) h (s.up rfl) (by intro p; cases p <;> first | exact .inl rfl | (right; simp only [Part.same, and_self]))

theorem Block.noteRecord_keeps {F : Nat} {a : Block} {b line data mask} (s : sub 4294967296 F) (h : Keeps F a b) :
    Keeps F a (Block.noteRecord b line data mask) := by
  unfold Block.noteRecord
  split
  · rename_i y0 y1
    exact h
  · rename_i y2 y3 y4
    extract_lets z5 z6
    exact (Block.ccMod_keeps (s.up rfl) h)

theorem Block.runCmd_keeps {F : Nat} {a : Block} {b q i opc f} (s : sub 92299264 F) (h : Keeps F a b) (hf : ∀ v0 v1, Keeps F a v1 → Keeps F a (f v0 v1)) :
    Keeps F a (Block.runCmd b q i opc f) := by
  unfold Block.runCmd
  split
  · rename_i y0 y1
    exact h
  · rename_i y2 y3 y4
    refine Keeps.choice (fun h5 => ?_) (fun h5 => ?_)
    · exact h
    · split
      · rename_i y6 y7
        refine Keeps.choice (fun h8 => ?_) (fun h8 => ?_)
        · exact (Block.endCmd_keeps (s.up rfl) h)
        · refine Keeps.choice (fun h9 => ?_) (fun h9 => ?_)
          · exact (Block.endCmd_keeps (s.up rfl) h)
          · apply hf
            exact h
      · rename_i y10 y11
        apply hf
        exact h
      · rename_i y12 y13
        refine Keeps.choice (fun h14 => ?_) (fun h14 => ?_)
        · exact h
        · apply hf
          exact h
      · rename_i y15 y16 y17 y18
        exact h

theorem Block.fresh_keeps {F : Nat} {a : Block} {b w} (s : sub 32 F) (h : Keeps F a b) :
    Keeps F a (Block.fresh b w).2 := by
  unfold Block.fresh
  dsimp -zeta only
  exact Keeps.upd (m := 32) h (s.up rfl) (by intro p; cases p <;> first | exact .inl rfl | (right; simp only [Part.same, and_self]))

theorem Block.busyTime_keeps {F : Nat} {a : Block} {b us} (s : sub 32 F) (h : Keeps F a b) :
    Keeps F a (Block.busyTime b us).2 := by
  unfold Block.busyTime
  extract_lets z0
  have h1 : Keeps F a z0.2 := by
    subst z0
    refine Block.fresh_keeps (s.up rfl) ?_
    exact h
  dsimp -zeta only
  exact h1

theorem Block.impResult_keeps {F : Nat} {a : Block} {b st} (s : sub 4194464 F) (h : Keeps F a b) :
    Keeps F a (Block.impResult b st) := by
  unfold Block.impResult
  extract_lets z0 z1
  have h2 : Keeps F a z0.2 := by
    subst z0
    refine Block.busyTime_keeps (s.up rfl) ?_
    exact h
  have h3 : Keeps F a z1 := by
    subst z1
    exact h2
  refine Block.setReg_keeps (s.up rfl) ?_
  exact Keeps.upd (m := 4194304) h3 (s.up rfl) (by intro p; cases p <;> first | exact .inl rfl | (right; simp only [Part.same, and_self]))

theorem Block.doImport_keeps {F : Nat} {a : Block} {b rights} (s : sub 4194464 F) (h : Keeps F a b) :
    Keeps F a (Block.doImport b rights) := by
  unfold Block.doImport
  extract_lets z0
  clear_value z0
  split
  · rename_i y1 y2 y3
    refine Keeps.choice (fun h4 => ?_) (fun h4 => ?_)
    · exact (Block.impResult_keeps (s.up rfl) (Block.setVid_keeps (s.up rfl) h))
    · exact (Block.impResult_keeps (s.up rfl) h)
  · rename_i y5 y6
    exact (Block.impResult_keeps (s.up rfl) h)

theorem Block.freeSemsOf_keeps {F : Nat} {a : Block} {b p'} (s : sub 1024 F) (h : Keeps F a b) :
    Keeps F a (Block.freeSemsOf b p') := by
  unfold Block.freeSemsOf
  exact Keeps.upd (m := 1024) h (s.up rfl) (by intro p; cases p <;> first | exact .inl rfl | (right; simp only [Part.same, and_self]))

theorem Block.portLost_keeps {F : Nat} {a : Block} {b p'} (s : sub 4398046514560 F) (h : Keeps F a b) :
    Keeps F a (Block.portLost b p') := by
  unfold Block.portLost
  extract_lets z0 z1 z2 z3
  have h4 : Keeps F a z0 := by
    subst z0
    exact (Block.freeSemsOf_keeps (s.up rfl) h)
  have h5 : Keeps F a z1 := by
    subst z1
    exact Keeps.upd (m := 2048) h4 (s.up rfl) (by intro p; cases p <;> first | exact .inl rfl | (right; simp only [Part.same, and_self]))
  have h6 : Keeps F a z2 := by
    subst z2
    exact (Block.setField_keeps (s.up rfl) (Block.unstagePath_keeps (s.up rfl) h5))
  refine Keeps.choice (fun h7 => ?_) (fun h7 => ?_)
  · exact Keeps.upd (m := 4398046511104) h6 (s.up rfl) (by intro p; cases p <;> first | exact .inl rfl | (right; simp only [Part.same, and_self]))
  · exact (Block.event_keeps (s.up rfl) h6)

theorem Block.writeSpace_keeps {F : Nat} {a : Block} {b space e off xs} (s : sub 1048576 F) (h : Keeps F a b) :
    Keeps F a (Block.writeSpace b space e off xs) := by
  unfold Block.writeSpace
  refine Keeps.choice (fun h0 => ?_) (fun h0 => ?_)
  · exact Keeps.upd (m := 1048576) h (s.up rfl) (by intro p; cases p <;> first | exact .inl rfl | (right; simp only [Part.same, and_self]))
  · exact Keeps.upd (m := 1048576) h (s.up rfl) (by intro p; cases p <;> first | exact .inl rfl | (right; simp only [Part.same, and_self]))

theorem Block.startCadence_keeps {F : Nat} {a : Block} {b} (s : sub 13203266340992 F) (h : Keeps F a b) :
    Keeps F a (Block.startCadence b) := by
  unfold Block.startCadence
  extract_lets z0
  have h1 : Keeps F a z0 := by
    subst z0
    exact (Block.modCad_keeps (s.up rfl) h)
  clear_value z0
  split
  · rename_i y2 y3
    exact (Block.setSource_keeps (s.up rfl) h1)
  · rename_i y4 y5
    exact (Block.takeRein_keeps (s.up rfl) h1)
  · rename_i y6 y7 y8
    exact (Block.setSource_keeps (s.up rfl) h1)

theorem Block.readErr_keeps {F : Nat} {a : Block} {b pg path off typ ctx} (s : sub 4398046513280 F) (h : Keeps F a b) :
    Keeps F a (Block.readErr b pg path off typ ctx) := by
  unfold Block.readErr
  refine Keeps.choice (fun h0 => ?_) (fun h0 => ?_)
  · extract_lets z1 z2
    exact Keeps.upd (m := 4398046511104) h (s.up rfl) (by intro p; cases p <;> first | exact .inl rfl | (right; simp only [Part.same, and_self]))
  · exact (Block.accessErr_keeps (s.up rfl) h)

theorem Block.takeSem_keeps {F : Nat} {a : Block} {b path k} (s : sub 1024 F) (h : Keeps F a b) :
    Keeps F a (Block.takeSem b path k).2 := by
  unfold Block.takeSem
  extract_lets z0
  dsimp -zeta only
  refine Keeps.choice (fun h1 => ?_) (fun h1 => ?_)
  · exact (Block.setSem_keeps (s.up rfl) h)
  · exact h

theorem Block.clearRc_keeps {F : Nat} {a : Block} {b path a'} (s : sub 3298534910080 F) (h : Keeps F a b) :
    Keeps F a (Block.clearRc b path a') := by
  unfold Block.clearRc
  refine Keeps.choice (fun h0 => ?_) (fun h0 => ?_)
  · exact Keeps.upd (m := 2048) h (s.up rfl) (by intro p; cases p <;> first | exact .inl rfl | (right; simp only [Part.same, and_self]))
  · refine Keeps.choice (fun h1 => ?_) (fun h1 => ?_)
    · split
      · rename_i y2 y3 y4
        exact (Block.setQueue_keeps (s.up rfl) h)
      · rename_i y5 y6
        exact h
    · refine Keeps.choice (fun h7 => ?_) (fun h7 => ?_)
      · exact (Block.setHarness_keeps (s.up rfl) h)
      · refine Keeps.choice (fun h8 => ?_) (fun h8 => ?_)
        · exact Keeps.upd (m := 2199023255552) h (s.up rfl) (by intro p; cases p <;> first | exact .inl rfl | (right; simp only [Part.same, and_self]))
        · refine Keeps.choice (fun h9 => ?_) (fun h9 => ?_)
          · exact (Block.setTbuf_keeps (s.up rfl) h)
          · split
            · rename_i y10 y11 y12
              refine Keeps.choice (fun h13 => ?_) (fun h13 => ?_)
              · exact h
              · exact (Block.setReg_keeps (s.up rfl) h)
            · rename_i y14 y15
              exact h

theorem Block.readEffect_keeps {F : Nat} {a : Block} {b path a'} (s : sub 7696581422208 F) (h : Keeps F a b) :
    Keeps F a (Block.readEffect b path a') := by
  unfold Block.readEffect
  refine Keeps.choice (fun h0 => ?_) (fun h0 => ?_)
  · refine Keeps.choice (fun h1 => ?_) (fun h1 => ?_)
    · exact (Block.readErr_keeps (s.up rfl) h)
    · refine Keeps.choice (fun h2 => ?_) (fun h2 => ?_)
      · exact (Block.readErr_keeps (s.up rfl) h)
      · exact h
  · refine Keeps.choice (fun h3 => ?_) (fun h3 => ?_)
    · exact h
    · split
      · rename_i y4 y5 y6
        refine Block.takeSem_keeps (s.up rfl) ?_
        exact h
      · rename_i y7 y8
        refine Keeps.choice (fun h9 => ?_) (fun h9 => ?_)
        · split
          · rename_i y10 y11 y12
            refine Keeps.choice (fun h13 => ?_) (fun h13 => ?_)
            · exact (Block.setQueue_keeps (s.up rfl) h)
            · exact h
          · rename_i y14 y15
            exact h
        · refine Keeps.choice (fun h16 => ?_) (fun h16 => ?_)
          · exact (Block.clearRc_keeps (s.up rfl) h)
          · exact h

theorem Block.read64_keeps {F : Nat} {a : Block} {b path a'} (s : sub 7696581422208 F) (h : Keeps F a b) :
    Keeps F a (Block.read64 b path a').2 := by
  unfold Block.read64
  dsimp -zeta only
  refine Keeps.choice (fun h0 => ?_) (fun h0 => ?_)
  · exact (Block.readEffect_keeps (s.up rfl) h)
  · exact (Block.readEffect_keeps (s.up rfl) (Block.readEffect_keeps (s.up rfl) h))

theorem Block.leftRun_keeps {F : Nat} {a : Block} {b p' cause peer lost} (s : sub 15561065953920 F) (h : Keeps F a b) :
    Keeps F a (Block.leftRun b p' cause peer lost) := by
  unfold Block.leftRun
  extract_lets z0 z1 z2 z3 z4
  have h5 : Keeps F a z0 := by
    subst z0
    exact (Block.cinderRec_keeps (s.up rfl) h)
  have h6 : Keeps F a z1 := by
    subst z1
    refine Keeps.choice (fun h7 => ?_) (fun h7 => ?_)
    · exact (Block.setField_keeps (s.up rfl) h5)
    · exact h5
  have h8 : Keeps F a z2 := by
    subst z2
    exact (Block.event_keeps (s.up rfl) h6)
  have h9 : Keeps F a z4 := by
    subst z4
    refine Keeps.choice (fun h10 => ?_) (fun h10 => ?_)
    · refine Block.setLock_keeps (s.up rfl) ?_
      exact Keeps.upd (m := 17179869184) h8 (s.up rfl) (by intro p; cases p <;> first | exact .inl rfl | (right; simp only [Part.same, and_self]))
    · exact h8
  exact (Block.noteLink_keeps (s.up rfl) h9)

theorem Block.toState_keeps {F : Nat} {a : Block} {b p' st cause} (s : sub 15561065953920 F) (h : Keeps F a b) :
    Keeps F a (Block.toState b p' st cause) := by
  unfold Block.toState
  extract_lets z0 z1 z2 z3 z4 z5 z6 z7 z8
  have h9 : Keeps F a z5 := by
    subst z5
    exact (Block.setPort_keeps (s.up rfl) h)
  have h10 : Keeps F a z6 := by
    subst z6
    refine Keeps.choice (fun h11 => ?_) (fun h11 => ?_)
    · exact (Block.setField_keeps (s.up rfl) h9)
    · exact h9
  have h12 : Keeps F a z7 := by
    subst z7
    refine Keeps.choice (fun h13 => ?_) (fun h13 => ?_)
    · exact h10
    · exact (Block.setReg_keeps (s.up rfl) h10)
  have h14 : Keeps F a z8 := by
    subst z8
    refine Keeps.choice (fun h15 => ?_) (fun h15 => ?_)
    · exact (Block.setReg_keeps (s.up rfl) h12)
    · exact h12
  refine Keeps.choice (fun h16 => ?_) (fun h16 => ?_)
  · exact (Block.leftRun_keeps (s.up rfl) h14)
  · exact h14

theorem Block.isolate_keeps {F : Nat} {a : Block} {b p' cause} (s : sub 15561065953920 F) (h : Keeps F a b) :
    Keeps F a (Block.isolate b p' cause) := by
  unfold Block.isolate
  exact (Block.toState_keeps (s.up rfl) h)

theorem Block.attemptFails_keeps {F : Nat} {a : Block} {b p'} (s : sub 15561065953920 F) (h : Keeps F a b) :
    Keeps F a (Block.attemptFails b p') := by
  unfold Block.attemptFails
  extract_lets z0 z1 z2 z3
  have h4 : Keeps F a z3 := by
    subst z3
    exact (Block.setPort_keeps (s.up rfl) h)
  refine Keeps.choice (fun h5 => ?_) (fun h5 => ?_)
  · exact (Block.isolate_keeps (s.up rfl) h4)
  · exact h4

theorem Block.takePins_keeps {F : Nat} {a : Block} {b ids} (s : sub 33554432 F) (h : Keeps F a b) :
    Keeps F a (Block.takePins b ids) := by
  unfold Block.takePins
  exact Keeps.upd (m := 33554432) h (s.up rfl) (by intro p; cases p <;> first | exact .inl rfl | (right; simp only [Part.same, and_self]))

theorem Block.undoEnd_keeps {F : Nat} {a : Block} {b c} (s : sub 2199073611776 F) (h : Keeps F a b) :
    Keeps F a (Block.undoEnd b c) := by
  unfold Block.undoEnd
  split
  · rename_i y0 y1 y2 y3 y4 y5
    exact (Block.dropLoadOf_keeps (s.up rfl) h)
  · rename_i y6 y7 y8 y9 y10 y11 y12
    exact (Block.dropLoadOf_keeps (s.up rfl) h)
  · rename_i y13 y14 y15 y16
    exact (Block.takePins_keeps (s.up rfl) h)
  · rename_i y17 y18 y19 y20 y21
    exact (Block.takePins_keeps (s.up rfl) h)
  · rename_i y22 y23 y24 y25 y26
    extract_lets z27 z28
    exact (Block.setHarness_keeps (s.up rfl) h)
  · rename_i y29 y30 y31 y32 y33 y34
    exact h

theorem Block.endStalled_keeps {F : Nat} {a : Block} {b c} (s : sub 2199149109248 F) (h : Keeps F a b) :
    Keeps F a (Block.endStalled b c) := by
  unfold Block.endStalled
  refine Block.restatus_keeps (s.up rfl) ?_
  refine Block.endCmd_keeps (s.up rfl) ?_
  refine Keeps.choice (fun h0 => ?_) (fun h0 => ?_)
  · exact (Block.undoEnd_keeps (s.up rfl) h)
  · exact h

theorem Block.ccTaken_keeps {F : Nat} {a : Block} {b line a'} (s : sub 4295229568 F) (h : Keeps F a b) :
    Keeps F a (Block.ccTaken b line a') := by
  unfold Block.ccTaken
  exact (Block.ccGo_keeps (s.up rfl) (Block.ccEnd_keeps (s.up rfl) (Block.modTxn_keeps (s.up rfl) h)))

theorem Block.leaveDomain_keeps {F : Nat} {a : Block} {b a' lose} (s : sub 4295229568 F) (h : Keeps F a b) :
    Keeps F a (Block.leaveDomain b a' lose) := by
  unfold Block.leaveDomain
  extract_lets z0 z1 z2 z3 z4 z5 z6 z7 z8 z9
  have h10 : Keeps F a z1 := by
    subst z1
    exact (Block.ccMod_keeps (s.up rfl) h)
  have h11 : Keeps F a z2 := by
    subst z2
    refine Keeps.foldl (fun b x h => ?_) _ ?_
    · refine Block.dropHolder_keeps (s.up rfl) ?_
      exact h
    · exact h10
  have h12 : Keeps F a z4 := by
    subst z4
    exact (Block.ccMod_keeps (s.up rfl) h11)
  have h13 : Keeps F a z5 := by
    subst z5
    refine Keeps.foldl (fun b x h => ?_) _ ?_
    · refine Block.ccAnswer_keeps (s.up rfl) ?_
      exact h
    · exact h12
  subst z6
  have h14 : Keeps F a z8 := by
    subst z8
    refine Keeps.foldl (fun b x h => ?_) _ ?_
    · refine Keeps.choice (fun h15 => ?_) (fun h15 => ?_)
      · exact (Block.dropHolder_keeps (s.up rfl) h)
      · exact h
    · exact h13
  have h16 : Keeps F a z9 := by
    subst z9
    exact (Block.ccMod_keeps (s.up rfl) h14)
  refine Keeps.foldl (fun b x h => ?_) _ ?_
  · refine Block.ccTaken_keeps (s.up rfl) ?_
    exact h
  · exact h16

theorem Block.settleItem_keeps {F : Nat} {a : Block} {b c t} (s : sub 2199149273088 F) (h : Keeps F a b) :
    Keeps F a (Block.settleItem b c t) := by
  unfold Block.settleItem
  split
  · rename_i y0 y1
    exact h
  · rename_i y2 y3 y4
    split
    · rename_i y5 y6 y7
      split
      · rename_i y8 y9 y10
        refine Keeps.choice (fun h11 => ?_) (fun h11 => ?_)
        · exact (Block.modTask_keeps (s.up rfl) h)
        · exact h
      · rename_i y12 y13
        exact h
    · rename_i y14 y15
      exact (Block.settleTask_keeps (s.up rfl) h)

theorem Block.resetEng_keeps {F : Nat} {a : Block} {b e} (s : sub 2203444502656 F) (h : Keeps F a b) :
    Keeps F a (Block.resetEng b e) := by
  unfold Block.resetEng
  extract_lets z0 z1 z2 z3 z4
  have h5 : Keeps F a z0 := by
    subst z0
    exact (Block.ungate_keeps (s.up rfl) (Block.dropEngWait_keeps (s.up rfl) h))
  have h6 : Keeps F a z1 := by
    subst z1
    refine Keeps.choice (fun h7 => ?_) (fun h7 => ?_)
    · exact (Block.leaveDomain_keeps (s.up rfl) h5)
    · exact h5
  have h8 : Keeps F a z4 := by
    subst z4
    exact (Block.setEng_keeps (s.up rfl) h6)
  clear_value z4
  clear_value z3
  clear_value z2
  clear_value z1
  clear_value z0
  split
  · rename_i y9 y10
    exact h8
  · rename_i y11 y12 y13 y14
    exact (Block.settleCmd_keeps (s.up rfl) h8)
  · rename_i y15 y16 y17 y18
    exact (Block.settleItem_keeps (s.up rfl) h8)

theorem Block.takeHeartbeat_keeps {F : Nat} {a : Block} {b p' f} (s : sub 15561065953920 F) (h : Keeps F a b) :
    Keeps F a (Block.takeHeartbeat b p' f) := by
  unfold Block.takeHeartbeat
  extract_lets z0 z1 z2
  refine Keeps.choice (fun h3 => ?_) (fun h3 => ?_)
  · exact (Block.isolate_keeps (s.up rfl) h)
  · exact (Block.setPort_keeps (s.up rfl) h)

theorem Block.priDone_keeps {F : Nat} {a : Block} {b ctx page code} (s : sub 15544020301952 F) (h : Keeps F a b) :
    Keeps F a (Block.priDone b ctx page code) := by
  unfold Block.priDone
  split
  · rename_i y0 y1
    exact h
  · rename_i y2 y3 y4
    refine Keeps.choice (fun h5 => ?_) (fun h5 => ?_)
    · exact h
    · split
      · rename_i y6
        extract_lets z7 z8 z9
        have h10 : Keeps F a z9 := by
          subst z9
          exact Keeps.upd (m := 67108864) h (s.up rfl) (by intro p; cases p <;> first | exact .inl rfl | (right; simp only [Part.same, and_self]))
        exact (Block.settleFaults_keeps (s.up rfl) (Block.seekSource_keeps (s.up rfl) (Block.modFault_keeps (s.up rfl) h10)))
      · rename_i y11
        exact (Block.finishFault_keeps (s.up rfl) h)
      · rename_i y12
        exact (Block.finishFault_keeps (s.up rfl) (Block.setField_keeps (s.up rfl) h))

theorem Block.setMcore_keeps {F : Nat} {a : Block} {b k v} (s : sub 2147483648 F) (h : Keeps F a b) :
    Keeps F a (Block.setMcore b k v) := by
  unfold Block.setMcore
  exact Keeps.upd (m := 2147483648) h (s.up rfl) (by intro p; cases p <;> first | exact .inl rfl | (right; simp only [Part.same, and_self]))

theorem Block.startCore_keeps {F : Nat} {a : Block} {b c} (s : sub 3221291008 F) (h : Keeps F a b) :
    Keeps F a (Block.startCore b c) := by
  unfold Block.startCore
  exact (Block.setStamp_keeps (s.up rfl) (Block.setMcore_keeps (s.up rfl) (Block.mcMod_keeps (s.up rfl) h)))

theorem Block.read32_keeps {F : Nat} {a : Block} {b path a'} (s : sub 7696581422208 F) (h : Keeps F a b) :
    Keeps F a (Block.read32 b path a').2 := by
  unfold Block.read32
  dsimp -zeta only
  exact (Block.readEffect_keeps (s.up rfl) h)

theorem Block.toTrain_keeps {F : Nat} {a : Block} {b p' cause} (s : sub 15561065953920 F) (h : Keeps F a b) :
    Keeps F a (Block.toTrain b p' cause) := by
  unfold Block.toTrain
  exact (Block.toState_keeps (s.up rfl) h)

theorem Block.errReplayed_keeps {F : Nat} {a : Block} {b p' payload} (s : sub 8589934752 F) (h : Keeps F a b) :
    Keeps F a (Block.errReplayed b p' payload) := by
  unfold Block.errReplayed
  split
  · rename_i y0 y1 y2 y3
    have h4 := Keeps.snd y3 (Block.fresh_keeps (s.up rfl) h)
    refine Keeps.choice (fun h5 => ?_) (fun h5 => ?_)
    · exact (Block.errLate_keeps (s.up rfl) h4)
    · exact h4

theorem Block.replay_keeps {F : Nat} {a : Block} {b p'} (s : sub 15561065953952 F) (h : Keeps F a b) :
    Keeps F a (Block.replay b p') := by
  unfold Block.replay
  extract_lets z0 z1 z2 z3
  have h4 : Keeps F a z3 := by
    subst z3
    exact (Block.setPort_keeps (s.up rfl) h)
  refine Keeps.choice (fun h5 => ?_) (fun h5 => ?_)
  · exact h
  · refine Keeps.choice (fun h6 => ?_) (fun h6 => ?_)
    · exact (Block.toTrain_keeps (s.up rfl) h)
    · refine Keeps.foldl (fun b x h => ?_) _ ?_
      · refine Block.errReplayed_keeps (s.up rfl) ?_
        exact h
      · exact (Block.count32_keeps (s.up rfl) h4)

theorem Block.bumpEpoch_keeps {F : Nat} {a : Block} {b} (s : sub 98432 F) (h : Keeps F a b) :
    Keeps F a (Block.bumpEpoch b) := by
  unfold Block.bumpEpoch
  extract_lets z0 z1 z2 z3 z4 z5
  have h6 : Keeps F a z3 := by
    subst z3
    exact (Block.setReg_keeps (s.up rfl) h)
  have h7 : Keeps F a z4 := by
    subst z4
    refine Keeps.foldl (fun b x h => ?_) _ ?_
    · extract_lets z8
      refine Keeps.choice (fun h9 => ?_) (fun h9 => ?_)
      · exact (Block.setEng_keeps (s.up rfl) h)
      · refine Keeps.choice (fun h10 => ?_) (fun h10 => ?_)
        · exact (Block.setEng_keeps (s.up rfl) h)
        · exact h
    · exact h6
  have h11 : Keeps F a z5 := by
    subst z5
    refine Keeps.foldl (fun b x h => ?_) _ ?_
    · refine Keeps.choice (fun h12 => ?_) (fun h12 => ?_)
      · exact (Block.setStamp_keeps (s.up rfl) h)
      · refine Keeps.choice (fun h13 => ?_) (fun h13 => ?_)
        · exact (Block.setStamp_keeps (s.up rfl) h)
        · exact h
    · exact h7
  refine Keeps.foldl (fun b x h => ?_) _ ?_
  · refine Keeps.choice (fun h14 => ?_) (fun h14 => ?_)
    · exact (Block.setStamp_keeps (s.up rfl) h)
    · refine Keeps.choice (fun h15 => ?_) (fun h15 => ?_)
      · exact (Block.setStamp_keeps (s.up rfl) h)
      · exact h
  · exact h11

theorem Block.tryInvRange_keeps {F : Nat} {a : Block} {b c ctx va len ids} (s : sub 15544020367488 F) (h : Keeps F a b) :
    Keeps F a (Block.tryInvRange b c ctx va len ids) := by
  unfold Block.tryInvRange
  refine Keeps.choice (fun h0 => ?_) (fun h0 => ?_)
  · exact h
  · extract_lets z1 z2
    have h3 : Keeps F a z1 := by
      subst z1
      exact (Block.dropRange_keeps (s.up rfl) h)
    have h4 : Keeps F a z2 := by
      subst z2
      refine Keeps.foldl (fun b x h => ?_) _ ?_
      · refine Block.demote_keeps (s.up rfl) ?_
        exact h
      · exact h3
    refine Keeps.choice (fun h5 => ?_) (fun h5 => ?_)
    · exact h4
    · exact (Block.endCmd_keeps (s.up rfl) (Block.bumpEpoch_keeps (s.up rfl) (Block.takePins_keeps (s.up rfl) h4)))

theorem Block.mapOut_keeps {F : Nat} {a : Block} {b s' ch} (s : sub 13752890034816 F) (h : Keeps F a b) :
    Keeps F a (Block.mapOut b s' ch) := by
  unfold Block.mapOut
  extract_lets z0 z1 z2 z3 z4 z5 z6
  have h7 : Keeps F a z0 := by
    subst z0
    exact (Block.retireInst_keeps (s.up rfl) h)
  have h8 : Keeps F a z1 := by
    subst z1
    exact Keeps.upd (m := 2097152) h7 (s.up rfl) (by intro p; cases p <;> first | exact .inl rfl | (right; simp only [Part.same, and_self]))
  have h9 : Keeps F a z2 := by
    subst z2
    exact (Block.poolEvent_keeps (s.up rfl) (Block.setField_keeps (s.up rfl) h8))
  have h10 : Keeps F a z5 := by
    subst z5
    exact (Block.setPool_keeps (s.up rfl) h9)
  have h11 : Keeps F a z6 := by
    subst z6
    exact (Block.ledgerTerm_keeps (s.up rfl) h10)
  exact (Block.changeCaps_keeps (s.up rfl) h11)

theorem Block.dropLine_keeps {F : Nat} {a : Block} {b a' line} (s : sub 4294967296 F) (h : Keeps F a b) :
    Keeps F a (Block.dropLine b a' line) := by
  unfold Block.dropLine
  exact (Block.ccMod_keeps (s.up rfl) h)

theorem Block.ccEvict_keeps {F : Nat} {a : Block} {b m'} (s : sub 4295229568 F) (h : Keeps F a b) :
    Keeps F a (Block.ccEvict b m') := by
  unfold Block.ccEvict
  extract_lets z0 z1 z2 z3
  have h4 : Keeps F a z0 := by
    subst z0
    exact (Block.dropLine_keeps (s.up rfl) h)
  have h5 : Keeps F a z1 := by
    subst z1
    exact (Block.dropHolder_keeps (s.up rfl) h4)
  have h6 : Keeps F a z2 := by
    subst z2
    refine Keeps.choice (fun h7 => ?_) (fun h7 => ?_)
    · exact (Block.putLine_keeps (s.up rfl) h5)
    · exact h5
  have h8 : Keeps F a z3 := by
    subst z3
    exact (Block.ccSend_keeps (s.up rfl) h6)
  clear_value z3
  clear_value z2
  clear_value z1
  clear_value z0
  split
  · rename_i y9 y10 y11
    refine Keeps.choice (fun h12 => ?_) (fun h12 => ?_)
    · exact (Block.ccAnswer_keeps (s.up rfl) h8)
    · exact (Block.ccRequest_keeps (s.up rfl) h4)
  · rename_i y13 y14
    exact (Block.ccRequest_keeps (s.up rfl) h4)

theorem Block.appendSig_keeps {F : Nat} {a : Block} {b path v} (s : sub 1073744000 F) (h : Keeps F a b) :
    Keeps F a (Block.appendSig b path v) := by
  unfold Block.appendSig
  refine Keeps.choice (fun h0 => ?_) (fun h0 => ?_)
  · exact (Block.pageErr_keeps (s.up rfl) h)
  · exact (Block.mcMod_keeps (s.up rfl) h)

theorem modeWrite_keeps {F : Nat} {a : Block} {x0 x1 x2 x3} (s : sub 6272 F) (h : Keeps F a x0) :
    Keeps F a (modeWrite x0 x1 x2 x3) := by
  unfold modeWrite
  extract_lets z0 z1
  refine Keeps.choice (fun h2 => ?_) (fun h2 => ?_)
  · exact (Block.setCtx_keeps (s.up rfl) h)
  · exact (Block.pageErr_keeps (s.up rfl) h)

theorem Block.openKq0_keeps {F : Nat} {a : Block} {b} (s : sub 12288 F) (h : Keeps F a b) :
    Keeps F a (Block.openKq0 b) := by
  unfold Block.openKq0
  extract_lets z0 z1 z2
  have h3 : Keeps F a z2 := by
    subst z2
    exact (Block.setCtx_keeps (s.up rfl) h)
  exact (Block.setQueue_keeps (s.up rfl) h3)

theorem Block.setWord48_keeps {F : Nat} {a : Block} {b core a' v} (s : sub 2147483648 F) (h : Keeps F a b) :
    Keeps F a (Block.setWord48 b core a' v) := by
  unfold Block.setWord48
  exact Keeps.upd (m := 2147483648) h (s.up rfl) (by intro p; cases p <;> first | exact .inl rfl | (right; simp only [Part.same, and_self]))

theorem Block.setBound_keeps {F : Nat} {a : Block} {b k v} (s : sub 4194304 F) (h : Keeps F a b) :
    Keeps F a (Block.setBound b k v) := by
  unfold Block.setBound
  exact Keeps.upd (m := 4194304) h (s.up rfl) (by intro p; cases p <;> first | exact .inl rfl | (right; simp only [Part.same, and_self]))

theorem Block.checkBound_keeps {F : Nat} {a : Block} {b k} (s : sub 4196480 F) (h : Keeps F a b) :
    Keeps F a (Block.checkBound b k) := by
  unfold Block.checkBound
  extract_lets z0 z1 z2 z3 z4 z5 z6
  have h7 : Keeps F a z6 := by
    subst z6
    exact (Block.setBound_keeps (s.up rfl) h)
  refine Keeps.choice (fun h8 => ?_) (fun h8 => ?_)
  · exact h
  · refine Keeps.choice (fun h9 => ?_) (fun h9 => ?_)
    · exact (Block.event_keeps (s.up rfl) h7)
    · exact h7

theorem Block.checkBounds_keeps {F : Nat} {a : Block} {b ss} (s : sub 4196480 F) (h : Keeps F a b) :
    Keeps F a (Block.checkBounds b ss) := by
  unfold Block.checkBounds
  refine Keeps.foldl (fun b x h => ?_) _ ?_
  · refine Block.checkBound_keeps (s.up rfl) ?_
    exact h
  · exact h

theorem Block.wakeEngs_keeps {F : Nat} {a : Block} {b es} (s : sub 32768 F) (h : Keeps F a b) :
    Keeps F a (Block.wakeEngs b es) := by
  unfold Block.wakeEngs
  extract_lets z0 z1 z2 z3
  have h4 : Keeps F a z3 := by
    subst z3
    refine Keeps.foldl (fun b x h => ?_) _ ?_
    · refine Block.setEng_keeps (s.up rfl) ?_
      exact h
    · exact h
  exact Keeps.upd (m := 32768) h4 (s.up rfl) (by intro p; cases p <;> first | exact .inl rfl | (right; simp only [Part.same, and_self]))

theorem Block.wakeOne_keeps {F : Nat} {a : Block} {b value w} (s : sub 8560640 F) (h : Keeps F a b) :
    Keeps F a (Block.wakeOne b value w) := by
  unfold Block.wakeOne
  extract_lets z0 z1 z2
  have h3 : Keeps F a z1 := by
    subst z1
    clear_value z2
    clear_value z0
    split
    · rename_i y4 y5 y6 y7 y8
      exact (Block.progress_keeps (s.up rfl) h)
    · rename_i y9 y10 y11
      exact (Block.progressEng_keeps (s.up rfl) h)
    · rename_i y12 y13 y14 y15
      exact h
  have h16 : Keeps F a z2 := by
    subst z2
    exact Keeps.upd (m := 8388608) h3 (s.up rfl) (by intro p; cases p <;> first | exact .inl rfl | (right; simp only [Part.same, and_self]))
  refine Keeps.choice (fun h17 => ?_) (fun h17 => ?_)
  · clear_value z2
    clear_value z1
    clear_value z0
    split
    · rename_i y18 y19 y20 y21 y22
      exact h16
    · rename_i y23 y24 y25
      exact (Block.setEng_keeps (s.up rfl) h16)
    · rename_i y26 y27 y28 y29
      refine Keeps.foldl (fun b x h => ?_) _ ?_
      · refine Block.setEng_keeps (s.up rfl) ?_
        exact h
      · exact h16
  · exact h3

theorem Block.evalWaiters_keeps {F : Nat} {a : Block} {b s'} (s : sub 8560640 F) (h : Keeps F a b) :
    Keeps F a (Block.evalWaiters b s') := by
  unfold Block.evalWaiters
  extract_lets z0 z1 z2
  refine Block.wakeEngs_keeps (s.up rfl) ?_
  refine Keeps.foldl (fun b x h => ?_) _ ?_
  · refine Block.wakeOne_keeps (s.up rfl) ?_
    exact h
  · exact h

theorem Block.settleWicks_keeps {F : Nat} {a : Block} {b old ss} (s : sub 12757120 F) (h : Keeps F a b) (h1 : Keeps F a old) :
    Keeps F a (Block.settleWicks b old ss) := by
  unfold Block.settleWicks
  extract_lets z0
  refine Block.fixDeadlines_keeps (s.up rfl) ?_
  refine Block.checkBounds_keeps (s.up rfl) ?_
  refine Keeps.foldl (fun b x h => ?_) _ ?_
  · refine Block.evalWaiters_keeps (s.up rfl) ?_
    exact h
  · exact h

theorem Block.fabricDrop_keeps {F : Nat} {a : Block} {b cause target} (s : sub 268435584 F) (h : Keeps F a b) :
    Keeps F a (Block.fabricDrop b cause target) := by
  unfold Block.fabricDrop
  extract_lets z0
  have h1 : Keeps F a z0 := by
    subst z0
    exact (Block.ledgerTerm_keeps (s.up rfl) h)
  exact (Block.setReg_keeps (s.up rfl) (Block.count32_keeps (s.up rfl) h1))

theorem Block.recvWick_keeps {F : Nat} {a : Block} {b token v} (s : sub 13477888583808 F) (h : Keeps F a b) :
    Keeps F a (Block.recvWick b token v) := by
  unfold Block.recvWick
  extract_lets z0 z1 z2
  have h3 : Keeps F a z0 := by
    subst z0
    exact (Block.count32_keeps (s.up rfl) h)
  clear_value z2
  clear_value z1
  clear_value z0
  split
  · rename_i y4 y5 y6
    refine Block.settleWicks_keeps (s.up rfl) ?_ ?_
    · exact (Block.sigSlot_keeps (s.up rfl) h3)
    · exact h3
  · rename_i y7 y8
    exact (Block.fabricDrop_keeps (s.up rfl) h3)

theorem Block.bindTask_keeps {F : Nat} {a : Block} {b c id l ring wick log2} (s : sub 16643531929728 F) (h : Keeps F a b) :
    Keeps F a (Block.bindTask b c id l ring wick log2) := by
  unfold Block.bindTask
  extract_lets z0 z1 z2 z3
  subst z0
  have h4 : Keeps F a z2 := by
    subst z2
    refine Keeps.foldl (fun b x h => ?_) _ ?_
    · refine Block.setEng_keeps (s.up rfl) ?_
      exact h
    · exact h
  have h5 : Keeps F a z3 := by
    subst z3
    exact (Block.profStart_keeps (s.up rfl) h4)
  refine Keeps.choice (fun h6 => ?_) (fun h6 => ?_)
  · dsimp -zeta only
    exact (Block.endCmd_keeps (s.up rfl) (Block.modCmd_keeps (s.up rfl) (Block.releaseEngs_keeps (s.up rfl) h)))
  · refine Keeps.choice (fun h7 => ?_) (fun h7 => ?_)
    · dsimp -zeta only
      exact (Block.endCmd_keeps (s.up rfl) (Block.modCmd_keeps (s.up rfl) (Block.releaseEngs_keeps (s.up rfl) h)))
    · clear_value z3
      clear_value z2
      clear_value z1
      split
      · rename_i y8 y9
        dsimp -zeta only
        exact (Block.endCmd_keeps (s.up rfl) (Block.modCmd_keeps (s.up rfl) (Block.releaseEngs_keeps (s.up rfl) h)))
      · rename_i y10 y11 y12
        split
        · rename_i y13 y14 y15
          extract_lets z16 z17 z18
          have h19 : Keeps F a z17 := by
            subst z17
            exact Keeps.upd (m := 131072) h5 (s.up rfl) (by intro p; cases p <;> first | exact .inl rfl | (right; simp only [Part.same, and_self]))
          have h20 : Keeps F a z18 := by
            subst z18
            exact (Block.modCmd_keeps (s.up rfl) h19)
          exact (Block.waitItem_keeps (s.up rfl) (Block.endCmd_keeps (s.up rfl) h20))
        · rename_i y21 y22 y23
          dsimp -zeta only
          exact (Block.endCmd_keeps (s.up rfl) (Block.modCmd_keeps (s.up rfl) (Block.releaseEngs_keeps (s.up rfl) h)))
        · rename_i y24 y25 y26 y27
          refine Block.poisonCmd_keeps (s.up rfl) ?_
          dsimp -zeta only
          exact (Block.endCmd_keeps (s.up rfl) (Block.modCmd_keeps (s.up rfl) (Block.releaseEngs_keeps (s.up rfl) h)))
        · rename_i y28 y29 y30 y31
          exact (Block.meet_keeps (s.up rfl) h)

theorem Block.placeOne_keeps {F : Nat} {a : Block} {b c} (s : sub 16643531929728 F) (h : Keeps F a b) :
    Keeps F a (Block.placeOne b c) := by
  unfold Block.placeOne
  refine Keeps.choice (fun h0 => ?_) (fun h0 => ?_)
  · exact h
  · split
    · rename_i y1 y2 y3 y4 y5 y6 y7
      exact (Block.bindTask_keeps (s.up rfl) h)
    · rename_i y8 y9
      split
      · rename_i y10 y11 y12
        exact (Block.startLaunch_keeps (s.up rfl) h)
      · rename_i y13 y14
        extract_lets z15
        have h16 : Keeps F a z15 := by
          subst z15
          refine Keeps.foldl (fun b x h => ?_) _ ?_
          · refine Block.setEng_keeps (s.up rfl) ?_
            exact h
          · exact h
        exact (Block.fixDeadlines_keeps (s.up rfl) (Block.modCmd_keeps (s.up rfl) h16))

theorem Block.placeHeld_keeps {F : Nat} {a : Block} {b h'} (s : sub 16643531929728 F) (h : Keeps F a b) :
    Keeps F a (Block.placeHeld b h') := by
  unfold Block.placeHeld
  refine Keeps.foldl (fun b x h => ?_) _ ?_
  · split
    · rename_i y0 y1 y2
      exact (Block.placeOne_keeps (s.up rfl) h)
    · rename_i y3 y4
      exact h
  · exact h

theorem Block.reserve_keeps {F : Nat} {a : Block} {b c es} (s : sub 57344 F) (h : Keeps F a b) :
    Keeps F a (Block.reserve b c es) := by
  unfold Block.reserve
  extract_lets z0
  have h1 : Keeps F a z0 := by
    subst z0
    refine Keeps.foldl (fun b x h => ?_) _ ?_
    · refine Block.setEng_keeps (s.up rfl) ?_
      exact h
    · exact h
  exact (Block.modCmd_keeps (s.up rfl) (Block.dropPlacing_keeps (s.up rfl) h1))

theorem Block.placeN_keeps {F : Nat} {a : Block} {k : Nat} (s : sub 16643531929728 F) : ∀ {n : Nat} {b : Block}, Keeps F a b → Keeps F a (Block.placeN k n b)
  | 0, _, h => h
  | n + 1, b, h => by
    unfold Block.placeN
    split
    · exact h
    · split
      · exact Block.placeN_keeps s (Block.dropPlacing_keeps (s.up rfl) h)
      · split
        · exact Block.placeN_keeps s (Block.endCmd_keeps (s.up rfl) h)
        · split
          · exact h
          · rename_i c _ _ _ _ es _
            have hr : Keeps F a (b.reserve c es) := Block.reserve_keeps (s.up rfl) h
            refine Block.placeN_keeps s ?_
            split
            · exact Block.placeOne_keeps (s.up rfl) hr
            · exact hr

theorem Block.placeAll_keeps {F : Nat} {a : Block} {b h'} (s : sub 16643531929728 F) (h : Keeps F a b) :
    Keeps F a (Block.placeAll b h') := by
  unfold Block.placeAll
  refine Keeps.choice (fun h0 => ?_) (fun h0 => ?_)
  · extract_lets z1
    have h2 : Keeps F a z1 := by
      subst z1
      exact (Block.placeHeld_keeps (s.up rfl) h)
    exact (Block.placeN_keeps (s.up rfl) h2)
  · exact h

theorem Block.dropEngine_keeps {F : Nat} {a : Block} {b e} (s : sub 13756780546176 F) (h : Keeps F a b) :
    Keeps F a (Block.dropEngine b e) := by
  unfold Block.dropEngine
  extract_lets z0 z1 z2
  have h3 : Keeps F a z0 := by
    subst z0
    exact (Block.ungate_keeps (s.up rfl) h)
  have h4 : Keeps F a z1 := by
    subst z1
    refine Keeps.choice (fun h5 => ?_) (fun h5 => ?_)
    · exact (Block.leaveDomain_keeps (s.up rfl) h3)
    · exact h3
  exact (Block.retireInst_keeps (s.up rfl) (Block.setEng_keeps (s.up rfl) h4))

theorem Block.recheckWaits_keeps {F : Nat} {a : Block} {b h'} (s : sub 92299264 F) (h : Keeps F a b) :
    Keeps F a (Block.recheckWaits b h') := by
  unfold Block.recheckWaits
  refine Keeps.foldl (fun b x h => ?_) _ ?_
  · split
    · rename_i y0 y1 y2
      refine Keeps.choice (fun h3 => ?_) (fun h3 => ?_)
      · exact (Block.endCmd_keeps (s.up rfl) h)
      · exact h
    · rename_i y4 y5
      exact h
  · exact h

theorem Block.loseEngine_keeps {F : Nat} {a : Block} {b e} (s : sub 17193287744128 F) (h : Keeps F a b) :
    Keeps F a (Block.loseEngine b e) := by
  unfold Block.loseEngine
  extract_lets z0 z1 z2 z3
  have h4 : Keeps F a z1 := by
    subst z1
    exact (Block.dropEngine_keeps (s.up rfl) h)
  have h5 : Keeps F a z2 := by
    subst z2
    exact (Block.mapCmds_keeps (s.up rfl) h4)
  have h6 : Keeps F a z3 := by
    subst z3
    clear_value z2
    clear_value z1
    clear_value z0
    split
    · rename_i y7 y8
      exact (Block.placeAll_keeps (s.up rfl) (Block.recheckWaits_keeps (s.up rfl) (Block.setHarness_keeps (s.up rfl) h5)))
    · rename_i y9
      exact h5
  exact (Block.changeCaps_keeps (s.up rfl) (Block.settleGrow_keeps (s.up rfl) h6))

theorem Block.noSpareLeft_keeps {F : Nat} {a : Block} {b} (s : sub 1073744008 F) (h : Keeps F a b) :
    Keeps F a (Block.noSpareLeft b) := by
  unfold Block.noSpareLeft
  extract_lets z0
  have h1 : Keeps F a z0 := by
    subst z0
    exact (Block.event_keeps (s.up rfl) (Block.mcMod_keeps (s.up rfl) h))
  refine Keeps.choice (fun h2 => ?_) (fun h2 => ?_)
  · refine Block.event_keeps (s.up rfl) ?_
    exact Keeps.upd (m := 8) h1 (s.up rfl) (by intro p; cases p <;> first | exact .inl rfl | (right; simp only [Part.same, and_self]))
  · exact h1

theorem Block.takeOver_keeps {F : Nat} {a : Block} {b k} (s : sub 13755706575496 F) (h : Keeps F a b) :
    Keeps F a (Block.takeOver b k) := by
  unfold Block.takeOver
  extract_lets z0 z1 z2
  have h3 : Keeps F a z2 := by
    subst z2
    exact (Block.setMcore_keeps (s.up rfl) (Block.retireInst_keeps (s.up rfl) h))
  refine Keeps.choice (fun h4 => ?_) (fun h4 => ?_)
  · exact h3
  · clear_value z2
    clear_value z1
    clear_value z0
    split
    · rename_i y5 y6
      exact (Block.startCore_keeps (s.up rfl) (Block.enterSpare_keeps (s.up rfl) h3))
    · rename_i y7
      exact (Block.noSpareLeft_keeps (s.up rfl) h3)

theorem Block.setArms_keeps {F : Nat} {a : Block} {b pg v} (s : sub 256 F) (h : Keeps F a b) :
    Keeps F a (Block.setArms b pg v) := by
  unfold Block.setArms
  exact Keeps.upd (m := 256) h (s.up rfl) (by intro p; cases p <;> first | exact .inl rfl | (right; simp only [Part.same, and_self]))

theorem Block.ueEvent_keeps {F : Nat} {a : Block} {b pg kind x3} (s : sub 13202729470336 F) (h : Keeps F a b) :
    Keeps F a (Block.ueEvent b pg kind x3) := by
  unfold Block.ueEvent
  extract_lets z0 z1 z2 z3
  have h4 : Keeps F a z1 := by
    subst z1
    exact (Block.setArms_keeps (s.up rfl) h)
  have h5 : Keeps F a z2 := by
    subst z2
    exact (Block.count32_keeps (s.up rfl) h4)
  have h6 : Keeps F a z3 := by
    subst z3
    exact (Block.cinderRec_keeps (s.up rfl) h5)
  exact (Block.raiseBit_keeps (s.up rfl) h6)

theorem Block.storageUe_keeps {F : Nat} {a : Block} {b kind x2} (s : sub 13752485284224 F) (h : Keeps F a b) :
    Keeps F a (Block.storageUe b kind x2) := by
  unfold Block.storageUe
  extract_lets z0 z1
  have h2 : Keeps F a z1 := by
    subst z1
    exact (Block.setWear_keeps (s.up rfl) h)
  clear_value z1
  clear_value z0
  split
  · rename_i y3 y4 y5
    exact (Block.ueEvent_keeps (s.up rfl) h2)
  · rename_i y6 y7
    exact (Block.cinderRec_keeps (s.up rfl) h2)

theorem Block.ccDown_keeps {F : Nat} {a : Block} {b cause agent} (s : sub 5368709248 F) (h : Keeps F a b) :
    Keeps F a (Block.ccDown b cause agent) := by
  unfold Block.ccDown
  extract_lets z0 z1 z2 z3
  have h4 : Keeps F a z1 := by
    subst z1
    exact (Block.setReg_keeps (s.up rfl) h)
  have h5 : Keeps F a z2 := by
    subst z2
    exact (Block.ccMod_keeps (s.up rfl) h4)
  clear_value z3
  clear_value z2
  clear_value z1
  clear_value z0
  split
  · rename_i y6 y7 y8
    refine Block.setReg_keeps (s.up rfl) ?_
    exact Keeps.upd (m := 1073741824) h5 (s.up rfl) (by intro p; cases p <;> first | exact .inl rfl | (right; simp only [Part.same, and_self]))
  · rename_i y9 y10
    exact h5

theorem Block.mwFail_keeps {F : Nat} {a : Block} {b k} (s : sub 13760001543048 F) (h : Keeps F a b) :
    Keeps F a (Block.mwFail b k) := by
  unfold Block.mwFail
  exact (Block.takeOver_keeps (s.up rfl) (Block.storageUe_keeps (s.up rfl) (Block.ccDown_keeps (s.up rfl) h)))

theorem Block.toHal_keeps {F : Nat} {a : Block} {b c} (s : sub 16643531929728 F) (h : Keeps F a b) :
    Keeps F a (Block.toHal b c) := by
  unfold Block.toHal
  split
  · rename_i y0 y1
    exact (Block.endCmd_keeps (s.up rfl) h)
  · rename_i y2 y3 y4
    extract_lets z5
    have h6 : Keeps F a z5 := by
      subst z5
      split
      · rename_i y7 y8
        exact (Block.enterPlacing_keeps (s.up rfl) h)
      · rename_i y9 y10
        exact h
    exact (Block.placeAll_keeps (s.up rfl) h6)

theorem Block.whenPlaced_keeps {F : Nat} {a : Block} {b c f} (s : sub 16643531929728 F) (h : Keeps F a b) (hf : ∀ v0, Keeps F a v0 → Keeps F a (f v0)) :
    Keeps F a (Block.whenPlaced b c f) := by
  unfold Block.whenPlaced
  refine Keeps.choice (fun h0 => ?_) (fun h0 => ?_)
  · split
    · rename_i y1 y2
      exact (Block.toHal_keeps (s.up rfl) h)
    · rename_i y3 y4
      exact h
    · rename_i y5 y6 y7
      apply hf
      exact h
  · apply hf
    exact h

theorem Block.reissue_keeps {F : Nat} {a : Block} {b} (s : sub 4295229440 F) (h : Keeps F a b) :
    Keeps F a (Block.reissue b) := by
  unfold Block.reissue
  extract_lets z0
  have h1 : Keeps F a z0 := by
    subst z0
    refine Keeps.foldl (fun b x h => ?_) _ ?_
    · extract_lets z2
      have h3 : Keeps F a z2 := by
        subst z2
        exact (Block.putLine_keeps (s.up rfl) h)
      refine Keeps.choice (fun h4 => ?_) (fun h4 => ?_)
      · exact (Block.ccMod_keeps (s.up rfl) h3)
      · exact h3
    · exact h
  exact (Block.ccMod_keeps (s.up rfl) h1)

theorem Block.signalOne_keeps {F : Nat} {a : Block} {b slot setmax v win} (s : sub 13477888583808 F) (h : Keeps F a b) :
    Keeps F a (Block.signalOne b slot setmax v win) := by
  unfold Block.signalOne
  refine Block.settleWicks_keeps (s.up rfl) ?_ ?_
  · exact (Block.sigSlot_keeps (s.up rfl) h)
  · exact h

theorem Block.dmaTouch_keeps {F : Nat} {a : Block} {b c space a' len} (s : sub 67174528 F) (h : Keeps F a b) :
    Keeps F a (Block.dmaTouch b c space a' len) := by
  unfold Block.dmaTouch
  refine Keeps.choice (fun h0 => ?_) (fun h0 => ?_)
  · exact (Block.touchRange_keeps (s.up rfl) h)
  · exact h

theorem Block.loseLock_keeps {F : Nat} {a : Block} {b} (s : sub 13203266340992 F) (h : Keeps F a b) :
    Keeps F a (Block.loseLock b) := by
  unfold Block.loseLock
  exact (Block.reselect_keeps (s.up rfl) (Block.modCad_keeps (s.up rfl) h))

theorem Block.stopTask_keeps {F : Nat} {a : Block} {b c all t} (s : sub 2199149273088 F) (h : Keeps F a b) :
    Keeps F a (Block.stopTask b c all t) := by
  unfold Block.stopTask
  extract_lets z0 z1 z2 z3 z4
  have h5 : Keeps F a z3 := by
    subst z3
    exact (Block.setRunning_keeps (s.up rfl) h)
  have h6 : Keeps F a z4 := by
    subst z4
    exact (Block.modTask_keeps (s.up rfl) h5)
  exact (Block.settleTask_keeps (s.up rfl) h6)

theorem petWrite_keeps {F : Nat} {a : Block} {x0 x1 x2 x3} (s : sub 34359740544 F) (h : Keeps F a x0) :
    Keeps F a (petWrite x0 x1 x2 x3) := by
  unfold petWrite
  refine Keeps.choice (fun h0 => ?_) (fun h0 => ?_)
  · exact Keeps.upd (m := 34359738368) h (s.up rfl) (by intro p; cases p <;> first | exact .inl rfl | (right; simp only [Part.same, and_self]))
  · exact (Block.pageErr_keeps (s.up rfl) h)

theorem Block.stopDrop_keeps {F : Nat} {a : Block} {b} (s : sub 128 F) (h : Keeps F a b) :
    Keeps F a (Block.stopDrop b) := by
  unfold Block.stopDrop
  exact (Block.count32_keeps (s.up rfl) h)

theorem Block.bndDisable_keeps {F : Nat} {a : Block} {b v} (s : sub 4194304 F) (h : Keeps F a b) :
    Keeps F a (Block.bndDisable b v) := by
  unfold Block.bndDisable
  exact (Block.setBound_keeps (s.up rfl) h)

theorem Block.dirtyData_keeps {F : Nat} {a b : Block} (s : sub 32 F) (h : Keeps F a b) : Keeps F a b.dirtyData.2 := by
  unfold Block.dirtyData
  have key : ∀ (l : List Nat) (x : BitVec 512 × Block), Keeps F a x.2 → Keeps F a (l.foldl (fun x k =>
      let y := x.2.fresh 64
      (x.1 ||| BitVec.ofNat 512 (y.1 * 2 ^ (64 * k)), y.2)) x).2 := by
    intro l
    induction l with
    | nil => exact fun _ h => h
    | cons k t ih => exact fun x h => ih _ (Block.fresh_keeps (w := 64) (s.up rfl) h)
  exact key _ _ h

theorem Block.ccSpill_keeps {F : Nat} {a : Block} {b line} (s : sub 262176 F) (h : Keeps F a b) :
    Keeps F a (Block.ccSpill b line) := by
  unfold Block.ccSpill
  extract_lets z0
  have h1 : Keeps F a z0.2 := by
    subst z0
    refine Block.dirtyData_keeps (s.up rfl) ?_
    exact h
  refine Block.putLine_keeps (s.up rfl) ?_
  exact h1

theorem Block.ccInvalidate_keeps {F : Nat} {a : Block} {b agent line} (s : sub 4295229472 F) (h : Keeps F a b) :
    Keeps F a (Block.ccInvalidate b agent line) := by
  unfold Block.ccInvalidate
  extract_lets z0
  have h1 : Keeps F a z0 := by
    subst z0
    refine Keeps.choice (fun h2 => ?_) (fun h2 => ?_)
    · exact (Block.ccSpill_keeps (s.up rfl) h)
    · exact h
  exact (Block.ccSend_keeps (s.up rfl) (Block.dropLine_keeps (s.up rfl) h1))

theorem Block.calm_keeps {F : Nat} {a : Block} {b} (s : sub 1073741824 F) (h : Keeps F a b) :
    Keeps F a (Block.calm b) := by
  unfold Block.calm
  extract_lets z0 z1 z2
  exact Keeps.upd (m := 1073741824) h (s.up rfl) (by intro p; cases p <;> first | exact .inl rfl | (right; simp only [Part.same, and_self]))

theorem Block.codeWrite_keeps {F : Nat} {a : Block} {b r a' v} (s : sub 128 F) (h : Keeps F a b) :
    Keeps F a (Block.codeWrite b r a' v) := by
  unfold Block.codeWrite
  extract_lets z0
  exact (Block.setReg_keeps (s.up rfl) h)

theorem plainWrite_keeps {F : Nat} {a : Block} {x0 x1 x2 x3} (s : sub 2176 F) (h : Keeps F a x0) :
    Keeps F a (plainWrite x0 x1 x2 x3) := by
  unfold plainWrite
  split
  · rename_i y0 y1 y2
    exact (Block.codeWrite_keeps (s.up rfl) h)
  · rename_i y3 y4
    exact (Block.pageErr_keeps (s.up rfl) h)

theorem roleWrite_keeps {F : Nat} {a : Block} {x0 x1 x2 x3} (s : sub 2178 F) (h : Keeps F a x0) :
    Keeps F a (roleWrite x0 x1 x2 x3) := by
  unfold roleWrite
  refine Keeps.choice (fun h0 => ?_) (fun h0 => ?_)
  · extract_lets z1
    have h2 : Keeps F a z1 := by
      subst z1
      exact (plainWrite_keeps (s.up rfl) h)
    exact Keeps.upd (m := 2) h2 (s.up rfl) (by intro p; cases p <;> first | exact .inl rfl | (right; simp only [Part.same, and_self]))
  · exact (Block.pageErr_keeps (s.up rfl) h)

theorem Block.cancelWork_keeps {F : Nat} {a : Block} {b e} (s : sub 2199149275264 F) (h : Keeps F a b) :
    Keeps F a (Block.cancelWork b e) := by
  unfold Block.cancelWork
  split
  · rename_i y0 y1
    exact h
  · rename_i y2 y3 y4 y5
    exact (Block.cancelCmd_keeps (s.up rfl) h)
  · rename_i y6 y7 y8 y9
    split
    · rename_i y10 y11
      exact h
    · rename_i y12 y13 y14
      split
      · rename_i y15 y16 y17
        refine Keeps.choice (fun h18 => ?_) (fun h18 => ?_)
        · exact (Block.modTask_keeps (s.up rfl) h)
        · exact (Block.cancelItem_keeps (s.up rfl) h)
      · rename_i y19 y20
        refine Keeps.choice (fun h21 => ?_) (fun h21 => ?_)
        · exact h
        · exact (Block.haltTask_keeps (s.up rfl) h)

theorem Block.tbCtlWrite_keeps {F : Nat} {a : Block} {b path v} (s : sub 1099511629952 F) (h : Keeps F a b) :
    Keeps F a (Block.tbCtlWrite b path v) := by
  unfold Block.tbCtlWrite
  extract_lets z0 z1
  refine Keeps.choice (fun h2 => ?_) (fun h2 => ?_)
  · exact (Block.pageErr_keeps (s.up rfl) h)
  · exact (Block.setTbuf_keeps (s.up rfl) h)

theorem Block.traceFault_keeps {F : Nat} {a : Block} {b k} (s : sub 1099511629952 F) (h : Keeps F a b) :
    Keeps F a (Block.traceFault b k) := by
  unfold Block.traceFault
  extract_lets z0
  exact (Block.event_keeps (s.up rfl) (Block.setTbuf_keeps (s.up rfl) h))

theorem Block.viaHome_keeps {F : Nat} {a : Block} {b ctx va n go} (s : sub 4295229568 F) (h : Keeps F a b) (h1 : Keeps F a go) :
    Keeps F a (Block.viaHome b ctx va n go) := by
  unfold Block.viaHome
  split
  · rename_i y0 y1 y2
    refine Keeps.choice (fun h3 => ?_) (fun h3 => ?_)
    · exact (Block.homeAsk_keeps (s.up rfl) h)
    · exact h1
  · rename_i y4 y5
    exact h1

theorem Block.traceWrite_keeps {F : Nat} {a : Block} {k : Nat} (s : sub 1241347000448 F) : ∀ {n : Nat} {b : Block}, Keeps F a b → Keeps F a (Block.traceWrite k n b)
  | 0, _, h => h
  | n + 1, b, h => by
    unfold Block.traceWrite
    extract_lets t
    split
    · exact h
    · split
      · split
        · rename_i e
          exact Block.traceWrite_keeps s (Block.setTbuf_keeps (s.up rfl) (Block.writeHome_keeps (s.up rfl) h e))
        · exact Block.traceFault_keeps (s.up rfl) h
        · exact Block.traceFault_keeps (s.up rfl) h
        · exact Block.askAts_keeps (s.up rfl) h
        · exact Block.viaHome_keeps (s.up rfl) h h
        · exact h
        · exact h
      · exact h

theorem Block.traceDma_keeps {F : Nat} {a : Block} {b k n} (s : sub 1241347000448 F) (h : Keeps F a b) :
    Keeps F a (Block.traceDma b k n) := by
  unfold Block.traceDma
  extract_lets z0 z1 z2
  have h3 : Keeps F a z1 := by
    subst z1
    exact (Block.traceWrite_keeps (s.up rfl) h)
  exact (Block.count_keeps (s.up rfl) h3)

theorem traceCtlWrite_keeps {F : Nat} {a : Block} {x0 x1 x2 x3} (s : sub 1241347000448 F) (h : Keeps F a x0) :
    Keeps F a (traceCtlWrite x0 x1 x2 x3) := by
  unfold traceCtlWrite
  extract_lets z0 z1 z2
  have h3 : Keeps F a z2 := by
    subst z2
    exact (Block.tbCtlWrite_keeps (s.up rfl) h)
  refine Keeps.choice (fun h4 => ?_) (fun h4 => ?_)
  · exact (Block.traceDma_keeps (s.up rfl) h3)
  · exact h3

theorem rateWrite_keeps {F : Nat} {a : Block} {x0 x1 x2 x3} (s : sub 8589934592 F) (h : Keeps F a x0) :
    Keeps F a (rateWrite x0 x1 x2 x3) := by
  unfold rateWrite
  extract_lets z0 z1
  refine Keeps.choice (fun h2 => ?_) (fun h2 => ?_)
  · exact h
  · exact (Block.modPort_keeps (s.up rfl) h)

theorem Block.writeCaps_keeps {F : Nat} {a : Block} {b} (s : sub 512 F) (h : Keeps F a b) :
    Keeps F a (Block.writeCaps b) := by
  unfold Block.writeCaps
  extract_lets z0
  have h1 : Keeps F a z0 := by
    subst z0
    exact Keeps.upd (m := 512) h (s.up rfl) (by intro p; cases p <;> first | exact .inl rfl | (right; simp only [Part.same, and_self]))
  exact Keeps.upd (m := 512) h1 (s.up rfl) (by intro p; cases p <;> first | exact .inl rfl | (right; simp only [Part.same, and_self]))

theorem Block.endOrder_keeps {F : Nat} {a : Block} {b} (s : sub 34359738496 F) (h : Keeps F a b) :
    Keeps F a (Block.endOrder b) := by
  unfold Block.endOrder
  split
  · rename_i y0 y1
    exact h
  · rename_i y2 y3 y4
    extract_lets z5
    refine Block.setReg_keeps (s.up rfl) ?_
    exact Keeps.upd (m := 34359738368) h (s.up rfl) (by intro p; cases p <;> first | exact .inl rfl | (right; simp only [Part.same, and_self]))

theorem Block.postCancelled_keeps {F : Nat} {a : Block} {b cs} (s : sub 8589934720 F) (h : Keeps F a b) :
    Keeps F a (Block.postCancelled b cs) := by
  unfold Block.postCancelled
  refine Keeps.foldl (fun b x h => ?_) _ ?_
  · refine Keeps.choice (fun h0 => ?_) (fun h0 => ?_)
    · exact (Block.postErr_keeps (s.up rfl) h)
    · exact h
  · exact h

theorem Block.l1Reset_keeps {F : Nat} {a : Block} {b e} (s : sub 2212034439296 F) (h : Keeps F a b) :
    Keeps F a (Block.l1Reset b e) := by
  unfold Block.l1Reset
  extract_lets z0 z1 z2
  have h3 : Keeps F a z1 := by
    subst z1
    exact (Block.count_keeps (s.up rfl) (Block.resetEng_keeps (s.up rfl) (Block.cancelWork_keeps (s.up rfl) h)))
  have h4 : Keeps F a z2 := by
    subst z2
    refine Keeps.choice (fun h5 => ?_) (fun h5 => ?_)
    · exact (Block.event_keeps (s.up rfl) h3)
    · refine Keeps.foldl (fun b x h => ?_) _ ?_
      · refine Block.event_keeps (s.up rfl) ?_
        exact h
      · exact h3
  exact (Block.postCancelled_keeps (s.up rfl) h4)

theorem Block.discardHeld_keeps {F : Nat} {a : Block} {b p'} (s : sub 274878169088 F) (h : Keeps F a b) :
    Keeps F a (Block.discardHeld b p') := by
  unfold Block.discardHeld
  extract_lets z0
  exact Keeps.upd (m := 274878169088) h (s.up rfl) (by intro p; cases p <;> first | exact .inl rfl | (right; simp only [Part.same, and_self]))

theorem Block.lightEngs_keeps {F : Nat} {a : Block} {b es} (s : sub 32768 F) (h : Keeps F a b) :
    Keeps F a (Block.lightEngs b es) := by
  unfold Block.lightEngs
  extract_lets z0 z1 z2
  exact Keeps.upd (m := 32768) h (s.up rfl) (by intro p; cases p <;> first | exact .inl rfl | (right; simp only [Part.same, and_self]))

theorem Block.l2Reset_keeps {F : Nat} {a : Block} {b h'} (s : sub 2486912411776 F) (h : Keeps F a b) :
    Keeps F a (Block.l2Reset b h') := by
  unfold Block.l2Reset
  extract_lets z0 z1 z2 z3 z4 z5 z6 z7 z8 z9
  have h10 : Keeps F a z3 := by
    subst z3
    exact (Block.setHarness_keeps (s.up rfl) h)
  have h11 : Keeps F a z4 := by
    subst z4
    refine Keeps.foldl (fun b x h => ?_) _ ?_
    · refine Block.cancelWork_keeps (s.up rfl) ?_
      exact h
    · exact h10
  have h12 : Keeps F a z5 := by
    subst z5
    refine Keeps.foldl (fun b x h => ?_) _ ?_
    · refine Block.resetEng_keeps (s.up rfl) ?_
      exact h
    · exact h11
  have h13 : Keeps F a z6 := by
    subst z6
    exact (Block.discardHeld_keeps (s.up rfl) h12)
  have h14 : Keeps F a z7 := by
    subst z7
    refine Keeps.foldl (fun b x h => ?_) _ ?_
    · refine Block.setEng_keeps (s.up rfl) ?_
      exact h
    · exact h13
  have h15 : Keeps F a z8 := by
    subst z8
    exact (Block.count_keeps (s.up rfl) (Block.bumpEpoch_keeps (s.up rfl) h14))
  have h16 : Keeps F a z9 := by
    subst z9
    refine Keeps.choice (fun h17 => ?_) (fun h17 => ?_)
    · exact h15
    · exact (Block.lightEngs_keeps (s.up rfl) h15)
  exact (Block.postCancelled_keeps (s.up rfl) h16)

theorem Block.resetLedger_keeps {F : Nat} {a : Block} {b cause} (s : sub 13202729468032 F) (h : Keeps F a b) :
    Keeps F a (Block.resetLedger b cause) := by
  unfold Block.resetLedger
  extract_lets z0 z1
  have h2 : Keeps F a z0 := by
    subst z0
    exact (Block.setField_keeps (s.up rfl) h)
  have h3 : Keeps F a z1 := by
    subst z1
    exact (Block.count_keeps (s.up rfl) (Block.setField_keeps (s.up rfl) h2))
  exact (Block.cinderRec_keeps (s.up rfl) h3)

theorem Block.resetRegs_keeps {F : Nat} {a : Block} {b} (s : sub 128 F) (h : Keeps F a b) :
    Keeps F a (Block.resetRegs b) := by
  unfold Block.resetRegs
  extract_lets z0
  have h1 : Keeps F a z0 := by
    subst z0
    exact Keeps.upd (m := 128) h (s.up rfl) (by intro p; cases p <;> first | exact .inl rfl | (right; simp only [Part.same, and_self]))
  exact (Block.setField_keeps (s.up rfl) h1)

theorem Block.resetSlots_keeps {F : Nat} {a : Block} {b} (s : sub 4194432 F) (h : Keeps F a b) :
    Keeps F a (Block.resetSlots b) := by
  unfold Block.resetSlots
  refine Keeps.foldl (fun b x h => ?_) _ ?_
  · refine Keeps.choice (fun h0 => ?_) (fun h0 => ?_)
    · extract_lets z1 z2 z3
      have h4 : Keeps F a z3 := by
        subst z3
        exact (Block.setSlot_keeps (s.up rfl) h)
      refine Keeps.choice (fun h5 => ?_) (fun h5 => ?_)
      · exact (Block.setReg_keeps (s.up rfl) h4)
      · exact h4
    · exact (Block.setSlot_keeps (s.up rfl) h)
  · exact h

theorem Block.coreReset_keeps {F : Nat} {a b : Block} (s : sub 78537770139610 F) (h : Keeps F a b) : Keeps F a b.coreReset := by
  have h1 : Keeps F a b.resetSlots.resetRegs := Block.resetRegs_keeps (s.up rfl) (Block.resetSlots_keeps (s.up rfl) h)
  exact Keeps.upd (m := 78537770139610) h1 (s.up rfl) (by intro p; cases p <;> first | exact .inl rfl | (right; first | exact rfl | exact ⟨rfl, rfl⟩))

theorem Block.l3Reset_keeps {F : Nat} {a : Block} {b} (s : sub 87342453096410 F) (h : Keeps F a b) :
    Keeps F a (Block.l3Reset b) := by
  unfold Block.l3Reset
  extract_lets z0 z1 z2
  have h3 : Keeps F a z0 := by
    subst z0
    refine Keeps.foldl (fun b x h => ?_) _ ?_
    · refine Block.postErr_keeps (s.up rfl) ?_
      exact h
    · exact h
  have h4 : Keeps F a z1 := by
    subst z1
    exact (Block.count_keeps (s.up rfl) h3)
  have h5 : Keeps F a z2 := by
    subst z2
    exact (Block.coreReset_keeps (s.up rfl) h4)
  refine Block.resetLedger_keeps (s.up rfl) ?_
  exact Keeps.upd (m := 34359738368) h5 (s.up rfl) (by intro p; cases p <;> first | exact .inl rfl | (right; simp only [Part.same, and_self]))

theorem Block.l4Cycle_keeps {F : Nat} {a : Block} {b} (s : sub 87411172573150 F) (h : Keeps F a b) :
    Keeps F a (Block.l4Cycle b) := by
  unfold Block.l4Cycle
  extract_lets z0 z1 z2 z3 z4 z5
  have h6 : Keeps F a z0 := by
    subst z0
    refine Keeps.foldl (fun b x h => ?_) _ ?_
    · refine Block.postErr_keeps (s.up rfl) ?_
      exact h
    · exact h
  have h7 : Keeps F a z1 := by
    subst z1
    exact (Block.cinderRec_keeps (s.up rfl) h6)
  have h8 : Keeps F a z2 := by
    subst z2
    exact (Block.coreReset_keeps (s.up rfl) h7)
  have h9 : Keeps F a z3 := by
    subst z3
    exact Keeps.upd (m := 68719476744) h8 (s.up rfl) (by intro p; cases p <;> first | exact .inl rfl | (right; simp only [Part.same, and_self]))
  have h10 : Keeps F a z5 := by
    subst z5
    exact Keeps.upd (m := 4) h9 (s.up rfl) (by intro p; cases p <;> first | exact .inl rfl | (right; simp only [Part.same, and_self]))
  exact (Block.setField_keeps (s.up rfl) h10)

end Sys2Proof.Laws
end

