-- ==== Sys2Proof/Laws/Frames3.lean ====
section
/-!
SUPPORT. What each operation and each row leaves as it was. Part 3 of 5.
-/
namespace Sys2Proof.Laws

open Sys2Proof Sys2Proof.Machine Sys2Proof.Safety

theorem Block.actOrder_keeps {F : Nat} {a : Block} {b o} (s : sub 87411173359582 F) (h : Keeps F a b) :
    Keeps F a (Block.actOrder b o) := by
  unfold Block.actOrder
  extract_lets z0
  have h1 : Keeps F a z0 := by
    subst z0
    exact Keeps.upd (m := 34359738368) h (s.up rfl) (by intro p; cases p <;> first | exact .inl rfl | (right; simp only [Part.same, and_self]))
  split
  · rename_i y2 y3
    refine Keeps.choice (fun h4 => ?_) (fun h4 => ?_)
    · exact (Block.endOrder_keeps (s.up rfl) h1)
    · exact (Block.loseCtx_keeps (s.up rfl) h1)
  · rename_i y5 y6
    exact (Block.l1Reset_keeps (s.up rfl) h1)
  · rename_i y7 y8
    exact (Block.l2Reset_keeps (s.up rfl) h1)
  · rename_i y9 y10
    exact (Block.l3Reset_keeps (s.up rfl) h1)
  · rename_i y11 y12 y13 y14 y15
    exact (Block.l4Cycle_keeps (s.up rfl) h1)

theorem Block.spillAll_keeps {F : Nat} {a : Block} {b k} (s : sub 262176 F) (h : Keeps F a b) :
    Keeps F a (Block.spillAll b k) := by
  unfold Block.spillAll
  refine Keeps.foldl (fun b x h => ?_) _ ?_
  · refine Block.ccSpill_keeps (s.up rfl) ?_
    exact h
  · exact h

theorem Block.handTo_keeps {F : Nat} {a : Block} {b c} (s : sub 7516520608 F) (h : Keeps F a b) :
    Keeps F a (Block.handTo b c) := by
  unfold Block.handTo
  extract_lets z0
  exact (Block.startCore_keeps (s.up rfl) (Block.leaveDomain_keeps (s.up rfl) (Block.spillAll_keeps (s.up rfl) h)))

theorem Block.regWrite_keeps {F : Nat} {a : Block} {b path a' f} (s : sub 2176 F) (h : Keeps F a b) (hf : ∀ v0, Keeps F a v0 → Keeps F a (f v0)) :
    Keeps F a (Block.regWrite b path a' f) := by
  unfold Block.regWrite
  refine Keeps.choice (fun h0 => ?_) (fun h0 => ?_)
  · exact h
  · refine Keeps.choice (fun h1 => ?_) (fun h1 => ?_)
    · refine Keeps.choice (fun h2 => ?_) (fun h2 => ?_)
      · apply hf
        exact h
      · exact h
    · refine Keeps.choice (fun h3 => ?_) (fun h3 => ?_)
      · exact (Block.stopDrop_keeps (s.up rfl) h)
      · refine Keeps.choice (fun h4 => ?_) (fun h4 => ?_)
        · refine Keeps.choice (fun h5 => ?_) (fun h5 => ?_)
          · apply hf
            exact h
          · exact (Block.pageErr_keeps (s.up rfl) h)
        · refine Keeps.choice (fun h6 => ?_) (fun h6 => ?_)
          · exact (Block.pageErr_keeps (s.up rfl) h)
          · apply hf
            exact h

theorem Block.convertBoot_keeps {F : Nat} {a : Block} {b e} (s : sub 167774336 F) (h : Keeps F a b) :
    Keeps F a (Block.convertBoot b e) := by
  unfold Block.convertBoot
  refine Keeps.choice (fun h0 => ?_) (fun h0 => ?_)
  · exact h
  · extract_lets z1 z2 z3 z4
    have h5 : Keeps F a z2.2 := by
      subst z2
      refine Block.takeRecord_keeps (s.up rfl) ?_
      exact h
    have h6 : Keeps F a z4 := by
      subst z4
      exact h5
    exact Keeps.upd (m := 33554432) h6 (s.up rfl) (by intro p; cases p <;> first | exact .inl rfl | (right; simp only [Part.same, and_self]))

theorem Block.clearBootmap_keeps {F : Nat} {a : Block} {b path} (s : sub 167774336 F) (h : Keeps F a b) :
    Keeps F a (Block.clearBootmap b path) := by
  unfold Block.clearBootmap
  refine Keeps.choice (fun h0 => ?_) (fun h0 => ?_)
  · exact h
  · refine Keeps.choice (fun h1 => ?_) (fun h1 => ?_)
    · exact (Block.pageErr_keeps (s.up rfl) h)
    · refine Block.setField_keeps (s.up rfl) ?_
      refine Keeps.foldl (fun b x h => ?_) _ ?_
      · refine Block.convertBoot_keeps (s.up rfl) ?_
        exact h
      · exact h

theorem ztCtlWrite_keeps {F : Nat} {a : Block} {x0 x1 x2 x3} (s : sub 167774336 F) (h : Keeps F a x0) :
    Keeps F a (ztCtlWrite x0 x1 x2 x3) := by
  unfold ztCtlWrite
  extract_lets z0
  have h1 : Keeps F a z0 := by
    subst z0
    refine Keeps.choice (fun h2 => ?_) (fun h2 => ?_)
    · exact (Block.setField_keeps (s.up rfl) h)
    · exact h
  refine Keeps.choice (fun h3 => ?_) (fun h3 => ?_)
  · exact h1
  · refine Keeps.choice (fun h4 => ?_) (fun h4 => ?_)
    · exact (Block.pageErr_keeps (s.up rfl) h1)
    · exact (Block.clearBootmap_keeps (s.up rfl) h1)

theorem lockWrite_keeps {F : Nat} {a : Block} {k x1 x2 x3 x4} (s : sub 1280 F) (h : Keeps F a x1) :
    Keeps F a (lockWrite k x1 x2 x3 x4) := by
  unfold lockWrite
  refine Keeps.choice (fun h0 => ?_) (fun h0 => ?_)
  · exact (Block.freeSem_keeps (s.up rfl) h)
  · exact h

theorem Block.takeTs2_keeps {F : Nat} {a : Block} {b p' lane rxok} (s : sub 8589934592 F) (h : Keeps F a b) :
    Keeps F a (Block.takeTs2 b p' lane rxok) := by
  unfold Block.takeTs2
  extract_lets z0 z1 z2 z3 z4
  have h5 : Keeps F a z4 := by
    subst z4
    exact (Block.setPort_keeps (s.up rfl) h)
  refine Keeps.choice (fun h6 => ?_) (fun h6 => ?_)
  · exact h
  · refine Keeps.choice (fun h7 => ?_) (fun h7 => ?_)
    · exact (Block.enterIdent_keeps (s.up rfl) h5)
    · exact h5

theorem Block.retireLl_keeps {F : Nat} {a : Block} {b k} (s : sub 13760001804968 F) (h : Keeps F a b) :
    Keeps F a (Block.retireLl b k) := by
  unfold Block.retireLl
  refine Keeps.choice (fun h0 => ?_) (fun h0 => ?_)
  · exact (Block.retireInst_keeps (s.up rfl) h)
  · split
    · rename_i y1 y2 y3
      exact (Block.enterSpare_keeps (s.up rfl) (Block.retireInst_keeps (s.up rfl) (Block.handTo_keeps (s.up rfl) h)))
    · rename_i y4 y5
      exact (Block.noSpareLeft_keeps (s.up rfl) (Block.retireInst_keeps (s.up rfl) h))

theorem Block.retireWalker_keeps {F : Nat} {a : Block} {b k} (s : sub 13753626200704 F) (h : Keeps F a b) :
    Keeps F a (Block.retireWalker b k) := by
  unfold Block.retireWalker
  refine Keeps.choice (fun h0 => ?_) (fun h0 => ?_)
  · exact Keeps.upd (m := 1073741824) h (s.up rfl) (by intro p; cases p <;> first | exact .inl rfl | (right; simp only [Part.same, and_self]))
  · exact (Block.swapWalker_keeps (s.up rfl) h)

theorem Block.moveRow_keeps {F : Nat} {a : Block} {b s'} (s : sub 13752489478784 F) (h : Keeps F a b) :
    Keeps F a (Block.moveRow b s') := by
  unfold Block.moveRow
  extract_lets z0 z1
  have h2 : Keeps F a z0 := by
    subst z0
    exact (Block.retireInst_keeps (s.up rfl) h)
  clear_value z1
  clear_value z0
  split
  · rename_i y3 y4 y5
    exact (Block.enterSpare_keeps (s.up rfl) (Block.setSlot_keeps (s.up rfl) h2))
  · rename_i y6 y7
    refine Keeps.choice (fun h8 => ?_) (fun h8 => ?_)
    · exact h2
    · exact (Block.setReg_keeps (s.up rfl) (Block.setSlot_keeps (s.up rfl) h2))

theorem Block.retireRow_keeps {F : Nat} {a : Block} {b r} (s : sub 15951907187328 F) (h : Keeps F a b) :
    Keeps F a (Block.retireRow b r) := by
  unfold Block.retireRow
  extract_lets z0
  refine Keeps.choice (fun h1 => ?_) (fun h1 => ?_)
  · exact (Block.moveRow_keeps (s.up rfl) (Block.snuff_keeps (s.up rfl) h))
  · exact (Block.moveRow_keeps (s.up rfl) h)

theorem Block.retireWay_keeps {F : Nat} {a : Block} {b w} (s : sub 13756780513920 F) (h : Keeps F a b) :
    Keeps F a (Block.retireWay b w) := by
  unfold Block.retireWay
  extract_lets z0 z1 z2 z3
  have h4 : Keeps F a z2 := by
    subst z2
    exact (Block.retireInst_keeps (s.up rfl) h)
  have h5 : Keeps F a z3 := by
    subst z3
    clear_value z2
    clear_value z1
    clear_value z0
    split
    · rename_i y6 y7
      exact (Block.enterSpare_keeps (s.up rfl) h4)
    · rename_i y8
      exact h4
  refine Keeps.foldl (fun b x h => ?_) _ ?_
  · refine Block.ccRequest_keeps (s.up rfl) ?_
    exact (Block.count32_keeps (s.up rfl) h)
  · exact h5

theorem Block.retireRange_keeps {F : Nat} {a : Block} {b k} (s : sub 13752552393344 F) (h : Keeps F a b) :
    Keeps F a (Block.retireRange b k) := by
  unfold Block.retireRange
  extract_lets z0 z1
  have h2 : Keeps F a z1 := by
    subst z1
    refine Block.retireInst_keeps (s.up rfl) ?_
    exact Keeps.upd (m := 67108864) h (s.up rfl) (by intro p; cases p <;> first | exact .inl rfl | (right; simp only [Part.same, and_self]))
  clear_value z1
  clear_value z0
  split
  · rename_i y3 y4
    exact (Block.enterSpare_keeps (s.up rfl) h2)
  · rename_i y5
    exact h2

theorem Block.laneFails_keeps {F : Nat} {a : Block} {b p'} (s : sub 16110821767808 F) (h : Keeps F a b) :
    Keeps F a (Block.laneFails b p') := by
  unfold Block.laneFails
  extract_lets z0 z1 z2 z3 z4 z5 z6
  have h7 : Keeps F a z2 := by
    subst z2
    exact (Block.setField_keeps (s.up rfl) h)
  have h8 : Keeps F a z4 := by
    subst z4
    exact (Block.setWear_keeps (s.up rfl) h7)
  have h9 : Keeps F a z6 := by
    subst z6
    exact (Block.setPort_keeps (s.up rfl) h8)
  refine Keeps.choice (fun h10 => ?_) (fun h10 => ?_)
  · exact (Block.toTrain_keeps (s.up rfl) h9)
  · exact (Block.modPort_keeps (s.up rfl) h9)

theorem Block.retireLane_keeps {F : Nat} {a : Block} {b k} (s : sub 16110821767808 F) (h : Keeps F a b) :
    Keeps F a (Block.retireLane b k) := by
  unfold Block.retireLane
  extract_lets z0 z1 z2 z3
  have h4 : Keeps F a z2 := by
    subst z2
    exact (Block.retireInst_keeps (s.up rfl) h)
  have h5 : Keeps F a z3 := by
    subst z3
    clear_value z2
    clear_value z1
    clear_value z0
    split
    · rename_i y6 y7
      exact (Block.enterSpare_keeps (s.up rfl) h4)
    · rename_i y8
      exact h4
  refine Keeps.choice (fun h9 => ?_) (fun h9 => ?_)
  · exact (Block.laneFails_keeps (s.up rfl) h5)
  · exact (Block.modPort_keeps (s.up rfl) h5)

theorem Block.retireNow_keeps {F : Nat} {a : Block} {b kind x2} (s : sub 16114179373736 F) (h : Keeps F a b) :
    Keeps F a (Block.retireNow b kind x2) := by
  unfold Block.retireNow
  split
  · rename_i y0
    exact (Block.retireLl_keeps (s.up rfl) h)
  · rename_i y1
    exact (Block.retireWalker_keeps (s.up rfl) h)
  · rename_i y2
    exact (Block.retireRow_keeps (s.up rfl) h)
  · rename_i y3
    exact (Block.retireWay_keeps (s.up rfl) h)
  · rename_i y4
    exact (Block.retireRange_keeps (s.up rfl) h)
  · rename_i y5
    exact (Block.retireLane_keeps (s.up rfl) h)
  · rename_i y6
    exact (Block.setEng_keeps (s.up rfl) h)
  · rename_i y7
    exact (Block.setEng_keeps (s.up rfl) h)
  · rename_i y8
    refine Keeps.choice (fun h9 => ?_) (fun h9 => ?_)
    · exact (Block.mapOut_keeps (s.up rfl) h)
    · exact h
  · rename_i y10 y11 y12 y13 y14 y15 y16 y17 y18 y19
    exact h

theorem Block.codeErrors_keeps {F : Nat} {a : Block} {b p' lane n} (s : sub 8589934720 F) (h : Keeps F a b) :
    Keeps F a (Block.codeErrors b p' lane n) := by
  unfold Block.codeErrors
  extract_lets z0
  clear_value z0
  split
  · rename_i y1 y2 y3 y4
    extract_lets z5
    have h6 : Keeps F a z5 := by
      subst z5
      exact (Block.setField_keeps (s.up rfl) h)
    exact (Block.modPort_keeps (s.up rfl) h6)

theorem Block.endStalledItem_keeps {F : Nat} {a : Block} {b t x} (s : sub 16941056 F) (h : Keeps F a b) :
    Keeps F a (Block.endStalledItem b t x) := by
  unfold Block.endStalledItem
  exact (Block.modTask_keeps (s.up rfl) (Block.clearQueues_keeps (s.up rfl) (Block.dropLane_keeps (s.up rfl) h)))

theorem Block.countDecision_keeps {F : Nat} {a : Block} {b cls q} (s : sub 1073741856 F) (h : Keeps F a b) :
    Keeps F a (Block.countDecision b cls q) := by
  unfold Block.countDecision
  extract_lets z0 z1 z2 z3 z4 z5
  have h6 : Keeps F a z4.2 := by
    subst z4
    refine Block.fresh_keeps (s.up rfl) ?_
    exact h
  have h7 : Keeps F a z5 := by
    subst z5
    exact h6
  exact Keeps.upd (m := 1073741824) h7 (s.up rfl) (by intro p; cases p <;> first | exact .inl rfl | (right; simp only [Part.same, and_self]))

theorem Block.grow_keeps {F : Nat} {a : Block} {b c h' cores units home rt} (s : sub 16643531929728 F) (h : Keeps F a b) :
    Keeps F a (Block.grow b c h' cores units home rt) := by
  unfold Block.grow
  extract_lets z0 z1 z2 z3 z4 z5 z6 z7 z8 z9 z10 z11 z12
  subst z5
  have h13 : Keeps F a z10 := by
    subst z10
    refine Keeps.foldl (fun b x h => ?_) _ ?_
    · refine Block.setEng_keeps (s.up rfl) ?_
      exact h
    · exact h
  have h14 : Keeps F a z11 := by
    subst z11
    exact (Block.setHarness_keeps (s.up rfl) h13)
  have h15 : Keeps F a z12 := by
    subst z12
    exact (Block.modCmd_keeps (s.up rfl) h14)
  refine Keeps.choice (fun h16 => ?_) (fun h16 => ?_)
  · exact (Block.endCmd_keeps (s.up rfl) h)
  · refine Keeps.choice (fun h17 => ?_) (fun h17 => ?_)
    · exact (Block.endCmd_keeps (s.up rfl) h)
    · refine Keeps.choice (fun h18 => ?_) (fun h18 => ?_)
      · exact (Block.placeAll_keeps (s.up rfl) (Block.endCmd_keeps (s.up rfl) h14))
      · exact (Block.lightEngs_keeps (s.up rfl) h15)

theorem Block.profEnd_keeps {F : Nat} {a : Block} {b c status} (s : sub 1099511627904 F) (h : Keeps F a b) :
    Keeps F a (Block.profEnd b c status) := by
  unfold Block.profEnd
  refine Keeps.choice (fun h0 => ?_) (fun h0 => ?_)
  · extract_lets z1 z2 z3 z4
    have h5 : Keeps F a z4 := by
      subst z4
      exact (Block.traceAll_keeps (s.up rfl) h)
    clear_value z4
    clear_value z3
    clear_value z2
    clear_value z1
    split
    · rename_i y6 y7 y8
      exact (Block.latchProf_keeps (s.up rfl) h5)
    · rename_i y9 y10
      exact h5
  · exact h

theorem Block.sigAll_keeps {F : Nat} {a : Block} {b ctx l who} (s : sub 13477888583808 F) (h : Keeps F a b) :
    Keeps F a (Block.sigAll b ctx l who) := by
  unfold Block.sigAll
  extract_lets z0
  refine Block.settleWicks_keeps (s.up rfl) ?_ ?_
  · refine Keeps.foldl (fun b x h => ?_) _ ?_
    · refine Block.sigEntry_keeps (s.up rfl) ?_
      exact h
    · exact h
  · exact h

theorem Block.sendSigs_keeps {F : Nat} {a : Block} {b c st} (s : sub 14577400211584 F) (h : Keeps F a b) :
    Keeps F a (Block.sendSigs b c st) := by
  unfold Block.sendSigs
  extract_lets z0 z1 z2 z3 z4
  have h5 : Keeps F a z2 := by
    subst z2
    exact (Block.profEnd_keeps (s.up rfl) h)
  have h6 : Keeps F a z4 := by
    subst z4
    refine Keeps.choice (fun h7 => ?_) (fun h7 => ?_)
    · exact (Block.count32_keeps (s.up rfl) (Block.setQueue_keeps (s.up rfl) h5))
    · exact h5
  refine Keeps.choice (fun h8 => ?_) (fun h8 => ?_)
  · exact (Block.sigAll_keeps (s.up rfl) h6)
  · exact h6

theorem Block.settleQueues_keeps {F : Nat} {a : Block} {b} (s : sub 15544020301952 F) (h : Keeps F a b) :
    Keeps F a (Block.settleQueues b) := by
  unfold Block.settleQueues
  refine Keeps.foldl (fun b x h => ?_) _ ?_
  · refine Block.settleQueue_keeps (s.up rfl) ?_
    exact h
  · exact h

theorem Block.leaveCmd_keeps {F : Nat} {a : Block} {b c st} (s : sub 15544020301952 F) (h : Keeps F a b) :
    Keeps F a (Block.leaveCmd b c st) := by
  unfold Block.leaveCmd
  extract_lets z0 z1 z2 z3 z4 z5 z6
  have h7 : Keeps F a z1 := by
    subst z1
    exact (Block.removeCmd_keeps (s.up rfl) (Block.releaseEngs_keeps (s.up rfl) h))
  have h8 : Keeps F a z3 := by
    subst z3
    exact (Block.setQueue_keeps (s.up rfl) h7)
  have h9 : Keeps F a z4 := by
    subst z4
    exact (Block.setQueue_keeps (s.up rfl) h8)
  have h10 : Keeps F a z5 := by
    subst z5
    refine Keeps.choice (fun h11 => ?_) (fun h11 => ?_)
    · exact (Block.cmdError_keeps (s.up rfl) h9)
    · exact h9
  have h12 : Keeps F a z6 := by
    subst z6
    refine Keeps.choice (fun h13 => ?_) (fun h13 => ?_)
    · exact (Block.haltQueue_keeps (s.up rfl) (Block.haltEvent_keeps (s.up rfl) h10))
    · exact h10
  exact (Block.settleQueues_keeps (s.up rfl) (Block.fixDeadlines_keeps (s.up rfl) h12))

theorem Block.finishCmd_keeps {F : Nat} {a : Block} {b c st} (s : sub 16918409836672 F) (h : Keeps F a b) :
    Keeps F a (Block.finishCmd b c st) := by
  unfold Block.finishCmd
  extract_lets z0
  have h1 : Keeps F a z0 := by
    subst z0
    exact (Block.sendSigs_keeps (s.up rfl) h)
  refine Keeps.choice (fun h2 => ?_) (fun h2 => ?_)
  · exact (Block.modCmd_keeps (s.up rfl) h1)
  · exact (Block.leaveCmd_keeps (s.up rfl) h1)

theorem Block.computeLayout_keeps {F : Nat} {a : Block} {b} (s : sub 2097152 F) (h : Keeps F a b) :
    Keeps F a (Block.computeLayout b) := by
  unfold Block.computeLayout
  extract_lets z0
  exact Keeps.upd (m := 2097152) h (s.up rfl) (by intro p; cases p <;> first | exact .inl rfl | (right; simp only [Part.same, and_self]))

theorem Block.reinTick_keeps {F : Nat} {a : Block} {b} (s : sub 25769803776 F) (h : Keeps F a b) :
    Keeps F a (Block.reinTick b) := by
  unfold Block.reinTick
  extract_lets z0
  have h1 : Keeps F a z0 := by
    subst z0
    refine Keeps.foldl (fun b x h => ?_) _ ?_
    · refine Keeps.choice (fun h2 => ?_) (fun h2 => ?_)
      · exact h
      · exact (Block.modPort_keeps (s.up rfl) h)
    · exact h
  exact Keeps.upd (m := 17179869184) h1 (s.up rfl) (by intro p; cases p <;> first | exact .inl rfl | (right; simp only [Part.same, and_self]))

theorem Block.outsideWrite_keeps {F : Nat} {a : Block} {b path err f} (s : sub 128 F) (h : Keeps F a b) (herr : ∀ v0, Keeps F a v0 → Keeps F a (err v0)) (hf : ∀ v0, Keeps F a v0 → Keeps F a (f v0)) :
    Keeps F a (Block.outsideWrite b path err f) := by
  unfold Block.outsideWrite
  refine Keeps.choice (fun h0 => ?_) (fun h0 => ?_)
  · exact h
  · refine Keeps.choice (fun h1 => ?_) (fun h1 => ?_)
    · exact (Block.stopDrop_keeps (s.up rfl) h)
    · refine Keeps.choice (fun h2 => ?_) (fun h2 => ?_)
      · apply herr
        exact h
      · apply hf
        exact h

theorem Block.doorbell_keeps {F : Nat} {a : Block} {b ctx qidx v} (s : sub 10368 F) (h : Keeps F a b) :
    Keeps F a (Block.doorbell b ctx qidx v) := by
  unfold Block.doorbell
  extract_lets z0
  clear_value z0
  split
  · rename_i y1 y2
    exact h
  · rename_i y3 y4 y5
    extract_lets z6
    refine Keeps.choice (fun h7 => ?_) (fun h7 => ?_)
    · exact h
    · refine Keeps.choice (fun h8 => ?_) (fun h8 => ?_)
      · exact (Block.dbReject_keeps (s.up rfl) h)
      · exact (Block.dbSet_keeps (s.up rfl) h)

theorem Block.doorAccess_keeps {F : Nat} {a : Block} {b path a' v} (s : sub 10368 F) (h : Keeps F a b) :
    Keeps F a (Block.doorAccess b path a' v) := by
  unfold Block.doorAccess
  refine Block.outsideWrite_keeps (s.up rfl) ?_ ?_ ?_
  · exact h
  · intro x0 h1
    exact (Block.accessErr_keeps (s.up rfl) h1)
  · intro x2 h3
    refine Keeps.choice (fun h4 => ?_) (fun h4 => ?_)
    · exact h3
    · exact (Block.doorbell_keeps (s.up rfl) h3)

theorem Block.setFrac_keeps {F : Nat} {a : Block} {b a' n} (s : sub 16 F) (h : Keeps F a b) :
    Keeps F a (Block.setFrac b a' n) := by
  unfold Block.setFrac
  exact Keeps.upd (m := 16) h (s.up rfl) (by intro p; cases p <;> first | exact .inl rfl | (right; simp only [Part.same, and_self]))

theorem Block.setPeriod_keeps {F : Nat} {a : Block} {b p'} (s : sub 536871040 F) (h : Keeps F a b) :
    Keeps F a (Block.setPeriod b p') := by
  unfold Block.setPeriod
  refine Block.keepCadence_keeps (s.up rfl) ?_ ?_
  · exact h
  · intro x0 h1
    exact (Block.setReg_keeps (s.up rfl) h1)

theorem Block.takeRelay_keeps {F : Nat} {a : Block} {b f t} (s : sub 13203266340992 F) (h : Keeps F a b) :
    Keeps F a (Block.takeRelay b f t) := by
  unfold Block.takeRelay
  extract_lets z0 z1 z2 z3 z4
  have h5 : Keeps F a z3 := by
    subst z3
    exact (Block.modCad_keeps (s.up rfl) h)
  have h6 : Keeps F a z4 := by
    subst z4
    refine Keeps.choice (fun h7 => ?_) (fun h7 => ?_)
    · clear_value z3
      clear_value z2
      clear_value z1
      clear_value z0
      split
      · rename_i y8 y9 y10 y11 y12 y13
        exact (Block.setPeriod_keeps (s.up rfl) h5)
      · rename_i y14 y15
        exact h5
    · exact h5
  refine Keeps.choice (fun h16 => ?_) (fun h16 => ?_)
  · exact (Block.reselect_keeps (s.up rfl) h6)
  · exact h6

theorem Block.takeRelayFrame_keeps {F : Nat} {a : Block} {b p' pl} (s : sub 13203266340992 F) (h : Keeps F a b) :
    Keeps F a (Block.takeRelayFrame b p' pl) := by
  unfold Block.takeRelayFrame
  refine Keeps.choice (fun h0 => ?_) (fun h0 => ?_)
  · exact (Block.takeRelay_keeps (s.up rfl) h)
  · exact h

theorem Block.endShrink_keeps {F : Nat} {a : Block} {b c h'} (s : sub 92332032 F) (h : Keeps F a b) :
    Keeps F a (Block.endShrink b c h') := by
  unfold Block.endShrink
  extract_lets z0 z1 z2 z3
  have h4 : Keeps F a z1 := by
    subst z1
    refine Keeps.foldl (fun b x h => ?_) _ ?_
    · refine Block.setEng_keeps (s.up rfl) ?_
      exact h
    · exact h
  have h5 : Keeps F a z3 := by
    subst z3
    refine Keeps.choice (fun h6 => ?_) (fun h6 => ?_)
    · exact (Block.setHarness_keeps (s.up rfl) h4)
    · exact h4
  refine Keeps.choice (fun h7 => ?_) (fun h7 => ?_)
  · exact (Block.endCmd_keeps (s.up rfl) (Block.modCmd_keeps (s.up rfl) h5))
  · exact h

theorem Block.setArgWord_keeps {F : Nat} {a : Block} {b e k v} (s : sub 32768 F) (h : Keeps F a b) :
    Keeps F a (Block.setArgWord b e k v) := by
  unfold Block.setArgWord
  extract_lets z0
  exact (Block.setEng_keeps (s.up rfl) h)

theorem Block.syncArgload_keeps {F : Nat} {a : Block} {b e ctx w k h' row} (s : sub 15544020301984 F) (h : Keeps F a b) :
    Keeps F a (Block.syncArgload b e ctx w k h' row) := by
  unfold Block.syncArgload
  extract_lets z0 z1
  have h2 : Keeps F a z1.2 := by
    subst z1
    refine Block.fresh_keeps (s.up rfl) ?_
    exact h
  refine Keeps.choice (fun h3 => ?_) (fun h3 => ?_)
  · refine Block.setSynced_keeps (s.up rfl) ?_
    refine Block.setArgWord_keeps (s.up rfl) ?_
    exact h2
  · clear_value z1
    clear_value z0
    split
    · rename_i y4 y5 y6
      exact (Block.setSynced_keeps (s.up rfl) (Block.setArgWord_keeps (s.up rfl) h))
    · rename_i y7 y8 y9 y10
      exact (Block.endWork_keeps (s.up rfl) (Block.notePoison_keeps (s.up rfl) h))
    · rename_i y11 y12 y13
      exact (Block.endWork_keeps (s.up rfl) h)
    · rename_i y14 y15 y16 y17
      exact (Block.meet_keeps (s.up rfl) h)

theorem Block.ccJournal_keeps {F : Nat} {a : Block} {b agent line} (s : sub 4294967296 F) (h : Keeps F a b) :
    Keeps F a (Block.ccJournal b agent line) := by
  unfold Block.ccJournal
  refine Keeps.choice (fun h0 => ?_) (fun h0 => ?_)
  · exact h
  · refine Keeps.choice (fun h1 => ?_) (fun h1 => ?_)
    · exact (Block.ccMod_keeps (s.up rfl) h)
    · extract_lets z2 z3
      exact (Block.ccMod_keeps (s.up rfl) h)

theorem nominalWrite_keeps {F : Nat} {a : Block} {x0 x1 x2 x3} (s : sub 536871040 F) (h : Keeps F a x0) :
    Keeps F a (nominalWrite x0 x1 x2 x3) := by
  unfold nominalWrite
  refine Keeps.choice (fun h0 => ?_) (fun h0 => ?_)
  · extract_lets z1
    have h2 : Keeps F a z1 := by
      subst z1
      exact (Block.setReg_keeps (s.up rfl) h)
    refine Keeps.choice (fun h3 => ?_) (fun h3 => ?_)
    · exact h2
    · exact (Block.setPeriod_keeps (s.up rfl) h2)
  · exact h

theorem Block.fcrSizeWrite_keeps {F : Nat} {a : Block} {b path v} (s : sub 134220160 F) (h : Keeps F a b) :
    Keeps F a (Block.fcrSizeWrite b path v) := by
  unfold Block.fcrSizeWrite
  extract_lets z0 z1 z2 z3
  have h4 : Keeps F a z2 := by
    subst z2
    exact (Block.unstagePath_keeps (s.up rfl) h)
  have h5 : Keeps F a z3 := by
    subst z3
    exact (Block.setReg_keeps (s.up rfl) (Block.setReg_keeps (s.up rfl) (Block.setReg_keeps (s.up rfl) h4)))
  refine Keeps.choice (fun h6 => ?_) (fun h6 => ?_)
  · exact h
  · refine Keeps.choice (fun h7 => ?_) (fun h7 => ?_)
    · exact (Block.pageErr_keeps (s.up rfl) h)
    · exact Keeps.upd (m := 134217728) h5 (s.up rfl) (by intro p; cases p <;> first | exact .inl rfl | (right; simp only [Part.same, and_self]))

theorem Block.stallTask_keeps {F : Nat} {a : Block} {b t} (s : sub 13202805131392 F) (h : Keeps F a b) :
    Keeps F a (Block.stallTask b t) := by
  unfold Block.stallTask
  extract_lets z0 z1 z2
  have h3 : Keeps F a z0 := by
    subst z0
    exact (Block.modTask_keeps (s.up rfl) h)
  have h4 : Keeps F a z1 := by
    subst z1
    refine Keeps.foldl (fun b x h => ?_) _ ?_
    · refine Block.drainEng_keeps (s.up rfl) ?_
      exact h
    · exact h3
  have h5 : Keeps F a z2 := by
    subst z2
    exact (Block.cinderRec_keeps (s.up rfl) h4)
  exact (Block.event_keeps (s.up rfl) h5)

theorem Block.stallRes_keeps {F : Nat} {a : Block} {b st} (s : sub 34359738528 F) (h : Keeps F a b) :
    Keeps F a (Block.stallRes b st) := by
  unfold Block.stallRes
  extract_lets z0 z1
  have h2 : Keeps F a z0.2 := by
    subst z0
    refine Block.busyTime_keeps (s.up rfl) ?_
    exact h
  have h3 : Keeps F a z1 := by
    subst z1
    exact h2
  refine Block.setReg_keeps (s.up rfl) ?_
  exact Keeps.upd (m := 34359738368) h3 (s.up rfl) (by intro p; cases p <;> first | exact .inl rfl | (right; simp only [Part.same, and_self]))

theorem Block.resumeCmd_keeps {F : Nat} {a : Block} {b c} (s : sub 15544020301952 F) (h : Keeps F a b) :
    Keeps F a (Block.resumeCmd b c) := by
  unfold Block.resumeCmd
  refine Block.fixDeadlines_keeps (s.up rfl) ?_
  refine Keeps.foldl (fun b x h => ?_) _ ?_
  · refine Block.resumeEng_keeps (s.up rfl) ?_
    exact h
  · exact (Block.modCmd_keeps (s.up rfl) h)

theorem Block.resumeTask_keeps {F : Nat} {a : Block} {b t} (s : sub 15544020301952 F) (h : Keeps F a b) :
    Keeps F a (Block.resumeTask b t) := by
  unfold Block.resumeTask
  refine Keeps.foldl (fun b x h => ?_) _ ?_
  · refine Block.resumeEng_keeps (s.up rfl) ?_
    exact h
  · exact (Block.modTask_keeps (s.up rfl) h)

theorem Block.stallOpResume_keeps {F : Nat} {a : Block} {b} (s : sub 15578380040352 F) (h : Keeps F a b) :
    Keeps F a (Block.stallOpResume b) := by
  unfold Block.stallOpResume
  split
  · rename_i y0 y1 y2 y3
    exact (Block.stallRes_keeps (s.up rfl) (Block.resumeCmd_keeps (s.up rfl) h))
  · rename_i y4 y5 y6 y7 y8
    exact (Block.stallRes_keeps (s.up rfl) (Block.resumeTask_keeps (s.up rfl) h))
  · rename_i y9 y10 y11 y12
    exact (Block.stallRes_keeps (s.up rfl) h)

theorem Block.stallOpEnd_keeps {F : Nat} {a : Block} {b} (s : sub 2233509013664 F) (h : Keeps F a b) :
    Keeps F a (Block.stallOpEnd b) := by
  unfold Block.stallOpEnd
  split
  · rename_i y0 y1 y2 y3
    refine Keeps.choice (fun h4 => ?_) (fun h4 => ?_)
    · exact (Block.stallRes_keeps (s.up rfl) (Block.endStalled_keeps (s.up rfl) h))
    · exact (Block.stallRes_keeps (s.up rfl) h)
  · rename_i y5 y6 y7 y8 y9
    refine Keeps.choice (fun h10 => ?_) (fun h10 => ?_)
    · split
      · rename_i y11 y12 y13
        exact (Block.stallRes_keeps (s.up rfl) (Block.endStalledItem_keeps (s.up rfl) h))
      · rename_i y14 y15
        exact (Block.stallRes_keeps (s.up rfl) (Block.haltTask_keeps (s.up rfl) (Block.modTask_keeps (s.up rfl) h)))
    · exact (Block.stallRes_keeps (s.up rfl) h)
  · rename_i y16 y17 y18 y19
    exact (Block.stallRes_keeps (s.up rfl) h)

theorem stallWrite_keeps {F : Nat} {a : Block} {x0 x1 x2 x3} (s : sub 15578380040352 F) (h : Keeps F a x0) :
    Keeps F a (stallWrite x0 x1 x2 x3) := by
  unfold stallWrite
  split
  · rename_i y0 y1
    exact (Block.stallOpResume_keeps (s.up rfl) h)
  · rename_i y2 y3
    exact (Block.stallOpEnd_keeps (s.up rfl) h)
  · rename_i y4 y5 y6
    exact h

theorem Block.forwardErr_keeps {F : Nat} {a : Block} {b p' typ pl} (s : sub 8589934720 F) (h : Keeps F a b) :
    Keeps F a (Block.forwardErr b p' typ pl) := by
  unfold Block.forwardErr
  extract_lets z0
  refine Keeps.choice (fun h1 => ?_) (fun h1 => ?_)
  · refine Keeps.foldl (fun b x h => ?_) _ ?_
    · refine Block.sendErr_keeps (s.up rfl) ?_
      exact h
    · exact h
  · exact h

theorem Block.ccWrite_keeps {F : Nat} {a : Block} {b agent line nc data mask} (s : sub 4295229568 F) (h : Keeps F a b) :
    Keeps F a (Block.ccWrite b agent line nc data mask) := by
  unfold Block.ccWrite
  extract_lets z0
  have h1 : Keeps F a z0 := by
    subst z0
    exact (Block.ccMod_keeps (s.up rfl) h)
  refine Keeps.choice (fun h2 => ?_) (fun h2 => ?_)
  · exact h1
  · exact (Block.ccRequest_keeps (s.up rfl) h1)

theorem Block.failFaults_keeps {F : Nat} {a : Block} {b c va len} (s : sub 15544020301952 F) (h : Keeps F a b) :
    Keeps F a (Block.failFaults b c va len) := by
  unfold Block.failFaults
  extract_lets z0 z1 z2
  subst z0
  have h3 : Keeps F a z2 := by
    subst z2
    exact Keeps.upd (m := 67108864) h (s.up rfl) (by intro p; cases p <;> first | exact .inl rfl | (right; simp only [Part.same, and_self]))
  refine Keeps.foldl (fun b x h => ?_) _ ?_
  · clear_value z2
    clear_value z1
    split
    · rename_i y4 y5 y6
      refine Keeps.choice (fun h7 => ?_) (fun h7 => ?_)
      · refine Keeps.foldl (fun b x h => ?_) _ ?_
        · refine Block.failAsker_keeps (s.up rfl) ?_
          exact h
        · exact (Block.modFault_keeps (s.up rfl) h)
      · exact (Block.finishFault_keeps (s.up rfl) h)
    · rename_i y8 y9
      refine Keeps.foldl (fun b x h => ?_) _ ?_
      · refine Block.failAsker_keeps (s.up rfl) ?_
        exact h
      · exact h
  · exact h3

theorem Block.invalidate_keeps {F : Nat} {a : Block} {b c va len} (s : sub 15544020301952 F) (h : Keeps F a b) :
    Keeps F a (Block.invalidate b c va len) := by
  unfold Block.invalidate
  extract_lets z0 z1 z2 z3
  have h4 : Keeps F a z0 := by
    subst z0
    exact (Block.dropRange_keeps (s.up rfl) h)
  have h5 : Keeps F a z1 := by
    subst z1
    exact Keeps.upd (m := 33554432) h4 (s.up rfl) (by intro p; cases p <;> first | exact .inl rfl | (right; simp only [Part.same, and_self]))
  have h6 : Keeps F a z3 := by
    subst z3
    exact (Block.failFaults_keeps (s.up rfl) h5)
  refine Keeps.choice (fun h7 => ?_) (fun h7 => ?_)
  · exact (Block.loseCtx_keeps (s.up rfl) h6)
  · exact h6

theorem Block.addPins_keeps {F : Nat} {a : Block} {b ids} (s : sub 33554432 F) (h : Keeps F a b) :
    Keeps F a (Block.addPins b ids) := by
  unfold Block.addPins
  exact Keeps.upd (m := 33554432) h (s.up rfl) (by intro p; cases p <;> first | exact .inl rfl | (right; simp only [Part.same, and_self]))

theorem Block.acceptRecord_keeps {F : Nat} {a : Block} {b c w} (s : sub 15544020301952 F) (h : Keeps F a b) :
    Keeps F a (Block.acceptRecord b c w) := by
  unfold Block.acceptRecord
  extract_lets z0 z1
  clear_value z1
  clear_value z0
  split
  · rename_i y2 y3
    refine Keeps.choice (fun h4 => ?_) (fun h4 => ?_)
    · exact Keeps.upd (m := 16777216) h (s.up rfl) (by intro p; cases p <;> first | exact .inl rfl | (right; simp only [Part.same, and_self]))
    · extract_lets z5 z6
      have h7 : Keeps F a z6 := by
        subst z6
        refine Block.addPins_keeps (s.up rfl) ?_
        exact Keeps.upd (m := 16777216) h (s.up rfl) (by intro p; cases p <;> first | exact .inl rfl | (right; simp only [Part.same, and_self]))
      exact (Block.fixDeadlines_keeps (s.up rfl) (Block.modCmd_keeps (s.up rfl) h7))
  · rename_i y8 y9
    refine Keeps.choice (fun h10 => ?_) (fun h10 => ?_)
    · exact (Block.loseCtx_keeps (s.up rfl) (Block.endCmd_keeps (s.up rfl) h))
    · exact (Block.endCmd_keeps (s.up rfl) h)
  · rename_i y11 y12 y13
    exact (Block.poisonCmd_keeps (s.up rfl) h)
  · rename_i y14 y15 y16 y17
    exact (Block.meet_keeps (s.up rfl) h)

theorem Block.storeWord_keeps {F : Nat} {a : Block} {b path v} (s : sub 3221227648 F) (h : Keeps F a b) :
    Keeps F a (Block.storeWord b path v) := by
  unfold Block.storeWord
  extract_lets z0 z1 z2 z3 z4
  have h5 : Keeps F a z3 := by
    subst z3
    exact (Block.setWord48_keeps (s.up rfl) h)
  have h6 : Keeps F a z4 := by
    subst z4
    exact (Block.setReg_keeps (s.up rfl) h5)
  refine Keeps.choice (fun h7 => ?_) (fun h7 => ?_)
  · exact (Block.pageErr_keeps (s.up rfl) h)
  · exact (Block.mcMod_keeps (s.up rfl) h6)

theorem firstWrite_keeps {F : Nat} {a : Block} {x0 x1 x2 x3} (s : sub 128 F) (h : Keeps F a x0) :
    Keeps F a (firstWrite x0 x1 x2 x3) := by
  unfold firstWrite
  refine Keeps.choice (fun h0 => ?_) (fun h0 => ?_)
  · exact (Block.setReg_keeps (s.up rfl) h)
  · exact h

theorem Block.laneSignal_keeps {F : Nat} {a : Block} {b p' lane present} (s : sub 15561065953920 F) (h : Keeps F a b) :
    Keeps F a (Block.laneSignal b p' lane present) := by
  unfold Block.laneSignal
  extract_lets z0 z1
  have h2 : Keeps F a z0 := by
    subst z0
    exact (Block.modPort_keeps (s.up rfl) h)
  refine Keeps.choice (fun h3 => ?_) (fun h3 => ?_)
  · exact (Block.toTrain_keeps (s.up rfl) h2)
  · exact h2

theorem Block.addCycle_keeps {F : Nat} {a : Block} {b unit a'} (s : sub 144 F) (h : Keeps F a b) :
    Keeps F a (Block.addCycle b unit a') := by
  unfold Block.addCycle
  extract_lets z0
  refine Keeps.choice (fun h1 => ?_) (fun h1 => ?_)
  · exact (Block.count32_keeps (s.up rfl) (Block.setFrac_keeps (s.up rfl) h))
  · exact (Block.setFrac_keeps (s.up rfl) h)

theorem Block.pageTick_keeps {F : Nat} {a : Block} {b pg} (s : sub 144 F) (h : Keeps F a b) :
    Keeps F a (Block.pageTick b pg) := by
  unfold Block.pageTick
  split
  · rename_i y0 y1
    exact (Block.addCycle_keeps (s.up rfl) h)
  · rename_i y2 y3
    exact (Block.addCycle_keeps (s.up rfl) h)
  · rename_i y4 y5
    exact (Block.addCycle_keeps (s.up rfl) h)
  · rename_i y6 y7 y8 y9
    exact h

theorem Block.pagesTick_keeps {F : Nat} {a : Block} {b} (s : sub 144 F) (h : Keeps F a b) :
    Keeps F a (Block.pagesTick b) := by
  unfold Block.pagesTick
  refine Keeps.foldl (fun b x h => ?_) _ ?_
  · refine Block.pageTick_keeps (s.up rfl) ?_
    exact h
  · exact h

theorem Block.remember_keeps {F : Nat} {a : Block} {b origin inc no} (s : sub 17179869184 F) (h : Keeps F a b) :
    Keeps F a (Block.remember b origin inc no) := by
  unfold Block.remember
  extract_lets z0
  exact Keeps.upd (m := 17179869184) h (s.up rfl) (by intro p; cases p <;> first | exact .inl rfl | (right; simp only [Part.same, and_self]))

theorem Block.takeErr_keeps {F : Nat} {a : Block} {b p' typ pl} (s : sub 15561065953408 F) (h : Keeps F a b) :
    Keeps F a (Block.takeErr b p' typ pl) := by
  unfold Block.takeErr
  extract_lets z0 z1 z2 z3 z4 z5 z6 z7
  have h8 : Keeps F a z5 := by
    subst z5
    exact (Block.cinderRec_keeps (s.up rfl) (Block.remember_keeps (s.up rfl) h))
  have h9 : Keeps F a z7 := by
    subst z7
    refine Keeps.choice (fun h10 => ?_) (fun h10 => ?_)
    · refine Keeps.foldl (fun b x h => ?_) _ ?_
      · refine Block.loseCtx_keeps (s.up rfl) ?_
        exact h
      · exact h8
    · refine Keeps.choice (fun h11 => ?_) (fun h11 => ?_)
      · exact h8
      · exact (Block.event_keeps (s.up rfl) h8)
  refine Keeps.choice (fun h12 => ?_) (fun h12 => ?_)
  · exact h
  · exact (Block.forwardErr_keeps (s.up rfl) h9)

theorem Block.takeTs1_keeps {F : Nat} {a : Block} {b p' lane} (s : sub 15561065953920 F) (h : Keeps F a b) :
    Keeps F a (Block.takeTs1 b p' lane) := by
  unfold Block.takeTs1
  extract_lets z0 z1
  refine Keeps.choice (fun h2 => ?_) (fun h2 => ?_)
  · exact h
  · clear_value z1
    clear_value z0
    split
    · rename_i y3 y4
      exact (Block.modPort_keeps (s.up rfl) h)
    · rename_i y5 y6
      exact h
    · rename_i y7 y8
      exact h
    · rename_i y9 y10 y11 y12
      refine Keeps.choice (fun h13 => ?_) (fun h13 => ?_)
      · exact (Block.toTrain_keeps (s.up rfl) h)
      · exact h

theorem Block.measure_keeps {F : Nat} {a : Block} {b p'} (s : sub 536871040 F) (h : Keeps F a b) :
    Keeps F a (Block.measure b p') := by
  unfold Block.measure
  refine Keeps.choice (fun h0 => ?_) (fun h0 => ?_)
  · exact h
  · exact (Block.setPeriod_keeps (s.up rfl) h)

theorem Block.lockEdge_keeps {F : Nat} {a : Block} {b} (s : sub 13203266340992 F) (h : Keeps F a b) :
    Keeps F a (Block.lockEdge b) := by
  unfold Block.lockEdge
  extract_lets z0 z1 z2 z3 z4 z5 z6 z7
  have h8 : Keeps F a z6 := by
    subst z6
    exact (Block.modCad_keeps (s.up rfl) h)
  have h9 : Keeps F a z7 := by
    subst z7
    refine Keeps.choice (fun h10 => ?_) (fun h10 => ?_)
    · exact (Block.takeCadIn_keeps (s.up rfl) h8)
    · exact h8
  refine Keeps.choice (fun h11 => ?_) (fun h11 => ?_)
  · exact (Block.modCad_keeps (s.up rfl) h)
  · exact (Block.measure_keeps (s.up rfl) h9)

theorem Block.lockedEdge_keeps {F : Nat} {a : Block} {b} (s : sub 13203266340992 F) (h : Keeps F a b) :
    Keeps F a (Block.lockedEdge b) := by
  unfold Block.lockedEdge
  extract_lets z0 z1 z2 z3 z4 z5
  have h6 : Keeps F a z2 := by
    subst z2
    exact (Block.takeDue_keeps (s.up rfl) h)
  have h7 : Keeps F a z4 := by
    subst z4
    exact (Block.modCad_keeps (s.up rfl) h6)
  have h8 : Keeps F a z5 := by
    subst z5
    refine Keeps.choice (fun h9 => ?_) (fun h9 => ?_)
    · exact (Block.modCad_keeps (s.up rfl) h7)
    · refine Keeps.choice (fun h10 => ?_) (fun h10 => ?_)
      · exact (Block.takeCadIn_keeps (s.up rfl) h7)
      · exact h7
  refine Keeps.choice (fun h11 => ?_) (fun h11 => ?_)
  · exact (Block.count_keeps (s.up rfl) h)
  · exact (Block.measure_keeps (s.up rfl) h8)

theorem Block.cadIn_keeps {F : Nat} {a : Block} {b} (s : sub 13203266340992 F) (h : Keeps F a b) :
    Keeps F a (Block.cadIn b) := by
  unfold Block.cadIn
  refine Keeps.choice (fun h0 => ?_) (fun h0 => ?_)
  · exact h
  · extract_lets z1
    have h2 : Keeps F a z1 := by
      subst z1
      exact (Block.modCad_keeps (s.up rfl) h)
    refine Keeps.choice (fun h3 => ?_) (fun h3 => ?_)
    · refine Keeps.choice (fun h4 => ?_) (fun h4 => ?_)
      · exact (Block.lockEdge_keeps (s.up rfl) (Block.loseLock_keeps (s.up rfl) h2))
      · exact (Block.lockedEdge_keeps (s.up rfl) h2)
    · exact (Block.lockEdge_keeps (s.up rfl) h2)

theorem Block.takeMessage_keeps {F : Nat} {a : Block} {b p' pl} (s : sub 8589936768 F) (h : Keeps F a b) :
    Keeps F a (Block.takeMessage b p' pl) := by
  unfold Block.takeMessage
  extract_lets z0 z1
  have h2 : Keeps F a z1 := by
    subst z1
    exact (Block.modPort_keeps (s.up rfl) h)
  refine Keeps.choice (fun h3 => ?_) (fun h3 => ?_)
  · exact (Block.event_keeps (s.up rfl) h2)
  · exact h2

theorem Block.breakSem_keeps {F : Nat} {a : Block} {b path key k} (s : sub 3456 F) (h : Keeps F a b) :
    Keeps F a (Block.breakSem b path key k) := by
  unfold Block.breakSem
  refine Keeps.choice (fun h0 => ?_) (fun h0 => ?_)
  · exact (Block.pageErr_keeps (s.up rfl) h)
  · extract_lets z1
    refine Keeps.choice (fun h2 => ?_) (fun h2 => ?_)
    · exact h
    · exact (Block.event_keeps (s.up rfl) (Block.freeSem_keeps (s.up rfl) h))

theorem Block.makeCurrent_keeps {F : Nat} {a : Block} {b c v} (s : sub 2199115554816 F) (h : Keeps F a b) :
    Keeps F a (Block.makeCurrent b c v) := by
  unfold Block.makeCurrent
  extract_lets z0 z1 z2 z3 z4
  have h5 : Keeps F a z2 := by
    subst z2
    clear_value z4
    clear_value z3
    clear_value z1
    clear_value z0
    split
    · rename_i y6 y7
      exact (Block.modVersion_keeps (s.up rfl) h)
    · rename_i y8
      exact h
  have h9 : Keeps F a z3 := by
    subst z3
    exact (Block.modVersion_keeps (s.up rfl) h5)
  have h10 : Keeps F a z4 := by
    subst z4
    exact (Block.modCmd_keeps (s.up rfl) h9)
  refine Keeps.choice (fun h11 => ?_) (fun h11 => ?_)
  · exact (Block.failList_keeps (s.up rfl) h)
  · exact (Block.endCmd_keeps (s.up rfl) (Block.reapVersions_keeps (s.up rfl) h10))

theorem Block.faultWork_keeps {F : Nat} {a : Block} {b a' ctx va st} (s : sub 15543886084224 F) (h : Keeps F a b) :
    Keeps F a (Block.faultWork b a' ctx va st) := by
  unfold Block.faultWork
  split
  · rename_i y0 y1 y2
    split
    · rename_i y3 y4 y5
      exact (Block.faultCmd_keeps (s.up rfl) (Block.dropLoadOf_keeps (s.up rfl) h))
    · rename_i y6 y7
      exact h
  · rename_i y8 y9
    exact (Block.endWork_keeps (s.up rfl) h)

theorem Block.impOp_keeps {F : Nat} {a : Block} {b path f} (s : sub 2176 F) (h : Keeps F a b) (hf : ∀ v0, Keeps F a v0 → Keeps F a (f v0)) :
    Keeps F a (Block.impOp b path f) := by
  unfold Block.impOp
  refine Keeps.choice (fun h0 => ?_) (fun h0 => ?_)
  · exact (Block.pageErr_keeps (s.up rfl) h)
  · apply hf
    exact h

theorem Block.undrained_keeps {F : Nat} {a : Block} {b e} (s : sub 34944 F) (h : Keeps F a b) :
    Keeps F a (Block.undrained b e) := by
  unfold Block.undrained
  extract_lets z0 z1 z2
  have h3 : Keeps F a z1 := by
    subst z1
    exact (Block.setEng_keeps (s.up rfl) h)
  have h4 : Keeps F a z2 := by
    subst z2
    refine Keeps.choice (fun h5 => ?_) (fun h5 => ?_)
    · exact (Block.count_keeps (s.up rfl) h3)
    · exact (Block.setReg_keeps (s.up rfl) h3)
  exact (Block.event_keeps (s.up rfl) h4)

theorem Block.traceDecision_keeps {F : Nat} {a : Block} {b c batch} (s : sub 1099511627776 F) (h : Keeps F a b) :
    Keeps F a (Block.traceDecision b c batch) := by
  unfold Block.traceDecision
  extract_lets z0 z1
  exact (Block.traceAll_keeps (s.up rfl) h)

theorem Block.clearSig_keeps {F : Nat} {a : Block} {b} (s : sub 1073741824 F) (h : Keeps F a b) :
    Keeps F a (Block.clearSig b) := by
  unfold Block.clearSig
  exact (Block.mcMod_keeps (s.up rfl) h)

theorem Block.fence_keeps {F : Nat} {a : Block} {b a'} (s : sub 15959151078024 F) (h : Keeps F a b) :
    Keeps F a (Block.fence b a') := by
  unfold Block.fence
  extract_lets z0
  have h1 : Keeps F a z0 := by
    subst z0
    exact (Block.ccMod_keeps (s.up rfl) h)
  refine Keeps.choice (fun h2 => ?_) (fun h2 => ?_)
  · exact (Block.takeOver_keeps (s.up rfl) h1)
  · refine Keeps.choice (fun h3 => ?_) (fun h3 => ?_)
    · exact (Block.l1Reset_keeps (s.up rfl) h1)
    · exact h1

theorem Block.jobCommit_keeps {F : Nat} {a : Block} {b path v} (s : sub 6528 F) (h : Keeps F a b) :
    Keeps F a (Block.jobCommit b path v) := by
  unfold Block.jobCommit
  extract_lets z0 z1 z2 z3
  have h4 : Keeps F a z3 := by
    subst z3
    exact (Block.unstagePath_keeps (s.up rfl) h)
  refine Keeps.choice (fun h5 => ?_) (fun h5 => ?_)
  · exact (Block.pageErr_keeps (s.up rfl) h4)
  · exact (Block.setCtx_keeps (s.up rfl) h4)

theorem Block.rlDrop_keeps {F : Nat} {a : Block} {b p' c} (s : sub 15561065953920 F) (h : Keeps F a b) :
    Keeps F a (Block.rlDrop b p' c) := by
  unfold Block.rlDrop
  extract_lets z0 z1 z2 z3
  have h4 : Keeps F a z2 := by
    subst z2
    exact (Block.count32_keeps (s.up rfl) (Block.setPort_keeps (s.up rfl) h))
  refine Keeps.choice (fun h5 => ?_) (fun h5 => ?_)
  · exact (Block.isolate_keeps (s.up rfl) h4)
  · exact h4

theorem Block.consume_keeps {F : Nat} {a : Block} {b p' c} (s : sub 8589934592 F) (h : Keeps F a b) :
    Keeps F a (Block.consume b p' c) := by
  unfold Block.consume
  refine Keeps.choice (fun h0 => ?_) (fun h0 => ?_)
  · exact (Block.modPort_keeps (s.up rfl) h)
  · exact h

theorem Block.takeSync_keeps {F : Nat} {a : Block} {b p' f} (s : sub 25769803776 F) (h : Keeps F a b) :
    Keeps F a (Block.takeSync b p' f) := by
  unfold Block.takeSync
  refine Keeps.choice (fun h0 => ?_) (fun h0 => ?_)
  · exact h
  · extract_lets z1 z2 z3
    have h4 : Keeps F a z2 := by
      subst z2
      exact (Block.modPort_keeps (s.up rfl) h)
    refine Keeps.choice (fun h5 => ?_) (fun h5 => ?_)
    · exact Keeps.upd (m := 17179869184) h4 (s.up rfl) (by intro p; cases p <;> first | exact .inl rfl | (right; simp only [Part.same, and_self]))
    · exact h4

theorem Block.takeFollowUp_keeps {F : Nat} {a : Block} {b p' f} (s : sub 8589934592 F) (h : Keeps F a b) :
    Keeps F a (Block.takeFollowUp b p' f) := by
  unfold Block.takeFollowUp
  extract_lets z0 z1
  have h2 : Keeps F a z1 := by
    subst z1
    exact (Block.setPort_keeps (s.up rfl) h)
  refine Keeps.choice (fun h3 => ?_) (fun h3 => ?_)
  · exact h
  · exact (Block.sendFrame_keeps (s.up rfl) h2)

theorem Block.takeDelayReq_keeps {F : Nat} {a : Block} {b p' f} (s : sub 8589934592 F) (h : Keeps F a b) :
    Keeps F a (Block.takeDelayReq b p' f) := by
  unfold Block.takeDelayReq
  refine Keeps.choice (fun h0 => ?_) (fun h0 => ?_)
  · exact (Block.sendFrame_keeps (s.up rfl) h)
  · exact h

theorem Block.takeMirror_keeps {F : Nat} {a : Block} {b p' pl} (s : sub 13202729468032 F) (h : Keeps F a b) :
    Keeps F a (Block.takeMirror b p' pl) := by
  unfold Block.takeMirror
  refine Keeps.choice (fun h0 => ?_) (fun h0 => ?_)
  · extract_lets z1 z2
    exact (Block.cinderPut_keeps (s.up rfl) h)
  · exact h

theorem Block.rxContent_keeps {F : Nat} {a : Block} {b p' f} (s : sub 15561602824848 F) (h : Keeps F a b) :
    Keeps F a (Block.rxContent b p' f) := by
  unfold Block.rxContent
  split
  · rename_i y0 y1 y2 y3
    exact (Block.takeSync_keeps (s.up rfl) h)
  · rename_i y4 y5 y6 y7
    exact (Block.takeFollowUp_keeps (s.up rfl) h)
  · rename_i y8 y9 y10 y11
    exact (Block.takeDelayReq_keeps (s.up rfl) h)
  · rename_i y12 y13 y14 y15
    exact (Block.takeDelayResp_keeps (s.up rfl) h)
  · rename_i y16 y17 y18
    exact (Block.takeErr_keeps (s.up rfl) h)
  · rename_i y19 y20 y21
    exact (Block.takeHeartbeat_keeps (s.up rfl) h)
  · rename_i y22 y23 y24
    exact (Block.takeRelayFrame_keeps (s.up rfl) h)
  · rename_i y25 y26 y27
    exact (Block.takeMirror_keeps (s.up rfl) h)
  · rename_i y28 y29 y30
    exact (Block.takeMessage_keeps (s.up rfl) h)
  · rename_i y31 y32 y33 y34 y35 y36 y37 y38 y39 y40 y41
    exact h

theorem Block.rxTake_keeps {F : Nat} {a : Block} {b p' f} (s : sub 15561602824848 F) (h : Keeps F a b) :
    Keeps F a (Block.rxTake b p' f) := by
  unfold Block.rxTake
  extract_lets z0
  have h1 : Keeps F a z0 := by
    subst z0
    exact (Block.rxContent_keeps (s.up rfl) h)
  refine Keeps.choice (fun h2 => ?_) (fun h2 => ?_)
  · exact h1
  · exact (Block.consume_keeps (s.up rfl) h1)

theorem Block.rxAccept_keeps {F : Nat} {a : Block} {b p' f} (s : sub 15561602824848 F) (h : Keeps F a b) :
    Keeps F a (Block.rxAccept b p' f) := by
  unfold Block.rxAccept
  extract_lets z0
  have h1 : Keeps F a z0 := by
    subst z0
    exact (Block.modPort_keeps (s.up rfl) h)
  clear_value z0
  split
  · rename_i y2 y3
    exact (Block.rlDrop_keeps (s.up rfl) (Block.consume_keeps (s.up rfl) h1))
  · rename_i y4 y5 y6
    extract_lets z7
    have h8 : Keeps F a z7 := by
      subst z7
      exact (Block.setPort_keeps (s.up rfl) h1)
    refine Keeps.choice (fun h9 => ?_) (fun h9 => ?_)
    · exact (Block.modPort_keeps (s.up rfl) h8)
    · exact (Block.rxTake_keeps (s.up rfl) h8)

theorem Block.ringPoison_keeps {F : Nat} {a : Block} {b q a'} (s : sub 15543886084224 F) (h : Keeps F a b) :
    Keeps F a (Block.ringPoison b q a') := by
  unfold Block.ringPoison
  extract_lets z0
  exact (Block.loseCtx_keeps (s.up rfl) (Block.notePoison_keeps (s.up rfl) h))

theorem Block.ringRead_keeps {F : Nat} {a b b' : Block} {q va n : Nat} (s : sub 15544020301952 F) (h : Keeps F a b)
    (e : b.ringRead q va n = .inr b') : Keeps F a b' := by
  unfold Block.ringRead at e
  split at e
  · cases e
  · injection e with e
    subst e
    exact Block.ringPoison_keeps (s.up rfl) h
  · injection e with e
    subst e
    exact Block.ringFault_keeps (s.up rfl) h
  · injection e with e
    subst e
    exact Block.meet_keeps (s.up rfl) h

theorem Block.passFetch_keeps {F : Nat} {a : Block} {b q n} (s : sub 8396800 F) (h : Keeps F a b) :
    Keeps F a (Block.passFetch b q n) := by
  unfold Block.passFetch
  extract_lets z0
  refine Block.setQueue_keeps (s.up rfl) ?_
  exact Keeps.upd (m := 8388608) h (s.up rfl) (by intro p; cases p <;> first | exact .inl rfl | (right; simp only [Part.same, and_self]))

theorem Block.failNew_keeps {F : Nat} {a : Block} {b c st} (s : sub 15543886084224 F) (h : Keeps F a b) :
    Keeps F a (Block.failNew b c st) := by
  unfold Block.failNew
  extract_lets z0
  have h1 : Keeps F a z0 := by
    subst z0
    exact Keeps.upd (m := 8192) h (s.up rfl) (by intro p; cases p <;> first | exact .inl rfl | (right; simp only [Part.same, and_self]))
  refine Keeps.choice (fun h2 => ?_) (fun h2 => ?_)
  · exact (Block.loseCtx_keeps (s.up rfl) h1)
  · exact h1

theorem Block.takeIn_keeps {F : Nat} {a : Block} {b c p'} (s : sub 125853696 F) (h : Keeps F a b) :
    Keeps F a (Block.takeIn b c p') := by
  unfold Block.takeIn
  extract_lets z0 z1 z2 z3
  have h4 : Keeps F a z2 := by
    subst z2
    refine Block.addPins_keeps (s.up rfl) ?_
    exact Keeps.upd (m := 8192) h (s.up rfl) (by intro p; cases p <;> first | exact .inl rfl | (right; simp only [Part.same, and_self]))
  refine Keeps.choice (fun h5 => ?_) (fun h5 => ?_)
  · exact (Block.endCmd_keeps (s.up rfl) h4)
  · exact Keeps.upd (m := 8388608) h4 (s.up rfl) (by intro p; cases p <;> first | exact .inl rfl | (right; simp only [Part.same, and_self]))

theorem Block.takeNew_keeps {F : Nat} {a : Block} {b q n c w} (s : sub 15544020301952 F) (h : Keeps F a b) :
    Keeps F a (Block.takeNew b q n c w).2 := by
  unfold Block.takeNew
  refine Keeps.choice2 (fun h0 => ?_) (fun h0 => ?_)
  · dsimp -zeta only
    exact (Block.passFetch_keeps (s.up rfl) (Block.failNew_keeps (s.up rfl) h))
  · split
    · rename_i y1 y2 y3
      refine Keeps.choice2 (fun h4 => ?_) (fun h4 => ?_)
      · dsimp -zeta only
        exact Keeps.upd (m := 8388608) h (s.up rfl) (by intro p; cases p <;> first | exact .inl rfl | (right; simp only [Part.same, and_self]))
      · refine Keeps.choice2 (fun h5 => ?_) (fun h5 => ?_)
        · dsimp -zeta only
          exact Keeps.upd (m := 16777216) h (s.up rfl) (by intro p; cases p <;> first | exact .inl rfl | (right; simp only [Part.same, and_self]))
        · dsimp -zeta only
          refine Block.fixDeadlines_keeps (s.up rfl) ?_
          refine Block.passFetch_keeps (s.up rfl) ?_
          refine Block.takeIn_keeps (s.up rfl) ?_
          exact Keeps.upd (m := 16777216) h (s.up rfl) (by intro p; cases p <;> first | exact .inl rfl | (right; simp only [Part.same, and_self]))
    · rename_i y6 y7 y8
      dsimp -zeta only
      exact (Block.passFetch_keeps (s.up rfl) (Block.failNew_keeps (s.up rfl) h))
    · rename_i y9 y10 y11 y12
      dsimp -zeta only
      exact (Block.passFetch_keeps (s.up rfl) (Block.poisonNew_keeps (s.up rfl) h))
    · rename_i y13 y14 y15 y16
      dsimp -zeta only
      exact (Block.meet_keeps (s.up rfl) h)

theorem Block.fetchOne_keeps {F : Nat} {a : Block} {b q} (s : sub 15544020301952 F) (h : Keeps F a b) :
    Keeps F a (Block.fetchOne b q).2 := by
  unfold Block.fetchOne
  extract_lets z0 z1 z2
  clear_value z2
  clear_value z1
  clear_value z0
  split
  · rename_i y3 y4 y5
    have h6 := Block.ringRead_keeps (s.up rfl) h y5
    dsimp -zeta only
    exact h6
  · rename_i y7 y8 y9
    extract_lets z11
    refine Keeps.choice2 (fun h12 => ?_) (fun h12 => ?_)
    · dsimp -zeta only
      exact h
    · clear_value z11
      split
      · rename_i y15 y16 y17
        have h19 := Block.ringRead_keeps (s.up rfl) h y17
        dsimp -zeta only
        exact h19
      · rename_i y20 y21 y22
        extract_lets z25 z26
        refine Keeps.choice2 (fun h27 => ?_) (fun h27 => ?_)
        · dsimp -zeta only
          exact h
        · refine Block.takeNew_keeps (s.up rfl) ?_
          exact h

theorem Block.fetchBlockN_keeps {F : Nat} {a : Block} {q k : Nat} (s : sub 15544020301952 F) : ∀ {n : Nat} {b : Block}, Keeps F a b → Keeps F a (Block.fetchBlockN q k n b)
  | 0, _, h => h
  | n + 1, b, h => by
    unfold Block.fetchBlockN
    split
    · extract_lets r
      have hr : Keeps F a r.2 := by
        subst r
        exact Block.fetchOne_keeps (s.up rfl) h
      split
      · exact Block.fetchBlockN_keeps s hr
      · exact hr
    · exact h

theorem Block.setOrder_keeps {F : Nat} {a : Block} {b o} (s : sub 34359738496 F) (h : Keeps F a b) :
    Keeps F a (Block.setOrder b o) := by
  unfold Block.setOrder
  extract_lets z0 z1
  have h2 : Keeps F a z1 := by
    subst z1
    exact (Block.setReg_keeps (s.up rfl) h)
  exact Keeps.upd (m := 34359738368) h2 (s.up rfl) (by intro p; cases p <;> first | exact .inl rfl | (right; simp only [Part.same, and_self]))

theorem Block.acceptOrder_keeps {F : Nat} {a : Block} {b level target} (s : sub 87411173359582 F) (h : Keeps F a b) :
    Keeps F a (Block.acceptOrder b level target) := by
  unfold Block.acceptOrder
  extract_lets z0 z1
  have h2 : Keeps F a z1 := by
    subst z1
    exact (Block.cinderRec_keeps (s.up rfl) (Block.setOrder_keeps (s.up rfl) h))
  refine Keeps.choice (fun h3 => ?_) (fun h3 => ?_)
  · exact (Block.endOrder_keeps (s.up rfl) (Block.setOrder_keeps (s.up rfl) h2))
  · refine Keeps.choice (fun h4 => ?_) (fun h4 => ?_)
    · exact h2
    · exact (Block.actOrder_keeps (s.up rfl) h2)

theorem Block.takeHeld_keeps {F : Nat} {a : Block} {b w} (s : sub 87411173359582 F) (h : Keeps F a b) :
    Keeps F a (Block.takeHeld b w) := by
  unfold Block.takeHeld
  exact (Block.acceptOrder_keeps (s.up rfl) h)

theorem Block.startItem_keeps {F : Nat} {a : Block} {b t w} (s : sub 15544020301952 F) (h : Keeps F a b) :
    Keeps F a (Block.startItem b t w) := by
  unfold Block.startItem
  extract_lets z0
  subst z0
  split
  · rename_i y1 y2
    dsimp -zeta only
    refine Block.modTask_keeps (s.up rfl) ?_
    exact Keeps.upd (m := 8388608) h (s.up rfl) (by intro p; cases p <;> first | exact .inl rfl | (right; simp only [Part.same, and_self]))
  · rename_i y3 y4 y5
    split
    · rename_i y6 y7 y8
      dsimp -zeta only
      refine Block.modTask_keeps (s.up rfl) ?_
      exact Keeps.upd (m := 8388608) h (s.up rfl) (by intro p; cases p <;> first | exact .inl rfl | (right; simp only [Part.same, and_self]))
    · rename_i y9 y10
      extract_lets z11 z12 z13 z14
      have h15 : Keeps F a z13 := by
        subst z13
        dsimp -zeta only
        refine Block.modTask_keeps (s.up rfl) ?_
        exact Keeps.upd (m := 8388608) h (s.up rfl) (by intro p; cases p <;> first | exact .inl rfl | (right; simp only [Part.same, and_self]))
      have h16 : Keeps F a z14 := by
        subst z14
        refine Keeps.foldl (fun b x h => ?_) _ ?_
        · refine Block.setEng_keeps (s.up rfl) ?_
          exact h
        · exact h15
      refine Keeps.choice (fun h17 => ?_) (fun h17 => ?_)
      · exact h16
      · refine Keeps.foldl (fun b x h => ?_) _ ?_
        · refine Block.loadArgs_keeps (s.up rfl) ?_
          exact h
        · exact (Block.openLane_keeps (s.up rfl) h16)

theorem Block.settlePosted_keeps {F : Nat} {a : Block} {b} (s : sub 15544020301952 F) (h : Keeps F a b) :
    Keeps F a (Block.settlePosted b) := by
  unfold Block.settlePosted
  refine Keeps.foldl (fun b x h => ?_) _ ?_
  · split
    · rename_i y0 y1 y2
      refine Keeps.choice (fun h3 => ?_) (fun h3 => ?_)
      · exact h
      · exact (Block.leaveCmd_keeps (s.up rfl) h)
    · rename_i y4 y5
      exact h
  · exact h

theorem wdCtlWrite_keeps {F : Nat} {a : Block} {x0 x1 x2 x3} (s : sub 34359740544 F) (h : Keeps F a x0) :
    Keeps F a (wdCtlWrite x0 x1 x2 x3) := by
  unfold wdCtlWrite
  extract_lets z0
  have h1 : Keeps F a z0 := by
    subst z0
    exact (plainWrite_keeps (s.up rfl) h)
  exact Keeps.upd (m := 34359738368) h1 (s.up rfl) (by intro p; cases p <;> first | exact .inl rfl | (right; simp only [Part.same, and_self]))

theorem Block.enterQuarantine_keeps {F : Nat} {a : Block} {b p'} (s : sub 8589934592 F) (h : Keeps F a b) :
    Keeps F a (Block.enterQuarantine b p') := by
  unfold Block.enterQuarantine
  exact (Block.modPort_keeps (s.up rfl) h)

theorem Block.takeIdent_keeps {F : Nat} {a : Block} {b p' pl} (s : sub 15561065953920 F) (h : Keeps F a b) :
    Keeps F a (Block.takeIdent b p' pl) := by
  unfold Block.takeIdent
  extract_lets z0 z1 z2 z3 z4
  have h5 : Keeps F a z3 := by
    subst z3
    refine Keeps.choice (fun h6 => ?_) (fun h6 => ?_)
    · exact h
    · exact (Block.setReg_keeps (s.up rfl) (Block.setReg_keeps (s.up rfl) h))
  have h7 : Keeps F a z4 := by
    subst z4
    exact (Block.modPort_keeps (s.up rfl) h5)
  refine Keeps.choice (fun h8 => ?_) (fun h8 => ?_)
  · exact (Block.isolate_keeps (s.up rfl) h5)
  · refine Keeps.choice (fun h9 => ?_) (fun h9 => ?_)
    · exact (Block.isolate_keeps (s.up rfl) h5)
    · refine Keeps.choice (fun h10 => ?_) (fun h10 => ?_)
      · refine Keeps.choice (fun h11 => ?_) (fun h11 => ?_)
        · exact (Block.enterQuarantine_keeps (s.up rfl) h7)
        · exact h7
      · exact h5

theorem Block.rebaseTerms_keeps {F : Nat} {a : Block} {b} (s : sub 268443648 F) (h : Keeps F a b) :
    Keeps F a (Block.rebaseTerms b) := by
  unfold Block.rebaseTerms
  exact Keeps.upd (m := 268443648) h (s.up rfl) (by intro p; cases p <;> first | exact .inl rfl | (right; simp only [Part.same, and_self]))

theorem Block.rebase_keeps {F : Nat} {a : Block} {b cause} (s : sub 13202997913728 F) (h : Keeps F a b) :
    Keeps F a (Block.rebase b cause) := by
  unfold Block.rebase
  extract_lets z0 z1 z2 z3 z4
  have h5 : Keeps F a z0 := by
    subst z0
    exact (Block.rebaseTerms_keeps (s.up rfl) h)
  have h6 : Keeps F a z1 := by
    subst z1
    exact (Block.setField_keeps (s.up rfl) h5)
  have h7 : Keeps F a z2 := by
    subst z2
    exact (Block.setField_keeps (s.up rfl) h6)
  have h8 : Keeps F a z3 := by
    subst z3
    exact (Block.count_keeps (s.up rfl) h7)
  have h9 : Keeps F a z4 := by
    subst z4
    exact (Block.cinderRec_keeps (s.up rfl) h8)
  exact (Block.event_keeps (s.up rfl) h9)

theorem Block.doRelease_keeps {F : Nat} {a : Block} {b} (s : sub 281034912 F) (h : Keeps F a b) :
    Keeps F a (Block.doRelease b) := by
  unfold Block.doRelease
  extract_lets z0
  refine Keeps.choice (fun h1 => ?_) (fun h1 => ?_)
  · exact (Block.impResult_keeps (s.up rfl) (Block.freeVid_keeps (s.up rfl) h))
  · exact (Block.impResult_keeps (s.up rfl) h)

theorem Block.setWindow_keeps {F : Nat} {a : Block} {b on} (s : sub 4194464 F) (h : Keeps F a b) :
    Keeps F a (Block.setWindow b on) := by
  unfold Block.setWindow
  split
  · rename_i y0 y1 y2
    exact (Block.impResult_keeps (s.up rfl) (Block.setSlot_keeps (s.up rfl) h))
  · rename_i y3 y4
    exact (Block.impResult_keeps (s.up rfl) h)

theorem impWrite_keeps {F : Nat} {a : Block} {x0 x1 x2 x3} (s : sub 281036960 F) (h : Keeps F a x0) :
    Keeps F a (impWrite x0 x1 x2 x3) := by
  unfold impWrite
  refine Block.impOp_keeps (s.up rfl) ?_ ?_
  · exact h
  · intro x0 h1
    split
    · rename_i y2 y3
      exact (Block.doImport_keeps (s.up rfl) h1)
    · rename_i y4 y5
      exact (Block.doRelease_keeps (s.up rfl) h1)
    · rename_i y6 y7
      exact (Block.setWindow_keeps (s.up rfl) h1)
    · rename_i y8 y9 y10 y11
      exact (Block.setWindow_keeps (s.up rfl) h1)

theorem Block.reservedWrite_keeps {F : Nat} {a : Block} {b path a'} (s : sub 2176 F) (h : Keeps F a b) :
    Keeps F a (Block.reservedWrite b path a') := by
  unfold Block.reservedWrite
  extract_lets z0
  subst z0
  refine Block.outsideWrite_keeps (s.up rfl) ?_ ?_ ?_
  · exact h
  · intro x1 h2
    exact (Block.accessErr_keeps (s.up rfl) h2)
  · intro x3 h4
    exact (Block.accessErr_keeps (s.up rfl) h4)

theorem Block.workTick_keeps {F : Nat} {a : Block} {b} (s : sub 139264 F) (h : Keeps F a b) :
    Keeps F a (Block.workTick b) := by
  unfold Block.workTick
  exact Keeps.upd (m := 139264) h (s.up rfl) (by intro p; cases p <;> first | exact .inl rfl | (right; simp only [Part.same, and_self]))

theorem Block.cadenceMet_keeps {F : Nat} {a : Block} {b c target} (s : sub 92299264 F) (h : Keeps F a b) :
    Keeps F a (Block.cadenceMet b c target) := by
  unfold Block.cadenceMet
  exact (Block.endCmd_keeps (s.up rfl) (Block.setQueue_keeps (s.up rfl) h))

theorem Block.unstage_keeps {F : Nat} {a : Block} {b p'} (s : sub 256 F) (h : Keeps F a b) :
    Keeps F a (Block.unstage b p') := by
  unfold Block.unstage
  exact Keeps.upd (m := 256) h (s.up rfl) (by intro p; cases p <;> first | exact .inl rfl | (right; simp only [Part.same, and_self]))

theorem selWrite_keeps {F : Nat} {a : Block} {l x1 x2 x3 x4} (s : sub 2432 F) (h : Keeps F a x1) :
    Keeps F a (selWrite l x1 x2 x3 x4) := by
  unfold selWrite
  exact (plainWrite_keeps (s.up rfl) (Block.unstage_keeps (s.up rfl) h))

theorem Block.rxGood_keeps {F : Nat} {a : Block} {b p' f} (s : sub 8589934592 F) (h : Keeps F a b) :
    Keeps F a (Block.rxGood b p' f) := by
  unfold Block.rxGood
  exact (Block.modPort_keeps (s.up rfl) h)

theorem Block.stage_keeps {F : Nat} {a : Block} {b path a' v} (s : sub 256 F) (h : Keeps F a b) :
    Keeps F a (Block.stage b path a' v) := by
  unfold Block.stage
  exact Keeps.upd (m := 256) h (s.up rfl) (by intro p; cases p <;> first | exact .inl rfl | (right; simp only [Part.same, and_self]))

theorem stageWrite_keeps {F : Nat} {a : Block} {m' x1 x2 x3 x4} (s : sub 256 F) (h : Keeps F a x1) :
    Keeps F a (stageWrite m' x1 x2 x3 x4) := by
  unfold stageWrite
  exact (Block.stage_keeps (s.up rfl) h)

theorem Block.dmaWrite_keeps {F : Nat} {a : Block} {b space e a' ps xs} (s : sub 141769310208 F) (h : Keeps F a b) :
    Keeps F a (Block.dmaWrite b space e a' ps xs) := by
  unfold Block.dmaWrite
  refine Keeps.choice (fun h0 => ?_) (fun h0 => ?_)
  · exact (Block.putBytes_keeps (s.up rfl) h)
  · exact (Block.writeSpace_keeps (s.up rfl) h)

theorem Block.bndCommit_keeps {F : Nat} {a : Block} {b path v} (s : sub 4196736 F) (h : Keeps F a b) :
    Keeps F a (Block.bndCommit b path v) := by
  unfold Block.bndCommit
  extract_lets z0 z1 z2 z3
  have h4 : Keeps F a z3 := by
    subst z3
    exact (Block.unstagePath_keeps (s.up rfl) h)
  clear_value z3
  clear_value z2
  clear_value z1
  clear_value z0
  split
  · rename_i y5 y6 y7 y8 y9 y10
    refine Keeps.choice (fun h11 => ?_) (fun h11 => ?_)
    · exact (Block.setBound_keeps (s.up rfl) h4)
    · exact (Block.pageErr_keeps (s.up rfl) (Block.setBound_keeps (s.up rfl) h4))
  · rename_i y12 y13 y14
    exact (Block.pageErr_keeps (s.up rfl) (Block.setBound_keeps (s.up rfl) h4))

theorem Block.windowEnd_keeps {F : Nat} {a : Block} {b} (s : sub 1073741952 F) (h : Keeps F a b) :
    Keeps F a (Block.windowEnd b) := by
  unfold Block.windowEnd
  extract_lets z0 z1 z2 z3 z4 z5 z6
  have h7 : Keeps F a z5 := by
    subst z5
    exact (Block.setReg_keeps (s.up rfl) h)
  exact Keeps.upd (m := 1073741824) h7 (s.up rfl) (by intro p; cases p <;> first | exact .inl rfl | (right; simp only [Part.same, and_self]))

theorem Block.replaceEngine_keeps {F : Nat} {a : Block} {b e n} (s : sub 13756780571264 F) (h : Keeps F a b) :
    Keeps F a (Block.replaceEngine b e n) := by
  unfold Block.replaceEngine
  extract_lets z0 z1 z2 z3 z4 z5 z6 z7
  have h8 : Keeps F a z2 := by
    subst z2
    exact (Block.enterInst_keeps (s.up rfl) (Block.dropEngine_keeps (s.up rfl) h))
  have h9 : Keeps F a z4 := by
    subst z4
    exact (Block.setEng_keeps (s.up rfl) h8)
  have h10 : Keeps F a z5 := by
    subst z5
    clear_value z7
    clear_value z6
    clear_value z4
    clear_value z3
    clear_value z2
    clear_value z1
    clear_value z0
    split
    · rename_i y11 y12
      exact (Block.setHarness_keeps (s.up rfl) h9)
    · rename_i y13
      exact h9
  have h14 : Keeps F a z6 := by
    subst z6
    exact (Block.mapCmds_keeps (s.up rfl) h10)
  have h15 : Keeps F a z7 := by
    subst z7
    refine Keeps.choice (fun h16 => ?_) (fun h16 => ?_)
    · exact (Block.lightEngs_keeps (s.up rfl) h14)
    · exact h14
  exact (Block.changeCaps_keeps (s.up rfl) h15)

theorem Block.sendNak_keeps {F : Nat} {a : Block} {b p'} (s : sub 8589934592 F) (h : Keeps F a b) :
    Keeps F a (Block.sendNak b p') := by
  unfold Block.sendNak
  extract_lets z0
  refine Keeps.choice (fun h1 => ?_) (fun h1 => ?_)
  · exact h
  · exact (Block.setPort_keeps (s.up rfl) h)

theorem Block.replayJournal_keeps {F : Nat} {a : Block} {b} (s : sub 262144 F) (h : Keeps F a b) :
    Keeps F a (Block.replayJournal b) := by
  unfold Block.replayJournal
  refine Keeps.foldl (fun b x h => ?_) _ ?_
  · refine Block.putLine_keeps (s.up rfl) ?_
    exact h
  · exact h

theorem Block.enterState_keeps {F : Nat} {a : Block} {b st} (s : sub 13202729470088 F) (h : Keeps F a b) :
    Keeps F a (Block.enterState b st) := by
  unfold Block.enterState
  refine Block.event_keeps (s.up rfl) ?_
  refine Block.cinderRec_keeps (s.up rfl) ?_
  exact Keeps.upd (m := 8) h (s.up rfl) (by intro p; cases p <;> first | exact .inl rfl | (right; simp only [Part.same, and_self]))

theorem Block.enterReady_keeps {F : Nat} {a : Block} {b} (s : sub 13206487644808 F) (h : Keeps F a b) :
    Keeps F a (Block.enterReady b) := by
  unfold Block.enterReady
  extract_lets z0 z1 z2
  have h3 : Keeps F a z0 := by
    subst z0
    exact (Block.openKq0_keeps (s.up rfl) (Block.writeCaps_keeps (s.up rfl) h))
  have h4 : Keeps F a z1 := by
    subst z1
    exact (Block.startCadence_keeps (s.up rfl) (Block.startCore_keeps (s.up rfl) h3))
  have h5 : Keeps F a z2 := by
    subst z2
    exact (Block.enterState_keeps (s.up rfl) h4)
  refine Keeps.foldl (fun b x h => ?_) _ ?_
  · refine Keeps.choice (fun h6 => ?_) (fun h6 => ?_)
    · exact h
    · exact (Block.poolEvent_keeps (s.up rfl) h)
  · exact h5

theorem Block.goReady_keeps {F : Nat} {a : Block} {b path} (s : sub 13206487644808 F) (h : Keeps F a b) :
    Keeps F a (Block.goReady b path) := by
  unfold Block.goReady
  refine Keeps.choice (fun h0 => ?_) (fun h0 => ?_)
  · exact (Block.pageErr_keeps (s.up rfl) h)
  · extract_lets z1
    refine Keeps.choice (fun h2 => ?_) (fun h2 => ?_)
    · exact (Block.enterReady_keeps (s.up rfl) h)
    · exact (Block.setReg_keeps (s.up rfl) h)

theorem Block.lightAll_keeps {F : Nat} {a : Block} {b} (s : sub 32768 F) (h : Keeps F a b) :
    Keeps F a (Block.lightAll b) := by
  unfold Block.lightAll
  exact (Block.lightEngs_keeps (s.up rfl) h)

theorem Block.goRun_keeps {F : Nat} {a : Block} {b path} (s : sub 13202729502856 F) (h : Keeps F a b) :
    Keeps F a (Block.goRun b path) := by
  unfold Block.goRun
  refine Keeps.choice (fun h0 => ?_) (fun h0 => ?_)
  · exact (Block.pageErr_keeps (s.up rfl) h)
  · refine Keeps.choice (fun h1 => ?_) (fun h1 => ?_)
    · exact (Block.setReg_keeps (s.up rfl) h)
    · exact (Block.lightAll_keeps (s.up rfl) (Block.enterState_keeps (s.up rfl) h))

theorem glbCtlWrite_keeps {F : Nat} {a : Block} {x0 x1 x2 x3} (s : sub 13206487677576 F) (h : Keeps F a x0) :
    Keeps F a (glbCtlWrite x0 x1 x2 x3) := by
  unfold glbCtlWrite
  extract_lets z0
  have h1 : Keeps F a z0 := by
    subst z0
    refine Keeps.choice (fun h2 => ?_) (fun h2 => ?_)
    · exact (Block.goReady_keeps (s.up rfl) h)
    · exact h
  refine Keeps.choice (fun h3 => ?_) (fun h3 => ?_)
  · exact (Block.goRun_keeps (s.up rfl) h1)
  · exact h1

theorem Block.cnCtlWrite_keeps {F : Nat} {a : Block} {b v} (s : sub 8796093022336 F) (h : Keeps F a b) :
    Keeps F a (Block.cnCtlWrite b v) := by
  unfold Block.cnCtlWrite
  extract_lets z0 z1
  have h2 : Keeps F a z1 := by
    subst z1
    refine Keeps.choice (fun h3 => ?_) (fun h3 => ?_)
    · exact Keeps.upd (m := 8796093022208) h (s.up rfl) (by intro p; cases p <;> first | exact .inl rfl | (right; simp only [Part.same, and_self]))
    · exact h
  exact (Block.setReg_keeps (s.up rfl) h2)

theorem Block.commitWrite_keeps {F : Nat} {a : Block} {b path v} (s : sub 18560 F) (h : Keeps F a b) :
    Keeps F a (Block.commitWrite b path v) := by
  unfold Block.commitWrite
  extract_lets z0 z1 z2 z3
  refine Keeps.choice (fun h4 => ?_) (fun h4 => ?_)
  · refine Keeps.choice (fun h5 => ?_) (fun h5 => ?_)
    · exact (Block.pageErr_keeps (s.up rfl) h)
    · exact (Block.setHarness_keeps (s.up rfl) h)
  · exact (Block.setHarness_keeps (s.up rfl) h)

theorem Block.rxRelease_keeps {F : Nat} {a : Block} {b p'} (s : sub 15561602824848 F) (h : Keeps F a b) :
    Keeps F a (Block.rxRelease b p') := by
  unfold Block.rxRelease
  extract_lets z0
  refine Keeps.foldl (fun b x h => ?_) _ ?_
  · refine Keeps.choice (fun h1 => ?_) (fun h1 => ?_)
    · exact (Block.rxTake_keeps (s.up rfl) h)
    · exact h
  · exact (Block.modPort_keeps (s.up rfl) h)

theorem Block.linkRelease_keeps {F : Nat} {a : Block} {b} (s : sub 15561602824848 F) (h : Keeps F a b) :
    Keeps F a (Block.linkRelease b) := by
  unfold Block.linkRelease
  extract_lets z0 z1 z2
  have h3 : Keeps F a z1 := by
    subst z1
    exact Keeps.upd (m := 17179869184) h (s.up rfl) (by intro p; cases p <;> first | exact .inl rfl | (right; simp only [Part.same, and_self]))
  have h4 : Keeps F a z2 := by
    subst z2
    refine Keeps.foldl (fun b x h => ?_) _ ?_
    · refine Block.linkNote_keeps (s.up rfl) ?_
      exact h
    · exact h3
  refine Keeps.foldl (fun b x h => ?_) _ ?_
  · refine Block.rxRelease_keeps (s.up rfl) ?_
    exact h
  · exact h4

theorem traceBaseWrite_keeps {F : Nat} {a : Block} {x0 x1 x2 x3} (s : sub 256 F) (h : Keeps F a x0) :
    Keeps F a (traceBaseWrite x0 x1 x2 x3) := by
  unfold traceBaseWrite
  refine Keeps.choice (fun h0 => ?_) (fun h0 => ?_)
  · exact h
  · exact (Block.stage_keeps (s.up rfl) h)

theorem Block.mgGo_keeps {F : Nat} {a : Block} {b path p'} (s : sub 8589936768 F) (h : Keeps F a b) :
    Keeps F a (Block.mgGo b path p') := by
  unfold Block.mgGo
  extract_lets z0 z1
  have h2 : Keeps F a z1 := by
    subst z1
    exact (Block.setField_keeps (s.up rfl) (Block.setPort_keeps (s.up rfl) h))
  refine Keeps.choice (fun h3 => ?_) (fun h3 => ?_)
  · exact (Block.pageErr_keeps (s.up rfl) h)
  · exact (Block.sendFrame_keeps (s.up rfl) h2)

theorem Block.dtCommit_keeps {F : Nat} {a : Block} {b path v} (s : sub 6528 F) (h : Keeps F a b) :
    Keeps F a (Block.dtCommit b path v) := by
  unfold Block.dtCommit
  extract_lets z0 z1 z2 z3 z4
  have h5 : Keeps F a z4 := by
    subst z4
    exact (Block.unstagePath_keeps (s.up rfl) h)
  refine Keeps.choice (fun h6 => ?_) (fun h6 => ?_)
  · exact h
  · refine Keeps.choice (fun h7 => ?_) (fun h7 => ?_)
    · exact (Block.pageErr_keeps (s.up rfl) h5)
    · exact (Block.setCtx_keeps (s.up rfl) h5)

theorem Block.order__keeps {F : Nat} {a : Block} {b path level target} (s : sub 87411173359582 F) (h : Keeps F a b) :
    Keeps F a (Block.order_ b path level target) := by
  unfold Block.order_
  extract_lets z0 z1
  refine Keeps.choice (fun h2 => ?_) (fun h2 => ?_)
  · exact (Block.pageErr_keeps (s.up rfl) h)
  · refine Keeps.choice (fun h3 => ?_) (fun h3 => ?_)
    · refine Keeps.choice (fun h4 => ?_) (fun h4 => ?_)
      · exact (Block.pageErr_keeps (s.up rfl) h)
      · exact Keeps.upd (m := 4398046511104) h (s.up rfl) (by intro p; cases p <;> first | exact .inl rfl | (right; simp only [Part.same, and_self]))
    · refine Keeps.choice (fun h5 => ?_) (fun h5 => ?_)
      · exact h
      · refine Keeps.choice (fun h6 => ?_) (fun h6 => ?_)
        · exact (Block.pageErr_keeps (s.up rfl) h)
        · exact (Block.acceptOrder_keeps (s.up rfl) h)

theorem orderWrite_keeps {F : Nat} {a : Block} {x0 x1 x2 x3} (s : sub 87411173359582 F) (h : Keeps F a x0) :
    Keeps F a (orderWrite x0 x1 x2 x3) := by
  unfold orderWrite
  extract_lets z0 z1
  refine Keeps.choice (fun h2 => ?_) (fun h2 => ?_)
  · exact (Block.pageErr_keeps (s.up rfl) h)
  · refine Keeps.choice (fun h3 => ?_) (fun h3 => ?_)
    · exact (Block.pageErr_keeps (s.up rfl) h)
    · exact (Block.order__keeps (s.up rfl) h)

theorem Block.beatEng_keeps {F : Nat} {a : Block} {b e} (s : sub 139264 F) (h : Keeps F a b) :
    Keeps F a (Block.beatEng b e) := by
  unfold Block.beatEng
  split
  · rename_i y0 y1 y2 y3
    exact (Block.modCmd_keeps (s.up rfl) h)
  · rename_i y4 y5
    exact (Block.progressEng_keeps (s.up rfl) h)

theorem Block.endInvocation_keeps {F : Nat} {a : Block} {b e} (s : sub 15544020301952 F) (h : Keeps F a b) :
    Keeps F a (Block.endInvocation b e) := by
  unfold Block.endInvocation
  extract_lets z0 z1 z2
  have h3 : Keeps F a z0 := by
    subst z0
    exact (Block.beatEng_keeps (s.up rfl) h)
  have h4 : Keeps F a z2 := by
    subst z2
    exact (Block.setEng_keeps (s.up rfl) h3)
  clear_value z2
  clear_value z1
  clear_value z0
  split
  · rename_i y5 y6
    exact h4
  · rename_i y7 y8 y9 y10
    extract_lets z11 z12
    have h13 : Keeps F a z11 := by
      subst z11
      exact (Block.modCmd_keeps (s.up rfl) h4)
    refine Keeps.choice (fun h14 => ?_) (fun h14 => ?_)
    · exact (Block.endCmd_keeps (s.up rfl) h13)
    · refine Keeps.choice (fun h15 => ?_) (fun h15 => ?_)
      · exact (Block.loadArgs_keeps (s.up rfl) h13)
      · exact h13
  · rename_i y16 y17 y18 y19
    extract_lets z20
    have h21 : Keeps F a z20 := by
      subst z20
      exact (Block.modTask_keeps (s.up rfl) h4)
    refine Keeps.choice (fun h22 => ?_) (fun h22 => ?_)
    · exact (Block.loadArgs_keeps (s.up rfl) h21)
    · exact h21

theorem Block.beginClosing_keeps {F : Nat} {a : Block} {b c} (s : sub 2199421909120 F) (h : Keeps F a b) :
    Keeps F a (Block.beginClosing b c) := by
  unfold Block.beginClosing
  extract_lets z0 z1 z2
  have h3 : Keeps F a z1 := by
    subst z1
    exact (Block.setCtx_keeps (s.up rfl) h)
  have h4 : Keeps F a z2 := by
    subst z2
    refine Keeps.foldl (fun b x h => ?_) _ ?_
    · refine Block.abortTask_keeps (s.up rfl) ?_
      exact h
    · exact h3
  exact (Block.dropLoading_keeps (s.up rfl) (Block.dropCommits_keeps (s.up rfl) (Block.dropBounds_keeps (s.up rfl) h4)))

theorem Block.destroyQueue_keeps {F : Nat} {a : Block} {b t abort} (s : sub 15544020301952 F) (h : Keeps F a b) :
    Keeps F a (Block.destroyQueue b t abort) := by
  unfold Block.destroyQueue
  extract_lets z0 z1 z2 z3 z4 z5 z6
  have h7 : Keeps F a z2 := by
    subst z2
    refine Block.setQueue_keeps (s.up rfl) ?_
    exact Keeps.upd (m := 8388608) h (s.up rfl) (by intro p; cases p <;> first | exact .inl rfl | (right; simp only [Part.same, and_self]))
  have h8 : Keeps F a z3 := by
    subst z3
    exact (Block.discard_keeps (s.up rfl) h7)
  have h9 : Keeps F a z4 := by
    subst z4
    refine Keeps.choice (fun h10 => ?_) (fun h10 => ?_)
    · refine Keeps.foldl (fun b x h => ?_) _ ?_
      · refine Block.abortCmd_keeps (s.up rfl) ?_
        exact h
      · exact h8
    · exact h7
  have h11 : Keeps F a z6 := by
    subst z6
    refine Keeps.choice (fun h12 => ?_) (fun h12 => ?_)
    · exact (Block.beginClosing_keeps (s.up rfl) h9)
    · exact h9
  exact (Block.settleQueue_keeps (s.up rfl) (Block.fixDeadlines_keeps (s.up rfl) h11))

theorem Block.finishItem_keeps {F : Nat} {a : Block} {b t x st} (s : sub 15677029279872 F) (h : Keeps F a b) :
    Keeps F a (Block.finishItem b t x st) := by
  unfold Block.finishItem
  extract_lets z0 z1 z2 z3
  have h4 : Keeps F a z0 := by
    subst z0
    refine Keeps.choice (fun h5 => ?_) (fun h5 => ?_)
    · exact (Block.sigAll_keeps (s.up rfl) h)
    · exact h
  have h6 : Keeps F a z1 := by
    subst z1
    refine Keeps.foldl (fun b x h => ?_) _ ?_
    · refine Block.setEng_keeps (s.up rfl) ?_
      exact h
    · exact (Block.dropLane_keeps (s.up rfl) h4)
  have h7 : Keeps F a z2 := by
    subst z2
    exact (Block.modTask_keeps (s.up rfl) h6)
  have h8 : Keeps F a z3 := by
    subst z3
    refine Keeps.choice (fun h9 => ?_) (fun h9 => ?_)
    · exact (Block.haltTask_keeps (s.up rfl) h7)
    · exact (Block.settleTask_keeps (s.up rfl) h7)
  clear_value z3
  clear_value z2
  clear_value z1
  clear_value z0
  split
  · rename_i y10 y11 y12
    refine Keeps.choice (fun h13 => ?_) (fun h13 => ?_)
    · exact h8
    · exact (Block.waitItem_keeps (s.up rfl) h8)
  · rename_i y14 y15
    exact h8

theorem Block.orFresh_keeps {F : Nat} {a : Block} {b x w} (s : sub 32 F) (h : Keeps F a b) :
    Keeps F a (Block.orFresh b x w).2 := by
  unfold Block.orFresh
  split
  · rename_i y0 y1
    dsimp -zeta only
    exact h
  · rename_i y2
    refine Block.fresh_keeps (s.up rfl) ?_
    exact h

theorem Block.mwOp_keeps {F : Nat} {a : Block} {b m' w} (s : sub 32 F) (h : Keeps F a b) :
    Keeps F a (Block.mwOp b m' w).2 := by
  unfold Block.mwOp
  extract_lets z0 z1 z2 z3 z4 z5 z6 z7
  have h8 : Keeps F a z4.2 := by
    subst z4
    refine Block.orFresh_keeps (s.up rfl) ?_
    exact h
  have h9 : Keeps F a z5.2 := by
    subst z5
    refine Block.orFresh_keeps (s.up rfl) ?_
    exact h8
  have h10 : Keeps F a z7.2 := by
    subst z7
    refine Block.fresh_keeps (s.up rfl) ?_
    exact h
  refine Keeps.choice2 (fun h11 => ?_) (fun h11 => ?_)
  · dsimp -zeta only
    exact h9
  · refine Keeps.choice2 (fun h12 => ?_) (fun h12 => ?_)
    · dsimp -zeta only
      exact h10
    · dsimp -zeta only
      exact h

theorem Block.mwStep_keeps {F : Nat} {a : Block} {b k} (s : sub 13760001543080 F) (h : Keeps F a b) :
    Keeps F a (Block.mwStep b k) := by
  unfold Block.mwStep
  extract_lets z0 z1 z2 z3 z4 z5 z6
  have h7 : Keeps F a z2.2 := by
    subst z2
    refine Block.orFresh_keeps (s.up rfl) ?_
    exact h
  have h8 : Keeps F a z3 := by
    subst z3
    exact h7
  have h9 : Keeps F a z5.2 := by
    subst z5
    refine Block.mwOp_keeps (s.up rfl) ?_
    exact h8
  refine Keeps.choice (fun h10 => ?_) (fun h10 => ?_)
  · exact h8
  · clear_value z6
    clear_value z5
    clear_value z4
    clear_value z3
    clear_value z2
    clear_value z1
    clear_value z0
    split
    · rename_i y11 y12 y13 y14
      refine Block.setMcore_keeps (s.up rfl) ?_
      exact h9
    · rename_i y15 y16
      refine Block.mwFail_keeps (s.up rfl) ?_
      refine Block.setMcore_keeps (s.up rfl) ?_
      exact h9

theorem Block.mwRun_keeps {F : Nat} {a : Block} {b} (s : sub 13760001543080 F) (h : Keeps F a b) :
    Keeps F a (Block.mwRun b) := by
  unfold Block.mwRun
  extract_lets z0 z1
  refine Keeps.choice (fun h2 => ?_) (fun h2 => ?_)
  · exact (Block.mwStep_keeps (s.up rfl) h)
  · exact h

theorem vectorWrite_keeps {F : Nat} {a : Block} {x0 x1 x2 x3} (s : sub 2176 F) (h : Keeps F a x0) :
    Keeps F a (vectorWrite x0 x1 x2 x3) := by
  unfold vectorWrite
  refine Keeps.choice (fun h0 => ?_) (fun h0 => ?_)
  · exact (Block.pageErr_keeps (s.up rfl) h)
  · exact (plainWrite_keeps (s.up rfl) h)

theorem enWrite_keeps {F : Nat} {a : Block} {x0 x1 x2 x3} (s : sub 2176 F) (h : Keeps F a x0) :
    Keeps F a (enWrite x0 x1 x2 x3) := by
  unfold enWrite
  extract_lets z0 z1 z2 z3
  have h4 : Keeps F a z3 := by
    subst z3
    exact (plainWrite_keeps (s.up rfl) h)
  refine Keeps.choice (fun h5 => ?_) (fun h5 => ?_)
  · exact (Block.msix_keeps (s.up rfl) h4)
  · exact h4

theorem Block.inject_keeps {F : Nat} {a : Block} {b path a' v} (s : sub 2432 F) (h : Keeps F a b) :
    Keeps F a (Block.inject b path a' v) := by
  unfold Block.inject
  extract_lets z0 z1 z2 z3
  have h4 : Keeps F a z1 := by
    subst z1
    refine Keeps.choice (fun h5 => ?_) (fun h5 => ?_)
    · exact (Block.raiseBit_keeps (s.up rfl) h)
    · exact h
  have h6 : Keeps F a z2 := by
    subst z2
    refine Keeps.choice (fun h7 => ?_) (fun h7 => ?_)
    · exact (Block.pageErr_keeps (s.up rfl) h4)
    · exact h4
  have h8 : Keeps F a z3 := by
    subst z3
    refine Keeps.foldl (fun b x h => ?_) _ ?_
    · refine Block.raiseBit_keeps (s.up rfl) ?_
      exact h
    · exact h6
  refine Keeps.choice (fun h9 => ?_) (fun h9 => ?_)
  · exact (Block.pageErr_keeps (s.up rfl) h)
  · refine Keeps.choice (fun h10 => ?_) (fun h10 => ?_)
    · exact (Block.setArms_keeps (s.up rfl) h8)
    · exact h8

theorem headerWrite_keeps {F : Nat} {a : Block} {x0 x1 x2 x3} (s : sub 3456 F) (h : Keeps F a x0) :
    Keeps F a (headerWrite x0 x1 x2 x3) := by
  unfold headerWrite
  extract_lets z0
  refine Keeps.choice (fun h1 => ?_) (fun h1 => ?_)
  · exact (vectorWrite_keeps (s.up rfl) h)
  · refine Keeps.choice (fun h2 => ?_) (fun h2 => ?_)
    · exact (enWrite_keeps (s.up rfl) h)
    · refine Keeps.choice (fun h3 => ?_) (fun h3 => ?_)
      · exact (firstWrite_keeps (s.up rfl) h)
      · refine Keeps.choice (fun h4 => ?_) (fun h4 => ?_)
        · exact (Block.inject_keeps (s.up rfl) h)
        · refine Keeps.choice (fun h5 => ?_) (fun h5 => ?_)
          · exact (lockWrite_keeps (s.up rfl) h)
          · exact (plainWrite_keeps (s.up rfl) h)

theorem whileTaken_keeps {F : Nat} {a : Block} {p' w x2 x3 x4 x5} (s : sub 2176 F) (hw : ∀ v0 v1 v2 v3, Keeps F a v0 → Keeps F a (w v0 v1 v2 v3)) (h1 : Keeps F a x2) :
    Keeps F a (whileTaken p' w x2 x3 x4 x5) := by
  unfold whileTaken
  refine Keeps.choice (fun h0 => ?_) (fun h0 => ?_)
  · apply hw
    exact h1
  · exact (Block.pageErr_keeps (s.up rfl) h1)

theorem ifTaken_keeps {F : Nat} {a : Block} {p' w x2 x3 x4 x5} (s : sub 0 F) (hw : ∀ v0 v1 v2 v3, Keeps F a v0 → Keeps F a (w v0 v1 v2 v3)) (h1 : Keeps F a x2) :
    Keeps F a (ifTaken p' w x2 x3 x4 x5) := by
  unfold ifTaken
  refine Keeps.choice (fun h0 => ?_) (fun h0 => ?_)
  · apply hw
    exact h1
  · exact h1

theorem Block.beginCopy_keeps {F : Nat} {a : Block} {b} (s : sub 1073741824 F) (h : Keeps F a b) :
    Keeps F a (Block.beginCopy b) := by
  unfold Block.beginCopy
  refine Keeps.choice (fun h0 => ?_) (fun h0 => ?_)
  · exact (Block.mcMod_keeps (s.up rfl) h)
  · exact (Block.mcMod_keeps (s.up rfl) h)

theorem Block.moveRole_keeps {F : Nat} {a : Block} {b} (s : sub 13760001802912 F) (h : Keeps F a b) :
    Keeps F a (Block.moveRole b) := by
  unfold Block.moveRole
  split
  · rename_i y0 y1 y2
    refine Keeps.choice (fun h3 => ?_) (fun h3 => ?_)
    · exact h
    · extract_lets z4 z5 z6 z7 z8 z9
      have h10 : Keeps F a z5 := by
        subst z5
        exact (Block.handTo_keeps (s.up rfl) (Block.ccMod_keeps (s.up rfl) h))
      have h11 : Keeps F a z8 := by
        subst z8
        exact (Block.setWear_keeps (s.up rfl) (Block.setWear_keeps (s.up rfl) h10))
      have h12 : Keeps F a z9 := by
        subst z9
        exact (Block.changeCaps_keeps (s.up rfl) (Block.cinderRec_keeps (s.up rfl) h11))
      exact (Block.beginCopy_keeps (s.up rfl) (Block.setField_keeps (s.up rfl) h12))
  · rename_i y13 y14
    exact h

theorem Block.mcFail_keeps {F : Nat} {a : Block} {b reason} (s : sub 128 F) (h : Keeps F a b) :
    Keeps F a (Block.mcFail b reason) := by
  unfold Block.mcFail
  exact (Block.setReg_keeps (s.up rfl) h)

theorem Block.handover_keeps {F : Nat} {a : Block} {b} (s : sub 13760001802912 F) (h : Keeps F a b) :
    Keeps F a (Block.handover b) := by
  unfold Block.handover
  extract_lets z0 z1
  refine Keeps.choice (fun h2 => ?_) (fun h2 => ?_)
  · exact (Block.moveRole_keeps (s.up rfl) (Block.mcMod_keeps (s.up rfl) h))
  · exact (Block.mcFail_keeps (s.up rfl) h)

theorem Block.verify_keeps {F : Nat} {a : Block} {b path} (s : sub 70369817921664 F) (h : Keeps F a b) :
    Keeps F a (Block.verify b path) := by
  unfold Block.verify
  refine Keeps.choice (fun h0 => ?_) (fun h0 => ?_)
  · exact (Block.pageErr_keeps (s.up rfl) h)
  · extract_lets z1 z2 z3
    have h4 : Keeps F a z3 := by
      subst z3
      exact (Block.mcMod_keeps (s.up rfl) h)
    refine Keeps.choice (fun h5 => ?_) (fun h5 => ?_)
    · refine Block.mcMod_keeps (s.up rfl) ?_
      exact Keeps.upd (m := 70368744177664) h4 (s.up rfl) (by intro p; cases p <;> first | exact .inl rfl | (right; simp only [Part.same, and_self]))
    · exact (Block.mcMod_keeps (s.up rfl) (Block.mcFail_keeps (s.up rfl) h4))

theorem mcCtlWrite_keeps {F : Nat} {a : Block} {x0 x1 x2 x3} (s : sub 84128745982624 F) (h : Keeps F a x0) :
    Keeps F a (mcCtlWrite x0 x1 x2 x3) := by
  unfold mcCtlWrite
  extract_lets z0 z1
  have h2 : Keeps F a z0 := by
    subst z0
    refine Keeps.choice (fun h3 => ?_) (fun h3 => ?_)
    · exact (Block.clearSig_keeps (s.up rfl) h)
    · exact h
  have h4 : Keeps F a z1 := by
    subst z1
    refine Keeps.choice (fun h5 => ?_) (fun h5 => ?_)
    · exact (Block.handover_keeps (s.up rfl) h2)
    · exact h2
  refine Keeps.choice (fun h6 => ?_) (fun h6 => ?_)
  · exact (Block.verify_keeps (s.up rfl) h4)
  · exact h4

theorem writesStart_keeps : ∀ {F : Nat} {a : Block}, sub 84129282899882 F → ∀ w ∈ writesStart, ∀ {b : Block} {path x v : Nat}, Keeps F a b → Keeps F a (w.2 b path x v) := by
  intro F a s
  unfold writesStart
  refine List.forall_mem_cons.2 ⟨?_, List.forall_mem_cons.2 ⟨?_, List.forall_mem_cons.2 ⟨?_, List.forall_mem_cons.2 ⟨?_, List.forall_mem_cons.2 ⟨?_, List.forall_mem_cons.2 ⟨?_, List.forall_mem_cons.2 ⟨?_, List.forall_mem_cons.2 ⟨?_, List.forall_mem_cons.2 ⟨?_, List.forall_mem_cons.2 ⟨?_, List.forall_mem_cons.2 ⟨?_, List.forall_mem_cons.2 ⟨?_, List.forall_mem_cons.2 ⟨?_, fun _ h => nomatch h⟩⟩⟩⟩⟩⟩⟩⟩⟩⟩⟩⟩⟩
  · intro x0 x1 x2 x3 h4
    dsimp -zeta only
    exact (glbCtlWrite_keeps (s.up rfl) h4)
  · intro x5 x6 x7 x8 h9
    dsimp -zeta only
    exact (roleWrite_keeps (s.up rfl) h9)
  · intro x10 x11 x12 x13 h14
    dsimp -zeta only
    refine whileTaken_keeps (s.up rfl) ?_ ?_
    · intro x15 x16 x17 x18 h19
      exact (plainWrite_keeps (s.up rfl) h19)
    · exact h14
  · intro x20 x21 x22 x23 h24
    dsimp -zeta only
    refine whileTaken_keeps (s.up rfl) ?_ ?_
    · intro x25 x26 x27 x28 h29
      exact (plainWrite_keeps (s.up rfl) h29)
    · exact h24
  · intro x30 x31 x32 x33 h34
    dsimp -zeta only
    refine whileTaken_keeps (s.up rfl) ?_ ?_
    · intro x35 x36 x37 x38 h39
      exact (plainWrite_keeps (s.up rfl) h39)
    · exact h34
  · intro x40 x41 x42 x43 h44
    dsimp -zeta only
    refine whileTaken_keeps (s.up rfl) ?_ ?_
    · intro x45 x46 x47 x48 h49
      exact (plainWrite_keeps (s.up rfl) h49)
    · exact h44
  · intro x50 x51 x52 x53 h54
    dsimp -zeta only
    exact (Block.breakSem_keeps (s.up rfl) h54)
  · intro x55 x56 x57 x58 h59
    dsimp -zeta only
    refine Keeps.choice (fun h60 => ?_) (fun h60 => ?_)
    · exact (Block.popFifo_keeps (s.up rfl) h59)
    · exact h59
  · intro x61 x62 x63 x64 h65
    dsimp -zeta only
    refine ifTaken_keeps (s.up rfl) ?_ ?_
    · intro x66 x67 x68 x69 h70
      exact (plainWrite_keeps (s.up rfl) h70)
    · exact h65
  · intro x71 x72 x73 x74 h75
    dsimp -zeta only
    exact (stageWrite_keeps (s.up rfl) h75)
  · intro x76 x77 x78 x79 h80
    dsimp -zeta only
    exact (Block.storeWord_keeps (s.up rfl) h80)
  · intro x81 x82 x83 x84 h85
    dsimp -zeta only
    exact (Block.appendSig_keeps (s.up rfl) h85)
  · intro x86 x87 x88 x89 h90
    dsimp -zeta only
    exact (mcCtlWrite_keeps (s.up rfl) h90)

theorem spanWrite_keeps {F : Nat} {a : Block} {x0 x1 x2 x3} (s : sub 8192 F) (h : Keeps F a x0) :
    Keeps F a (spanWrite x0 x1 x2 x3) := by
  unfold spanWrite
  split
  · rename_i y0 y1 y2
    exact (Block.setQueue_keeps (s.up rfl) h)
  · rename_i y3 y4
    exact h

theorem reserveWrite_keeps {F : Nat} {a : Block} {cores x1 x2 x3 x4} (s : sub 2176 F) (h : Keeps F a x1) :
    Keeps F a (reserveWrite cores x1 x2 x3 x4) := by
  unfold reserveWrite
  refine Keeps.choice (fun h0 => ?_) (fun h0 => ?_)
  · exact (Block.pageErr_keeps (s.up rfl) h)
  · exact (plainWrite_keeps (s.up rfl) h)

theorem groupWrite_keeps {F : Nat} {a : Block} {x0 x1 x2 x3} (s : sub 128 F) (h : Keeps F a x0) :
    Keeps F a (groupWrite x0 x1 x2 x3) := by
  unfold groupWrite
  extract_lets z0
  have h1 : Keeps F a z0 := by
    subst z0
    refine Keeps.choice (fun h2 => ?_) (fun h2 => ?_)
    · exact (Block.setField_keeps (s.up rfl) h)
    · exact h
  refine Keeps.choice (fun h3 => ?_) (fun h3 => ?_)
  · exact (Block.setField_keeps (s.up rfl) h1)
  · exact h1

theorem incarnationWrite_keeps {F : Nat} {a : Block} {x0 x1 x2 x3} (s : sub 2176 F) (h : Keeps F a x0) :
    Keeps F a (incarnationWrite x0 x1 x2 x3) := by
  unfold incarnationWrite
  refine Keeps.choice (fun h0 => ?_) (fun h0 => ?_)
  · exact (Block.setReg_keeps (s.up rfl) h)
  · exact (Block.pageErr_keeps (s.up rfl) h)

theorem writesSched_keeps : ∀ {F : Nat} {a : Block}, sub 817920416 F → ∀ w ∈ writesSched, ∀ {b : Block} {path x v : Nat}, Keeps F a b → Keeps F a (w.2 b path x v) := by
  intro F a s
  unfold writesSched
  refine List.forall_mem_cons.2 ⟨?_, List.forall_mem_cons.2 ⟨?_, List.forall_mem_cons.2 ⟨?_, List.forall_mem_cons.2 ⟨?_, List.forall_mem_cons.2 ⟨?_, List.forall_mem_cons.2 ⟨?_, List.forall_mem_cons.2 ⟨?_, List.forall_mem_cons.2 ⟨?_, List.forall_mem_cons.2 ⟨?_, List.forall_mem_cons.2 ⟨?_, List.forall_mem_cons.2 ⟨?_, List.forall_mem_cons.2 ⟨?_, List.forall_mem_cons.2 ⟨?_, List.forall_mem_cons.2 ⟨?_, List.forall_mem_cons.2 ⟨?_, List.forall_mem_cons.2 ⟨?_, List.forall_mem_cons.2 ⟨?_, List.forall_mem_cons.2 ⟨?_, List.forall_mem_cons.2 ⟨?_, fun _ h => nomatch h⟩⟩⟩⟩⟩⟩⟩⟩⟩⟩⟩⟩⟩⟩⟩⟩⟩⟩⟩
  · intro x0 x1 x2 x3 h4
    dsimp -zeta only
    exact (spanWrite_keeps (s.up rfl) h4)
  · intro x5 x6 x7 x8 h9
    dsimp -zeta only
    exact (reserveWrite_keeps (s.up rfl) h9)
  · intro x10 x11 x12 x13 h14
    dsimp -zeta only
    exact (reserveWrite_keeps (s.up rfl) h14)
  · intro x15 x16 x17 x18 h19
    dsimp -zeta only
    refine whileTaken_keeps (s.up rfl) ?_ ?_
    · intro x20 x21 x22 x23 h24
      exact (groupWrite_keeps (s.up rfl) h24)
    · exact h19
  · intro x25 x26 x27 x28 h29
    dsimp -zeta only
    refine whileTaken_keeps (s.up rfl) ?_ ?_
    · intro x30 x31 x32 x33 h34
      exact (groupWrite_keeps (s.up rfl) h34)
    · exact h29
  · intro x35 x36 x37 x38 h39
    dsimp -zeta only
    refine ifTaken_keeps (s.up rfl) ?_ ?_
    · intro x40 x41 x42 x43 h44
      exact (plainWrite_keeps (s.up rfl) h44)
    · exact h39
  · intro x45 x46 x47 x48 h49
    dsimp -zeta only
    exact (nominalWrite_keeps (s.up rfl) h49)
  · intro x50 x51 x52 x53 h54
    dsimp -zeta only
    exact (selWrite_keeps (s.up rfl) h54)
  · intro x55 x56 x57 x58 h59
    dsimp -zeta only
    exact (stageWrite_keeps (s.up rfl) h59)
  · intro x60 x61 x62 x63 h64
    dsimp -zeta only
    exact (stageWrite_keeps (s.up rfl) h64)
  · intro x65 x66 x67 x68 h69
    dsimp -zeta only
    exact (Block.dtCommit_keeps (s.up rfl) h69)
  · intro x70 x71 x72 x73 h74
    dsimp -zeta only
    exact (incarnationWrite_keeps (s.up rfl) h74)
  · intro x75 x76 x77 x78 h79
    dsimp -zeta only
    exact (impWrite_keeps (s.up rfl) h79)
  · intro x80 x81 x82 x83 h84
    dsimp -zeta only
    exact (selWrite_keeps (s.up rfl) h84)
  · intro x85 x86 x87 x88 h89
    dsimp -zeta only
    exact (stageWrite_keeps (s.up rfl) h89)
  · intro x90 x91 x92 x93 h94
    dsimp -zeta only
    exact (stageWrite_keeps (s.up rfl) h94)
  · intro x95 x96 x97 x98 h99
    dsimp -zeta only
    exact (stageWrite_keeps (s.up rfl) h99)
  · intro x100 x101 x102 x103 h104
    dsimp -zeta only
    exact (stageWrite_keeps (s.up rfl) h104)
  · intro x105 x106 x107 x108 h109
    dsimp -zeta only
    refine Keeps.choice (fun h110 => ?_) (fun h110 => ?_)
    · exact (Block.bndCommit_keeps (s.up rfl) h109)
    · exact (Block.bndDisable_keeps (s.up rfl) h109)

theorem Block.bootCommit_keeps {F : Nat} {a : Block} {b path v} (s : sub 33556864 F) (h : Keeps F a b) :
    Keeps F a (Block.bootCommit b path v) := by
  unfold Block.bootCommit
  refine Keeps.choice (fun h0 => ?_) (fun h0 => ?_)
  · extract_lets z1 z2 z3 z4
    have h5 : Keeps F a z3 := by
      subst z3
      exact (Block.unstagePath_keeps (s.up rfl) h)
    exact Keeps.upd (m := 33554432) h5 (s.up rfl) (by intro p; cases p <;> first | exact .inl rfl | (right; simp only [Part.same, and_self]))
  · exact (Block.pageErr_keeps (s.up rfl) h)

theorem Block.fcrHeadWrite_keeps {F : Nat} {a : Block} {b path v} (s : sub 15544020301952 F) (h : Keeps F a b) :
    Keeps F a (Block.fcrHeadWrite b path v) := by
  unfold Block.fcrHeadWrite
  extract_lets z0 z1 z2
  have h3 : Keeps F a z1 := by
    subst z1
    exact (Block.setReg_keeps (s.up rfl) h)
  have h4 : Keeps F a z2 := by
    subst z2
    exact Keeps.upd (m := 134217728) h3 (s.up rfl) (by intro p; cases p <;> first | exact .inl rfl | (right; simp only [Part.same, and_self]))
  refine Keeps.choice (fun h5 => ?_) (fun h5 => ?_)
  · exact (Block.landPages_keeps (s.up rfl) (Block.writeEntries_keeps (s.up rfl) h4))
  · exact (Block.pageErr_keeps (s.up rfl) h)

end Sys2Proof.Laws
end

