-- ==== Sys2Proof/Laws/Frames4.lean ====
section
/-!
SUPPORT. What each operation and each row leaves as it was. Part 4 of 5.
-/
namespace Sys2Proof.Laws

open Sys2Proof Sys2Proof.Machine Sys2Proof.Safety

theorem Block.regInvalidate_keeps {F : Nat} {a : Block} {b path} (s : sub 15544020367520 F) (h : Keeps F a b) :
    Keeps F a (Block.regInvalidate b path) := by
  unfold Block.regInvalidate
  extract_lets z0 z1 z2 z3 z4
  have h5 : Keeps F a z2 := by
    subst z2
    exact (Block.bumpEpoch_keeps (s.up rfl) (Block.invalidate_keeps (s.up rfl) h))
  have h6 : Keeps F a z3.2 := by
    subst z3
    refine Block.busyTime_keeps (s.up rfl) ?_
    exact h5
  have h7 : Keeps F a z4 := by
    subst z4
    exact h6
  refine Keeps.choice (fun h8 => ?_) (fun h8 => ?_)
  · exact (Block.pageErr_keeps (s.up rfl) h)
  · exact Keeps.upd (m := 67108864) h7 (s.up rfl) (by intro p; cases p <;> first | exact .inl rfl | (right; simp only [Part.same, and_self]))

theorem writesZtu_keeps : ∀ {F : Nat} {a : Block}, sub 15544020367776 F → ∀ w ∈ writesZtu, ∀ {b : Block} {path x v : Nat}, Keeps F a b → Keeps F a (w.2 b path x v) := by
  intro F a s
  unfold writesZtu
  refine List.forall_mem_cons.2 ⟨?_, List.forall_mem_cons.2 ⟨?_, List.forall_mem_cons.2 ⟨?_, List.forall_mem_cons.2 ⟨?_, List.forall_mem_cons.2 ⟨?_, List.forall_mem_cons.2 ⟨?_, List.forall_mem_cons.2 ⟨?_, List.forall_mem_cons.2 ⟨?_, List.forall_mem_cons.2 ⟨?_, List.forall_mem_cons.2 ⟨?_, List.forall_mem_cons.2 ⟨?_, List.forall_mem_cons.2 ⟨?_, List.forall_mem_cons.2 ⟨?_, List.forall_mem_cons.2 ⟨?_, List.forall_mem_cons.2 ⟨?_, List.forall_mem_cons.2 ⟨?_, List.forall_mem_cons.2 ⟨?_, List.forall_mem_cons.2 ⟨?_, List.forall_mem_cons.2 ⟨?_, fun _ h => nomatch h⟩⟩⟩⟩⟩⟩⟩⟩⟩⟩⟩⟩⟩⟩⟩⟩⟩⟩⟩
  · intro x0 x1 x2 x3 h4
    dsimp -zeta only
    exact (ztCtlWrite_keeps (s.up rfl) h4)
  · intro x5 x6 x7 x8 h9
    dsimp -zeta only
    exact (modeWrite_keeps (s.up rfl) h9)
  · intro x10 x11 x12 x13 h14
    dsimp -zeta only
    refine whileTaken_keeps (s.up rfl) ?_ ?_
    · intro x15 x16 x17 x18 h19
      exact (selWrite_keeps (s.up rfl) h19)
    · exact h14
  · intro x20 x21 x22 x23 h24
    dsimp -zeta only
    exact (Block.bootCommit_keeps (s.up rfl) h24)
  · intro x25 x26 x27 x28 h29
    dsimp -zeta only
    refine whileTaken_keeps (s.up rfl) ?_ ?_
    · intro x30 x31 x32 x33 h34
      exact (stageWrite_keeps (s.up rfl) h34)
    · exact h29
  · intro x35 x36 x37 x38 h39
    dsimp -zeta only
    exact (stageWrite_keeps (s.up rfl) h39)
  · intro x40 x41 x42 x43 h44
    dsimp -zeta only
    exact (stageWrite_keeps (s.up rfl) h44)
  · intro x45 x46 x47 x48 h49
    dsimp -zeta only
    exact (Block.fcrSizeWrite_keeps (s.up rfl) h49)
  · intro x50 x51 x52 x53 h54
    dsimp -zeta only
    exact (Block.fcrHeadWrite_keeps (s.up rfl) h54)
  · intro x55 x56 x57 x58 h59
    dsimp -zeta only
    refine ifTaken_keeps (s.up rfl) ?_ ?_
    · intro x60 x61 x62 x63 h64
      exact (plainWrite_keeps (s.up rfl) h64)
    · exact h59
  · intro x65 x66 x67 x68 h69
    dsimp -zeta only
    refine Keeps.choice (fun h70 => ?_) (fun h70 => ?_)
    · exact (Block.regInvalidate_keeps (s.up rfl) h69)
    · exact h69
  · intro x71 x72 x73 x74 h75
    dsimp -zeta only
    exact (Block.commitWrite_keeps (s.up rfl) h75)
  · intro x76 x77 x78 x79 h80
    dsimp -zeta only
    refine ifTaken_keeps (s.up rfl) ?_ ?_
    · intro x81 x82 x83 x84 h85
      exact (plainWrite_keeps (s.up rfl) h85)
    · exact h80
  · intro x86 x87 x88 x89 h90
    dsimp -zeta only
    refine whileTaken_keeps (s.up rfl) ?_ ?_
    · intro x91 x92 x93 x94 h95
      exact (plainWrite_keeps (s.up rfl) h95)
    · exact h90
  · intro x96 x97 x98 x99 h100
    dsimp -zeta only
    refine whileTaken_keeps (s.up rfl) ?_ ?_
    · intro x101 x102 x103 x104 h105
      exact (plainWrite_keeps (s.up rfl) h105)
    · exact h100
  · intro x106 x107 x108 x109 h110
    dsimp -zeta only
    refine whileTaken_keeps (s.up rfl) ?_ ?_
    · intro x111 x112 x113 x114 h115
      exact (plainWrite_keeps (s.up rfl) h115)
    · exact h110
  · intro x116 x117 x118 x119 h120
    dsimp -zeta only
    refine whileTaken_keeps (s.up rfl) ?_ ?_
    · intro x121 x122 x123 x124 h125
      exact (plainWrite_keeps (s.up rfl) h125)
    · exact h120
  · intro x126 x127 x128 x129 h130
    dsimp -zeta only
    refine whileTaken_keeps (s.up rfl) ?_ ?_
    · intro x131 x132 x133 x134 h135
      exact (plainWrite_keeps (s.up rfl) h135)
    · exact h130
  · intro x136 x137 x138 x139 h140
    dsimp -zeta only
    refine whileTaken_keeps (s.up rfl) ?_ ?_
    · intro x141 x142 x143 x144 h145
      exact (plainWrite_keeps (s.up rfl) h145)
    · exact h140

theorem Block.jobEnd_keeps {F : Nat} {a : Block} {b} (s : sub 4096 F) (h : Keeps F a b) :
    Keeps F a (Block.jobEnd b) := by
  unfold Block.jobEnd
  extract_lets z0 z1
  exact (Block.setCtx_keeps (s.up rfl) h)

theorem jobCtlWrite_keeps {F : Nat} {a : Block} {x0 x1 x2 x3} (s : sub 6528 F) (h : Keeps F a x0) :
    Keeps F a (jobCtlWrite x0 x1 x2 x3) := by
  unfold jobCtlWrite
  refine Keeps.choice (fun h0 => ?_) (fun h0 => ?_)
  · exact (Block.jobCommit_keeps (s.up rfl) h)
  · exact (Block.jobEnd_keeps (s.up rfl) h)

theorem Block.modPwr_keeps {F : Nat} {a : Block} {b f} (s : sub 68719476736 F) (h : Keeps F a b) :
    Keeps F a (Block.modPwr b f) := by
  unfold Block.modPwr
  exact Keeps.upd (m := 68719476736) h (s.up rfl) (by intro p; cases p <;> first | exact .inl rfl | (right; simp only [Part.same, and_self]))

theorem smSelWrite_keeps {F : Nat} {a : Block} {x0 x1 x2 x3} (s : sub 2176 F) (h : Keeps F a x0) :
    Keeps F a (smSelWrite x0 x1 x2 x3) := by
  unfold smSelWrite
  refine Keeps.choice (fun h0 => ?_) (fun h0 => ?_)
  · exact (plainWrite_keeps (s.up rfl) h)
  · refine Keeps.choice (fun h1 => ?_) (fun h1 => ?_)
    · exact h
    · exact (Block.pageErr_keeps (s.up rfl) h)

theorem Block.retireWritten_keeps {F : Nat} {a : Block} {b kind x2} (s : sub 16114179373736 F) (h : Keeps F a b) :
    Keeps F a (Block.retireWritten b kind x2) := by
  unfold Block.retireWritten
  extract_lets z0 z1 z2 z3 z4 z5
  have h6 : Keeps F a z2 := by
    subst z2
    exact (Block.retireInst_keeps (s.up rfl) h)
  have h7 : Keeps F a z4 := by
    subst z4
    exact (Block.retireInst_keeps (s.up rfl) h)
  have h8 : Keeps F a z5 := by
    subst z5
    exact Keeps.upd (m := 2097152) h7 (s.up rfl) (by intro p; cases p <;> first | exact .inl rfl | (right; simp only [Part.same, and_self]))
  refine Keeps.choice (fun h9 => ?_) (fun h9 => ?_)
  · exact h
  · refine Keeps.choice (fun h10 => ?_) (fun h10 => ?_)
    · exact (Block.retireInst_keeps (s.up rfl) h)
    · refine Keeps.choice (fun h11 => ?_) (fun h11 => ?_)
      · refine Keeps.choice (fun h12 => ?_) (fun h12 => ?_)
        · exact h6
        · clear_value z5
          clear_value z4
          clear_value z3
          clear_value z2
          clear_value z1
          clear_value z0
          split
          · rename_i y13 y14
            exact (Block.mcMod_keeps (s.up rfl) (Block.enterSpare_keeps (s.up rfl) h6))
          · rename_i y15
            exact h6
      · refine Keeps.choice (fun h16 => ?_) (fun h16 => ?_)
        · exact (Block.computeLayout_keeps (s.up rfl) (Block.setField_keeps (s.up rfl) h8))
        · exact (Block.retireNow_keeps (s.up rfl) h)

theorem wearWrite_keeps {F : Nat} {a : Block} {x0 x1 x2 x3} (s : sub 16114179373736 F) (h : Keeps F a x0) :
    Keeps F a (wearWrite x0 x1 x2 x3) := by
  unfold wearWrite
  refine Keeps.choice (fun h0 => ?_) (fun h0 => ?_)
  · extract_lets z1 z2
    have h3 : Keeps F a z2 := by
      subst z2
      exact (Block.setWear_keeps (s.up rfl) h)
    refine Keeps.choice (fun h4 => ?_) (fun h4 => ?_)
    · exact (Block.retireWritten_keeps (s.up rfl) h3)
    · exact h3
  · exact h

theorem Block.retireGo_keeps {F : Nat} {a : Block} {b} (s : sub 16114179373736 F) (h : Keeps F a b) :
    Keeps F a (Block.retireGo b) := by
  unfold Block.retireGo
  extract_lets z0 z1
  refine Keeps.choice (fun h2 => ?_) (fun h2 => ?_)
  · exact (Block.setField_keeps (s.up rfl) h)
  · refine Keeps.choice (fun h3 => ?_) (fun h3 => ?_)
    · exact (Block.setField_keeps (s.up rfl) h)
    · refine Block.settleRetire_keeps (s.up rfl) ?_
      refine Block.retireNow_keeps (s.up rfl) ?_
      refine Block.setReg_keeps (s.up rfl) ?_
      exact Keeps.upd (m := 137438953472) h (s.up rfl) (by intro p; cases p <;> first | exact .inl rfl | (right; simp only [Part.same, and_self]))

theorem writesRecovery_keeps : ∀ {F : Nat} {a : Block}, sub 105553115217918 F → ∀ w ∈ writesRecovery, ∀ {b : Block} {path x v : Nat}, Keeps F a b → Keeps F a (w.2 b path x v) := by
  intro F a s
  unfold writesRecovery
  refine List.forall_mem_cons.2 ⟨?_, List.forall_mem_cons.2 ⟨?_, List.forall_mem_cons.2 ⟨?_, List.forall_mem_cons.2 ⟨?_, List.forall_mem_cons.2 ⟨?_, List.forall_mem_cons.2 ⟨?_, List.forall_mem_cons.2 ⟨?_, List.forall_mem_cons.2 ⟨?_, List.forall_mem_cons.2 ⟨?_, List.forall_mem_cons.2 ⟨?_, List.forall_mem_cons.2 ⟨?_, List.forall_mem_cons.2 ⟨?_, List.forall_mem_cons.2 ⟨?_, List.forall_mem_cons.2 ⟨?_, List.forall_mem_cons.2 ⟨?_, List.forall_mem_cons.2 ⟨?_, List.forall_mem_cons.2 ⟨?_, fun _ h => nomatch h⟩⟩⟩⟩⟩⟩⟩⟩⟩⟩⟩⟩⟩⟩⟩⟩⟩
  · intro x0 x1 x2 x3 h4
    dsimp -zeta only
    exact (orderWrite_keeps (s.up rfl) h4)
  · intro x5 x6 x7 x8 h9
    dsimp -zeta only
    refine ifTaken_keeps (s.up rfl) ?_ ?_
    · intro x10 x11 x12 x13 h14
      exact (plainWrite_keeps (s.up rfl) h14)
    · exact h9
  · intro x15 x16 x17 x18 h19
    dsimp -zeta only
    exact (undrainedWrite_keeps (s.up rfl) h19)
  · intro x20 x21 x22 x23 h24
    dsimp -zeta only
    exact (stallWrite_keeps (s.up rfl) h24)
  · intro x25 x26 x27 x28 h29
    dsimp -zeta only
    exact (petWrite_keeps (s.up rfl) h29)
  · intro x30 x31 x32 x33 h34
    dsimp -zeta only
    exact (wdCtlWrite_keeps (s.up rfl) h34)
  · intro x35 x36 x37 x38 h39
    dsimp -zeta only
    exact (selWrite_keeps (s.up rfl) h39)
  · intro x40 x41 x42 x43 h44
    dsimp -zeta only
    exact (stageWrite_keeps (s.up rfl) h44)
  · intro x45 x46 x47 x48 h49
    dsimp -zeta only
    exact (jobCtlWrite_keeps (s.up rfl) h49)
  · intro x50 x51 x52 x53 h54
    dsimp -zeta only
    refine Keeps.choice (fun h55 => ?_) (fun h55 => ?_)
    · exact (Block.modPwr_keeps (s.up rfl) h54)
    · exact h54
  · intro x56 x57 x58 x59 h60
    dsimp -zeta only
    refine ifTaken_keeps (s.up rfl) ?_ ?_
    · intro x61 x62 x63 x64 h65
      exact (plainWrite_keeps (s.up rfl) h65)
    · exact h60
  · intro x66 x67 x68 x69 h70
    dsimp -zeta only
    refine ifTaken_keeps (s.up rfl) ?_ ?_
    · intro x71 x72 x73 x74 h75
      exact (plainWrite_keeps (s.up rfl) h75)
    · exact h70
  · intro x76 x77 x78 x79 h80
    dsimp -zeta only
    exact (smSelWrite_keeps (s.up rfl) h80)
  · intro x81 x82 x83 x84 h85
    dsimp -zeta only
    exact (wearWrite_keeps (s.up rfl) h85)
  · intro x86 x87 x88 x89 h90
    dsimp -zeta only
    refine Keeps.choice (fun h91 => ?_) (fun h91 => ?_)
    · exact (Block.retireGo_keeps (s.up rfl) h90)
    · exact h90
  · intro x92 x93 x94 x95 h96
    dsimp -zeta only
    refine whileTaken_keeps (s.up rfl) ?_ ?_
    · intro x97 x98 x99 x100 h101
      exact (plainWrite_keeps (s.up rfl) h101)
    · exact h96
  · intro x102 x103 x104 x105 h106
    dsimp -zeta only
    exact (Block.destWrite_keeps (s.up rfl) h106)

theorem Block.tbSizeSet_keeps {F : Nat} {a : Block} {b path v} (s : sub 1099511630208 F) (h : Keeps F a b) :
    Keeps F a (Block.tbSizeSet b path v) := by
  unfold Block.tbSizeSet
  extract_lets z0 z1 z2 z3
  refine Keeps.choice (fun h4 => ?_) (fun h4 => ?_)
  · exact h
  · refine Keeps.choice (fun h5 => ?_) (fun h5 => ?_)
    · exact (Block.pageErr_keeps (s.up rfl) h)
    · exact (Block.setTbuf_keeps (s.up rfl) (Block.unstagePath_keeps (s.up rfl) h))

theorem Block.sampleStopIn_keeps {F : Nat} {a : Block} {b} (s : sub 36 F) (h : Keeps F a b) :
    Keeps F a (Block.sampleStopIn b).2 := by
  unfold Block.sampleStopIn
  refine Keeps.choice2 (fun h0 => ?_) (fun h0 => ?_)
  · extract_lets z1 z2 z3
    have h4 : Keeps F a z1.2 := by
      subst z1
      refine Block.fresh_keeps (s.up rfl) ?_
      exact h
    have h5 : Keeps F a z2 := by
      subst z2
      exact h4
    dsimp -zeta only
    exact Keeps.upd (m := 4) h5 (s.up rfl) (by intro p; cases p <;> first | exact .inl rfl | (right; simp only [Part.same, and_self]))
  · dsimp -zeta only
    exact h

theorem Block.endStop_keeps {F : Nat} {a : Block} {b} (s : sub 87411173359582 F) (h : Keeps F a b) :
    Keeps F a (Block.endStop b) := by
  unfold Block.endStop
  extract_lets z0 z1 z2 z3 z4 z5 z6
  have h7 : Keeps F a z2 := by
    subst z2
    exact Keeps.upd (m := 4398046511104) h (s.up rfl) (by intro p; cases p <;> first | exact .inl rfl | (right; simp only [Part.same, and_self]))
  have h8 : Keeps F a z3 := by
    subst z3
    refine Keeps.foldl (fun b x h => ?_) _ ?_
    · refine Keeps.choice (fun h9 => ?_) (fun h9 => ?_)
      · exact (Block.traceTo_keeps (s.up rfl) h)
      · exact h
    · exact h7
  have h10 : Keeps F a z4 := by
    subst z4
    exact (Block.cinderRec_keeps (s.up rfl) h8)
  have h11 : Keeps F a z5 := by
    subst z5
    refine Keeps.foldl (fun b x h => ?_) _ ?_
    · refine Block.event_keeps (s.up rfl) ?_
      exact h
    · exact (Block.linkRelease_keeps (s.up rfl) h10)
  have h12 : Keeps F a z6 := by
    subst z6
    refine Keeps.foldl (fun b x h => ?_) _ ?_
    · refine Block.accessErr_keeps (s.up rfl) ?_
      exact h
    · exact h11
  refine Keeps.foldl (fun b x h => ?_) _ ?_
  · refine Block.takeHeld_keeps (s.up rfl) ?_
    exact h
  · exact h12

theorem Block.release_keeps {F : Nat} {a : Block} {b} (s : sub 87411173359614 F) (h : Keeps F a b) :
    Keeps F a (Block.release b) := by
  unfold Block.release
  refine Keeps.choice (fun h0 => ?_) (fun h0 => ?_)
  · exact h
  · refine Keeps.choice (fun h1 => ?_) (fun h1 => ?_)
    · extract_lets z2
      have h3 : Keeps F a z2.2 := by
        subst z2
        refine Block.sampleStopIn_keeps (s.up rfl) ?_
        exact h
      refine Keeps.choice (fun h4 => ?_) (fun h4 => ?_)
      · refine Block.stopDrop_keeps (s.up rfl) ?_
        exact h3
      · refine Block.endStop_keeps (s.up rfl) ?_
        exact h3
    · exact (Block.endStop_keeps (s.up rfl) h)

theorem stopCtlWrite_keeps {F : Nat} {a : Block} {x0 x1 x2 x3} (s : sub 87411173359614 F) (h : Keeps F a x0) :
    Keeps F a (stopCtlWrite x0 x1 x2 x3) := by
  unfold stopCtlWrite
  extract_lets z0
  have h1 : Keeps F a z0 := by
    subst z0
    exact (plainWrite_keeps (s.up rfl) h)
  refine Keeps.choice (fun h2 => ?_) (fun h2 => ?_)
  · refine Keeps.choice (fun h3 => ?_) (fun h3 => ?_)
    · exact (Block.release_keeps (s.up rfl) h1)
    · exact h1
  · refine Keeps.choice (fun h4 => ?_) (fun h4 => ?_)
    · exact (Block.requestStop_keeps (s.up rfl) h1)
    · exact h1

theorem dbgWrite_keeps {F : Nat} {a : Block} {x0 x1 x2 x3} (s : sub 4096 F) (h : Keeps F a x0) :
    Keeps F a (dbgWrite x0 x1 x2 x3) := by
  unfold dbgWrite
  extract_lets z0 z1
  refine Keeps.choice (fun h2 => ?_) (fun h2 => ?_)
  · exact h
  · exact (Block.setCtx_keeps (s.up rfl) h)

theorem Block.ptCtlWrite_keeps {F : Nat} {a : Block} {b path p' v} (s : sub 15561065953920 F) (h : Keeps F a b) :
    Keeps F a (Block.ptCtlWrite b path p' v) := by
  unfold Block.ptCtlWrite
  extract_lets z0 z1 z2 z3 z4 z5 z6
  have h7 : Keeps F a z4 := by
    subst z4
    refine Keeps.choice (fun h8 => ?_) (fun h8 => ?_)
    · exact Keeps.upd (m := 17179869184) h (s.up rfl) (by intro p; cases p <;> first | exact .inl rfl | (right; simp only [Part.same, and_self]))
    · exact h
  have h9 : Keeps F a z5 := by
    subst z5
    exact (Block.setReg_keeps (s.up rfl) h7)
  refine Keeps.choice (fun h10 => ?_) (fun h10 => ?_)
  · exact (Block.pageErr_keeps (s.up rfl) h)
  · refine Keeps.choice (fun h11 => ?_) (fun h11 => ?_)
    · refine Keeps.choice (fun h12 => ?_) (fun h12 => ?_)
      · exact h9
      · exact (Block.toState_keeps (s.up rfl) h9)
    · refine Keeps.choice (fun h13 => ?_) (fun h13 => ?_)
      · exact (Block.toState_keeps (s.up rfl) h9)
      · refine Keeps.choice (fun h14 => ?_) (fun h14 => ?_)
        · exact (Block.toTrain_keeps (s.up rfl) h9)
        · exact h9

theorem Block.mgConsume_keeps {F : Nat} {a : Block} {b p'} (s : sub 8589936768 F) (h : Keeps F a b) :
    Keeps F a (Block.mgConsume b p') := by
  unfold Block.mgConsume
  split
  · rename_i y0 y1
    exact h
  · rename_i y2 y3 y4 y5
    extract_lets z6
    have h7 : Keeps F a z6 := by
      subst z6
      exact (Block.consume_keeps (s.up rfl) (Block.modPort_keeps (s.up rfl) h))
    refine Keeps.choice (fun h8 => ?_) (fun h8 => ?_)
    · exact h7
    · exact (Block.event_keeps (s.up rfl) h7)

theorem writesObserve_keeps : ∀ {F : Nat} {a : Block}, sub 87411173359614 F → ∀ w ∈ writesObserve, ∀ {b : Block} {path x v : Nat}, Keeps F a b → Keeps F a (w.2 b path x v) := by
  intro F a s
  unfold writesObserve
  refine List.forall_mem_cons.2 ⟨?_, List.forall_mem_cons.2 ⟨?_, List.forall_mem_cons.2 ⟨?_, List.forall_mem_cons.2 ⟨?_, List.forall_mem_cons.2 ⟨?_, List.forall_mem_cons.2 ⟨?_, List.forall_mem_cons.2 ⟨?_, List.forall_mem_cons.2 ⟨?_, List.forall_mem_cons.2 ⟨?_, List.forall_mem_cons.2 ⟨?_, List.forall_mem_cons.2 ⟨?_, List.forall_mem_cons.2 ⟨?_, List.forall_mem_cons.2 ⟨?_, List.forall_mem_cons.2 ⟨?_, List.forall_mem_cons.2 ⟨?_, List.forall_mem_cons.2 ⟨?_, List.forall_mem_cons.2 ⟨?_, List.forall_mem_cons.2 ⟨?_, List.forall_mem_cons.2 ⟨?_, List.forall_mem_cons.2 ⟨?_, List.forall_mem_cons.2 ⟨?_, fun _ h => nomatch h⟩⟩⟩⟩⟩⟩⟩⟩⟩⟩⟩⟩⟩⟩⟩⟩⟩⟩⟩⟩⟩
  · intro x0 x1 x2 x3 h4
    dsimp -zeta only
    exact (traceCtlWrite_keeps (s.up rfl) h4)
  · intro x5 x6 x7 x8 h9
    dsimp -zeta only
    exact (traceBaseWrite_keeps (s.up rfl) h9)
  · intro x10 x11 x12 x13 h14
    dsimp -zeta only
    exact (traceBaseWrite_keeps (s.up rfl) h14)
  · intro x15 x16 x17 x18 h19
    dsimp -zeta only
    exact (Block.tbSizeSet_keeps (s.up rfl) h19)
  · intro x20 x21 x22 x23 h24
    dsimp -zeta only
    exact (Block.tbHeadSet_keeps (s.up rfl) h24)
  · intro x25 x26 x27 x28 h29
    dsimp -zeta only
    exact (stopCtlWrite_keeps (s.up rfl) h29)
  · intro x30 x31 x32 x33 h34
    dsimp -zeta only
    exact (dbgWrite_keeps (s.up rfl) h34)
  · intro x35 x36 x37 x38 h39
    dsimp -zeta only
    exact (selWrite_keeps (s.up rfl) h39)
  · intro x40 x41 x42 x43 h44
    dsimp -zeta only
    exact (stageWrite_keeps (s.up rfl) h44)
  · intro x45 x46 x47 x48 h49
    dsimp -zeta only
    exact (stageWrite_keeps (s.up rfl) h49)
  · intro x50 x51 x52 x53 h54
    dsimp -zeta only
    exact (bpCtlWrite_keeps (s.up rfl) h54)
  · intro x55 x56 x57 x58 h59
    dsimp -zeta only
    exact (Block.cnCtlWrite_keeps (s.up rfl) h59)
  · intro x60 x61 x62 x63 h64
    dsimp -zeta only
    exact (Block.ptCtlWrite_keeps (s.up rfl) h64)
  · intro x65 x66 x67 x68 h69
    dsimp -zeta only
    refine whileTaken_keeps (s.up rfl) ?_ ?_
    · intro x70 x71 x72 x73 h74
      exact (plainWrite_keeps (s.up rfl) h74)
    · exact h69
  · intro x75 x76 x77 x78 h79
    dsimp -zeta only
    refine whileTaken_keeps (s.up rfl) ?_ ?_
    · intro x80 x81 x82 x83 h84
      exact (plainWrite_keeps (s.up rfl) h84)
    · exact h79
  · intro x85 x86 x87 x88 h89
    dsimp -zeta only
    refine whileTaken_keeps (s.up rfl) ?_ ?_
    · intro x90 x91 x92 x93 h94
      exact (plainWrite_keeps (s.up rfl) h94)
    · exact h89
  · intro x95 x96 x97 x98 h99
    dsimp -zeta only
    refine whileTaken_keeps (s.up rfl) ?_ ?_
    · intro x100 x101 x102 x103 h104
      exact (plainWrite_keeps (s.up rfl) h104)
    · exact h99
  · intro x105 x106 x107 x108 h109
    dsimp -zeta only
    refine ifTaken_keeps (s.up rfl) ?_ ?_
    · intro x110 x111 x112 x113 h114
      exact (plainWrite_keeps (s.up rfl) h114)
    · exact h109
  · intro x115 x116 x117 x118 h119
    dsimp -zeta only
    exact (rateWrite_keeps (s.up rfl) h119)
  · intro x120 x121 x122 x123 h124
    dsimp -zeta only
    refine Keeps.choice (fun h125 => ?_) (fun h125 => ?_)
    · exact (Block.mgGo_keeps (s.up rfl) h124)
    · exact h124
  · intro x126 x127 x128 x129 h130
    dsimp -zeta only
    refine Keeps.choice (fun h131 => ?_) (fun h131 => ?_)
    · exact (Block.mgConsume_keeps (s.up rfl) h130)
    · exact h130

theorem unitWrite_keeps {F : Nat} {a b : Block} {path x v : Nat} (s : sub 105553115217918 F) (h : Keeps F a b) : Keeps F a (unitWrite b path x v) := by
  unfold unitWrite
  extract_lets pg o
  refine Keeps.choice (fun _ => headerWrite_keeps (s.up rfl) h) (fun _ => ?_)
  refine Keeps.choice (fun _ => h) (fun _ => ?_)
  refine Keeps.choice (fun _ => lockWrite_keeps (s.up rfl) h) (fun _ => ?_)
  split
  · rename_i w e
    have hm := List.mem_of_find?_eq_some e
    unfold writers at hm
    simp only [List.mem_append] at hm
    rcases hm with (((hm | hm) | hm) | hm) | hm
    · exact writesStart_keeps (s.up rfl) w hm h
    · exact writesSched_keeps (s.up rfl) w hm h
    · exact writesZtu_keeps (s.up rfl) w hm h
    · exact writesRecovery_keeps (s.up rfl) w hm h
    · exact writesObserve_keeps (s.up rfl) w hm h
  · exact plainWrite_keeps (s.up rfl) h

theorem Block.laneTick_keeps {F : Nat} {a : Block} {b w} (s : sub 1099528445952 F) (h : Keeps F a b) :
    Keeps F a (Block.laneTick b w) := by
  unfold Block.laneTick
  split
  · rename_i y0 y1
    exact h
  · rename_i y2 y3 y4
    refine Keeps.choice (fun h5 => ?_) (fun h5 => ?_)
    · exact (Block.deliver_keeps (s.up rfl) h)
    · exact h

theorem Block.lanesTick_keeps {F : Nat} {a : Block} {b} (s : sub 1099528445952 F) (h : Keeps F a b) :
    Keeps F a (Block.lanesTick b) := by
  unfold Block.lanesTick
  extract_lets z0
  have h1 : Keeps F a z0 := by
    subst z0
    refine Keeps.foldl (fun b x h => ?_) _ ?_
    · refine Block.laneTick_keeps (s.up rfl) ?_
      exact h
    · exact h
  refine Keeps.choice (fun h2 => ?_) (fun h2 => ?_)
  · exact Keeps.upd (m := 16777216) h1 (s.up rfl) (by intro p; cases p <;> first | exact .inl rfl | (right; simp only [Part.same, and_self]))
  · exact h1

theorem Block.dropMsg_keeps {F : Nat} {a : Block} {b m'} (s : sub 4294967296 F) (h : Keeps F a b) :
    Keeps F a (Block.dropMsg b m') := by
  unfold Block.dropMsg
  exact (Block.ccMod_keeps (s.up rfl) h)

theorem Block.ccSnoop_keeps {F : Nat} {a : Block} {b k agent line f} (s : sub 5368709248 F) (h : Keeps F a b) (hf : ∀ v0 v1, Keeps F a v1 → Keeps F a (f v0 v1)) :
    Keeps F a (Block.ccSnoop b k agent line f) := by
  unfold Block.ccSnoop
  refine Keeps.choice (fun h0 => ?_) (fun h0 => ?_)
  · exact (Block.ccDown_keeps (s.up rfl) h)
  · split
    · rename_i y1 y2
      exact h
    · rename_i y3 y4 y5
      apply hf
      exact (Block.dropMsg_keeps (s.up rfl) h)

theorem Block.answer_keeps {F : Nat} {a : Block} {b v} (s : sub 64 F) (h : Keeps F a b) :
    Keeps F a (Block.answer b v) := by
  unfold Block.answer
  exact Keeps.upd (m := 64) h (s.up rfl) (by intro p; cases p <;> first | exact .inl rfl | (right; simp only [Part.same, and_self]))

theorem Block.usWhile_keeps {F : Nat} {a : Block} {b on a'} (s : sub 144 F) (h : Keeps F a b) :
    Keeps F a (Block.usWhile b on a') := by
  unfold Block.usWhile
  refine Keeps.choice (fun h0 => ?_) (fun h0 => ?_)
  · exact (Block.addCycle_keeps (s.up rfl) h)
  · exact h

theorem Block.retireRec_keeps {F : Nat} {a : Block} {b e} (s : sub 32768 F) (h : Keeps F a b) :
    Keeps F a (Block.retireRec b e) := by
  unfold Block.retireRec
  extract_lets z0
  exact (Block.setEng_keeps (s.up rfl) h)

theorem Block.mayRetire_keeps {F : Nat} {a : Block} {b e} (s : sub 32800 F) (h : Keeps F a b) :
    Keeps F a (Block.mayRetire b e) := by
  unfold Block.mayRetire
  extract_lets z0
  have h1 : Keeps F a z0.2 := by
    subst z0
    refine Block.fresh_keeps (s.up rfl) ?_
    exact h
  refine Keeps.choice (fun h2 => ?_) (fun h2 => ?_)
  · refine Block.retireRec_keeps (s.up rfl) ?_
    exact h1
  · exact h1

theorem Block.cadTick_keeps {F : Nat} {a : Block} {b} (s : sub 536870912 F) (h : Keeps F a b) :
    Keeps F a (Block.cadTick b) := by
  unfold Block.cadTick
  exact (Block.modCad_keeps (s.up rfl) h)

theorem Block.windowWrite_keeps {F : Nat} {a : Block} {b slot v} (s : sub 13477888583808 F) (h : Keeps F a b) :
    Keeps F a (Block.windowWrite b slot v) := by
  unfold Block.windowWrite
  extract_lets z0
  refine Keeps.choice (fun h1 => ?_) (fun h1 => ?_)
  · exact (Block.signalOne_keeps (s.up rfl) h)
  · exact (Block.count32_keeps (s.up rfl) (Block.ledgerTerm_keeps (s.up rfl) h))

theorem Block.windowAccess_keeps {F : Nat} {a : Block} {b path a' wide v} (s : sub 13477888583808 F) (h : Keeps F a b) :
    Keeps F a (Block.windowAccess b path a' wide v) := by
  unfold Block.windowAccess
  extract_lets z0 z1
  subst z1
  refine Block.outsideWrite_keeps (s.up rfl) ?_ ?_ ?_
  · exact h
  · intro x2 h3
    exact (Block.accessErr_keeps (s.up rfl) h3)
  · intro x4 h5
    refine Keeps.choice (fun h6 => ?_) (fun h6 => ?_)
    · refine Keeps.choice (fun h7 => ?_) (fun h7 => ?_)
      · exact (Block.windowWrite_keeps (s.up rfl) h5)
      · dsimp -zeta only
        exact (Block.accessErr_keeps (s.up rfl) h5)
    · exact h5

theorem Block.rxBad_keeps {F : Nat} {a : Block} {b p'} (s : sub 8589934720 F) (h : Keeps F a b) :
    Keeps F a (Block.rxBad b p') := by
  unfold Block.rxBad
  refine Keeps.choice (fun h0 => ?_) (fun h0 => ?_)
  · exact (Block.sendNak_keeps (s.up rfl) (Block.count32_keeps (s.up rfl) h))
  · exact h

theorem Block.rxFrame_keeps {F : Nat} {a : Block} {b p' f cls typ} (s : sub 15561602824848 F) (h : Keeps F a b) :
    Keeps F a (Block.rxFrame b p' f cls typ) := by
  unfold Block.rxFrame
  extract_lets z0 z1 z2 z3 z4
  have h5 : Keeps F a z2 := by
    subst z2
    exact (Block.rxGood_keeps (s.up rfl) h)
  have h6 : Keeps F a z4 := by
    subst z4
    refine Keeps.choice (fun h7 => ?_) (fun h7 => ?_)
    · exact (Block.rxContent_keeps (s.up rfl) h5)
    · exact h5
  refine Keeps.choice (fun h8 => ?_) (fun h8 => ?_)
  · exact h
  · refine Keeps.choice (fun h9 => ?_) (fun h9 => ?_)
    · exact (Block.rxBad_keeps (s.up rfl) h)
    · refine Keeps.choice (fun h10 => ?_) (fun h10 => ?_)
      · exact h
      · refine Keeps.choice (fun h11 => ?_) (fun h11 => ?_)
        · exact (Block.isolate_keeps (s.up rfl) h)
        · refine Keeps.choice (fun h12 => ?_) (fun h12 => ?_)
          · exact (Block.rxAccept_keeps (s.up rfl) h5)
          · refine Keeps.choice (fun h13 => ?_) (fun h13 => ?_)
            · exact h5
            · exact (Block.sendNak_keeps (s.up rfl) h6)

theorem Block.freeCtx_keeps {F : Nat} {a : Block} {b c} (s : sub 15544020301952 F) (h : Keeps F a b) :
    Keeps F a (Block.freeCtx b c) := by
  unfold Block.freeCtx
  refine Keeps.choice (fun h0 => ?_) (fun h0 => ?_)
  · extract_lets z1
    have h2 : Keeps F a z1 := by
      subst z1
      exact (Block.freeObjects_keeps (s.up rfl) h)
    refine Keeps.choice (fun h3 => ?_) (fun h3 => ?_)
    · exact (Block.setCtx_keeps (s.up rfl) (Block.dropPasid_keeps (s.up rfl) h2))
    · exact h2
  · exact h

theorem Block.plainUe_keeps {F : Nat} {a : Block} {b pg} (s : sub 13202729470368 F) (h : Keeps F a b) :
    Keeps F a (Block.plainUe b pg) := by
  unfold Block.plainUe
  extract_lets z0 z1
  have h2 : Keeps F a z0.2 := by
    subst z0
    refine Block.fresh_keeps (s.up rfl) ?_
    exact h
  have h3 : Keeps F a z1.2 := by
    subst z1
    refine Block.fresh_keeps (s.up rfl) ?_
    exact h2
  refine Block.ueEvent_keeps (s.up rfl) ?_
  exact h3

theorem Block.ccStorage_keeps {F : Nat} {a : Block} {b way} (s : sub 13752485284768 F) (h : Keeps F a b) :
    Keeps F a (Block.ccStorage b way) := by
  unfold Block.ccStorage
  refine Keeps.choice (fun h0 => ?_) (fun h0 => ?_)
  · extract_lets z1
    have h2 : Keeps F a z1 := by
      subst z1
      exact (Block.retireInst_keeps (s.up rfl) (Block.storageUe_keeps (s.up rfl) h))
    clear_value z1
    split
    · rename_i y3 y4 y5
      exact (Block.enterSpare_keeps (s.up rfl) h2)
    · rename_i y6 y7
      exact h2
  · exact (Block.plainUe_keeps (s.up rfl) h)

theorem Block.dispatch_keeps {F : Nat} {a : Block} {b c} (s : sub 1099511635968 F) (h : Keeps F a b) :
    Keeps F a (Block.dispatch b c) := by
  unfold Block.dispatch
  extract_lets z0 z1
  have h2 : Keeps F a z1 := by
    subst z1
    exact (Block.modCmd_keeps (s.up rfl) h)
  refine Keeps.choice (fun h3 => ?_) (fun h3 => ?_)
  · exact h2
  · exact (Block.profStart_keeps (s.up rfl) h2)

theorem Block.takeDecision_keeps {F : Nat} {a : Block} {b} (s : sub 1100585394336 F) (h : Keeps F a b) :
    Keeps F a (Block.takeDecision b) := by
  unfold Block.takeDecision
  split
  · rename_i y0 y1
    exact h
  · rename_i y2 y3 y4 y5
    extract_lets z6 z7 z8 z9 z10 z11 z12
    have h13 : Keeps F a z9 := by
      subst z9
      refine Keeps.foldl (fun b x h => ?_) _ ?_
      · refine Keeps.choice (fun h14 => ?_) (fun h14 => ?_)
        · exact (Block.dispatch_keeps (s.up rfl) h)
        · exact (Block.enterPlacing_keeps (s.up rfl) (Block.dispatch_keeps (s.up rfl) h))
      · exact h
    have h15 : Keeps F a z10 := by
      subst z10
      exact (Block.count64_keeps (s.up rfl) h13)
    have h16 : Keeps F a z11 := by
      subst z11
      exact (Block.dispatch_keeps (s.up rfl) h)
    have h17 : Keeps F a z12 := by
      subst z12
      exact (Block.count64_keeps (s.up rfl) h16)
    refine Keeps.choice (fun h18 => ?_) (fun h18 => ?_)
    · exact (Block.traceDecision_keeps (s.up rfl) (Block.countDecision_keeps (s.up rfl) h15))
    · exact (Block.traceDecision_keeps (s.up rfl) (Block.countDecision_keeps (s.up rfl) h17))

theorem Block.starve_keeps {F : Nat} {a : Block} {b e w} (s : sub 32896 F) (h : Keeps F a b) :
    Keeps F a (Block.starve b e w) := by
  unfold Block.starve
  extract_lets z0 z1
  refine Keeps.choice (fun h2 => ?_) (fun h2 => ?_)
  · exact (Block.count32_keeps (s.up rfl) (Block.setEng_keeps (s.up rfl) h))
  · exact h

theorem Block.doCreate_keeps {F : Nat} {a : Block} {b c p'} (s : sub 92303360 F) (h : Keeps F a b) :
    Keeps F a (Block.doCreate b c p') := by
  unfold Block.doCreate
  split
  · rename_i y0 y1 y2
    exact (Block.endCmd_keeps (s.up rfl) h)
  · rename_i y3 y4
    refine Keeps.choice (fun h5 => ?_) (fun h5 => ?_)
    · exact (Block.endCmd_keeps (s.up rfl) h)
    · extract_lets z6
      have h7 : Keeps F a z6 := by
        subst z6
        refine Keeps.choice (fun h8 => ?_) (fun h8 => ?_)
        · exact (Block.openCtx_keeps (s.up rfl) h)
        · exact h
      exact (Block.endCmd_keeps (s.up rfl) (Block.createQueue_keeps (s.up rfl) h7))

theorem Block.stopPins_keeps {F : Nat} {a : Block} {b ids} (s : sub 33554432 F) (h : Keeps F a b) :
    Keeps F a (Block.stopPins b ids) := by
  unfold Block.stopPins
  exact Keeps.upd (m := 33554432) h (s.up rfl) (by intro p; cases p <;> first | exact .inl rfl | (right; simp only [Part.same, and_self]))

theorem Block.enterRun_keeps {F : Nat} {a : Block} {b p'} (s : sub 15561065953920 F) (h : Keeps F a b) :
    Keeps F a (Block.enterRun b p') := by
  unfold Block.enterRun
  extract_lets z0 z1 z2 z3
  have h4 : Keeps F a z0 := by
    subst z0
    exact (Block.modPort_keeps (s.up rfl) h)
  have h5 : Keeps F a z2 := by
    subst z2
    exact Keeps.upd (m := 17179869184) h4 (s.up rfl) (by intro p; cases p <;> first | exact .inl rfl | (right; simp only [Part.same, and_self]))
  have h6 : Keeps F a z3 := by
    subst z3
    exact (Block.event_keeps (s.up rfl) (Block.cinderRec_keeps (s.up rfl) h5))
  exact (Block.noteLink_keeps (s.up rfl) h6)

theorem Block.authSettle_keeps {F : Nat} {a : Block} {b p'} (s : sub 15561065953920 F) (h : Keeps F a b) :
    Keeps F a (Block.authSettle b p') := by
  unfold Block.authSettle
  refine Keeps.choice (fun h0 => ?_) (fun h0 => ?_)
  · exact (Block.enterRun_keeps (s.up rfl) h)
  · exact h

theorem Block.shrink_keeps {F : Nat} {a : Block} {b c h' cores units} (s : sub 16643531929728 F) (h : Keeps F a b) :
    Keeps F a (Block.shrink b c h' cores units) := by
  unfold Block.shrink
  extract_lets z0 z1 z2 z3 z4 z5 z6 z7 z8
  have h9 : Keeps F a z6 := by
    subst z6
    exact (Block.setHarness_keeps (s.up rfl) h)
  have h10 : Keeps F a z7 := by
    subst z7
    exact (Block.modCmd_keeps (s.up rfl) h9)
  have h11 : Keeps F a z8 := by
    subst z8
    exact (Block.recheckWaits_keeps (s.up rfl) h10)
  refine Keeps.choice (fun h12 => ?_) (fun h12 => ?_)
  · exact (Block.endCmd_keeps (s.up rfl) h)
  · refine Keeps.choice (fun h13 => ?_) (fun h13 => ?_)
    · exact (Block.endCmd_keeps (s.up rfl) h)
    · clear_value z8
      clear_value z7
      clear_value z6
      clear_value z5
      clear_value z4
      clear_value z3
      clear_value z2
      clear_value z1
      clear_value z0
      split
      · rename_i y14 y15 y16
        exact (Block.placeAll_keeps (s.up rfl) (Block.endShrink_keeps (s.up rfl) h11))
      · rename_i y17 y18
        exact h11

theorem Block.atsDone_keeps {F : Nat} {a : Block} {b x ok} (s : sub 15544020301952 F) (h : Keeps F a b) :
    Keeps F a (Block.atsDone b x ok) := by
  unfold Block.atsDone
  extract_lets z0 z1 z2 z3 z4 z5 z6 z7
  subst z1
  have h8 : Keeps F a z3 := by
    subst z3
    exact Keeps.upd (m := 67108864) h (s.up rfl) (by intro p; cases p <;> first | exact .inl rfl | (right; simp only [Part.same, and_self]))
  have h9 : Keeps F a z4 := by
    subst z4
    refine Keeps.choice (fun h10 => ?_) (fun h10 => ?_)
    · exact Keeps.upd (m := 67108864) h8 (s.up rfl) (by intro p; cases p <;> first | exact .inl rfl | (right; simp only [Part.same, and_self]))
    · exact h8
  have h11 : Keeps F a z6 := by
    subst z6
    refine Keeps.foldl (fun b x h => ?_) _ ?_
    · refine Keeps.choice (fun h12 => ?_) (fun h12 => ?_)
      · exact (Block.seekSource_keeps (s.up rfl) h)
      · exact (Block.closeFault_keeps (s.up rfl) h)
    · exact h9
  refine Keeps.choice (fun h13 => ?_) (fun h13 => ?_)
  · exact h
  · refine Block.settleFaults_keeps (s.up rfl) ?_
    refine Keeps.foldl (fun b x h => ?_) _ ?_
    · refine Keeps.choice (fun h14 => ?_) (fun h14 => ?_)
      · exact (Block.resumeAsker_keeps (s.up rfl) h)
      · exact (Block.failAsker_keeps (s.up rfl) h)
    · exact h11

theorem Block.syncWait_keeps {F : Nat} {a : Block} {b e ctx v n} (s : sub 2199149275264 F) (h : Keeps F a b) :
    Keeps F a (Block.syncWait b e ctx v n) := by
  unfold Block.syncWait
  split
  · rename_i y0 y1
    exact (Block.setSynced_keeps (s.up rfl) h)
  · rename_i y2 y3 y4
    extract_lets z5 z6
    refine Keeps.choice (fun h7 => ?_) (fun h7 => ?_)
    · exact (Block.snuffWaiter_keeps (s.up rfl) h)
    · refine Keeps.choice (fun h8 => ?_) (fun h8 => ?_)
      · exact (Block.setSynced_keeps (s.up rfl) h)
      · refine Block.setEng_keeps (s.up rfl) ?_
        exact Keeps.upd (m := 8388608) h (s.up rfl) (by intro p; cases p <;> first | exact .inl rfl | (right; simp only [Part.same, and_self]))

theorem Block.syncRec_keeps {F : Nat} {a : Block} {b e w r v} (s : sub 15544020301984 F) (h : Keeps F a b) :
    Keeps F a (Block.syncRec b e w r v) := by
  unfold Block.syncRec
  extract_lets z0
  clear_value z0
  split
  · rename_i y1 y2
    exact (Block.syncBarrier_keeps (s.up rfl) h)
  · rename_i y3 y4
    exact (Block.syncWait_keeps (s.up rfl) h)
  · rename_i y5 y6
    exact (Block.syncArgload_keeps (s.up rfl) h)
  · rename_i y7 y8 y9 y10
    exact (Block.setSynced_keeps (s.up rfl) h)

theorem Block.ccReply_keeps {F : Nat} {a : Block} {b k agent line} (s : sub 4295229568 F) (h : Keeps F a b) :
    Keeps F a (Block.ccReply b k agent line) := by
  unfold Block.ccReply
  split
  · rename_i y0 y1
    exact h
  · rename_i y2 y3 y4
    exact (Block.ccAnswer_keeps (s.up rfl) (Block.dropMsg_keeps (s.up rfl) h))

theorem Block.takeTests_keeps {F : Nat} {a : Block} {b failed} (s : sub 2097280 F) (h : Keeps F a b) :
    Keeps F a (Block.takeTests b failed) := by
  unfold Block.takeTests
  extract_lets z0 z1
  have h2 : Keeps F a z1 := by
    subst z1
    exact Keeps.upd (m := 2097152) h (s.up rfl) (by intro p; cases p <;> first | exact .inl rfl | (right; simp only [Part.same, and_self]))
  refine Keeps.foldl (fun b x h => ?_) _ ?_
  · refine Keeps.choice (fun h3 => ?_) (fun h3 => ?_)
    · exact h
    · exact (Block.setField_keeps (s.up rfl) h)
  · exact h2

theorem Block.rxLink_keeps {F : Nat} {a : Block} {b p' f admits g} (s : sub 15561065953920 F) (h : Keeps F a b) (hg : ∀ v0, Keeps F a v0 → Keeps F a (g v0)) :
    Keeps F a (Block.rxLink b p' f admits g) := by
  unfold Block.rxLink
  extract_lets z0 z1
  have h2 : Keeps F a z1 := by
    subst z1
    refine Keeps.choice (fun h3 => ?_) (fun h3 => ?_)
    · exact (Block.rxGood_keeps (s.up rfl) h)
    · exact h
  refine Keeps.choice (fun h4 => ?_) (fun h4 => ?_)
  · exact h
  · refine Keeps.choice (fun h5 => ?_) (fun h5 => ?_)
    · exact (Block.rxBad_keeps (s.up rfl) h)
    · refine Keeps.choice (fun h6 => ?_) (fun h6 => ?_)
      · exact h
      · clear_value z1
        clear_value z0
        split
        · rename_i y7 y8
          exact (Block.rlDrop_keeps (s.up rfl) h2)
        · rename_i y9 y10 y11
          apply hg
          exact (Block.setPort_keeps (s.up rfl) h2)

theorem Block.streamEng_keeps {F : Nat} {a : Block} {b e} (s : sub 15544020301984 F) (h : Keeps F a b) :
    Keeps F a (Block.streamEng b e) := by
  unfold Block.streamEng
  extract_lets z0
  clear_value z0
  split
  · rename_i y1 y2
    exact h
  · rename_i y3 y4 y5
    split
    · rename_i y6 y7
      refine Keeps.choice (fun h8 => ?_) (fun h8 => ?_)
      · exact (Block.starve_keeps (s.up rfl) h)
      · exact h
    · rename_i y9 y10 y11 y12
      refine Keeps.choice (fun h13 => ?_) (fun h13 => ?_)
      · exact h
      · split
        · rename_i y14 y15 y16
          refine Keeps.choice (fun h17 => ?_) (fun h17 => ?_)
          · exact (Block.syncRec_keeps (s.up rfl) h)
          · exact h
        · rename_i y18 y19
          refine Keeps.choice (fun h20 => ?_) (fun h20 => ?_)
          · exact (Block.mayRetire_keeps (s.up rfl) h)
          · exact h

theorem Block.streamTick_keeps {F : Nat} {a : Block} {b e} (s : sub 15544020301984 F) (h : Keeps F a b) :
    Keeps F a (Block.streamTick b e) := by
  unfold Block.streamTick
  refine Keeps.choice (fun h0 => ?_) (fun h0 => ?_)
  · exact (Block.loadArgs_keeps (s.up rfl) h)
  · exact (Block.streamEng_keeps (s.up rfl) h)

theorem Block.streamsTick_keeps {F : Nat} {a : Block} {b} (s : sub 16643531929760 F) (h : Keeps F a b) :
    Keeps F a (Block.streamsTick b) := by
  unfold Block.streamsTick
  refine Keeps.foldl (fun b x h => ?_) _ ?_
  · refine Block.streamTick_keeps (s.up rfl) ?_
    exact h
  · exact (Block.lanesTick_keeps (s.up rfl) h)

theorem Block.breakVersion_keeps {F : Nat} {a : Block} {b v} (s : sub 15402151372928 F) (h : Keeps F a b) :
    Keeps F a (Block.breakVersion b v) := by
  unfold Block.breakVersion
  extract_lets z0 z1 z2 z3 z4 z5 z6
  have h7 : Keeps F a z0 := by
    subst z0
    exact (Block.modVersion_keeps (s.up rfl) h)
  subst z1
  have h8 : Keeps F a z2 := by
    subst z2
    refine Keeps.foldl (fun b x h => ?_) _ ?_
    · refine Block.abortCmd_keeps (s.up rfl) ?_
      exact h
    · exact h7
  have h9 : Keeps F a z3 := by
    subst z3
    refine Keeps.foldl (fun b x h => ?_) _ ?_
    · refine Block.abortTask_keeps (s.up rfl) ?_
      exact h
    · exact h8
  have h10 : Keeps F a z4 := by
    subst z4
    refine Keeps.choice (fun h11 => ?_) (fun h11 => ?_)
    · refine Keeps.foldl (fun b x h => ?_) _ ?_
      · refine Block.failList_keeps (s.up rfl) ?_
        exact h
      · exact h9
    · exact h9
  have h12 : Keeps F a z5 := by
    subst z5
    exact (Block.reapVersions_keeps (s.up rfl) h10)
  have h13 : Keeps F a z6 := by
    subst z6
    exact (Block.cinderRec_keeps (s.up rfl) h12)
  exact (Block.event_keeps (s.up rfl) h13)

theorem Block.write32_keeps {F : Nat} {a : Block} {b path a' v} (s : sub 105553115217918 F) (h : Keeps F a b) :
    Keeps F a (Block.write32 b path a' v) := by
  unfold Block.write32
  refine Block.regWrite_keeps (s.up rfl) ?_ ?_
  · exact h
  · intro x0 h1
    exact (unitWrite_keeps (s.up rfl) h1)

theorem Block.writeAt_keeps {F : Nat} {a : Block} {b path a' wide v} (s : sub 105553115217918 F) (h : Keeps F a b) :
    Keeps F a (Block.writeAt b path a' wide v) := by
  unfold Block.writeAt
  refine Keeps.choice (fun h0 => ?_) (fun h0 => ?_)
  · extract_lets z1
    have h2 : Keeps F a z1 := by
      subst z1
      exact (Block.write32_keeps (s.up rfl) h)
    refine Keeps.choice (fun h3 => ?_) (fun h3 => ?_)
    · exact (Block.write32_keeps (s.up rfl) h2)
    · exact h2
  · refine Keeps.choice (fun h4 => ?_) (fun h4 => ?_)
    · exact (Block.windowAccess_keeps (s.up rfl) h)
    · refine Keeps.choice (fun h5 => ?_) (fun h5 => ?_)
      · exact (Block.doorAccess_keeps (s.up rfl) h)
      · exact (Block.reservedWrite_keeps (s.up rfl) h)

theorem Block.copyStores_keeps {F : Nat} {a : Block} {b} (s : sub 3221225472 F) (h : Keeps F a b) :
    Keeps F a (Block.copyStores b) := by
  unfold Block.copyStores
  extract_lets z0 z1 z2 z3 z4 z5
  refine Block.mcMod_keeps (s.up rfl) ?_
  exact Keeps.upd (m := 2147483648) h (s.up rfl) (by intro p; cases p <;> first | exact .inl rfl | (right; simp only [Part.same, and_self]))

theorem Block.copyTick_keeps {F : Nat} {a : Block} {b} (s : sub 3221225472 F) (h : Keeps F a b) :
    Keeps F a (Block.copyTick b) := by
  unfold Block.copyTick
  split
  · rename_i y0 y1 y2
    refine Keeps.choice (fun h3 => ?_) (fun h3 => ?_)
    · exact (Block.mcMod_keeps (s.up rfl) (Block.copyStores_keeps (s.up rfl) h))
    · exact (Block.mcMod_keeps (s.up rfl) h)
  · rename_i y4 y5
    exact h

theorem Block.misaligned_keeps {F : Nat} {a : Block} {b path a' write} (s : sub 4398046513280 F) (h : Keeps F a b) :
    Keeps F a (Block.misaligned b path a' write) := by
  unfold Block.misaligned
  refine Keeps.choice (fun h0 => ?_) (fun h0 => ?_)
  · exact h
  · refine Keeps.choice (fun h1 => ?_) (fun h1 => ?_)
    · exact (Block.stopDrop_keeps (s.up rfl) h)
    · exact (Block.readErr_keeps (s.up rfl) h)

theorem Block.markWait_keeps {F : Nat} {a : Block} {b q} (s : sub 15544020301952 F) (h : Keeps F a b) :
    Keeps F a (Block.markWait b q) := by
  unfold Block.markWait
  split
  · rename_i y0 y1
    exact h
  · rename_i y2 y3 y4 y5
    exact (Block.meet_keeps (s.up rfl) h)

theorem Block.marksTick_keeps {F : Nat} {a : Block} {b} (s : sub 15544020301952 F) (h : Keeps F a b) :
    Keeps F a (Block.marksTick b) := by
  unfold Block.marksTick
  refine Block.settleQueues_keeps (s.up rfl) ?_
  refine Keeps.foldl (fun b x h => ?_) _ ?_
  · refine Block.settleHalt_keeps (s.up rfl) ?_
    exact (Block.markWait_keeps (s.up rfl) h)
  · exact h

theorem Block.willNeed_keeps {F : Nat} {a : Block} {b c a' len} (s : sub 15544020301952 F) (h : Keeps F a b) :
    Keeps F a (Block.willNeed b c a' len) := by
  unfold Block.willNeed
  extract_lets z0 z1 z2
  have h3 : Keeps F a z2 := by
    subst z2
    refine Block.modCmd_keeps (s.up rfl) ?_
    exact Keeps.upd (m := 67108864) h (s.up rfl) (by intro p; cases p <;> first | exact .inl rfl | (right; simp only [Part.same, and_self]))
  refine Keeps.choice (fun h4 => ?_) (fun h4 => ?_)
  · exact h
  · refine Keeps.foldl (fun b x h => ?_) _ ?_
    · refine Block.startFault_keeps (s.up rfl) ?_
      exact h
    · exact h3

theorem Block.aonTick_keeps {F : Nat} {a : Block} {b} (s : sub 68719476752 F) (h : Keeps F a b) :
    Keeps F a (Block.aonTick b) := by
  unfold Block.aonTick
  exact Keeps.upd (m := 68719476752) h (s.up rfl) (by intro p; cases p <;> first | exact .inl rfl | (right; simp only [Part.same, and_self]))

theorem Block.timeTick_keeps {F : Nat} {a : Block} {b} (s : sub 17179869200 F) (h : Keeps F a b) :
    Keeps F a (Block.timeTick b) := by
  unfold Block.timeTick
  refine Keeps.choice (fun h0 => ?_) (fun h0 => ?_)
  · exact Keeps.upd (m := 16) h (s.up rfl) (by intro p; cases p <;> first | exact .inl rfl | (right; simp only [Part.same, and_self]))
  · exact Keeps.upd (m := 17179869184) h (s.up rfl) (by intro p; cases p <;> first | exact .inl rfl | (right; simp only [Part.same, and_self]))

theorem Block.cohTick_keeps {F : Nat} {a : Block} {b} (s : sub 4294967296 F) (h : Keeps F a b) :
    Keeps F a (Block.cohTick b) := by
  unfold Block.cohTick
  extract_lets z0
  exact (Block.ccMod_keeps (s.up rfl) h)

theorem Block.paceTick_keeps {F : Nat} {a : Block} {b} (s : sub 16384 F) (h : Keeps F a b) :
    Keeps F a (Block.paceTick b) := by
  unfold Block.paceTick
  refine Keeps.foldl (fun b x h => ?_) _ ?_
  · refine Block.setHarness_keeps (s.up rfl) ?_
    exact h
  · exact h

theorem Block.engsTick_keeps {F : Nat} {a : Block} {b} (s : sub 32768 F) (h : Keeps F a b) :
    Keeps F a (Block.engsTick b) := by
  unfold Block.engsTick
  refine Keeps.foldl (fun b x h => ?_) _ ?_
  · refine Block.engTick_keeps (s.up rfl) ?_
    exact h
  · exact h

theorem Block.timesTick_keeps {F : Nat} {a : Block} {b} (s : sub 144 F) (h : Keeps F a b) :
    Keeps F a (Block.timesTick b) := by
  unfold Block.timesTick
  extract_lets z0 z1 z2 z3 z4 z5 z6 z7
  have h8 : Keeps F a z1 := by
    subst z1
    exact (Block.usWhile_keeps (s.up rfl) h)
  have h9 : Keeps F a z2 := by
    subst z2
    exact (Block.usWhile_keeps (s.up rfl) h8)
  have h10 : Keeps F a z3 := by
    subst z3
    exact (Block.usWhile_keeps (s.up rfl) h9)
  have h11 : Keeps F a z4 := by
    subst z4
    exact (Block.usWhile_keeps (s.up rfl) h10)
  have h12 : Keeps F a z5 := by
    subst z5
    exact (Block.usWhile_keeps (s.up rfl) h11)
  have h13 : Keeps F a z6 := by
    subst z6
    exact (Block.usWhile_keeps (s.up rfl) h12)
  have h14 : Keeps F a z7 := by
    subst z7
    exact (Block.usWhile_keeps (s.up rfl) h13)
  exact (Block.setFrac_keeps (s.up rfl) h14)

theorem Block.coreTick_keeps {F : Nat} {a : Block} {b} (s : sub 17230868773816 F) (h : Keeps F a b) :
    Keeps F a (Block.coreTick b) := by
  unfold Block.coreTick
  extract_lets z0 z1 z2 z3
  have h4 : Keeps F a z1 := by
    subst z1
    exact Keeps.upd (m := 35504783376) h (s.up rfl) (by intro p; cases p <;> first | exact .inl rfl | (right; simp only [Part.same, and_self]))
  have h5 : Keeps F a z2 := by
    subst z2
    exact (Block.recoveryTick_keeps (s.up rfl) (Block.cohTick_keeps (s.up rfl) (Block.paceTick_keeps (s.up rfl) (Block.streamsTick_keeps (s.up rfl) (Block.engsTick_keeps (s.up rfl) (Block.workTick_keeps (s.up rfl) (Block.timesTick_keeps (s.up rfl) h4)))))))
  have h6 : Keeps F a z3 := by
    subst z3
    exact (Block.swapTick_keeps (s.up rfl) (Block.moveRole_keeps (s.up rfl) h5))
  exact (Block.mwRun_keeps (s.up rfl) (Block.copyTick_keeps (s.up rfl) (Block.settlePosted_keeps (s.up rfl) (Block.marksTick_keeps (s.up rfl) (Block.calm_keeps (s.up rfl) h6)))))

theorem tick_keeps {F : Nat} {a : Block} {b} (s : sub 17317304990648 F) (h : Keeps F a b) :
    Keeps F a (tick b) := by
  unfold tick
  extract_lets z0 z1
  have h2 : Keeps F a z0 := by
    subst z0
    exact (Block.aonTick_keeps (s.up rfl) h)
  have h3 : Keeps F a z1 := by
    subst z1
    exact (Block.pagesTick_keeps (s.up rfl) (Block.reinTick_keeps (s.up rfl) (Block.cadTick_keeps (s.up rfl) (Block.timeTick_keeps (s.up rfl) h2))))
  refine Keeps.choice (fun h4 => ?_) (fun h4 => ?_)
  · exact h2
  · refine Keeps.choice (fun h5 => ?_) (fun h5 => ?_)
    · exact h3
    · exact (Block.coreTick_keeps (s.up rfl) h3)

theorem Block.missAccess_keeps {F : Nat} {a : Block} {b a' ctx va write} (s : sub 15544020367488 F) (h : Keeps F a b) :
    Keeps F a (Block.missAccess b a' ctx va write) := by
  unfold Block.missAccess
  extract_lets z0
  have h1 : Keeps F a z0 := by
    subst z0
    exact (Block.touch_keeps (s.up rfl) h)
  clear_value z0
  split
  · rename_i y2 y3 y4 y5 y6
    exact (Block.handOver_keeps (s.up rfl) h1)
  · rename_i y7 y8 y9 y10
    refine Keeps.choice (fun h11 => ?_) (fun h11 => ?_)
    · exact h1
    · exact (Block.meet_keeps (s.up rfl) h1)

theorem Block.drained_keeps {F : Nat} {a : Block} {b e} (s : sub 2199149273088 F) (h : Keeps F a b) :
    Keeps F a (Block.drained b e) := by
  unfold Block.drained
  extract_lets z0 z1
  have h2 : Keeps F a z1 := by
    subst z1
    exact (Block.setEng_keeps (s.up rfl) h)
  refine Keeps.choice (fun h3 => ?_) (fun h3 => ?_)
  · exact h
  · clear_value z1
    clear_value z0
    split
    · rename_i y4 y5
      exact h2
    · rename_i y6 y7 y8 y9
      exact (Block.settleCmd_keeps (s.up rfl) h2)
    · rename_i y10 y11 y12 y13
      exact (Block.settleItem_keeps (s.up rfl) h2)

theorem Block.toSecurity_keeps {F : Nat} {a : Block} {b pl} (s : sub 70368744177664 F) (h : Keeps F a b) :
    Keeps F a (Block.toSecurity b pl) := by
  unfold Block.toSecurity
  exact Keeps.upd (m := 70368744177664) h (s.up rfl) (by intro p; cases p <;> first | exact .inl rfl | (right; simp only [Part.same, and_self]))

theorem Block.copyMove_keeps {F : Nat} {a : Block} {b c src dst len ss ds} (s : sub 15544021416064 F) (h : Keeps F a b) :
    Keeps F a (Block.copyMove b c src dst len ss ds) := by
  unfold Block.copyMove
  extract_lets z0
  have h1 : Keeps F a z0 := by
    subst z0
    exact (Block.dmaTouch_keeps (s.up rfl) (Block.dmaTouch_keeps (s.up rfl) h))
  refine Block.access_keeps (s.up rfl) ?_ ?_
  · exact h1
  · intro x2 h3
    refine Block.access_keeps (s.up rfl) ?_ ?_
    · exact h1
    · intro x4 h5
      extract_lets z6
      have h7 : Keeps F a z6 := by
        subst z6
        exact (Block.countBursts_keeps (s.up rfl) h1)
      exact (Block.endCmd_keeps (s.up rfl) (Block.dmaWrite_keeps (s.up rfl) h7))

theorem Block.kernel_keeps {F : Nat} {a : Block} {b c f} (s : sub 2199149109248 F) (h : Keeps F a b) (hf : ∀ v0, Keeps F a v0 → Keeps F a (f v0)) :
    Keeps F a (Block.kernel b c f) := by
  unfold Block.kernel
  split
  · rename_i y0 y1
    apply hf
    exact h
  · rename_i y2 y3 y4
    refine Keeps.choice (fun h5 => ?_) (fun h5 => ?_)
    · refine Block.endCmd_keeps (s.up rfl) ?_
      refine Keeps.choice (fun h6 => ?_) (fun h6 => ?_)
      · exact (Block.undoEnd_keeps (s.up rfl) h)
      · exact h
    · refine Keeps.choice (fun h7 => ?_) (fun h7 => ?_)
      · apply hf
        exact h
      · refine Keeps.choice (fun h8 => ?_) (fun h8 => ?_)
        · exact (Block.endCmd_keeps (s.up rfl) h)
        · refine Keeps.choice (fun h9 => ?_) (fun h9 => ?_)
          · exact (Block.endCmd_keeps (s.up rfl) h)
          · apply hf
            exact h

theorem Block.retryStepNow_keeps {F : Nat} {a : Block} {b c h'} (s : sub 420999489664 F) (h : Keeps F a b) :
    Keeps F a (Block.retryStepNow b c h') := by
  unfold Block.retryStepNow
  extract_lets z0 z1 z2 z3 z4 z5
  have h6 : Keeps F a z2 := by
    subst z2
    refine Block.discardHeld_keeps (s.up rfl) ?_
    exact Keeps.upd (m := 137438953472) h (s.up rfl) (by intro p; cases p <;> first | exact .inl rfl | (right; simp only [Part.same, and_self]))
  have h7 : Keeps F a z3 := by
    subst z3
    refine Keeps.foldl (fun b x h => ?_) _ ?_
    · refine Block.endCmd_keeps (s.up rfl) ?_
      exact h
    · exact h6
  have h8 : Keeps F a z4 := by
    subst z4
    refine Keeps.foldl (fun b x h => ?_) _ ?_
    · refine Block.modTask_keeps (s.up rfl) ?_
      exact h
    · exact h7
  have h9 : Keeps F a z5 := by
    subst z5
    exact (Block.event_keeps (s.up rfl) h8)
  refine Keeps.choice (fun h10 => ?_) (fun h10 => ?_)
  · refine Keeps.foldl (fun b x h => ?_) _ ?_
    · refine Block.postErr_keeps (s.up rfl) ?_
      exact h
    · exact h9
  · exact h9

theorem Block.bpHit_keeps {F : Nat} {a : Block} {b k p'} (s : sub 6597069768832 F) (h : Keeps F a b) :
    Keeps F a (Block.bpHit b k p') := by
  unfold Block.bpHit
  extract_lets z0
  have h1 : Keeps F a z0 := by
    subst z0
    exact (Block.event_keeps (s.up rfl) (Block.setBp_keeps (s.up rfl) h))
  refine Keeps.choice (fun h2 => ?_) (fun h2 => ?_)
  · exact (Block.requestStop_keeps (s.up rfl) h1)
  · exact h1

theorem Block.atsInvalidate_keeps {F : Nat} {a : Block} {b tag pasid va len} (s : sub 15544020301952 F) (h : Keeps F a b) :
    Keeps F a (Block.atsInvalidate b tag pasid va len) := by
  unfold Block.atsInvalidate
  refine Keeps.choice (fun h0 => ?_) (fun h0 => ?_)
  · exact h
  · extract_lets z1 z2 z3 z4
    have h5 : Keeps F a z3 := by
      subst z3
      exact Keeps.upd (m := 67141632) h (s.up rfl) (by intro p; cases p <;> first | exact .inl rfl | (right; simp only [Part.same, and_self]))
    subst z4
    refine Keeps.foldl (fun b x h => ?_) _ ?_
    · refine Block.seekSource_keeps (s.up rfl) ?_
      exact (Block.modFault_keeps (s.up rfl) h)
    · exact h5

theorem Block.tryUnmap_keeps {F : Nat} {a : Block} {b c id} (s : sub 15544020367488 F) (h : Keeps F a b) :
    Keeps F a (Block.tryUnmap b c id) := by
  unfold Block.tryUnmap
  split
  · rename_i y0 y1
    exact (Block.endCmd_keeps (s.up rfl) h)
  · rename_i y2 y3 y4
    refine Keeps.choice (fun h5 => ?_) (fun h5 => ?_)
    · exact h
    · extract_lets z6
      have h7 : Keeps F a z6.2 := by
        subst z6
        refine Block.unmapEnd_keeps (s.up rfl) ?_
        exact (Block.unmapWork_keeps (s.up rfl) h)
      refine Keeps.choice (fun h8 => ?_) (fun h8 => ?_)
      · refine Block.endCmd_keeps (s.up rfl) ?_
        refine Block.bumpEpoch_keeps (s.up rfl) ?_
        exact h7
      · exact h7

theorem Block.releaseSteps_keeps {F : Nat} {a : Block} {b h'} (s : sub 15818898208896 F) (h : Keeps F a b) :
    Keeps F a (Block.releaseSteps b h') := by
  unfold Block.releaseSteps
  extract_lets z0
  refine Block.settlePosted_keeps (s.up rfl) ?_
  refine Keeps.foldl (fun b x h => ?_) _ ?_
  · refine Block.settleWicks_keeps (s.up rfl) ?_ ?_
    · exact (Block.releaseHeld_keeps (s.up rfl) h)
    · exact h
  · exact h

theorem Block.wickError_keeps {F : Nat} {a : Block} {b s'} (s : sub 13202729470080 F) (h : Keeps F a b) :
    Keeps F a (Block.wickError b s') := by
  unfold Block.wickError
  extract_lets z0
  exact (Block.event_keeps (s.up rfl) (Block.cinderRec_keeps (s.up rfl) h))

theorem Block.itemFault_keeps {F : Nat} {a : Block} {b ctx task va st} (s : sub 15543886084224 F) (h : Keeps F a b) :
    Keeps F a (Block.itemFault b ctx task va st) := by
  unfold Block.itemFault
  refine Keeps.choice (fun h0 => ?_) (fun h0 => ?_)
  · exact (Block.loseCtx_keeps (s.up rfl) h)
  · exact (Block.haltTask_keeps (s.up rfl) h)

theorem Block.walkEnd_keeps {F : Nat} {a : Block} {b k} (s : sub 67174400 F) (h : Keeps F a b) :
    Keeps F a (Block.walkEnd b k) := by
  unfold Block.walkEnd
  split
  · rename_i y0 y1
    exact h
  · rename_i y2 y3 y4
    extract_lets z5 z6
    have h7 : Keeps F a z5 := by
      subst z5
      exact Keeps.upd (m := 67108864) h (s.up rfl) (by intro p; cases p <;> first | exact .inl rfl | (right; simp only [Part.same, and_self]))
    have h8 : Keeps F a z6 := by
      subst z6
      clear_value z5
      split
      · rename_i y9 y10 y11
        extract_lets z12
        have h13 : Keeps F a z12 := by
          subst z12
          exact (Block.fillRange_keeps (s.up rfl) h7)
        refine Keeps.choice (fun h14 => ?_) (fun h14 => ?_)
        · exact h13
        · exact (Block.fillPages_keeps (s.up rfl) h13)
      · rename_i y15 y16
        exact h7
    exact (Block.startWalks_keeps (s.up rfl) h8)

theorem Block.powerReset_keeps {F : Nat} {a b : Block} (s : sub 105553115742174 F) (h : Keeps F a b) : Keeps F a b.powerReset :=
  Keeps.upd (m := 105553115742174) h (s.up rfl) (by intro p; cases p <;> first | exact .inl rfl | (right; first | exact rfl | exact ⟨rfl, rfl⟩))


theorem Block.saveWicks_keeps {F : Nat} {a : Block} {b c} (s : sub 281034880 F) (h : Keeps F a b) :
    Keeps F a (Block.saveWicks b c) := by
  unfold Block.saveWicks
  refine Keeps.foldl (fun b x h => ?_) _ ?_
  · split
    · rename_i y0 y1 y2
      refine Keeps.choice (fun h3 => ?_) (fun h3 => ?_)
      · exact h
      · exact (Block.freeVid_keeps (s.up rfl) h)
    · rename_i y4 y5 y6 y7
      exact (Block.freeVid_keeps (s.up rfl) h)
    · rename_i y8 y9
      exact h
  · exact h

theorem Block.readBy_keeps {F : Nat} {a : Block} {b path w held f} (s : sub 64 F) (h : Keeps F a b) (hheld : ∀ v0, Keeps F a v0 → Keeps F a (held v0)) (hf : ∀ v0, Keeps F a v0 → Keeps F a (f v0)) :
    Keeps F a (Block.readBy b path w held f) := by
  unfold Block.readBy
  refine Keeps.choice (fun h0 => ?_) (fun h0 => ?_)
  · exact (Block.answer_keeps (s.up rfl) h)
  · refine Keeps.choice (fun h1 => ?_) (fun h1 => ?_)
    · refine Keeps.choice (fun h2 => ?_) (fun h2 => ?_)
      · apply hheld
        exact h
      · exact (Block.answer_keeps (s.up rfl) h)
    · apply hf
      exact h

theorem Block.setLine_keeps {F : Nat} {a : Block} {b a' line st data} (s : sub 4294967296 F) (h : Keeps F a b) :
    Keeps F a (Block.setLine b a' line st data) := by
  unfold Block.setLine
  exact (Block.ccMod_keeps (s.up rfl) (Block.dropLine_keeps (s.up rfl) h))

theorem Block.verdict_keeps {F : Nat} {a : Block} {b k ok} (s : sub 1073741952 F) (h : Keeps F a b) :
    Keeps F a (Block.verdict b k ok) := by
  unfold Block.verdict
  extract_lets z0 z1 z2
  have h3 : Keeps F a z1 := by
    subst z1
    exact (Block.mcMod_keeps (s.up rfl) h)
  have h4 : Keeps F a z2 := by
    subst z2
    exact (Block.mcMod_keeps (s.up rfl) (Block.setField_keeps (s.up rfl) h3))
  refine Keeps.choice (fun h5 => ?_) (fun h5 => ?_)
  · refine Keeps.choice (fun h6 => ?_) (fun h6 => ?_)
    · exact (Block.beginCopy_keeps (s.up rfl) h4)
    · exact h4
  · exact (Block.mcFail_keeps (s.up rfl) h3)

theorem Block.grant_keeps {F : Nat} {a : Block} {b} (s : sub 92332160 F) (h : Keeps F a b) :
    Keeps F a (Block.grant b) := by
  unfold Block.grant
  split
  · rename_i y0 y1
    exact h
  · rename_i y2 y3 y4 y5
    refine Keeps.choice (fun h6 => ?_) (fun h6 => ?_)
    · exact h
    · extract_lets z7 z8 z9
      have h10 : Keeps F a z7 := by
        subst z7
        refine Block.count32_keeps (s.up rfl) ?_
        exact Keeps.upd (m := 32768) h (s.up rfl) (by intro p; cases p <;> first | exact .inl rfl | (right; simp only [Part.same, and_self]))
      have h11 : Keeps F a z9 := by
        subst z9
        exact (Block.setReg_keeps (s.up rfl) h10)
      exact (Block.tryGroup_keeps (s.up rfl) h11)

theorem Block.recvDoor_keeps {F : Nat} {a : Block} {b q v} (s : sub 268445824 F) (h : Keeps F a b) :
    Keeps F a (Block.recvDoor b q v) := by
  unfold Block.recvDoor
  extract_lets z0 z1 z2
  have h3 : Keeps F a z0 := by
    subst z0
    exact (Block.count32_keeps (s.up rfl) h)
  have h4 : Keeps F a z2 := by
    subst z2
    exact (Block.ledgerTerm_keeps (s.up rfl) h3)
  refine Keeps.choice (fun h5 => ?_) (fun h5 => ?_)
  · refine Keeps.choice (fun h6 => ?_) (fun h6 => ?_)
    · exact (Block.dbSet_keeps (s.up rfl) h4)
    · exact h4
  · exact (Block.fabricDrop_keeps (s.up rfl) h3)

theorem Block.sendRemote_keeps {F : Nat} {a : Block} {b qdoor value chip dest} (s : sub 48662260672640 F) (h : Keeps F a b) :
    Keeps F a (Block.sendRemote b qdoor value chip dest) := by
  unfold Block.sendRemote
  extract_lets z0 z1
  have h2 : Keeps F a z0 := by
    subst z0
    exact (Block.count32_keeps (s.up rfl) h)
  refine Keeps.choice (fun h3 => ?_) (fun h3 => ?_)
  · refine Keeps.choice (fun h4 => ?_) (fun h4 => ?_)
    · exact (Block.recvDoor_keeps (s.up rfl) h2)
    · exact (Block.recvWick_keeps (s.up rfl) h2)
  · exact Keeps.upd (m := 35184372088832) h2 (s.up rfl) (by intro p; cases p <;> first | exact .inl rfl | (right; simp only [Part.same, and_self]))

theorem Block.takeLaneSwitch_keeps {F : Nat} {a : Block} {b p' rxok} (s : sub 15561065953952 F) (h : Keeps F a b) :
    Keeps F a (Block.takeLaneSwitch b p' rxok) := by
  unfold Block.takeLaneSwitch
  extract_lets z0 z1 z2 z3
  have h4 : Keeps F a z2 := by
    subst z2
    exact (Block.setField_keeps (s.up rfl) h)
  refine Keeps.choice (fun h5 => ?_) (fun h5 => ?_)
  · exact (Block.replay_keeps (s.up rfl) (Block.setPort_keeps (s.up rfl) h4))
  · refine Keeps.choice (fun h6 => ?_) (fun h6 => ?_)
    · exact (Block.toTrain_keeps (s.up rfl) h)
    · exact h

theorem Block.stopStep_keeps {F : Nat} {a : Block} {b c h'} (s : sub 137531416576 F) (h : Keeps F a b) :
    Keeps F a (Block.stopStep b c h') := by
  unfold Block.stopStep
  extract_lets z0 z1 z2
  have h3 : Keeps F a z1 := by
    subst z1
    exact Keeps.upd (m := 137438953472) h (s.up rfl) (by intro p; cases p <;> first | exact .inl rfl | (right; simp only [Part.same, and_self]))
  have h4 : Keeps F a z2 := by
    subst z2
    refine Keeps.foldl (fun b x h => ?_) _ ?_
    · refine Block.cancelCmd_keeps (s.up rfl) ?_
      exact h
    · exact h3
  refine Keeps.foldl (fun b x h => ?_) _ ?_
  · refine Block.cancelItem_keeps (s.up rfl) ?_
    exact h
  · exact h4

theorem Block.completeCmd_keeps {F : Nat} {a : Block} {b q i} (s : sub 16918409836672 F) (h : Keeps F a b) :
    Keeps F a (Block.completeCmd b q i) := by
  unfold Block.completeCmd
  split
  · rename_i y0 y1
    exact h
  · rename_i y2 y3 y4
    split
    · rename_i y5 y6 y7
      refine Keeps.choice (fun h8 => ?_) (fun h8 => ?_)
      · exact (Block.settlePosted_keeps (s.up rfl) h)
      · refine Keeps.choice (fun h9 => ?_) (fun h9 => ?_)
        · exact h
        · split
          · rename_i y10 y11 y12
            have h13 := Block.writeStatus_keeps (s.up rfl) h y12
            exact (Block.finishCmd_keeps (s.up rfl) h13)
          · rename_i y14 y15 y16 y17
            exact (Block.ringPoison_keeps (s.up rfl) h)
          · rename_i y19 y20 y21
            exact (Block.ringFault_keeps (s.up rfl) h)
          · rename_i y23 y24 y25 y26
            exact (Block.meet_keeps (s.up rfl) h)
    · rename_i y27 y28
      exact h

theorem Block.sampleOcc_keeps {F : Nat} {a : Block} {b} (s : sub 2199023255552 F) (h : Keeps F a b) :
    Keeps F a (Block.sampleOcc b) := by
  unfold Block.sampleOcc
  extract_lets z0
  exact Keeps.upd (m := 2199023255552) h (s.up rfl) (by intro p; cases p <;> first | exact .inl rfl | (right; simp only [Part.same, and_self]))

theorem execProgressBeat_keeps {F : Nat} {x0 s0 t} (s : sub 172032 F) (e : execProgressBeat x0 s0 = .next t) :
    Keeps F s0.blk t.blk := by
  unfold execProgressBeat at e
  refine core_keeps (fun a => ?_) e
  have h : Keeps F a a := Keeps.refl F a
  extract_lets z0
  clear_value z0
  split
  · rename_i y1 y2 y3 y4
    refine Keeps.choice (fun h5 => ?_) (fun h5 => ?_)
    · exact (Block.beatEng_keeps (s.up rfl) (Block.setEng_keeps (s.up rfl) h))
    · exact h
  · rename_i y6 y7
    exact h

theorem execEngineInvocationEnd_keeps {F : Nat} {x0 s0 t} (s : sub 15544020301952 F) (e : execEngineInvocationEnd x0 s0 = .next t) :
    Keeps F s0.blk t.blk := by
  unfold execEngineInvocationEnd at e
  refine core_keeps (fun a => ?_) e
  have h : Keeps F a a := Keeps.refl F a
  extract_lets z0
  clear_value z0
  split
  · rename_i y1 y2 y3
    refine Keeps.choice (fun h4 => ?_) (fun h4 => ?_)
    · exact (Block.endInvocation_keeps (s.up rfl) (Block.setEng_keeps (s.up rfl) h))
    · exact h
  · rename_i y5 y6
    exact h

theorem execLedgerStorageUe_keeps {F : Nat} {s0 t} (s : sub 13202997914016 F) (e : execLedgerStorageUe s0 = .next t) :
    Keeps F s0.blk t.blk := by
  unfold execLedgerStorageUe at e
  refine core_keeps (fun a => ?_) e
  have h : Keeps F a a := Keeps.refl F a
  exact (Block.rebase_keeps (s.up rfl) (Block.plainUe_keeps (s.up rfl) h))

theorem execCnFreezeWrite_keeps {F : Nat} {x0 x1 s0 t} (s : sub 8796093024384 F) (e : execCnFreezeWrite x0 x1 s0 = .next t) :
    Keeps F s0.blk t.blk := by
  unfold execCnFreezeWrite at e
  unfold State.write at e
  refine aon_keeps (fun a => ?_) e
  have h : Keeps F a a := Keeps.refl F a
  refine Block.regWrite_keeps (s.up rfl) ?_ ?_
  · exact h
  · intro x0 h1
    exact (Block.cnCtlWrite_keeps (s.up rfl) h1)

theorem execWakeGroupStart_keeps {F : Nat} {s0 t} (s : sub 92332160 F) (e : execWakeGroupStart s0 = .next t) :
    Keeps F s0.blk t.blk := by
  unfold execWakeGroupStart at e
  refine core_keeps (fun a => ?_) e
  have h : Keeps F a a := Keeps.refl F a
  exact (Block.tryGroup_keeps (s.up rfl) h)

theorem execLamplighterDecision_keeps {F : Nat} {s0 t} (s : sub 1100585394336 F) (e : execLamplighterDecision s0 = .next t) :
    Keeps F s0.blk t.blk := by
  unfold execLamplighterDecision at e
  refine core_keeps (fun a => ?_) e
  have h : Keeps F a a := Keeps.refl F a
  refine Keeps.choice (fun h0 => ?_) (fun h0 => ?_)
  · exact (Block.takeDecision_keeps (s.up rfl) (Block.calm_keeps (s.up rfl) h))
  · exact h

theorem execStallBudgetExpiry_keeps {F : Nat} {x0 s0 t} (s : sub 13202805139584 F) (e : execStallBudgetExpiry x0 s0 = .next t) :
    Keeps F s0.blk t.blk := by
  unfold execStallBudgetExpiry at e
  refine core_keeps (fun a => ?_) e
  have h : Keeps F a a := Keeps.refl F a
  split
  · rename_i y0 y1 y2
    split
    · rename_i y3 y4 y5
      refine Keeps.choice (fun h6 => ?_) (fun h6 => ?_)
      · exact (Block.stallCmd_keeps (s.up rfl) h)
      · exact h
    · rename_i y7 y8
      exact h
  · rename_i y9 y10 y11
    split
    · rename_i y12 y13 y14
      refine Keeps.choice (fun h15 => ?_) (fun h15 => ?_)
      · exact (Block.stallTask_keeps (s.up rfl) h)
      · exact h
    · rename_i y16 y17
      exact h

theorem execAtsInvalidateCompletion_keeps {F : Nat} {x0 s0 t} (s : sub 67207296 F) (e : execAtsInvalidateCompletion x0 s0 = .next t) :
    Keeps F s0.blk t.blk := by
  unfold execAtsInvalidateCompletion at e
  refine core_keeps (fun a => ?_) e
  have h : Keeps F a a := Keeps.refl F a
  split
  · rename_i y0 y1
    exact h
  · rename_i y2 y3 y4
    refine Keeps.choice (fun h5 => ?_) (fun h5 => ?_)
    · exact h
    · refine Block.bumpEpoch_keeps (s.up rfl) ?_
      exact Keeps.upd (m := 67108864) h (s.up rfl) (by intro p; cases p <;> first | exact .inl rfl | (right; simp only [Part.same, and_self]))

theorem execWalkDone_keeps {F : Nat} {x0 s0 t} (s : sub 67174400 F) (e : execWalkDone x0 s0 = .next t) :
    Keeps F s0.blk t.blk := by
  unfold execWalkDone at e
  refine core_keeps (fun a => ?_) e
  have h : Keeps F a a := Keeps.refl F a
  refine Keeps.choice (fun h0 => ?_) (fun h0 => ?_)
  · exact h
  · exact (Block.walkEnd_keeps (s.up rfl) h)

theorem execAtsCompletion_keeps {F : Nat} {x0 x1 x2 x3 x4 x5 x6 s0 t} (s : sub 15544020301952 F) (e : execAtsCompletion x0 x1 x2 x3 x4 x5 x6 s0 = .next t) :
    Keeps F s0.blk t.blk := by
  unfold execAtsCompletion at e
  refine core_keeps (fun a => ?_) e
  have h : Keeps F a a := Keeps.refl F a
  exact (Block.atsDone_keeps (s.up rfl) h)

theorem execLaunchPersist_keeps {F : Nat} {x0 x1 s0 t} (s : sub 16643531929728 F) (e : execLaunchPersist x0 x1 s0 = .next t) :
    Keeps F s0.blk t.blk := by
  unfold execLaunchPersist at e
  refine core_keeps (fun a => ?_) e
  have h : Keeps F a a := Keeps.refl F a
  refine Block.runCmd_keeps (s.up rfl) ?_ ?_
  · exact h
  · intro x0 x1 h2
    refine Keeps.choice (fun h3 => ?_) (fun h3 => ?_)
    · exact h2
    · exact (Block.toHal_keeps (s.up rfl) h2)

theorem execWindowOn_keeps {F : Nat} {x0 s0 t} (s : sub 4196512 F) (e : execWindowOn x0 s0 = .next t) :
    Keeps F s0.blk t.blk := by
  unfold execWindowOn at e
  unfold State.write at e
  refine aon_keeps (fun a => ?_) e
  have h : Keeps F a a := Keeps.refl F a
  refine Block.regWrite_keeps (s.up rfl) ?_ ?_
  · exact h
  · intro x0 h1
    refine Block.impOp_keeps (s.up rfl) ?_ ?_
    · exact h1
    · intro x2 h3
      exact (Block.setWindow_keeps (s.up rfl) h3)

theorem execHeartbeatSend_keeps {F : Nat} {x0 s0 t} (s : sub 8589934592 F) (e : execHeartbeatSend x0 s0 = .next t) :
    Keeps F s0.blk t.blk := by
  unfold execHeartbeatSend at e
  refine link_keeps (fun a => ?_) e
  have h : Keeps F a a := Keeps.refl F a
  extract_lets z0 z1
  have h2 : Keeps F a z1 := by
    subst z1
    exact (Block.setPort_keeps (s.up rfl) h)
  refine Keeps.choice (fun h3 => ?_) (fun h3 => ?_)
  · exact (Block.sendFrame_keeps (s.up rfl) h2)
  · exact h

theorem execCommitWickEnable_keeps {F : Nat} {x0 x1 s0 t} (s : sub 18560 F) (e : execCommitWickEnable x0 x1 s0 = .next t) :
    Keeps F s0.blk t.blk := by
  unfold execCommitWickEnable at e
  unfold State.write at e
  refine aon_keeps (fun a => ?_) e
  have h : Keeps F a a := Keeps.refl F a
  refine Block.regWrite_keeps (s.up rfl) ?_ ?_
  · exact h
  · intro x0 h1
    exact (Block.commitWrite_keeps (s.up rfl) h1)

theorem execZtFcrHeadWrite_keeps {F : Nat} {x0 x1 s0 t} (s : sub 15544020301952 F) (e : execZtFcrHeadWrite x0 x1 s0 = .next t) :
    Keeps F s0.blk t.blk := by
  unfold execZtFcrHeadWrite at e
  unfold State.write at e
  refine aon_keeps (fun a => ?_) e
  have h : Keeps F a a := Keeps.refl F a
  refine Block.regWrite_keeps (s.up rfl) ?_ ?_
  · exact h
  · intro x0 h1
    exact (Block.fcrHeadWrite_keeps (s.up rfl) h1)

theorem execObScanDataRead_keeps {F : Nat} {x0 x1 s0 t} (s : sub 192 F) (e : execObScanDataRead x0 x1 s0 = .next t) :
    Keeps F s0.blk t.blk := by
  unfold execObScanDataRead at e
  refine aon_keeps (fun a => ?_) e
  have h : Keeps F a a := Keeps.refl F a
  extract_lets z0
  refine Block.readBy_keeps (s.up rfl) ?_ ?_ ?_
  · exact h
  · intro x1 h2
    exact (Block.answer_keeps (s.up rfl) h2)
  · intro x3 h4
    extract_lets z5 z6
    have h7 : Keeps F a z6 := by
      subst z6
      exact (Block.setReg_keeps (s.up rfl) h4)
    clear_value z6
    clear_value z5
    clear_value z0
    split
    · rename_i y8
      exact (Block.answer_keeps (s.up rfl) h4)
    · rename_i y9
      exact (Block.answer_keeps (s.up rfl) h7)
    · rename_i y10
      exact (Block.answer_keeps (s.up rfl) h7)

theorem execStallAutoResume_keeps {F : Nat} {x0 s0 t} (s : sub 15544020301952 F) (e : execStallAutoResume x0 s0 = .next t) :
    Keeps F s0.blk t.blk := by
  unfold execStallAutoResume at e
  refine core_keeps (fun a => ?_) e
  have h : Keeps F a a := Keeps.refl F a
  split
  · rename_i y0 y1 y2
    split
    · rename_i y3 y4 y5
      refine Keeps.choice (fun h6 => ?_) (fun h6 => ?_)
      · exact (Block.resumeCmd_keeps (s.up rfl) h)
      · exact h
    · rename_i y7 y8
      exact h
  · rename_i y9 y10 y11
    split
    · rename_i y12 y13 y14
      refine Keeps.choice (fun h15 => ?_) (fun h15 => ?_)
      · exact (Block.resumeTask_keeps (s.up rfl) h)
      · exact h
    · rename_i y16 y17
      exact h

theorem execPrefetch_keeps {F : Nat} {x0 x1 s0 t} (s : sub 15544020301952 F) (e : execPrefetch x0 x1 s0 = .next t) :
    Keeps F s0.blk t.blk := by
  unfold execPrefetch at e
  refine core_keeps (fun a => ?_) e
  have h : Keeps F a a := Keeps.refl F a
  refine Block.runCmd_keeps (s.up rfl) ?_ ?_
  · exact h
  · intro x0 x1 h2
    split
    · rename_i y3 y4 y5 y6
      extract_lets z7 z8 z9
      subst z7
      have h10 : Keeps F a z9 := by
        subst z9
        exact (Block.setRunning_keeps (s.up rfl) h2)
      refine Keeps.choice (fun h11 => ?_) (fun h11 => ?_)
      · dsimp -zeta only
        refine Keeps.choice (fun h12 => ?_) (fun h12 => ?_)
        · exact h2
        · exact (Block.endCmd_keeps (s.up rfl) h2)
      · dsimp -zeta only
        refine Keeps.choice (fun h13 => ?_) (fun h13 => ?_)
        · refine Keeps.foldl (fun b x h => ?_) _ ?_
          · refine Block.startFault_keeps (s.up rfl) ?_
            exact h
          · exact h10
        · refine Block.endCmd_keeps (s.up rfl) ?_
          refine Keeps.foldl (fun b x h => ?_) _ ?_
          · refine Block.startFault_keeps (s.up rfl) ?_
            exact h
          · exact h10
    · rename_i y14 y15
      exact h2

theorem execQueueDestroy_keeps {F : Nat} {x0 x1 s0 t} (s : sub 15544020301952 F) (e : execQueueDestroy x0 x1 s0 = .next t) :
    Keeps F s0.blk t.blk := by
  unfold execQueueDestroy at e
  refine core_keeps (fun a => ?_) e
  have h : Keeps F a a := Keeps.refl F a
  refine Block.runCmd_keeps (s.up rfl) ?_ ?_
  · exact h
  · intro x0 x1 h2
    split
    · rename_i y3 y4 y5 y6 y7
      refine Block.kernel_keeps (s.up rfl) ?_ ?_
      · exact h2
      · intro x8 h9
        split
        · rename_i y10 y11
          exact (Block.endCmd_keeps (s.up rfl) h9)
        · rename_i y12 y13 y14
          refine Keeps.choice (fun h15 => ?_) (fun h15 => ?_)
          · exact (Block.settleQueue_keeps (s.up rfl) h9)
          · exact (Block.destroyQueue_keeps (s.up rfl) (Block.setRunning_keeps (s.up rfl) h9))
    · rename_i y16 y17
      exact h2

theorem execListRetire_keeps {F : Nat} {x0 x1 s0 t} (s : sub 2199149109248 F) (e : execListRetire x0 x1 s0 = .next t) :
    Keeps F s0.blk t.blk := by
  unfold execListRetire at e
  refine core_keeps (fun a => ?_) e
  have h : Keeps F a a := Keeps.refl F a
  refine Block.runCmd_keeps (s.up rfl) ?_ ?_
  · exact h
  · intro x0 x1 h2
    split
    · rename_i y3 y4 y5 y6
      refine Block.kernel_keeps (s.up rfl) ?_ ?_
      · exact h2
      · intro x7 h8
        extract_lets z9 z10
        have h11 : Keeps F a z10 := by
          subst z10
          exact Keeps.upd (m := 16777216) h8 (s.up rfl) (by intro p; cases p <;> first | exact .inl rfl | (right; simp only [Part.same, and_self]))
        refine Keeps.choice (fun h12 => ?_) (fun h12 => ?_)
        · exact (Block.endCmd_keeps (s.up rfl) h8)
        · refine Keeps.choice (fun h13 => ?_) (fun h13 => ?_)
          · exact (Block.endCmd_keeps (s.up rfl) h8)
          · exact (Block.endCmd_keeps (s.up rfl) (Block.reapVersions_keeps (s.up rfl) h11))
    · rename_i y14 y15
      exact h2

theorem execLightingGroupStart_keeps {F : Nat} {s0 t} (s : sub 92332160 F) (e : execLightingGroupStart s0 = .next t) :
    Keeps F s0.blk t.blk := by
  unfold execLightingGroupStart at e
  refine core_keeps (fun a => ?_) e
  have h : Keeps F a a := Keeps.refl F a
  exact (Block.tryGroup_keeps (s.up rfl) h)

theorem execPwrcycAckAssert_keeps {F : Nat} {s0 t} (s : sub 68719476740 F) (e : execPwrcycAckAssert s0 = .next t) :
    Keeps F s0.blk t.blk := by
  unfold execPwrcycAckAssert at e
  refine aon_keeps (fun a => ?_) e
  have h : Keeps F a a := Keeps.refl F a
  refine Block.modPwr_keeps (s.up rfl) ?_
  exact Keeps.upd (m := 4) h (s.up rfl) (by intro p; cases p <;> first | exact .inl rfl | (right; simp only [Part.same, and_self]))

theorem execAonResetRelease_keeps {F : Nat} {x0 s0 t} (s : sub 105553115742174 F) (e : execAonResetRelease x0 s0 = .next t) :
    Keeps F s0.blk t.blk := by
  unfold execAonResetRelease at e
  refine aon_keeps (fun a => ?_) e
  have h : Keeps F a a := Keeps.refl F a
  extract_lets z0
  have h1 : Keeps F a z0 := by
    subst z0
    exact (Block.powerReset_keeps (s.up rfl) h)
  exact Keeps.upd (m := 2) h1 (s.up rfl) (by intro p; cases p <;> first | exact .inl rfl | (right; simp only [Part.same, and_self]))

theorem execTimeSyncExchange_keeps {F : Nat} {x0 s0 t} (s : sub 8589934592 F) (e : execTimeSyncExchange x0 s0 = .next t) :
    Keeps F s0.blk t.blk := by
  unfold execTimeSyncExchange at e
  refine link_keeps (fun a => ?_) e
  have h : Keeps F a a := Keeps.refl F a
  extract_lets z0 z1 z2
  have h3 : Keeps F a z2 := by
    subst z2
    exact (Block.setPort_keeps (s.up rfl) h)
  refine Keeps.choice (fun h4 => ?_) (fun h4 => ?_)
  · exact (Block.sendFrame_keeps (s.up rfl) (Block.sendFrame_keeps (s.up rfl) h3))
  · exact h

theorem execNak_keeps {F : Nat} {x0 x1 s0 t} (s : sub 15561065953952 F) (e : execNak x0 x1 s0 = .next t) :
    Keeps F s0.blk t.blk := by
  unfold execNak at e
  refine link_keeps (fun a => ?_) e
  have h : Keeps F a a := Keeps.refl F a
  refine Block.rxLink_keeps (s.up rfl) ?_ ?_
  · exact h
  · intro x0 h1
    exact (Block.replay_keeps (s.up rfl) h1)

theorem execWindowOff_keeps {F : Nat} {x0 s0 t} (s : sub 4196512 F) (e : execWindowOff x0 s0 = .next t) :
    Keeps F s0.blk t.blk := by
  unfold execWindowOff at e
  unfold State.write at e
  refine aon_keeps (fun a => ?_) e
  have h : Keeps F a a := Keeps.refl F a
  refine Block.regWrite_keeps (s.up rfl) ?_ ?_
  · exact h
  · intro x0 h1
    refine Block.impOp_keeps (s.up rfl) ?_ ?_
    · exact h1
    · intro x2 h3
      exact (Block.setWindow_keeps (s.up rfl) h3)

theorem execPowerGrant_keeps {F : Nat} {s0 t} (s : sub 92332160 F) (e : execPowerGrant s0 = .next t) :
    Keeps F s0.blk t.blk := by
  unfold execPowerGrant at e
  refine core_keeps (fun a => ?_) e
  have h : Keeps F a a := Keeps.refl F a
  exact (Block.grant_keeps (s.up rfl) h)

theorem execMigrationFault_keeps {F : Nat} {x0 x1 x2 x3 s0 t} (s : sub 15544020367488 F) (e : execMigrationFault x0 x1 x2 x3 s0 = .next t) :
    Keeps F s0.blk t.blk := by
  unfold execMigrationFault at e
  refine core_keeps (fun a => ?_) e
  have h : Keeps F a a := Keeps.refl F a
  refine Keeps.choice (fun h0 => ?_) (fun h0 => ?_)
  · exact (Block.missAccess_keeps (s.up rfl) h)
  · exact h

theorem execDoorbellWrite_keeps {F : Nat} {x0 x1 x2 x3 s0 t} (s : sub 10368 F) (e : execDoorbellWrite x0 x1 x2 x3 s0 = .next t) :
    Keeps F s0.blk t.blk := by
  unfold execDoorbellWrite at e
  refine aon_keeps (fun a => ?_) e
  have h : Keeps F a a := Keeps.refl F a
  refine Keeps.choice (fun h0 => ?_) (fun h0 => ?_)
  · exact h
  · refine Keeps.choice (fun h1 => ?_) (fun h1 => ?_)
    · exact (Block.stopDrop_keeps (s.up rfl) h)
    · refine Keeps.choice (fun h2 => ?_) (fun h2 => ?_)
      · exact (Block.accessErr_keeps (s.up rfl) h)
      · refine Keeps.choice (fun h3 => ?_) (fun h3 => ?_)
        · exact h
        · exact (Block.doorbell_keeps (s.up rfl) h)

theorem execSnpInv_keeps {F : Nat} {x0 x1 s0 t} (s : sub 5368971424 F) (e : execSnpInv x0 x1 s0 = .next t) :
    Keeps F s0.blk t.blk := by
  unfold execSnpInv at e
  unfold State.cc at e
  refine core_keeps (fun a => ?_) e
  have h : Keeps F a a := Keeps.refl F a
  refine Keeps.choice (fun h0 => ?_) (fun h0 => ?_)
  · dsimp -zeta only
    refine Block.ccSnoop_keeps (s.up rfl) ?_ ?_
    · exact h
    · intro x1 x2 h3
      exact (Block.ccInvalidate_keeps (s.up rfl) h3)
  · exact h

theorem execWrT_keeps {F : Nat} {x0 x1 x2 x3 s0 t} (s : sub 4295229568 F) (e : execWrT x0 x1 x2 x3 s0 = .next t) :
    Keeps F s0.blk t.blk := by
  unfold execWrT at e
  refine core_keeps (fun a => ?_) e
  have h : Keeps F a a := Keeps.refl F a
  refine Keeps.choice (fun h0 => ?_) (fun h0 => ?_)
  · exact h
  · refine Keeps.choice (fun h1 => ?_) (fun h1 => ?_)
    · exact h
    · refine Keeps.choice (fun h2 => ?_) (fun h2 => ?_)
      · exact h
      · refine Block.ccWrite_keeps (s.up rfl) ?_
        refine Keeps.choice (fun h3 => ?_) (fun h3 => ?_)
        · exact (Block.noteRecord_keeps (s.up rfl) h)
        · exact h

theorem execGlobalStopRequest_keeps {F : Nat} {x0 s0 t} (s : sub 4398046513280 F) (e : execGlobalStopRequest x0 s0 = .next t) :
    Keeps F s0.blk t.blk := by
  unfold execGlobalStopRequest at e
  unfold State.write at e
  refine aon_keeps (fun a => ?_) e
  have h : Keeps F a a := Keeps.refl F a
  refine Block.regWrite_keeps (s.up rfl) ?_ ?_
  · exact h
  · intro x0 h1
    exact (Block.requestStop_keeps (s.up rfl) h1)

theorem execRelay_keeps {F : Nat} {x0 x1 s0 t} (s : sub 15561602824848 F) (e : execRelay x0 x1 s0 = .next t) :
    Keeps F s0.blk t.blk := by
  unfold execRelay at e
  refine link_keeps (fun a => ?_) e
  have h : Keeps F a a := Keeps.refl F a
  exact (Block.rxFrame_keeps (s.up rfl) h)

theorem execTaskItemTake_keeps {F : Nat} {x0 x1 s0 t} (s : sub 15544020367488 F) (e : execTaskItemTake x0 x1 s0 = .next t) :
    Keeps F s0.blk t.blk := by
  unfold execTaskItemTake at e
  refine core_keeps (fun a => ?_) e
  have h : Keeps F a a := Keeps.refl F a
  split
  · rename_i y0 y1
    exact h
  · rename_i y2 y3 y4
    refine Keeps.choice (fun h5 => ?_) (fun h5 => ?_)
    · extract_lets z6 z7
      have h8 : Keeps F a z7 := by
        subst z7
        exact (Block.touch_keeps (s.up rfl) h)
      clear_value z7
      clear_value z6
      split
      · rename_i y9 y10 y11
        refine Block.viaHome_keeps (s.up rfl) ?_ ?_
        · exact h8
        · exact (Block.startItem_keeps (s.up rfl) h8)
      · rename_i y12 y13 y14 y15
        exact (Block.loseCtx_keeps (s.up rfl) (Block.notePoison_keeps (s.up rfl) h8))
      · rename_i y16 y17 y18
        exact (Block.itemFault_keeps (s.up rfl) h8)
      · rename_i y19 y20 y21 y22
        exact (Block.meet_keeps (s.up rfl) h8)
    · exact h

theorem execRdoutAck_keeps {F : Nat} {x0 s0 t} (s : sub 68719478912 F) (e : execRdoutAck x0 s0 = .next t) :
    Keeps F s0.blk t.blk := by
  unfold execRdoutAck at e
  unfold State.write at e
  refine aon_keeps (fun a => ?_) e
  have h : Keeps F a a := Keeps.refl F a
  refine Block.regWrite_keeps (s.up rfl) ?_ ?_
  · exact h
  · intro x0 h1
    exact (Block.modPwr_keeps (s.up rfl) h1)

theorem execLaunch_keeps {F : Nat} {x0 x1 s0 t} (s : sub 16643531929728 F) (e : execLaunch x0 x1 s0 = .next t) :
    Keeps F s0.blk t.blk := by
  unfold execLaunch at e
  refine core_keeps (fun a => ?_) e
  have h : Keeps F a a := Keeps.refl F a
  refine Block.runCmd_keeps (s.up rfl) ?_ ?_
  · exact h
  · intro x0 x1 h2
    refine Keeps.choice (fun h3 => ?_) (fun h3 => ?_)
    · exact h2
    · exact (Block.toHal_keeps (s.up rfl) h2)

theorem execDrainLimitExpiry_keeps {F : Nat} {x0 s0 t} (s : sub 34944 F) (e : execDrainLimitExpiry x0 s0 = .next t) :
    Keeps F s0.blk t.blk := by
  unfold execDrainLimitExpiry at e
  refine core_keeps (fun a => ?_) e
  have h : Keeps F a a := Keeps.refl F a
  extract_lets z0
  refine Keeps.choice (fun h1 => ?_) (fun h1 => ?_)
  · exact (Block.undrained_keeps (s.up rfl) h)
  · exact h

theorem execWickRowUe_keeps {F : Nat} {x0 s0 t} (s : sub 15951907187584 F) (e : execWickRowUe x0 s0 = .next t) :
    Keeps F s0.blk t.blk := by
  unfold execWickRowUe at e
  refine core_keeps (fun a => ?_) e
  have h : Keeps F a a := Keeps.refl F a
  exact (Block.wickError_keeps (s.up rfl) (Block.moveRow_keeps (s.up rfl) (Block.snuff_keeps (s.up rfl) (Block.storageUe_keeps (s.up rfl) h))))

theorem execSnpWb_keeps {F : Nat} {x0 x1 s0 t} (s : sub 5368971424 F) (e : execSnpWb x0 x1 s0 = .next t) :
    Keeps F s0.blk t.blk := by
  unfold execSnpWb at e
  unfold State.cc at e
  refine core_keeps (fun a => ?_) e
  have h : Keeps F a a := Keeps.refl F a
  refine Keeps.choice (fun h0 => ?_) (fun h0 => ?_)
  · dsimp -zeta only
    refine Block.ccSnoop_keeps (s.up rfl) ?_ ?_
    · exact h
    · intro x1 x2 h3
      extract_lets z4 z5 z6
      have h7 : Keeps F a z4 := by
        subst z4
        exact (Block.ccSpill_keeps (s.up rfl) h3)
      have h8 : Keeps F a z5 := by
        subst z5
        exact (Block.setLine_keeps (s.up rfl) h7)
      have h9 : Keeps F a z6 := by
        subst z6
        refine Keeps.choice (fun h10 => ?_) (fun h10 => ?_)
        · exact (Block.setDir_keeps (s.up rfl) h8)
        · exact h3
      exact (Block.ccAnswer_keeps (s.up rfl) h9)
  · exact h

theorem execCoreResetAssert_keeps {F : Nat} {s0 t} (s : sub 78537770139614 F) (e : execCoreResetAssert s0 = .next t) :
    Keeps F s0.blk t.blk := by
  unfold execCoreResetAssert at e
  refine aon_keeps (fun a => ?_) e
  have h : Keeps F a a := Keeps.refl F a
  refine Keeps.choice (fun h0 => ?_) (fun h0 => ?_)
  · exact h
  · extract_lets z1 z2 z3
    have h4 : Keeps F a z1 := by
      subst z1
      exact (Block.coreReset_keeps (s.up rfl) h)
    have h5 : Keeps F a z2 := by
      subst z2
      exact Keeps.upd (m := 8) h4 (s.up rfl) (by intro p; cases p <;> first | exact .inl rfl | (right; simp only [Part.same, and_self]))
    exact Keeps.upd (m := 4) h5 (s.up rfl) (by intro p; cases p <;> first | exact .inl rfl | (right; simp only [Part.same, and_self]))

theorem execWalkerUe_keeps {F : Nat} {x0 s0 t} (s : sub 13753626200960 F) (e : execWalkerUe x0 s0 = .next t) :
    Keeps F s0.blk t.blk := by
  unfold execWalkerUe at e
  refine core_keeps (fun a => ?_) e
  have h : Keeps F a a := Keeps.refl F a
  refine Keeps.choice (fun h0 => ?_) (fun h0 => ?_)
  · exact (Block.swapWalker_keeps (s.up rfl) (Block.storageUe_keeps (s.up rfl) h))
  · exact h

theorem execLedgerClosing_keeps {F : Nat} {s0 t} (s : sub 13202997905536 F) (e : execLedgerClosing s0 = .next t) :
    Keeps F s0.blk t.blk := by
  unfold execLedgerClosing at e
  refine core_keeps (fun a => ?_) e
  have h : Keeps F a a := Keeps.refl F a
  refine Keeps.choice (fun h0 => ?_) (fun h0 => ?_)
  · exact (Block.closeAll_keeps (s.up rfl) h)
  · exact h

theorem execPwrcycNoackTimeout_keeps {F : Nat} {s0 t} (s : sub 128 F) (e : execPwrcycNoackTimeout s0 = .next t) :
    Keeps F s0.blk t.blk := by
  unfold execPwrcycNoackTimeout at e
  refine aon_keeps (fun a => ?_) e
  have h : Keeps F a a := Keeps.refl F a
  split
  · rename_i y0 y1 y2
    refine Keeps.choice (fun h3 => ?_) (fun h3 => ?_)
    · exact (Block.setField_keeps (s.up rfl) h)
    · exact h
  · rename_i y4 y5
    exact h

theorem execStallEnd_keeps {F : Nat} {x0 s0 t} (s : sub 2233509013664 F) (e : execStallEnd x0 s0 = .next t) :
    Keeps F s0.blk t.blk := by
  unfold execStallEnd at e
  unfold State.write at e
  refine aon_keeps (fun a => ?_) e
  have h : Keeps F a a := Keeps.refl F a
  refine Block.regWrite_keeps (s.up rfl) ?_ ?_
  · exact h
  · intro x0 h1
    exact (Block.stallOpEnd_keeps (s.up rfl) h1)

theorem execData_keeps {F : Nat} {x0 x1 s0 t} (s : sub 5368971392 F) (e : execData x0 x1 s0 = .next t) :
    Keeps F s0.blk t.blk := by
  unfold execData at e
  unfold State.cc at e
  refine core_keeps (fun a => ?_) e
  have h : Keeps F a a := Keeps.refl F a
  refine Keeps.choice (fun h0 => ?_) (fun h0 => ?_)
  · dsimp -zeta only
    split
    · rename_i y1 y2
      exact (Block.ccDown_keeps (s.up rfl) h)
    · rename_i y3 y4 y5
      extract_lets z6 z7
      have h8 : Keeps F a z6 := by
        subst z6
        exact (Block.dropMsg_keeps (s.up rfl) h)
      have h9 : Keeps F a z7 := by
        subst z7
        clear_value z6
        split
        · rename_i y10 y11 y12
          exact (Block.setLine_keeps (s.up rfl) h8)
        · rename_i y13 y14
          exact h8
      exact (Block.ccTaken_keeps (s.up rfl) h9)
  · exact h

theorem execBootmapClear_keeps {F : Nat} {x0 s0 t} (s : sub 167774336 F) (e : execBootmapClear x0 s0 = .next t) :
    Keeps F s0.blk t.blk := by
  unfold execBootmapClear at e
  unfold State.write at e
  refine aon_keeps (fun a => ?_) e
  have h : Keeps F a a := Keeps.refl F a
  refine Block.regWrite_keeps (s.up rfl) ?_ ?_
  · exact h
  · intro x0 h1
    exact (Block.clearBootmap_keeps (s.up rfl) h1)

theorem execSignalRemote_keeps {F : Nat} {x0 x1 s0 t} (s : sub 48662344558720 F) (e : execSignalRemote x0 x1 s0 = .next t) :
    Keeps F s0.blk t.blk := by
  unfold execSignalRemote at e
  refine core_keeps (fun a => ?_) e
  have h : Keeps F a a := Keeps.refl F a
  refine Block.runCmd_keeps (s.up rfl) ?_ ?_
  · exact h
  · intro x0 x1 h2
    split
    · rename_i y3 y4 y5 y6 y7 y8
      exact (Block.endCmd_keeps (s.up rfl) (Block.sendRemote_keeps (s.up rfl) h2))
    · rename_i y9 y10
      exact h2

theorem execHoldoverEdge_keeps {F : Nat} {s0 t} (s : sub 536870912 F) (e : execHoldoverEdge s0 = .next t) :
    Keeps F s0.blk t.blk := by
  unfold execHoldoverEdge at e
  refine link_keeps (fun a => ?_) e
  have h : Keeps F a a := Keeps.refl F a
  refine Keeps.choice (fun h0 => ?_) (fun h0 => ?_)
  · exact (Block.modCad_keeps (s.up rfl) h)
  · exact h

theorem execClrSig_keeps {F : Nat} {x0 s0 t} (s : sub 1073744000 F) (e : execClrSig x0 s0 = .next t) :
    Keeps F s0.blk t.blk := by
  unfold execClrSig at e
  unfold State.write at e
  refine aon_keeps (fun a => ?_) e
  have h : Keeps F a a := Keeps.refl F a
  refine Block.regWrite_keeps (s.up rfl) ?_ ?_
  · exact h
  · intro x0 h1
    exact (Block.clearSig_keeps (s.up rfl) h1)

theorem execWatchdogPet_keeps {F : Nat} {x0 s0 t} (s : sub 34359740544 F) (e : execWatchdogPet x0 s0 = .next t) :
    Keeps F s0.blk t.blk := by
  unfold execWatchdogPet at e
  unfold State.write at e
  refine aon_keeps (fun a => ?_) e
  have h : Keeps F a a := Keeps.refl F a
  refine Block.regWrite_keeps (s.up rfl) ?_ ?_
  · exact h
  · intro x0 h1
    exact Keeps.upd (m := 34359738368) h1 (s.up rfl) (by intro p; cases p <;> first | exact .inl rfl | (right; simp only [Part.same, and_self]))

theorem execPtEnWrite_keeps {F : Nat} {x0 x1 x2 s0 t} (s : sub 15561065953920 F) (e : execPtEnWrite x0 x1 x2 s0 = .next t) :
    Keeps F s0.blk t.blk := by
  unfold execPtEnWrite at e
  unfold State.write at e
  refine aon_keeps (fun a => ?_) e
  have h : Keeps F a a := Keeps.refl F a
  refine Block.regWrite_keeps (s.up rfl) ?_ ?_
  · exact h
  · intro x0 h1
    exact (Block.ptCtlWrite_keeps (s.up rfl) h1)

theorem execWickSignalApply_keeps {F : Nat} {x0 x1 x2 s0 t} (s : sub 13477888583808 F) (e : execWickSignalApply x0 x1 x2 s0 = .next t) :
    Keeps F s0.blk t.blk := by
  unfold execWickSignalApply at e
  refine core_keeps (fun a => ?_) e
  have h : Keeps F a a := Keeps.refl F a
  refine Keeps.choice (fun h0 => ?_) (fun h0 => ?_)
  · exact (Block.signalOne_keeps (s.up rfl) h)
  · exact h

theorem execHeartbeatTimeout_keeps {F : Nat} {x0 s0 t} (s : sub 15561065953920 F) (e : execHeartbeatTimeout x0 s0 = .next t) :
    Keeps F s0.blk t.blk := by
  unfold execHeartbeatTimeout at e
  refine link_keeps (fun a => ?_) e
  have h : Keeps F a a := Keeps.refl F a
  extract_lets z0
  refine Keeps.choice (fun h1 => ?_) (fun h1 => ?_)
  · exact (Block.toTrain_keeps (s.up rfl) h)
  · exact h

theorem execWickRelease_keeps {F : Nat} {x0 s0 t} (s : sub 281036960 F) (e : execWickRelease x0 s0 = .next t) :
    Keeps F s0.blk t.blk := by
  unfold execWickRelease at e
  unfold State.write at e
  refine aon_keeps (fun a => ?_) e
  have h : Keeps F a a := Keeps.refl F a
  refine Block.regWrite_keeps (s.up rfl) ?_ ?_
  · exact h
  · intro x0 h1
    refine Block.impOp_keeps (s.up rfl) ?_ ?_
    · exact h1
    · intro x2 h3
      exact (Block.doRelease_keeps (s.up rfl) h3)

theorem execPwrcycReqRelease_keeps {F : Nat} {s0 t} (s : sub 105553115742174 F) (e : execPwrcycReqRelease s0 = .next t) :
    Keeps F s0.blk t.blk := by
  unfold execPwrcycReqRelease at e
  refine aon_keeps (fun a => ?_) e
  have h : Keeps F a a := Keeps.refl F a
  split
  · rename_i y0 y1 y2
    refine Keeps.choice (fun h3 => ?_) (fun h3 => ?_)
    · exact (Block.powerReset_keeps (s.up rfl) h)
    · exact h
  · rename_i y4 y5
    exact h

theorem execRcFieldRead_keeps {F : Nat} {x0 x1 x2 s0 t} (s : sub 7696581422272 F) (e : execRcFieldRead x0 x1 x2 s0 = .next t) :
    Keeps F s0.blk t.blk := by
  unfold execRcFieldRead at e
  refine aon_keeps (fun a => ?_) e
  have h : Keeps F a a := Keeps.refl F a
  extract_lets z0
  refine Keeps.choice (fun h1 => ?_) (fun h1 => ?_)
  · exact (Block.answer_keeps (s.up rfl) (Block.misaligned_keeps (s.up rfl) h))
  · refine Block.readBy_keeps (s.up rfl) ?_ ?_ ?_
    · exact h
    · intro x2 h3
      exact (Block.answer_keeps (s.up rfl) h3)
    · intro x4 h5
      extract_lets z6
      have h7 : Keeps F a z6.2 := by
        subst z6
        refine Keeps.choice2 (fun h8 => ?_) (fun h8 => ?_)
        · refine Block.read64_keeps (s.up rfl) ?_
          exact h5
        · refine Block.read32_keeps (s.up rfl) ?_
          exact h5
      refine Block.answer_keeps (s.up rfl) ?_
      exact h7

end Sys2Proof.Laws
end

