-- ==== Sys2Proof/Laws/Frames5.lean ====
section
/-!
SUPPORT. What each operation and each row leaves as it was. Part 5 of 5.
-/
namespace Sys2Proof.Laws

open Sys2Proof Sys2Proof.Machine Sys2Proof.Safety

theorem execSemRead_keeps {F : Nat} {x0 x1 s0 t} (s : sub 1088 F) (e : execSemRead x0 x1 s0 = .next t) :
    Keeps F s0.blk t.blk := by
  unfold execSemRead at e
  refine aon_keeps (fun a => ?_) e
  have h : Keeps F a a := Keeps.refl F a
  refine Block.readBy_keeps (s.up rfl) ?_ ?_ ?_
  · exact h
  · intro x0 h1
    exact (Block.answer_keeps (s.up rfl) h1)
  · intro x2 h3
    extract_lets z4
    have h5 : Keeps F a z4.2 := by
      subst z4
      refine Block.takeSem_keeps (s.up rfl) ?_
      exact h3
    refine Block.answer_keeps (s.up rfl) ?_
    exact h5

theorem execWait_keeps {F : Nat} {x0 x1 s0 t} (s : sub 92299264 F) (e : execWait x0 x1 s0 = .next t) :
    Keeps F s0.blk t.blk := by
  unfold execWait at e
  refine core_keeps (fun a => ?_) e
  have h : Keeps F a a := Keeps.refl F a
  refine Block.runCmd_keeps (s.up rfl) ?_ ?_
  · exact h
  · intro x0 x1 h2
    exact (Block.endCmd_keeps (s.up rfl) h2)

theorem execBreakpointResume_keeps {F : Nat} {x0 s0 t} (s : sub 15544020301952 F) (e : execBreakpointResume x0 s0 = .next t) :
    Keeps F s0.blk t.blk := by
  unfold execBreakpointResume at e
  unfold State.write at e
  refine aon_keeps (fun a => ?_) e
  have h : Keeps F a a := Keeps.refl F a
  refine Block.regWrite_keeps (s.up rfl) ?_ ?_
  · exact h
  · intro x0 h1
    exact (Block.bpResume_keeps (s.up rfl) h1)

theorem execHeartbeat_keeps {F : Nat} {x0 x1 s0 t} (s : sub 15561602824848 F) (e : execHeartbeat x0 x1 s0 = .next t) :
    Keeps F s0.blk t.blk := by
  unfold execHeartbeat at e
  refine link_keeps (fun a => ?_) e
  have h : Keeps F a a := Keeps.refl F a
  exact (Block.rxFrame_keeps (s.up rfl) h)

theorem execError_keeps {F : Nat} {x0 x1 s0 t} (s : sub 15561602824848 F) (e : execError x0 x1 s0 = .next t) :
    Keeps F s0.blk t.blk := by
  unfold execError at e
  refine link_keeps (fun a => ?_) e
  have h : Keeps F a a := Keeps.refl F a
  exact (Block.rxFrame_keeps (s.up rfl) h)

theorem execFill_keeps {F : Nat} {x0 x1 s0 t} (s : sub 16643533043840 F) (e : execFill x0 x1 s0 = .next t) :
    Keeps F s0.blk t.blk := by
  unfold execFill at e
  refine core_keeps (fun a => ?_) e
  have h : Keeps F a a := Keeps.refl F a
  refine Block.runCmd_keeps (s.up rfl) ?_ ?_
  · exact h
  · intro x0 x1 h2
    split
    · rename_i y3 y4 y5 y6 y7 y8 y9 y10
      refine Block.whenPlaced_keeps (s.up rfl) ?_ ?_
      · exact h2
      · intro x11 h12
        extract_lets z13
        have h14 : Keeps F a z13 := by
          subst z13
          exact (Block.dmaTouch_keeps (s.up rfl) h12)
        refine Block.access_keeps (s.up rfl) ?_ ?_
        · exact h14
        · intro x15 h16
          extract_lets z17
          have h18 : Keeps F a z17 := by
            subst z17
            exact (Block.countBursts_keeps (s.up rfl) h14)
          exact (Block.endCmd_keeps (s.up rfl) (Block.dmaWrite_keeps (s.up rfl) h18))
    · rename_i y19 y20
      exact h2

theorem execPriResponse_keeps {F : Nat} {x0 x1 x2 s0 t} (s : sub 15544020301952 F) (e : execPriResponse x0 x1 x2 s0 = .next t) :
    Keeps F s0.blk t.blk := by
  unfold execPriResponse at e
  refine core_keeps (fun a => ?_) e
  have h : Keeps F a a := Keeps.refl F a
  exact (Block.priDone_keeps (s.up rfl) h)

theorem execBreakpointHit_keeps {F : Nat} {x0 x1 s0 t} (s : sub 6597145438336 F) (e : execBreakpointHit x0 x1 s0 = .next t) :
    Keeps F s0.blk t.blk := by
  unfold execBreakpointHit at e
  refine core_keeps (fun a => ?_) e
  have h : Keeps F a a := Keeps.refl F a
  split
  · rename_i y0 y1 y2
    refine Keeps.choice (fun h3 => ?_) (fun h3 => ?_)
    · refine Block.bpHit_keeps (s.up rfl) ?_
      refine Keeps.foldl (fun b x h => ?_) _ ?_
      · refine Block.drainEng_keeps (s.up rfl) ?_
        exact h
      · exact (Block.setHalt_keeps (s.up rfl) h)
    · exact h
  · rename_i y4 y5
    exact h

theorem execWickFree_keeps {F : Nat} {x0 x1 s0 t} (s : sub 2199421739136 F) (e : execWickFree x0 x1 s0 = .next t) :
    Keeps F s0.blk t.blk := by
  unfold execWickFree at e
  refine core_keeps (fun a => ?_) e
  have h : Keeps F a a := Keeps.refl F a
  refine Block.runCmd_keeps (s.up rfl) ?_ ?_
  · exact h
  · intro x0 x1 h2
    split
    · rename_i y3 y4 y5 y6
      refine Block.kernel_keeps (s.up rfl) ?_ ?_
      · exact h2
      · intro x7 h8
        refine Keeps.choice (fun h9 => ?_) (fun h9 => ?_)
        · exact (Block.endCmd_keeps (s.up rfl) h8)
        · refine Keeps.choice (fun h10 => ?_) (fun h10 => ?_)
          · exact (Block.endCmd_keeps (s.up rfl) h8)
          · exact (Block.endCmd_keeps (s.up rfl) (Block.freeVid_keeps (s.up rfl) h8))
    · rename_i y11 y12
      exact h2

theorem execTraceDmaWrite_keeps {F : Nat} {x0 s0 t} (s : sub 1241347000448 F) (e : execTraceDmaWrite x0 s0 = .next t) :
    Keeps F s0.blk t.blk := by
  unfold execTraceDmaWrite at e
  refine core_keeps (fun a => ?_) e
  have h : Keeps F a a := Keeps.refl F a
  extract_lets z0
  exact (Block.traceDma_keeps (s.up rfl) h)

theorem execGoRun_keeps {F : Nat} {x0 s0 t} (s : sub 13202729502856 F) (e : execGoRun x0 s0 = .next t) :
    Keeps F s0.blk t.blk := by
  unfold execGoRun at e
  unfold State.write at e
  refine aon_keeps (fun a => ?_) e
  have h : Keeps F a a := Keeps.refl F a
  refine Block.regWrite_keeps (s.up rfl) ?_ ?_
  · exact h
  · intro x0 h1
    exact (Block.goRun_keeps (s.up rfl) h1)

theorem execAuth_keeps {F : Nat} {x0 x1 s0 t} (s : sub 85929810131584 F) (e : execAuth x0 x1 s0 = .next t) :
    Keeps F s0.blk t.blk := by
  unfold execAuth at e
  refine link_keeps (fun a => ?_) e
  have h : Keeps F a a := Keeps.refl F a
  refine Block.rxLink_keeps (s.up rfl) ?_ ?_
  · exact h
  · intro x0 h1
    extract_lets z2
    refine Keeps.choice (fun h3 => ?_) (fun h3 => ?_)
    · exact (Block.setPort_keeps (s.up rfl) (Block.toSecurity_keeps (s.up rfl) h1))
    · refine Keeps.choice (fun h4 => ?_) (fun h4 => ?_)
      · exact (Block.isolate_keeps (s.up rfl) h1)
      · exact (Block.setPort_keeps (s.up rfl) h1)

theorem execLaneSwitch_keeps {F : Nat} {x0 x1 s0 t} (s : sub 15561065953952 F) (e : execLaneSwitch x0 x1 s0 = .next t) :
    Keeps F s0.blk t.blk := by
  unfold execLaneSwitch at e
  refine link_keeps (fun a => ?_) e
  have h : Keeps F a a := Keeps.refl F a
  refine Block.rxLink_keeps (s.up rfl) ?_ ?_
  · exact h
  · intro x0 h1
    exact (Block.takeLaneSwitch_keeps (s.up rfl) h1)

theorem execNop_keeps {F : Nat} {x0 x1 s0 t} (s : sub 92299264 F) (e : execNop x0 x1 s0 = .next t) :
    Keeps F s0.blk t.blk := by
  unfold execNop at e
  refine core_keeps (fun a => ?_) e
  have h : Keeps F a a := Keeps.refl F a
  refine Block.runCmd_keeps (s.up rfl) ?_ ?_
  · exact h
  · intro x0 x1 h2
    exact (Block.endCmd_keeps (s.up rfl) h2)

theorem execCopy_keeps {F : Nat} {x0 x1 s0 t} (s : sub 16643533043840 F) (e : execCopy x0 x1 s0 = .next t) :
    Keeps F s0.blk t.blk := by
  unfold execCopy at e
  refine core_keeps (fun a => ?_) e
  have h : Keeps F a a := Keeps.refl F a
  refine Block.runCmd_keeps (s.up rfl) ?_ ?_
  · exact h
  · intro x0 x1 h2
    split
    · rename_i y3 y4 y5 y6 y7 y8 y9 y10 y11
      refine Block.whenPlaced_keeps (s.up rfl) ?_ ?_
      · exact h2
      · intro x12 h13
        exact (Block.copyMove_keeps (s.up rfl) h13)
    · rename_i y14 y15
      exact h2

theorem execDelayResp_keeps {F : Nat} {x0 x1 s0 t} (s : sub 15561602824848 F) (e : execDelayResp x0 x1 s0 = .next t) :
    Keeps F s0.blk t.blk := by
  unfold execDelayResp at e
  refine link_keeps (fun a => ?_) e
  have h : Keeps F a a := Keeps.refl F a
  exact (Block.rxFrame_keeps (s.up rfl) h)

theorem execCoherenceDown_keeps {F : Nat} {x0 x1 x2 s0 t} (s : sub 13760001543080 F) (e : execCoherenceDown x0 x1 x2 s0 = .next t) :
    Keeps F s0.blk t.blk := by
  unfold execCoherenceDown at e
  refine core_keeps (fun a => ?_) e
  have h : Keeps F a a := Keeps.refl F a
  refine Keeps.choice (fun h0 => ?_) (fun h0 => ?_)
  · exact h
  · extract_lets z1 z2
    have h3 : Keeps F a z1 := by
      subst z1
      refine Keeps.choice (fun h4 => ?_) (fun h4 => ?_)
      · exact (Block.ccStorage_keeps (s.up rfl) h)
      · exact h
    have h5 : Keeps F a z2 := by
      subst z2
      exact (Block.ccDown_keeps (s.up rfl) h3)
    refine Keeps.choice (fun h6 => ?_) (fun h6 => ?_)
    · exact (Block.takeOver_keeps (s.up rfl) (Block.storageUe_keeps (s.up rfl) h5))
    · exact h5

theorem execJobMembershipCommit_keeps {F : Nat} {x0 x1 s0 t} (s : sub 6528 F) (e : execJobMembershipCommit x0 x1 s0 = .next t) :
    Keeps F s0.blk t.blk := by
  unfold execJobMembershipCommit at e
  unfold State.write at e
  refine aon_keeps (fun a => ?_) e
  have h : Keeps F a a := Keeps.refl F a
  refine Block.regWrite_keeps (s.up rfl) ?_ ?_
  · exact h
  · intro x0 h1
    exact (Block.jobCommit_keeps (s.up rfl) h1)

theorem execMgRxConsume_keeps {F : Nat} {x0 x1 s0 t} (s : sub 8589936768 F) (e : execMgRxConsume x0 x1 s0 = .next t) :
    Keeps F s0.blk t.blk := by
  unfold execMgRxConsume at e
  unfold State.write at e
  refine aon_keeps (fun a => ?_) e
  have h : Keeps F a a := Keeps.refl F a
  refine Block.regWrite_keeps (s.up rfl) ?_ ?_
  · exact h
  · intro x0 h1
    exact (Block.mgConsume_keeps (s.up rfl) h1)

theorem execErrEventPost_keeps {F : Nat} {x0 x1 x2 s0 t} (s : sub 8589934720 F) (e : execErrEventPost x0 x1 x2 s0 = .next t) :
    Keeps F s0.blk t.blk := by
  unfold execErrEventPost at e
  refine core_keeps (fun a => ?_) e
  have h : Keeps F a a := Keeps.refl F a
  refine Keeps.choice (fun h0 => ?_) (fun h0 => ?_)
  · exact (Block.postErr_keeps (s.up rfl) h)
  · exact h

theorem execRetrain_keeps {F : Nat} {x0 x1 s0 t} (s : sub 15561065953920 F) (e : execRetrain x0 x1 s0 = .next t) :
    Keeps F s0.blk t.blk := by
  unfold execRetrain at e
  unfold State.write at e
  refine aon_keeps (fun a => ?_) e
  have h : Keeps F a a := Keeps.refl F a
  refine Block.regWrite_keeps (s.up rfl) ?_ ?_
  · exact h
  · intro x0 h1
    exact (Block.ptCtlWrite_keeps (s.up rfl) h1)

theorem execRegisterWrite_keeps {F : Nat} {x0 x1 x2 x3 s0 t} (s : sub 105553115217918 F) (e : execRegisterWrite x0 x1 x2 x3 s0 = .next t) :
    Keeps F s0.blk t.blk := by
  unfold execRegisterWrite at e
  refine aon_keeps (fun a => ?_) e
  have h : Keeps F a a := Keeps.refl F a
  refine Keeps.choice (fun h0 => ?_) (fun h0 => ?_)
  · exact (Block.misaligned_keeps (s.up rfl) h)
  · refine Keeps.choice (fun h1 => ?_) (fun h1 => ?_)
    · exact (Block.stopDrop_keeps (s.up rfl) h)
    · exact (Block.writeAt_keeps (s.up rfl) h)

theorem execFrameRingEntryWrite_keeps {F : Nat} {s0 t} (s : sub 15544020301952 F) (e : execFrameRingEntryWrite s0 = .next t) :
    Keeps F s0.blk t.blk := by
  unfold execFrameRingEntryWrite at e
  refine core_keeps (fun a => ?_) e
  have h : Keeps F a a := Keeps.refl F a
  exact (Block.landPages_keeps (s.up rfl) (Block.writeEntries_keeps (s.up rfl) h))

theorem execCredit_keeps {F : Nat} {x0 x1 s0 t} (s : sub 15561065953920 F) (e : execCredit x0 x1 s0 = .next t) :
    Keeps F s0.blk t.blk := by
  unfold execCredit at e
  refine link_keeps (fun a => ?_) e
  have h : Keeps F a a := Keeps.refl F a
  refine Block.rxLink_keeps (s.up rfl) ?_ ?_
  · exact h
  · intro x0 h1
    extract_lets z2
    refine Keeps.choice (fun h3 => ?_) (fun h3 => ?_)
    · refine Keeps.choice (fun h4 => ?_) (fun h4 => ?_)
      · exact (Block.isolate_keeps (s.up rfl) h1)
      · exact h1
    · exact (Block.modPort_keeps (s.up rfl) h1)

theorem execMgTxGo_keeps {F : Nat} {x0 x1 s0 t} (s : sub 8589936768 F) (e : execMgTxGo x0 x1 s0 = .next t) :
    Keeps F s0.blk t.blk := by
  unfold execMgTxGo at e
  unfold State.write at e
  refine aon_keeps (fun a => ?_) e
  have h : Keeps F a a := Keeps.refl F a
  refine Block.regWrite_keeps (s.up rfl) ?_ ?_
  · exact h
  · intro x0 h1
    exact (Block.mgGo_keeps (s.up rfl) h1)

theorem execRecord_keeps {F : Nat} {x0 x1 s0 t} (s : sub 15561602824848 F) (e : execRecord x0 x1 s0 = .next t) :
    Keeps F s0.blk t.blk := by
  unfold execRecord at e
  refine link_keeps (fun a => ?_) e
  have h : Keeps F a a := Keeps.refl F a
  exact (Block.rxFrame_keeps (s.up rfl) h)

theorem execLaneFailure_keeps {F : Nat} {x0 s0 t} (s : sub 16110821767808 F) (e : execLaneFailure x0 s0 = .next t) :
    Keeps F s0.blk t.blk := by
  unfold execLaneFailure at e
  refine link_keeps (fun a => ?_) e
  have h : Keeps F a a := Keeps.refl F a
  refine Keeps.choice (fun h0 => ?_) (fun h0 => ?_)
  · exact h
  · extract_lets z1 z2
    have h3 : Keeps F a z1 := by
      subst z1
      exact (Block.codeErrors_keeps (s.up rfl) h)
    refine Keeps.choice (fun h4 => ?_) (fun h4 => ?_)
    · refine Keeps.choice (fun h5 => ?_) (fun h5 => ?_)
      · exact (Block.laneFails_keeps (s.up rfl) h3)
      · exact h3
    · refine Keeps.choice (fun h6 => ?_) (fun h6 => ?_)
      · exact h3
      · exact (Block.setPort_keeps (s.up rfl) h3)

theorem execIndirectRecordRead_keeps {F : Nat} {x0 x1 s0 t} (s : sub 15544020301952 F) (e : execIndirectRecordRead x0 x1 s0 = .next t) :
    Keeps F s0.blk t.blk := by
  unfold execIndirectRecordRead at e
  refine core_keeps (fun a => ?_) e
  have h : Keeps F a a := Keeps.refl F a
  split
  · rename_i y0 y1
    exact h
  · rename_i y2 y3 y4
    split
    · rename_i y5 y6 y7
      refine Keeps.choice (fun h8 => ?_) (fun h8 => ?_)
      · refine Keeps.choice (fun h9 => ?_) (fun h9 => ?_)
        · exact (Block.acceptRecord_keeps (s.up rfl) h)
        · split
          · rename_i y10 y11 y12
            refine Block.viaHome_keeps (s.up rfl) ?_ ?_
            · exact h
            · exact (Block.acceptRecord_keeps (s.up rfl) (Block.modCmd_keeps (s.up rfl) h))
          · rename_i y13 y14 y15
            exact (Block.faultCmd_keeps (s.up rfl) h)
          · rename_i y16 y17 y18 y19
            exact (Block.poisonCmd_keeps (s.up rfl) h)
          · rename_i y20 y21 y22 y23
            exact (Block.meet_keeps (s.up rfl) h)
      · exact h
    · rename_i y24 y25
      exact h

theorem execCreditReportTimer_keeps {F : Nat} {x0 s0 t} (s : sub 8589934592 F) (e : execCreditReportTimer x0 s0 = .next t) :
    Keeps F s0.blk t.blk := by
  unfold execCreditReportTimer at e
  refine link_keeps (fun a => ?_) e
  have h : Keeps F a a := Keeps.refl F a
  extract_lets z0 z1
  refine Keeps.choice (fun h2 => ?_) (fun h2 => ?_)
  · exact (Block.setPort_keeps (s.up rfl) h)
  · exact h

theorem execTrainingAttemptTimeout_keeps {F : Nat} {x0 s0 t} (s : sub 15561065953920 F) (e : execTrainingAttemptTimeout x0 s0 = .next t) :
    Keeps F s0.blk t.blk := by
  unfold execTrainingAttemptTimeout at e
  refine link_keeps (fun a => ?_) e
  have h : Keeps F a a := Keeps.refl F a
  refine Keeps.choice (fun h0 => ?_) (fun h0 => ?_)
  · exact (Block.attemptFails_keeps (s.up rfl) h)
  · exact h

theorem execZtFcrSizeWrite_keeps {F : Nat} {x0 x1 s0 t} (s : sub 134220160 F) (e : execZtFcrSizeWrite x0 x1 s0 = .next t) :
    Keeps F s0.blk t.blk := by
  unfold execZtFcrSizeWrite at e
  unfold State.write at e
  refine aon_keeps (fun a => ?_) e
  have h : Keeps F a a := Keeps.refl F a
  refine Block.regWrite_keeps (s.up rfl) ?_ ?_
  · exact h
  · intro x0 h1
    exact (Block.fcrSizeWrite_keeps (s.up rfl) h1)

theorem execLaunchPlacement_keeps {F : Nat} {x0 s0 t} (s : sub 16643531929728 F) (e : execLaunchPlacement x0 s0 = .next t) :
    Keeps F s0.blk t.blk := by
  unfold execLaunchPlacement at e
  refine core_keeps (fun a => ?_) e
  have h : Keeps F a a := Keeps.refl F a
  exact (Block.placeAll_keeps (s.up rfl) h)

theorem execTraceFlushTimer_keeps {F : Nat} {x0 s0 t} (s : sub 1241347000448 F) (e : execTraceFlushTimer x0 s0 = .next t) :
    Keeps F s0.blk t.blk := by
  unfold execTraceFlushTimer at e
  refine core_keeps (fun a => ?_) e
  have h : Keeps F a a := Keeps.refl F a
  extract_lets z0
  clear_value z0
  split
  · rename_i y1 y2
    exact h
  · rename_i y3 y4 y5 y6
    refine Keeps.choice (fun h7 => ?_) (fun h7 => ?_)
    · exact (Block.traceDma_keeps (s.up rfl) h)
    · exact h

theorem execCadenceFrameEdge_keeps {F : Nat} {s0 t} (s : sub 9126805504 F) (e : execCadenceFrameEdge s0 = .next t) :
    Keeps F s0.blk t.blk := by
  unfold execCadenceFrameEdge at e
  refine link_keeps (fun a => ?_) e
  have h : Keeps F a a := Keeps.refl F a
  refine Keeps.choice (fun h0 => ?_) (fun h0 => ?_)
  · exact h
  · refine Keeps.choice (fun h1 => ?_) (fun h1 => ?_)
    · exact (Block.takeDue_keeps (s.up rfl) h)
    · split
      · rename_i y2 y3 y4 y5
        exact (Block.frameEdge_keeps (s.up rfl) h)
      · rename_i y6 y7
        exact h

theorem execCorrectableError_keeps {F : Nat} {x0 x1 s0 t} (s : sub 16114179373992 F) (e : execCorrectableError x0 x1 s0 = .next t) :
    Keeps F s0.blk t.blk := by
  unfold execCorrectableError at e
  refine core_keeps (fun a => ?_) e
  have h : Keeps F a a := Keeps.refl F a
  refine Keeps.choice (fun h0 => ?_) (fun h0 => ?_)
  · exact h
  · extract_lets z1 z2 z3 z4 z5 z6
    have h7 : Keeps F a z4 := by
      subst z4
      exact (Block.setWear_keeps (s.up rfl) h)
    have h8 : Keeps F a z5 := by
      subst z5
      clear_value z6
      clear_value z4
      clear_value z3
      clear_value z2
      clear_value z1
      split
      · rename_i y9 y10 y11
        exact (Block.setArms_keeps (s.up rfl) (Block.count32_keeps (s.up rfl) h7))
      · rename_i y12 y13
        exact h7
    have h14 : Keeps F a z6 := by
      subst z6
      exact (Block.spareEvent_keeps (s.up rfl) h8)
    refine Keeps.choice (fun h15 => ?_) (fun h15 => ?_)
    · refine Keeps.choice (fun h16 => ?_) (fun h16 => ?_)
      · exact (Block.retireNow_keeps (s.up rfl) h14)
      · exact h14
    · exact h8

theorem execIdentTimeout_keeps {F : Nat} {x0 s0 t} (s : sub 15561065953920 F) (e : execIdentTimeout x0 s0 = .next t) :
    Keeps F s0.blk t.blk := by
  unfold execIdentTimeout at e
  refine link_keeps (fun a => ?_) e
  have h : Keeps F a a := Keeps.refl F a
  refine Keeps.choice (fun h0 => ?_) (fun h0 => ?_)
  · exact (Block.toTrain_keeps (s.up rfl) h)
  · exact h

theorem execSemBreak_keeps {F : Nat} {x0 x1 x2 s0 t} (s : sub 3456 F) (e : execSemBreak x0 x1 x2 s0 = .next t) :
    Keeps F s0.blk t.blk := by
  unfold execSemBreak at e
  unfold State.write at e
  refine aon_keeps (fun a => ?_) e
  have h : Keeps F a a := Keeps.refl F a
  refine Block.regWrite_keeps (s.up rfl) ?_ ?_
  · exact h
  · intro x0 h1
    exact (Block.breakSem_keeps (s.up rfl) h1)

theorem execAuthDone_keeps {F : Nat} {x0 x1 s0 t} (s : sub 15561065953920 F) (e : execAuthDone x0 x1 s0 = .next t) :
    Keeps F s0.blk t.blk := by
  unfold execAuthDone at e
  refine link_keeps (fun a => ?_) e
  have h : Keeps F a a := Keeps.refl F a
  refine Block.rxLink_keeps (s.up rfl) ?_ ?_
  · exact h
  · intro x0 h1
    exact (Block.authSettle_keeps (s.up rfl) (Block.modPort_keeps (s.up rfl) h1))

theorem execHarnessShrink_keeps {F : Nat} {x0 x1 s0 t} (s : sub 16643531929728 F) (e : execHarnessShrink x0 x1 s0 = .next t) :
    Keeps F s0.blk t.blk := by
  unfold execHarnessShrink at e
  refine core_keeps (fun a => ?_) e
  have h : Keeps F a a := Keeps.refl F a
  refine Block.runCmd_keeps (s.up rfl) ?_ ?_
  · exact h
  · intro x0 x1 h2
    split
    · rename_i y3 y4 y5 y6 y7
      refine Keeps.choice (fun h8 => ?_) (fun h8 => ?_)
      · exact (Block.endShrink_keeps (s.up rfl) h2)
      · exact (Block.shrink_keeps (s.up rfl) h2)
    · rename_i y9 y10
      exact h2

theorem execTbHeadWrite_keeps {F : Nat} {x0 x1 s0 t} (s : sub 1099511629952 F) (e : execTbHeadWrite x0 x1 s0 = .next t) :
    Keeps F s0.blk t.blk := by
  unfold execTbHeadWrite at e
  unfold State.write at e
  refine aon_keeps (fun a => ?_) e
  have h : Keeps F a a := Keeps.refl F a
  refine Block.regWrite_keeps (s.up rfl) ?_ ?_
  · exact h
  · intro x0 h1
    exact (Block.tbHeadSet_keeps (s.up rfl) h1)

theorem execEngineDrained_keeps {F : Nat} {x0 s0 t} (s : sub 2199149273088 F) (e : execEngineDrained x0 s0 = .next t) :
    Keeps F s0.blk t.blk := by
  unfold execEngineDrained at e
  refine core_keeps (fun a => ?_) e
  have h : Keeps F a a := Keeps.refl F a
  exact (Block.drained_keeps (s.up rfl) h)

theorem execMessage_keeps {F : Nat} {x0 x1 s0 t} (s : sub 15561602824848 F) (e : execMessage x0 x1 s0 = .next t) :
    Keeps F s0.blk t.blk := by
  unfold execMessage at e
  refine link_keeps (fun a => ?_) e
  have h : Keeps F a a := Keeps.refl F a
  exact (Block.rxFrame_keeps (s.up rfl) h)

theorem execCadNowRead_keeps {F : Nat} {x0 x1 s0 t} (s : sub 64 F) (e : execCadNowRead x0 x1 s0 = .next t) :
    Keeps F s0.blk t.blk := by
  unfold execCadNowRead at e
  refine aon_keeps (fun a => ?_) e
  have h : Keeps F a a := Keeps.refl F a
  extract_lets z0
  refine Block.readBy_keeps (s.up rfl) ?_ ?_ ?_
  · exact h
  · intro x1 h2
    exact (Block.answer_keeps (s.up rfl) h2)
  · intro x3 h4
    extract_lets z5
    clear_value z5
    clear_value z0
    split
    · rename_i y6
      exact (Block.answer_keeps (s.up rfl) h4)
    · rename_i y7
      refine Block.answer_keeps (s.up rfl) ?_
      exact Keeps.upd (m := 64) h4 (s.up rfl) (by intro p; cases p <;> first | exact .inl rfl | (right; simp only [Part.same, and_self]))
    · rename_i y8
      exact (Block.answer_keeps (s.up rfl) h4)

theorem execL4PowerCycle_keeps {F : Nat} {x0 s0 t} (s : sub 87411173359582 F) (e : execL4PowerCycle x0 s0 = .next t) :
    Keeps F s0.blk t.blk := by
  unfold execL4PowerCycle at e
  unfold State.write at e
  refine aon_keeps (fun a => ?_) e
  have h : Keeps F a a := Keeps.refl F a
  refine Block.regWrite_keeps (s.up rfl) ?_ ?_
  · exact h
  · intro x0 h1
    exact (Block.order__keeps (s.up rfl) h1)

theorem execWickAlloc_keeps {F : Nat} {x0 x1 s0 t} (s : sub 2199153303552 F) (e : execWickAlloc x0 x1 s0 = .next t) :
    Keeps F s0.blk t.blk := by
  unfold execWickAlloc at e
  refine core_keeps (fun a => ?_) e
  have h : Keeps F a a := Keeps.refl F a
  refine Block.runCmd_keeps (s.up rfl) ?_ ?_
  · exact h
  · intro x0 x1 h2
    split
    · rename_i y3 y4 y5 y6 y7
      refine Block.kernel_keeps (s.up rfl) ?_ ?_
      · exact h2
      · intro x8 h9
        split
        · rename_i y10 y11 y12 y13 y14
          exact (Block.endCmd_keeps (s.up rfl) (Block.allocVid_keeps (s.up rfl) h9))
        · rename_i y15 y16 y17
          exact (Block.endCmd_keeps (s.up rfl) h9)
    · rename_i y18 y19
      exact h2

theorem execRegisterInvalidation_keeps {F : Nat} {x0 s0 t} (s : sub 15544020367520 F) (e : execRegisterInvalidation x0 s0 = .next t) :
    Keeps F s0.blk t.blk := by
  unfold execRegisterInvalidation at e
  unfold State.write at e
  refine aon_keeps (fun a => ?_) e
  have h : Keeps F a a := Keeps.refl F a
  refine Block.regWrite_keeps (s.up rfl) ?_ ?_
  · exact h
  · intro x0 h1
    exact (Block.regInvalidate_keeps (s.up rfl) h1)

theorem execHandover_keeps {F : Nat} {x0 s0 t} (s : sub 13760001804960 F) (e : execHandover x0 s0 = .next t) :
    Keeps F s0.blk t.blk := by
  unfold execHandover at e
  unfold State.write at e
  refine aon_keeps (fun a => ?_) e
  have h : Keeps F a a := Keeps.refl F a
  refine Block.regWrite_keeps (s.up rfl) ?_ ?_
  · exact h
  · intro x0 h1
    exact (Block.handover_keeps (s.up rfl) h1)

theorem execFollowUp_keeps {F : Nat} {x0 x1 s0 t} (s : sub 15561602824848 F) (e : execFollowUp x0 x1 s0 = .next t) :
    Keeps F s0.blk t.blk := by
  unfold execFollowUp at e
  refine link_keeps (fun a => ?_) e
  have h : Keeps F a a := Keeps.refl F a
  exact (Block.rxFrame_keeps (s.up rfl) h)

theorem execBoundCommit_keeps {F : Nat} {x0 x1 s0 t} (s : sub 4196736 F) (e : execBoundCommit x0 x1 s0 = .next t) :
    Keeps F s0.blk t.blk := by
  unfold execBoundCommit at e
  unfold State.write at e
  refine aon_keeps (fun a => ?_) e
  have h : Keeps F a a := Keeps.refl F a
  refine Block.regWrite_keeps (s.up rfl) ?_ ?_
  · exact h
  · intro x0 h1
    exact (Block.bndCommit_keeps (s.up rfl) h1)

theorem execRdM_keeps {F : Nat} {x0 x1 s0 t} (s : sub 5368971392 F) (e : execRdM x0 x1 s0 = .next t) :
    Keeps F s0.blk t.blk := by
  unfold execRdM at e
  unfold State.cc at e
  refine core_keeps (fun a => ?_) e
  have h : Keeps F a a := Keeps.refl F a
  refine Keeps.choice (fun h0 => ?_) (fun h0 => ?_)
  · dsimp -zeta only
    refine Keeps.choice (fun h1 => ?_) (fun h1 => ?_)
    · exact h
    · refine Keeps.choice (fun h2 => ?_) (fun h2 => ?_)
      · exact (Block.ccDown_keeps (s.up rfl) h)
      · exact (Block.ccRequest_keeps (s.up rfl) (Block.dropLine_keeps (s.up rfl) h))
  · exact h

theorem execOccupancyWindowEnd_keeps {F : Nat} {s0 t} (s : sub 1073741952 F) (e : execOccupancyWindowEnd s0 = .next t) :
    Keeps F s0.blk t.blk := by
  unfold execOccupancyWindowEnd at e
  refine core_keeps (fun a => ?_) e
  have h : Keeps F a a := Keeps.refl F a
  refine Keeps.choice (fun h0 => ?_) (fun h0 => ?_)
  · exact (Block.windowEnd_keeps (s.up rfl) h)
  · exact h

theorem execCommandCompletion_keeps {F : Nat} {x0 x1 s0 t} (s : sub 16918409836672 F) (e : execCommandCompletion x0 x1 s0 = .next t) :
    Keeps F s0.blk t.blk := by
  unfold execCommandCompletion at e
  refine core_keeps (fun a => ?_) e
  have h : Keeps F a a := Keeps.refl F a
  exact (Block.completeCmd_keeps (s.up rfl) h)

theorem execAccInj_keeps {F : Nat} {x0 x1 s0 t} (s : sub 105553115217918 F) (e : execAccInj x0 x1 s0 = .next t) :
    Keeps F s0.blk t.blk := by
  unfold execAccInj at e
  unfold State.injectRow at e
  refine aon_keeps (fun a => ?_) e
  have h : Keeps F a a := Keeps.refl F a
  refine Keeps.choice (fun h0 => ?_) (fun h0 => ?_)
  · exact (Block.write32_keeps (s.up rfl) h)
  · exact h

theorem execDelayReq_keeps {F : Nat} {x0 x1 s0 t} (s : sub 15561602824848 F) (e : execDelayReq x0 x1 s0 = .next t) :
    Keeps F s0.blk t.blk := by
  unfold execDelayReq at e
  refine link_keeps (fun a => ?_) e
  have h : Keeps F a a := Keeps.refl F a
  exact (Block.rxFrame_keeps (s.up rfl) h)

theorem execAuthVerdict_keeps {F : Nat} {x0 x1 x2 s0 t} (s : sub 15561065953920 F) (e : execAuthVerdict x0 x1 x2 s0 = .next t) :
    Keeps F s0.blk t.blk := by
  unfold execAuthVerdict at e
  refine core_keeps (fun a => ?_) e
  have h : Keeps F a a := Keeps.refl F a
  extract_lets z0
  refine Keeps.choice (fun h1 => ?_) (fun h1 => ?_)
  · exact h
  · refine Keeps.choice (fun h2 => ?_) (fun h2 => ?_)
    · exact (Block.isolate_keeps (s.up rfl) h)
    · refine Keeps.choice (fun h3 => ?_) (fun h3 => ?_)
      · exact (Block.isolate_keeps (s.up rfl) h)
      · exact (Block.authSettle_keeps (s.up rfl) (Block.setPort_keeps (s.up rfl) h))

theorem execMigrationDmaDone_keeps {F : Nat} {x0 x1 x2 s0 t} (s : sub 15544020301952 F) (e : execMigrationDmaDone x0 x1 x2 s0 = .next t) :
    Keeps F s0.blk t.blk := by
  unfold execMigrationDmaDone at e
  refine core_keeps (fun a => ?_) e
  have h : Keeps F a a := Keeps.refl F a
  split
  · rename_i y0 y1 y2
    refine Keeps.choice (fun h3 => ?_) (fun h3 => ?_)
    · exact (Block.homeAsk_keeps (s.up rfl) h)
    · exact (Block.copyDone_keeps (s.up rfl) h)
  · rename_i y4 y5
    exact h

theorem execMisalignedAccess_keeps {F : Nat} {x0 x1 x2 x3 s0 t} (s : sub 4398046513344 F) (e : execMisalignedAccess x0 x1 x2 x3 s0 = .next t) :
    Keeps F s0.blk t.blk := by
  unfold execMisalignedAccess at e
  refine aon_keeps (fun a => ?_) e
  have h : Keeps F a a := Keeps.refl F a
  extract_lets z0
  have h1 : Keeps F a z0 := by
    subst z0
    exact (Block.misaligned_keeps (s.up rfl) h)
  refine Keeps.choice (fun h2 => ?_) (fun h2 => ?_)
  · exact h1
  · exact (Block.answer_keeps (s.up rfl) h1)

theorem execCeArm_keeps {F : Nat} {x0 x1 s0 t} (s : sub 105553115217918 F) (e : execCeArm x0 x1 s0 = .next t) :
    Keeps F s0.blk t.blk := by
  unfold execCeArm at e
  unfold State.injectRow at e
  refine aon_keeps (fun a => ?_) e
  have h : Keeps F a a := Keeps.refl F a
  refine Keeps.choice (fun h0 => ?_) (fun h0 => ?_)
  · exact (Block.write32_keeps (s.up rfl) h)
  · exact h

theorem execAuthSessionOpen_keeps {F : Nat} {x0 s0 t} (s : sub 70377334112256 F) (e : execAuthSessionOpen x0 s0 = .next t) :
    Keeps F s0.blk t.blk := by
  unfold execAuthSessionOpen at e
  refine core_keeps (fun a => ?_) e
  have h : Keeps F a a := Keeps.refl F a
  extract_lets z0 z1
  have h2 : Keeps F a z1 := by
    subst z1
    exact Keeps.upd (m := 70368744177664) h (s.up rfl) (by intro p; cases p <;> first | exact .inl rfl | (right; simp only [Part.same, and_self]))
  refine Keeps.choice (fun h3 => ?_) (fun h3 => ?_)
  · exact h
  · exact (Block.setPort_keeps (s.up rfl) h2)

theorem execInvRange_keeps {F : Nat} {x0 x1 s0 t} (s : sub 15544020367488 F) (e : execInvRange x0 x1 s0 = .next t) :
    Keeps F s0.blk t.blk := by
  unfold execInvRange at e
  refine core_keeps (fun a => ?_) e
  have h : Keeps F a a := Keeps.refl F a
  refine Block.runCmd_keeps (s.up rfl) ?_ ?_
  · exact h
  · intro x0 x1 h2
    split
    · rename_i y3 y4 y5 y6 y7
      refine Block.kernel_keeps (s.up rfl) ?_ ?_
      · exact h2
      · intro x8 h9
        refine Keeps.choice (fun h10 => ?_) (fun h10 => ?_)
        · exact (Block.tryInvRange_keeps (s.up rfl) h9)
        · extract_lets z11 z12
          have h13 : Keeps F a z12 := by
            subst z12
            exact (Block.modCmd_keeps (s.up rfl) h9)
          exact (Block.tryInvRange_keeps (s.up rfl) (Block.stopPins_keeps (s.up rfl) h13))
    · rename_i y14 y15
      exact h2

theorem execSecurityAuthBytes_keeps {F : Nat} {x0 x1 s0 t} (s : sub 8589934592 F) (e : execSecurityAuthBytes x0 x1 s0 = .next t) :
    Keeps F s0.blk t.blk := by
  unfold execSecurityAuthBytes at e
  refine core_keeps (fun a => ?_) e
  have h : Keeps F a a := Keeps.refl F a
  extract_lets z0
  refine Keeps.choice (fun h1 => ?_) (fun h1 => ?_)
  · exact h
  · exact (Block.setPort_keeps (s.up rfl) h)

theorem execL3ChipReset_keeps {F : Nat} {x0 s0 t} (s : sub 87411173359582 F) (e : execL3ChipReset x0 s0 = .next t) :
    Keeps F s0.blk t.blk := by
  unfold execL3ChipReset at e
  unfold State.write at e
  refine aon_keeps (fun a => ?_) e
  have h : Keeps F a a := Keeps.refl F a
  refine Block.regWrite_keeps (s.up rfl) ?_ ?_
  · exact h
  · intro x0 h1
    exact (Block.order__keeps (s.up rfl) h1)

theorem execWrNc_keeps {F : Nat} {x0 x1 x2 x3 s0 t} (s : sub 4295229568 F) (e : execWrNc x0 x1 x2 x3 s0 = .next t) :
    Keeps F s0.blk t.blk := by
  unfold execWrNc at e
  refine core_keeps (fun a => ?_) e
  have h : Keeps F a a := Keeps.refl F a
  refine Keeps.choice (fun h0 => ?_) (fun h0 => ?_)
  · exact h
  · exact (Block.ccWrite_keeps (s.up rfl) h)

theorem execCreditStallTimeout_keeps {F : Nat} {x0 x1 s0 t} (s : sub 15561065953920 F) (e : execCreditStallTimeout x0 x1 s0 = .next t) :
    Keeps F s0.blk t.blk := by
  unfold execCreditStallTimeout at e
  refine link_keeps (fun a => ?_) e
  have h : Keeps F a a := Keeps.refl F a
  extract_lets z0
  clear_value z0
  split
  · rename_i y1 y2 y3
    refine Keeps.choice (fun h4 => ?_) (fun h4 => ?_)
    · exact (Block.isolate_keeps (s.up rfl) h)
    · exact h
  · rename_i y5 y6
    exact h

theorem execInitialisationEnd_keeps {F : Nat} {x0 s0 t} (s : sub 15595964660376 F) (e : execInitialisationEnd x0 s0 = .next t) :
    Keeps F s0.blk t.blk := by
  unfold execInitialisationEnd at e
  refine core_keeps (fun a => ?_) e
  have h : Keeps F a a := Keeps.refl F a
  refine Keeps.choice (fun h0 => ?_) (fun h0 => ?_)
  · exact h
  · extract_lets z1 z2 z3 z4
    have h5 : Keeps F a z1 := by
      subst z1
      exact (Block.enterState_keeps (s.up rfl) (Block.computeLayout_keeps (s.up rfl) (Block.takeTests_keeps (s.up rfl) h)))
    have h6 : Keeps F a z3 := by
      subst z3
      exact Keeps.upd (m := 17179869184) h5 (s.up rfl) (by intro p; cases p <;> first | exact .inl rfl | (right; simp only [Part.same, and_self]))
    have h7 : Keeps F a z4 := by
      subst z4
      refine Keeps.choice (fun h8 => ?_) (fun h8 => ?_)
      · refine Block.event_keeps (s.up rfl) ?_
        exact Keeps.upd (m := 34359738368) h6 (s.up rfl) (by intro p; cases p <;> first | exact .inl rfl | (right; simp only [Part.same, and_self]))
      · exact h6
    exact (Block.linkRelease_keeps (s.up rfl) h7)

theorem execPoisonRepairDone_keeps {F : Nat} {x0 s0 t} (s : sub 141835370624 F) (e : execPoisonRepairDone x0 s0 = .next t) :
    Keeps F s0.blk t.blk := by
  unfold execPoisonRepairDone at e
  refine core_keeps (fun a => ?_) e
  have h : Keeps F a a := Keeps.refl F a
  split
  · rename_i y0 y1
    exact h
  · rename_i y2 y3 y4
    split
    · rename_i y5 y6
      exact Keeps.upd (m := 137438953472) h (s.up rfl) (by intro p; cases p <;> first | exact .inl rfl | (right; simp only [Part.same, and_self]))
    · rename_i y7 y8 y9
      extract_lets z10
      refine Keeps.choice (fun h11 => ?_) (fun h11 => ?_)
      · exact (Block.homeAsk_keeps (s.up rfl) h)
      · exact (Block.count_keeps (s.up rfl) (Block.putBytes_keeps (s.up rfl) h))
    · rename_i y12 y13 y14 y15
      exact (Block.askAts_keeps (s.up rfl) h)
    · rename_i y16 y17 y18 y19 y20
      exact h

theorem execPop_keeps {F : Nat} {x0 s0 t} (s : sub 2176 F) (e : execPop x0 s0 = .next t) :
    Keeps F s0.blk t.blk := by
  unfold execPop at e
  unfold State.write at e
  refine aon_keeps (fun a => ?_) e
  have h : Keeps F a a := Keeps.refl F a
  refine Block.regWrite_keeps (s.up rfl) ?_ ?_
  · exact h
  · intro x0 h1
    exact (Block.popFifo_keeps (s.up rfl) h1)

theorem execMcSigDataWrite_keeps {F : Nat} {x0 x1 s0 t} (s : sub 1073744000 F) (e : execMcSigDataWrite x0 x1 s0 = .next t) :
    Keeps F s0.blk t.blk := by
  unfold execMcSigDataWrite at e
  unfold State.write at e
  refine aon_keeps (fun a => ?_) e
  have h : Keeps F a a := Keeps.refl F a
  refine Block.regWrite_keeps (s.up rfl) ?_ ?_
  · exact h
  · intro x0 h1
    exact (Block.appendSig_keeps (s.up rfl) h1)

theorem execL0ContextTeardown_keeps {F : Nat} {x0 x1 s0 t} (s : sub 87411173359582 F) (e : execL0ContextTeardown x0 x1 s0 = .next t) :
    Keeps F s0.blk t.blk := by
  unfold execL0ContextTeardown at e
  unfold State.write at e
  refine aon_keeps (fun a => ?_) e
  have h : Keeps F a a := Keeps.refl F a
  refine Block.regWrite_keeps (s.up rfl) ?_ ?_
  · exact h
  · intro x0 h1
    exact (Block.order__keeps (s.up rfl) h1)

theorem execReadoutHoldExpiry_keeps {F : Nat} {s0 t} (s : sub 68719476736 F) (e : execReadoutHoldExpiry s0 = .next t) :
    Keeps F s0.blk t.blk := by
  unfold execReadoutHoldExpiry at e
  refine aon_keeps (fun a => ?_) e
  have h : Keeps F a a := Keeps.refl F a
  exact (Block.modPwr_keeps (s.up rfl) h)

theorem execL2HarnessReset_keeps {F : Nat} {x0 x1 s0 t} (s : sub 87411173359582 F) (e : execL2HarnessReset x0 x1 s0 = .next t) :
    Keeps F s0.blk t.blk := by
  unfold execL2HarnessReset at e
  unfold State.write at e
  refine aon_keeps (fun a => ?_) e
  have h : Keeps F a a := Keeps.refl F a
  refine Block.regWrite_keeps (s.up rfl) ?_ ?_
  · exact h
  · intro x0 h1
    exact (Block.order__keeps (s.up rfl) h1)

theorem execWickExport_keeps {F : Nat} {x0 x1 s0 t} (s : sub 15544020367488 F) (e : execWickExport x0 x1 s0 = .next t) :
    Keeps F s0.blk t.blk := by
  unfold execWickExport at e
  refine core_keeps (fun a => ?_) e
  have h : Keeps F a a := Keeps.refl F a
  refine Block.runCmd_keeps (s.up rfl) ?_ ?_
  · exact h
  · intro x0 x1 h2
    split
    · rename_i y3 y4 y5 y6 y7
      refine Block.kernel_keeps (s.up rfl) ?_ ?_
      · exact h2
      · intro x8 h9
        split
        · rename_i y10 y11
          exact (Block.endCmd_keeps (s.up rfl) h9)
        · rename_i y12 y13 y14 y15
          exact (Block.endCmd_keeps (s.up rfl) h9)
        · rename_i y16 y17 y18
          extract_lets z19
          have h20 : Keeps F a z19 := by
            subst z19
            exact (Block.touch_keeps (s.up rfl) h9)
          refine Block.access_keeps (s.up rfl) ?_ ?_
          · exact h20
          · intro x21 h22
            have h23 := Block.writeVa_keeps (s.up rfl) h20 h22
            exact (Block.endCmd_keeps (s.up rfl) (Block.setSlot_keeps (s.up rfl) h23))
    · rename_i y24 y25
      exact h2

theorem execLaneSignalChange_keeps {F : Nat} {x0 x1 x2 s0 t} (s : sub 15561065953920 F) (e : execLaneSignalChange x0 x1 x2 s0 = .next t) :
    Keeps F s0.blk t.blk := by
  unfold execLaneSignalChange at e
  refine link_keeps (fun a => ?_) e
  have h : Keeps F a a := Keeps.refl F a
  exact (Block.laneSignal_keeps (s.up rfl) h)

theorem execStallResume_keeps {F : Nat} {x0 s0 t} (s : sub 15578380040352 F) (e : execStallResume x0 s0 = .next t) :
    Keeps F s0.blk t.blk := by
  unfold execStallResume at e
  unfold State.write at e
  refine aon_keeps (fun a => ?_) e
  have h : Keeps F a a := Keeps.refl F a
  refine Block.regWrite_keeps (s.up rfl) ?_ ?_
  · exact h
  · intro x0 h1
    exact (Block.stallOpResume_keeps (s.up rfl) h1)

theorem execEngineUe_keeps {F : Nat} {x0 s0 t} (s : sub 15955929786752 F) (e : execEngineUe x0 s0 = .next t) :
    Keeps F s0.blk t.blk := by
  unfold execEngineUe at e
  refine core_keeps (fun a => ?_) e
  have h : Keeps F a a := Keeps.refl F a
  refine Keeps.choice (fun h0 => ?_) (fun h0 => ?_)
  · exact h
  · extract_lets z1 z2 z3 z4
    have h5 : Keeps F a z2 := by
      subst z2
      exact (Block.event_keeps (s.up rfl) (Block.storageUe_keeps (s.up rfl) h))
    have h6 : Keeps F a z3 := by
      subst z3
      exact (Block.postCancelled_keeps (s.up rfl) (Block.resetEng_keeps (s.up rfl) (Block.cancelWork_keeps (s.up rfl) h5)))
    exact (Block.setEng_keeps (s.up rfl) h6)

theorem execOrderDone_keeps {F : Nat} {s0 t} (s : sub 16677891668096 F) (e : execOrderDone s0 = .next t) :
    Keeps F s0.blk t.blk := by
  unfold execOrderDone at e
  refine core_keeps (fun a => ?_) e
  have h : Keeps F a a := Keeps.refl F a
  split
  · rename_i y0 y1
    exact h
  · rename_i y2 y3 y4
    refine Keeps.choice (fun h5 => ?_) (fun h5 => ?_)
    · exact h
    · refine Keeps.choice (fun h6 => ?_) (fun h6 => ?_)
      · extract_lets z7 z8 z9
        have h10 : Keeps F a z9 := by
          subst z9
          exact (Block.setHarness_keeps (s.up rfl) h)
        exact (Block.placeAll_keeps (s.up rfl) (Block.endOrder_keeps (s.up rfl) (Block.event_keeps (s.up rfl) h10)))
      · exact (Block.endOrder_keeps (s.up rfl) h)

theorem execTranslationFault_keeps {F : Nat} {x0 x1 x2 x3 s0 t} (s : sub 15543886084224 F) (e : execTranslationFault x0 x1 x2 x3 s0 = .next t) :
    Keeps F s0.blk t.blk := by
  unfold execTranslationFault at e
  refine core_keeps (fun a => ?_) e
  have h : Keeps F a a := Keeps.refl F a
  refine Keeps.choice (fun h0 => ?_) (fun h0 => ?_)
  · split
    · rename_i y1 y2 y3
      exact (Block.faultWork_keeps (s.up rfl) h)
    · rename_i y4 y5
      exact h
  · exact h

theorem execHarnessGrow_keeps {F : Nat} {x0 x1 s0 t} (s : sub 16643531929728 F) (e : execHarnessGrow x0 x1 s0 = .next t) :
    Keeps F s0.blk t.blk := by
  unfold execHarnessGrow at e
  refine core_keeps (fun a => ?_) e
  have h : Keeps F a a := Keeps.refl F a
  refine Block.runCmd_keeps (s.up rfl) ?_ ?_
  · exact h
  · intro x0 x1 h2
    split
    · rename_i y3 y4 y5 y6 y7 y8 y9
      refine Keeps.choice (fun h10 => ?_) (fun h10 => ?_)
      · exact (Block.settleGrow_keeps (s.up rfl) h2)
      · exact (Block.grow_keeps (s.up rfl) h2)
    · rename_i y11 y12
      exact h2

theorem execSemRelease_keeps {F : Nat} {x0 x1 s0 t} (s : sub 3456 F) (e : execSemRelease x0 x1 s0 = .next t) :
    Keeps F s0.blk t.blk := by
  unfold execSemRelease at e
  unfold State.write at e
  refine aon_keeps (fun a => ?_) e
  have h : Keeps F a a := Keeps.refl F a
  refine Block.regWrite_keeps (s.up rfl) ?_ ?_
  · exact h
  · intro x0 h1
    refine Keeps.choice (fun h2 => ?_) (fun h2 => ?_)
    · exact (Block.freeSem_keeps (s.up rfl) h1)
    · exact h1

theorem execContextFreed_keeps {F : Nat} {x0 s0 t} (s : sub 15544020301952 F) (e : execContextFreed x0 s0 = .next t) :
    Keeps F s0.blk t.blk := by
  unfold execContextFreed at e
  refine core_keeps (fun a => ?_) e
  have h : Keeps F a a := Keeps.refl F a
  exact (Block.freeCtx_keeps (s.up rfl) h)

theorem execRdS_keeps {F : Nat} {x0 x1 s0 t} (s : sub 5368971392 F) (e : execRdS x0 x1 s0 = .next t) :
    Keeps F s0.blk t.blk := by
  unfold execRdS at e
  unfold State.cc at e
  refine core_keeps (fun a => ?_) e
  have h : Keeps F a a := Keeps.refl F a
  refine Keeps.choice (fun h0 => ?_) (fun h0 => ?_)
  · dsimp -zeta only
    refine Keeps.choice (fun h1 => ?_) (fun h1 => ?_)
    · exact h
    · refine Keeps.choice (fun h2 => ?_) (fun h2 => ?_)
      · exact (Block.ccDown_keeps (s.up rfl) h)
      · exact (Block.ccRequest_keeps (s.up rfl) h)
  · exact h

theorem execStopPersist_keeps {F : Nat} {x0 x1 s0 t} (s : sub 2199149273088 F) (e : execStopPersist x0 x1 s0 = .next t) :
    Keeps F s0.blk t.blk := by
  unfold execStopPersist at e
  refine core_keeps (fun a => ?_) e
  have h : Keeps F a a := Keeps.refl F a
  refine Block.runCmd_keeps (s.up rfl) ?_ ?_
  · exact h
  · intro x0 x1 h2
    split
    · rename_i y3 y4 y5 y6
      refine Keeps.choice (fun h7 => ?_) (fun h7 => ?_)
      · exact (Block.settleTask_keeps (s.up rfl) h2)
      · split
        · rename_i y8 y9 y10
          exact (Block.stopTask_keeps (s.up rfl) h2)
        · rename_i y11 y12
          exact (Block.endCmd_keeps (s.up rfl) h2)
    · rename_i y13 y14
      exact h2

theorem execGrantWaitTimeout_keeps {F : Nat} {s0 t} (s : sub 34944 F) (e : execGrantWaitTimeout s0 = .next t) :
    Keeps F s0.blk t.blk := by
  unfold execGrantWaitTimeout at e
  refine core_keeps (fun a => ?_) e
  have h : Keeps F a a := Keeps.refl F a
  split
  · rename_i y0 y1
    exact h
  · rename_i y2 y3 y4 y5
    refine Keeps.choice (fun h6 => ?_) (fun h6 => ?_)
    · refine Block.event_keeps (s.up rfl) ?_
      exact Keeps.upd (m := 32768) h (s.up rfl) (by intro p; cases p <;> first | exact .inl rfl | (right; simp only [Part.same, and_self]))
    · exact h

theorem execGoReady_keeps {F : Nat} {x0 s0 t} (s : sub 13206487644808 F) (e : execGoReady x0 s0 = .next t) :
    Keeps F s0.blk t.blk := by
  unfold execGoReady at e
  unfold State.write at e
  refine aon_keeps (fun a => ?_) e
  have h : Keeps F a a := Keeps.refl F a
  refine Block.regWrite_keeps (s.up rfl) ?_ ?_
  · exact h
  · intro x0 h1
    exact (Block.goReady_keeps (s.up rfl) h1)

theorem execTs1_keeps {F : Nat} {x0 x1 s0 t} (s : sub 15561065953920 F) (e : execTs1 x0 x1 s0 = .next t) :
    Keeps F s0.blk t.blk := by
  unfold execTs1 at e
  refine link_keeps (fun a => ?_) e
  have h : Keeps F a a := Keeps.refl F a
  exact (Block.takeTs1_keeps (s.up rfl) h)

theorem execAtomic_keeps {F : Nat} {x0 x1 s0 t} (s : sub 15544020367488 F) (e : execAtomic x0 x1 s0 = .next t) :
    Keeps F s0.blk t.blk := by
  unfold execAtomic at e
  refine core_keeps (fun a => ?_) e
  have h : Keeps F a a := Keeps.refl F a
  refine Block.runCmd_keeps (s.up rfl) ?_ ?_
  · exact h
  · intro x0 x1 h2
    split
    · rename_i y3 y4 y5 y6 y7 y8 y9
      extract_lets z10
      have h11 : Keeps F a z10 := by
        subst z10
        exact (Block.touch_keeps (s.up rfl) (Block.touch_keeps (s.up rfl) h2))
      refine Block.access_keeps (s.up rfl) ?_ ?_
      · exact h11
      · intro x12 h13
        refine Block.access_keeps (s.up rfl) ?_ ?_
        · exact h11
        · intro x14 h15
          refine Keeps.choice (fun h16 => ?_) (fun h16 => ?_)
          · exact (Block.endCmd_keeps (s.up rfl) h11)
          · refine Block.access_keeps (s.up rfl) ?_ ?_
            · exact h11
            · intro x17 h18
              extract_lets z19 z20
              have h21 : Keeps F a z20 := by
                subst z20
                exact (Block.putBytes_keeps (s.up rfl) h11)
              exact (Block.endCmd_keeps (s.up rfl) (Block.putBytes_keeps (s.up rfl) h21))
    · rename_i y22 y23
      exact h2

theorem execReplayTimer_keeps {F : Nat} {x0 s0 t} (s : sub 15561065953952 F) (e : execReplayTimer x0 s0 = .next t) :
    Keeps F s0.blk t.blk := by
  unfold execReplayTimer at e
  refine link_keeps (fun a => ?_) e
  have h : Keeps F a a := Keeps.refl F a
  refine Keeps.choice (fun h0 => ?_) (fun h0 => ?_)
  · exact (Block.replay_keeps (s.up rfl) h)
  · exact h

theorem execDtCountCommit_keeps {F : Nat} {x0 x1 s0 t} (s : sub 6528 F) (e : execDtCountCommit x0 x1 s0 = .next t) :
    Keeps F s0.blk t.blk := by
  unfold execDtCountCommit at e
  unfold State.write at e
  refine aon_keeps (fun a => ?_) e
  have h : Keeps F a a := Keeps.refl F a
  refine Block.regWrite_keeps (s.up rfl) ?_ ?_
  · exact h
  · intro x0 h1
    exact (Block.dtCommit_keeps (s.up rfl) h1)

theorem execRollCallClose_keeps {F : Nat} {x0 s0 t} (s : sub 15959151078024 F) (e : execRollCallClose x0 s0 = .next t) :
    Keeps F s0.blk t.blk := by
  unfold execRollCallClose at e
  refine core_keeps (fun a => ?_) e
  have h : Keeps F a a := Keeps.refl F a
  refine Keeps.choice (fun h0 => ?_) (fun h0 => ?_)
  · extract_lets z1
    have h2 : Keeps F a z1 := by
      subst z1
      refine Keeps.foldl (fun b x h => ?_) _ ?_
      · refine Block.fence_keeps (s.up rfl) ?_
        exact h
      · exact h
    exact (Block.ccMod_keeps (s.up rfl) h2)
  · exact h

theorem execSnpFwd_keeps {F : Nat} {x0 x1 s0 t} (s : sub 5368971424 F) (e : execSnpFwd x0 x1 s0 = .next t) :
    Keeps F s0.blk t.blk := by
  unfold execSnpFwd at e
  unfold State.cc at e
  refine core_keeps (fun a => ?_) e
  have h : Keeps F a a := Keeps.refl F a
  refine Keeps.choice (fun h0 => ?_) (fun h0 => ?_)
  · dsimp -zeta only
    refine Block.ccSnoop_keeps (s.up rfl) ?_ ?_
    · exact h
    · intro x1 x2 h3
      split
      · rename_i y4 y5
        exact (Block.ccSend_keeps (s.up rfl) h3)
      · rename_i y6 y7 y8
        refine Keeps.choice (fun h9 => ?_) (fun h9 => ?_)
        · exact (Block.ccDown_keeps (s.up rfl) h3)
        · extract_lets z10 z11 z12 z13
          have h14 : Keeps F a z10 := by
            subst z10
            refine Keeps.choice (fun h15 => ?_) (fun h15 => ?_)
            · exact (Block.ccSpill_keeps (s.up rfl) h3)
            · exact h3
          have h16 : Keeps F a z12 := by
            subst z12
            exact (Block.setLine_keeps (s.up rfl) h14)
          have h17 : Keeps F a z13 := by
            subst z13
            exact (Block.modTxn_keeps (s.up rfl) h16)
          exact (Block.ccSend_keeps (s.up rfl) h17)
  · exact h

theorem execEngineReplacement_keeps {F : Nat} {x0 s0 t} (s : sub 17193287744128 F) (e : execEngineReplacement x0 s0 = .next t) :
    Keeps F s0.blk t.blk := by
  unfold execEngineReplacement at e
  refine core_keeps (fun a => ?_) e
  have h : Keeps F a a := Keeps.refl F a
  extract_lets z0
  refine Keeps.choice (fun h1 => ?_) (fun h1 => ?_)
  · refine Block.settleRetire_keeps (s.up rfl) ?_
    clear_value z0
    split
    · rename_i y2 y3 y4
      exact (Block.replaceEngine_keeps (s.up rfl) h)
    · rename_i y5 y6
      exact (Block.loseEngine_keeps (s.up rfl) h)
  · exact h

theorem execCadLockLoss_keeps {F : Nat} {s0 t} (s : sub 13203266340992 F) (e : execCadLockLoss s0 = .next t) :
    Keeps F s0.blk t.blk := by
  unfold execCadLockLoss at e
  refine core_keeps (fun a => ?_) e
  have h : Keeps F a a := Keeps.refl F a
  refine Keeps.choice (fun h0 => ?_) (fun h0 => ?_)
  · exact (Block.loseLock_keeps (s.up rfl) h)
  · exact h

theorem execWatchdogLapse_keeps {F : Nat} {s0 t} (s : sub 13237089208448 F) (e : execWatchdogLapse s0 = .next t) :
    Keeps F s0.blk t.blk := by
  unfold execWatchdogLapse at e
  refine core_keeps (fun a => ?_) e
  have h : Keeps F a a := Keeps.refl F a
  extract_lets z0 z1
  have h2 : Keeps F a z1 := by
    subst z1
    refine Block.setField_keeps (s.up rfl) ?_
    exact Keeps.upd (m := 34359738368) h (s.up rfl) (by intro p; cases p <;> first | exact .inl rfl | (right; simp only [Part.same, and_self]))
  refine Keeps.choice (fun h3 => ?_) (fun h3 => ?_)
  · exact (Block.event_keeps (s.up rfl) (Block.cinderRec_keeps (s.up rfl) h2))
  · exact h

theorem execListPatch_keeps {F : Nat} {x0 x1 s0 t} (s : sub 85912764545152 F) (e : execListPatch x0 x1 s0 = .next t) :
    Keeps F s0.blk t.blk := by
  unfold execListPatch at e
  refine core_keeps (fun a => ?_) e
  have h : Keeps F a a := Keeps.refl F a
  refine Block.runCmd_keeps (s.up rfl) ?_ ?_
  · exact h
  · intro x0 x1 h2
    split
    · rename_i y3 y4 y5 y6 y7 y8 y9
      refine Block.kernel_keeps (s.up rfl) ?_ ?_
      · exact h2
      · intro x10 h11
        exact (Block.loadList_keeps (s.up rfl) h11)
    · rename_i y12 y13
      exact h2

theorem execCmp_keeps {F : Nat} {x0 x1 s0 t} (s : sub 5368971392 F) (e : execCmp x0 x1 s0 = .next t) :
    Keeps F s0.blk t.blk := by
  unfold execCmp at e
  unfold State.cc at e
  refine core_keeps (fun a => ?_) e
  have h : Keeps F a a := Keeps.refl F a
  refine Keeps.choice (fun h0 => ?_) (fun h0 => ?_)
  · dsimp -zeta only
    split
    · rename_i y1 y2
      exact (Block.ccDown_keeps (s.up rfl) h)
    · rename_i y3 y4 y5
      extract_lets z6 z7 z8 z9 z10
      have h11 : Keeps F a z6 := by
        subst z6
        exact (Block.dropMsg_keeps (s.up rfl) h)
      have h12 : Keeps F a z8 := by
        subst z8
        clear_value z10
        clear_value z9
        clear_value z7
        clear_value z6
        split
        · rename_i y13 y14 y15
          exact (Block.ccMod_keeps (s.up rfl) h11)
        · rename_i y16 y17
          exact h11
      have h18 : Keeps F a z9 := by
        subst z9
        refine Keeps.choice (fun h19 => ?_) (fun h19 => ?_)
        · exact (Block.setLine_keeps (s.up rfl) h12)
        · exact h12
      have h20 : Keeps F a z10 := by
        subst z10
        refine Keeps.choice (fun h21 => ?_) (fun h21 => ?_)
        · exact (Block.ccJournal_keeps (s.up rfl) h18)
        · exact h11
      refine Keeps.choice (fun h22 => ?_) (fun h22 => ?_)
      · exact h11
      · exact (Block.ccTaken_keeps (s.up rfl) h20)
  · exact h

theorem execIdentSend_keeps {F : Nat} {x0 s0 t} (s : sub 8589934592 F) (e : execIdentSend x0 s0 = .next t) :
    Keeps F s0.blk t.blk := by
  unfold execIdentSend at e
  refine link_keeps (fun a => ?_) e
  have h : Keeps F a a := Keeps.refl F a
  refine Keeps.choice (fun h0 => ?_) (fun h0 => ?_)
  · exact (Block.modPort_keeps (s.up rfl) (Block.sendLink_keeps (s.up rfl) h))
  · exact h

theorem execStitchCacheUe_keeps {F : Nat} {x0 x1 x2 s0 t} (s : sub 15402151373216 F) (e : execStitchCacheUe x0 x1 x2 s0 = .next t) :
    Keeps F s0.blk t.blk := by
  unfold execStitchCacheUe at e
  refine core_keeps (fun a => ?_) e
  have h : Keeps F a a := Keeps.refl F a
  split
  · rename_i y0 y1 y2
    refine Keeps.choice (fun h3 => ?_) (fun h3 => ?_)
    · exact h
    · exact (Block.breakVersion_keeps (s.up rfl) (Block.plainUe_keeps (s.up rfl) h))
  · rename_i y4 y5
    exact h

theorem execBreakpointStep_keeps {F : Nat} {x0 s0 t} (s : sub 1099528448128 F) (e : execBreakpointStep x0 s0 = .next t) :
    Keeps F s0.blk t.blk := by
  unfold execBreakpointStep at e
  unfold State.write at e
  refine aon_keeps (fun a => ?_) e
  have h : Keeps F a a := Keeps.refl F a
  refine Block.regWrite_keeps (s.up rfl) ?_ ?_
  · exact h
  · intro x0 h1
    exact (Block.bpStep_keeps (s.up rfl) h1)

theorem execRemoteWickSignal_keeps {F : Nat} {x0 x1 s0 t} (s : sub 13477888583808 F) (e : execRemoteWickSignal x0 x1 s0 = .next t) :
    Keeps F s0.blk t.blk := by
  unfold execRemoteWickSignal at e
  refine core_keeps (fun a => ?_) e
  have h : Keeps F a a := Keeps.refl F a
  exact (Block.recvWick_keeps (s.up rfl) h)

theorem execMcStoreWrite_keeps {F : Nat} {x0 x1 s0 t} (s : sub 3221227648 F) (e : execMcStoreWrite x0 x1 s0 = .next t) :
    Keeps F s0.blk t.blk := by
  unfold execMcStoreWrite at e
  unfold State.write at e
  refine aon_keeps (fun a => ?_) e
  have h : Keeps F a a := Keeps.refl F a
  refine Block.regWrite_keeps (s.up rfl) ?_ ?_
  · exact h
  · intro x0 h1
    exact (Block.storeWord_keeps (s.up rfl) h1)

theorem execRemoteDoorbellSignal_keeps {F : Nat} {x0 x1 s0 t} (s : sub 268445824 F) (e : execRemoteDoorbellSignal x0 x1 s0 = .next t) :
    Keeps F s0.blk t.blk := by
  unfold execRemoteDoorbellSignal at e
  refine core_keeps (fun a => ?_) e
  have h : Keeps F a a := Keeps.refl F a
  exact (Block.recvDoor_keeps (s.up rfl) h)

theorem execRelayTimeout_keeps {F : Nat} {s0 t} (s : sub 13203266340992 F) (e : execRelayTimeout s0 = .next t) :
    Keeps F s0.blk t.blk := by
  unfold execRelayTimeout at e
  refine core_keeps (fun a => ?_) e
  have h : Keeps F a a := Keeps.refl F a
  extract_lets z0
  refine Keeps.choice (fun h1 => ?_) (fun h1 => ?_)
  · exact (Block.reselect_keeps (s.up rfl) (Block.modCad_keeps (s.up rfl) h))
  · exact h

theorem execEngineClockGate_keeps {F : Nat} {x0 s0 t} (s : sub 4295262336 F) (e : execEngineClockGate x0 s0 = .next t) :
    Keeps F s0.blk t.blk := by
  unfold execEngineClockGate at e
  refine core_keeps (fun a => ?_) e
  have h : Keeps F a a := Keeps.refl F a
  extract_lets z0 z1 z2
  have h3 : Keeps F a z2 := by
    subst z2
    exact (Block.setEng_keeps (s.up rfl) h)
  refine Keeps.choice (fun h4 => ?_) (fun h4 => ?_)
  · refine Keeps.choice (fun h5 => ?_) (fun h5 => ?_)
    · exact (Block.leaveDomain_keeps (s.up rfl) h3)
    · exact h3
  · exact h

theorem execAuthTimeout_keeps {F : Nat} {x0 s0 t} (s : sub 15561065953920 F) (e : execAuthTimeout x0 s0 = .next t) :
    Keeps F s0.blk t.blk := by
  unfold execAuthTimeout at e
  refine link_keeps (fun a => ?_) e
  have h : Keeps F a a := Keeps.refl F a
  extract_lets z0
  refine Keeps.choice (fun h1 => ?_) (fun h1 => ?_)
  · exact (Block.isolate_keeps (s.up rfl) h)
  · exact h

theorem execBoundDisable_keeps {F : Nat} {x0 x1 s0 t} (s : sub 4196480 F) (e : execBoundDisable x0 x1 s0 = .next t) :
    Keeps F s0.blk t.blk := by
  unfold execBoundDisable at e
  unfold State.write at e
  refine aon_keeps (fun a => ?_) e
  have h : Keeps F a a := Keeps.refl F a
  refine Block.regWrite_keeps (s.up rfl) ?_ ?_
  · exact h
  · intro x0 h1
    exact (Block.bndDisable_keeps (s.up rfl) h1)

theorem execListLoad_keeps {F : Nat} {x0 x1 s0 t} (s : sub 85912764545152 F) (e : execListLoad x0 x1 s0 = .next t) :
    Keeps F s0.blk t.blk := by
  unfold execListLoad at e
  refine core_keeps (fun a => ?_) e
  have h : Keeps F a a := Keeps.refl F a
  refine Block.runCmd_keeps (s.up rfl) ?_ ?_
  · exact h
  · intro x0 x1 h2
    split
    · rename_i y3 y4 y5 y6 y7 y8
      refine Block.kernel_keeps (s.up rfl) ?_ ?_
      · exact h2
      · intro x9 h10
        exact (Block.loadList_keeps (s.up rfl) h10)
    · rename_i y11 y12
      exact h2

theorem execStopInEdge_keeps {F : Nat} {s0 t} (s : sub 4398046511236 F) (e : execStopInEdge s0 = .next t) :
    Keeps F s0.blk t.blk := by
  unfold execStopInEdge at e
  refine link_keeps (fun a => ?_) e
  have h : Keeps F a a := Keeps.refl F a
  extract_lets z0 z1
  have h2 : Keeps F a z1 := by
    subst z1
    exact Keeps.upd (m := 4) h (s.up rfl) (by intro p; cases p <;> first | exact .inl rfl | (right; simp only [Part.same, and_self]))
  refine Keeps.choice (fun h3 => ?_) (fun h3 => ?_)
  · exact (Block.requestStop_keeps (s.up rfl) h2)
  · exact h2

theorem execEventForget_keeps {F : Nat} {x0 x1 x2 s0 t} (s : sub 17179869184 F) (e : execEventForget x0 x1 x2 s0 = .next t) :
    Keeps F s0.blk t.blk := by
  unfold execEventForget at e
  refine link_keeps (fun a => ?_) e
  have h : Keeps F a a := Keeps.refl F a
  exact Keeps.upd (m := 17179869184) h (s.up rfl) (by intro p; cases p <;> first | exact .inl rfl | (right; simp only [Part.same, and_self]))

theorem execUnmap_keeps {F : Nat} {x0 x1 s0 t} (s : sub 15544020367488 F) (e : execUnmap x0 x1 s0 = .next t) :
    Keeps F s0.blk t.blk := by
  unfold execUnmap at e
  refine core_keeps (fun a => ?_) e
  have h : Keeps F a a := Keeps.refl F a
  refine Block.runCmd_keeps (s.up rfl) ?_ ?_
  · exact h
  · intro x0 x1 h2
    split
    · rename_i y3 y4 y5 y6
      refine Block.kernel_keeps (s.up rfl) ?_ ?_
      · exact h2
      · intro x7 h8
        refine Keeps.choice (fun h9 => ?_) (fun h9 => ?_)
        · exact (Block.tryUnmap_keeps (s.up rfl) h8)
        · split
          · rename_i y10 y11
            exact (Block.endCmd_keeps (s.up rfl) h8)
          · rename_i y12 y13 y14
            extract_lets z15
            have h16 : Keeps F a z15 := by
              subst z15
              exact (Block.modCmd_keeps (s.up rfl) h8)
            exact (Block.tryUnmap_keeps (s.up rfl) (Block.stopPins_keeps (s.up rfl) h16))
    · rename_i y17 y18
      exact h2

theorem execRangeCacheWayUe_keeps {F : Nat} {x0 s0 t} (s : sub 13752552393600 F) (e : execRangeCacheWayUe x0 s0 = .next t) :
    Keeps F s0.blk t.blk := by
  unfold execRangeCacheWayUe at e
  refine core_keeps (fun a => ?_) e
  have h : Keeps F a a := Keeps.refl F a
  refine Keeps.choice (fun h0 => ?_) (fun h0 => ?_)
  · exact (Block.retireRange_keeps (s.up rfl) (Block.storageUe_keeps (s.up rfl) h))
  · exact h

theorem execChannelFailure_keeps {F : Nat} {x0 x1 s0 t} (s : sub 13752890035072 F) (e : execChannelFailure x0 x1 s0 = .next t) :
    Keeps F s0.blk t.blk := by
  unfold execChannelFailure at e
  refine core_keeps (fun a => ?_) e
  have h : Keeps F a a := Keeps.refl F a
  extract_lets z0
  refine Keeps.choice (fun h1 => ?_) (fun h1 => ?_)
  · exact (Block.mapOut_keeps (s.up rfl) (Block.storageUe_keeps (s.up rfl) h))
  · exact h

theorem execCadInEdge_keeps {F : Nat} {s0 t} (s : sub 13203266340992 F) (e : execCadInEdge s0 = .next t) :
    Keeps F s0.blk t.blk := by
  unfold execCadInEdge at e
  refine link_keeps (fun a => ?_) e
  have h : Keeps F a a := Keeps.refl F a
  exact (Block.cadIn_keeps (s.up rfl) h)

theorem execMark_keeps {F : Nat} {x0 x1 s0 t} (s : sub 5497650438272 F) (e : execMark x0 x1 s0 = .next t) :
    Keeps F s0.blk t.blk := by
  unfold execMark at e
  refine core_keeps (fun a => ?_) e
  have h : Keeps F a a := Keeps.refl F a
  refine Block.runCmd_keeps (s.up rfl) ?_ ?_
  · exact h
  · intro x0 x1 h2
    split
    · rename_i y3 y4 y5 y6
      extract_lets z7 z8
      have h9 : Keeps F a z8 := by
        subst z8
        exact (Block.endCmd_keeps (s.up rfl) (Block.traceAll_keeps (s.up rfl) h2))
      refine Keeps.choice (fun h10 => ?_) (fun h10 => ?_)
      · exact (Block.requestStop_keeps (s.up rfl) h9)
      · exact h9
    · rename_i y11 y12
      exact h2

theorem execWb_keeps {F : Nat} {x0 x1 x2 s0 t} (s : sub 4295229568 F) (e : execWb x0 x1 x2 s0 = .next t) :
    Keeps F s0.blk t.blk := by
  unfold execWb at e
  unfold State.cc at e
  refine core_keeps (fun a => ?_) e
  have h : Keeps F a a := Keeps.refl F a
  refine Keeps.choice (fun h0 => ?_) (fun h0 => ?_)
  · dsimp -zeta only
    split
    · rename_i y1 y2 y3
      refine Keeps.choice (fun h4 => ?_) (fun h4 => ?_)
      · exact (Block.ccEvict_keeps (s.up rfl) h)
      · exact h
    · rename_i y5 y6
      exact h
  · exact h

theorem execTs2_keeps {F : Nat} {x0 x1 x2 s0 t} (s : sub 8589934592 F) (e : execTs2 x0 x1 x2 s0 = .next t) :
    Keeps F s0.blk t.blk := by
  unfold execTs2 at e
  refine link_keeps (fun a => ?_) e
  have h : Keeps F a a := Keeps.refl F a
  exact (Block.takeTs2_keeps (s.up rfl) h)

theorem execSnpBinv_keeps {F : Nat} {x0 x1 s0 t} (s : sub 5368971424 F) (e : execSnpBinv x0 x1 s0 = .next t) :
    Keeps F s0.blk t.blk := by
  unfold execSnpBinv at e
  unfold State.cc at e
  refine core_keeps (fun a => ?_) e
  have h : Keeps F a a := Keeps.refl F a
  refine Keeps.choice (fun h0 => ?_) (fun h0 => ?_)
  · dsimp -zeta only
    refine Block.ccSnoop_keeps (s.up rfl) ?_ ?_
    · exact h
    · intro x1 x2 h3
      exact (Block.ccInvalidate_keeps (s.up rfl) h3)
  · exact h

theorem execPortDown_keeps {F : Nat} {x0 s0 t} (s : sub 4398046514564 F) (e : execPortDown x0 s0 = .next t) :
    Keeps F s0.blk t.blk := by
  unfold execPortDown at e
  refine aon_keeps (fun a => ?_) e
  have h : Keeps F a a := Keeps.refl F a
  refine Keeps.choice (fun h0 => ?_) (fun h0 => ?_)
  · exact h
  · extract_lets z1
    have h2 : Keeps F a z1 := by
      subst z1
      exact Keeps.upd (m := 4) h (s.up rfl) (by intro p; cases p <;> first | exact .inl rfl | (right; simp only [Part.same, and_self]))
    refine Keeps.choice (fun h3 => ?_) (fun h3 => ?_)
    · exact h2
    · exact (Block.portLost_keeps (s.up rfl) h2)

theorem execListVerdict_keeps {F : Nat} {x0 x1 s0 t} (s : sub 2199115554816 F) (e : execListVerdict x0 x1 s0 = .next t) :
    Keeps F s0.blk t.blk := by
  unfold execListVerdict at e
  refine core_keeps (fun a => ?_) e
  have h : Keeps F a a := Keeps.refl F a
  split
  · rename_i y0 y1
    exact h
  · rename_i y2 y3 y4 y5
    refine Keeps.choice (fun h6 => ?_) (fun h6 => ?_)
    · exact (Block.failList_keeps (s.up rfl) h)
    · refine Keeps.choice (fun h7 => ?_) (fun h7 => ?_)
      · exact (Block.makeCurrent_keeps (s.up rfl) h)
      · exact h

theorem execMsixSpacingEnd_keeps {F : Nat} {x0 s0 t} (s : sub 2048 F) (e : execMsixSpacingEnd x0 s0 = .next t) :
    Keeps F s0.blk t.blk := by
  unfold execMsixSpacingEnd at e
  refine core_keeps (fun a => ?_) e
  have h : Keeps F a a := Keeps.refl F a
  refine Keeps.choice (fun h0 => ?_) (fun h0 => ?_)
  · exact (Block.msix_keeps (s.up rfl) h)
  · exact h

theorem execRetryStepDiscard_keeps {F : Nat} {x0 x1 s0 t} (s : sub 420999489664 F) (e : execRetryStepDiscard x0 x1 s0 = .next t) :
    Keeps F s0.blk t.blk := by
  unfold execRetryStepDiscard at e
  refine core_keeps (fun a => ?_) e
  have h : Keeps F a a := Keeps.refl F a
  extract_lets z0
  refine Keeps.choice (fun h1 => ?_) (fun h1 => ?_)
  · exact (Block.retryStepNow_keeps (s.up rfl) h)
  · exact h

theorem execPoisonRead_keeps {F : Nat} {x0 s0 t} (s : sub 687194767360 F) (e : execPoisonRead x0 s0 = .next t) :
    Keeps F s0.blk t.blk := by
  unfold execPoisonRead at e
  refine core_keeps (fun a => ?_) e
  have h : Keeps F a a := Keeps.refl F a
  extract_lets z0 z1 z2 z3
  refine Keeps.choice (fun h4 => ?_) (fun h4 => ?_)
  · exact h
  · refine Block.setWear_keeps (s.up rfl) ?_
    exact Keeps.upd (m := 137438953472) h (s.up rfl) (by intro p; cases p <;> first | exact .inl rfl | (right; simp only [Part.same, and_self]))

theorem execEvtInj_keeps {F : Nat} {x0 x1 x2 s0 t} (s : sub 105553115217918 F) (e : execEvtInj x0 x1 x2 s0 = .next t) :
    Keeps F s0.blk t.blk := by
  unfold execEvtInj at e
  unfold State.injectRow at e
  refine aon_keeps (fun a => ?_) e
  have h : Keeps F a a := Keeps.refl F a
  refine Keeps.choice (fun h0 => ?_) (fun h0 => ?_)
  · exact (Block.write32_keeps (s.up rfl) h)
  · exact h

theorem execStepPacingExpiry_keeps {F : Nat} {x0 s0 t} (s : sub 15818898208896 F) (e : execStepPacingExpiry x0 s0 = .next t) :
    Keeps F s0.blk t.blk := by
  unfold execStepPacingExpiry at e
  refine core_keeps (fun a => ?_) e
  have h : Keeps F a a := Keeps.refl F a
  exact (Block.releaseSteps_keeps (s.up rfl) h)

theorem execSnoopTimeout_keeps {F : Nat} {x0 s0 t} (s : sub 5368709248 F) (e : execSnoopTimeout x0 s0 = .next t) :
    Keeps F s0.blk t.blk := by
  unfold execSnoopTimeout at e
  unfold State.cc at e
  refine core_keeps (fun a => ?_) e
  have h : Keeps F a a := Keeps.refl F a
  refine Keeps.choice (fun h0 => ?_) (fun h0 => ?_)
  · dsimp -zeta only
    split
    · rename_i y1 y2 y3
      split
      · rename_i y4 y5 y6 y7
        refine Keeps.choice (fun h8 => ?_) (fun h8 => ?_)
        · exact (Block.ccDown_keeps (s.up rfl) h)
        · exact h
      · rename_i y9 y10
        exact h
    · rename_i y11 y12
      exact h
  · exact h

theorem execMap_keeps {F : Nat} {x0 x1 s0 t} (s : sub 2199283329152 F) (e : execMap x0 x1 s0 = .next t) :
    Keeps F s0.blk t.blk := by
  unfold execMap at e
  refine core_keeps (fun a => ?_) e
  have h : Keeps F a a := Keeps.refl F a
  refine Block.runCmd_keeps (s.up rfl) ?_ ?_
  · exact h
  · intro x0 x1 h2
    split
    · rename_i y3 y4 y5
      refine Block.kernel_keeps (s.up rfl) ?_ ?_
      · exact h2
      · intro x6 h7
        exact (Block.doMap_keeps (s.up rfl) h7)
    · rename_i y8 y9
      exact h2

theorem execUeArm_keeps {F : Nat} {x0 x1 s0 t} (s : sub 105553115217918 F) (e : execUeArm x0 x1 s0 = .next t) :
    Keeps F s0.blk t.blk := by
  unfold execUeArm at e
  unfold State.injectRow at e
  refine aon_keeps (fun a => ?_) e
  have h : Keeps F a a := Keeps.refl F a
  refine Keeps.choice (fun h0 => ?_) (fun h0 => ?_)
  · exact (Block.write32_keeps (s.up rfl) h)
  · exact h

theorem execSync_keeps {F : Nat} {x0 x1 s0 t} (s : sub 15561602824848 F) (e : execSync x0 x1 s0 = .next t) :
    Keeps F s0.blk t.blk := by
  unfold execSync at e
  refine link_keeps (fun a => ?_) e
  have h : Keeps F a a := Keeps.refl F a
  exact (Block.rxFrame_keeps (s.up rfl) h)

theorem execAckInv_keeps {F : Nat} {x0 x1 s0 t} (s : sub 4295229568 F) (e : execAckInv x0 x1 s0 = .next t) :
    Keeps F s0.blk t.blk := by
  unfold execAckInv at e
  unfold State.cc at e
  refine core_keeps (fun a => ?_) e
  have h : Keeps F a a := Keeps.refl F a
  refine Keeps.choice (fun h0 => ?_) (fun h0 => ?_)
  · dsimp -zeta only
    exact (Block.ccReply_keeps (s.up rfl) h)
  · exact h

theorem execWickImport_keeps {F : Nat} {x0 x1 s0 t} (s : sub 4196512 F) (e : execWickImport x0 x1 s0 = .next t) :
    Keeps F s0.blk t.blk := by
  unfold execWickImport at e
  unfold State.write at e
  refine aon_keeps (fun a => ?_) e
  have h : Keeps F a a := Keeps.refl F a
  refine Block.regWrite_keeps (s.up rfl) ?_ ?_
  · exact h
  · intro x0 h1
    refine Block.impOp_keeps (s.up rfl) ?_ ?_
    · exact h1
    · intro x2 h3
      exact (Block.doImport_keeps (s.up rfl) h3)

theorem execSignal_keeps {F : Nat} {x0 x1 s0 t} (s : sub 92299264 F) (e : execSignal x0 x1 s0 = .next t) :
    Keeps F s0.blk t.blk := by
  unfold execSignal at e
  refine core_keeps (fun a => ?_) e
  have h : Keeps F a a := Keeps.refl F a
  refine Block.runCmd_keeps (s.up rfl) ?_ ?_
  · exact h
  · intro x0 x1 h2
    exact (Block.endCmd_keeps (s.up rfl) h2)

theorem execL1EngineReset_keeps {F : Nat} {x0 x1 s0 t} (s : sub 87411173359582 F) (e : execL1EngineReset x0 x1 s0 = .next t) :
    Keeps F s0.blk t.blk := by
  unfold execL1EngineReset at e
  unfold State.write at e
  refine aon_keeps (fun a => ?_) e
  have h : Keeps F a a := Keeps.refl F a
  refine Block.regWrite_keeps (s.up rfl) ?_ ?_
  · exact h
  · intro x0 h1
    exact (Block.order__keeps (s.up rfl) h1)

theorem execWatch_keeps {F : Nat} {x0 x1 s0 t} (s : sub 15544020367488 F) (e : execWatch x0 x1 s0 = .next t) :
    Keeps F s0.blk t.blk := by
  unfold execWatch at e
  refine core_keeps (fun a => ?_) e
  have h : Keeps F a a := Keeps.refl F a
  refine Block.runCmd_keeps (s.up rfl) ?_ ?_
  · exact h
  · intro x0 x1 h2
    split
    · rename_i y3 y4 y5 y6 y7
      extract_lets z8 z9 z10 z11
      have h12 : Keeps F a z9 := by
        subst z9
        refine Keeps.foldl (fun b x h => ?_) _ ?_
        · refine Block.touchRange_keeps (s.up rfl) ?_
          exact h
        · exact h2
      have h13 : Keeps F a z11 := by
        subst z11
        refine Keeps.foldl (fun b x h => ?_) _ ?_
        · refine Block.countBursts_keeps (s.up rfl) ?_
          exact h
        · exact h12
      refine Block.access_keeps (s.up rfl) ?_ ?_
      · exact h12
      · intro x14 h15
        refine Block.access_keeps (s.up rfl) ?_ ?_
        · exact h12
        · intro x16 h17
          refine Block.access_keeps (s.up rfl) ?_ ?_
          · exact h12
          · intro x18 h19
            exact (Block.endCmd_keeps (s.up rfl) (Block.putBytes_keeps (s.up rfl) h13))
    · rename_i y20 y21
      exact h2

theorem execIdent_keeps {F : Nat} {x0 x1 s0 t} (s : sub 15561065953920 F) (e : execIdent x0 x1 s0 = .next t) :
    Keeps F s0.blk t.blk := by
  unfold execIdent at e
  refine link_keeps (fun a => ?_) e
  have h : Keeps F a a := Keeps.refl F a
  refine Block.rxLink_keeps (s.up rfl) ?_ ?_
  · exact h
  · intro x0 h1
    exact (Block.takeIdent_keeps (s.up rfl) h1)

theorem execBadFrame_keeps {F : Nat} {x0 s0 t} (s : sub 8589934720 F) (e : execBadFrame x0 s0 = .next t) :
    Keeps F s0.blk t.blk := by
  unfold execBadFrame at e
  refine link_keeps (fun a => ?_) e
  have h : Keeps F a a := Keeps.refl F a
  refine Keeps.choice (fun h0 => ?_) (fun h0 => ?_)
  · exact h
  · extract_lets z1
    have h2 : Keeps F a z1 := by
      subst z1
      exact (Block.codeErrors_keeps (s.up rfl) h)
    refine Keeps.choice (fun h3 => ?_) (fun h3 => ?_)
    · exact h2
    · exact (Block.rxBad_keeps (s.up rfl) h2)

theorem execMicrocodeVerdict_keeps {F : Nat} {x0 x1 s0 t} (s : sub 1073741952 F) (e : execMicrocodeVerdict x0 x1 s0 = .next t) :
    Keeps F s0.blk t.blk := by
  unfold execMicrocodeVerdict at e
  refine core_keeps (fun a => ?_) e
  have h : Keeps F a a := Keeps.refl F a
  split
  · rename_i y0 y1 y2
    refine Keeps.choice (fun h3 => ?_) (fun h3 => ?_)
    · exact (Block.verdict_keeps (s.up rfl) h)
    · refine Keeps.choice (fun h4 => ?_) (fun h4 => ?_)
      · exact (Block.verdict_keeps (s.up rfl) h)
      · exact h
  · rename_i y5 y6
    exact h

theorem execCoherenceRebuildDone_keeps {F : Nat} {s0 t} (s : sub 87411173359582 F) (e : execCoherenceRebuildDone s0 = .next t) :
    Keeps F s0.blk t.blk := by
  unfold execCoherenceRebuildDone at e
  refine core_keeps (fun a => ?_) e
  have h : Keeps F a a := Keeps.refl F a
  refine Keeps.choice (fun h0 => ?_) (fun h0 => ?_)
  · extract_lets z1 z2 z3 z4 z5 z6 z7 z8
    have h9 : Keeps F a z4 := by
      subst z4
      exact (Block.ccMod_keeps (s.up rfl) (Block.reissue_keeps (s.up rfl) (Block.replayJournal_keeps (s.up rfl) h)))
    have h10 : Keeps F a z5 := by
      subst z5
      exact (Block.count32_keeps (s.up rfl) (Block.setField_keeps (s.up rfl) h9))
    have h11 : Keeps F a z6 := by
      subst z6
      exact (Block.setReg_keeps (s.up rfl) h10)
    have h12 : Keeps F a z7 := by
      subst z7
      exact (Block.cinderRec_keeps (s.up rfl) h11)
    have h13 : Keeps F a z8 := by
      subst z8
      exact (Block.startWalks_keeps (s.up rfl) (Block.bumpEpoch_keeps (s.up rfl) (Block.event_keeps (s.up rfl) h12)))
    clear_value z8
    clear_value z7
    clear_value z6
    clear_value z5
    clear_value z4
    clear_value z3
    clear_value z2
    clear_value z1
    split
    · rename_i y14 y15 y16
      refine Keeps.choice (fun h17 => ?_) (fun h17 => ?_)
      · exact h13
      · exact (Block.actOrder_keeps (s.up rfl) h13)
    · rename_i y18 y19
      exact h13
  · exact h

theorem execSpareRetireGo_keeps {F : Nat} {x0 s0 t} (s : sub 16114179373736 F) (e : execSpareRetireGo x0 s0 = .next t) :
    Keeps F s0.blk t.blk := by
  unfold execSpareRetireGo at e
  unfold State.write at e
  refine aon_keeps (fun a => ?_) e
  have h : Keeps F a a := Keeps.refl F a
  refine Block.regWrite_keeps (s.up rfl) ?_ ?_
  · exact h
  · intro x0 h1
    exact (Block.retireGo_keeps (s.up rfl) h1)

theorem execBreakpointCommit_keeps {F : Nat} {x0 x1 s0 t} (s : sub 2199023257984 F) (e : execBreakpointCommit x0 x1 s0 = .next t) :
    Keeps F s0.blk t.blk := by
  unfold execBreakpointCommit at e
  unfold State.write at e
  refine aon_keeps (fun a => ?_) e
  have h : Keeps F a a := Keeps.refl F a
  refine Block.regWrite_keeps (s.up rfl) ?_ ?_
  · exact h
  · intro x0 h1
    exact (Block.bpCommit_keeps (s.up rfl) h1)

theorem execAdvise_keeps {F : Nat} {x0 x1 s0 t} (s : sub 15544020301952 F) (e : execAdvise x0 x1 s0 = .next t) :
    Keeps F s0.blk t.blk := by
  unfold execAdvise at e
  refine core_keeps (fun a => ?_) e
  have h : Keeps F a a := Keeps.refl F a
  refine Block.runCmd_keeps (s.up rfl) ?_ ?_
  · exact h
  · intro x0 x1 h2
    split
    · rename_i y3 y4 y5 y6 y7
      extract_lets z8
      have h9 : Keeps F a z8 := by
        subst z8
        exact (Block.count_keeps (s.up rfl) h2)
      refine Block.endCmd_keeps (s.up rfl) ?_
      refine Keeps.choice (fun h10 => ?_) (fun h10 => ?_)
      · exact (Block.willNeed_keeps (s.up rfl) h9)
      · exact h9
    · rename_i y11 y12
      exact h2

theorem execFpDestWrite_keeps {F : Nat} {x0 x1 s0 t} (s : sub 17592186046592 F) (e : execFpDestWrite x0 x1 s0 = .next t) :
    Keeps F s0.blk t.blk := by
  unfold execFpDestWrite at e
  unfold State.write at e
  refine aon_keeps (fun a => ?_) e
  have h : Keeps F a a := Keeps.refl F a
  refine Block.regWrite_keeps (s.up rfl) ?_ ?_
  · exact h
  · intro x0 h1
    exact (Block.destWrite_keeps (s.up rfl) h1)

theorem execOccupancySample_keeps {F : Nat} {s0 t} (s : sub 2199023255568 F) (e : execOccupancySample s0 = .next t) :
    Keeps F s0.blk t.blk := by
  unfold execOccupancySample at e
  refine core_keeps (fun a => ?_) e
  have h : Keeps F a a := Keeps.refl F a
  refine Keeps.choice (fun h0 => ?_) (fun h0 => ?_)
  · exact (Block.sampleOcc_keeps (s.up rfl) (Block.setFrac_keeps (s.up rfl) h))
  · exact h

theorem execZtBootEnt0Write_keeps {F : Nat} {x0 x1 s0 t} (s : sub 33556864 F) (e : execZtBootEnt0Write x0 x1 s0 = .next t) :
    Keeps F s0.blk t.blk := by
  unfold execZtBootEnt0Write at e
  unfold State.write at e
  refine aon_keeps (fun a => ?_) e
  have h : Keeps F a a := Keeps.refl F a
  refine Block.regWrite_keeps (s.up rfl) ?_ ?_
  · exact h
  · intro x0 h1
    exact (Block.bootCommit_keeps (s.up rfl) h1)

theorem execQueueCreate_keeps {F : Nat} {x0 x1 s0 t} (s : sub 2199149113344 F) (e : execQueueCreate x0 x1 s0 = .next t) :
    Keeps F s0.blk t.blk := by
  unfold execQueueCreate at e
  refine core_keeps (fun a => ?_) e
  have h : Keeps F a a := Keeps.refl F a
  refine Block.runCmd_keeps (s.up rfl) ?_ ?_
  · exact h
  · intro x0 x1 h2
    split
    · rename_i y3 y4 y5
      refine Block.kernel_keeps (s.up rfl) ?_ ?_
      · exact h2
      · intro x6 h7
        exact (Block.doCreate_keeps (s.up rfl) h7)
    · rename_i y8 y9
      exact h2

theorem execCadenceWait_keeps {F : Nat} {x0 x1 s0 t} (s : sub 92299264 F) (e : execCadenceWait x0 x1 s0 = .next t) :
    Keeps F s0.blk t.blk := by
  unfold execCadenceWait at e
  refine core_keeps (fun a => ?_) e
  have h : Keeps F a a := Keeps.refl F a
  refine Block.runCmd_keeps (s.up rfl) ?_ ?_
  · exact h
  · intro x0 x1 h2
    split
    · rename_i y3 y4 y5
      refine Keeps.choice (fun h6 => ?_) (fun h6 => ?_)
      · exact (Block.cadenceMet_keeps (s.up rfl) h2)
      · exact (Block.setRunning_keeps (s.up rfl) h2)
    · rename_i y7 y8
      exact h2

theorem execPowerOn_keeps {F : Nat} {s0 t} (s : sub 13202729502860 F) (e : execPowerOn s0 = .next t) :
    Keeps F s0.blk t.blk := by
  unfold execPowerOn at e
  refine aon_keeps (fun a => ?_) e
  have h : Keeps F a a := Keeps.refl F a
  refine Keeps.choice (fun h0 => ?_) (fun h0 => ?_)
  · extract_lets z1 z2
    have h3 : Keeps F a z2 := by
      subst z2
      exact Keeps.upd (m := 32780) h (s.up rfl) (by intro p; cases p <;> first | exact .inl rfl | (right; simp only [Part.same, and_self]))
    refine Keeps.choice (fun h4 => ?_) (fun h4 => ?_)
    · exact (Block.event_keeps (s.up rfl) (Block.resetLedger_keeps (s.up rfl) h3))
    · exact h3
  · exact h

theorem execCadSrcChange_keeps {F : Nat} {s0 t} (s : sub 13203266340992 F) (e : execCadSrcChange s0 = .next t) :
    Keeps F s0.blk t.blk := by
  unfold execCadSrcChange at e
  refine core_keeps (fun a => ?_) e
  have h : Keeps F a a := Keeps.refl F a
  refine Keeps.choice (fun h0 => ?_) (fun h0 => ?_)
  · exact (Block.reselect_keeps (s.up rfl) (Block.modCad_keeps (s.up rfl) h))
  · exact h

theorem execJobMembershipEnd_keeps {F : Nat} {x0 s0 t} (s : sub 6272 F) (e : execJobMembershipEnd x0 s0 = .next t) :
    Keeps F s0.blk t.blk := by
  unfold execJobMembershipEnd at e
  unfold State.write at e
  refine aon_keeps (fun a => ?_) e
  have h : Keeps F a a := Keeps.refl F a
  refine Block.regWrite_keeps (s.up rfl) ?_ ?_
  · exact h
  · intro x0 h1
    exact (Block.jobEnd_keeps (s.up rfl) h1)

theorem execTraceDisable_keeps {F : Nat} {x0 s0 t} (s : sub 1241347000448 F) (e : execTraceDisable x0 s0 = .next t) :
    Keeps F s0.blk t.blk := by
  unfold execTraceDisable at e
  unfold State.write at e
  refine aon_keeps (fun a => ?_) e
  have h : Keeps F a a := Keeps.refl F a
  refine Block.regWrite_keeps (s.up rfl) ?_ ?_
  · exact h
  · intro x0 h1
    extract_lets z2 z3
    have h4 : Keeps F a z3 := by
      subst z3
      exact (Block.tbCtlWrite_keeps (s.up rfl) h1)
    exact (Block.traceDma_keeps (s.up rfl) h4)

theorem execWindowSignalWrite_keeps {F : Nat} {x0 x1 x2 s0 t} (s : sub 13477888583808 F) (e : execWindowSignalWrite x0 x1 x2 s0 = .next t) :
    Keeps F s0.blk t.blk := by
  unfold execWindowSignalWrite at e
  refine aon_keeps (fun a => ?_) e
  have h : Keeps F a a := Keeps.refl F a
  refine Keeps.choice (fun h0 => ?_) (fun h0 => ?_)
  · exact h
  · refine Keeps.choice (fun h1 => ?_) (fun h1 => ?_)
    · exact (Block.stopDrop_keeps (s.up rfl) h)
    · refine Keeps.choice (fun h2 => ?_) (fun h2 => ?_)
      · exact (Block.accessErr_keeps (s.up rfl) h)
      · exact (Block.windowWrite_keeps (s.up rfl) h)

theorem execFrameSupply_keeps {F : Nat} {x0 x1 s0 t} (s : sub 15544020367488 F) (e : execFrameSupply x0 x1 s0 = .next t) :
    Keeps F s0.blk t.blk := by
  unfold execFrameSupply at e
  refine core_keeps (fun a => ?_) e
  have h : Keeps F a a := Keeps.refl F a
  refine Block.runCmd_keeps (s.up rfl) ?_ ?_
  · exact h
  · intro x0 x1 h2
    split
    · rename_i y3 y4 y5 y6 y7
      refine Block.kernel_keeps (s.up rfl) ?_ ?_
      · exact h2
      · intro x8 h9
        extract_lets z10 z11
        have h12 : Keeps F a z10 := by
          subst z10
          exact (Block.touchRange_keeps (s.up rfl) h9)
        have h13 : Keeps F a z11 := by
          subst z11
          exact (Block.countBursts_keeps (s.up rfl) h12)
        refine Block.access_keeps (s.up rfl) ?_ ?_
        · exact h12
        · intro x14 h15
          extract_lets z16 z17 z18
          have h19 : Keeps F a z17 := by
            subst z17
            exact (Block.setPool_keeps (s.up rfl) h13)
          have h20 : Keeps F a z18 := by
            subst z18
            exact (Block.ledgerTerm_keeps (s.up rfl) h19)
          refine Keeps.choice (fun h21 => ?_) (fun h21 => ?_)
          · exact (Block.endCmd_keeps (s.up rfl) h13)
          · refine Keeps.choice (fun h22 => ?_) (fun h22 => ?_)
            · exact (Block.endCmd_keeps (s.up rfl) h13)
            · exact (Block.endCmd_keeps (s.up rfl) (Block.resumeFrames_keeps (s.up rfl) h20))
    · rename_i y23 y24
      exact h2

theorem execAbort_keeps {F : Nat} {x0 x1 s0 t} (s : sub 15561602824848 F) (e : execAbort x0 x1 s0 = .next t) :
    Keeps F s0.blk t.blk := by
  unfold execAbort at e
  refine link_keeps (fun a => ?_) e
  have h : Keeps F a a := Keeps.refl F a
  exact (Block.rxFrame_keeps (s.up rfl) h)

theorem execTimestamp_keeps {F : Nat} {x0 x1 s0 t} (s : sub 15544020367488 F) (e : execTimestamp x0 x1 s0 = .next t) :
    Keeps F s0.blk t.blk := by
  unfold execTimestamp at e
  refine core_keeps (fun a => ?_) e
  have h : Keeps F a a := Keeps.refl F a
  refine Block.runCmd_keeps (s.up rfl) ?_ ?_
  · exact h
  · intro x0 x1 h2
    split
    · rename_i y3 y4 y5
      extract_lets z6 z7
      have h8 : Keeps F a z7 := by
        subst z7
        exact (Block.touch_keeps (s.up rfl) (Block.modCmd_keeps (s.up rfl) h2))
      refine Block.access_keeps (s.up rfl) ?_ ?_
      · exact h8
      · intro x9 h10
        have h11 := Block.writeVa_keeps (s.up rfl) h8 h10
        exact (Block.endCmd_keeps (s.up rfl) h11)
    · rename_i y12 y13
      exact h2

theorem execEngineSpaceClearDone_keeps {F : Nat} {x0 s0 t} (s : sub 16643532978304 F) (e : execEngineSpaceClearDone x0 s0 = .next t) :
    Keeps F s0.blk t.blk := by
  unfold execEngineSpaceClearDone at e
  refine core_keeps (fun a => ?_) e
  have h : Keeps F a a := Keeps.refl F a
  extract_lets z0 z1 z2
  have h3 : Keeps F a z1 := by
    subst z1
    exact Keeps.upd (m := 1048576) h (s.up rfl) (by intro p; cases p <;> first | exact .inl rfl | (right; simp only [Part.same, and_self]))
  have h4 : Keeps F a z2 := by
    subst z2
    exact (Block.setEng_keeps (s.up rfl) h3)
  refine Keeps.choice (fun h5 => ?_) (fun h5 => ?_)
  · clear_value z2
    clear_value z1
    clear_value z0
    split
    · rename_i y6 y7 y8 y9
      split
      · rename_i y10 y11 y12
        exact (Block.placeOne_keeps (s.up rfl) h4)
      · rename_i y13 y14
        exact h4
    · rename_i y15 y16
      exact h4
  · exact h

theorem execAckFwd_keeps {F : Nat} {x0 x1 s0 t} (s : sub 4295229568 F) (e : execAckFwd x0 x1 s0 = .next t) :
    Keeps F s0.blk t.blk := by
  unfold execAckFwd at e
  unfold State.cc at e
  refine core_keeps (fun a => ?_) e
  have h : Keeps F a a := Keeps.refl F a
  refine Keeps.choice (fun h0 => ?_) (fun h0 => ?_)
  · dsimp -zeta only
    exact (Block.ccReply_keeps (s.up rfl) h)
  · exact h

theorem execCtxSave_keeps {F : Nat} {x0 x1 s0 t} (s : sub 15544020367488 F) (e : execCtxSave x0 x1 s0 = .next t) :
    Keeps F s0.blk t.blk := by
  unfold execCtxSave at e
  refine core_keeps (fun a => ?_) e
  have h : Keeps F a a := Keeps.refl F a
  refine Block.runCmd_keeps (s.up rfl) ?_ ?_
  · exact h
  · intro x0 x1 h2
    split
    · rename_i y3 y4 y5 y6 y7
      refine Block.kernel_keeps (s.up rfl) ?_ ?_
      · exact h2
      · intro x8 h9
        refine Keeps.choice (fun h10 => ?_) (fun h10 => ?_)
        · exact (Block.endCmd_keeps (s.up rfl) h9)
        · refine Keeps.choice (fun h11 => ?_) (fun h11 => ?_)
          · exact (Block.endCmd_keeps (s.up rfl) h9)
          · extract_lets z12 z13
            have h14 : Keeps F a z13 := by
              subst z13
              exact (Block.touchRange_keeps (s.up rfl) h9)
            refine Block.access_keeps (s.up rfl) ?_ ?_
            · exact h14
            · intro x15 h16
              extract_lets z17 z18 z19 z20
              have h21 : Keeps F a z17 := by
                subst z17
                exact (Block.countBursts_keeps (s.up rfl) (Block.putBytes_keeps (s.up rfl) h14))
              have h22 : Keeps F a z18 := by
                subst z18
                exact (Block.dropBounds_keeps (s.up rfl) (Block.saveWicks_keeps (s.up rfl) h21))
              have h23 : Keeps F a z19 := by
                subst z19
                exact (Block.dropCommits_keeps (s.up rfl) h22)
              exact (Block.endCmd_keeps (s.up rfl) (Block.setCtx_keeps (s.up rfl) h23))
    · rename_i y24 y25
      exact h2

theorem execTaskItemCompletion_keeps {F : Nat} {x0 x1 s0 t} (s : sub 15818898208896 F) (e : execTaskItemCompletion x0 x1 s0 = .next t) :
    Keeps F s0.blk t.blk := by
  unfold execTaskItemCompletion at e
  refine core_keeps (fun a => ?_) e
  have h : Keeps F a a := Keeps.refl F a
  split
  · rename_i y0 y1
    exact h
  · rename_i y2 y3 y4
    split
    · rename_i y5 y6
      exact h
    · rename_i y7 y8 y9
      split
      · rename_i y10 y11
        exact h
      · rename_i y12 y13 y14
        refine Keeps.choice (fun h15 => ?_) (fun h15 => ?_)
        · exact h
        · split
          · rename_i y16 y17 y18
            have h19 := Block.writeHome_keeps (s.up rfl) h y18
            exact (Block.finishItem_keeps (s.up rfl) h19)
          · rename_i y20 y21 y22 y23
            exact (Block.loseCtx_keeps (s.up rfl) (Block.notePoison_keeps (s.up rfl) h))
          · rename_i y25 y26 y27
            exact (Block.itemFault_keeps (s.up rfl) h)
          · rename_i y29 y30 y31 y32
            exact (Block.meet_keeps (s.up rfl) h)

theorem execLaunchInd_keeps {F : Nat} {x0 x1 s0 t} (s : sub 16643531929728 F) (e : execLaunchInd x0 x1 s0 = .next t) :
    Keeps F s0.blk t.blk := by
  unfold execLaunchInd at e
  refine core_keeps (fun a => ?_) e
  have h : Keeps F a a := Keeps.refl F a
  refine Block.runCmd_keeps (s.up rfl) ?_ ?_
  · exact h
  · intro x0 x1 h2
    refine Keeps.choice (fun h3 => ?_) (fun h3 => ?_)
    · exact h2
    · exact (Block.toHal_keeps (s.up rfl) h2)

theorem execAtsInvalidateRequest_keeps {F : Nat} {x0 x1 x2 x3 s0 t} (s : sub 15544020301952 F) (e : execAtsInvalidateRequest x0 x1 x2 x3 s0 = .next t) :
    Keeps F s0.blk t.blk := by
  unfold execAtsInvalidateRequest at e
  refine core_keeps (fun a => ?_) e
  have h : Keeps F a a := Keeps.refl F a
  exact (Block.atsInvalidate_keeps (s.up rfl) h)

theorem execCtxRestore_keeps {F : Nat} {x0 x1 s0 t} (s : sub 15544020367488 F) (e : execCtxRestore x0 x1 s0 = .next t) :
    Keeps F s0.blk t.blk := by
  unfold execCtxRestore at e
  refine core_keeps (fun a => ?_) e
  have h : Keeps F a a := Keeps.refl F a
  refine Block.runCmd_keeps (s.up rfl) ?_ ?_
  · exact h
  · intro x0 x1 h2
    split
    · rename_i y3 y4 y5 y6 y7
      refine Block.kernel_keeps (s.up rfl) ?_ ?_
      · exact h2
      · intro x8 h9
        extract_lets z10 z11 z12
        have h13 : Keeps F a z12 := by
          subst z12
          exact (Block.touchRange_keeps (s.up rfl) h9)
        refine Keeps.choice (fun h14 => ?_) (fun h14 => ?_)
        · exact (Block.endCmd_keeps (s.up rfl) h9)
        · refine Keeps.choice (fun h15 => ?_) (fun h15 => ?_)
          · exact (Block.endCmd_keeps (s.up rfl) h9)
          · refine Block.access_keeps (s.up rfl) ?_ ?_
            · exact h13
            · intro x16 h17
              extract_lets z18
              refine Keeps.choice (fun h19 => ?_) (fun h19 => ?_)
              · exact (Block.endCmd_keeps (s.up rfl) h13)
              · refine Block.access_keeps (s.up rfl) ?_ ?_
                · exact (Block.touchRange_keeps (s.up rfl) h13)
                · intro x20 h21
                  exact (Block.doRestore_keeps (s.up rfl) (Block.countBursts_keeps (s.up rfl) (Block.touchRange_keeps (s.up rfl) h13)))
    · rename_i y22 y23
      exact h2

theorem execPoisonConsumed_keeps {F : Nat} {x0 x1 s0 t} (s : sub 15543886084224 F) (e : execPoisonConsumed x0 x1 s0 = .next t) :
    Keeps F s0.blk t.blk := by
  unfold execPoisonConsumed at e
  refine core_keeps (fun a => ?_) e
  have h : Keeps F a a := Keeps.refl F a
  extract_lets z0 z1
  clear_value z1
  clear_value z0
  split
  · rename_i y2 y3
    exact h
  · rename_i y4 y5 y6
    refine Keeps.choice (fun h7 => ?_) (fun h7 => ?_)
    · split
      · rename_i y8 y9 y10
        exact (Block.stopStep_keeps (s.up rfl) (Block.cinderRec_keeps (s.up rfl) h))
      · rename_i y11 y12
        exact h
    · refine Keeps.choice (fun h13 => ?_) (fun h13 => ?_)
      · exact (Block.endWork_keeps (s.up rfl) (Block.notePoison_keeps (s.up rfl) h))
      · exact h

theorem execCadenceTargetReached_keeps {F : Nat} {x0 x1 s0 t} (s : sub 92299264 F) (e : execCadenceTargetReached x0 x1 s0 = .next t) :
    Keeps F s0.blk t.blk := by
  unfold execCadenceTargetReached at e
  refine core_keeps (fun a => ?_) e
  have h : Keeps F a a := Keeps.refl F a
  refine Block.runCmd_keeps (s.up rfl) ?_ ?_
  · exact h
  · intro x0 x1 h2
    split
    · rename_i y3 y4 y5
      refine Keeps.choice (fun h6 => ?_) (fun h6 => ?_)
      · exact (Block.cadenceMet_keeps (s.up rfl) h2)
      · exact h2
    · rename_i y7 y8
      exact h2

theorem execEvict_keeps {F : Nat} {x0 x1 s0 t} (s : sub 4295229568 F) (e : execEvict x0 x1 s0 = .next t) :
    Keeps F s0.blk t.blk := by
  unfold execEvict at e
  unfold State.cc at e
  refine core_keeps (fun a => ?_) e
  have h : Keeps F a a := Keeps.refl F a
  refine Keeps.choice (fun h0 => ?_) (fun h0 => ?_)
  · dsimp -zeta only
    split
    · rename_i y1 y2 y3
      refine Keeps.choice (fun h4 => ?_) (fun h4 => ?_)
      · exact h
      · exact (Block.ccEvict_keeps (s.up rfl) h)
    · rename_i y5 y6
      exact h
  · exact h

theorem execVerify_keeps {F : Nat} {x0 s0 t} (s : sub 70369817921664 F) (e : execVerify x0 s0 = .next t) :
    Keeps F s0.blk t.blk := by
  unfold execVerify at e
  unfold State.write at e
  refine aon_keeps (fun a => ?_) e
  have h : Keeps F a a := Keeps.refl F a
  refine Block.regWrite_keeps (s.up rfl) ?_ ?_
  · exact h
  · intro x0 h1
    exact (Block.verify_keeps (s.up rfl) h1)

theorem execPortUp_keeps {F : Nat} {x0 s0 t} (s : sub 2052 F) (e : execPortUp x0 s0 = .next t) :
    Keeps F s0.blk t.blk := by
  unfold execPortUp at e
  refine aon_keeps (fun a => ?_) e
  have h : Keeps F a a := Keeps.refl F a
  refine Keeps.choice (fun h0 => ?_) (fun h0 => ?_)
  · exact h
  · extract_lets z1
    have h2 : Keeps F a z1 := by
      subst z1
      exact Keeps.upd (m := 4) h (s.up rfl) (by intro p; cases p <;> first | exact .inl rfl | (right; simp only [Part.same, and_self]))
    refine Keeps.choice (fun h3 => ?_) (fun h3 => ?_)
    · refine Keeps.foldl (fun b x h => ?_) _ ?_
      · refine Block.msix_keeps (s.up rfl) ?_
        exact h
      · exact h2
    · exact h2

theorem execTbSizeWrite_keeps {F : Nat} {x0 x1 s0 t} (s : sub 1099511630208 F) (e : execTbSizeWrite x0 x1 s0 = .next t) :
    Keeps F s0.blk t.blk := by
  unfold execTbSizeWrite at e
  unfold State.write at e
  refine aon_keeps (fun a => ?_) e
  have h : Keeps F a a := Keeps.refl F a
  refine Block.regWrite_keeps (s.up rfl) ?_ ?_
  · exact h
  · intro x0 h1
    exact (Block.tbSizeSet_keeps (s.up rfl) h1)

theorem execRdNa_keeps {F : Nat} {x0 x1 s0 t} (s : sub 4295229568 F) (e : execRdNa x0 x1 s0 = .next t) :
    Keeps F s0.blk t.blk := by
  unfold execRdNa at e
  unfold State.cc at e
  refine core_keeps (fun a => ?_) e
  have h : Keeps F a a := Keeps.refl F a
  refine Keeps.choice (fun h0 => ?_) (fun h0 => ?_)
  · dsimp -zeta only
    refine Keeps.choice (fun h1 => ?_) (fun h1 => ?_)
    · exact h
    · exact (Block.ccRequest_keeps (s.up rfl) h)
  · exact h

theorem execRingReadCompletion_keeps {F : Nat} {x0 s0 t} (s : sub 15544020367488 F) (e : execRingReadCompletion x0 s0 = .next t) :
    Keeps F s0.blk t.blk := by
  unfold execRingReadCompletion at e
  refine core_keeps (fun a => ?_) e
  have h : Keeps F a a := Keeps.refl F a
  extract_lets z0 z1 z2
  have h3 : Keeps F a z1 := by
    subst z1
    exact (Block.settleHalt_keeps (s.up rfl) h)
  have h4 : Keeps F a z2 := by
    subst z2
    refine Keeps.choice (fun h5 => ?_) (fun h5 => ?_)
    · exact (Block.touch_keeps (s.up rfl) h3)
    · exact h3
  exact (Block.fetchBlockN_keeps (s.up rfl) h4)

theorem execGlobalStopRelease_keeps {F : Nat} {x0 s0 t} (s : sub 87411173359614 F) (e : execGlobalStopRelease x0 s0 = .next t) :
    Keeps F s0.blk t.blk := by
  unfold execGlobalStopRelease at e
  unfold State.write at e
  refine aon_keeps (fun a => ?_) e
  have h : Keeps F a a := Keeps.refl F a
  refine Block.regWrite_keeps (s.up rfl) ?_ ?_
  · exact h
  · intro x0 h1
    exact (Block.release_keeps (s.up rfl) h1)

end Sys2Proof.Laws
end

