-- ==== Sys2Proof/Laws/Table.lean ====
section
/-!
SUPPORT. The tables and the memories: a read after a write, and the canonical form that every operation keeps.
-/
namespace Sys2Proof.Laws

open Sys2Proof Sys2Proof.Machine

/-! ### Reads after writes -/

theorem Tab.get_del_self {α : Type} (d : Nat → α) : ∀ (m : Tab α) (k : Nat), Tab.get d (Tab.del m k) k = d k
  | [], _ => rfl
  | (a, v) :: t, k => by
    unfold Tab.del
    split
    · exact Tab.get_del_self d t k
    · rename_i h
      simp only [Tab.get, if_neg h, Tab.get_del_self d t k]

theorem Tab.get_del_other {α : Type} (d : Nat → α) {k j : Nat} (h : k ≠ j) : ∀ m : Tab α, Tab.get d (Tab.del m k) j = Tab.get d m j
  | [] => rfl
  | (a, v) :: t => by
    unfold Tab.del
    split
    · rename_i e
      have hj : ¬a = j := fun x => h (e.symm.trans x)
      simp only [Tab.get, if_neg hj, Tab.get_del_other d h t]
    · simp only [Tab.get, Tab.get_del_other d h t]

theorem Tab.get_put_self {α : Type} (d : Nat → α) (v : α) : ∀ (m : Tab α) (k : Nat), Tab.get d (Tab.put m k v) k = v
  | [], k => by simp [Tab.put, Tab.get]
  | (a, w) :: t, k => by
    unfold Tab.put
    split
    · simp [Tab.get]
    · split
      · simp [Tab.get]
      · rename_i h
        simp only [Tab.get, if_neg (Ne.symm h), Tab.get_put_self d v t k]

theorem Tab.get_put_other {α : Type} (d : Nat → α) (v : α) {k j : Nat} (h : k ≠ j) :
    ∀ m : Tab α, Tab.get d (Tab.put m k v) j = Tab.get d m j
  | [] => by simp [Tab.put, Tab.get, h]
  | (a, w) :: t => by
    unfold Tab.put
    split
    · simp [Tab.get, h]
    · split
      · rename_i e
        have hj : ¬a = j := fun x => h (e.trans x)
        simp [Tab.get, h, hj]
      · simp only [Tab.get, Tab.get_put_other d v h t]

/-- A key just set reads as its value. -/
@[simp] theorem Tab.get_set_self {α : Type} [DecidableEq α] (d : Nat → α) (m : Tab α) (k : Nat) (v : α) :
    Tab.get d (Tab.set d m k v) k = v := by
  unfold Tab.set
  split
  · rename_i h
    rw [Tab.get_del_self, h]
  · exact Tab.get_put_self d v m k

/-- Setting a key leaves every other as it reads. -/
theorem Tab.get_set_other {α : Type} [DecidableEq α] (d : Nat → α) (m : Tab α) {k j : Nat} (v : α) (h : k ≠ j) :
    Tab.get d (Tab.set d m k v) j = Tab.get d m j := by
  unfold Tab.set
  split
  · exact Tab.get_del_other d h m
  · exact Tab.get_put_other d v h m

/-! ### The canonical form -/

theorem Tab.sorted_mono {α : Type} {lo hi : Nat} (h : lo ≤ hi) : ∀ {m : Tab α}, Tab.sortedFrom hi m = true → Tab.sortedFrom lo m = true
  | [], _ => rfl
  | (a, _) :: t, hs => by
    simp only [Tab.sortedFrom, Bool.and_eq_true, decide_eq_true_eq] at hs ⊢
    exact ⟨Nat.le_trans h hs.1, hs.2⟩

theorem Tab.sorted_del {α : Type} (k : Nat) : ∀ {m : Tab α} {lo : Nat}, Tab.sortedFrom lo m = true → Tab.sortedFrom lo (Tab.del m k) = true
  | [], _, h => h
  | (a, v) :: t, lo, h => by
    simp only [Tab.sortedFrom, Bool.and_eq_true, decide_eq_true_eq] at h
    unfold Tab.del
    split
    · exact Tab.sorted_mono (by omega) (Tab.sorted_del k h.2)
    · simp only [Tab.sortedFrom, Bool.and_eq_true, decide_eq_true_eq]
      exact ⟨h.1, Tab.sorted_del k h.2⟩

theorem Tab.sorted_put {α : Type} {k : Nat} {v : α} : ∀ {m : Tab α} {lo : Nat}, lo ≤ k → Tab.sortedFrom lo m = true →
    Tab.sortedFrom lo (Tab.put m k v) = true
  | [], lo, hk, _ => by simp [Tab.put, Tab.sortedFrom, hk]
  | (a, w) :: t, lo, hk, h => by
    simp only [Tab.sortedFrom, Bool.and_eq_true, decide_eq_true_eq] at h
    unfold Tab.put
    split
    · simp only [Tab.sortedFrom, Bool.and_eq_true, decide_eq_true_eq]
      exact ⟨hk, by omega, h.2⟩
    · split
      · rename_i e
        simp only [Tab.sortedFrom, Bool.and_eq_true, decide_eq_true_eq]
        exact ⟨hk, e ▸ h.2⟩
      · simp only [Tab.sortedFrom, Bool.and_eq_true, decide_eq_true_eq]
        exact ⟨h.1, Tab.sorted_put (by omega) h.2⟩

theorem Tab.sorted_filter {α : Type} (p : Nat × α → Bool) : ∀ {m : Tab α} {lo : Nat}, Tab.sortedFrom lo m = true →
    Tab.sortedFrom lo (m.filter p) = true
  | [], _, h => h
  | (a, v) :: t, lo, h => by
    simp only [Tab.sortedFrom, Bool.and_eq_true, decide_eq_true_eq] at h
    have ht := Tab.sorted_filter p h.2
    rw [List.filter_cons]
    split
    · simp only [Tab.sortedFrom, Bool.and_eq_true, decide_eq_true_eq]
      exact ⟨h.1, ht⟩
    · exact Tab.sorted_mono (by omega) ht

theorem Tab.lean_del {α : Type} [DecidableEq α] {d : Nat → α} (k : Nat) : ∀ {m : Tab α}, Tab.lean d m = true → Tab.lean d (Tab.del m k) = true
  | [], h => h
  | (a, v) :: t, h => by
    simp only [Tab.lean, Bool.and_eq_true] at h
    unfold Tab.del
    split
    · exact Tab.lean_del k h.2
    · simp only [Tab.lean, Bool.and_eq_true]
      exact ⟨h.1, Tab.lean_del k h.2⟩

theorem Tab.lean_put {α : Type} [DecidableEq α] {d : Nat → α} {k : Nat} {v : α} (hv : v ≠ d k) : ∀ {m : Tab α}, Tab.lean d m = true →
    Tab.lean d (Tab.put m k v) = true
  | [], _ => by simp [Tab.put, Tab.lean, hv]
  | (a, w) :: t, h => by
    simp only [Tab.lean, Bool.and_eq_true] at h
    unfold Tab.put
    split
    · simp only [Tab.lean, Bool.and_eq_true, decide_eq_true_eq]
      exact ⟨hv, by simpa using h.1, h.2⟩
    · split
      · simp only [Tab.lean, Bool.and_eq_true, decide_eq_true_eq]
        exact ⟨hv, h.2⟩
      · simp only [Tab.lean, Bool.and_eq_true]
        exact ⟨h.1, Tab.lean_put hv h.2⟩

theorem Tab.lean_filter {α : Type} [DecidableEq α] {d : Nat → α} (p : Nat × α → Bool) : ∀ {m : Tab α}, Tab.lean d m = true →
    Tab.lean d (m.filter p) = true
  | [], h => h
  | (a, v) :: t, h => by
    simp only [Tab.lean, Bool.and_eq_true] at h
    rw [List.filter_cons]
    split
    · simp only [Tab.lean, Bool.and_eq_true]
      exact ⟨h.1, Tab.lean_filter p h.2⟩
    · exact Tab.lean_filter p h.2

/-- Setting a key keeps the canonical form. -/
theorem Tab.wf_set {α : Type} [DecidableEq α] {d : Nat → α} {m : Tab α} (k : Nat) (v : α) (h : Tab.wf d m = true) :
    Tab.wf d (Tab.set d m k v) = true := by
  unfold Tab.wf at h ⊢
  rw [Bool.and_eq_true] at h ⊢
  unfold Tab.set
  split
  · exact ⟨Tab.sorted_del k h.1, Tab.lean_del k h.2⟩
  · rename_i hv
    exact ⟨Tab.sorted_put (Nat.zero_le k) h.1, Tab.lean_put hv h.2⟩

/-- Dropping entries keeps the canonical form. -/
theorem Tab.wf_filter {α : Type} [DecidableEq α] {d : Nat → α} {m : Tab α} (p : Nat × α → Bool) (h : Tab.wf d m = true) :
    Tab.wf d (m.filter p) = true := by
  unfold Tab.wf at h ⊢
  rw [Bool.and_eq_true] at h ⊢
  exact ⟨Tab.sorted_filter p h.1, Tab.lean_filter p h.2⟩

/-! ### Memories -/

theorem Memory.wf_set {m : Tab Byte} (a : Nat) (x : Byte) (h : Memory.wf m = true) : Memory.wf (Tab.set memDefault m a x) = true :=
  Tab.wf_set a x h

theorem Memory.wf_filter {m : Tab Byte} (p : Nat × Byte → Bool) (h : Memory.wf m = true) : Memory.wf (m.filter p) = true :=
  Tab.wf_filter p h

/-- A write keeps the canonical form. -/
theorem Memory.wf_write : ∀ (xs : List Byte) {m : Tab Byte} {a : Nat}, Memory.wf m = true → Memory.wf (Memory.write m a xs) = true
  | [], _, _, h => h
  | x :: t, _, a, h => Memory.wf_write t (Memory.wf_set a x h)

/-- A fold of writes keeps the canonical form. -/
theorem Memory.wf_foldl {β : Type} {f : Tab Byte → β → Tab Byte} (hf : ∀ m x, Memory.wf m = true → Memory.wf (f m x) = true) :
    ∀ (l : List β) {m : Tab Byte}, Memory.wf m = true → Memory.wf (l.foldl f m) = true
  | [], _, h => h
  | x :: t, _, h => Memory.wf_foldl hf t (hf _ x h)

/-- A byte outside what was written reads as before. -/
theorem Memory.byte_write_other : ∀ (xs : List Byte) (m : Tab Byte) (a j : Nat), j < a ∨ a + xs.length ≤ j →
    Memory.byte (Memory.write m a xs) j = Memory.byte m j
  | [], _, _, _, _ => rfl
  | x :: t, m, a, j, h => by
    have hl : (x :: t).length = t.length + 1 := rfl
    show Memory.byte (Memory.write (Tab.set memDefault m a x) (a + 1) t) j = _
    rw [Memory.byte_write_other t _ (a + 1) j (by omega)]
    exact Tab.get_set_other memDefault m x (by omega)

/-- A byte written reads as what was written. -/
theorem Memory.byte_write_self : ∀ (xs : List Byte) (m : Tab Byte) (a i : Nat) (h : i < xs.length),
    Memory.byte (Memory.write m a xs) (a + i) = xs[i]
  | [], _, _, _, h => absurd h (Nat.not_lt_zero _)
  | x :: t, m, a, 0, _ => by
    show Memory.byte (Memory.write (Tab.set memDefault m a x) (a + 1) t) (a + 0) = x
    rw [Memory.byte_write_other t _ (a + 1) (a + 0) (by omega)]
    exact Tab.get_set_self memDefault m a x
  | x :: t, m, a, i + 1, h => by
    show Memory.byte (Memory.write (Tab.set memDefault m a x) (a + 1) t) (a + (i + 1)) = t[i]'(by simpa using h)
    have := Memory.byte_write_self t (Tab.set memDefault m a x) (a + 1) i (by simpa using h)
    rw [show a + (i + 1) = a + 1 + i by omega]
    exact this

end Sys2Proof.Laws
end

