-- ==== Sys2Proof/Laws/Legal.lean ====
section
/-!
SUPPORT. What keeps the invariant: whatever leaves the memories and the semaphores, and the operations on them.
-/
namespace Sys2Proof.Laws

open Sys2Proof Sys2Proof.Machine Sys2Proof.Safety

/-- A block with the same memories and semaphores. -/
theorem Legal.same {b c : Block} (h : Legal b) (hd : c.dev = b.dev) (hh : c.host = b.host) (hp : c.spm = b.spm) (hc : c.ssc = b.ssc)
    (hs : c.sems = b.sems) : Legal c := by
  unfold Legal memoriesCanonical semsLegal at *
  rw [hd, hh, hp, hc, hs]
  exact h

/-- A step that leaves the memories and the semaphores. -/
theorem Legal.keep {m : Nat} {a b : Block} (k : Keeps m a b) (hm : m &&& 1836032 = 0) (h : Legal a) : Legal b := by
  have key : ∀ p, (1836032 : Nat).testBit (idx p) = true → p.same a b := by
    intro p hp
    rcases k p with hb | hb
    · have : (m &&& 1836032).testBit (idx p) = true := by rw [Nat.testBit_and, hb, hp]; rfl
      rw [hm, Nat.zero_testBit] at this
      cases this
    · exact hb
  have hd := key .dev rfl
  have hh := key .host rfl
  have hs := key .sems rfl
  have hp := key .spaces rfl
  exact Legal.same h (Eq.symm hd) (Eq.symm hh) hp.1.symm hp.2.symm (Eq.symm hs)

theorem Legal.snd {α : Type} {b : Block} {n : α} {e : α × Block} (he : e = (n, b)) (h : Legal e.2) : Legal b := by
  rw [he] at h
  exact h

theorem Legal.foldl {α : Type} {f : Block → α → Block} (hf : ∀ b x, Legal b → Legal (f b x)) :
    ∀ (l : List α) {b : Block}, Legal b → Legal (l.foldl f b)
  | [], _, h => h
  | x :: t, b, h => Legal.foldl hf t (hf b x h)

theorem Legal.choice {x y : Block} {p : Prop} {i : Decidable p} (hx : p → Legal x) (hy : ¬p → Legal y) : Legal (@ite Block p i x y) := by
  split
  · exact hx ‹_›
  · exact hy ‹_›

theorem Legal.choice2 {α : Type} {x y : α × Block} {p : Prop} {i : Decidable p} (hx : p → Legal x.2) (hy : ¬p → Legal y.2) :
    Legal (@ite (α × Block) p i x y).2 := by
  split
  · exact hx ‹_›
  · exact hy ‹_›

/-! ### The wrappers of the rows -/

theorem core_legal {s t : State} {f : Block → Block} (hf : ∀ b, Legal b → Legal (f b)) (h : Legal s.blk) (e : s.core f = .next t) :
    Legal t.blk := by
  unfold State.core at e
  injection e with e
  subst e
  split
  · exact h
  · exact hf _ h

theorem link_legal {s t : State} {f : Block → Block} (hf : ∀ b, Legal b → Legal (f b)) (h : Legal s.blk) (e : s.link f = .next t) :
    Legal t.blk := by
  unfold State.link at e
  injection e with e
  subst e
  split
  · exact h
  · exact hf _ h

theorem aon_legal {s t : State} {f : Block → Block} (hf : ∀ b, Legal b → Legal (f b)) (h : Legal s.blk) (e : s.aon f = .next t) :
    Legal t.blk := by
  unfold State.aon at e
  injection e with e
  subst e
  exact hf _ h

/-! ### The memories and the semaphores -/

/-- New memories in canonical form. -/
theorem Legal.mems {b c : Block} (h : Legal b) (hd : Memory.wf b.dev = true → Memory.wf c.dev = true)
    (hh : Memory.wf b.host = true → Memory.wf c.host = true) (hp : Memory.wf b.spm = true → Memory.wf c.spm = true)
    (hc : Memory.wf b.ssc = true → Memory.wf c.ssc = true) (hs : c.sems = b.sems) : Legal c := by
  unfold Legal memoriesCanonical semsLegal at *
  simp only [Bool.and_eq_true] at h ⊢
  rw [hs]
  exact ⟨⟨⟨⟨hd h.1.1.1.1, hh h.1.1.1.2⟩, hp h.1.1.2⟩, hc h.1.2⟩, h.2⟩

/-- Semaphores fewer than before. -/
theorem Legal.semsOf {b c : Block} (h : Legal b) (hd : c.dev = b.dev) (hh : c.host = b.host) (hp : c.spm = b.spm) (hc : c.ssc = b.ssc)
    (hs : ∀ kv ∈ c.sems, kv ∈ b.sems ∨ kv.2 = 1 ∨ kv.2 = 2) : Legal c := by
  unfold Legal memoriesCanonical semsLegal at *
  rw [hd, hh, hp, hc]
  refine ⟨h.1, ?_⟩
  simp only [List.all_eq_true, Bool.or_eq_true, decide_eq_true_eq] at h ⊢
  intro kv hk
  rcases hs kv hk with hk | hk
  · exact h.2 kv hk
  · exact hk

theorem Tab.mem_del {α : Type} {k : Nat} {x : Nat × α} : ∀ {m : Tab α}, x ∈ Tab.del m k → x ∈ m
  | [], h => h
  | (a, v) :: t, h => by
    unfold Tab.del at h
    split at h
    · exact List.mem_cons_of_mem _ (Tab.mem_del h)
    · rcases List.mem_cons.1 h with h | h
      · exact h ▸ List.mem_cons_self
      · exact List.mem_cons_of_mem _ (Tab.mem_del h)

theorem Tab.mem_put {α : Type} {k : Nat} {v : α} {x : Nat × α} : ∀ {m : Tab α}, x ∈ Tab.put m k v → x ∈ m ∨ x = (k, v)
  | [], h => .inr (List.mem_singleton.1 h)
  | (a, w) :: t, h => by
    unfold Tab.put at h
    split at h
    · rcases List.mem_cons.1 h with h | h
      · exact .inr h
      · exact .inl h
    · split at h
      · rcases List.mem_cons.1 h with h | h
        · exact .inr h
        · exact .inl (List.mem_cons_of_mem _ h)
      · rcases List.mem_cons.1 h with h | h
        · exact .inl (h ▸ List.mem_cons_self)
        · rcases Tab.mem_put h with h | h
          · exact .inl (List.mem_cons_of_mem _ h)
          · exact .inr h

/-- An entry after a set is an entry of before or the one set. -/
theorem Tab.mem_set {α : Type} [DecidableEq α] {d : Nat → α} {m : Tab α} {k : Nat} {v : α} {x : Nat × α} (h : x ∈ Tab.set d m k v) :
    x ∈ m ∨ (x = (k, v) ∧ v ≠ d k) := by
  unfold Tab.set at h
  split at h
  · exact .inl (Tab.mem_del h)
  · rcases Tab.mem_put h with h | h
    · exact .inl h
    · exact .inr ⟨h, ‹_›⟩

/-- A semaphore freed, or taken by a port. -/
theorem Block.setSem_legal {b : Block} {k v : Nat} (hv : v = 0 ∨ v = 1 ∨ v = 2) (h : Legal b) : Legal (b.setSem k v) := by
  refine Legal.semsOf h rfl rfl rfl rfl ?_
  intro kv hk
  have hk' : kv ∈ Tab.set (fun _ => 0) b.sems k v := hk
  rcases Tab.mem_set hk' with hk | ⟨hk, hn⟩
  · exact .inl hk
  · rcases hv with hv | hv
    · exact absurd hv hn
    · rw [hk]
      exact .inr hv

end Sys2Proof.Laws
end

