-- ==== Sys2Proof/Laws/Keep1.lean ====
section
/-!
SUPPORT. Each operation and each row keeps the invariant. Part 1 of 3.
-/
namespace Sys2Proof.Laws

open Sys2Proof Sys2Proof.Machine Sys2Proof.Safety

theorem Block.setEpoch_legal {b ctx list ep} (h : Legal b) : Legal (Block.setEpoch b ctx list ep) :=
  Legal.keep (Block.setEpoch_keeps (sub_refl _) (Keeps.refl _ _)) rfl h

theorem Block.syncBps_legal {b} (h : Legal b) : Legal (Block.syncBps b) :=
  Legal.keep (Block.syncBps_keeps (sub_refl _) (Keeps.refl _ _)) rfl h

theorem Block.reapVersions_legal {b} (h : Legal b) : Legal (Block.reapVersions b) :=
  Legal.keep (Block.reapVersions_keeps (sub_refl _) (Keeps.refl _ _)) rfl h

theorem Block.dropVersion_legal {b ctx list ep} (h : Legal b) : Legal (Block.dropVersion b ctx list ep) :=
  Legal.keep (Block.dropVersion_keeps (sub_refl _) (Keeps.refl _ _)) rfl h

theorem Block.mapCmds_legal {b p f} (h : Legal b) : Legal (Block.mapCmds b p f) :=
  Legal.keep (Block.mapCmds_keeps (sub_refl _) (Keeps.refl _ _)) rfl h

theorem Block.modCmd_legal {b q i f} (h : Legal b) : Legal (Block.modCmd b q i f) :=
  Legal.keep (Block.modCmd_keeps (sub_refl _) (Keeps.refl _ _)) rfl h

theorem Block.dropLoadOf_legal {b c} (h : Legal b) : Legal (Block.dropLoadOf b c) :=
  Legal.keep (Block.dropLoadOf_keeps (sub_refl _) (Keeps.refl _ _)) rfl h

theorem Block.setRunning_legal {b q i} (h : Legal b) : Legal (Block.setRunning b q i) :=
  Legal.keep (Block.setRunning_keeps (sub_refl _) (Keeps.refl _ _)) rfl h

theorem Block.ccMod_legal {b f} (h : Legal b) : Legal (Block.ccMod b f) :=
  Legal.keep (Block.ccMod_keeps (sub_refl _) (Keeps.refl _ _)) rfl h

theorem Block.putLine_legal {b line data mask} (h : Legal b) : Legal (Block.putLine b line data mask) := by
  refine Legal.mems h (fun hd => ?_) id id id rfl
  refine Memory.wf_foldl (fun m k hm => ?_) _ hd
  split
  · exact Memory.wf_set _ _ hm
  · exact hm

theorem Block.ccSend_legal {b ms} (h : Legal b) : Legal (Block.ccSend b ms) :=
  Legal.keep (Block.ccSend_keeps (sub_refl _) (Keeps.refl _ _)) rfl h

theorem Block.freeDir_legal {b line} (h : Legal b) : Legal (Block.freeDir b line) :=
  Legal.keep (Block.freeDir_keeps (sub_refl _) (Keeps.refl _ _)) rfl h

theorem Block.setDir_legal {b d} (h : Legal b) : Legal (Block.setDir b d) :=
  Legal.keep (Block.setDir_keeps (sub_refl _) (Keeps.refl _ _)) rfl h

theorem Block.dropHolder_legal {b line a} (h : Legal b) : Legal (Block.dropHolder b line a) :=
  Legal.keep (Block.dropHolder_keeps (sub_refl _) (Keeps.refl _ _)) rfl h

theorem Block.ccAbsorb_legal {b line agents} (h : Legal b) :
    Legal (Block.ccAbsorb b line agents) := by
  unfold Block.ccAbsorb
  refine Legal.foldl (fun b x h => ?_) _ ?_
  · extract_lets z0 z1
    have h2 : Legal z0 := by
      subst z0
      exact (Block.ccMod_legal h)
    have h3 : Legal z1 := by
      subst z1
      refine Legal.choice (fun h4 => ?_) (fun h4 => ?_)
      · exact (Block.putLine_legal h2)
      · exact h2
    exact (Block.ccSend_legal (Block.dropHolder_legal h3))
  · exact h

theorem Block.ccEnd_legal {b line} (h : Legal b) : Legal (Block.ccEnd b line) :=
  Legal.keep (Block.ccEnd_keeps (sub_refl _) (Keeps.refl _ _)) rfl h

theorem Block.modTxn_legal {b line f} (h : Legal b) : Legal (Block.modTxn b line f) :=
  Legal.keep (Block.modTxn_keeps (sub_refl _) (Keeps.refl _ _)) rfl h

theorem Block.ccGrant_legal {b t} (h : Legal b) :
    Legal (Block.ccGrant b t) := by
  unfold Block.ccGrant
  extract_lets z0 z1 z2 z3 z4 z5
  subst z1
  subst z2
  have h6 : Legal z3 := by
    subst z3
    exact (Block.putLine_legal h)
  have h7 : Legal z5 := by
    subst z5
    refine Legal.choice (fun h8 => ?_) (fun h8 => ?_)
    · exact h
    · clear_value z4
      clear_value z3
      clear_value z0
      split
      · rename_i y9 y10
        split
        · rename_i y11 y12
          dsimp -zeta only
          exact (Block.ccSend_legal (Block.setDir_legal h))
        · rename_i y13 y14 y15
          dsimp -zeta only
          exact (Block.ccSend_legal (Block.setDir_legal h))
      · rename_i y16 y17
        dsimp -zeta only
        exact (Block.ccSend_legal (Block.setDir_legal h))
      · rename_i y18 y19
        dsimp -zeta only
        exact (Block.ccSend_legal h)
      · rename_i y20 y21
        dsimp -zeta only
        refine Legal.choice (fun h22 => ?_) (fun h22 => ?_)
        · refine Legal.choice (fun h23 => ?_) (fun h23 => ?_)
          · exact (Block.setDir_legal h6)
          · exact (Block.freeDir_legal h6)
        · refine Block.ccSend_legal ?_
          refine Legal.choice (fun h24 => ?_) (fun h24 => ?_)
          · exact (Block.setDir_legal h6)
          · exact (Block.freeDir_legal h6)
      · rename_i y25 y26
        dsimp -zeta only
        refine Legal.choice (fun h27 => ?_) (fun h27 => ?_)
        · exact (Block.freeDir_legal (Block.putLine_legal h))
        · exact (Block.ccSend_legal (Block.freeDir_legal (Block.putLine_legal h)))
      · rename_i y28 y29
        dsimp -zeta only
        refine Legal.choice (fun h30 => ?_) (fun h30 => ?_)
        · exact (Block.dropHolder_legal h)
        · exact (Block.ccSend_legal (Block.dropHolder_legal h))
      · rename_i y31 y32
        dsimp -zeta only
        refine Legal.choice (fun h33 => ?_) (fun h33 => ?_)
        · exact (Block.freeDir_legal (Block.putLine_legal h))
        · exact (Block.ccSend_legal (Block.freeDir_legal (Block.putLine_legal h)))
      · rename_i y34 y35 y36 y37 y38 y39 y40 y41
        exact (Block.freeDir_legal h)
  exact (Block.ccEnd_legal (Block.modTxn_legal h7))

theorem Block.ccBegin_legal {b m} (h : Legal b) :
    Legal (Block.ccBegin b m) := by
  unfold Block.ccBegin
  extract_lets z0 z1 z2 z3
  have h4 : Legal z0 := by
    subst z0
    exact (Block.ccAbsorb_legal h)
  have h5 : Legal z3 := by
    subst z3
    exact (Block.ccMod_legal h4)
  refine Legal.choice (fun h6 => ?_) (fun h6 => ?_)
  · exact (Block.ccGrant_legal h5)
  · exact (Block.ccSend_legal h5)

theorem Block.setReg_legal {b a v} (h : Legal b) : Legal (Block.setReg b a v) :=
  Legal.keep (Block.setReg_keeps (sub_refl _) (Keeps.refl _ _)) rfl h

theorem Block.setField_legal {b a hi lo v} (h : Legal b) : Legal (Block.setField b a hi lo v) :=
  Legal.keep (Block.setField_keeps (sub_refl _) (Keeps.refl _ _)) rfl h

theorem Block.count_legal {b a hi lo k} (h : Legal b) : Legal (Block.count b a hi lo k) :=
  Legal.keep (Block.count_keeps (sub_refl _) (Keeps.refl _ _)) rfl h

theorem Block.count32_legal {b a} (h : Legal b) : Legal (Block.count32 b a) :=
  Legal.keep (Block.count32_keeps (sub_refl _) (Keeps.refl _ _)) rfl h

theorem Block.ccStart_legal {b b' : Block} {m' : Msg} (h : Legal b) (e : b.ccStart m' = some b') : Legal b' := by
  unfold Block.ccStart at e
  split at e
  · injection e with e
    subst e
    exact Block.ccBegin_legal (Block.ccMod_legal h)
  · split at e
    · cases e
    · cases hv : b.victim m'.line with
      | none => rw [hv] at e; cases e
      | some d =>
        rw [hv] at e
        injection e with e
        subst e
        exact Block.ccBegin_legal (Block.count32_legal h)

theorem Block.ccMove_legal {b b' : Block} (h : Legal b) (e : b.ccMove = some b') : Legal b' := by
  unfold Block.ccMove at e
  obtain ⟨_, m', _, _, he, _⟩ := List.findSome?_eq_some_iff.1 e
  exact Block.ccStart_legal h he

theorem Block.ccPump_legal  : ∀ {n : Nat} {b : Block}, Legal b → Legal (Block.ccPump n b)
  | 0, _, h => h
  | n + 1, b, h => by
    unfold Block.ccPump
    split
    · exact h
    · rename_i e
      exact Block.ccPump_legal (Block.ccMove_legal h e)

theorem Block.ccGo_legal {b} (h : Legal b) :
    Legal (Block.ccGo b) := by
  unfold Block.ccGo
  exact (Block.ccPump_legal h)

theorem Block.ccRequest_legal {b m} (h : Legal b) :
    Legal (Block.ccRequest b m) := by
  unfold Block.ccRequest
  exact (Block.ccGo_legal (Block.ccMod_legal h))

theorem Block.homeAsk_legal {b ps} (h : Legal b) :
    Legal (Block.homeAsk b ps) := by
  unfold Block.homeAsk
  refine Legal.foldl (fun b x h => ?_) _ ?_
  · refine Legal.choice (fun h0 => ?_) (fun h0 => ?_)
    · exact h
    · exact (Block.ccRequest_legal h)
  · exact h

theorem Block.atHome_legal {b q i m go} (h : Legal b) (h1 : Legal go) :
    Legal (Block.atHome b q i m go) := by
  unfold Block.atHome
  split
  · rename_i y0 y1
    refine Legal.choice (fun h2 => ?_) (fun h2 => ?_)
    · exact (Block.setRunning_legal (Block.homeAsk_legal h))
    · exact h1
  · rename_i y3 y4
    exact h1

theorem Block.leaveFaults_legal {b a} (h : Legal b) : Legal (Block.leaveFaults b a) :=
  Legal.keep (Block.leaveFaults_keeps (sub_refl _) (Keeps.refl _ _)) rfl h

theorem Block.dropPlacing_legal {b q i} (h : Legal b) : Legal (Block.dropPlacing b q i) :=
  Legal.keep (Block.dropPlacing_keeps (sub_refl _) (Keeps.refl _ _)) rfl h

theorem Block.dropCmdWaits_legal {b q i} (h : Legal b) : Legal (Block.dropCmdWaits b q i) :=
  Legal.keep (Block.dropCmdWaits_keeps (sub_refl _) (Keeps.refl _ _)) rfl h

theorem Block.setEng_legal {b e v} (h : Legal b) : Legal (Block.setEng b e v) :=
  Legal.keep (Block.setEng_keeps (sub_refl _) (Keeps.refl _ _)) rfl h

theorem Block.ungate_legal {b e} (h : Legal b) : Legal (Block.ungate b e) :=
  Legal.keep (Block.ungate_keeps (sub_refl _) (Keeps.refl _ _)) rfl h

theorem Block.dropEngWait_legal {b e} (h : Legal b) : Legal (Block.dropEngWait b e) :=
  Legal.keep (Block.dropEngWait_keeps (sub_refl _) (Keeps.refl _ _)) rfl h

theorem Block.releaseEng_legal {b e} (h : Legal b) : Legal (Block.releaseEng b e) :=
  Legal.keep (Block.releaseEng_keeps (sub_refl _) (Keeps.refl _ _)) rfl h

theorem Block.releaseEngs_legal {b es} (h : Legal b) : Legal (Block.releaseEngs b es) :=
  Legal.keep (Block.releaseEngs_keeps (sub_refl _) (Keeps.refl _ _)) rfl h

theorem Block.dropPins_legal {b ids} (h : Legal b) : Legal (Block.dropPins b ids) :=
  Legal.keep (Block.dropPins_keeps (sub_refl _) (Keeps.refl _ _)) rfl h

theorem Block.removeCmd_legal {b c} (h : Legal b) : Legal (Block.removeCmd b c) :=
  Legal.keep (Block.removeCmd_keeps (sub_refl _) (Keeps.refl _ _)) rfl h

theorem Block.setQueue_legal {b q v} (h : Legal b) : Legal (Block.setQueue b q v) :=
  Legal.keep (Block.setQueue_keeps (sub_refl _) (Keeps.refl _ _)) rfl h

theorem Block.discard_legal {b q mark} (h : Legal b) : Legal (Block.discard b q mark) :=
  Legal.keep (Block.discard_keeps (sub_refl _) (Keeps.refl _ _)) rfl h

theorem Block.clearMarks_legal {b ps} (h : Legal b) : Legal (Block.clearMarks b ps) :=
  Legal.keep (Block.clearMarks_keeps (sub_refl _) (Keeps.refl _ _)) rfl h

theorem Block.putByte_legal {b p x} (h : Legal b) : Legal (Block.putByte b p x) := by
  unfold Block.putByte
  split
  · exact Legal.mems h (Memory.wf_set _ _) id id id rfl
  · exact Legal.mems h id (Memory.wf_set _ _) id id rfl

theorem Block.putBytes_legal {b ps xs} (h : Legal b) :
    Legal (Block.putBytes b ps xs) := by
  unfold Block.putBytes
  refine Block.clearMarks_legal ?_
  refine Legal.foldl (fun b x h => ?_) _ ?_
  · refine Block.putByte_legal ?_
    exact h
  · exact h

theorem Block.writeHome_legal {b b' : Block} {c va : Nat} {xs : List Byte} {need : Nat} (h : Legal b)
    (e : b.writeHome c va xs need = .ok b') : Legal b' := by
  unfold Block.writeHome at e
  cases hr : b.resolveN c need true va xs.length <;> rw [hr] at e
  case ok ps =>
    have e : (if b.homeHolds ps then MRes.wait else MRes.ok (b.putBytes ps xs)) = .ok b' := e
    split at e
    · cases e
    · injection e with e
      subst e
      exact Block.putBytes_legal h
  all_goals cases e

theorem Block.writeStatus_legal {b b' : Block} {q i st : Nat} (h : Legal b)
    (e : b.writeStatus q i st = .ok b') : Legal b' :=
  Block.writeHome_legal h e

theorem Block.askAts_legal {b pasid va who log2} (h : Legal b) : Legal (Block.askAts b pasid va who log2) :=
  Legal.keep (Block.askAts_keeps (sub_refl _) (Keeps.refl _ _)) rfl h

theorem Block.markOne_legal {b q i} (h : Legal b) :
    Legal (Block.markOne b q i).2 := by
  unfold Block.markOne
  split
  · rename_i y0 y1 y2
    have h3 := Block.writeStatus_legal h y2
    dsimp -zeta only
    exact h3
  · rename_i y4 y5 y6
    dsimp -zeta only
    exact h
  · rename_i y8 y9 y10 y11
    dsimp -zeta only
    exact h
  · rename_i y13 y14 y15 y16
    dsimp -zeta only
    exact (Block.askAts_legal h)
  · rename_i y18 y19
    dsimp -zeta only
    exact h
  · rename_i y21 y22 y23
    dsimp -zeta only
    exact h
  · rename_i y25 y26 y27
    dsimp -zeta only
    exact h

theorem Block.markN_legal {q : Nat} : ∀ {n : Nat} {b : Block}, Legal b → Legal (Block.markN q n b)
  | 0, _, h => h
  | n + 1, b, h => by
    unfold Block.markN
    split
    · exact h
    · extract_lets r
      have hr : Legal r.2 := by
        subst r
        exact Block.markOne_legal h
      split
      · exact Block.markN_legal (Block.setQueue_legal hr)
      · exact hr

theorem Block.settleHalt_legal {b q} (h : Legal b) :
    Legal (Block.settleHalt b q) := by
  unfold Block.settleHalt
  extract_lets z0 z1
  have h2 : Legal z0 := by
    subst z0
    exact (Block.markN_legal h)
  clear_value z1
  clear_value z0
  split
  · rename_i y3 y4 y5
    refine Legal.choice (fun h6 => ?_) (fun h6 => ?_)
    · exact (Block.setQueue_legal h2)
    · exact h2
  · rename_i y7 y8
    exact h2

theorem Block.setPort_legal {b p v} (h : Legal b) : Legal (Block.setPort b p v) :=
  Legal.keep (Block.setPort_keeps (sub_refl _) (Keeps.refl _ _)) rfl h

theorem Block.mirror_legal {b idx r} (h : Legal b) : Legal (Block.mirror b idx r) :=
  Legal.keep (Block.mirror_keeps (sub_refl _) (Keeps.refl _ _)) rfl h

theorem Block.requestStop_legal {b cause} (h : Legal b) : Legal (Block.requestStop b cause) :=
  Legal.keep (Block.requestStop_keeps (sub_refl _) (Keeps.refl _ _)) rfl h

theorem Block.cinderPut_legal {b typ r own} (h : Legal b) : Legal (Block.cinderPut b typ r own) :=
  Legal.keep (Block.cinderPut_keeps (sub_refl _) (Keeps.refl _ _)) rfl h

theorem Block.cinderRec_legal {b typ code ctx data} (h : Legal b) : Legal (Block.cinderRec b typ code ctx data) :=
  Legal.keep (Block.cinderRec_keeps (sub_refl _) (Keeps.refl _ _)) rfl h

theorem Block.fixDeadlines_legal {b} (h : Legal b) : Legal (Block.fixDeadlines b) :=
  Legal.keep (Block.fixDeadlines_keeps (sub_refl _) (Keeps.refl _ _)) rfl h

theorem Block.haltQueue_legal {b q i code} (h : Legal b) :
    Legal (Block.haltQueue b q i code) := by
  unfold Block.haltQueue
  extract_lets z0 z1 z2 z3 z4 z5
  have h6 : Legal z1 := by
    subst z1
    exact (Block.discard_legal h)
  have h7 : Legal z3 := by
    subst z3
    refine Block.setQueue_legal ?_
    clear_value z5
    clear_value z4
    clear_value z2
    clear_value z1
    clear_value z0
    exact Legal.same h6 rfl rfl rfl rfl rfl
  have h8 : Legal z4 := by
    subst z4
    exact (Block.settleHalt_legal h7)
  have h9 : Legal z5 := by
    subst z5
    exact (Block.cinderRec_legal h8)
  refine Legal.choice (fun h10 => ?_) (fun h10 => ?_)
  · exact h
  · exact (Block.fixDeadlines_legal h9)

theorem Block.clearQueues_legal {b es} (h : Legal b) : Legal (Block.clearQueues b es) :=
  Legal.keep (Block.clearQueues_keeps (sub_refl _) (Keeps.refl _ _)) rfl h

theorem Block.dropLane_legal {b w} (h : Legal b) : Legal (Block.dropLane b w) :=
  Legal.keep (Block.dropLane_keeps (sub_refl _) (Keeps.refl _ _)) rfl h

theorem Block.endCmd_legal {b q i st} (h : Legal b) : Legal (Block.endCmd b q i st) :=
  Legal.keep (Block.endCmd_keeps (sub_refl _) (Keeps.refl _ _)) rfl h

theorem Block.settleCmd_legal {b q i} (h : Legal b) : Legal (Block.settleCmd b q i) :=
  Legal.keep (Block.settleCmd_keeps (sub_refl _) (Keeps.refl _ _)) rfl h

theorem Block.drainEng_legal {b e} (h : Legal b) : Legal (Block.drainEng b e) :=
  Legal.keep (Block.drainEng_keeps (sub_refl _) (Keeps.refl _ _)) rfl h

theorem Block.cancelCmd_legal {b q i st} (h : Legal b) : Legal (Block.cancelCmd b q i st) :=
  Legal.keep (Block.cancelCmd_keeps (sub_refl _) (Keeps.refl _ _)) rfl h

theorem Block.pushRec_legal {b r} (h : Legal b) : Legal (Block.pushRec b r) :=
  Legal.keep (Block.pushRec_keeps (sub_refl _) (Keeps.refl _ _)) rfl h

theorem Block.msix_legal {b pg} (h : Legal b) : Legal (Block.msix b pg) :=
  Legal.keep (Block.msix_keeps (sub_refl _) (Keeps.refl _ _)) rfl h

theorem Block.raiseBit_legal {b pg k ctx d0 d1 inj path off} (h : Legal b) : Legal (Block.raiseBit b pg k ctx d0 d1 inj path off) :=
  Legal.keep (Block.raiseBit_keeps (sub_refl _) (Keeps.refl _ _)) rfl h

theorem Block.event_legal {b pg k ctx d0 d1} (h : Legal b) : Legal (Block.event b pg k ctx d0 d1) :=
  Legal.keep (Block.event_keeps (sub_refl _) (Keeps.refl _ _)) rfl h

theorem Block.setCtx_legal {b c v} (h : Legal b) : Legal (Block.setCtx b c v) :=
  Legal.keep (Block.setCtx_keeps (sub_refl _) (Keeps.refl _ _)) rfl h

theorem Block.setSlot_legal {b s v} (h : Legal b) : Legal (Block.setSlot b s v) :=
  Legal.keep (Block.setSlot_keeps (sub_refl _) (Keeps.refl _ _)) rfl h

theorem Block.dropBounds_legal {b p} (h : Legal b) : Legal (Block.dropBounds b p) :=
  Legal.keep (Block.dropBounds_keeps (sub_refl _) (Keeps.refl _ _)) rfl h

theorem Block.setHarness_legal {b h' v} (h : Legal b) : Legal (Block.setHarness b h' v) :=
  Legal.keep (Block.setHarness_keeps (sub_refl _) (Keeps.refl _ _)) rfl h

theorem Block.ledgerTerm_legal {b f} (h : Legal b) : Legal (Block.ledgerTerm b f) :=
  Legal.keep (Block.ledgerTerm_keeps (sub_refl _) (Keeps.refl _ _)) rfl h

theorem Block.sigDrop_legal {b win} (h : Legal b) : Legal (Block.sigDrop b win) :=
  Legal.keep (Block.sigDrop_keeps (sub_refl _) (Keeps.refl _ _)) rfl h

theorem Block.modTask_legal {b ctx id f} (h : Legal b) : Legal (Block.modTask b ctx id f) :=
  Legal.keep (Block.modTask_keeps (sub_refl _) (Keeps.refl _ _)) rfl h

theorem Block.cancelItem_legal {b ctx id st} (h : Legal b) : Legal (Block.cancelItem b ctx id st) :=
  Legal.keep (Block.cancelItem_keeps (sub_refl _) (Keeps.refl _ _)) rfl h

theorem Block.unbindTask_legal {b ctx id} (h : Legal b) : Legal (Block.unbindTask b ctx id) :=
  Legal.keep (Block.unbindTask_keeps (sub_refl _) (Keeps.refl _ _)) rfl h

theorem Block.settleTask_legal {b ctx id} (h : Legal b) : Legal (Block.settleTask b ctx id) :=
  Legal.keep (Block.settleTask_keeps (sub_refl _) (Keeps.refl _ _)) rfl h

theorem Block.snuffWaiter_legal {b w} (h : Legal b) : Legal (Block.snuffWaiter b w) :=
  Legal.keep (Block.snuffWaiter_keeps (sub_refl _) (Keeps.refl _ _)) rfl h

theorem Block.snuff_legal {b s} (h : Legal b) : Legal (Block.snuff b s) :=
  Legal.keep (Block.snuff_keeps (sub_refl _) (Keeps.refl _ _)) rfl h

theorem Block.snuffSigs_legal {b ctx l} (h : Legal b) : Legal (Block.snuffSigs b ctx l) :=
  Legal.keep (Block.snuffSigs_keeps (sub_refl _) (Keeps.refl _ _)) rfl h

theorem Block.abortCmd_legal {b q i st} (h : Legal b) : Legal (Block.abortCmd b q i st) :=
  Legal.keep (Block.abortCmd_keeps (sub_refl _) (Keeps.refl _ _)) rfl h

theorem Block.restatus_legal {b q i st} (h : Legal b) : Legal (Block.restatus b q i st) :=
  Legal.keep (Block.restatus_keeps (sub_refl _) (Keeps.refl _ _)) rfl h

theorem Block.loseCmd_legal {b x st} (h : Legal b) : Legal (Block.loseCmd b x st) :=
  Legal.keep (Block.loseCmd_keeps (sub_refl _) (Keeps.refl _ _)) rfl h

theorem Block.loseCmds_legal {b c code cause} (h : Legal b) : Legal (Block.loseCmds b c code cause) :=
  Legal.keep (Block.loseCmds_keeps (sub_refl _) (Keeps.refl _ _)) rfl h

theorem Block.abortItem_legal {b ctx id st} (h : Legal b) : Legal (Block.abortItem b ctx id st) :=
  Legal.keep (Block.abortItem_keeps (sub_refl _) (Keeps.refl _ _)) rfl h

theorem Block.abortTask_legal {b ctx id} (h : Legal b) : Legal (Block.abortTask b ctx id) :=
  Legal.keep (Block.abortTask_keeps (sub_refl _) (Keeps.refl _ _)) rfl h

theorem Block.dropCommits_legal {b p} (h : Legal b) : Legal (Block.dropCommits b p) :=
  Legal.keep (Block.dropCommits_keeps (sub_refl _) (Keeps.refl _ _)) rfl h

theorem Block.modPort_legal {b p f} (h : Legal b) : Legal (Block.modPort b p f) :=
  Legal.keep (Block.modPort_keeps (sub_refl _) (Keeps.refl _ _)) rfl h

theorem Block.sendFrames_legal {b p l} (h : Legal b) : Legal (Block.sendFrames b p l) :=
  Legal.keep (Block.sendFrames_keeps (sub_refl _) (Keeps.refl _ _)) rfl h

theorem Block.errLate_legal {b p payload} (h : Legal b) : Legal (Block.errLate b p payload) :=
  Legal.keep (Block.errLate_keeps (sub_refl _) (Keeps.refl _ _)) rfl h

theorem Block.sendErr_legal {b p typ payload} (h : Legal b) : Legal (Block.sendErr b p typ payload) :=
  Legal.keep (Block.sendErr_keeps (sub_refl _) (Keeps.refl _ _)) rfl h

theorem Block.postErr_legal {b abort job code} (h : Legal b) : Legal (Block.postErr b abort job code) :=
  Legal.keep (Block.postErr_keeps (sub_refl _) (Keeps.refl _ _)) rfl h

theorem Block.loseCtx_legal {b c code cause fromAbort} (h : Legal b) :
    Legal (Block.loseCtx b c code cause fromAbort) := by
  unfold Block.loseCtx
  extract_lets z0 z1 z2 z3 z4 z5 z6 z7 z8 z9 z10 z11 z12
  have h13 : Legal z1 := by
    subst z1
    clear_value z12
    clear_value z11
    clear_value z10
    clear_value z9
    clear_value z8
    clear_value z7
    clear_value z6
    clear_value z5
    clear_value z4
    clear_value z3
    clear_value z2
    clear_value z0
    split
    · rename_i y14 y15 y16
      exact (Block.haltQueue_legal (Block.cancelCmd_legal h))
    · rename_i y17
      exact h
  have h18 : Legal z3 := by
    subst z3
    exact (Block.setCtx_legal h)
  have h19 : Legal z4 := by
    subst z4
    clear_value z12
    clear_value z11
    clear_value z10
    clear_value z9
    clear_value z8
    clear_value z7
    clear_value z6
    clear_value z5
    clear_value z3
    clear_value z2
    clear_value z1
    clear_value z0
    exact Legal.same h18 rfl rfl rfl rfl rfl
  have h20 : Legal z5 := by
    subst z5
    exact (Block.loseCmds_legal h19)
  have h21 : Legal z6 := by
    subst z6
    refine Legal.foldl (fun b x h => ?_) _ ?_
    · refine Block.abortTask_legal ?_
      exact h
    · exact h20
  have h22 : Legal z7 := by
    subst z7
    refine Legal.foldl (fun b x h => ?_) _ ?_
    · refine Block.snuff_legal ?_
      exact h
    · exact h21
  have h23 : Legal z8 := by
    subst z8
    exact (Block.dropCommits_legal (Block.dropBounds_legal h22))
  have h24 : Legal z9 := by
    subst z9
    exact (Block.cinderRec_legal h23)
  have h25 : Legal z10 := by
    subst z10
    exact (Block.event_legal h24)
  have h26 : Legal z11 := by
    subst z11
    exact (Block.count_legal h25)
  have h27 : Legal z12 := by
    subst z12
    refine Legal.choice (fun h28 => ?_) (fun h28 => ?_)
    · exact (Block.postErr_legal h26)
    · exact h26
  refine Legal.choice (fun h29 => ?_) (fun h29 => ?_)
  · exact (Block.event_legal h13)
  · refine Legal.choice (fun h30 => ?_) (fun h30 => ?_)
    · exact h
    · exact (Block.fixDeadlines_legal h27)

theorem Block.faultCmd_legal {b c x va len st} (h : Legal b) :
    Legal (Block.faultCmd b c x va len st) := by
  unfold Block.faultCmd
  refine Legal.choice (fun h0 => ?_) (fun h0 => ?_)
  · exact (Block.loseCtx_legal (Block.endCmd_legal h))
  · exact (Block.endCmd_legal h)

theorem Block.notePoison_legal {b ctx a consumed} (h : Legal b) : Legal (Block.notePoison b ctx a consumed) :=
  Legal.keep (Block.notePoison_keeps (sub_refl _) (Keeps.refl _ _)) rfl h

theorem Block.poisonCmd_legal {b c a consumed} (h : Legal b) :
    Legal (Block.poisonCmd b c a consumed) := by
  unfold Block.poisonCmd
  exact (Block.loseCtx_legal (Block.endCmd_legal (Block.notePoison_legal h)))

theorem Block.modFault_legal {b c page f} (h : Legal b) : Legal (Block.modFault b c page f) :=
  Legal.keep (Block.modFault_keeps (sub_refl _) (Keeps.refl _ _)) rfl h

theorem Block.joinWait_legal {b ctx va a} (h : Legal b) : Legal (Block.joinWait b ctx va a) :=
  Legal.keep (Block.joinWait_keeps (sub_refl _) (Keeps.refl _ _)) rfl h

theorem Block.modMap_legal {b id f} (h : Legal b) : Legal (Block.modMap b id f) :=
  Legal.keep (Block.modMap_keeps (sub_refl _) (Keeps.refl _ _)) rfl h

theorem Block.setPage_legal {b id n x} (h : Legal b) : Legal (Block.setPage b id n x) :=
  Legal.keep (Block.setPage_keeps (sub_refl _) (Keeps.refl _ _)) rfl h

theorem Block.endAdvice_legal {b c page ok} (h : Legal b) : Legal (Block.endAdvice b c page ok) :=
  Legal.keep (Block.endAdvice_keeps (sub_refl _) (Keeps.refl _ _)) rfl h

theorem Block.fillTlb_legal {b e ctx va} (h : Legal b) : Legal (Block.fillTlb b e ctx va) :=
  Legal.keep (Block.fillTlb_keeps (sub_refl _) (Keeps.refl _ _)) rfl h

theorem Block.handOver_legal {b e va} (h : Legal b) : Legal (Block.handOver b e va) :=
  Legal.keep (Block.handOver_keeps (sub_refl _) (Keeps.refl _ _)) rfl h

theorem Block.progress_legal {b q i} (h : Legal b) : Legal (Block.progress b q i) :=
  Legal.keep (Block.progress_keeps (sub_refl _) (Keeps.refl _ _)) rfl h

theorem Block.progressTask_legal {b c t} (h : Legal b) : Legal (Block.progressTask b c t) :=
  Legal.keep (Block.progressTask_keeps (sub_refl _) (Keeps.refl _ _)) rfl h

theorem Block.progressEng_legal {b e} (h : Legal b) : Legal (Block.progressEng b e) :=
  Legal.keep (Block.progressEng_keeps (sub_refl _) (Keeps.refl _ _)) rfl h

theorem Block.resumeAsker_legal {b va a} (h : Legal b) :
    Legal (Block.resumeAsker b va a) := by
  unfold Block.resumeAsker
  split
  · rename_i y0 y1
    exact (Block.handOver_legal (Block.progressEng_legal h))
  · rename_i y2 y3 y4
    exact (Block.progress_legal h)
  · rename_i y5 y6
    exact (Block.settleHalt_legal h)
  · rename_i y7 y8 y9
    exact (Block.progressTask_legal h)
  · rename_i y10
    exact h

theorem Block.endWork_legal {b e st lose} (h : Legal b) :
    Legal (Block.endWork b e st lose) := by
  unfold Block.endWork
  split
  · rename_i y0 y1
    exact h
  · rename_i y2 y3 y4 y5
    split
    · rename_i y6 y7 y8
      refine Legal.choice (fun h9 => ?_) (fun h9 => ?_)
      · exact (Block.loseCtx_legal h)
      · exact (Block.cancelCmd_legal h)
    · rename_i y10 y11
      exact h
  · rename_i y12 y13 y14 y15
    refine Legal.choice (fun h16 => ?_) (fun h16 => ?_)
    · exact (Block.loseCtx_legal (Block.cancelItem_legal h))
    · exact (Block.cancelItem_legal h)

theorem Block.haltEvent_legal {b q i code} (h : Legal b) : Legal (Block.haltEvent b q i code) :=
  Legal.keep (Block.haltEvent_keeps (sub_refl _) (Keeps.refl _ _)) rfl h

theorem Block.ringFault_legal {b q} (h : Legal b) :
    Legal (Block.ringFault b q) := by
  unfold Block.ringFault
  extract_lets z0 z1
  have h2 : Legal z1 := by
    subst z1
    exact (Block.haltEvent_legal (Block.haltQueue_legal h))
  refine Legal.choice (fun h3 => ?_) (fun h3 => ?_)
  · refine Legal.choice (fun h4 => ?_) (fun h4 => ?_)
    · exact (Block.event_legal h2)
    · exact h2
  · exact h

theorem Block.cmdError_legal {b ctx code st} (h : Legal b) : Legal (Block.cmdError b ctx code st) :=
  Legal.keep (Block.cmdError_keeps (sub_refl _) (Keeps.refl _ _)) rfl h

theorem Block.haltTask_legal {b c t st} (h : Legal b) : Legal (Block.haltTask b c t st) :=
  Legal.keep (Block.haltTask_keeps (sub_refl _) (Keeps.refl _ _)) rfl h

theorem Block.failAsker_legal {b a} (h : Legal b) :
    Legal (Block.failAsker b a) := by
  unfold Block.failAsker
  split
  · rename_i y0 y1
    exact (Block.endWork_legal h)
  · rename_i y2 y3 y4
    split
    · rename_i y5 y6
      exact h
    · rename_i y7 y8 y9
      split
      · rename_i y10 y11 y12
        exact (Block.ringFault_legal h)
      · rename_i y13 y14
        exact (Block.cancelCmd_legal (Block.dropLoadOf_legal h))
  · rename_i y15 y16
    exact (Block.ringFault_legal h)
  · rename_i y17 y18 y19
    exact (Block.haltTask_legal h)
  · rename_i y20
    refine Block.event_legal ?_
    exact Legal.same h rfl rfl rfl rfl rfl

theorem Block.unmigrate_legal {b c page} (h : Legal b) : Legal (Block.unmigrate b c page) :=
  Legal.keep (Block.unmigrate_keeps (sub_refl _) (Keeps.refl _ _)) rfl h

theorem Block.closeFault_legal {b c page ok} (h : Legal b) :
    Legal (Block.closeFault b c page ok) := by
  unfold Block.closeFault
  split
  · rename_i y0 y1
    exact h
  · rename_i y2 y3 y4
    extract_lets z5 z6
    have h7 : Legal z5 := by
      subst z5
      clear_value z6
      exact Legal.same h rfl rfl rfl rfl rfl
    have h8 : Legal z6 := by
      subst z6
      exact (Block.endAdvice_legal h7)
    refine Legal.choice (fun h9 => ?_) (fun h9 => ?_)
    · refine Legal.foldl (fun b x h => ?_) _ ?_
      · refine Block.resumeAsker_legal ?_
        exact h
      · exact h8
    · refine Legal.foldl (fun b x h => ?_) _ ?_
      · refine Block.failAsker_legal ?_
        exact h
      · exact (Block.unmigrate_legal h8)

theorem Block.sendPri_legal {b c page} (h : Legal b) : Legal (Block.sendPri b c page) :=
  Legal.keep (Block.sendPri_keeps (sub_refl _) (Keeps.refl _ _)) rfl h

theorem Block.setPool_legal {b p v} (h : Legal b) : Legal (Block.setPool b p v) :=
  Legal.keep (Block.setPool_keeps (sub_refl _) (Keeps.refl _ _)) rfl h

theorem Block.poolEvent_legal {b kind pool} (h : Legal b) : Legal (Block.poolEvent b kind pool) :=
  Legal.keep (Block.poolEvent_keeps (sub_refl _) (Keeps.refl _ _)) rfl h

theorem Block.takeFrame_legal {b b' : Block} {ps : List Nat} {f p : Nat} (h : Legal b) (e : b.takeFrame ps = some (f, p, b')) : Legal b' :=
  Legal.keep (Block.takeFrame_keeps (sub_refl _) (Keeps.refl _ _) e) rfl h

theorem Block.startDma_legal {b} (h : Legal b) : Legal (Block.startDma b) :=
  Legal.keep (Block.startDma_keeps (sub_refl _) (Keeps.refl _ _)) rfl h

theorem Block.wantFrame_legal {b c page} (h : Legal b) : Legal (Block.wantFrame b c page) :=
  Legal.keep (Block.wantFrame_keeps (sub_refl _) (Keeps.refl _ _)) rfl h

theorem Block.seekSource_legal {b c page} (h : Legal b) :
    Legal (Block.seekSource b c page) := by
  unfold Block.seekSource
  split
  · rename_i y0 y1
    exact h
  · rename_i y2 y3 y4
    extract_lets z5
    refine Legal.choice (fun h6 => ?_) (fun h6 => ?_)
    · exact (Block.closeFault_legal h)
    · refine Legal.choice (fun h7 => ?_) (fun h7 => ?_)
      · clear_value z5
        split
        · rename_i y8 y9
          exact (Block.askAts_legal (Block.modFault_legal h))
        · rename_i y10 y11 y12
          refine Legal.choice (fun h13 => ?_) (fun h13 => ?_)
          · exact (Block.closeFault_legal h)
          · exact (Block.sendPri_legal h)
      · clear_value z5
        split
        · rename_i y14 y15 y16
          exact (Block.askAts_legal (Block.modFault_legal h))
        · rename_i y17 y18 y19
          refine Legal.choice (fun h20 => ?_) (fun h20 => ?_)
          · extract_lets z21
            exact (Block.wantFrame_legal (Block.modFault_legal h))
          · exact (Block.sendPri_legal h)

theorem Block.enterFault_legal {b f} (h : Legal b) :
    Legal (Block.enterFault b f) := by
  unfold Block.enterFault
  split
  · rename_i y0 y1 y2
    refine Legal.choice (fun h3 => ?_) (fun h3 => ?_)
    · exact h
    · extract_lets z4
      have h5 : Legal z4 := by
        subst z4
        exact (Block.count32_legal h)
      exact (Block.modFault_legal h5)
  · rename_i y6 y7
    extract_lets z8 z9
    have h10 : Legal z8 := by
      subst z8
      exact (Block.count32_legal h)
    have h11 : Legal z9 := by
      subst z9
      refine Legal.choice (fun h12 => ?_) (fun h12 => ?_)
      · exact h10
      · clear_value z8
        split
        · rename_i y13 y14 y15
          exact (Block.setPage_legal h10)
        · rename_i y16 y17
          exact h10
    refine Block.seekSource_legal ?_
    clear_value z9
    clear_value z8
    exact Legal.same h11 rfl rfl rfl rfl rfl

theorem Block.startFault_legal {b c va write cls who a} (h : Legal b) :
    Legal (Block.startFault b c va write cls who a) := by
  unfold Block.startFault
  extract_lets z0 z1
  refine Legal.choice (fun h2 => ?_) (fun h2 => ?_)
  · exact (Block.enterFault_legal h)
  · refine Legal.choice (fun h3 => ?_) (fun h3 => ?_)
    · exact h
    · clear_value z1
      clear_value z0
      exact Legal.same h rfl rfl rfl rfl rfl

theorem Block.meet_legal {α : Type} {b : Block} {c : Nat} {who : Asker} {write : Bool} {m : MRes α} (h : Legal b) : Legal (b.meet c who write m) := by
  unfold Block.meet
  split
  · exact Block.askAts_legal h
  · exact Block.joinWait_legal h
  · exact Block.startFault_legal h
  all_goals exact h

theorem Block.access_legal {α : Type} {b : Block} {c : Cmd} {x va len : Nat} {write : Bool} {m : MRes α} {f : α → Block}
    (h : Legal b) (hf : ∀ v, m = .ok v → Legal (f v)) : Legal (b.access c x va len write m f) := by
  unfold Block.access
  split
  · exact Block.atHome_legal h (hf _ rfl)
  · exact Block.faultCmd_legal h
  · exact Block.poisonCmd_legal h
  · exact Block.meet_legal (Block.setRunning_legal h)

theorem Block.countFar_legal {b near p} (h : Legal b) : Legal (Block.countFar b near p) :=
  Legal.keep (Block.countFar_keeps (sub_refl _) (Keeps.refl _ _)) rfl h

theorem Block.countBursts_legal {b q src dst len places} (h : Legal b) : Legal (Block.countBursts b q src dst len places) :=
  Legal.keep (Block.countBursts_keeps (sub_refl _) (Keeps.refl _ _)) rfl h

theorem Block.failList_legal {b c st} (h : Legal b) : Legal (Block.failList b c st) :=
  Legal.keep (Block.failList_keeps (sub_refl _) (Keeps.refl _ _)) rfl h

theorem Block.modVersion_legal {b ctx list ep f} (h : Legal b) : Legal (Block.modVersion b ctx list ep f) :=
  Legal.keep (Block.modVersion_keeps (sub_refl _) (Keeps.refl _ _)) rfl h

theorem Block.loadBody_legal {b c ctx addr len ep list} (h : Legal b) :
    Legal (Block.loadBody b c ctx addr len ep list) := by
  unfold Block.loadBody
  extract_lets z0 z1 z2
  have h3 : Legal z1 := by
    subst z1
    clear_value z2
    clear_value z0
    split
    · rename_i y4 y5
      exact (Block.dropLoadOf_legal h)
    · rename_i y6 y7 y8
      exact (Block.dropLoadOf_legal h)
    · rename_i y9 y10 y11
      exact h
  have h12 : Legal z2 := by
    subst z2
    exact (Block.countBursts_legal h3)
  refine Block.access_legal ?_ ?_
  · exact h3
  · intro x13 h14
    extract_lets z15 z16
    clear_value z16
    clear_value z15
    clear_value z2
    clear_value z1
    clear_value z0
    split
    · rename_i y17 y18
      exact (Block.failList_legal h12)
    · rename_i y19 y20 y21
      extract_lets z22
      have h23 : Legal z22 := by
        subst z22
        exact (Block.modVersion_legal h12)
      refine Block.modCmd_legal ?_
      clear_value z22
      exact Legal.same h23 rfl rfl rfl rfl rfl

theorem Block.touchAts_legal {b pasid va} (h : Legal b) : Legal (Block.touchAts b pasid va) :=
  Legal.keep (Block.touchAts_keeps (sub_refl _) (Keeps.refl _ _)) rfl h

theorem Block.fillRange_legal {b id} (h : Legal b) : Legal (Block.fillRange b id) :=
  Legal.keep (Block.fillRange_keeps (sub_refl _) (Keeps.refl _ _)) rfl h

theorem Block.fillPages_legal {b id grp} (h : Legal b) : Legal (Block.fillPages b id grp) :=
  Legal.keep (Block.fillPages_keeps (sub_refl _) (Keeps.refl _ _)) rfl h

theorem Block.setStamp_legal {b k v} (h : Legal b) : Legal (Block.setStamp b k v) :=
  Legal.keep (Block.setStamp_keeps (sub_refl _) (Keeps.refl _ _)) rfl h

theorem Block.startWalks_legal {b} (h : Legal b) : Legal (Block.startWalks b) :=
  Legal.keep (Block.startWalks_keeps (sub_refl _) (Keeps.refl _ _)) rfl h

theorem Block.touch_legal {b c va who} (h : Legal b) : Legal (Block.touch b c va who) :=
  Legal.keep (Block.touch_keeps (sub_refl _) (Keeps.refl _ _)) rfl h

theorem Block.touchRange_legal {b c va len who} (h : Legal b) : Legal (Block.touchRange b c va len who) :=
  Legal.keep (Block.touchRange_keeps (sub_refl _) (Keeps.refl _ _)) rfl h

theorem Block.newVersion_legal {b c ctx list len inPlace} (h : Legal b) : Legal (Block.newVersion b c ctx list len inPlace) :=
  Legal.keep (Block.newVersion_keeps (sub_refl _) (Keeps.refl _ _)) rfl h

theorem Block.loadList_legal {b c ctx list addr len patch inPlace} (h : Legal b) :
    Legal (Block.loadList b c ctx list addr len patch inPlace) := by
  unfold Block.loadList
  refine Legal.choice (fun h0 => ?_) (fun h0 => ?_)
  · exact h
  · split
    · rename_i y1 y2 y3 y4
      exact (Block.loadBody_legal h)
    · rename_i y5 y6
      split
      · rename_i y7 y8 y9
        exact (Block.endCmd_legal h)
      · rename_i y10 y11
        extract_lets z12 z13
        have h14 : Legal z12 := by
          subst z12
          exact (Block.touchRange_legal h)
        have h15 : Legal z13 := by
          subst z13
          exact (Block.countBursts_legal h14)
        refine Block.access_legal ?_ ?_
        · exact h14
        · intro x16 h17
          extract_lets z18 z19
          have h20 : Legal z19 := by
            subst z19
            exact (Block.newVersion_legal h15)
          refine Legal.choice (fun h21 => ?_) (fun h21 => ?_)
          · exact (Block.endCmd_legal h15)
          · refine Legal.choice (fun h22 => ?_) (fun h22 => ?_)
            · exact (Block.endCmd_legal h15)
            · clear_value z19
              clear_value z18
              clear_value z13
              clear_value z12
              split
              · rename_i y23 y24 y25
                exact (Block.loadBody_legal h20)
              · rename_i y26 y27
                exact h20

theorem Block.waitItem_legal {b t} (h : Legal b) : Legal (Block.waitItem b t) :=
  Legal.keep (Block.waitItem_keeps (sub_refl _) (Keeps.refl _ _)) rfl h

theorem Block.fcrHold_legal {b} (h : Legal b) : Legal (Block.fcrHold b) :=
  Legal.keep (Block.fcrHold_keeps (sub_refl _) (Keeps.refl _ _)) rfl h

theorem Block.writeVa_legal {b b' : Block} {c va : Nat} {xs : List Byte} {need : Nat} {inPlace : Bool}  (h : Legal b)
    (e : b.writeVa c va xs need inPlace = .ok b') : Legal b' := by
  unfold Block.writeVa at e
  cases hr : b.resolveN c need inPlace va xs.length <;> rw [hr] at e <;> simp [MRes.bind] at e
  subst e
  exact Block.putBytes_legal h

theorem Block.writeEntry_legal {b} (h : Legal b) :
    Legal (Block.writeEntry b) := by
  unfold Block.writeEntry
  split
  · rename_i y0 y1
    exact h
  · rename_i y2 y3 y4 y5
    refine Legal.choice (fun h6 => ?_) (fun h6 => ?_)
    · exact h
    · refine Legal.choice (fun h7 => ?_) (fun h7 => ?_)
      · exact (Block.fcrHold_legal h)
      · extract_lets z8
        clear_value z8
        split
        · rename_i y9 y10 y11
          have h12 := Block.writeVa_legal h y11
          refine Block.setReg_legal ?_
          exact Legal.same h12 rfl rfl rfl rfl rfl
        · rename_i y13 y14 y15
          exact (Block.failAsker_legal h)
        · rename_i y17 y18 y19
          exact (Block.meet_legal h)

theorem Block.settleRetire_legal {b} (h : Legal b) : Legal (Block.settleRetire b) :=
  Legal.keep (Block.settleRetire_keeps (sub_refl _) (Keeps.refl _ _)) rfl h

theorem Block.setWear_legal {b kind x2 v} (h : Legal b) : Legal (Block.setWear b kind x2 v) :=
  Legal.keep (Block.setWear_keeps (sub_refl _) (Keeps.refl _ _)) rfl h

theorem Block.spareEvent_legal {b kind x2 what} (h : Legal b) : Legal (Block.spareEvent b kind x2 what) :=
  Legal.keep (Block.spareEvent_keeps (sub_refl _) (Keeps.refl _ _)) rfl h

theorem Block.retireInst_legal {b kind x2} (h : Legal b) : Legal (Block.retireInst b kind x2) :=
  Legal.keep (Block.retireInst_keeps (sub_refl _) (Keeps.refl _ _)) rfl h

theorem Block.changeCaps_legal {b} (h : Legal b) : Legal (Block.changeCaps b) :=
  Legal.keep (Block.changeCaps_keeps (sub_refl _) (Keeps.refl _ _)) rfl h

theorem Block.enterInst_legal {b kind x2} (h : Legal b) : Legal (Block.enterInst b kind x2) :=
  Legal.keep (Block.enterInst_keeps (sub_refl _) (Keeps.refl _ _)) rfl h

theorem Block.enterSpare_legal {b kind x2} (h : Legal b) : Legal (Block.enterSpare b kind x2) :=
  Legal.keep (Block.enterSpare_keeps (sub_refl _) (Keeps.refl _ _)) rfl h

theorem Block.swapWalker_legal {b k} (h : Legal b) : Legal (Block.swapWalker b k) :=
  Legal.keep (Block.swapWalker_keeps (sub_refl _) (Keeps.refl _ _)) rfl h

theorem Block.swapTick_legal {b} (h : Legal b) : Legal (Block.swapTick b) :=
  Legal.keep (Block.swapTick_keeps (sub_refl _) (Keeps.refl _ _)) rfl h

theorem Block.setSynced_legal {b e} (h : Legal b) : Legal (Block.setSynced b e) :=
  Legal.keep (Block.setSynced_keeps (sub_refl _) (Keeps.refl _ _)) rfl h

theorem Block.syncBarrier_legal {b w r} (h : Legal b) : Legal (Block.syncBarrier b w r) :=
  Legal.keep (Block.syncBarrier_keeps (sub_refl _) (Keeps.refl _ _)) rfl h

theorem Block.latchProf_legal {b start fin} (h : Legal b) : Legal (Block.latchProf b start fin) :=
  Legal.keep (Block.latchProf_keeps (sub_refl _) (Keeps.refl _ _)) rfl h

theorem undrainedWrite_legal {x0 x1 x2 x3} (h : Legal x0) : Legal (undrainedWrite x0 x1 x2 x3) :=
  Legal.keep (undrainedWrite_keeps (sub_refl _) (Keeps.refl _ _)) rfl h

theorem Block.engTick_legal {b e} (h : Legal b) : Legal (Block.engTick b e) :=
  Legal.keep (Block.engTick_keeps (sub_refl _) (Keeps.refl _ _)) rfl h

theorem Block.enterPlacing_legal {b c} (h : Legal b) : Legal (Block.enterPlacing b c) :=
  Legal.keep (Block.enterPlacing_keeps (sub_refl _) (Keeps.refl _ _)) rfl h

theorem Block.writeEntriesN_legal  : ∀ {n : Nat} {b : Block}, Legal b → Legal (Block.writeEntriesN n b)
  | 0, _, h => h
  | n + 1, b, h => by
    unfold Block.writeEntriesN
    split
    · exact Block.writeEntriesN_legal (Block.writeEntry_legal h)
    · exact Block.writeEntry_legal h

theorem Block.writeEntries_legal {b} (h : Legal b) :
    Legal (Block.writeEntries b) := by
  unfold Block.writeEntries
  exact (Block.writeEntriesN_legal h)

theorem Block.pushEntry_legal {b x} (h : Legal b) :
    Legal (Block.pushEntry b x) := by
  unfold Block.pushEntry
  extract_lets z0
  have h1 : Legal z0 := by
    subst z0
    refine Legal.choice (fun h2 => ?_) (fun h2 => ?_)
    · exact h
    · exact (Block.ledgerTerm_legal h)
  refine Block.writeEntries_legal ?_
  clear_value z0
  exact Legal.same h1 rfl rfl rfl rfl rfl

theorem Block.demote_legal {b id typ lo hi} (h : Legal b) :
    Legal (Block.demote b id typ lo hi) := by
  unfold Block.demote
  split
  · rename_i y0 y1
    exact h
  · rename_i y2 y3 y4
    refine Legal.foldl (fun b x h => ?_) _ ?_
    · refine Block.pushEntry_legal ?_
      exact (Block.setPage_legal h)
    · exact h

theorem Block.dropRange_legal {b c va len} (h : Legal b) : Legal (Block.dropRange b c va len) :=
  Legal.keep (Block.dropRange_keeps (sub_refl _) (Keeps.refl _ _)) rfl h

theorem Block.returnTables_legal {b m} (h : Legal b) :
    Legal (Block.returnTables b m) := by
  unfold Block.returnTables
  extract_lets z0 z1 z2 z3
  have h4 : Legal z0 := by
    subst z0
    clear_value z3
    clear_value z2
    clear_value z1
    exact Legal.same h rfl rfl rfl rfl rfl
  have h5 : Legal z1 := by
    subst z1
    exact (Block.modMap_legal h4)
  have h6 : Legal z3 := by
    subst z3
    clear_value z2
    clear_value z1
    clear_value z0
    exact Legal.same h5 rfl rfl rfl rfl rfl
  refine Legal.foldl (fun b x h => ?_) _ ?_
  · refine Block.pushEntry_legal ?_
    exact h
  · exact h6

theorem Block.unmapWork_legal {b id typ} (h : Legal b) :
    Legal (Block.unmapWork b id typ) := by
  unfold Block.unmapWork
  split
  · rename_i y0 y1
    exact h
  · rename_i y2 y3 y4
    extract_lets z5
    have h6 : Legal z5 := by
      subst z5
      exact (Block.demote_legal (Block.dropRange_legal h))
    clear_value z5
    split
    · rename_i y7 y8
      exact h6
    · rename_i y9 y10 y11
      exact (Block.returnTables_legal h6)

theorem Block.popFifo_legal {b path} (h : Legal b) : Legal (Block.popFifo b path) :=
  Legal.keep (Block.popFifo_keeps (sub_refl _) (Keeps.refl _ _)) rfl h

theorem Block.settleGrow_legal {b} (h : Legal b) : Legal (Block.settleGrow b) :=
  Legal.keep (Block.settleGrow_keeps (sub_refl _) (Keeps.refl _ _)) rfl h

theorem Block.startGroup_legal {b} (h : Legal b) : Legal (Block.startGroup b) :=
  Legal.keep (Block.startGroup_keeps (sub_refl _) (Keeps.refl _ _)) rfl h

theorem Block.tryGroup_legal {b wake} (h : Legal b) : Legal (Block.tryGroup b wake) :=
  Legal.keep (Block.tryGroup_keeps (sub_refl _) (Keeps.refl _ _)) rfl h

theorem Block.correct_legal {b o} (h : Legal b) : Legal (Block.correct b o) :=
  Legal.keep (Block.correct_keeps (sub_refl _) (Keeps.refl _ _)) rfl h

theorem Block.setLock_legal {b p v} (h : Legal b) : Legal (Block.setLock b p v) :=
  Legal.keep (Block.setLock_keeps (sub_refl _) (Keeps.refl _ _)) rfl h

theorem Block.keepExchange_legal {b p o d} (h : Legal b) : Legal (Block.keepExchange b p o d) :=
  Legal.keep (Block.keepExchange_keeps (sub_refl _) (Keeps.refl _ _)) rfl h

theorem Block.takeDelayResp_legal {b p f} (h : Legal b) : Legal (Block.takeDelayResp b p f) :=
  Legal.keep (Block.takeDelayResp_keeps (sub_refl _) (Keeps.refl _ _)) rfl h

theorem Block.count64_legal {b lo k} (h : Legal b) : Legal (Block.count64 b lo k) :=
  Legal.keep (Block.count64_keeps (sub_refl _) (Keeps.refl _ _)) rfl h

theorem Block.checkAccount_legal {b a} (h : Legal b) : Legal (Block.checkAccount b a) :=
  Legal.keep (Block.checkAccount_keeps (sub_refl _) (Keeps.refl _ _)) rfl h

theorem Block.closeAt_legal {b hs} (h : Legal b) : Legal (Block.closeAt b hs) :=
  Legal.keep (Block.closeAt_keeps (sub_refl _) (Keeps.refl _ _)) rfl h

theorem Block.stepBoundary_legal {b hs} (h : Legal b) : Legal (Block.stepBoundary b hs) :=
  Legal.keep (Block.stepBoundary_keeps (sub_refl _) (Keeps.refl _ _)) rfl h

theorem Block.sigNow_legal {b s setmax v win} (h : Legal b) : Legal (Block.sigNow b s setmax v win) :=
  Legal.keep (Block.sigNow_keeps (sub_refl _) (Keeps.refl _ _)) rfl h

theorem Block.releaseHeld_legal {k : Nat}  :
    ∀ {l : List HeldSig} {b : Block}, Legal b → Legal (Block.releaseHeld k l b)
  | [], _, h => h
  | y :: t, b, h => by
    unfold Block.releaseHeld
    extract_lets w
    split
    · exact h
    · exact Block.releaseHeld_legal (Block.sigNow_legal
        (Legal.same h rfl rfl rfl rfl rfl))

theorem Block.unstagePath_legal {b path p} (h : Legal b) : Legal (Block.unstagePath b path p) :=
  Legal.keep (Block.unstagePath_keeps (sub_refl _) (Keeps.refl _ _)) rfl h

theorem Block.freeSem_legal {b k} (h : Legal b) : Legal (Block.freeSem b k) :=
  Block.setSem_legal (.inl rfl) (Block.unstagePath_legal h)

theorem Block.stallCmd_legal {b c} (h : Legal b) : Legal (Block.stallCmd b c) :=
  Legal.keep (Block.stallCmd_keeps (sub_refl _) (Keeps.refl _ _)) rfl h

theorem Block.setArgs_legal {b e bs} (h : Legal b) : Legal (Block.setArgs b e bs) :=
  Legal.keep (Block.setArgs_keeps (sub_refl _) (Keeps.refl _ _)) rfl h

theorem Block.loadArgs_legal {b e} (h : Legal b) :
    Legal (Block.loadArgs b e) := by
  unfold Block.loadArgs
  extract_lets z0
  clear_value z0
  split
  · rename_i y1 y2 y3
    exact (Block.fillTlb_legal (Block.setArgs_legal h))
  · rename_i y4 y5 y6 y7
    exact (Block.endWork_legal (Block.notePoison_legal h))
  · rename_i y8 y9 y10
    exact (Block.endWork_legal h)
  · rename_i y11 y12 y13 y14
    exact (Block.meet_legal h)

theorem Block.resumeEng_legal {b e} (h : Legal b) :
    Legal (Block.resumeEng b e) := by
  unfold Block.resumeEng
  extract_lets z0 z1
  have h2 : Legal z1 := by
    subst z1
    exact (Block.setEng_legal h)
  refine Legal.choice (fun h3 => ?_) (fun h3 => ?_)
  · exact (Block.loadArgs_legal h2)
  · exact h2

theorem Block.modLane_legal {b w f} (h : Legal b) : Legal (Block.modLane b w f) :=
  Legal.keep (Block.modLane_keeps (sub_refl _) (Keeps.refl _ _)) rfl h

theorem Block.setHalt_legal {b w k} (h : Legal b) : Legal (Block.setHalt b w k) :=
  Legal.keep (Block.setHalt_keeps (sub_refl _) (Keeps.refl _ _)) rfl h

theorem Block.bpResume_legal {b} (h : Legal b) :
    Legal (Block.bpResume b) := by
  unfold Block.bpResume
  refine Legal.foldl (fun b x h => ?_) _ ?_
  · refine Legal.foldl (fun b x h => ?_) _ ?_
    · refine Block.resumeEng_legal ?_
      exact h
    · exact (Block.modLane_legal (Block.setHalt_legal h))
  · exact h

theorem Block.accessErr_legal {b pg path off typ ctx} (h : Legal b) : Legal (Block.accessErr b pg path off typ ctx) :=
  Legal.keep (Block.accessErr_keeps (sub_refl _) (Keeps.refl _ _)) rfl h

theorem Block.pageErr_legal {b path a} (h : Legal b) : Legal (Block.pageErr b path a) :=
  Legal.keep (Block.pageErr_keeps (sub_refl _) (Keeps.refl _ _)) rfl h

theorem Block.destWrite_legal {b path v} (h : Legal b) : Legal (Block.destWrite b path v) :=
  Legal.keep (Block.destWrite_keeps (sub_refl _) (Keeps.refl _ _)) rfl h

theorem Block.recoveryTick_legal {b} (h : Legal b) : Legal (Block.recoveryTick b) :=
  Legal.keep (Block.recoveryTick_keeps (sub_refl _) (Keeps.refl _ _)) rfl h

theorem Block.closeAll_legal {b} (h : Legal b) : Legal (Block.closeAll b) :=
  Legal.keep (Block.closeAll_keeps (sub_refl _) (Keeps.refl _ _)) rfl h

theorem Block.dropPasid_legal {b p} (h : Legal b) : Legal (Block.dropPasid b p) :=
  Legal.keep (Block.dropPasid_keeps (sub_refl _) (Keeps.refl _ _)) rfl h

theorem Block.resumeFrames_legal {b} (h : Legal b) : Legal (Block.resumeFrames b) :=
  Legal.keep (Block.resumeFrames_keeps (sub_refl _) (Keeps.refl _ _)) rfl h

theorem Block.createQueue_legal {b p} (h : Legal b) : Legal (Block.createQueue b p) :=
  Legal.keep (Block.createQueue_keeps (sub_refl _) (Keeps.refl _ _)) rfl h

theorem Block.openCtx_legal {b c pasid stall} (h : Legal b) : Legal (Block.openCtx b c pasid stall) :=
  Legal.keep (Block.openCtx_keeps (sub_refl _) (Keeps.refl _ _)) rfl h

theorem Block.restoreQueue_legal {b c pasid home r} (h : Legal b) : Legal (Block.restoreQueue b c pasid home r) :=
  Legal.keep (Block.restoreQueue_keeps (sub_refl _) (Keeps.refl _ _)) rfl h

theorem Block.setVid_legal {b c v x} (h : Legal b) : Legal (Block.setVid b c v x) :=
  Legal.keep (Block.setVid_keeps (sub_refl _) (Keeps.refl _ _)) rfl h

theorem Block.allocVid_legal {b c v s value} (h : Legal b) : Legal (Block.allocVid b c v s value) :=
  Legal.keep (Block.allocVid_keeps (sub_refl _) (Keeps.refl _ _)) rfl h

theorem Block.newWick_legal {b c v value sat snuffed} (h : Legal b) : Legal (Block.newWick b c v value sat snuffed) :=
  Legal.keep (Block.newWick_keeps (sub_refl _) (Keeps.refl _ _)) rfl h

theorem Block.restoreWick_legal {b c inc home w} (h : Legal b) : Legal (Block.restoreWick b c inc home w) :=
  Legal.keep (Block.restoreWick_keeps (sub_refl _) (Keeps.refl _ _)) rfl h

theorem Block.doRestore_legal {b c t bs} (h : Legal b) : Legal (Block.doRestore b c t bs) :=
  Legal.keep (Block.doRestore_keeps (sub_refl _) (Keeps.refl _ _)) rfl h

theorem Block.freeSlot_legal {b s} (h : Legal b) : Legal (Block.freeSlot b s) :=
  Legal.keep (Block.freeSlot_keeps (sub_refl _) (Keeps.refl _ _)) rfl h

theorem Block.freeVid_legal {b c v} (h : Legal b) : Legal (Block.freeVid b c v) :=
  Legal.keep (Block.freeVid_keeps (sub_refl _) (Keeps.refl _ _)) rfl h

theorem Block.dropLoading_legal {b c} (h : Legal b) : Legal (Block.dropLoading b c) :=
  Legal.keep (Block.dropLoading_keeps (sub_refl _) (Keeps.refl _ _)) rfl h

theorem Block.dropLists_legal {b c} (h : Legal b) : Legal (Block.dropLists b c) :=
  Legal.keep (Block.dropLists_keeps (sub_refl _) (Keeps.refl _ _)) rfl h

theorem Block.unmapEnd_legal {b id} (h : Legal b) : Legal (Block.unmapEnd b id).2 :=
  Legal.keep (Block.unmapEnd_keeps (sub_refl _) (Keeps.refl _ _)) rfl h

theorem Block.dropMaps_legal {b c} (h : Legal b) :
    Legal (Block.dropMaps b c) := by
  unfold Block.dropMaps
  refine Legal.foldl (fun b x h => ?_) _ ?_
  · refine Block.unmapEnd_legal ?_
    exact (Block.unmapWork_legal h)
  · exact h

theorem Block.freeObjects_legal {b c} (h : Legal b) :
    Legal (Block.freeObjects b c) := by
  unfold Block.freeObjects
  extract_lets z0 z1 z2 z3 z4
  have h5 : Legal z1 := by
    subst z1
    refine Legal.foldl (fun b x h => ?_) _ ?_
    · refine Block.freeVid_legal ?_
      exact h
    · exact h
  have h6 : Legal z2 := by
    subst z2
    exact (Block.dropLists_legal h5)
  have h7 : Legal z4 := by
    subst z4
    exact (Block.setCtx_legal h6)
  exact (Block.dropMaps_legal h7)

theorem Block.settleQueue_legal {b q} (h : Legal b) :
    Legal (Block.settleQueue b q) := by
  unfold Block.settleQueue
  extract_lets z0 z1 z2
  have h3 : Legal z1 := by
    subst z1
    exact (Block.setQueue_legal h)
  have h4 : Legal z2 := by
    subst z2
    refine Legal.foldl (fun b x h => ?_) _ ?_
    · refine Block.endCmd_legal ?_
      exact h
    · exact h3
  refine Legal.choice (fun h5 => ?_) (fun h5 => ?_)
  · refine Legal.choice (fun h6 => ?_) (fun h6 => ?_)
    · exact (Block.freeObjects_legal h4)
    · exact h4
  · exact h

theorem Block.modCad_legal {b f} (h : Legal b) : Legal (Block.modCad b f) :=
  Legal.keep (Block.modCad_keeps (sub_refl _) (Keeps.refl _ _)) rfl h

theorem Block.keepCadence_legal {b f} (h : Legal b) (hf : ∀ v0, Legal v0 → Legal (f v0)) :
    Legal (Block.keepCadence b f) := by
  unfold Block.keepCadence
  extract_lets z0
  refine Block.modCad_legal ?_
  apply hf
  exact h

theorem Block.sendFrame_legal {b p cls typ payload} (h : Legal b) : Legal (Block.sendFrame b p cls typ payload) :=
  Legal.keep (Block.sendFrame_keeps (sub_refl _) (Keeps.refl _ _)) rfl h

theorem Block.relayEdge_legal {b} (h : Legal b) : Legal (Block.relayEdge b) :=
  Legal.keep (Block.relayEdge_keeps (sub_refl _) (Keeps.refl _ _)) rfl h

theorem Block.frameEdge_legal {b n ago} (h : Legal b) : Legal (Block.frameEdge b n ago) :=
  Legal.keep (Block.frameEdge_keeps (sub_refl _) (Keeps.refl _ _)) rfl h

theorem Block.takeDue_legal {b} (h : Legal b) : Legal (Block.takeDue b) :=
  Legal.keep (Block.takeDue_keeps (sub_refl _) (Keeps.refl _ _)) rfl h

theorem Block.sendLink_legal {b p typ payload} (h : Legal b) : Legal (Block.sendLink b p typ payload) :=
  Legal.keep (Block.sendLink_keeps (sub_refl _) (Keeps.refl _ _)) rfl h

theorem Block.dbReject_legal {b q} (h : Legal b) : Legal (Block.dbReject b q) :=
  Legal.keep (Block.dbReject_keeps (sub_refl _) (Keeps.refl _ _)) rfl h

theorem Block.dbSet_legal {b q n} (h : Legal b) : Legal (Block.dbSet b q n) :=
  Legal.keep (Block.dbSet_keeps (sub_refl _) (Keeps.refl _ _)) rfl h

theorem Block.sigDoorbell_legal {b ctx qidx setmax v} (h : Legal b) : Legal (Block.sigDoorbell b ctx qidx setmax v) :=
  Legal.keep (Block.sigDoorbell_keeps (sub_refl _) (Keeps.refl _ _)) rfl h

theorem Block.sigSlot_legal {b s setmax v win who} (h : Legal b) : Legal (Block.sigSlot b s setmax v win who) :=
  Legal.keep (Block.sigSlot_keeps (sub_refl _) (Keeps.refl _ _)) rfl h

theorem Block.sigEntry_legal {b ctx who g} (h : Legal b) : Legal (Block.sigEntry b ctx who g) :=
  Legal.keep (Block.sigEntry_keeps (sub_refl _) (Keeps.refl _ _)) rfl h

theorem Block.refillFaults_legal  : ∀ {n : Nat} {b : Block}, Legal b → Legal (Block.refillFaults n b)
  | 0, _, h => h
  | n + 1, b, h => by
    unfold Block.refillFaults
    split
    · exact h
    · split
      · exact Block.refillFaults_legal (Block.enterFault_legal
          (Legal.same h rfl rfl rfl rfl rfl))
      · exact h

theorem Block.settleFaults_legal {b} (h : Legal b) :
    Legal (Block.settleFaults b) := by
  unfold Block.settleFaults
  extract_lets z0
  have h1 : Legal z0 := by
    subst z0
    refine Legal.foldl (fun b x h => ?_) _ ?_
    · refine Block.sendPri_legal ?_
      exact h
    · exact h
  exact (Block.startDma_legal (Block.refillFaults_legal h1))

theorem Block.finishFault_legal {b c page ok} (h : Legal b) :
    Legal (Block.finishFault b c page ok) := by
  unfold Block.finishFault
  exact (Block.settleFaults_legal (Block.closeFault_legal h))

theorem Block.landPages_legal {b} (h : Legal b) :
    Legal (Block.landPages b) := by
  unfold Block.landPages
  refine Legal.foldl (fun b x h => ?_) _ ?_
  · split
    · rename_i y0 y1 y2 y3
      refine Legal.choice (fun h4 => ?_) (fun h4 => ?_)
      · exact h
      · extract_lets z5
        have h6 : Legal z5 := by
          subst z5
          exact Legal.same h rfl rfl rfl rfl rfl
        exact (Block.finishFault_legal (Block.count32_legal h6))
    · rename_i y7 y8
      exact h
  · exact h

theorem Block.copyDone_legal {b c page ok} (h : Legal b) :
    Legal (Block.copyDone b c page ok) := by
  unfold Block.copyDone
  split
  · rename_i y0 y1
    exact h
  · rename_i y2 y3 y4
    split
    · rename_i y5 y6 y7 y8 y9
      refine Legal.choice (fun h10 => ?_) (fun h10 => ?_)
      · extract_lets z11 z12 z13 z14 z15
        have h16 : Legal z12 := by
          subst z12
          exact (Block.putBytes_legal h)
        have h17 : Legal z13 := by
          subst z13
          refine Legal.foldl (fun b x h => ?_) _ ?_
          · refine Block.countFar_legal ?_
            exact h
          · exact h16
        have h18 : Legal z14 := by
          subst z14
          exact (Block.modFault_legal h17)
        exact (Block.startDma_legal (Block.landPages_legal (Block.pushEntry_legal h18)))
      · extract_lets z19
        have h20 : Legal z19 := by
          subst z19
          exact (Block.setPool_legal h)
        exact (Block.finishFault_legal h20)
    · rename_i y21 y22
      exact h

theorem Block.enterIdent_legal {b p rxok} (h : Legal b) : Legal (Block.enterIdent b p rxok) :=
  Legal.keep (Block.enterIdent_keeps (sub_refl _) (Keeps.refl _ _)) rfl h

theorem Block.takeRecord_legal {b : Block} {c : Nat}  (h : Legal b) : Legal (b.takeRecord c).2 := by
  unfold Block.takeRecord
  split
  · exact Legal.same h rfl rfl rfl rfl rfl
  · split
    · exact h
    · rename_i e
      exact Legal.same (Block.takeFrame_legal h e) rfl rfl rfl rfl rfl

theorem Block.takeTables_legal {c id p : Nat}  :
    ∀ {n : Nat} {b : Block}, Legal b → Legal (Block.takeTables b c id p n)
  | 0, _, h => h
  | n + 1, b, h => by
    unfold Block.takeTables
    split
    · exact h
    · rename_i e
      exact Block.takeTables_legal (Legal.same (Block.takeFrame_legal h e) rfl rfl rfl rfl rfl)

theorem Block.doMap_legal {b c m} (h : Legal b) : Legal (Block.doMap b c m) :=
  Legal.keep (Block.doMap_keeps (sub_refl _) (Keeps.refl _ _)) rfl h

theorem Block.mcMod_legal {b f} (h : Legal b) : Legal (Block.mcMod b f) :=
  Legal.keep (Block.mcMod_keeps (sub_refl _) (Keeps.refl _ _)) rfl h

theorem Block.setTbuf_legal {b k v} (h : Legal b) : Legal (Block.setTbuf b k v) :=
  Legal.keep (Block.setTbuf_keeps (sub_refl _) (Keeps.refl _ _)) rfl h

theorem Block.tbHeadSet_legal {b path v} (h : Legal b) : Legal (Block.tbHeadSet b path v) :=
  Legal.keep (Block.tbHeadSet_keeps (sub_refl _) (Keeps.refl _ _)) rfl h

theorem Block.ccAnswer_legal {b line a fwd} (h : Legal b) :
    Legal (Block.ccAnswer b line a fwd) := by
  unfold Block.ccAnswer
  split
  · rename_i y0 y1
    exact h
  · rename_i y2 y3 y4
    refine Legal.choice (fun h5 => ?_) (fun h5 => ?_)
    · exact h
    · extract_lets z6 z7
      have h8 : Legal z6 := by
        subst z6
        exact (Block.modTxn_legal h)
      have h9 : Legal z7 := by
        subst z7
        refine Legal.choice (fun h10 => ?_) (fun h10 => ?_)
        · clear_value z6
          split
          · rename_i y11 y12 y13
            exact (Block.setDir_legal h8)
          · rename_i y14 y15
            exact h8
        · refine Legal.choice (fun h16 => ?_) (fun h16 => ?_)
          · exact h8
          · exact (Block.dropHolder_legal h8)
      clear_value z7
      clear_value z6
      split
      · rename_i y17 y18
        exact h9
      · rename_i y19 y20 y21
        refine Block.ccGo_legal ?_
        refine Legal.choice (fun h22 => ?_) (fun h22 => ?_)
        · exact (Block.ccGrant_legal h9)
        · exact (Block.ccEnd_legal h9)

theorem Block.setDrift_legal {b ns} (h : Legal b) : Legal (Block.setDrift b ns) :=
  Legal.keep (Block.setDrift_keeps (sub_refl _) (Keeps.refl _ _)) rfl h

theorem Block.cadEvent_legal {b kind} (h : Legal b) : Legal (Block.cadEvent b kind) :=
  Legal.keep (Block.cadEvent_keeps (sub_refl _) (Keeps.refl _ _)) rfl h

theorem Block.setSource_legal {b src} (h : Legal b) : Legal (Block.setSource b src) :=
  Legal.keep (Block.setSource_keeps (sub_refl _) (Keeps.refl _ _)) rfl h

theorem Block.takeCadIn_legal {b} (h : Legal b) : Legal (Block.takeCadIn b) :=
  Legal.keep (Block.takeCadIn_keeps (sub_refl _) (Keeps.refl _ _)) rfl h

theorem Block.linkNote_legal {b p left} (h : Legal b) :
    Legal (Block.linkNote b p left) := by
  unfold Block.linkNote
  extract_lets z0
  have h1 : Legal z0 := by
    subst z0
    exact (Block.changeCaps_legal h)
  refine Legal.choice (fun h2 => ?_) (fun h2 => ?_)
  · refine Legal.foldl (fun b x h => ?_) _ ?_
    · refine Block.loseCtx_legal ?_
      exact h
    · exact h1
  · exact h1

theorem Block.noteLink_legal {b p left} (h : Legal b) :
    Legal (Block.noteLink b p left) := by
  unfold Block.noteLink
  refine Legal.choice (fun h0 => ?_) (fun h0 => ?_)
  · exact Legal.same h rfl rfl rfl rfl rfl
  · exact (Block.linkNote_legal h)

theorem Block.openLane_legal {b w ctx v reps} (h : Legal b) : Legal (Block.openLane b w ctx v reps) :=
  Legal.keep (Block.openLane_keeps (sub_refl _) (Keeps.refl _ _)) rfl h

theorem Block.startLaunch_legal {b c l} (h : Legal b) :
    Legal (Block.startLaunch b c l) := by
  unfold Block.startLaunch
  extract_lets z0 z1 z2 z3
  have h4 : Legal z2 := by
    subst z2
    refine Legal.foldl (fun b x h => ?_) _ ?_
    · refine Block.setEng_legal ?_
      exact h
    · exact h
  have h5 : Legal z3 := by
    subst z3
    exact (Block.modCmd_legal h4)
  refine Legal.choice (fun h6 => ?_) (fun h6 => ?_)
  · exact (Block.endCmd_legal h5)
  · refine Legal.foldl (fun b x h => ?_) _ ?_
    · refine Block.loadArgs_legal ?_
      exact h
    · exact (Block.fixDeadlines_legal (Block.openLane_legal h5))

theorem Block.catchUp_legal  : ∀ {n : Nat} {b : Block}, Legal b → Legal (Block.catchUp n b)
  | 0, _, h => h
  | n + 1, b, h => by
    unfold Block.catchUp
    split
    · exact Block.catchUp_legal (Block.frameEdge_legal h)
    · exact h

theorem Block.enterHoldover_legal {b} (h : Legal b) : Legal (Block.enterHoldover b) :=
  Legal.keep (Block.enterHoldover_keeps (sub_refl _) (Keeps.refl _ _)) rfl h

theorem Block.takeRein_legal {b} (h : Legal b) : Legal (Block.takeRein b) :=
  Legal.keep (Block.takeRein_keeps (sub_refl _) (Keeps.refl _ _)) rfl h

theorem Block.reselect_legal {b} (h : Legal b) : Legal (Block.reselect b) :=
  Legal.keep (Block.reselect_keeps (sub_refl _) (Keeps.refl _ _)) rfl h

theorem Block.setBp_legal {b k v} (h : Legal b) : Legal (Block.setBp b k v) :=
  Legal.keep (Block.setBp_keeps (sub_refl _) (Keeps.refl _ _)) rfl h

theorem Block.bpCommit_legal {b path v} (h : Legal b) : Legal (Block.bpCommit b path v) :=
  Legal.keep (Block.bpCommit_keeps (sub_refl _) (Keeps.refl _ _)) rfl h

theorem Block.stepEng_legal {b e} (h : Legal b) : Legal (Block.stepEng b e) :=
  Legal.keep (Block.stepEng_keeps (sub_refl _) (Keeps.refl _ _)) rfl h

theorem Block.traceTo_legal {b k r} (h : Legal b) : Legal (Block.traceTo b k r) :=
  Legal.keep (Block.traceTo_keeps (sub_refl _) (Keeps.refl _ _)) rfl h

theorem Block.traceAll_legal {b take ctx r} (h : Legal b) : Legal (Block.traceAll b take ctx r) :=
  Legal.keep (Block.traceAll_keeps (sub_refl _) (Keeps.refl _ _)) rfl h

theorem Block.profStart_legal {b c w3} (h : Legal b) : Legal (Block.profStart b c w3) :=
  Legal.keep (Block.profStart_keeps (sub_refl _) (Keeps.refl _ _)) rfl h

theorem Block.firstStitch_legal {b w} (h : Legal b) : Legal (Block.firstStitch b w) :=
  Legal.keep (Block.firstStitch_keeps (sub_refl _) (Keeps.refl _ _)) rfl h

theorem Block.enqueue_legal {b e r} (h : Legal b) : Legal (Block.enqueue b e r) :=
  Legal.keep (Block.enqueue_keeps (sub_refl _) (Keeps.refl _ _)) rfl h

theorem Block.deliver_legal {b l} (h : Legal b) : Legal (Block.deliver b l) :=
  Legal.keep (Block.deliver_keeps (sub_refl _) (Keeps.refl _ _)) rfl h

theorem Block.stepWork_legal {b w} (h : Legal b) : Legal (Block.stepWork b w) :=
  Legal.keep (Block.stepWork_keeps (sub_refl _) (Keeps.refl _ _)) rfl h

theorem Block.bpStep_legal {b} (h : Legal b) : Legal (Block.bpStep b) :=
  Legal.keep (Block.bpStep_keeps (sub_refl _) (Keeps.refl _ _)) rfl h

theorem bpCtlWrite_legal {x0 x1 x2 x3} (h : Legal x0) :
    Legal (bpCtlWrite x0 x1 x2 x3) := by
  unfold bpCtlWrite
  extract_lets z0 z1 z2 z3
  have h4 : Legal z2 := by
    subst z2
    refine Legal.choice (fun h5 => ?_) (fun h5 => ?_)
    · exact (Block.bpCommit_legal h)
    · exact (Block.setBp_legal h)
  have h6 : Legal z3 := by
    subst z3
    refine Legal.choice (fun h7 => ?_) (fun h7 => ?_)
    · exact (Block.bpResume_legal h4)
    · exact h4
  refine Legal.choice (fun h8 => ?_) (fun h8 => ?_)
  · exact (Block.bpStep_legal h6)
  · exact h6

theorem Block.poisonNew_legal {b c a consumed} (h : Legal b) :
    Legal (Block.poisonNew b c a consumed) := by
  unfold Block.poisonNew
  refine Block.poisonCmd_legal ?_
  exact Legal.same h rfl rfl rfl rfl rfl

theorem Block.noteRecord_legal {b line data mask} (h : Legal b) : Legal (Block.noteRecord b line data mask) :=
  Legal.keep (Block.noteRecord_keeps (sub_refl _) (Keeps.refl _ _)) rfl h

theorem Block.runCmd_legal {b q i opc f} (h : Legal b) (hf : ∀ v0 v1, Legal v1 → Legal (f v0 v1)) :
    Legal (Block.runCmd b q i opc f) := by
  unfold Block.runCmd
  split
  · rename_i y0 y1
    exact h
  · rename_i y2 y3 y4
    refine Legal.choice (fun h5 => ?_) (fun h5 => ?_)
    · exact h
    · split
      · rename_i y6 y7
        refine Legal.choice (fun h8 => ?_) (fun h8 => ?_)
        · exact (Block.endCmd_legal h)
        · refine Legal.choice (fun h9 => ?_) (fun h9 => ?_)
          · exact (Block.endCmd_legal h)
          · apply hf
            exact h
      · rename_i y10 y11
        apply hf
        exact h
      · rename_i y12 y13
        refine Legal.choice (fun h14 => ?_) (fun h14 => ?_)
        · exact h
        · apply hf
          exact h
      · rename_i y15 y16 y17 y18
        exact h

theorem Block.fresh_legal {b w} (h : Legal b) : Legal (Block.fresh b w).2 :=
  Legal.keep (Block.fresh_keeps (sub_refl _) (Keeps.refl _ _)) rfl h

theorem Block.busyTime_legal {b us} (h : Legal b) : Legal (Block.busyTime b us).2 :=
  Legal.keep (Block.busyTime_keeps (sub_refl _) (Keeps.refl _ _)) rfl h

theorem Block.impResult_legal {b st} (h : Legal b) : Legal (Block.impResult b st) :=
  Legal.keep (Block.impResult_keeps (sub_refl _) (Keeps.refl _ _)) rfl h

theorem Block.doImport_legal {b rights} (h : Legal b) : Legal (Block.doImport b rights) :=
  Legal.keep (Block.doImport_keeps (sub_refl _) (Keeps.refl _ _)) rfl h

theorem Block.freeSemsOf_legal {b p} (h : Legal b) : Legal (Block.freeSemsOf b p) :=
  Legal.semsOf h rfl rfl rfl rfl (fun _ hk => .inl (List.mem_filter.1 hk).1)

theorem Block.portLost_legal {b p} (h : Legal b) :
    Legal (Block.portLost b p) := by
  unfold Block.portLost
  extract_lets z0 z1 z2 z3
  have h4 : Legal z0 := by
    subst z0
    exact (Block.freeSemsOf_legal h)
  have h5 : Legal z1 := by
    subst z1
    clear_value z3
    clear_value z2
    clear_value z0
    exact Legal.same h4 rfl rfl rfl rfl rfl
  have h6 : Legal z2 := by
    subst z2
    exact (Block.setField_legal (Block.unstagePath_legal h5))
  refine Legal.choice (fun h7 => ?_) (fun h7 => ?_)
  · clear_value z3
    clear_value z2
    clear_value z1
    clear_value z0
    exact Legal.same h6 rfl rfl rfl rfl rfl
  · exact (Block.event_legal h6)

theorem Block.writeSpace_legal {b space e off xs} (h : Legal b) : Legal (Block.writeSpace b space e off xs) := by
  unfold Block.writeSpace
  refine Legal.choice (fun _ => ?_) (fun _ => ?_)
  · exact Legal.mems h id id (Memory.wf_write _) id rfl
  · exact Legal.mems h id id id (Memory.wf_write _) rfl

theorem Block.startCadence_legal {b} (h : Legal b) : Legal (Block.startCadence b) :=
  Legal.keep (Block.startCadence_keeps (sub_refl _) (Keeps.refl _ _)) rfl h

theorem Block.readErr_legal {b pg path off typ ctx} (h : Legal b) : Legal (Block.readErr b pg path off typ ctx) :=
  Legal.keep (Block.readErr_keeps (sub_refl _) (Keeps.refl _ _)) rfl h

theorem Block.takeSem_legal {b path k} (hp : path = 1 ∨ path = 2 ∨ path = 3) (h : Legal b) : Legal (Block.takeSem b path k).2 := by
  unfold Block.takeSem
  refine Legal.choice (fun hc => ?_) (fun _ => h)
  refine Block.setSem_legal ?_ h
  rcases hp with hp | hp | hp
  · exact .inr (.inl hp)
  · exact .inr (.inr hp)
  · exact absurd hp hc.2.1

theorem Block.clearRc_legal {b path a} (h : Legal b) : Legal (Block.clearRc b path a) :=
  Legal.keep (Block.clearRc_keeps (sub_refl _) (Keeps.refl _ _)) rfl h

theorem Block.readEffect_legal : ∀ {b : Block} {path x : Nat}, (path = 1 ∨ path = 2 ∨ path = 3) → Legal b → Legal (Block.readEffect b path x) := by
  intro b path x hp h
  unfold Block.readEffect
  refine Legal.choice (fun h0 => ?_) (fun h0 => ?_)
  · refine Legal.choice (fun h1 => ?_) (fun h1 => ?_)
    · exact (Block.readErr_legal h)
    · refine Legal.choice (fun h2 => ?_) (fun h2 => ?_)
      · exact (Block.readErr_legal h)
      · exact h
  · refine Legal.choice (fun h3 => ?_) (fun h3 => ?_)
    · exact h
    · split
      · rename_i y4 y5 y6
        refine Block.takeSem_legal ?_ ?_
        · assumption
        · exact h
      · rename_i y7 y8
        refine Legal.choice (fun h9 => ?_) (fun h9 => ?_)
        · split
          · rename_i y10 y11 y12
            refine Legal.choice (fun h13 => ?_) (fun h13 => ?_)
            · exact (Block.setQueue_legal h)
            · exact h
          · rename_i y14 y15
            exact h
        · refine Legal.choice (fun h16 => ?_) (fun h16 => ?_)
          · exact (Block.clearRc_legal h)
          · exact h

theorem Block.read64_legal : ∀ {b : Block} {path x : Nat}, (path = 1 ∨ path = 2 ∨ path = 3) → Legal b → Legal (Block.read64 b path x).2 := by
  intro b path x hp h
  unfold Block.read64
  dsimp -zeta only
  refine Legal.choice (fun h0 => ?_) (fun h0 => ?_)
  · refine Block.readEffect_legal ?_ ?_
    · assumption
    · exact h
  · refine Block.readEffect_legal ?_ ?_
    · assumption
    · refine Block.readEffect_legal ?_ ?_
      · assumption
      · exact h

theorem Block.leftRun_legal {b p cause peer lost} (h : Legal b) :
    Legal (Block.leftRun b p cause peer lost) := by
  unfold Block.leftRun
  extract_lets z0 z1 z2 z3 z4
  have h5 : Legal z0 := by
    subst z0
    exact (Block.cinderRec_legal h)
  have h6 : Legal z1 := by
    subst z1
    refine Legal.choice (fun h7 => ?_) (fun h7 => ?_)
    · exact (Block.setField_legal h5)
    · exact h5
  have h8 : Legal z2 := by
    subst z2
    exact (Block.event_legal h6)
  have h9 : Legal z4 := by
    subst z4
    refine Legal.choice (fun h10 => ?_) (fun h10 => ?_)
    · refine Block.setLock_legal ?_
      clear_value z3
      clear_value z2
      clear_value z1
      clear_value z0
      exact Legal.same h8 rfl rfl rfl rfl rfl
    · exact h8
  exact (Block.noteLink_legal h9)

theorem Block.toState_legal {b p st cause} (h : Legal b) :
    Legal (Block.toState b p st cause) := by
  unfold Block.toState
  extract_lets z0 z1 z2 z3 z4 z5 z6 z7 z8
  have h9 : Legal z5 := by
    subst z5
    exact (Block.setPort_legal h)
  have h10 : Legal z6 := by
    subst z6
    refine Legal.choice (fun h11 => ?_) (fun h11 => ?_)
    · exact (Block.setField_legal h9)
    · exact h9
  have h12 : Legal z7 := by
    subst z7
    refine Legal.choice (fun h13 => ?_) (fun h13 => ?_)
    · exact h10
    · exact (Block.setReg_legal h10)
  have h14 : Legal z8 := by
    subst z8
    refine Legal.choice (fun h15 => ?_) (fun h15 => ?_)
    · exact (Block.setReg_legal h12)
    · exact h12
  refine Legal.choice (fun h16 => ?_) (fun h16 => ?_)
  · exact (Block.leftRun_legal h14)
  · exact h14

theorem Block.isolate_legal {b p cause} (h : Legal b) :
    Legal (Block.isolate b p cause) := by
  unfold Block.isolate
  exact (Block.toState_legal h)

theorem Block.attemptFails_legal {b p} (h : Legal b) :
    Legal (Block.attemptFails b p) := by
  unfold Block.attemptFails
  extract_lets z0 z1 z2 z3
  have h4 : Legal z3 := by
    subst z3
    exact (Block.setPort_legal h)
  refine Legal.choice (fun h5 => ?_) (fun h5 => ?_)
  · exact (Block.isolate_legal h4)
  · exact h4

theorem Block.takePins_legal {b ids} (h : Legal b) : Legal (Block.takePins b ids) :=
  Legal.keep (Block.takePins_keeps (sub_refl _) (Keeps.refl _ _)) rfl h

theorem Block.undoEnd_legal {b c} (h : Legal b) : Legal (Block.undoEnd b c) :=
  Legal.keep (Block.undoEnd_keeps (sub_refl _) (Keeps.refl _ _)) rfl h

theorem Block.endStalled_legal {b c} (h : Legal b) : Legal (Block.endStalled b c) :=
  Legal.keep (Block.endStalled_keeps (sub_refl _) (Keeps.refl _ _)) rfl h

theorem Block.ccTaken_legal {b line a} (h : Legal b) :
    Legal (Block.ccTaken b line a) := by
  unfold Block.ccTaken
  exact (Block.ccGo_legal (Block.ccEnd_legal (Block.modTxn_legal h)))

theorem Block.leaveDomain_legal {b a lose} (h : Legal b) :
    Legal (Block.leaveDomain b a lose) := by
  unfold Block.leaveDomain
  extract_lets z0 z1 z2 z3 z4 z5 z6 z7 z8 z9
  have h10 : Legal z1 := by
    subst z1
    exact (Block.ccMod_legal h)
  have h11 : Legal z2 := by
    subst z2
    refine Legal.foldl (fun b x h => ?_) _ ?_
    · refine Block.dropHolder_legal ?_
      exact h
    · exact h10
  have h12 : Legal z4 := by
    subst z4
    exact (Block.ccMod_legal h11)
  have h13 : Legal z5 := by
    subst z5
    refine Legal.foldl (fun b x h => ?_) _ ?_
    · refine Block.ccAnswer_legal ?_
      exact h
    · exact h12
  subst z6
  have h14 : Legal z8 := by
    subst z8
    refine Legal.foldl (fun b x h => ?_) _ ?_
    · refine Legal.choice (fun h15 => ?_) (fun h15 => ?_)
      · exact (Block.dropHolder_legal h)
      · exact h
    · exact h13
  have h16 : Legal z9 := by
    subst z9
    exact (Block.ccMod_legal h14)
  refine Legal.foldl (fun b x h => ?_) _ ?_
  · refine Block.ccTaken_legal ?_
    exact h
  · exact h16

theorem Block.settleItem_legal {b c t} (h : Legal b) : Legal (Block.settleItem b c t) :=
  Legal.keep (Block.settleItem_keeps (sub_refl _) (Keeps.refl _ _)) rfl h

theorem Block.resetEng_legal {b e} (h : Legal b) :
    Legal (Block.resetEng b e) := by
  unfold Block.resetEng
  extract_lets z0 z1 z2 z3 z4
  have h5 : Legal z0 := by
    subst z0
    exact (Block.ungate_legal (Block.dropEngWait_legal h))
  have h6 : Legal z1 := by
    subst z1
    refine Legal.choice (fun h7 => ?_) (fun h7 => ?_)
    · exact (Block.leaveDomain_legal h5)
    · exact h5
  have h8 : Legal z4 := by
    subst z4
    exact (Block.setEng_legal h6)
  clear_value z4
  clear_value z3
  clear_value z2
  clear_value z1
  clear_value z0
  split
  · rename_i y9 y10
    exact h8
  · rename_i y11 y12 y13 y14
    exact (Block.settleCmd_legal h8)
  · rename_i y15 y16 y17 y18
    exact (Block.settleItem_legal h8)

theorem Block.takeHeartbeat_legal {b p f} (h : Legal b) :
    Legal (Block.takeHeartbeat b p f) := by
  unfold Block.takeHeartbeat
  extract_lets z0 z1 z2
  refine Legal.choice (fun h3 => ?_) (fun h3 => ?_)
  · exact (Block.isolate_legal h)
  · exact (Block.setPort_legal h)

theorem Block.priDone_legal {b ctx page code} (h : Legal b) :
    Legal (Block.priDone b ctx page code) := by
  unfold Block.priDone
  split
  · rename_i y0 y1
    exact h
  · rename_i y2 y3 y4
    refine Legal.choice (fun h5 => ?_) (fun h5 => ?_)
    · exact h
    · split
      · rename_i y6
        extract_lets z7 z8 z9
        have h10 : Legal z9 := by
          subst z9
          clear_value z8
          clear_value z7
          exact Legal.same h rfl rfl rfl rfl rfl
        exact (Block.settleFaults_legal (Block.seekSource_legal (Block.modFault_legal h10)))
      · rename_i y11
        exact (Block.finishFault_legal h)
      · rename_i y12
        exact (Block.finishFault_legal (Block.setField_legal h))

theorem Block.setMcore_legal {b k v} (h : Legal b) : Legal (Block.setMcore b k v) :=
  Legal.keep (Block.setMcore_keeps (sub_refl _) (Keeps.refl _ _)) rfl h

theorem Block.startCore_legal {b c} (h : Legal b) : Legal (Block.startCore b c) :=
  Legal.keep (Block.startCore_keeps (sub_refl _) (Keeps.refl _ _)) rfl h

theorem Block.read32_legal : ∀ {b : Block} {path x : Nat}, (path = 1 ∨ path = 2 ∨ path = 3) → Legal b → Legal (Block.read32 b path x).2 := by
  intro b path x hp h
  unfold Block.read32
  dsimp -zeta only
  refine Block.readEffect_legal ?_ ?_
  · assumption
  · exact h

theorem Block.toTrain_legal {b p cause} (h : Legal b) :
    Legal (Block.toTrain b p cause) := by
  unfold Block.toTrain
  exact (Block.toState_legal h)

theorem Block.errReplayed_legal {b p payload} (h : Legal b) : Legal (Block.errReplayed b p payload) :=
  Legal.keep (Block.errReplayed_keeps (sub_refl _) (Keeps.refl _ _)) rfl h

theorem Block.replay_legal {b p} (h : Legal b) :
    Legal (Block.replay b p) := by
  unfold Block.replay
  extract_lets z0 z1 z2 z3
  have h4 : Legal z3 := by
    subst z3
    exact (Block.setPort_legal h)
  refine Legal.choice (fun h5 => ?_) (fun h5 => ?_)
  · exact h
  · refine Legal.choice (fun h6 => ?_) (fun h6 => ?_)
    · exact (Block.toTrain_legal h)
    · refine Legal.foldl (fun b x h => ?_) _ ?_
      · refine Block.errReplayed_legal ?_
        exact h
      · exact (Block.count32_legal h4)

theorem Block.bumpEpoch_legal {b} (h : Legal b) : Legal (Block.bumpEpoch b) :=
  Legal.keep (Block.bumpEpoch_keeps (sub_refl _) (Keeps.refl _ _)) rfl h

theorem Block.tryInvRange_legal {b c ctx va len ids} (h : Legal b) :
    Legal (Block.tryInvRange b c ctx va len ids) := by
  unfold Block.tryInvRange
  refine Legal.choice (fun h0 => ?_) (fun h0 => ?_)
  · exact h
  · extract_lets z1 z2
    have h3 : Legal z1 := by
      subst z1
      exact (Block.dropRange_legal h)
    have h4 : Legal z2 := by
      subst z2
      refine Legal.foldl (fun b x h => ?_) _ ?_
      · refine Block.demote_legal ?_
        exact h
      · exact h3
    refine Legal.choice (fun h5 => ?_) (fun h5 => ?_)
    · exact h4
    · exact (Block.endCmd_legal (Block.bumpEpoch_legal (Block.takePins_legal h4)))

theorem Block.mapOut_legal {b s ch} (h : Legal b) : Legal (Block.mapOut b s ch) :=
  Legal.keep (Block.mapOut_keeps (sub_refl _) (Keeps.refl _ _)) rfl h

theorem Block.dropLine_legal {b a line} (h : Legal b) : Legal (Block.dropLine b a line) :=
  Legal.keep (Block.dropLine_keeps (sub_refl _) (Keeps.refl _ _)) rfl h

theorem Block.ccEvict_legal {b m} (h : Legal b) :
    Legal (Block.ccEvict b m) := by
  unfold Block.ccEvict
  extract_lets z0 z1 z2 z3
  have h4 : Legal z0 := by
    subst z0
    exact (Block.dropLine_legal h)
  have h5 : Legal z1 := by
    subst z1
    exact (Block.dropHolder_legal h4)
  have h6 : Legal z2 := by
    subst z2
    refine Legal.choice (fun h7 => ?_) (fun h7 => ?_)
    · exact (Block.putLine_legal h5)
    · exact h5
  have h8 : Legal z3 := by
    subst z3
    exact (Block.ccSend_legal h6)
  clear_value z3
  clear_value z2
  clear_value z1
  clear_value z0
  split
  · rename_i y9 y10 y11
    refine Legal.choice (fun h12 => ?_) (fun h12 => ?_)
    · exact (Block.ccAnswer_legal h8)
    · exact (Block.ccRequest_legal h4)
  · rename_i y13 y14
    exact (Block.ccRequest_legal h4)

theorem Block.appendSig_legal {b path v} (h : Legal b) : Legal (Block.appendSig b path v) :=
  Legal.keep (Block.appendSig_keeps (sub_refl _) (Keeps.refl _ _)) rfl h

theorem modeWrite_legal {x0 x1 x2 x3} (h : Legal x0) : Legal (modeWrite x0 x1 x2 x3) :=
  Legal.keep (modeWrite_keeps (sub_refl _) (Keeps.refl _ _)) rfl h

theorem Block.openKq0_legal {b} (h : Legal b) : Legal (Block.openKq0 b) :=
  Legal.keep (Block.openKq0_keeps (sub_refl _) (Keeps.refl _ _)) rfl h

theorem Block.setWord48_legal {b core a v} (h : Legal b) : Legal (Block.setWord48 b core a v) :=
  Legal.keep (Block.setWord48_keeps (sub_refl _) (Keeps.refl _ _)) rfl h

theorem Block.setBound_legal {b k v} (h : Legal b) : Legal (Block.setBound b k v) :=
  Legal.keep (Block.setBound_keeps (sub_refl _) (Keeps.refl _ _)) rfl h

theorem Block.checkBound_legal {b k} (h : Legal b) : Legal (Block.checkBound b k) :=
  Legal.keep (Block.checkBound_keeps (sub_refl _) (Keeps.refl _ _)) rfl h

theorem Block.checkBounds_legal {b ss} (h : Legal b) : Legal (Block.checkBounds b ss) :=
  Legal.keep (Block.checkBounds_keeps (sub_refl _) (Keeps.refl _ _)) rfl h

theorem Block.wakeEngs_legal {b es} (h : Legal b) : Legal (Block.wakeEngs b es) :=
  Legal.keep (Block.wakeEngs_keeps (sub_refl _) (Keeps.refl _ _)) rfl h

theorem Block.wakeOne_legal {b value w} (h : Legal b) : Legal (Block.wakeOne b value w) :=
  Legal.keep (Block.wakeOne_keeps (sub_refl _) (Keeps.refl _ _)) rfl h

theorem Block.evalWaiters_legal {b s} (h : Legal b) : Legal (Block.evalWaiters b s) :=
  Legal.keep (Block.evalWaiters_keeps (sub_refl _) (Keeps.refl _ _)) rfl h

theorem Block.settleWicks_legal {b old ss} (h : Legal b) (h1 : Legal old) :
    Legal (Block.settleWicks b old ss) := by
  unfold Block.settleWicks
  extract_lets z0
  refine Block.fixDeadlines_legal ?_
  refine Block.checkBounds_legal ?_
  refine Legal.foldl (fun b x h => ?_) _ ?_
  · refine Block.evalWaiters_legal ?_
    exact h
  · exact h

theorem Block.fabricDrop_legal {b cause target} (h : Legal b) : Legal (Block.fabricDrop b cause target) :=
  Legal.keep (Block.fabricDrop_keeps (sub_refl _) (Keeps.refl _ _)) rfl h

theorem Block.recvWick_legal {b token v} (h : Legal b) : Legal (Block.recvWick b token v) :=
  Legal.keep (Block.recvWick_keeps (sub_refl _) (Keeps.refl _ _)) rfl h

theorem Block.bindTask_legal {b c id l ring wick log2} (h : Legal b) :
    Legal (Block.bindTask b c id l ring wick log2) := by
  unfold Block.bindTask
  extract_lets z0 z1 z2 z3
  subst z0
  have h4 : Legal z2 := by
    subst z2
    refine Legal.foldl (fun b x h => ?_) _ ?_
    · refine Block.setEng_legal ?_
      exact h
    · exact h
  have h5 : Legal z3 := by
    subst z3
    exact (Block.profStart_legal h4)
  refine Legal.choice (fun h6 => ?_) (fun h6 => ?_)
  · dsimp -zeta only
    exact (Block.endCmd_legal (Block.modCmd_legal (Block.releaseEngs_legal h)))
  · refine Legal.choice (fun h7 => ?_) (fun h7 => ?_)
    · dsimp -zeta only
      exact (Block.endCmd_legal (Block.modCmd_legal (Block.releaseEngs_legal h)))
    · clear_value z3
      clear_value z2
      clear_value z1
      split
      · rename_i y8 y9
        dsimp -zeta only
        exact (Block.endCmd_legal (Block.modCmd_legal (Block.releaseEngs_legal h)))
      · rename_i y10 y11 y12
        split
        · rename_i y13 y14 y15
          extract_lets z16 z17 z18
          have h19 : Legal z17 := by
            subst z17
            clear_value z18
            clear_value z16
            exact Legal.same h5 rfl rfl rfl rfl rfl
          have h20 : Legal z18 := by
            subst z18
            exact (Block.modCmd_legal h19)
          exact (Block.waitItem_legal (Block.endCmd_legal h20))
        · rename_i y21 y22 y23
          dsimp -zeta only
          exact (Block.endCmd_legal (Block.modCmd_legal (Block.releaseEngs_legal h)))
        · rename_i y24 y25 y26 y27
          refine Block.poisonCmd_legal ?_
          dsimp -zeta only
          exact (Block.endCmd_legal (Block.modCmd_legal (Block.releaseEngs_legal h)))
        · rename_i y28 y29 y30 y31
          exact (Block.meet_legal h)

theorem Block.placeOne_legal {b c} (h : Legal b) :
    Legal (Block.placeOne b c) := by
  unfold Block.placeOne
  refine Legal.choice (fun h0 => ?_) (fun h0 => ?_)
  · exact h
  · split
    · rename_i y1 y2 y3 y4 y5 y6 y7
      exact (Block.bindTask_legal h)
    · rename_i y8 y9
      split
      · rename_i y10 y11 y12
        exact (Block.startLaunch_legal h)
      · rename_i y13 y14
        extract_lets z15
        have h16 : Legal z15 := by
          subst z15
          refine Legal.foldl (fun b x h => ?_) _ ?_
          · refine Block.setEng_legal ?_
            exact h
          · exact h
        exact (Block.fixDeadlines_legal (Block.modCmd_legal h16))

theorem Block.placeHeld_legal {b h'} (h : Legal b) :
    Legal (Block.placeHeld b h') := by
  unfold Block.placeHeld
  refine Legal.foldl (fun b x h => ?_) _ ?_
  · split
    · rename_i y0 y1 y2
      exact (Block.placeOne_legal h)
    · rename_i y3 y4
      exact h
  · exact h

theorem Block.reserve_legal {b c es} (h : Legal b) : Legal (Block.reserve b c es) :=
  Legal.keep (Block.reserve_keeps (sub_refl _) (Keeps.refl _ _)) rfl h

theorem Block.placeN_legal {k : Nat}  : ∀ {n : Nat} {b : Block}, Legal b → Legal (Block.placeN k n b)
  | 0, _, h => h
  | n + 1, b, h => by
    unfold Block.placeN
    split
    · exact h
    · split
      · exact Block.placeN_legal (Block.dropPlacing_legal h)
      · split
        · exact Block.placeN_legal (Block.endCmd_legal h)
        · split
          · exact h
          · rename_i c _ _ _ _ es _
            have hr : Legal (b.reserve c es) := Block.reserve_legal h
            refine Block.placeN_legal ?_
            split
            · exact Block.placeOne_legal hr
            · exact hr

theorem Block.placeAll_legal {b h'} (h : Legal b) :
    Legal (Block.placeAll b h') := by
  unfold Block.placeAll
  refine Legal.choice (fun h0 => ?_) (fun h0 => ?_)
  · extract_lets z1
    have h2 : Legal z1 := by
      subst z1
      exact (Block.placeHeld_legal h)
    exact (Block.placeN_legal h2)
  · exact h

theorem Block.dropEngine_legal {b e} (h : Legal b) :
    Legal (Block.dropEngine b e) := by
  unfold Block.dropEngine
  extract_lets z0 z1 z2
  have h3 : Legal z0 := by
    subst z0
    exact (Block.ungate_legal h)
  have h4 : Legal z1 := by
    subst z1
    refine Legal.choice (fun h5 => ?_) (fun h5 => ?_)
    · exact (Block.leaveDomain_legal h3)
    · exact h3
  exact (Block.retireInst_legal (Block.setEng_legal h4))

theorem Block.recheckWaits_legal {b h'} (h : Legal b) : Legal (Block.recheckWaits b h') :=
  Legal.keep (Block.recheckWaits_keeps (sub_refl _) (Keeps.refl _ _)) rfl h

theorem Block.loseEngine_legal {b e} (h : Legal b) :
    Legal (Block.loseEngine b e) := by
  unfold Block.loseEngine
  extract_lets z0 z1 z2 z3
  have h4 : Legal z1 := by
    subst z1
    exact (Block.dropEngine_legal h)
  have h5 : Legal z2 := by
    subst z2
    exact (Block.mapCmds_legal h4)
  have h6 : Legal z3 := by
    subst z3
    clear_value z2
    clear_value z1
    clear_value z0
    split
    · rename_i y7 y8
      exact (Block.placeAll_legal (Block.recheckWaits_legal (Block.setHarness_legal h5)))
    · rename_i y9
      exact h5
  exact (Block.changeCaps_legal (Block.settleGrow_legal h6))

theorem Block.noSpareLeft_legal {b} (h : Legal b) : Legal (Block.noSpareLeft b) :=
  Legal.keep (Block.noSpareLeft_keeps (sub_refl _) (Keeps.refl _ _)) rfl h

theorem Block.takeOver_legal {b k} (h : Legal b) : Legal (Block.takeOver b k) :=
  Legal.keep (Block.takeOver_keeps (sub_refl _) (Keeps.refl _ _)) rfl h

theorem Block.setArms_legal {b pg v} (h : Legal b) : Legal (Block.setArms b pg v) :=
  Legal.keep (Block.setArms_keeps (sub_refl _) (Keeps.refl _ _)) rfl h

theorem Block.ueEvent_legal {b pg kind x3} (h : Legal b) : Legal (Block.ueEvent b pg kind x3) :=
  Legal.keep (Block.ueEvent_keeps (sub_refl _) (Keeps.refl _ _)) rfl h

theorem Block.storageUe_legal {b kind x2} (h : Legal b) : Legal (Block.storageUe b kind x2) :=
  Legal.keep (Block.storageUe_keeps (sub_refl _) (Keeps.refl _ _)) rfl h

theorem Block.ccDown_legal {b cause agent} (h : Legal b) : Legal (Block.ccDown b cause agent) :=
  Legal.keep (Block.ccDown_keeps (sub_refl _) (Keeps.refl _ _)) rfl h

theorem Block.mwFail_legal {b k} (h : Legal b) : Legal (Block.mwFail b k) :=
  Legal.keep (Block.mwFail_keeps (sub_refl _) (Keeps.refl _ _)) rfl h

theorem Block.toHal_legal {b c} (h : Legal b) :
    Legal (Block.toHal b c) := by
  unfold Block.toHal
  split
  · rename_i y0 y1
    exact (Block.endCmd_legal h)
  · rename_i y2 y3 y4
    extract_lets z5
    have h6 : Legal z5 := by
      subst z5
      split
      · rename_i y7 y8
        exact (Block.enterPlacing_legal h)
      · rename_i y9 y10
        exact h
    exact (Block.placeAll_legal h6)

theorem Block.whenPlaced_legal {b c f} (h : Legal b) (hf : ∀ v0, Legal v0 → Legal (f v0)) :
    Legal (Block.whenPlaced b c f) := by
  unfold Block.whenPlaced
  refine Legal.choice (fun h0 => ?_) (fun h0 => ?_)
  · split
    · rename_i y1 y2
      exact (Block.toHal_legal h)
    · rename_i y3 y4
      exact h
    · rename_i y5 y6 y7
      apply hf
      exact h
  · apply hf
    exact h

theorem Block.reissue_legal {b} (h : Legal b) :
    Legal (Block.reissue b) := by
  unfold Block.reissue
  extract_lets z0
  have h1 : Legal z0 := by
    subst z0
    refine Legal.foldl (fun b x h => ?_) _ ?_
    · extract_lets z2
      have h3 : Legal z2 := by
        subst z2
        exact (Block.putLine_legal h)
      refine Legal.choice (fun h4 => ?_) (fun h4 => ?_)
      · exact (Block.ccMod_legal h3)
      · exact h3
    · exact h
  exact (Block.ccMod_legal h1)

theorem Block.signalOne_legal {b slot setmax v win} (h : Legal b) : Legal (Block.signalOne b slot setmax v win) :=
  Legal.keep (Block.signalOne_keeps (sub_refl _) (Keeps.refl _ _)) rfl h

theorem Block.dmaTouch_legal {b c space a len} (h : Legal b) : Legal (Block.dmaTouch b c space a len) :=
  Legal.keep (Block.dmaTouch_keeps (sub_refl _) (Keeps.refl _ _)) rfl h

theorem Block.loseLock_legal {b} (h : Legal b) : Legal (Block.loseLock b) :=
  Legal.keep (Block.loseLock_keeps (sub_refl _) (Keeps.refl _ _)) rfl h

theorem Block.stopTask_legal {b c all t} (h : Legal b) : Legal (Block.stopTask b c all t) :=
  Legal.keep (Block.stopTask_keeps (sub_refl _) (Keeps.refl _ _)) rfl h

theorem petWrite_legal {x0 x1 x2 x3} (h : Legal x0) : Legal (petWrite x0 x1 x2 x3) :=
  Legal.keep (petWrite_keeps (sub_refl _) (Keeps.refl _ _)) rfl h

theorem Block.stopDrop_legal {b} (h : Legal b) : Legal (Block.stopDrop b) :=
  Legal.keep (Block.stopDrop_keeps (sub_refl _) (Keeps.refl _ _)) rfl h

theorem Block.bndDisable_legal {b v} (h : Legal b) : Legal (Block.bndDisable b v) :=
  Legal.keep (Block.bndDisable_keeps (sub_refl _) (Keeps.refl _ _)) rfl h

theorem Block.dirtyData_legal {b : Block}  (h : Legal b) : Legal b.dirtyData.2 := by
  unfold Block.dirtyData
  have key : ∀ (l : List Nat) (x : BitVec 512 × Block), Legal x.2 → Legal (l.foldl (fun x k =>
      let y := x.2.fresh 64
      (x.1 ||| BitVec.ofNat 512 (y.1 * 2 ^ (64 * k)), y.2)) x).2 := by
    intro l
    induction l with
    | nil => exact fun _ h => h
    | cons k t ih => exact fun x h => ih _ (Block.fresh_legal (w := 64) h)
  exact key _ _ h

end Sys2Proof.Laws
end

