-- ==== Sys2Proof/Laws/Keep2.lean ====
section
/-!
SUPPORT. Each operation and each row keeps the invariant. Part 2 of 3.
-/
namespace Sys2Proof.Laws

open Sys2Proof Sys2Proof.Machine Sys2Proof.Safety

theorem Block.ccSpill_legal {b line} (h : Legal b) :
    Legal (Block.ccSpill b line) := by
  unfold Block.ccSpill
  extract_lets z0
  have h1 : Legal z0.2 := by
    subst z0
    refine Block.dirtyData_legal ?_
    exact h
  refine Block.putLine_legal ?_
  exact h1

theorem Block.ccInvalidate_legal {b agent line} (h : Legal b) :
    Legal (Block.ccInvalidate b agent line) := by
  unfold Block.ccInvalidate
  extract_lets z0
  have h1 : Legal z0 := by
    subst z0
    refine Legal.choice (fun h2 => ?_) (fun h2 => ?_)
    · exact (Block.ccSpill_legal h)
    · exact h
  exact (Block.ccSend_legal (Block.dropLine_legal h1))

theorem Block.calm_legal {b} (h : Legal b) : Legal (Block.calm b) :=
  Legal.keep (Block.calm_keeps (sub_refl _) (Keeps.refl _ _)) rfl h

theorem Block.codeWrite_legal {b r a v} (h : Legal b) : Legal (Block.codeWrite b r a v) :=
  Legal.keep (Block.codeWrite_keeps (sub_refl _) (Keeps.refl _ _)) rfl h

theorem plainWrite_legal {x0 x1 x2 x3} (h : Legal x0) : Legal (plainWrite x0 x1 x2 x3) :=
  Legal.keep (plainWrite_keeps (sub_refl _) (Keeps.refl _ _)) rfl h

theorem roleWrite_legal {x0 x1 x2 x3} (h : Legal x0) : Legal (roleWrite x0 x1 x2 x3) :=
  Legal.keep (roleWrite_keeps (sub_refl _) (Keeps.refl _ _)) rfl h

theorem Block.cancelWork_legal {b e} (h : Legal b) : Legal (Block.cancelWork b e) :=
  Legal.keep (Block.cancelWork_keeps (sub_refl _) (Keeps.refl _ _)) rfl h

theorem Block.tbCtlWrite_legal {b path v} (h : Legal b) : Legal (Block.tbCtlWrite b path v) :=
  Legal.keep (Block.tbCtlWrite_keeps (sub_refl _) (Keeps.refl _ _)) rfl h

theorem Block.traceFault_legal {b k} (h : Legal b) : Legal (Block.traceFault b k) :=
  Legal.keep (Block.traceFault_keeps (sub_refl _) (Keeps.refl _ _)) rfl h

theorem Block.viaHome_legal {b ctx va n go} (h : Legal b) (h1 : Legal go) :
    Legal (Block.viaHome b ctx va n go) := by
  unfold Block.viaHome
  split
  · rename_i y0 y1 y2
    refine Legal.choice (fun h3 => ?_) (fun h3 => ?_)
    · exact (Block.homeAsk_legal h)
    · exact h1
  · rename_i y4 y5
    exact h1

theorem Block.traceWrite_legal {k : Nat}  : ∀ {n : Nat} {b : Block}, Legal b → Legal (Block.traceWrite k n b)
  | 0, _, h => h
  | n + 1, b, h => by
    unfold Block.traceWrite
    extract_lets t
    split
    · exact h
    · split
      · split
        · rename_i e
          exact Block.traceWrite_legal (Block.setTbuf_legal (Block.writeHome_legal h e))
        · exact Block.traceFault_legal h
        · exact Block.traceFault_legal h
        · exact Block.askAts_legal h
        · exact Block.viaHome_legal h h
        · exact h
        · exact h
      · exact h

theorem Block.traceDma_legal {b k n} (h : Legal b) :
    Legal (Block.traceDma b k n) := by
  unfold Block.traceDma
  extract_lets z0 z1 z2
  have h3 : Legal z1 := by
    subst z1
    exact (Block.traceWrite_legal h)
  exact (Block.count_legal h3)

theorem traceCtlWrite_legal {x0 x1 x2 x3} (h : Legal x0) :
    Legal (traceCtlWrite x0 x1 x2 x3) := by
  unfold traceCtlWrite
  extract_lets z0 z1 z2
  have h3 : Legal z2 := by
    subst z2
    exact (Block.tbCtlWrite_legal h)
  refine Legal.choice (fun h4 => ?_) (fun h4 => ?_)
  · exact (Block.traceDma_legal h3)
  · exact h3

theorem rateWrite_legal {x0 x1 x2 x3} (h : Legal x0) : Legal (rateWrite x0 x1 x2 x3) :=
  Legal.keep (rateWrite_keeps (sub_refl _) (Keeps.refl _ _)) rfl h

theorem Block.writeCaps_legal {b} (h : Legal b) : Legal (Block.writeCaps b) :=
  Legal.keep (Block.writeCaps_keeps (sub_refl _) (Keeps.refl _ _)) rfl h

theorem Block.endOrder_legal {b} (h : Legal b) : Legal (Block.endOrder b) :=
  Legal.keep (Block.endOrder_keeps (sub_refl _) (Keeps.refl _ _)) rfl h

theorem Block.postCancelled_legal {b cs} (h : Legal b) : Legal (Block.postCancelled b cs) :=
  Legal.keep (Block.postCancelled_keeps (sub_refl _) (Keeps.refl _ _)) rfl h

theorem Block.l1Reset_legal {b e} (h : Legal b) :
    Legal (Block.l1Reset b e) := by
  unfold Block.l1Reset
  extract_lets z0 z1 z2
  have h3 : Legal z1 := by
    subst z1
    exact (Block.count_legal (Block.resetEng_legal (Block.cancelWork_legal h)))
  have h4 : Legal z2 := by
    subst z2
    refine Legal.choice (fun h5 => ?_) (fun h5 => ?_)
    · exact (Block.event_legal h3)
    · refine Legal.foldl (fun b x h => ?_) _ ?_
      · refine Block.event_legal ?_
        exact h
      · exact h3
  exact (Block.postCancelled_legal h4)

theorem Block.discardHeld_legal {b p} (h : Legal b) : Legal (Block.discardHeld b p) :=
  Legal.mems h (fun hd => Memory.wf_foldl (fun _ _ hm => Memory.wf_set _ _ hm) _ hd) id id id rfl

theorem Block.lightEngs_legal {b es} (h : Legal b) : Legal (Block.lightEngs b es) :=
  Legal.keep (Block.lightEngs_keeps (sub_refl _) (Keeps.refl _ _)) rfl h

theorem Block.l2Reset_legal {b h'} (h : Legal b) :
    Legal (Block.l2Reset b h') := by
  unfold Block.l2Reset
  extract_lets z0 z1 z2 z3 z4 z5 z6 z7 z8 z9
  have h10 : Legal z3 := by
    subst z3
    exact (Block.setHarness_legal h)
  have h11 : Legal z4 := by
    subst z4
    refine Legal.foldl (fun b x h => ?_) _ ?_
    · refine Block.cancelWork_legal ?_
      exact h
    · exact h10
  have h12 : Legal z5 := by
    subst z5
    refine Legal.foldl (fun b x h => ?_) _ ?_
    · refine Block.resetEng_legal ?_
      exact h
    · exact h11
  have h13 : Legal z6 := by
    subst z6
    exact (Block.discardHeld_legal h12)
  have h14 : Legal z7 := by
    subst z7
    refine Legal.foldl (fun b x h => ?_) _ ?_
    · refine Block.setEng_legal ?_
      exact h
    · exact h13
  have h15 : Legal z8 := by
    subst z8
    exact (Block.count_legal (Block.bumpEpoch_legal h14))
  have h16 : Legal z9 := by
    subst z9
    refine Legal.choice (fun h17 => ?_) (fun h17 => ?_)
    · exact h15
    · exact (Block.lightEngs_legal h15)
  exact (Block.postCancelled_legal h16)

theorem Block.resetLedger_legal {b cause} (h : Legal b) : Legal (Block.resetLedger b cause) :=
  Legal.keep (Block.resetLedger_keeps (sub_refl _) (Keeps.refl _ _)) rfl h

theorem Block.resetRegs_legal {b} (h : Legal b) : Legal (Block.resetRegs b) :=
  Legal.keep (Block.resetRegs_keeps (sub_refl _) (Keeps.refl _ _)) rfl h

theorem Block.resetSlots_legal {b} (h : Legal b) : Legal (Block.resetSlots b) :=
  Legal.keep (Block.resetSlots_keeps (sub_refl _) (Keeps.refl _ _)) rfl h

theorem Block.coreReset_legal {b : Block} (h : Legal b) : Legal b.coreReset := by
  have h1 : Legal b.resetSlots.resetRegs := Block.resetRegs_legal (Block.resetSlots_legal h)
  exact Legal.semsOf h1 rfl rfl rfl rfl (fun _ h => nomatch h)

theorem Block.l3Reset_legal {b} (h : Legal b) :
    Legal (Block.l3Reset b) := by
  unfold Block.l3Reset
  extract_lets z0 z1 z2
  have h3 : Legal z0 := by
    subst z0
    refine Legal.foldl (fun b x h => ?_) _ ?_
    · refine Block.postErr_legal ?_
      exact h
    · exact h
  have h4 : Legal z1 := by
    subst z1
    exact (Block.count_legal h3)
  have h5 : Legal z2 := by
    subst z2
    exact (Block.coreReset_legal h4)
  refine Block.resetLedger_legal ?_
  clear_value z2
  clear_value z1
  clear_value z0
  exact Legal.same h5 rfl rfl rfl rfl rfl

theorem Block.l4Cycle_legal {b} (h : Legal b) :
    Legal (Block.l4Cycle b) := by
  unfold Block.l4Cycle
  extract_lets z0 z1 z2 z3 z4 z5
  have h6 : Legal z0 := by
    subst z0
    refine Legal.foldl (fun b x h => ?_) _ ?_
    · refine Block.postErr_legal ?_
      exact h
    · exact h
  have h7 : Legal z1 := by
    subst z1
    exact (Block.cinderRec_legal h6)
  have h8 : Legal z2 := by
    subst z2
    exact (Block.coreReset_legal h7)
  have h9 : Legal z3 := by
    subst z3
    clear_value z5
    clear_value z4
    clear_value z2
    clear_value z1
    clear_value z0
    exact Legal.same h8 rfl rfl rfl rfl rfl
  have h10 : Legal z5 := by
    subst z5
    clear_value z4
    clear_value z3
    clear_value z2
    clear_value z1
    clear_value z0
    exact Legal.same h9 rfl rfl rfl rfl rfl
  exact (Block.setField_legal h10)

theorem Block.actOrder_legal {b o} (h : Legal b) :
    Legal (Block.actOrder b o) := by
  unfold Block.actOrder
  extract_lets z0
  have h1 : Legal z0 := by
    subst z0
    exact Legal.same h rfl rfl rfl rfl rfl
  split
  · rename_i y2 y3
    refine Legal.choice (fun h4 => ?_) (fun h4 => ?_)
    · exact (Block.endOrder_legal h1)
    · exact (Block.loseCtx_legal h1)
  · rename_i y5 y6
    exact (Block.l1Reset_legal h1)
  · rename_i y7 y8
    exact (Block.l2Reset_legal h1)
  · rename_i y9 y10
    exact (Block.l3Reset_legal h1)
  · rename_i y11 y12 y13 y14 y15
    exact (Block.l4Cycle_legal h1)

theorem Block.spillAll_legal {b k} (h : Legal b) :
    Legal (Block.spillAll b k) := by
  unfold Block.spillAll
  refine Legal.foldl (fun b x h => ?_) _ ?_
  · refine Block.ccSpill_legal ?_
    exact h
  · exact h

theorem Block.handTo_legal {b c} (h : Legal b) :
    Legal (Block.handTo b c) := by
  unfold Block.handTo
  extract_lets z0
  exact (Block.startCore_legal (Block.leaveDomain_legal (Block.spillAll_legal h)))

theorem Block.regWrite_legal {b path a f} (h : Legal b) (hf : ∀ v0, Legal v0 → Legal (f v0)) :
    Legal (Block.regWrite b path a f) := by
  unfold Block.regWrite
  refine Legal.choice (fun h0 => ?_) (fun h0 => ?_)
  · exact h
  · refine Legal.choice (fun h1 => ?_) (fun h1 => ?_)
    · refine Legal.choice (fun h2 => ?_) (fun h2 => ?_)
      · apply hf
        exact h
      · exact h
    · refine Legal.choice (fun h3 => ?_) (fun h3 => ?_)
      · exact (Block.stopDrop_legal h)
      · refine Legal.choice (fun h4 => ?_) (fun h4 => ?_)
        · refine Legal.choice (fun h5 => ?_) (fun h5 => ?_)
          · apply hf
            exact h
          · exact (Block.pageErr_legal h)
        · refine Legal.choice (fun h6 => ?_) (fun h6 => ?_)
          · exact (Block.pageErr_legal h)
          · apply hf
            exact h

theorem Block.convertBoot_legal {b e} (h : Legal b) : Legal (Block.convertBoot b e) :=
  Legal.keep (Block.convertBoot_keeps (sub_refl _) (Keeps.refl _ _)) rfl h

theorem Block.clearBootmap_legal {b path} (h : Legal b) : Legal (Block.clearBootmap b path) :=
  Legal.keep (Block.clearBootmap_keeps (sub_refl _) (Keeps.refl _ _)) rfl h

theorem ztCtlWrite_legal {x0 x1 x2 x3} (h : Legal x0) : Legal (ztCtlWrite x0 x1 x2 x3) :=
  Legal.keep (ztCtlWrite_keeps (sub_refl _) (Keeps.refl _ _)) rfl h

theorem lockWrite_legal {k x1 x2 x3 x4} (h : Legal x1) :
    Legal (lockWrite k x1 x2 x3 x4) := by
  unfold lockWrite
  refine Legal.choice (fun h0 => ?_) (fun h0 => ?_)
  · exact (Block.freeSem_legal h)
  · exact h

theorem Block.takeTs2_legal {b p lane rxok} (h : Legal b) : Legal (Block.takeTs2 b p lane rxok) :=
  Legal.keep (Block.takeTs2_keeps (sub_refl _) (Keeps.refl _ _)) rfl h

theorem Block.retireLl_legal {b k} (h : Legal b) :
    Legal (Block.retireLl b k) := by
  unfold Block.retireLl
  refine Legal.choice (fun h0 => ?_) (fun h0 => ?_)
  · exact (Block.retireInst_legal h)
  · split
    · rename_i y1 y2 y3
      exact (Block.enterSpare_legal (Block.retireInst_legal (Block.handTo_legal h)))
    · rename_i y4 y5
      exact (Block.noSpareLeft_legal (Block.retireInst_legal h))

theorem Block.retireWalker_legal {b k} (h : Legal b) : Legal (Block.retireWalker b k) :=
  Legal.keep (Block.retireWalker_keeps (sub_refl _) (Keeps.refl _ _)) rfl h

theorem Block.moveRow_legal {b s} (h : Legal b) : Legal (Block.moveRow b s) :=
  Legal.keep (Block.moveRow_keeps (sub_refl _) (Keeps.refl _ _)) rfl h

theorem Block.retireRow_legal {b r} (h : Legal b) : Legal (Block.retireRow b r) :=
  Legal.keep (Block.retireRow_keeps (sub_refl _) (Keeps.refl _ _)) rfl h

theorem Block.retireWay_legal {b w} (h : Legal b) :
    Legal (Block.retireWay b w) := by
  unfold Block.retireWay
  extract_lets z0 z1 z2 z3
  have h4 : Legal z2 := by
    subst z2
    exact (Block.retireInst_legal h)
  have h5 : Legal z3 := by
    subst z3
    clear_value z2
    clear_value z1
    clear_value z0
    split
    · rename_i y6 y7
      exact (Block.enterSpare_legal h4)
    · rename_i y8
      exact h4
  refine Legal.foldl (fun b x h => ?_) _ ?_
  · refine Block.ccRequest_legal ?_
    exact (Block.count32_legal h)
  · exact h5

theorem Block.retireRange_legal {b k} (h : Legal b) : Legal (Block.retireRange b k) :=
  Legal.keep (Block.retireRange_keeps (sub_refl _) (Keeps.refl _ _)) rfl h

theorem Block.laneFails_legal {b p} (h : Legal b) :
    Legal (Block.laneFails b p) := by
  unfold Block.laneFails
  extract_lets z0 z1 z2 z3 z4 z5 z6
  have h7 : Legal z2 := by
    subst z2
    exact (Block.setField_legal h)
  have h8 : Legal z4 := by
    subst z4
    exact (Block.setWear_legal h7)
  have h9 : Legal z6 := by
    subst z6
    exact (Block.setPort_legal h8)
  refine Legal.choice (fun h10 => ?_) (fun h10 => ?_)
  · exact (Block.toTrain_legal h9)
  · exact (Block.modPort_legal h9)

theorem Block.retireLane_legal {b k} (h : Legal b) :
    Legal (Block.retireLane b k) := by
  unfold Block.retireLane
  extract_lets z0 z1 z2 z3
  have h4 : Legal z2 := by
    subst z2
    exact (Block.retireInst_legal h)
  have h5 : Legal z3 := by
    subst z3
    clear_value z2
    clear_value z1
    clear_value z0
    split
    · rename_i y6 y7
      exact (Block.enterSpare_legal h4)
    · rename_i y8
      exact h4
  refine Legal.choice (fun h9 => ?_) (fun h9 => ?_)
  · exact (Block.laneFails_legal h5)
  · exact (Block.modPort_legal h5)

theorem Block.retireNow_legal {b kind x2} (h : Legal b) :
    Legal (Block.retireNow b kind x2) := by
  unfold Block.retireNow
  split
  · rename_i y0
    exact (Block.retireLl_legal h)
  · rename_i y1
    exact (Block.retireWalker_legal h)
  · rename_i y2
    exact (Block.retireRow_legal h)
  · rename_i y3
    exact (Block.retireWay_legal h)
  · rename_i y4
    exact (Block.retireRange_legal h)
  · rename_i y5
    exact (Block.retireLane_legal h)
  · rename_i y6
    exact (Block.setEng_legal h)
  · rename_i y7
    exact (Block.setEng_legal h)
  · rename_i y8
    refine Legal.choice (fun h9 => ?_) (fun h9 => ?_)
    · exact (Block.mapOut_legal h)
    · exact h
  · rename_i y10 y11 y12 y13 y14 y15 y16 y17 y18 y19
    exact h

theorem Block.codeErrors_legal {b p lane n} (h : Legal b) : Legal (Block.codeErrors b p lane n) :=
  Legal.keep (Block.codeErrors_keeps (sub_refl _) (Keeps.refl _ _)) rfl h

theorem Block.endStalledItem_legal {b t x} (h : Legal b) : Legal (Block.endStalledItem b t x) :=
  Legal.keep (Block.endStalledItem_keeps (sub_refl _) (Keeps.refl _ _)) rfl h

theorem Block.countDecision_legal {b cls q} (h : Legal b) : Legal (Block.countDecision b cls q) :=
  Legal.keep (Block.countDecision_keeps (sub_refl _) (Keeps.refl _ _)) rfl h

theorem Block.grow_legal {b c h' cores units home rt} (h : Legal b) :
    Legal (Block.grow b c h' cores units home rt) := by
  unfold Block.grow
  extract_lets z0 z1 z2 z3 z4 z5 z6 z7 z8 z9 z10 z11 z12
  subst z5
  have h13 : Legal z10 := by
    subst z10
    refine Legal.foldl (fun b x h => ?_) _ ?_
    · refine Block.setEng_legal ?_
      exact h
    · exact h
  have h14 : Legal z11 := by
    subst z11
    exact (Block.setHarness_legal h13)
  have h15 : Legal z12 := by
    subst z12
    exact (Block.modCmd_legal h14)
  refine Legal.choice (fun h16 => ?_) (fun h16 => ?_)
  · exact (Block.endCmd_legal h)
  · refine Legal.choice (fun h17 => ?_) (fun h17 => ?_)
    · exact (Block.endCmd_legal h)
    · refine Legal.choice (fun h18 => ?_) (fun h18 => ?_)
      · exact (Block.placeAll_legal (Block.endCmd_legal h14))
      · exact (Block.lightEngs_legal h15)

theorem Block.profEnd_legal {b c status} (h : Legal b) : Legal (Block.profEnd b c status) :=
  Legal.keep (Block.profEnd_keeps (sub_refl _) (Keeps.refl _ _)) rfl h

theorem Block.sigAll_legal {b ctx l who} (h : Legal b) : Legal (Block.sigAll b ctx l who) :=
  Legal.keep (Block.sigAll_keeps (sub_refl _) (Keeps.refl _ _)) rfl h

theorem Block.sendSigs_legal {b c st} (h : Legal b) : Legal (Block.sendSigs b c st) :=
  Legal.keep (Block.sendSigs_keeps (sub_refl _) (Keeps.refl _ _)) rfl h

theorem Block.settleQueues_legal {b} (h : Legal b) :
    Legal (Block.settleQueues b) := by
  unfold Block.settleQueues
  refine Legal.foldl (fun b x h => ?_) _ ?_
  · refine Block.settleQueue_legal ?_
    exact h
  · exact h

theorem Block.leaveCmd_legal {b c st} (h : Legal b) :
    Legal (Block.leaveCmd b c st) := by
  unfold Block.leaveCmd
  extract_lets z0 z1 z2 z3 z4 z5 z6
  have h7 : Legal z1 := by
    subst z1
    exact (Block.removeCmd_legal (Block.releaseEngs_legal h))
  have h8 : Legal z3 := by
    subst z3
    exact (Block.setQueue_legal h7)
  have h9 : Legal z4 := by
    subst z4
    exact (Block.setQueue_legal h8)
  have h10 : Legal z5 := by
    subst z5
    refine Legal.choice (fun h11 => ?_) (fun h11 => ?_)
    · exact (Block.cmdError_legal h9)
    · exact h9
  have h12 : Legal z6 := by
    subst z6
    refine Legal.choice (fun h13 => ?_) (fun h13 => ?_)
    · exact (Block.haltQueue_legal (Block.haltEvent_legal h10))
    · exact h10
  exact (Block.settleQueues_legal (Block.fixDeadlines_legal h12))

theorem Block.finishCmd_legal {b c st} (h : Legal b) :
    Legal (Block.finishCmd b c st) := by
  unfold Block.finishCmd
  extract_lets z0
  have h1 : Legal z0 := by
    subst z0
    exact (Block.sendSigs_legal h)
  refine Legal.choice (fun h2 => ?_) (fun h2 => ?_)
  · exact (Block.modCmd_legal h1)
  · exact (Block.leaveCmd_legal h1)

theorem Block.computeLayout_legal {b} (h : Legal b) : Legal (Block.computeLayout b) :=
  Legal.keep (Block.computeLayout_keeps (sub_refl _) (Keeps.refl _ _)) rfl h

theorem Block.reinTick_legal {b} (h : Legal b) : Legal (Block.reinTick b) :=
  Legal.keep (Block.reinTick_keeps (sub_refl _) (Keeps.refl _ _)) rfl h

theorem Block.outsideWrite_legal {b path err f} (h : Legal b) (herr : ∀ v0, Legal v0 → Legal (err v0)) (hf : ∀ v0, Legal v0 → Legal (f v0)) :
    Legal (Block.outsideWrite b path err f) := by
  unfold Block.outsideWrite
  refine Legal.choice (fun h0 => ?_) (fun h0 => ?_)
  · exact h
  · refine Legal.choice (fun h1 => ?_) (fun h1 => ?_)
    · exact (Block.stopDrop_legal h)
    · refine Legal.choice (fun h2 => ?_) (fun h2 => ?_)
      · apply herr
        exact h
      · apply hf
        exact h

theorem Block.doorbell_legal {b ctx qidx v} (h : Legal b) : Legal (Block.doorbell b ctx qidx v) :=
  Legal.keep (Block.doorbell_keeps (sub_refl _) (Keeps.refl _ _)) rfl h

theorem Block.doorAccess_legal {b path a v} (h : Legal b) : Legal (Block.doorAccess b path a v) :=
  Legal.keep (Block.doorAccess_keeps (sub_refl _) (Keeps.refl _ _)) rfl h

theorem Block.setFrac_legal {b a n} (h : Legal b) : Legal (Block.setFrac b a n) :=
  Legal.keep (Block.setFrac_keeps (sub_refl _) (Keeps.refl _ _)) rfl h

theorem Block.setPeriod_legal {b p} (h : Legal b) : Legal (Block.setPeriod b p) :=
  Legal.keep (Block.setPeriod_keeps (sub_refl _) (Keeps.refl _ _)) rfl h

theorem Block.takeRelay_legal {b f t} (h : Legal b) : Legal (Block.takeRelay b f t) :=
  Legal.keep (Block.takeRelay_keeps (sub_refl _) (Keeps.refl _ _)) rfl h

theorem Block.takeRelayFrame_legal {b p pl} (h : Legal b) : Legal (Block.takeRelayFrame b p pl) :=
  Legal.keep (Block.takeRelayFrame_keeps (sub_refl _) (Keeps.refl _ _)) rfl h

theorem Block.endShrink_legal {b c h'} (h : Legal b) : Legal (Block.endShrink b c h') :=
  Legal.keep (Block.endShrink_keeps (sub_refl _) (Keeps.refl _ _)) rfl h

theorem Block.setArgWord_legal {b e k v} (h : Legal b) : Legal (Block.setArgWord b e k v) :=
  Legal.keep (Block.setArgWord_keeps (sub_refl _) (Keeps.refl _ _)) rfl h

theorem Block.syncArgload_legal {b e ctx w k h' row} (h : Legal b) :
    Legal (Block.syncArgload b e ctx w k h' row) := by
  unfold Block.syncArgload
  extract_lets z0 z1
  have h2 : Legal z1.2 := by
    subst z1
    refine Block.fresh_legal ?_
    exact h
  refine Legal.choice (fun h3 => ?_) (fun h3 => ?_)
  · refine Block.setSynced_legal ?_
    refine Block.setArgWord_legal ?_
    exact h2
  · clear_value z1
    clear_value z0
    split
    · rename_i y4 y5 y6
      exact (Block.setSynced_legal (Block.setArgWord_legal h))
    · rename_i y7 y8 y9 y10
      exact (Block.endWork_legal (Block.notePoison_legal h))
    · rename_i y11 y12 y13
      exact (Block.endWork_legal h)
    · rename_i y14 y15 y16 y17
      exact (Block.meet_legal h)

theorem Block.ccJournal_legal {b agent line} (h : Legal b) : Legal (Block.ccJournal b agent line) :=
  Legal.keep (Block.ccJournal_keeps (sub_refl _) (Keeps.refl _ _)) rfl h

theorem nominalWrite_legal {x0 x1 x2 x3} (h : Legal x0) : Legal (nominalWrite x0 x1 x2 x3) :=
  Legal.keep (nominalWrite_keeps (sub_refl _) (Keeps.refl _ _)) rfl h

theorem Block.fcrSizeWrite_legal {b path v} (h : Legal b) : Legal (Block.fcrSizeWrite b path v) :=
  Legal.keep (Block.fcrSizeWrite_keeps (sub_refl _) (Keeps.refl _ _)) rfl h

theorem Block.stallTask_legal {b t} (h : Legal b) : Legal (Block.stallTask b t) :=
  Legal.keep (Block.stallTask_keeps (sub_refl _) (Keeps.refl _ _)) rfl h

theorem Block.stallRes_legal {b st} (h : Legal b) : Legal (Block.stallRes b st) :=
  Legal.keep (Block.stallRes_keeps (sub_refl _) (Keeps.refl _ _)) rfl h

theorem Block.resumeCmd_legal {b c} (h : Legal b) :
    Legal (Block.resumeCmd b c) := by
  unfold Block.resumeCmd
  refine Block.fixDeadlines_legal ?_
  refine Legal.foldl (fun b x h => ?_) _ ?_
  · refine Block.resumeEng_legal ?_
    exact h
  · exact (Block.modCmd_legal h)

theorem Block.resumeTask_legal {b t} (h : Legal b) :
    Legal (Block.resumeTask b t) := by
  unfold Block.resumeTask
  refine Legal.foldl (fun b x h => ?_) _ ?_
  · refine Block.resumeEng_legal ?_
    exact h
  · exact (Block.modTask_legal h)

theorem Block.stallOpResume_legal {b} (h : Legal b) :
    Legal (Block.stallOpResume b) := by
  unfold Block.stallOpResume
  split
  · rename_i y0 y1 y2 y3
    exact (Block.stallRes_legal (Block.resumeCmd_legal h))
  · rename_i y4 y5 y6 y7 y8
    exact (Block.stallRes_legal (Block.resumeTask_legal h))
  · rename_i y9 y10 y11 y12
    exact (Block.stallRes_legal h)

theorem Block.stallOpEnd_legal {b} (h : Legal b) : Legal (Block.stallOpEnd b) :=
  Legal.keep (Block.stallOpEnd_keeps (sub_refl _) (Keeps.refl _ _)) rfl h

theorem stallWrite_legal {x0 x1 x2 x3} (h : Legal x0) :
    Legal (stallWrite x0 x1 x2 x3) := by
  unfold stallWrite
  split
  · rename_i y0 y1
    exact (Block.stallOpResume_legal h)
  · rename_i y2 y3
    exact (Block.stallOpEnd_legal h)
  · rename_i y4 y5 y6
    exact h

theorem Block.forwardErr_legal {b p typ pl} (h : Legal b) : Legal (Block.forwardErr b p typ pl) :=
  Legal.keep (Block.forwardErr_keeps (sub_refl _) (Keeps.refl _ _)) rfl h

theorem Block.ccWrite_legal {b agent line nc data mask} (h : Legal b) :
    Legal (Block.ccWrite b agent line nc data mask) := by
  unfold Block.ccWrite
  extract_lets z0
  have h1 : Legal z0 := by
    subst z0
    exact (Block.ccMod_legal h)
  refine Legal.choice (fun h2 => ?_) (fun h2 => ?_)
  · exact h1
  · exact (Block.ccRequest_legal h1)

theorem Block.failFaults_legal {b c va len} (h : Legal b) :
    Legal (Block.failFaults b c va len) := by
  unfold Block.failFaults
  extract_lets z0 z1 z2
  subst z0
  have h3 : Legal z2 := by
    subst z2
    clear_value z1
    exact Legal.same h rfl rfl rfl rfl rfl
  refine Legal.foldl (fun b x h => ?_) _ ?_
  · clear_value z2
    clear_value z1
    split
    · rename_i y4 y5 y6
      refine Legal.choice (fun h7 => ?_) (fun h7 => ?_)
      · refine Legal.foldl (fun b x h => ?_) _ ?_
        · refine Block.failAsker_legal ?_
          exact h
        · exact (Block.modFault_legal h)
      · exact (Block.finishFault_legal h)
    · rename_i y8 y9
      refine Legal.foldl (fun b x h => ?_) _ ?_
      · refine Block.failAsker_legal ?_
        exact h
      · exact h
  · exact h3

theorem Block.invalidate_legal {b c va len} (h : Legal b) :
    Legal (Block.invalidate b c va len) := by
  unfold Block.invalidate
  extract_lets z0 z1 z2 z3
  have h4 : Legal z0 := by
    subst z0
    exact (Block.dropRange_legal h)
  have h5 : Legal z1 := by
    subst z1
    clear_value z3
    clear_value z2
    clear_value z0
    exact Legal.same h4 rfl rfl rfl rfl rfl
  have h6 : Legal z3 := by
    subst z3
    exact (Block.failFaults_legal h5)
  refine Legal.choice (fun h7 => ?_) (fun h7 => ?_)
  · exact (Block.loseCtx_legal h6)
  · exact h6

theorem Block.addPins_legal {b ids} (h : Legal b) : Legal (Block.addPins b ids) :=
  Legal.keep (Block.addPins_keeps (sub_refl _) (Keeps.refl _ _)) rfl h

theorem Block.acceptRecord_legal {b c w} (h : Legal b) :
    Legal (Block.acceptRecord b c w) := by
  unfold Block.acceptRecord
  extract_lets z0 z1
  clear_value z1
  clear_value z0
  split
  · rename_i y2 y3
    refine Legal.choice (fun h4 => ?_) (fun h4 => ?_)
    · exact Legal.same h rfl rfl rfl rfl rfl
    · extract_lets z5 z6
      have h7 : Legal z6 := by
        subst z6
        refine Block.addPins_legal ?_
        clear_value z5
        exact Legal.same h rfl rfl rfl rfl rfl
      exact (Block.fixDeadlines_legal (Block.modCmd_legal h7))
  · rename_i y8 y9
    refine Legal.choice (fun h10 => ?_) (fun h10 => ?_)
    · exact (Block.loseCtx_legal (Block.endCmd_legal h))
    · exact (Block.endCmd_legal h)
  · rename_i y11 y12 y13
    exact (Block.poisonCmd_legal h)
  · rename_i y14 y15 y16 y17
    exact (Block.meet_legal h)

theorem Block.storeWord_legal {b path v} (h : Legal b) : Legal (Block.storeWord b path v) :=
  Legal.keep (Block.storeWord_keeps (sub_refl _) (Keeps.refl _ _)) rfl h

theorem firstWrite_legal {x0 x1 x2 x3} (h : Legal x0) : Legal (firstWrite x0 x1 x2 x3) :=
  Legal.keep (firstWrite_keeps (sub_refl _) (Keeps.refl _ _)) rfl h

theorem Block.laneSignal_legal {b p lane present} (h : Legal b) :
    Legal (Block.laneSignal b p lane present) := by
  unfold Block.laneSignal
  extract_lets z0 z1
  have h2 : Legal z0 := by
    subst z0
    exact (Block.modPort_legal h)
  refine Legal.choice (fun h3 => ?_) (fun h3 => ?_)
  · exact (Block.toTrain_legal h2)
  · exact h2

theorem Block.addCycle_legal {b unit a} (h : Legal b) : Legal (Block.addCycle b unit a) :=
  Legal.keep (Block.addCycle_keeps (sub_refl _) (Keeps.refl _ _)) rfl h

theorem Block.pageTick_legal {b pg} (h : Legal b) : Legal (Block.pageTick b pg) :=
  Legal.keep (Block.pageTick_keeps (sub_refl _) (Keeps.refl _ _)) rfl h

theorem Block.pagesTick_legal {b} (h : Legal b) : Legal (Block.pagesTick b) :=
  Legal.keep (Block.pagesTick_keeps (sub_refl _) (Keeps.refl _ _)) rfl h

theorem Block.remember_legal {b origin inc no} (h : Legal b) : Legal (Block.remember b origin inc no) :=
  Legal.keep (Block.remember_keeps (sub_refl _) (Keeps.refl _ _)) rfl h

theorem Block.takeErr_legal {b p typ pl} (h : Legal b) :
    Legal (Block.takeErr b p typ pl) := by
  unfold Block.takeErr
  extract_lets z0 z1 z2 z3 z4 z5 z6 z7
  have h8 : Legal z5 := by
    subst z5
    exact (Block.cinderRec_legal (Block.remember_legal h))
  have h9 : Legal z7 := by
    subst z7
    refine Legal.choice (fun h10 => ?_) (fun h10 => ?_)
    · refine Legal.foldl (fun b x h => ?_) _ ?_
      · refine Block.loseCtx_legal ?_
        exact h
      · exact h8
    · refine Legal.choice (fun h11 => ?_) (fun h11 => ?_)
      · exact h8
      · exact (Block.event_legal h8)
  refine Legal.choice (fun h12 => ?_) (fun h12 => ?_)
  · exact h
  · exact (Block.forwardErr_legal h9)

theorem Block.takeTs1_legal {b p lane} (h : Legal b) :
    Legal (Block.takeTs1 b p lane) := by
  unfold Block.takeTs1
  extract_lets z0 z1
  refine Legal.choice (fun h2 => ?_) (fun h2 => ?_)
  · exact h
  · clear_value z1
    clear_value z0
    split
    · rename_i y3 y4
      exact (Block.modPort_legal h)
    · rename_i y5 y6
      exact h
    · rename_i y7 y8
      exact h
    · rename_i y9 y10 y11 y12
      refine Legal.choice (fun h13 => ?_) (fun h13 => ?_)
      · exact (Block.toTrain_legal h)
      · exact h

theorem Block.measure_legal {b p} (h : Legal b) : Legal (Block.measure b p) :=
  Legal.keep (Block.measure_keeps (sub_refl _) (Keeps.refl _ _)) rfl h

theorem Block.lockEdge_legal {b} (h : Legal b) : Legal (Block.lockEdge b) :=
  Legal.keep (Block.lockEdge_keeps (sub_refl _) (Keeps.refl _ _)) rfl h

theorem Block.lockedEdge_legal {b} (h : Legal b) : Legal (Block.lockedEdge b) :=
  Legal.keep (Block.lockedEdge_keeps (sub_refl _) (Keeps.refl _ _)) rfl h

theorem Block.cadIn_legal {b} (h : Legal b) : Legal (Block.cadIn b) :=
  Legal.keep (Block.cadIn_keeps (sub_refl _) (Keeps.refl _ _)) rfl h

theorem Block.takeMessage_legal {b p pl} (h : Legal b) : Legal (Block.takeMessage b p pl) :=
  Legal.keep (Block.takeMessage_keeps (sub_refl _) (Keeps.refl _ _)) rfl h

theorem Block.breakSem_legal {b path key k} (h : Legal b) :
    Legal (Block.breakSem b path key k) := by
  unfold Block.breakSem
  refine Legal.choice (fun h0 => ?_) (fun h0 => ?_)
  · exact (Block.pageErr_legal h)
  · extract_lets z1
    refine Legal.choice (fun h2 => ?_) (fun h2 => ?_)
    · exact h
    · exact (Block.event_legal (Block.freeSem_legal h))

theorem Block.makeCurrent_legal {b c v} (h : Legal b) : Legal (Block.makeCurrent b c v) :=
  Legal.keep (Block.makeCurrent_keeps (sub_refl _) (Keeps.refl _ _)) rfl h

theorem Block.faultWork_legal {b a ctx va st} (h : Legal b) :
    Legal (Block.faultWork b a ctx va st) := by
  unfold Block.faultWork
  split
  · rename_i y0 y1 y2
    split
    · rename_i y3 y4 y5
      exact (Block.faultCmd_legal (Block.dropLoadOf_legal h))
    · rename_i y6 y7
      exact h
  · rename_i y8 y9
    exact (Block.endWork_legal h)

theorem Block.impOp_legal {b path f} (h : Legal b) (hf : ∀ v0, Legal v0 → Legal (f v0)) :
    Legal (Block.impOp b path f) := by
  unfold Block.impOp
  refine Legal.choice (fun h0 => ?_) (fun h0 => ?_)
  · exact (Block.pageErr_legal h)
  · apply hf
    exact h

theorem Block.undrained_legal {b e} (h : Legal b) : Legal (Block.undrained b e) :=
  Legal.keep (Block.undrained_keeps (sub_refl _) (Keeps.refl _ _)) rfl h

theorem Block.traceDecision_legal {b c batch} (h : Legal b) : Legal (Block.traceDecision b c batch) :=
  Legal.keep (Block.traceDecision_keeps (sub_refl _) (Keeps.refl _ _)) rfl h

theorem Block.clearSig_legal {b} (h : Legal b) : Legal (Block.clearSig b) :=
  Legal.keep (Block.clearSig_keeps (sub_refl _) (Keeps.refl _ _)) rfl h

theorem Block.fence_legal {b a} (h : Legal b) :
    Legal (Block.fence b a) := by
  unfold Block.fence
  extract_lets z0
  have h1 : Legal z0 := by
    subst z0
    exact (Block.ccMod_legal h)
  refine Legal.choice (fun h2 => ?_) (fun h2 => ?_)
  · exact (Block.takeOver_legal h1)
  · refine Legal.choice (fun h3 => ?_) (fun h3 => ?_)
    · exact (Block.l1Reset_legal h1)
    · exact h1

theorem Block.jobCommit_legal {b path v} (h : Legal b) : Legal (Block.jobCommit b path v) :=
  Legal.keep (Block.jobCommit_keeps (sub_refl _) (Keeps.refl _ _)) rfl h

theorem Block.rlDrop_legal {b p c} (h : Legal b) :
    Legal (Block.rlDrop b p c) := by
  unfold Block.rlDrop
  extract_lets z0 z1 z2 z3
  have h4 : Legal z2 := by
    subst z2
    exact (Block.count32_legal (Block.setPort_legal h))
  refine Legal.choice (fun h5 => ?_) (fun h5 => ?_)
  · exact (Block.isolate_legal h4)
  · exact h4

theorem Block.consume_legal {b p c} (h : Legal b) : Legal (Block.consume b p c) :=
  Legal.keep (Block.consume_keeps (sub_refl _) (Keeps.refl _ _)) rfl h

theorem Block.takeSync_legal {b p f} (h : Legal b) : Legal (Block.takeSync b p f) :=
  Legal.keep (Block.takeSync_keeps (sub_refl _) (Keeps.refl _ _)) rfl h

theorem Block.takeFollowUp_legal {b p f} (h : Legal b) : Legal (Block.takeFollowUp b p f) :=
  Legal.keep (Block.takeFollowUp_keeps (sub_refl _) (Keeps.refl _ _)) rfl h

theorem Block.takeDelayReq_legal {b p f} (h : Legal b) : Legal (Block.takeDelayReq b p f) :=
  Legal.keep (Block.takeDelayReq_keeps (sub_refl _) (Keeps.refl _ _)) rfl h

theorem Block.takeMirror_legal {b p pl} (h : Legal b) : Legal (Block.takeMirror b p pl) :=
  Legal.keep (Block.takeMirror_keeps (sub_refl _) (Keeps.refl _ _)) rfl h

theorem Block.rxContent_legal {b p f} (h : Legal b) :
    Legal (Block.rxContent b p f) := by
  unfold Block.rxContent
  split
  · rename_i y0 y1 y2 y3
    exact (Block.takeSync_legal h)
  · rename_i y4 y5 y6 y7
    exact (Block.takeFollowUp_legal h)
  · rename_i y8 y9 y10 y11
    exact (Block.takeDelayReq_legal h)
  · rename_i y12 y13 y14 y15
    exact (Block.takeDelayResp_legal h)
  · rename_i y16 y17 y18
    exact (Block.takeErr_legal h)
  · rename_i y19 y20 y21
    exact (Block.takeHeartbeat_legal h)
  · rename_i y22 y23 y24
    exact (Block.takeRelayFrame_legal h)
  · rename_i y25 y26 y27
    exact (Block.takeMirror_legal h)
  · rename_i y28 y29 y30
    exact (Block.takeMessage_legal h)
  · rename_i y31 y32 y33 y34 y35 y36 y37 y38 y39 y40 y41
    exact h

theorem Block.rxTake_legal {b p f} (h : Legal b) :
    Legal (Block.rxTake b p f) := by
  unfold Block.rxTake
  extract_lets z0
  have h1 : Legal z0 := by
    subst z0
    exact (Block.rxContent_legal h)
  refine Legal.choice (fun h2 => ?_) (fun h2 => ?_)
  · exact h1
  · exact (Block.consume_legal h1)

theorem Block.rxAccept_legal {b p f} (h : Legal b) :
    Legal (Block.rxAccept b p f) := by
  unfold Block.rxAccept
  extract_lets z0
  have h1 : Legal z0 := by
    subst z0
    exact (Block.modPort_legal h)
  clear_value z0
  split
  · rename_i y2 y3
    exact (Block.rlDrop_legal (Block.consume_legal h1))
  · rename_i y4 y5 y6
    extract_lets z7
    have h8 : Legal z7 := by
      subst z7
      exact (Block.setPort_legal h1)
    refine Legal.choice (fun h9 => ?_) (fun h9 => ?_)
    · exact (Block.modPort_legal h8)
    · exact (Block.rxTake_legal h8)

theorem Block.ringPoison_legal {b q a} (h : Legal b) :
    Legal (Block.ringPoison b q a) := by
  unfold Block.ringPoison
  extract_lets z0
  exact (Block.loseCtx_legal (Block.notePoison_legal h))

theorem Block.ringRead_legal {b b' : Block} {q va n : Nat} (h : Legal b) (e : b.ringRead q va n = .inr b') : Legal b' := by
  unfold Block.ringRead at e
  split at e
  · cases e
  · injection e with e
    subst e
    exact Block.ringPoison_legal h
  · injection e with e
    subst e
    exact Block.ringFault_legal h
  · injection e with e
    subst e
    exact Block.meet_legal h

theorem Block.passFetch_legal {b q n} (h : Legal b) : Legal (Block.passFetch b q n) :=
  Legal.keep (Block.passFetch_keeps (sub_refl _) (Keeps.refl _ _)) rfl h

theorem Block.failNew_legal {b c st} (h : Legal b) :
    Legal (Block.failNew b c st) := by
  unfold Block.failNew
  extract_lets z0
  have h1 : Legal z0 := by
    subst z0
    exact Legal.same h rfl rfl rfl rfl rfl
  refine Legal.choice (fun h2 => ?_) (fun h2 => ?_)
  · exact (Block.loseCtx_legal h1)
  · exact h1

theorem Block.takeIn_legal {b c p} (h : Legal b) : Legal (Block.takeIn b c p) :=
  Legal.keep (Block.takeIn_keeps (sub_refl _) (Keeps.refl _ _)) rfl h

theorem Block.takeNew_legal {b q n c w} (h : Legal b) :
    Legal (Block.takeNew b q n c w).2 := by
  unfold Block.takeNew
  refine Legal.choice2 (fun h0 => ?_) (fun h0 => ?_)
  · dsimp -zeta only
    exact (Block.passFetch_legal (Block.failNew_legal h))
  · split
    · rename_i y1 y2 y3
      refine Legal.choice2 (fun h4 => ?_) (fun h4 => ?_)
      · dsimp -zeta only
        exact Legal.same h rfl rfl rfl rfl rfl
      · refine Legal.choice2 (fun h5 => ?_) (fun h5 => ?_)
        · dsimp -zeta only
          exact Legal.same h rfl rfl rfl rfl rfl
        · dsimp -zeta only
          refine Block.fixDeadlines_legal ?_
          refine Block.passFetch_legal ?_
          refine Block.takeIn_legal ?_
          exact Legal.same h rfl rfl rfl rfl rfl
    · rename_i y6 y7 y8
      dsimp -zeta only
      exact (Block.passFetch_legal (Block.failNew_legal h))
    · rename_i y9 y10 y11 y12
      dsimp -zeta only
      exact (Block.passFetch_legal (Block.poisonNew_legal h))
    · rename_i y13 y14 y15 y16
      dsimp -zeta only
      exact (Block.meet_legal h)

theorem Block.fetchOne_legal {b q} (h : Legal b) :
    Legal (Block.fetchOne b q).2 := by
  unfold Block.fetchOne
  extract_lets z0 z1 z2
  clear_value z2
  clear_value z1
  clear_value z0
  split
  · rename_i y3 y4 y5
    have h6 := Block.ringRead_legal h y5
    dsimp -zeta only
    exact h6
  · rename_i y7 y8 y9
    extract_lets z11
    refine Legal.choice2 (fun h12 => ?_) (fun h12 => ?_)
    · dsimp -zeta only
      exact h
    · clear_value z11
      split
      · rename_i y15 y16 y17
        have h19 := Block.ringRead_legal h y17
        dsimp -zeta only
        exact h19
      · rename_i y20 y21 y22
        extract_lets z25 z26
        refine Legal.choice2 (fun h27 => ?_) (fun h27 => ?_)
        · dsimp -zeta only
          exact h
        · refine Block.takeNew_legal ?_
          exact h

theorem Block.fetchBlockN_legal {q k : Nat}  : ∀ {n : Nat} {b : Block}, Legal b → Legal (Block.fetchBlockN q k n b)
  | 0, _, h => h
  | n + 1, b, h => by
    unfold Block.fetchBlockN
    split
    · extract_lets r
      have hr : Legal r.2 := by
        subst r
        exact Block.fetchOne_legal h
      split
      · exact Block.fetchBlockN_legal hr
      · exact hr
    · exact h

theorem Block.setOrder_legal {b o} (h : Legal b) : Legal (Block.setOrder b o) :=
  Legal.keep (Block.setOrder_keeps (sub_refl _) (Keeps.refl _ _)) rfl h

theorem Block.acceptOrder_legal {b level target} (h : Legal b) :
    Legal (Block.acceptOrder b level target) := by
  unfold Block.acceptOrder
  extract_lets z0 z1
  have h2 : Legal z1 := by
    subst z1
    exact (Block.cinderRec_legal (Block.setOrder_legal h))
  refine Legal.choice (fun h3 => ?_) (fun h3 => ?_)
  · exact (Block.endOrder_legal (Block.setOrder_legal h2))
  · refine Legal.choice (fun h4 => ?_) (fun h4 => ?_)
    · exact h2
    · exact (Block.actOrder_legal h2)

theorem Block.takeHeld_legal {b w} (h : Legal b) :
    Legal (Block.takeHeld b w) := by
  unfold Block.takeHeld
  exact (Block.acceptOrder_legal h)

theorem Block.startItem_legal {b t w} (h : Legal b) :
    Legal (Block.startItem b t w) := by
  unfold Block.startItem
  extract_lets z0
  subst z0
  split
  · rename_i y1 y2
    dsimp -zeta only
    refine Block.modTask_legal ?_
    exact Legal.same h rfl rfl rfl rfl rfl
  · rename_i y3 y4 y5
    split
    · rename_i y6 y7 y8
      dsimp -zeta only
      refine Block.modTask_legal ?_
      exact Legal.same h rfl rfl rfl rfl rfl
    · rename_i y9 y10
      extract_lets z11 z12 z13 z14
      have h15 : Legal z13 := by
        subst z13
        dsimp -zeta only
        refine Block.modTask_legal ?_
        clear_value z14
        clear_value z12
        clear_value z11
        exact Legal.same h rfl rfl rfl rfl rfl
      have h16 : Legal z14 := by
        subst z14
        refine Legal.foldl (fun b x h => ?_) _ ?_
        · refine Block.setEng_legal ?_
          exact h
        · exact h15
      refine Legal.choice (fun h17 => ?_) (fun h17 => ?_)
      · exact h16
      · refine Legal.foldl (fun b x h => ?_) _ ?_
        · refine Block.loadArgs_legal ?_
          exact h
        · exact (Block.openLane_legal h16)

theorem Block.settlePosted_legal {b} (h : Legal b) :
    Legal (Block.settlePosted b) := by
  unfold Block.settlePosted
  refine Legal.foldl (fun b x h => ?_) _ ?_
  · split
    · rename_i y0 y1 y2
      refine Legal.choice (fun h3 => ?_) (fun h3 => ?_)
      · exact h
      · exact (Block.leaveCmd_legal h)
    · rename_i y4 y5
      exact h
  · exact h

theorem wdCtlWrite_legal {x0 x1 x2 x3} (h : Legal x0) : Legal (wdCtlWrite x0 x1 x2 x3) :=
  Legal.keep (wdCtlWrite_keeps (sub_refl _) (Keeps.refl _ _)) rfl h

theorem Block.enterQuarantine_legal {b p} (h : Legal b) : Legal (Block.enterQuarantine b p) :=
  Legal.keep (Block.enterQuarantine_keeps (sub_refl _) (Keeps.refl _ _)) rfl h

theorem Block.takeIdent_legal {b p pl} (h : Legal b) :
    Legal (Block.takeIdent b p pl) := by
  unfold Block.takeIdent
  extract_lets z0 z1 z2 z3 z4
  have h5 : Legal z3 := by
    subst z3
    refine Legal.choice (fun h6 => ?_) (fun h6 => ?_)
    · exact h
    · exact (Block.setReg_legal (Block.setReg_legal h))
  have h7 : Legal z4 := by
    subst z4
    exact (Block.modPort_legal h5)
  refine Legal.choice (fun h8 => ?_) (fun h8 => ?_)
  · exact (Block.isolate_legal h5)
  · refine Legal.choice (fun h9 => ?_) (fun h9 => ?_)
    · exact (Block.isolate_legal h5)
    · refine Legal.choice (fun h10 => ?_) (fun h10 => ?_)
      · refine Legal.choice (fun h11 => ?_) (fun h11 => ?_)
        · exact (Block.enterQuarantine_legal h7)
        · exact h7
      · exact h5

theorem Block.rebaseTerms_legal {b} (h : Legal b) : Legal (Block.rebaseTerms b) :=
  Legal.keep (Block.rebaseTerms_keeps (sub_refl _) (Keeps.refl _ _)) rfl h

theorem Block.rebase_legal {b cause} (h : Legal b) : Legal (Block.rebase b cause) :=
  Legal.keep (Block.rebase_keeps (sub_refl _) (Keeps.refl _ _)) rfl h

theorem Block.doRelease_legal {b} (h : Legal b) : Legal (Block.doRelease b) :=
  Legal.keep (Block.doRelease_keeps (sub_refl _) (Keeps.refl _ _)) rfl h

theorem Block.setWindow_legal {b on} (h : Legal b) : Legal (Block.setWindow b on) :=
  Legal.keep (Block.setWindow_keeps (sub_refl _) (Keeps.refl _ _)) rfl h

theorem impWrite_legal {x0 x1 x2 x3} (h : Legal x0) : Legal (impWrite x0 x1 x2 x3) :=
  Legal.keep (impWrite_keeps (sub_refl _) (Keeps.refl _ _)) rfl h

theorem Block.reservedWrite_legal {b path a} (h : Legal b) : Legal (Block.reservedWrite b path a) :=
  Legal.keep (Block.reservedWrite_keeps (sub_refl _) (Keeps.refl _ _)) rfl h

theorem Block.workTick_legal {b} (h : Legal b) : Legal (Block.workTick b) :=
  Legal.keep (Block.workTick_keeps (sub_refl _) (Keeps.refl _ _)) rfl h

theorem Block.cadenceMet_legal {b c target} (h : Legal b) : Legal (Block.cadenceMet b c target) :=
  Legal.keep (Block.cadenceMet_keeps (sub_refl _) (Keeps.refl _ _)) rfl h

theorem Block.unstage_legal {b p} (h : Legal b) : Legal (Block.unstage b p) :=
  Legal.keep (Block.unstage_keeps (sub_refl _) (Keeps.refl _ _)) rfl h

theorem selWrite_legal {l x1 x2 x3 x4} (h : Legal x1) : Legal (selWrite l x1 x2 x3 x4) :=
  Legal.keep (selWrite_keeps (sub_refl _) (Keeps.refl _ _)) rfl h

theorem Block.rxGood_legal {b p f} (h : Legal b) : Legal (Block.rxGood b p f) :=
  Legal.keep (Block.rxGood_keeps (sub_refl _) (Keeps.refl _ _)) rfl h

theorem Block.stage_legal {b path a v} (h : Legal b) : Legal (Block.stage b path a v) :=
  Legal.keep (Block.stage_keeps (sub_refl _) (Keeps.refl _ _)) rfl h

theorem stageWrite_legal {m x1 x2 x3 x4} (h : Legal x1) : Legal (stageWrite m x1 x2 x3 x4) :=
  Legal.keep (stageWrite_keeps (sub_refl _) (Keeps.refl _ _)) rfl h

theorem Block.dmaWrite_legal {b space e a ps xs} (h : Legal b) :
    Legal (Block.dmaWrite b space e a ps xs) := by
  unfold Block.dmaWrite
  refine Legal.choice (fun h0 => ?_) (fun h0 => ?_)
  · exact (Block.putBytes_legal h)
  · exact (Block.writeSpace_legal h)

theorem Block.bndCommit_legal {b path v} (h : Legal b) : Legal (Block.bndCommit b path v) :=
  Legal.keep (Block.bndCommit_keeps (sub_refl _) (Keeps.refl _ _)) rfl h

theorem Block.windowEnd_legal {b} (h : Legal b) : Legal (Block.windowEnd b) :=
  Legal.keep (Block.windowEnd_keeps (sub_refl _) (Keeps.refl _ _)) rfl h

theorem Block.replaceEngine_legal {b e n} (h : Legal b) :
    Legal (Block.replaceEngine b e n) := by
  unfold Block.replaceEngine
  extract_lets z0 z1 z2 z3 z4 z5 z6 z7
  have h8 : Legal z2 := by
    subst z2
    exact (Block.enterInst_legal (Block.dropEngine_legal h))
  have h9 : Legal z4 := by
    subst z4
    exact (Block.setEng_legal h8)
  have h10 : Legal z5 := by
    subst z5
    clear_value z7
    clear_value z6
    clear_value z4
    clear_value z3
    clear_value z2
    clear_value z1
    clear_value z0
    split
    · rename_i y11 y12
      exact (Block.setHarness_legal h9)
    · rename_i y13
      exact h9
  have h14 : Legal z6 := by
    subst z6
    exact (Block.mapCmds_legal h10)
  have h15 : Legal z7 := by
    subst z7
    refine Legal.choice (fun h16 => ?_) (fun h16 => ?_)
    · exact (Block.lightEngs_legal h14)
    · exact h14
  exact (Block.changeCaps_legal h15)

theorem Block.sendNak_legal {b p} (h : Legal b) : Legal (Block.sendNak b p) :=
  Legal.keep (Block.sendNak_keeps (sub_refl _) (Keeps.refl _ _)) rfl h

theorem Block.replayJournal_legal {b} (h : Legal b) :
    Legal (Block.replayJournal b) := by
  unfold Block.replayJournal
  refine Legal.foldl (fun b x h => ?_) _ ?_
  · refine Block.putLine_legal ?_
    exact h
  · exact h

theorem Block.enterState_legal {b st} (h : Legal b) : Legal (Block.enterState b st) :=
  Legal.keep (Block.enterState_keeps (sub_refl _) (Keeps.refl _ _)) rfl h

theorem Block.enterReady_legal {b} (h : Legal b) : Legal (Block.enterReady b) :=
  Legal.keep (Block.enterReady_keeps (sub_refl _) (Keeps.refl _ _)) rfl h

theorem Block.goReady_legal {b path} (h : Legal b) : Legal (Block.goReady b path) :=
  Legal.keep (Block.goReady_keeps (sub_refl _) (Keeps.refl _ _)) rfl h

theorem Block.lightAll_legal {b} (h : Legal b) : Legal (Block.lightAll b) :=
  Legal.keep (Block.lightAll_keeps (sub_refl _) (Keeps.refl _ _)) rfl h

theorem Block.goRun_legal {b path} (h : Legal b) : Legal (Block.goRun b path) :=
  Legal.keep (Block.goRun_keeps (sub_refl _) (Keeps.refl _ _)) rfl h

theorem glbCtlWrite_legal {x0 x1 x2 x3} (h : Legal x0) : Legal (glbCtlWrite x0 x1 x2 x3) :=
  Legal.keep (glbCtlWrite_keeps (sub_refl _) (Keeps.refl _ _)) rfl h

theorem Block.cnCtlWrite_legal {b v} (h : Legal b) : Legal (Block.cnCtlWrite b v) :=
  Legal.keep (Block.cnCtlWrite_keeps (sub_refl _) (Keeps.refl _ _)) rfl h

theorem Block.commitWrite_legal {b path v} (h : Legal b) : Legal (Block.commitWrite b path v) :=
  Legal.keep (Block.commitWrite_keeps (sub_refl _) (Keeps.refl _ _)) rfl h

theorem Block.rxRelease_legal {b p} (h : Legal b) :
    Legal (Block.rxRelease b p) := by
  unfold Block.rxRelease
  extract_lets z0
  refine Legal.foldl (fun b x h => ?_) _ ?_
  · refine Legal.choice (fun h1 => ?_) (fun h1 => ?_)
    · exact (Block.rxTake_legal h)
    · exact h
  · exact (Block.modPort_legal h)

theorem Block.linkRelease_legal {b} (h : Legal b) :
    Legal (Block.linkRelease b) := by
  unfold Block.linkRelease
  extract_lets z0 z1 z2
  have h3 : Legal z1 := by
    subst z1
    clear_value z2
    clear_value z0
    exact Legal.same h rfl rfl rfl rfl rfl
  have h4 : Legal z2 := by
    subst z2
    refine Legal.foldl (fun b x h => ?_) _ ?_
    · refine Block.linkNote_legal ?_
      exact h
    · exact h3
  refine Legal.foldl (fun b x h => ?_) _ ?_
  · refine Block.rxRelease_legal ?_
    exact h
  · exact h4

theorem traceBaseWrite_legal {x0 x1 x2 x3} (h : Legal x0) : Legal (traceBaseWrite x0 x1 x2 x3) :=
  Legal.keep (traceBaseWrite_keeps (sub_refl _) (Keeps.refl _ _)) rfl h

theorem Block.mgGo_legal {b path p} (h : Legal b) : Legal (Block.mgGo b path p) :=
  Legal.keep (Block.mgGo_keeps (sub_refl _) (Keeps.refl _ _)) rfl h

theorem Block.dtCommit_legal {b path v} (h : Legal b) : Legal (Block.dtCommit b path v) :=
  Legal.keep (Block.dtCommit_keeps (sub_refl _) (Keeps.refl _ _)) rfl h

theorem Block.order__legal {b path level target} (h : Legal b) :
    Legal (Block.order_ b path level target) := by
  unfold Block.order_
  extract_lets z0 z1
  refine Legal.choice (fun h2 => ?_) (fun h2 => ?_)
  · exact (Block.pageErr_legal h)
  · refine Legal.choice (fun h3 => ?_) (fun h3 => ?_)
    · refine Legal.choice (fun h4 => ?_) (fun h4 => ?_)
      · exact (Block.pageErr_legal h)
      · clear_value z1
        clear_value z0
        exact Legal.same h rfl rfl rfl rfl rfl
    · refine Legal.choice (fun h5 => ?_) (fun h5 => ?_)
      · exact h
      · refine Legal.choice (fun h6 => ?_) (fun h6 => ?_)
        · exact (Block.pageErr_legal h)
        · exact (Block.acceptOrder_legal h)

theorem orderWrite_legal {x0 x1 x2 x3} (h : Legal x0) :
    Legal (orderWrite x0 x1 x2 x3) := by
  unfold orderWrite
  extract_lets z0 z1
  refine Legal.choice (fun h2 => ?_) (fun h2 => ?_)
  · exact (Block.pageErr_legal h)
  · refine Legal.choice (fun h3 => ?_) (fun h3 => ?_)
    · exact (Block.pageErr_legal h)
    · exact (Block.order__legal h)

theorem Block.beatEng_legal {b e} (h : Legal b) : Legal (Block.beatEng b e) :=
  Legal.keep (Block.beatEng_keeps (sub_refl _) (Keeps.refl _ _)) rfl h

theorem Block.endInvocation_legal {b e} (h : Legal b) :
    Legal (Block.endInvocation b e) := by
  unfold Block.endInvocation
  extract_lets z0 z1 z2
  have h3 : Legal z0 := by
    subst z0
    exact (Block.beatEng_legal h)
  have h4 : Legal z2 := by
    subst z2
    exact (Block.setEng_legal h3)
  clear_value z2
  clear_value z1
  clear_value z0
  split
  · rename_i y5 y6
    exact h4
  · rename_i y7 y8 y9 y10
    extract_lets z11 z12
    have h13 : Legal z11 := by
      subst z11
      exact (Block.modCmd_legal h4)
    refine Legal.choice (fun h14 => ?_) (fun h14 => ?_)
    · exact (Block.endCmd_legal h13)
    · refine Legal.choice (fun h15 => ?_) (fun h15 => ?_)
      · exact (Block.loadArgs_legal h13)
      · exact h13
  · rename_i y16 y17 y18 y19
    extract_lets z20
    have h21 : Legal z20 := by
      subst z20
      exact (Block.modTask_legal h4)
    refine Legal.choice (fun h22 => ?_) (fun h22 => ?_)
    · exact (Block.loadArgs_legal h21)
    · exact h21

theorem Block.beginClosing_legal {b c} (h : Legal b) : Legal (Block.beginClosing b c) :=
  Legal.keep (Block.beginClosing_keeps (sub_refl _) (Keeps.refl _ _)) rfl h

theorem Block.destroyQueue_legal {b t abort} (h : Legal b) :
    Legal (Block.destroyQueue b t abort) := by
  unfold Block.destroyQueue
  extract_lets z0 z1 z2 z3 z4 z5 z6
  have h7 : Legal z2 := by
    subst z2
    refine Block.setQueue_legal ?_
    clear_value z6
    clear_value z5
    clear_value z4
    clear_value z3
    clear_value z1
    clear_value z0
    exact Legal.same h rfl rfl rfl rfl rfl
  have h8 : Legal z3 := by
    subst z3
    exact (Block.discard_legal h7)
  have h9 : Legal z4 := by
    subst z4
    refine Legal.choice (fun h10 => ?_) (fun h10 => ?_)
    · refine Legal.foldl (fun b x h => ?_) _ ?_
      · refine Block.abortCmd_legal ?_
        exact h
      · exact h8
    · exact h7
  have h11 : Legal z6 := by
    subst z6
    refine Legal.choice (fun h12 => ?_) (fun h12 => ?_)
    · exact (Block.beginClosing_legal h9)
    · exact h9
  exact (Block.settleQueue_legal (Block.fixDeadlines_legal h11))

theorem Block.finishItem_legal {b t x st} (h : Legal b) : Legal (Block.finishItem b t x st) :=
  Legal.keep (Block.finishItem_keeps (sub_refl _) (Keeps.refl _ _)) rfl h

theorem Block.orFresh_legal {b x w} (h : Legal b) : Legal (Block.orFresh b x w).2 :=
  Legal.keep (Block.orFresh_keeps (sub_refl _) (Keeps.refl _ _)) rfl h

theorem Block.mwOp_legal {b m w} (h : Legal b) : Legal (Block.mwOp b m w).2 :=
  Legal.keep (Block.mwOp_keeps (sub_refl _) (Keeps.refl _ _)) rfl h

theorem Block.mwStep_legal {b k} (h : Legal b) : Legal (Block.mwStep b k) :=
  Legal.keep (Block.mwStep_keeps (sub_refl _) (Keeps.refl _ _)) rfl h

theorem Block.mwRun_legal {b} (h : Legal b) : Legal (Block.mwRun b) :=
  Legal.keep (Block.mwRun_keeps (sub_refl _) (Keeps.refl _ _)) rfl h

theorem vectorWrite_legal {x0 x1 x2 x3} (h : Legal x0) : Legal (vectorWrite x0 x1 x2 x3) :=
  Legal.keep (vectorWrite_keeps (sub_refl _) (Keeps.refl _ _)) rfl h

theorem enWrite_legal {x0 x1 x2 x3} (h : Legal x0) : Legal (enWrite x0 x1 x2 x3) :=
  Legal.keep (enWrite_keeps (sub_refl _) (Keeps.refl _ _)) rfl h

theorem Block.inject_legal {b path a v} (h : Legal b) : Legal (Block.inject b path a v) :=
  Legal.keep (Block.inject_keeps (sub_refl _) (Keeps.refl _ _)) rfl h

theorem headerWrite_legal {x0 x1 x2 x3} (h : Legal x0) :
    Legal (headerWrite x0 x1 x2 x3) := by
  unfold headerWrite
  extract_lets z0
  refine Legal.choice (fun h1 => ?_) (fun h1 => ?_)
  · exact (vectorWrite_legal h)
  · refine Legal.choice (fun h2 => ?_) (fun h2 => ?_)
    · exact (enWrite_legal h)
    · refine Legal.choice (fun h3 => ?_) (fun h3 => ?_)
      · exact (firstWrite_legal h)
      · refine Legal.choice (fun h4 => ?_) (fun h4 => ?_)
        · exact (Block.inject_legal h)
        · refine Legal.choice (fun h5 => ?_) (fun h5 => ?_)
          · exact (lockWrite_legal h)
          · exact (plainWrite_legal h)

theorem whileTaken_legal {p w x2 x3 x4 x5} (hw : ∀ v0 v1 v2 v3, Legal v0 → Legal (w v0 v1 v2 v3)) (h1 : Legal x2) :
    Legal (whileTaken p w x2 x3 x4 x5) := by
  unfold whileTaken
  refine Legal.choice (fun h0 => ?_) (fun h0 => ?_)
  · apply hw
    exact h1
  · exact (Block.pageErr_legal h1)

theorem ifTaken_legal {p w x2 x3 x4 x5} (hw : ∀ v0 v1 v2 v3, Legal v0 → Legal (w v0 v1 v2 v3)) (h1 : Legal x2) :
    Legal (ifTaken p w x2 x3 x4 x5) := by
  unfold ifTaken
  refine Legal.choice (fun h0 => ?_) (fun h0 => ?_)
  · apply hw
    exact h1
  · exact h1

theorem Block.beginCopy_legal {b} (h : Legal b) : Legal (Block.beginCopy b) :=
  Legal.keep (Block.beginCopy_keeps (sub_refl _) (Keeps.refl _ _)) rfl h

theorem Block.moveRole_legal {b} (h : Legal b) :
    Legal (Block.moveRole b) := by
  unfold Block.moveRole
  split
  · rename_i y0 y1 y2
    refine Legal.choice (fun h3 => ?_) (fun h3 => ?_)
    · exact h
    · extract_lets z4 z5 z6 z7 z8 z9
      have h10 : Legal z5 := by
        subst z5
        exact (Block.handTo_legal (Block.ccMod_legal h))
      have h11 : Legal z8 := by
        subst z8
        exact (Block.setWear_legal (Block.setWear_legal h10))
      have h12 : Legal z9 := by
        subst z9
        exact (Block.changeCaps_legal (Block.cinderRec_legal h11))
      exact (Block.beginCopy_legal (Block.setField_legal h12))
  · rename_i y13 y14
    exact h

theorem Block.mcFail_legal {b reason} (h : Legal b) : Legal (Block.mcFail b reason) :=
  Legal.keep (Block.mcFail_keeps (sub_refl _) (Keeps.refl _ _)) rfl h

theorem Block.handover_legal {b} (h : Legal b) :
    Legal (Block.handover b) := by
  unfold Block.handover
  extract_lets z0 z1
  refine Legal.choice (fun h2 => ?_) (fun h2 => ?_)
  · exact (Block.moveRole_legal (Block.mcMod_legal h))
  · exact (Block.mcFail_legal h)

theorem Block.verify_legal {b path} (h : Legal b) : Legal (Block.verify b path) :=
  Legal.keep (Block.verify_keeps (sub_refl _) (Keeps.refl _ _)) rfl h

theorem mcCtlWrite_legal {x0 x1 x2 x3} (h : Legal x0) :
    Legal (mcCtlWrite x0 x1 x2 x3) := by
  unfold mcCtlWrite
  extract_lets z0 z1
  have h2 : Legal z0 := by
    subst z0
    refine Legal.choice (fun h3 => ?_) (fun h3 => ?_)
    · exact (Block.clearSig_legal h)
    · exact h
  have h4 : Legal z1 := by
    subst z1
    refine Legal.choice (fun h5 => ?_) (fun h5 => ?_)
    · exact (Block.handover_legal h2)
    · exact h2
  refine Legal.choice (fun h6 => ?_) (fun h6 => ?_)
  · exact (Block.verify_legal h4)
  · exact h4

theorem writesStart_legal :  ∀ w ∈ writesStart, ∀ {b : Block} {path x v : Nat}, Legal b → Legal (w.2 b path x v) := by
  unfold writesStart
  refine List.forall_mem_cons.2 ⟨?_, List.forall_mem_cons.2 ⟨?_, List.forall_mem_cons.2 ⟨?_, List.forall_mem_cons.2 ⟨?_, List.forall_mem_cons.2 ⟨?_, List.forall_mem_cons.2 ⟨?_, List.forall_mem_cons.2 ⟨?_, List.forall_mem_cons.2 ⟨?_, List.forall_mem_cons.2 ⟨?_, List.forall_mem_cons.2 ⟨?_, List.forall_mem_cons.2 ⟨?_, List.forall_mem_cons.2 ⟨?_, List.forall_mem_cons.2 ⟨?_, fun _ h => nomatch h⟩⟩⟩⟩⟩⟩⟩⟩⟩⟩⟩⟩⟩
  · intro x0 x1 x2 x3 h4
    dsimp -zeta only
    exact (glbCtlWrite_legal h4)
  · intro x5 x6 x7 x8 h9
    dsimp -zeta only
    exact (roleWrite_legal h9)
  · intro x10 x11 x12 x13 h14
    dsimp -zeta only
    refine whileTaken_legal ?_ ?_
    · intro x15 x16 x17 x18 h19
      exact (plainWrite_legal h19)
    · exact h14
  · intro x20 x21 x22 x23 h24
    dsimp -zeta only
    refine whileTaken_legal ?_ ?_
    · intro x25 x26 x27 x28 h29
      exact (plainWrite_legal h29)
    · exact h24
  · intro x30 x31 x32 x33 h34
    dsimp -zeta only
    refine whileTaken_legal ?_ ?_
    · intro x35 x36 x37 x38 h39
      exact (plainWrite_legal h39)
    · exact h34
  · intro x40 x41 x42 x43 h44
    dsimp -zeta only
    refine whileTaken_legal ?_ ?_
    · intro x45 x46 x47 x48 h49
      exact (plainWrite_legal h49)
    · exact h44
  · intro x50 x51 x52 x53 h54
    dsimp -zeta only
    exact (Block.breakSem_legal h54)
  · intro x55 x56 x57 x58 h59
    dsimp -zeta only
    refine Legal.choice (fun h60 => ?_) (fun h60 => ?_)
    · exact (Block.popFifo_legal h59)
    · exact h59
  · intro x61 x62 x63 x64 h65
    dsimp -zeta only
    refine ifTaken_legal ?_ ?_
    · intro x66 x67 x68 x69 h70
      exact (plainWrite_legal h70)
    · exact h65
  · intro x71 x72 x73 x74 h75
    dsimp -zeta only
    exact (stageWrite_legal h75)
  · intro x76 x77 x78 x79 h80
    dsimp -zeta only
    exact (Block.storeWord_legal h80)
  · intro x81 x82 x83 x84 h85
    dsimp -zeta only
    exact (Block.appendSig_legal h85)
  · intro x86 x87 x88 x89 h90
    dsimp -zeta only
    exact (mcCtlWrite_legal h90)

theorem spanWrite_legal {x0 x1 x2 x3} (h : Legal x0) : Legal (spanWrite x0 x1 x2 x3) :=
  Legal.keep (spanWrite_keeps (sub_refl _) (Keeps.refl _ _)) rfl h

theorem reserveWrite_legal {cores x1 x2 x3 x4} (h : Legal x1) : Legal (reserveWrite cores x1 x2 x3 x4) :=
  Legal.keep (reserveWrite_keeps (sub_refl _) (Keeps.refl _ _)) rfl h

theorem groupWrite_legal {x0 x1 x2 x3} (h : Legal x0) : Legal (groupWrite x0 x1 x2 x3) :=
  Legal.keep (groupWrite_keeps (sub_refl _) (Keeps.refl _ _)) rfl h

theorem incarnationWrite_legal {x0 x1 x2 x3} (h : Legal x0) : Legal (incarnationWrite x0 x1 x2 x3) :=
  Legal.keep (incarnationWrite_keeps (sub_refl _) (Keeps.refl _ _)) rfl h

theorem writesSched_legal :  ∀ w ∈ writesSched, ∀ {b : Block} {path x v : Nat}, Legal b → Legal (w.2 b path x v) := by
  unfold writesSched
  refine List.forall_mem_cons.2 ⟨?_, List.forall_mem_cons.2 ⟨?_, List.forall_mem_cons.2 ⟨?_, List.forall_mem_cons.2 ⟨?_, List.forall_mem_cons.2 ⟨?_, List.forall_mem_cons.2 ⟨?_, List.forall_mem_cons.2 ⟨?_, List.forall_mem_cons.2 ⟨?_, List.forall_mem_cons.2 ⟨?_, List.forall_mem_cons.2 ⟨?_, List.forall_mem_cons.2 ⟨?_, List.forall_mem_cons.2 ⟨?_, List.forall_mem_cons.2 ⟨?_, List.forall_mem_cons.2 ⟨?_, List.forall_mem_cons.2 ⟨?_, List.forall_mem_cons.2 ⟨?_, List.forall_mem_cons.2 ⟨?_, List.forall_mem_cons.2 ⟨?_, List.forall_mem_cons.2 ⟨?_, fun _ h => nomatch h⟩⟩⟩⟩⟩⟩⟩⟩⟩⟩⟩⟩⟩⟩⟩⟩⟩⟩⟩
  · intro x0 x1 x2 x3 h4
    dsimp -zeta only
    exact (spanWrite_legal h4)
  · intro x5 x6 x7 x8 h9
    dsimp -zeta only
    exact (reserveWrite_legal h9)
  · intro x10 x11 x12 x13 h14
    dsimp -zeta only
    exact (reserveWrite_legal h14)
  · intro x15 x16 x17 x18 h19
    dsimp -zeta only
    refine whileTaken_legal ?_ ?_
    · intro x20 x21 x22 x23 h24
      exact (groupWrite_legal h24)
    · exact h19
  · intro x25 x26 x27 x28 h29
    dsimp -zeta only
    refine whileTaken_legal ?_ ?_
    · intro x30 x31 x32 x33 h34
      exact (groupWrite_legal h34)
    · exact h29
  · intro x35 x36 x37 x38 h39
    dsimp -zeta only
    refine ifTaken_legal ?_ ?_
    · intro x40 x41 x42 x43 h44
      exact (plainWrite_legal h44)
    · exact h39
  · intro x45 x46 x47 x48 h49
    dsimp -zeta only
    exact (nominalWrite_legal h49)
  · intro x50 x51 x52 x53 h54
    dsimp -zeta only
    exact (selWrite_legal h54)
  · intro x55 x56 x57 x58 h59
    dsimp -zeta only
    exact (stageWrite_legal h59)
  · intro x60 x61 x62 x63 h64
    dsimp -zeta only
    exact (stageWrite_legal h64)
  · intro x65 x66 x67 x68 h69
    dsimp -zeta only
    exact (Block.dtCommit_legal h69)
  · intro x70 x71 x72 x73 h74
    dsimp -zeta only
    exact (incarnationWrite_legal h74)
  · intro x75 x76 x77 x78 h79
    dsimp -zeta only
    exact (impWrite_legal h79)
  · intro x80 x81 x82 x83 h84
    dsimp -zeta only
    exact (selWrite_legal h84)
  · intro x85 x86 x87 x88 h89
    dsimp -zeta only
    exact (stageWrite_legal h89)
  · intro x90 x91 x92 x93 h94
    dsimp -zeta only
    exact (stageWrite_legal h94)
  · intro x95 x96 x97 x98 h99
    dsimp -zeta only
    exact (stageWrite_legal h99)
  · intro x100 x101 x102 x103 h104
    dsimp -zeta only
    exact (stageWrite_legal h104)
  · intro x105 x106 x107 x108 h109
    dsimp -zeta only
    refine Legal.choice (fun h110 => ?_) (fun h110 => ?_)
    · exact (Block.bndCommit_legal h109)
    · exact (Block.bndDisable_legal h109)

theorem Block.bootCommit_legal {b path v} (h : Legal b) : Legal (Block.bootCommit b path v) :=
  Legal.keep (Block.bootCommit_keeps (sub_refl _) (Keeps.refl _ _)) rfl h

theorem Block.fcrHeadWrite_legal {b path v} (h : Legal b) :
    Legal (Block.fcrHeadWrite b path v) := by
  unfold Block.fcrHeadWrite
  extract_lets z0 z1 z2
  have h3 : Legal z1 := by
    subst z1
    exact (Block.setReg_legal h)
  have h4 : Legal z2 := by
    subst z2
    clear_value z1
    clear_value z0
    exact Legal.same h3 rfl rfl rfl rfl rfl
  refine Legal.choice (fun h5 => ?_) (fun h5 => ?_)
  · exact (Block.landPages_legal (Block.writeEntries_legal h4))
  · exact (Block.pageErr_legal h)

theorem Block.regInvalidate_legal {b path} (h : Legal b) :
    Legal (Block.regInvalidate b path) := by
  unfold Block.regInvalidate
  extract_lets z0 z1 z2 z3 z4
  have h5 : Legal z2 := by
    subst z2
    exact (Block.bumpEpoch_legal (Block.invalidate_legal h))
  have h6 : Legal z3.2 := by
    subst z3
    refine Block.busyTime_legal ?_
    exact h5
  have h7 : Legal z4 := by
    subst z4
    exact h6
  refine Legal.choice (fun h8 => ?_) (fun h8 => ?_)
  · exact (Block.pageErr_legal h)
  · clear_value z4
    clear_value z3
    clear_value z2
    clear_value z1
    clear_value z0
    exact Legal.same h7 rfl rfl rfl rfl rfl

theorem writesZtu_legal :  ∀ w ∈ writesZtu, ∀ {b : Block} {path x v : Nat}, Legal b → Legal (w.2 b path x v) := by
  unfold writesZtu
  refine List.forall_mem_cons.2 ⟨?_, List.forall_mem_cons.2 ⟨?_, List.forall_mem_cons.2 ⟨?_, List.forall_mem_cons.2 ⟨?_, List.forall_mem_cons.2 ⟨?_, List.forall_mem_cons.2 ⟨?_, List.forall_mem_cons.2 ⟨?_, List.forall_mem_cons.2 ⟨?_, List.forall_mem_cons.2 ⟨?_, List.forall_mem_cons.2 ⟨?_, List.forall_mem_cons.2 ⟨?_, List.forall_mem_cons.2 ⟨?_, List.forall_mem_cons.2 ⟨?_, List.forall_mem_cons.2 ⟨?_, List.forall_mem_cons.2 ⟨?_, List.forall_mem_cons.2 ⟨?_, List.forall_mem_cons.2 ⟨?_, List.forall_mem_cons.2 ⟨?_, List.forall_mem_cons.2 ⟨?_, fun _ h => nomatch h⟩⟩⟩⟩⟩⟩⟩⟩⟩⟩⟩⟩⟩⟩⟩⟩⟩⟩⟩
  · intro x0 x1 x2 x3 h4
    dsimp -zeta only
    exact (ztCtlWrite_legal h4)
  · intro x5 x6 x7 x8 h9
    dsimp -zeta only
    exact (modeWrite_legal h9)
  · intro x10 x11 x12 x13 h14
    dsimp -zeta only
    refine whileTaken_legal ?_ ?_
    · intro x15 x16 x17 x18 h19
      exact (selWrite_legal h19)
    · exact h14
  · intro x20 x21 x22 x23 h24
    dsimp -zeta only
    exact (Block.bootCommit_legal h24)
  · intro x25 x26 x27 x28 h29
    dsimp -zeta only
    refine whileTaken_legal ?_ ?_
    · intro x30 x31 x32 x33 h34
      exact (stageWrite_legal h34)
    · exact h29
  · intro x35 x36 x37 x38 h39
    dsimp -zeta only
    exact (stageWrite_legal h39)
  · intro x40 x41 x42 x43 h44
    dsimp -zeta only
    exact (stageWrite_legal h44)
  · intro x45 x46 x47 x48 h49
    dsimp -zeta only
    exact (Block.fcrSizeWrite_legal h49)
  · intro x50 x51 x52 x53 h54
    dsimp -zeta only
    exact (Block.fcrHeadWrite_legal h54)
  · intro x55 x56 x57 x58 h59
    dsimp -zeta only
    refine ifTaken_legal ?_ ?_
    · intro x60 x61 x62 x63 h64
      exact (plainWrite_legal h64)
    · exact h59
  · intro x65 x66 x67 x68 h69
    dsimp -zeta only
    refine Legal.choice (fun h70 => ?_) (fun h70 => ?_)
    · exact (Block.regInvalidate_legal h69)
    · exact h69
  · intro x71 x72 x73 x74 h75
    dsimp -zeta only
    exact (Block.commitWrite_legal h75)
  · intro x76 x77 x78 x79 h80
    dsimp -zeta only
    refine ifTaken_legal ?_ ?_
    · intro x81 x82 x83 x84 h85
      exact (plainWrite_legal h85)
    · exact h80
  · intro x86 x87 x88 x89 h90
    dsimp -zeta only
    refine whileTaken_legal ?_ ?_
    · intro x91 x92 x93 x94 h95
      exact (plainWrite_legal h95)
    · exact h90
  · intro x96 x97 x98 x99 h100
    dsimp -zeta only
    refine whileTaken_legal ?_ ?_
    · intro x101 x102 x103 x104 h105
      exact (plainWrite_legal h105)
    · exact h100
  · intro x106 x107 x108 x109 h110
    dsimp -zeta only
    refine whileTaken_legal ?_ ?_
    · intro x111 x112 x113 x114 h115
      exact (plainWrite_legal h115)
    · exact h110
  · intro x116 x117 x118 x119 h120
    dsimp -zeta only
    refine whileTaken_legal ?_ ?_
    · intro x121 x122 x123 x124 h125
      exact (plainWrite_legal h125)
    · exact h120
  · intro x126 x127 x128 x129 h130
    dsimp -zeta only
    refine whileTaken_legal ?_ ?_
    · intro x131 x132 x133 x134 h135
      exact (plainWrite_legal h135)
    · exact h130
  · intro x136 x137 x138 x139 h140
    dsimp -zeta only
    refine whileTaken_legal ?_ ?_
    · intro x141 x142 x143 x144 h145
      exact (plainWrite_legal h145)
    · exact h140

theorem Block.jobEnd_legal {b} (h : Legal b) : Legal (Block.jobEnd b) :=
  Legal.keep (Block.jobEnd_keeps (sub_refl _) (Keeps.refl _ _)) rfl h

theorem jobCtlWrite_legal {x0 x1 x2 x3} (h : Legal x0) : Legal (jobCtlWrite x0 x1 x2 x3) :=
  Legal.keep (jobCtlWrite_keeps (sub_refl _) (Keeps.refl _ _)) rfl h

theorem Block.modPwr_legal {b f} (h : Legal b) : Legal (Block.modPwr b f) :=
  Legal.keep (Block.modPwr_keeps (sub_refl _) (Keeps.refl _ _)) rfl h

theorem smSelWrite_legal {x0 x1 x2 x3} (h : Legal x0) : Legal (smSelWrite x0 x1 x2 x3) :=
  Legal.keep (smSelWrite_keeps (sub_refl _) (Keeps.refl _ _)) rfl h

theorem Block.retireWritten_legal {b kind x2} (h : Legal b) :
    Legal (Block.retireWritten b kind x2) := by
  unfold Block.retireWritten
  extract_lets z0 z1 z2 z3 z4 z5
  have h6 : Legal z2 := by
    subst z2
    exact (Block.retireInst_legal h)
  have h7 : Legal z4 := by
    subst z4
    exact (Block.retireInst_legal h)
  have h8 : Legal z5 := by
    subst z5
    clear_value z4
    clear_value z3
    clear_value z2
    clear_value z1
    clear_value z0
    exact Legal.same h7 rfl rfl rfl rfl rfl
  refine Legal.choice (fun h9 => ?_) (fun h9 => ?_)
  · exact h
  · refine Legal.choice (fun h10 => ?_) (fun h10 => ?_)
    · exact (Block.retireInst_legal h)
    · refine Legal.choice (fun h11 => ?_) (fun h11 => ?_)
      · refine Legal.choice (fun h12 => ?_) (fun h12 => ?_)
        · exact h6
        · clear_value z5
          clear_value z4
          clear_value z3
          clear_value z2
          clear_value z1
          clear_value z0
          split
          · rename_i y13 y14
            exact (Block.mcMod_legal (Block.enterSpare_legal h6))
          · rename_i y15
            exact h6
      · refine Legal.choice (fun h16 => ?_) (fun h16 => ?_)
        · exact (Block.computeLayout_legal (Block.setField_legal h8))
        · exact (Block.retireNow_legal h)

theorem wearWrite_legal {x0 x1 x2 x3} (h : Legal x0) :
    Legal (wearWrite x0 x1 x2 x3) := by
  unfold wearWrite
  refine Legal.choice (fun h0 => ?_) (fun h0 => ?_)
  · extract_lets z1 z2
    have h3 : Legal z2 := by
      subst z2
      exact (Block.setWear_legal h)
    refine Legal.choice (fun h4 => ?_) (fun h4 => ?_)
    · exact (Block.retireWritten_legal h3)
    · exact h3
  · exact h

theorem Block.retireGo_legal {b} (h : Legal b) :
    Legal (Block.retireGo b) := by
  unfold Block.retireGo
  extract_lets z0 z1
  refine Legal.choice (fun h2 => ?_) (fun h2 => ?_)
  · exact (Block.setField_legal h)
  · refine Legal.choice (fun h3 => ?_) (fun h3 => ?_)
    · exact (Block.setField_legal h)
    · refine Block.settleRetire_legal ?_
      refine Block.retireNow_legal ?_
      refine Block.setReg_legal ?_
      clear_value z1
      clear_value z0
      exact Legal.same h rfl rfl rfl rfl rfl

theorem writesRecovery_legal :  ∀ w ∈ writesRecovery, ∀ {b : Block} {path x v : Nat}, Legal b → Legal (w.2 b path x v) := by
  unfold writesRecovery
  refine List.forall_mem_cons.2 ⟨?_, List.forall_mem_cons.2 ⟨?_, List.forall_mem_cons.2 ⟨?_, List.forall_mem_cons.2 ⟨?_, List.forall_mem_cons.2 ⟨?_, List.forall_mem_cons.2 ⟨?_, List.forall_mem_cons.2 ⟨?_, List.forall_mem_cons.2 ⟨?_, List.forall_mem_cons.2 ⟨?_, List.forall_mem_cons.2 ⟨?_, List.forall_mem_cons.2 ⟨?_, List.forall_mem_cons.2 ⟨?_, List.forall_mem_cons.2 ⟨?_, List.forall_mem_cons.2 ⟨?_, List.forall_mem_cons.2 ⟨?_, List.forall_mem_cons.2 ⟨?_, List.forall_mem_cons.2 ⟨?_, fun _ h => nomatch h⟩⟩⟩⟩⟩⟩⟩⟩⟩⟩⟩⟩⟩⟩⟩⟩⟩
  · intro x0 x1 x2 x3 h4
    dsimp -zeta only
    exact (orderWrite_legal h4)
  · intro x5 x6 x7 x8 h9
    dsimp -zeta only
    refine ifTaken_legal ?_ ?_
    · intro x10 x11 x12 x13 h14
      exact (plainWrite_legal h14)
    · exact h9
  · intro x15 x16 x17 x18 h19
    dsimp -zeta only
    exact (undrainedWrite_legal h19)
  · intro x20 x21 x22 x23 h24
    dsimp -zeta only
    exact (stallWrite_legal h24)
  · intro x25 x26 x27 x28 h29
    dsimp -zeta only
    exact (petWrite_legal h29)
  · intro x30 x31 x32 x33 h34
    dsimp -zeta only
    exact (wdCtlWrite_legal h34)
  · intro x35 x36 x37 x38 h39
    dsimp -zeta only
    exact (selWrite_legal h39)
  · intro x40 x41 x42 x43 h44
    dsimp -zeta only
    exact (stageWrite_legal h44)
  · intro x45 x46 x47 x48 h49
    dsimp -zeta only
    exact (jobCtlWrite_legal h49)
  · intro x50 x51 x52 x53 h54
    dsimp -zeta only
    refine Legal.choice (fun h55 => ?_) (fun h55 => ?_)
    · exact (Block.modPwr_legal h54)
    · exact h54
  · intro x56 x57 x58 x59 h60
    dsimp -zeta only
    refine ifTaken_legal ?_ ?_
    · intro x61 x62 x63 x64 h65
      exact (plainWrite_legal h65)
    · exact h60
  · intro x66 x67 x68 x69 h70
    dsimp -zeta only
    refine ifTaken_legal ?_ ?_
    · intro x71 x72 x73 x74 h75
      exact (plainWrite_legal h75)
    · exact h70
  · intro x76 x77 x78 x79 h80
    dsimp -zeta only
    exact (smSelWrite_legal h80)
  · intro x81 x82 x83 x84 h85
    dsimp -zeta only
    exact (wearWrite_legal h85)
  · intro x86 x87 x88 x89 h90
    dsimp -zeta only
    refine Legal.choice (fun h91 => ?_) (fun h91 => ?_)
    · exact (Block.retireGo_legal h90)
    · exact h90
  · intro x92 x93 x94 x95 h96
    dsimp -zeta only
    refine whileTaken_legal ?_ ?_
    · intro x97 x98 x99 x100 h101
      exact (plainWrite_legal h101)
    · exact h96
  · intro x102 x103 x104 x105 h106
    dsimp -zeta only
    exact (Block.destWrite_legal h106)

theorem Block.tbSizeSet_legal {b path v} (h : Legal b) : Legal (Block.tbSizeSet b path v) :=
  Legal.keep (Block.tbSizeSet_keeps (sub_refl _) (Keeps.refl _ _)) rfl h

theorem Block.sampleStopIn_legal {b} (h : Legal b) : Legal (Block.sampleStopIn b).2 :=
  Legal.keep (Block.sampleStopIn_keeps (sub_refl _) (Keeps.refl _ _)) rfl h

theorem Block.endStop_legal {b} (h : Legal b) :
    Legal (Block.endStop b) := by
  unfold Block.endStop
  extract_lets z0 z1 z2 z3 z4 z5 z6
  have h7 : Legal z2 := by
    subst z2
    clear_value z6
    clear_value z5
    clear_value z4
    clear_value z3
    clear_value z1
    clear_value z0
    exact Legal.same h rfl rfl rfl rfl rfl
  have h8 : Legal z3 := by
    subst z3
    refine Legal.foldl (fun b x h => ?_) _ ?_
    · refine Legal.choice (fun h9 => ?_) (fun h9 => ?_)
      · exact (Block.traceTo_legal h)
      · exact h
    · exact h7
  have h10 : Legal z4 := by
    subst z4
    exact (Block.cinderRec_legal h8)
  have h11 : Legal z5 := by
    subst z5
    refine Legal.foldl (fun b x h => ?_) _ ?_
    · refine Block.event_legal ?_
      exact h
    · exact (Block.linkRelease_legal h10)
  have h12 : Legal z6 := by
    subst z6
    refine Legal.foldl (fun b x h => ?_) _ ?_
    · refine Block.accessErr_legal ?_
      exact h
    · exact h11
  refine Legal.foldl (fun b x h => ?_) _ ?_
  · refine Block.takeHeld_legal ?_
    exact h
  · exact h12

theorem Block.release_legal {b} (h : Legal b) :
    Legal (Block.release b) := by
  unfold Block.release
  refine Legal.choice (fun h0 => ?_) (fun h0 => ?_)
  · exact h
  · refine Legal.choice (fun h1 => ?_) (fun h1 => ?_)
    · extract_lets z2
      have h3 : Legal z2.2 := by
        subst z2
        refine Block.sampleStopIn_legal ?_
        exact h
      refine Legal.choice (fun h4 => ?_) (fun h4 => ?_)
      · refine Block.stopDrop_legal ?_
        exact h3
      · refine Block.endStop_legal ?_
        exact h3
    · exact (Block.endStop_legal h)

theorem stopCtlWrite_legal {x0 x1 x2 x3} (h : Legal x0) :
    Legal (stopCtlWrite x0 x1 x2 x3) := by
  unfold stopCtlWrite
  extract_lets z0
  have h1 : Legal z0 := by
    subst z0
    exact (plainWrite_legal h)
  refine Legal.choice (fun h2 => ?_) (fun h2 => ?_)
  · refine Legal.choice (fun h3 => ?_) (fun h3 => ?_)
    · exact (Block.release_legal h1)
    · exact h1
  · refine Legal.choice (fun h4 => ?_) (fun h4 => ?_)
    · exact (Block.requestStop_legal h1)
    · exact h1

theorem dbgWrite_legal {x0 x1 x2 x3} (h : Legal x0) : Legal (dbgWrite x0 x1 x2 x3) :=
  Legal.keep (dbgWrite_keeps (sub_refl _) (Keeps.refl _ _)) rfl h

theorem Block.ptCtlWrite_legal {b path p v} (h : Legal b) :
    Legal (Block.ptCtlWrite b path p v) := by
  unfold Block.ptCtlWrite
  extract_lets z0 z1 z2 z3 z4 z5 z6
  have h7 : Legal z4 := by
    subst z4
    refine Legal.choice (fun h8 => ?_) (fun h8 => ?_)
    · clear_value z6
      clear_value z5
      clear_value z3
      clear_value z2
      clear_value z1
      clear_value z0
      exact Legal.same h rfl rfl rfl rfl rfl
    · exact h
  have h9 : Legal z5 := by
    subst z5
    exact (Block.setReg_legal h7)
  refine Legal.choice (fun h10 => ?_) (fun h10 => ?_)
  · exact (Block.pageErr_legal h)
  · refine Legal.choice (fun h11 => ?_) (fun h11 => ?_)
    · refine Legal.choice (fun h12 => ?_) (fun h12 => ?_)
      · exact h9
      · exact (Block.toState_legal h9)
    · refine Legal.choice (fun h13 => ?_) (fun h13 => ?_)
      · exact (Block.toState_legal h9)
      · refine Legal.choice (fun h14 => ?_) (fun h14 => ?_)
        · exact (Block.toTrain_legal h9)
        · exact h9

theorem Block.mgConsume_legal {b p} (h : Legal b) : Legal (Block.mgConsume b p) :=
  Legal.keep (Block.mgConsume_keeps (sub_refl _) (Keeps.refl _ _)) rfl h

theorem writesObserve_legal :  ∀ w ∈ writesObserve, ∀ {b : Block} {path x v : Nat}, Legal b → Legal (w.2 b path x v) := by
  unfold writesObserve
  refine List.forall_mem_cons.2 ⟨?_, List.forall_mem_cons.2 ⟨?_, List.forall_mem_cons.2 ⟨?_, List.forall_mem_cons.2 ⟨?_, List.forall_mem_cons.2 ⟨?_, List.forall_mem_cons.2 ⟨?_, List.forall_mem_cons.2 ⟨?_, List.forall_mem_cons.2 ⟨?_, List.forall_mem_cons.2 ⟨?_, List.forall_mem_cons.2 ⟨?_, List.forall_mem_cons.2 ⟨?_, List.forall_mem_cons.2 ⟨?_, List.forall_mem_cons.2 ⟨?_, List.forall_mem_cons.2 ⟨?_, List.forall_mem_cons.2 ⟨?_, List.forall_mem_cons.2 ⟨?_, List.forall_mem_cons.2 ⟨?_, List.forall_mem_cons.2 ⟨?_, List.forall_mem_cons.2 ⟨?_, List.forall_mem_cons.2 ⟨?_, List.forall_mem_cons.2 ⟨?_, fun _ h => nomatch h⟩⟩⟩⟩⟩⟩⟩⟩⟩⟩⟩⟩⟩⟩⟩⟩⟩⟩⟩⟩⟩
  · intro x0 x1 x2 x3 h4
    dsimp -zeta only
    exact (traceCtlWrite_legal h4)
  · intro x5 x6 x7 x8 h9
    dsimp -zeta only
    exact (traceBaseWrite_legal h9)
  · intro x10 x11 x12 x13 h14
    dsimp -zeta only
    exact (traceBaseWrite_legal h14)
  · intro x15 x16 x17 x18 h19
    dsimp -zeta only
    exact (Block.tbSizeSet_legal h19)
  · intro x20 x21 x22 x23 h24
    dsimp -zeta only
    exact (Block.tbHeadSet_legal h24)
  · intro x25 x26 x27 x28 h29
    dsimp -zeta only
    exact (stopCtlWrite_legal h29)
  · intro x30 x31 x32 x33 h34
    dsimp -zeta only
    exact (dbgWrite_legal h34)
  · intro x35 x36 x37 x38 h39
    dsimp -zeta only
    exact (selWrite_legal h39)
  · intro x40 x41 x42 x43 h44
    dsimp -zeta only
    exact (stageWrite_legal h44)
  · intro x45 x46 x47 x48 h49
    dsimp -zeta only
    exact (stageWrite_legal h49)
  · intro x50 x51 x52 x53 h54
    dsimp -zeta only
    exact (bpCtlWrite_legal h54)
  · intro x55 x56 x57 x58 h59
    dsimp -zeta only
    exact (Block.cnCtlWrite_legal h59)
  · intro x60 x61 x62 x63 h64
    dsimp -zeta only
    exact (Block.ptCtlWrite_legal h64)
  · intro x65 x66 x67 x68 h69
    dsimp -zeta only
    refine whileTaken_legal ?_ ?_
    · intro x70 x71 x72 x73 h74
      exact (plainWrite_legal h74)
    · exact h69
  · intro x75 x76 x77 x78 h79
    dsimp -zeta only
    refine whileTaken_legal ?_ ?_
    · intro x80 x81 x82 x83 h84
      exact (plainWrite_legal h84)
    · exact h79
  · intro x85 x86 x87 x88 h89
    dsimp -zeta only
    refine whileTaken_legal ?_ ?_
    · intro x90 x91 x92 x93 h94
      exact (plainWrite_legal h94)
    · exact h89
  · intro x95 x96 x97 x98 h99
    dsimp -zeta only
    refine whileTaken_legal ?_ ?_
    · intro x100 x101 x102 x103 h104
      exact (plainWrite_legal h104)
    · exact h99
  · intro x105 x106 x107 x108 h109
    dsimp -zeta only
    refine ifTaken_legal ?_ ?_
    · intro x110 x111 x112 x113 h114
      exact (plainWrite_legal h114)
    · exact h109
  · intro x115 x116 x117 x118 h119
    dsimp -zeta only
    exact (rateWrite_legal h119)
  · intro x120 x121 x122 x123 h124
    dsimp -zeta only
    refine Legal.choice (fun h125 => ?_) (fun h125 => ?_)
    · exact (Block.mgGo_legal h124)
    · exact h124
  · intro x126 x127 x128 x129 h130
    dsimp -zeta only
    refine Legal.choice (fun h131 => ?_) (fun h131 => ?_)
    · exact (Block.mgConsume_legal h130)
    · exact h130

theorem unitWrite_legal {b : Block} {path x v : Nat}  (h : Legal b) : Legal (unitWrite b path x v) := by
  unfold unitWrite
  extract_lets pg o
  refine Legal.choice (fun _ => headerWrite_legal h) (fun _ => ?_)
  refine Legal.choice (fun _ => h) (fun _ => ?_)
  refine Legal.choice (fun _ => lockWrite_legal h) (fun _ => ?_)
  split
  · rename_i w e
    have hm := List.mem_of_find?_eq_some e
    unfold writers at hm
    simp only [List.mem_append] at hm
    rcases hm with (((hm | hm) | hm) | hm) | hm
    · exact writesStart_legal w hm h
    · exact writesSched_legal w hm h
    · exact writesZtu_legal w hm h
    · exact writesRecovery_legal w hm h
    · exact writesObserve_legal w hm h
  · exact plainWrite_legal h

theorem Block.laneTick_legal {b w} (h : Legal b) : Legal (Block.laneTick b w) :=
  Legal.keep (Block.laneTick_keeps (sub_refl _) (Keeps.refl _ _)) rfl h

theorem Block.lanesTick_legal {b} (h : Legal b) : Legal (Block.lanesTick b) :=
  Legal.keep (Block.lanesTick_keeps (sub_refl _) (Keeps.refl _ _)) rfl h

theorem Block.dropMsg_legal {b m} (h : Legal b) : Legal (Block.dropMsg b m) :=
  Legal.keep (Block.dropMsg_keeps (sub_refl _) (Keeps.refl _ _)) rfl h

theorem Block.ccSnoop_legal {b k agent line f} (h : Legal b) (hf : ∀ v0 v1, Legal v1 → Legal (f v0 v1)) :
    Legal (Block.ccSnoop b k agent line f) := by
  unfold Block.ccSnoop
  refine Legal.choice (fun h0 => ?_) (fun h0 => ?_)
  · exact (Block.ccDown_legal h)
  · split
    · rename_i y1 y2
      exact h
    · rename_i y3 y4 y5
      apply hf
      exact (Block.dropMsg_legal h)

theorem Block.answer_legal {b v} (h : Legal b) : Legal (Block.answer b v) :=
  Legal.keep (Block.answer_keeps (sub_refl _) (Keeps.refl _ _)) rfl h

theorem Block.usWhile_legal {b on a} (h : Legal b) : Legal (Block.usWhile b on a) :=
  Legal.keep (Block.usWhile_keeps (sub_refl _) (Keeps.refl _ _)) rfl h

theorem Block.retireRec_legal {b e} (h : Legal b) : Legal (Block.retireRec b e) :=
  Legal.keep (Block.retireRec_keeps (sub_refl _) (Keeps.refl _ _)) rfl h

theorem Block.mayRetire_legal {b e} (h : Legal b) : Legal (Block.mayRetire b e) :=
  Legal.keep (Block.mayRetire_keeps (sub_refl _) (Keeps.refl _ _)) rfl h

theorem Block.cadTick_legal {b} (h : Legal b) : Legal (Block.cadTick b) :=
  Legal.keep (Block.cadTick_keeps (sub_refl _) (Keeps.refl _ _)) rfl h

theorem Block.windowWrite_legal {b slot v} (h : Legal b) : Legal (Block.windowWrite b slot v) :=
  Legal.keep (Block.windowWrite_keeps (sub_refl _) (Keeps.refl _ _)) rfl h

theorem Block.windowAccess_legal {b path a wide v} (h : Legal b) : Legal (Block.windowAccess b path a wide v) :=
  Legal.keep (Block.windowAccess_keeps (sub_refl _) (Keeps.refl _ _)) rfl h

theorem Block.rxBad_legal {b p} (h : Legal b) : Legal (Block.rxBad b p) :=
  Legal.keep (Block.rxBad_keeps (sub_refl _) (Keeps.refl _ _)) rfl h

theorem Block.rxFrame_legal {b p f cls typ} (h : Legal b) :
    Legal (Block.rxFrame b p f cls typ) := by
  unfold Block.rxFrame
  extract_lets z0 z1 z2 z3 z4
  have h5 : Legal z2 := by
    subst z2
    exact (Block.rxGood_legal h)
  have h6 : Legal z4 := by
    subst z4
    refine Legal.choice (fun h7 => ?_) (fun h7 => ?_)
    · exact (Block.rxContent_legal h5)
    · exact h5
  refine Legal.choice (fun h8 => ?_) (fun h8 => ?_)
  · exact h
  · refine Legal.choice (fun h9 => ?_) (fun h9 => ?_)
    · exact (Block.rxBad_legal h)
    · refine Legal.choice (fun h10 => ?_) (fun h10 => ?_)
      · exact h
      · refine Legal.choice (fun h11 => ?_) (fun h11 => ?_)
        · exact (Block.isolate_legal h)
        · refine Legal.choice (fun h12 => ?_) (fun h12 => ?_)
          · exact (Block.rxAccept_legal h5)
          · refine Legal.choice (fun h13 => ?_) (fun h13 => ?_)
            · exact h5
            · exact (Block.sendNak_legal h6)

theorem Block.freeCtx_legal {b c} (h : Legal b) :
    Legal (Block.freeCtx b c) := by
  unfold Block.freeCtx
  refine Legal.choice (fun h0 => ?_) (fun h0 => ?_)
  · extract_lets z1
    have h2 : Legal z1 := by
      subst z1
      exact (Block.freeObjects_legal h)
    refine Legal.choice (fun h3 => ?_) (fun h3 => ?_)
    · exact (Block.setCtx_legal (Block.dropPasid_legal h2))
    · exact h2
  · exact h

theorem Block.plainUe_legal {b pg} (h : Legal b) : Legal (Block.plainUe b pg) :=
  Legal.keep (Block.plainUe_keeps (sub_refl _) (Keeps.refl _ _)) rfl h

theorem Block.ccStorage_legal {b way} (h : Legal b) : Legal (Block.ccStorage b way) :=
  Legal.keep (Block.ccStorage_keeps (sub_refl _) (Keeps.refl _ _)) rfl h

theorem Block.dispatch_legal {b c} (h : Legal b) : Legal (Block.dispatch b c) :=
  Legal.keep (Block.dispatch_keeps (sub_refl _) (Keeps.refl _ _)) rfl h

theorem Block.takeDecision_legal {b} (h : Legal b) : Legal (Block.takeDecision b) :=
  Legal.keep (Block.takeDecision_keeps (sub_refl _) (Keeps.refl _ _)) rfl h

theorem Block.starve_legal {b e w} (h : Legal b) : Legal (Block.starve b e w) :=
  Legal.keep (Block.starve_keeps (sub_refl _) (Keeps.refl _ _)) rfl h

theorem Block.doCreate_legal {b c p} (h : Legal b) : Legal (Block.doCreate b c p) :=
  Legal.keep (Block.doCreate_keeps (sub_refl _) (Keeps.refl _ _)) rfl h

theorem Block.stopPins_legal {b ids} (h : Legal b) : Legal (Block.stopPins b ids) :=
  Legal.keep (Block.stopPins_keeps (sub_refl _) (Keeps.refl _ _)) rfl h

theorem Block.enterRun_legal {b p} (h : Legal b) :
    Legal (Block.enterRun b p) := by
  unfold Block.enterRun
  extract_lets z0 z1 z2 z3
  have h4 : Legal z0 := by
    subst z0
    exact (Block.modPort_legal h)
  have h5 : Legal z2 := by
    subst z2
    clear_value z3
    clear_value z1
    clear_value z0
    exact Legal.same h4 rfl rfl rfl rfl rfl
  have h6 : Legal z3 := by
    subst z3
    exact (Block.event_legal (Block.cinderRec_legal h5))
  exact (Block.noteLink_legal h6)

theorem Block.authSettle_legal {b p} (h : Legal b) :
    Legal (Block.authSettle b p) := by
  unfold Block.authSettle
  refine Legal.choice (fun h0 => ?_) (fun h0 => ?_)
  · exact (Block.enterRun_legal h)
  · exact h

theorem Block.shrink_legal {b c h' cores units} (h : Legal b) :
    Legal (Block.shrink b c h' cores units) := by
  unfold Block.shrink
  extract_lets z0 z1 z2 z3 z4 z5 z6 z7 z8
  have h9 : Legal z6 := by
    subst z6
    exact (Block.setHarness_legal h)
  have h10 : Legal z7 := by
    subst z7
    exact (Block.modCmd_legal h9)
  have h11 : Legal z8 := by
    subst z8
    exact (Block.recheckWaits_legal h10)
  refine Legal.choice (fun h12 => ?_) (fun h12 => ?_)
  · exact (Block.endCmd_legal h)
  · refine Legal.choice (fun h13 => ?_) (fun h13 => ?_)
    · exact (Block.endCmd_legal h)
    · clear_value z8
      clear_value z7
      clear_value z6
      clear_value z5
      clear_value z4
      clear_value z3
      clear_value z2
      clear_value z1
      clear_value z0
      split
      · rename_i y14 y15 y16
        exact (Block.placeAll_legal (Block.endShrink_legal h11))
      · rename_i y17 y18
        exact h11

theorem Block.atsDone_legal {b x ok} (h : Legal b) :
    Legal (Block.atsDone b x ok) := by
  unfold Block.atsDone
  extract_lets z0 z1 z2 z3 z4 z5 z6 z7
  subst z1
  have h8 : Legal z3 := by
    subst z3
    clear_value z6
    clear_value z5
    clear_value z4
    clear_value z7
    clear_value z2
    clear_value z0
    exact Legal.same h rfl rfl rfl rfl rfl
  have h9 : Legal z4 := by
    subst z4
    refine Legal.choice (fun h10 => ?_) (fun h10 => ?_)
    · clear_value z6
      clear_value z5
      clear_value z7
      clear_value z3
      clear_value z2
      clear_value z0
      exact Legal.same h8 rfl rfl rfl rfl rfl
    · exact h8
  have h11 : Legal z6 := by
    subst z6
    refine Legal.foldl (fun b x h => ?_) _ ?_
    · refine Legal.choice (fun h12 => ?_) (fun h12 => ?_)
      · exact (Block.seekSource_legal h)
      · exact (Block.closeFault_legal h)
    · exact h9
  refine Legal.choice (fun h13 => ?_) (fun h13 => ?_)
  · exact h
  · refine Block.settleFaults_legal ?_
    refine Legal.foldl (fun b x h => ?_) _ ?_
    · refine Legal.choice (fun h14 => ?_) (fun h14 => ?_)
      · exact (Block.resumeAsker_legal h)
      · exact (Block.failAsker_legal h)
    · exact h11

theorem Block.syncWait_legal {b e ctx v n} (h : Legal b) : Legal (Block.syncWait b e ctx v n) :=
  Legal.keep (Block.syncWait_keeps (sub_refl _) (Keeps.refl _ _)) rfl h

theorem Block.syncRec_legal {b e w r v} (h : Legal b) :
    Legal (Block.syncRec b e w r v) := by
  unfold Block.syncRec
  extract_lets z0
  clear_value z0
  split
  · rename_i y1 y2
    exact (Block.syncBarrier_legal h)
  · rename_i y3 y4
    exact (Block.syncWait_legal h)
  · rename_i y5 y6
    exact (Block.syncArgload_legal h)
  · rename_i y7 y8 y9 y10
    exact (Block.setSynced_legal h)

theorem Block.ccReply_legal {b k agent line} (h : Legal b) :
    Legal (Block.ccReply b k agent line) := by
  unfold Block.ccReply
  split
  · rename_i y0 y1
    exact h
  · rename_i y2 y3 y4
    exact (Block.ccAnswer_legal (Block.dropMsg_legal h))

theorem Block.takeTests_legal {b failed} (h : Legal b) : Legal (Block.takeTests b failed) :=
  Legal.keep (Block.takeTests_keeps (sub_refl _) (Keeps.refl _ _)) rfl h

theorem Block.rxLink_legal {b p f admits g} (h : Legal b) (hg : ∀ v0, Legal v0 → Legal (g v0)) :
    Legal (Block.rxLink b p f admits g) := by
  unfold Block.rxLink
  extract_lets z0 z1
  have h2 : Legal z1 := by
    subst z1
    refine Legal.choice (fun h3 => ?_) (fun h3 => ?_)
    · exact (Block.rxGood_legal h)
    · exact h
  refine Legal.choice (fun h4 => ?_) (fun h4 => ?_)
  · exact h
  · refine Legal.choice (fun h5 => ?_) (fun h5 => ?_)
    · exact (Block.rxBad_legal h)
    · refine Legal.choice (fun h6 => ?_) (fun h6 => ?_)
      · exact h
      · clear_value z1
        clear_value z0
        split
        · rename_i y7 y8
          exact (Block.rlDrop_legal h2)
        · rename_i y9 y10 y11
          apply hg
          exact (Block.setPort_legal h2)

theorem Block.streamEng_legal {b e} (h : Legal b) :
    Legal (Block.streamEng b e) := by
  unfold Block.streamEng
  extract_lets z0
  clear_value z0
  split
  · rename_i y1 y2
    exact h
  · rename_i y3 y4 y5
    split
    · rename_i y6 y7
      refine Legal.choice (fun h8 => ?_) (fun h8 => ?_)
      · exact (Block.starve_legal h)
      · exact h
    · rename_i y9 y10 y11 y12
      refine Legal.choice (fun h13 => ?_) (fun h13 => ?_)
      · exact h
      · split
        · rename_i y14 y15 y16
          refine Legal.choice (fun h17 => ?_) (fun h17 => ?_)
          · exact (Block.syncRec_legal h)
          · exact h
        · rename_i y18 y19
          refine Legal.choice (fun h20 => ?_) (fun h20 => ?_)
          · exact (Block.mayRetire_legal h)
          · exact h

theorem Block.streamTick_legal {b e} (h : Legal b) :
    Legal (Block.streamTick b e) := by
  unfold Block.streamTick
  refine Legal.choice (fun h0 => ?_) (fun h0 => ?_)
  · exact (Block.loadArgs_legal h)
  · exact (Block.streamEng_legal h)

theorem Block.streamsTick_legal {b} (h : Legal b) :
    Legal (Block.streamsTick b) := by
  unfold Block.streamsTick
  refine Legal.foldl (fun b x h => ?_) _ ?_
  · refine Block.streamTick_legal ?_
    exact h
  · exact (Block.lanesTick_legal h)

theorem Block.breakVersion_legal {b v} (h : Legal b) : Legal (Block.breakVersion b v) :=
  Legal.keep (Block.breakVersion_keeps (sub_refl _) (Keeps.refl _ _)) rfl h

theorem Block.write32_legal {b path a v} (h : Legal b) :
    Legal (Block.write32 b path a v) := by
  unfold Block.write32
  refine Block.regWrite_legal ?_ ?_
  · exact h
  · intro x0 h1
    exact (unitWrite_legal h1)

theorem Block.writeAt_legal {b path a wide v} (h : Legal b) :
    Legal (Block.writeAt b path a wide v) := by
  unfold Block.writeAt
  refine Legal.choice (fun h0 => ?_) (fun h0 => ?_)
  · extract_lets z1
    have h2 : Legal z1 := by
      subst z1
      exact (Block.write32_legal h)
    refine Legal.choice (fun h3 => ?_) (fun h3 => ?_)
    · exact (Block.write32_legal h2)
    · exact h2
  · refine Legal.choice (fun h4 => ?_) (fun h4 => ?_)
    · exact (Block.windowAccess_legal h)
    · refine Legal.choice (fun h5 => ?_) (fun h5 => ?_)
      · exact (Block.doorAccess_legal h)
      · exact (Block.reservedWrite_legal h)

theorem Block.copyStores_legal {b} (h : Legal b) : Legal (Block.copyStores b) :=
  Legal.keep (Block.copyStores_keeps (sub_refl _) (Keeps.refl _ _)) rfl h

theorem Block.copyTick_legal {b} (h : Legal b) : Legal (Block.copyTick b) :=
  Legal.keep (Block.copyTick_keeps (sub_refl _) (Keeps.refl _ _)) rfl h

theorem Block.misaligned_legal {b path a write} (h : Legal b) : Legal (Block.misaligned b path a write) :=
  Legal.keep (Block.misaligned_keeps (sub_refl _) (Keeps.refl _ _)) rfl h

theorem Block.markWait_legal {b q} (h : Legal b) :
    Legal (Block.markWait b q) := by
  unfold Block.markWait
  split
  · rename_i y0 y1
    exact h
  · rename_i y2 y3 y4 y5
    exact (Block.meet_legal h)

end Sys2Proof.Laws
end

