-- ==== Sys2Proof/Laws/Keep3.lean ====
section
/-!
SUPPORT. Each operation and each row keeps the invariant. Part 3 of 3.
-/
namespace Sys2Proof.Laws

open Sys2Proof Sys2Proof.Machine Sys2Proof.Safety

theorem Block.marksTick_legal {b} (h : Legal b) :
    Legal (Block.marksTick b) := by
  unfold Block.marksTick
  refine Block.settleQueues_legal ?_
  refine Legal.foldl (fun b x h => ?_) _ ?_
  · refine Block.settleHalt_legal ?_
    exact (Block.markWait_legal h)
  · exact h

theorem Block.willNeed_legal {b c a len} (h : Legal b) :
    Legal (Block.willNeed b c a len) := by
  unfold Block.willNeed
  extract_lets z0 z1 z2
  have h3 : Legal z2 := by
    subst z2
    refine Block.modCmd_legal ?_
    clear_value z1
    clear_value z0
    exact Legal.same h rfl rfl rfl rfl rfl
  refine Legal.choice (fun h4 => ?_) (fun h4 => ?_)
  · exact h
  · refine Legal.foldl (fun b x h => ?_) _ ?_
    · refine Block.startFault_legal ?_
      exact h
    · exact h3

theorem Block.aonTick_legal {b} (h : Legal b) : Legal (Block.aonTick b) :=
  Legal.keep (Block.aonTick_keeps (sub_refl _) (Keeps.refl _ _)) rfl h

theorem Block.timeTick_legal {b} (h : Legal b) : Legal (Block.timeTick b) :=
  Legal.keep (Block.timeTick_keeps (sub_refl _) (Keeps.refl _ _)) rfl h

theorem Block.cohTick_legal {b} (h : Legal b) : Legal (Block.cohTick b) :=
  Legal.keep (Block.cohTick_keeps (sub_refl _) (Keeps.refl _ _)) rfl h

theorem Block.paceTick_legal {b} (h : Legal b) : Legal (Block.paceTick b) :=
  Legal.keep (Block.paceTick_keeps (sub_refl _) (Keeps.refl _ _)) rfl h

theorem Block.engsTick_legal {b} (h : Legal b) : Legal (Block.engsTick b) :=
  Legal.keep (Block.engsTick_keeps (sub_refl _) (Keeps.refl _ _)) rfl h

theorem Block.timesTick_legal {b} (h : Legal b) : Legal (Block.timesTick b) :=
  Legal.keep (Block.timesTick_keeps (sub_refl _) (Keeps.refl _ _)) rfl h

theorem Block.coreTick_legal {b} (h : Legal b) :
    Legal (Block.coreTick b) := by
  unfold Block.coreTick
  extract_lets z0 z1 z2 z3
  have h4 : Legal z1 := by
    subst z1
    clear_value z3
    clear_value z2
    clear_value z0
    exact Legal.same h rfl rfl rfl rfl rfl
  have h5 : Legal z2 := by
    subst z2
    exact (Block.recoveryTick_legal (Block.cohTick_legal (Block.paceTick_legal (Block.streamsTick_legal (Block.engsTick_legal (Block.workTick_legal (Block.timesTick_legal h4)))))))
  have h6 : Legal z3 := by
    subst z3
    exact (Block.swapTick_legal (Block.moveRole_legal h5))
  exact (Block.mwRun_legal (Block.copyTick_legal (Block.settlePosted_legal (Block.marksTick_legal (Block.calm_legal h6)))))

theorem tick_legal {b} (h : Legal b) :
    Legal (tick b) := by
  unfold tick
  extract_lets z0 z1
  have h2 : Legal z0 := by
    subst z0
    exact (Block.aonTick_legal h)
  have h3 : Legal z1 := by
    subst z1
    exact (Block.pagesTick_legal (Block.reinTick_legal (Block.cadTick_legal (Block.timeTick_legal h2))))
  refine Legal.choice (fun h4 => ?_) (fun h4 => ?_)
  · exact h2
  · refine Legal.choice (fun h5 => ?_) (fun h5 => ?_)
    · exact h3
    · exact (Block.coreTick_legal h3)

theorem Block.missAccess_legal {b a ctx va write} (h : Legal b) :
    Legal (Block.missAccess b a ctx va write) := by
  unfold Block.missAccess
  extract_lets z0
  have h1 : Legal z0 := by
    subst z0
    exact (Block.touch_legal h)
  clear_value z0
  split
  · rename_i y2 y3 y4 y5 y6
    exact (Block.handOver_legal h1)
  · rename_i y7 y8 y9 y10
    refine Legal.choice (fun h11 => ?_) (fun h11 => ?_)
    · exact h1
    · exact (Block.meet_legal h1)

theorem Block.drained_legal {b e} (h : Legal b) : Legal (Block.drained b e) :=
  Legal.keep (Block.drained_keeps (sub_refl _) (Keeps.refl _ _)) rfl h

theorem Block.toSecurity_legal {b pl} (h : Legal b) : Legal (Block.toSecurity b pl) :=
  Legal.keep (Block.toSecurity_keeps (sub_refl _) (Keeps.refl _ _)) rfl h

theorem Block.copyMove_legal {b c src dst len ss ds} (h : Legal b) :
    Legal (Block.copyMove b c src dst len ss ds) := by
  unfold Block.copyMove
  extract_lets z0
  have h1 : Legal z0 := by
    subst z0
    exact (Block.dmaTouch_legal (Block.dmaTouch_legal h))
  refine Block.access_legal ?_ ?_
  · exact h1
  · intro x2 h3
    refine Block.access_legal ?_ ?_
    · exact h1
    · intro x4 h5
      extract_lets z6
      have h7 : Legal z6 := by
        subst z6
        exact (Block.countBursts_legal h1)
      exact (Block.endCmd_legal (Block.dmaWrite_legal h7))

theorem Block.kernel_legal {b c f} (h : Legal b) (hf : ∀ v0, Legal v0 → Legal (f v0)) :
    Legal (Block.kernel b c f) := by
  unfold Block.kernel
  split
  · rename_i y0 y1
    apply hf
    exact h
  · rename_i y2 y3 y4
    refine Legal.choice (fun h5 => ?_) (fun h5 => ?_)
    · refine Block.endCmd_legal ?_
      refine Legal.choice (fun h6 => ?_) (fun h6 => ?_)
      · exact (Block.undoEnd_legal h)
      · exact h
    · refine Legal.choice (fun h7 => ?_) (fun h7 => ?_)
      · apply hf
        exact h
      · refine Legal.choice (fun h8 => ?_) (fun h8 => ?_)
        · exact (Block.endCmd_legal h)
        · refine Legal.choice (fun h9 => ?_) (fun h9 => ?_)
          · exact (Block.endCmd_legal h)
          · apply hf
            exact h

theorem Block.retryStepNow_legal {b c h'} (h : Legal b) :
    Legal (Block.retryStepNow b c h') := by
  unfold Block.retryStepNow
  extract_lets z0 z1 z2 z3 z4 z5
  have h6 : Legal z2 := by
    subst z2
    refine Block.discardHeld_legal ?_
    clear_value z5
    clear_value z4
    clear_value z3
    clear_value z1
    clear_value z0
    exact Legal.same h rfl rfl rfl rfl rfl
  have h7 : Legal z3 := by
    subst z3
    refine Legal.foldl (fun b x h => ?_) _ ?_
    · refine Block.endCmd_legal ?_
      exact h
    · exact h6
  have h8 : Legal z4 := by
    subst z4
    refine Legal.foldl (fun b x h => ?_) _ ?_
    · refine Block.modTask_legal ?_
      exact h
    · exact h7
  have h9 : Legal z5 := by
    subst z5
    exact (Block.event_legal h8)
  refine Legal.choice (fun h10 => ?_) (fun h10 => ?_)
  · refine Legal.foldl (fun b x h => ?_) _ ?_
    · refine Block.postErr_legal ?_
      exact h
    · exact h9
  · exact h9

theorem Block.bpHit_legal {b k p} (h : Legal b) : Legal (Block.bpHit b k p) :=
  Legal.keep (Block.bpHit_keeps (sub_refl _) (Keeps.refl _ _)) rfl h

theorem Block.atsInvalidate_legal {b tag pasid va len} (h : Legal b) :
    Legal (Block.atsInvalidate b tag pasid va len) := by
  unfold Block.atsInvalidate
  refine Legal.choice (fun h0 => ?_) (fun h0 => ?_)
  · exact h
  · extract_lets z1 z2 z3 z4
    have h5 : Legal z3 := by
      subst z3
      clear_value z4
      clear_value z2
      clear_value z1
      exact Legal.same h rfl rfl rfl rfl rfl
    subst z4
    refine Legal.foldl (fun b x h => ?_) _ ?_
    · refine Block.seekSource_legal ?_
      exact (Block.modFault_legal h)
    · exact h5

theorem Block.tryUnmap_legal {b c id} (h : Legal b) :
    Legal (Block.tryUnmap b c id) := by
  unfold Block.tryUnmap
  split
  · rename_i y0 y1
    exact (Block.endCmd_legal h)
  · rename_i y2 y3 y4
    refine Legal.choice (fun h5 => ?_) (fun h5 => ?_)
    · exact h
    · extract_lets z6
      have h7 : Legal z6.2 := by
        subst z6
        refine Block.unmapEnd_legal ?_
        exact (Block.unmapWork_legal h)
      refine Legal.choice (fun h8 => ?_) (fun h8 => ?_)
      · refine Block.endCmd_legal ?_
        refine Block.bumpEpoch_legal ?_
        exact h7
      · exact h7

theorem Block.releaseSteps_legal {b h'} (h : Legal b) :
    Legal (Block.releaseSteps b h') := by
  unfold Block.releaseSteps
  extract_lets z0
  refine Block.settlePosted_legal ?_
  refine Legal.foldl (fun b x h => ?_) _ ?_
  · refine Block.settleWicks_legal ?_ ?_
    · exact (Block.releaseHeld_legal h)
    · exact h
  · exact h

theorem Block.wickError_legal {b s} (h : Legal b) : Legal (Block.wickError b s) :=
  Legal.keep (Block.wickError_keeps (sub_refl _) (Keeps.refl _ _)) rfl h

theorem Block.itemFault_legal {b ctx task va st} (h : Legal b) :
    Legal (Block.itemFault b ctx task va st) := by
  unfold Block.itemFault
  refine Legal.choice (fun h0 => ?_) (fun h0 => ?_)
  · exact (Block.loseCtx_legal h)
  · exact (Block.haltTask_legal h)

theorem Block.walkEnd_legal {b k} (h : Legal b) : Legal (Block.walkEnd b k) :=
  Legal.keep (Block.walkEnd_keeps (sub_refl _) (Keeps.refl _ _)) rfl h

theorem Block.powerReset_legal {b : Block} (h : Legal b) : Legal b.powerReset := by
  have h1 : Legal { b with dev := [], spm := [], ssc := [] } := Legal.mems h (fun _ => rfl) id (fun _ => rfl) (fun _ => rfl) rfl
  exact Legal.semsOf h1 rfl rfl rfl rfl (fun _ h => nomatch h)

theorem Block.saveWicks_legal {b c} (h : Legal b) : Legal (Block.saveWicks b c) :=
  Legal.keep (Block.saveWicks_keeps (sub_refl _) (Keeps.refl _ _)) rfl h

theorem Block.readBy_legal {b : Block} {path w : Nat} {held f : Block → Block} (h : Legal b) (hheld : ∀ b, Legal b → Legal (held b))
    (hf : path = 1 ∨ path = 2 ∨ path = 3 → ∀ b, Legal b → Legal (f b)) : Legal (Block.readBy b path w held f) := by
  unfold Block.readBy
  refine Legal.choice (fun _ => Block.answer_legal h) (fun hc => ?_)
  refine Legal.choice (fun _ => ?_) (fun _ => ?_)
  · exact Legal.choice (fun _ => hheld _ h) (fun _ => Block.answer_legal h)
  · refine hf ?_ _ h
    unfold Block.pathUp at hc
    simp only [Bool.not_eq_true', Bool.not_eq_false, Bool.or_eq_true, Bool.and_eq_true, decide_eq_true_eq] at hc
    rcases hc with (hc | hc) | hc
    · exact .inl hc.1
    · exact .inr (.inl hc.1)
    · exact .inr (.inr hc.1)


theorem Block.setLine_legal {b a line st data} (h : Legal b) : Legal (Block.setLine b a line st data) :=
  Legal.keep (Block.setLine_keeps (sub_refl _) (Keeps.refl _ _)) rfl h

theorem Block.verdict_legal {b k ok} (h : Legal b) : Legal (Block.verdict b k ok) :=
  Legal.keep (Block.verdict_keeps (sub_refl _) (Keeps.refl _ _)) rfl h

theorem Block.grant_legal {b} (h : Legal b) : Legal (Block.grant b) :=
  Legal.keep (Block.grant_keeps (sub_refl _) (Keeps.refl _ _)) rfl h

theorem Block.recvDoor_legal {b q v} (h : Legal b) : Legal (Block.recvDoor b q v) :=
  Legal.keep (Block.recvDoor_keeps (sub_refl _) (Keeps.refl _ _)) rfl h

theorem Block.sendRemote_legal {b qdoor value chip dest} (h : Legal b) : Legal (Block.sendRemote b qdoor value chip dest) :=
  Legal.keep (Block.sendRemote_keeps (sub_refl _) (Keeps.refl _ _)) rfl h

theorem Block.takeLaneSwitch_legal {b p rxok} (h : Legal b) :
    Legal (Block.takeLaneSwitch b p rxok) := by
  unfold Block.takeLaneSwitch
  extract_lets z0 z1 z2 z3
  have h4 : Legal z2 := by
    subst z2
    exact (Block.setField_legal h)
  refine Legal.choice (fun h5 => ?_) (fun h5 => ?_)
  · exact (Block.replay_legal (Block.setPort_legal h4))
  · refine Legal.choice (fun h6 => ?_) (fun h6 => ?_)
    · exact (Block.toTrain_legal h)
    · exact h

theorem Block.stopStep_legal {b c h'} (h : Legal b) : Legal (Block.stopStep b c h') :=
  Legal.keep (Block.stopStep_keeps (sub_refl _) (Keeps.refl _ _)) rfl h

theorem Block.completeCmd_legal {b q i} (h : Legal b) :
    Legal (Block.completeCmd b q i) := by
  unfold Block.completeCmd
  split
  · rename_i y0 y1
    exact h
  · rename_i y2 y3 y4
    split
    · rename_i y5 y6 y7
      refine Legal.choice (fun h8 => ?_) (fun h8 => ?_)
      · exact (Block.settlePosted_legal h)
      · refine Legal.choice (fun h9 => ?_) (fun h9 => ?_)
        · exact h
        · split
          · rename_i y10 y11 y12
            have h13 := Block.writeStatus_legal h y12
            exact (Block.finishCmd_legal h13)
          · rename_i y14 y15 y16 y17
            exact (Block.ringPoison_legal h)
          · rename_i y19 y20 y21
            exact (Block.ringFault_legal h)
          · rename_i y23 y24 y25 y26
            exact (Block.meet_legal h)
    · rename_i y27 y28
      exact h

theorem Block.sampleOcc_legal {b} (h : Legal b) : Legal (Block.sampleOcc b) :=
  Legal.keep (Block.sampleOcc_keeps (sub_refl _) (Keeps.refl _ _)) rfl h

theorem execProgressBeat_legal {x0 s0 t} (h0 : Legal s0.blk) (e : execProgressBeat x0 s0 = .next t) : Legal t.blk :=
  Legal.keep (execProgressBeat_keeps (sub_refl _) e) rfl h0

theorem execEngineInvocationEnd_legal {x0 s0 t} (h0 : Legal s0.blk) (e : execEngineInvocationEnd x0 s0 = .next t) :
    Legal t.blk := by
  unfold execEngineInvocationEnd at e
  refine core_legal (fun a h => ?_) h0 e
  extract_lets z0
  clear_value z0
  split
  · rename_i y1 y2 y3
    refine Legal.choice (fun h4 => ?_) (fun h4 => ?_)
    · exact (Block.endInvocation_legal (Block.setEng_legal h))
    · exact h
  · rename_i y5 y6
    exact h

theorem execLedgerStorageUe_legal {s0 t} (h0 : Legal s0.blk) (e : execLedgerStorageUe s0 = .next t) : Legal t.blk :=
  Legal.keep (execLedgerStorageUe_keeps (sub_refl _) e) rfl h0

theorem execCnFreezeWrite_legal {x0 x1 s0 t} (h0 : Legal s0.blk) (e : execCnFreezeWrite x0 x1 s0 = .next t) : Legal t.blk :=
  Legal.keep (execCnFreezeWrite_keeps (sub_refl _) e) rfl h0

theorem execWakeGroupStart_legal {s0 t} (h0 : Legal s0.blk) (e : execWakeGroupStart s0 = .next t) : Legal t.blk :=
  Legal.keep (execWakeGroupStart_keeps (sub_refl _) e) rfl h0

theorem execLamplighterDecision_legal {s0 t} (h0 : Legal s0.blk) (e : execLamplighterDecision s0 = .next t) : Legal t.blk :=
  Legal.keep (execLamplighterDecision_keeps (sub_refl _) e) rfl h0

theorem execStallBudgetExpiry_legal {x0 s0 t} (h0 : Legal s0.blk) (e : execStallBudgetExpiry x0 s0 = .next t) : Legal t.blk :=
  Legal.keep (execStallBudgetExpiry_keeps (sub_refl _) e) rfl h0

theorem execAtsInvalidateCompletion_legal {x0 s0 t} (h0 : Legal s0.blk) (e : execAtsInvalidateCompletion x0 s0 = .next t) : Legal t.blk :=
  Legal.keep (execAtsInvalidateCompletion_keeps (sub_refl _) e) rfl h0

theorem execWalkDone_legal {x0 s0 t} (h0 : Legal s0.blk) (e : execWalkDone x0 s0 = .next t) : Legal t.blk :=
  Legal.keep (execWalkDone_keeps (sub_refl _) e) rfl h0

theorem execAtsCompletion_legal {x0 x1 x2 x3 x4 x5 x6 s0 t} (h0 : Legal s0.blk) (e : execAtsCompletion x0 x1 x2 x3 x4 x5 x6 s0 = .next t) :
    Legal t.blk := by
  unfold execAtsCompletion at e
  refine core_legal (fun a h => ?_) h0 e
  refine Block.atsDone_legal ?_
  exact h

theorem execLaunchPersist_legal {x0 x1 s0 t} (h0 : Legal s0.blk) (e : execLaunchPersist x0 x1 s0 = .next t) :
    Legal t.blk := by
  unfold execLaunchPersist at e
  refine core_legal (fun a h => ?_) h0 e
  refine Block.runCmd_legal ?_ ?_
  · exact h
  · intro x0 x1 h2
    refine Legal.choice (fun h3 => ?_) (fun h3 => ?_)
    · exact h2
    · exact (Block.toHal_legal h2)

theorem execWindowOn_legal {x0 s0 t} (h0 : Legal s0.blk) (e : execWindowOn x0 s0 = .next t) : Legal t.blk :=
  Legal.keep (execWindowOn_keeps (sub_refl _) e) rfl h0

theorem execHeartbeatSend_legal {x0 s0 t} (h0 : Legal s0.blk) (e : execHeartbeatSend x0 s0 = .next t) : Legal t.blk :=
  Legal.keep (execHeartbeatSend_keeps (sub_refl _) e) rfl h0

theorem execCommitWickEnable_legal {x0 x1 s0 t} (h0 : Legal s0.blk) (e : execCommitWickEnable x0 x1 s0 = .next t) : Legal t.blk :=
  Legal.keep (execCommitWickEnable_keeps (sub_refl _) e) rfl h0

theorem execZtFcrHeadWrite_legal {x0 x1 s0 t} (h0 : Legal s0.blk) (e : execZtFcrHeadWrite x0 x1 s0 = .next t) :
    Legal t.blk := by
  unfold execZtFcrHeadWrite at e
  unfold State.write at e
  refine aon_legal (fun a h => ?_) h0 e
  refine Block.regWrite_legal ?_ ?_
  · exact h
  · intro x0 h1
    exact (Block.fcrHeadWrite_legal h1)

theorem execObScanDataRead_legal {x0 x1 s0 t} (h0 : Legal s0.blk) (e : execObScanDataRead x0 x1 s0 = .next t) : Legal t.blk :=
  Legal.keep (execObScanDataRead_keeps (sub_refl _) e) rfl h0

theorem execStallAutoResume_legal {x0 s0 t} (h0 : Legal s0.blk) (e : execStallAutoResume x0 s0 = .next t) :
    Legal t.blk := by
  unfold execStallAutoResume at e
  refine core_legal (fun a h => ?_) h0 e
  split
  · rename_i y0 y1 y2
    split
    · rename_i y3 y4 y5
      refine Legal.choice (fun h6 => ?_) (fun h6 => ?_)
      · exact (Block.resumeCmd_legal h)
      · exact h
    · rename_i y7 y8
      exact h
  · rename_i y9 y10 y11
    split
    · rename_i y12 y13 y14
      refine Legal.choice (fun h15 => ?_) (fun h15 => ?_)
      · exact (Block.resumeTask_legal h)
      · exact h
    · rename_i y16 y17
      exact h

theorem execPrefetch_legal {x0 x1 s0 t} (h0 : Legal s0.blk) (e : execPrefetch x0 x1 s0 = .next t) :
    Legal t.blk := by
  unfold execPrefetch at e
  refine core_legal (fun a h => ?_) h0 e
  refine Block.runCmd_legal ?_ ?_
  · exact h
  · intro x0 x1 h2
    split
    · rename_i y3 y4 y5 y6
      extract_lets z7 z8 z9
      subst z7
      have h10 : Legal z9 := by
        subst z9
        exact (Block.setRunning_legal h2)
      refine Legal.choice (fun h11 => ?_) (fun h11 => ?_)
      · dsimp -zeta only
        refine Legal.choice (fun h12 => ?_) (fun h12 => ?_)
        · exact h2
        · exact (Block.endCmd_legal h2)
      · dsimp -zeta only
        refine Legal.choice (fun h13 => ?_) (fun h13 => ?_)
        · refine Legal.foldl (fun b x h => ?_) _ ?_
          · refine Block.startFault_legal ?_
            exact h
          · exact h10
        · refine Block.endCmd_legal ?_
          refine Legal.foldl (fun b x h => ?_) _ ?_
          · refine Block.startFault_legal ?_
            exact h
          · exact h10
    · rename_i y14 y15
      exact h2

theorem execQueueDestroy_legal {x0 x1 s0 t} (h0 : Legal s0.blk) (e : execQueueDestroy x0 x1 s0 = .next t) :
    Legal t.blk := by
  unfold execQueueDestroy at e
  refine core_legal (fun a h => ?_) h0 e
  refine Block.runCmd_legal ?_ ?_
  · exact h
  · intro x0 x1 h2
    split
    · rename_i y3 y4 y5 y6 y7
      refine Block.kernel_legal ?_ ?_
      · exact h2
      · intro x8 h9
        split
        · rename_i y10 y11
          exact (Block.endCmd_legal h9)
        · rename_i y12 y13 y14
          refine Legal.choice (fun h15 => ?_) (fun h15 => ?_)
          · exact (Block.settleQueue_legal h9)
          · exact (Block.destroyQueue_legal (Block.setRunning_legal h9))
    · rename_i y16 y17
      exact h2

theorem execListRetire_legal {x0 x1 s0 t} (h0 : Legal s0.blk) (e : execListRetire x0 x1 s0 = .next t) : Legal t.blk :=
  Legal.keep (execListRetire_keeps (sub_refl _) e) rfl h0

theorem execLightingGroupStart_legal {s0 t} (h0 : Legal s0.blk) (e : execLightingGroupStart s0 = .next t) : Legal t.blk :=
  Legal.keep (execLightingGroupStart_keeps (sub_refl _) e) rfl h0

theorem execPwrcycAckAssert_legal {s0 t} (h0 : Legal s0.blk) (e : execPwrcycAckAssert s0 = .next t) : Legal t.blk :=
  Legal.keep (execPwrcycAckAssert_keeps (sub_refl _) e) rfl h0

theorem execAonResetRelease_legal {x0 s0 t} (h0 : Legal s0.blk) (e : execAonResetRelease x0 s0 = .next t) :
    Legal t.blk := by
  unfold execAonResetRelease at e
  refine aon_legal (fun a h => ?_) h0 e
  extract_lets z0
  have h1 : Legal z0 := by
    subst z0
    exact (Block.powerReset_legal h)
  clear_value z0
  exact Legal.same h1 rfl rfl rfl rfl rfl

theorem execTimeSyncExchange_legal {x0 s0 t} (h0 : Legal s0.blk) (e : execTimeSyncExchange x0 s0 = .next t) : Legal t.blk :=
  Legal.keep (execTimeSyncExchange_keeps (sub_refl _) e) rfl h0

theorem execNak_legal {x0 x1 s0 t} (h0 : Legal s0.blk) (e : execNak x0 x1 s0 = .next t) :
    Legal t.blk := by
  unfold execNak at e
  refine link_legal (fun a h => ?_) h0 e
  refine Block.rxLink_legal ?_ ?_
  · exact h
  · intro x0 h1
    exact (Block.replay_legal h1)

theorem execWindowOff_legal {x0 s0 t} (h0 : Legal s0.blk) (e : execWindowOff x0 s0 = .next t) : Legal t.blk :=
  Legal.keep (execWindowOff_keeps (sub_refl _) e) rfl h0

theorem execPowerGrant_legal {s0 t} (h0 : Legal s0.blk) (e : execPowerGrant s0 = .next t) : Legal t.blk :=
  Legal.keep (execPowerGrant_keeps (sub_refl _) e) rfl h0

theorem execMigrationFault_legal {x0 x1 x2 x3 s0 t} (h0 : Legal s0.blk) (e : execMigrationFault x0 x1 x2 x3 s0 = .next t) :
    Legal t.blk := by
  unfold execMigrationFault at e
  refine core_legal (fun a h => ?_) h0 e
  refine Legal.choice (fun h0 => ?_) (fun h0 => ?_)
  · exact (Block.missAccess_legal h)
  · exact h

theorem execDoorbellWrite_legal {x0 x1 x2 x3 s0 t} (h0 : Legal s0.blk) (e : execDoorbellWrite x0 x1 x2 x3 s0 = .next t) : Legal t.blk :=
  Legal.keep (execDoorbellWrite_keeps (sub_refl _) e) rfl h0

theorem execSnpInv_legal {x0 x1 s0 t} (h0 : Legal s0.blk) (e : execSnpInv x0 x1 s0 = .next t) :
    Legal t.blk := by
  unfold execSnpInv at e
  unfold State.cc at e
  refine core_legal (fun a h => ?_) h0 e
  refine Legal.choice (fun h0 => ?_) (fun h0 => ?_)
  · dsimp -zeta only
    refine Block.ccSnoop_legal ?_ ?_
    · exact h
    · intro x1 x2 h3
      exact (Block.ccInvalidate_legal h3)
  · exact h

theorem execWrT_legal {x0 x1 x2 x3 s0 t} (h0 : Legal s0.blk) (e : execWrT x0 x1 x2 x3 s0 = .next t) :
    Legal t.blk := by
  unfold execWrT at e
  refine core_legal (fun a h => ?_) h0 e
  refine Legal.choice (fun h0 => ?_) (fun h0 => ?_)
  · exact h
  · refine Legal.choice (fun h1 => ?_) (fun h1 => ?_)
    · exact h
    · refine Legal.choice (fun h2 => ?_) (fun h2 => ?_)
      · exact h
      · refine Block.ccWrite_legal ?_
        refine Legal.choice (fun h3 => ?_) (fun h3 => ?_)
        · exact (Block.noteRecord_legal h)
        · exact h

theorem execGlobalStopRequest_legal {x0 s0 t} (h0 : Legal s0.blk) (e : execGlobalStopRequest x0 s0 = .next t) : Legal t.blk :=
  Legal.keep (execGlobalStopRequest_keeps (sub_refl _) e) rfl h0

theorem execRelay_legal {x0 x1 s0 t} (h0 : Legal s0.blk) (e : execRelay x0 x1 s0 = .next t) :
    Legal t.blk := by
  unfold execRelay at e
  refine link_legal (fun a h => ?_) h0 e
  refine Block.rxFrame_legal ?_
  exact h

theorem execTaskItemTake_legal {x0 x1 s0 t} (h0 : Legal s0.blk) (e : execTaskItemTake x0 x1 s0 = .next t) :
    Legal t.blk := by
  unfold execTaskItemTake at e
  refine core_legal (fun a h => ?_) h0 e
  split
  · rename_i y0 y1
    exact h
  · rename_i y2 y3 y4
    refine Legal.choice (fun h5 => ?_) (fun h5 => ?_)
    · extract_lets z6 z7
      have h8 : Legal z7 := by
        subst z7
        exact (Block.touch_legal h)
      clear_value z7
      clear_value z6
      split
      · rename_i y9 y10 y11
        refine Block.viaHome_legal ?_ ?_
        · exact h8
        · exact (Block.startItem_legal h8)
      · rename_i y12 y13 y14 y15
        exact (Block.loseCtx_legal (Block.notePoison_legal h8))
      · rename_i y16 y17 y18
        exact (Block.itemFault_legal h8)
      · rename_i y19 y20 y21 y22
        exact (Block.meet_legal h8)
    · exact h

theorem execRdoutAck_legal {x0 s0 t} (h0 : Legal s0.blk) (e : execRdoutAck x0 s0 = .next t) : Legal t.blk :=
  Legal.keep (execRdoutAck_keeps (sub_refl _) e) rfl h0

theorem execLaunch_legal {x0 x1 s0 t} (h0 : Legal s0.blk) (e : execLaunch x0 x1 s0 = .next t) :
    Legal t.blk := by
  unfold execLaunch at e
  refine core_legal (fun a h => ?_) h0 e
  refine Block.runCmd_legal ?_ ?_
  · exact h
  · intro x0 x1 h2
    refine Legal.choice (fun h3 => ?_) (fun h3 => ?_)
    · exact h2
    · exact (Block.toHal_legal h2)

theorem execDrainLimitExpiry_legal {x0 s0 t} (h0 : Legal s0.blk) (e : execDrainLimitExpiry x0 s0 = .next t) : Legal t.blk :=
  Legal.keep (execDrainLimitExpiry_keeps (sub_refl _) e) rfl h0

theorem execWickRowUe_legal {x0 s0 t} (h0 : Legal s0.blk) (e : execWickRowUe x0 s0 = .next t) : Legal t.blk :=
  Legal.keep (execWickRowUe_keeps (sub_refl _) e) rfl h0

theorem execSnpWb_legal {x0 x1 s0 t} (h0 : Legal s0.blk) (e : execSnpWb x0 x1 s0 = .next t) :
    Legal t.blk := by
  unfold execSnpWb at e
  unfold State.cc at e
  refine core_legal (fun a h => ?_) h0 e
  refine Legal.choice (fun h0 => ?_) (fun h0 => ?_)
  · dsimp -zeta only
    refine Block.ccSnoop_legal ?_ ?_
    · exact h
    · intro x1 x2 h3
      extract_lets z4 z5 z6
      have h7 : Legal z4 := by
        subst z4
        exact (Block.ccSpill_legal h3)
      have h8 : Legal z5 := by
        subst z5
        exact (Block.setLine_legal h7)
      have h9 : Legal z6 := by
        subst z6
        refine Legal.choice (fun h10 => ?_) (fun h10 => ?_)
        · exact (Block.setDir_legal h8)
        · exact h3
      exact (Block.ccAnswer_legal h9)
  · exact h

theorem execCoreResetAssert_legal {s0 t} (h0 : Legal s0.blk) (e : execCoreResetAssert s0 = .next t) :
    Legal t.blk := by
  unfold execCoreResetAssert at e
  refine aon_legal (fun a h => ?_) h0 e
  refine Legal.choice (fun h0 => ?_) (fun h0 => ?_)
  · exact h
  · extract_lets z1 z2 z3
    have h4 : Legal z1 := by
      subst z1
      exact (Block.coreReset_legal h)
    have h5 : Legal z2 := by
      subst z2
      clear_value z3
      clear_value z1
      exact Legal.same h4 rfl rfl rfl rfl rfl
    clear_value z3
    clear_value z2
    clear_value z1
    exact Legal.same h5 rfl rfl rfl rfl rfl

theorem execWalkerUe_legal {x0 s0 t} (h0 : Legal s0.blk) (e : execWalkerUe x0 s0 = .next t) : Legal t.blk :=
  Legal.keep (execWalkerUe_keeps (sub_refl _) e) rfl h0

theorem execLedgerClosing_legal {s0 t} (h0 : Legal s0.blk) (e : execLedgerClosing s0 = .next t) : Legal t.blk :=
  Legal.keep (execLedgerClosing_keeps (sub_refl _) e) rfl h0

theorem execPwrcycNoackTimeout_legal {s0 t} (h0 : Legal s0.blk) (e : execPwrcycNoackTimeout s0 = .next t) : Legal t.blk :=
  Legal.keep (execPwrcycNoackTimeout_keeps (sub_refl _) e) rfl h0

theorem execStallEnd_legal {x0 s0 t} (h0 : Legal s0.blk) (e : execStallEnd x0 s0 = .next t) : Legal t.blk :=
  Legal.keep (execStallEnd_keeps (sub_refl _) e) rfl h0

theorem execData_legal {x0 x1 s0 t} (h0 : Legal s0.blk) (e : execData x0 x1 s0 = .next t) :
    Legal t.blk := by
  unfold execData at e
  unfold State.cc at e
  refine core_legal (fun a h => ?_) h0 e
  refine Legal.choice (fun h0 => ?_) (fun h0 => ?_)
  · dsimp -zeta only
    split
    · rename_i y1 y2
      exact (Block.ccDown_legal h)
    · rename_i y3 y4 y5
      extract_lets z6 z7
      have h8 : Legal z6 := by
        subst z6
        exact (Block.dropMsg_legal h)
      have h9 : Legal z7 := by
        subst z7
        clear_value z6
        split
        · rename_i y10 y11 y12
          exact (Block.setLine_legal h8)
        · rename_i y13 y14
          exact h8
      exact (Block.ccTaken_legal h9)
  · exact h

theorem execBootmapClear_legal {x0 s0 t} (h0 : Legal s0.blk) (e : execBootmapClear x0 s0 = .next t) : Legal t.blk :=
  Legal.keep (execBootmapClear_keeps (sub_refl _) e) rfl h0

theorem execSignalRemote_legal {x0 x1 s0 t} (h0 : Legal s0.blk) (e : execSignalRemote x0 x1 s0 = .next t) : Legal t.blk :=
  Legal.keep (execSignalRemote_keeps (sub_refl _) e) rfl h0

theorem execHoldoverEdge_legal {s0 t} (h0 : Legal s0.blk) (e : execHoldoverEdge s0 = .next t) : Legal t.blk :=
  Legal.keep (execHoldoverEdge_keeps (sub_refl _) e) rfl h0

theorem execClrSig_legal {x0 s0 t} (h0 : Legal s0.blk) (e : execClrSig x0 s0 = .next t) : Legal t.blk :=
  Legal.keep (execClrSig_keeps (sub_refl _) e) rfl h0

theorem execWatchdogPet_legal {x0 s0 t} (h0 : Legal s0.blk) (e : execWatchdogPet x0 s0 = .next t) : Legal t.blk :=
  Legal.keep (execWatchdogPet_keeps (sub_refl _) e) rfl h0

theorem execPtEnWrite_legal {x0 x1 x2 s0 t} (h0 : Legal s0.blk) (e : execPtEnWrite x0 x1 x2 s0 = .next t) :
    Legal t.blk := by
  unfold execPtEnWrite at e
  unfold State.write at e
  refine aon_legal (fun a h => ?_) h0 e
  refine Block.regWrite_legal ?_ ?_
  · exact h
  · intro x0 h1
    exact (Block.ptCtlWrite_legal h1)

theorem execWickSignalApply_legal {x0 x1 x2 s0 t} (h0 : Legal s0.blk) (e : execWickSignalApply x0 x1 x2 s0 = .next t) : Legal t.blk :=
  Legal.keep (execWickSignalApply_keeps (sub_refl _) e) rfl h0

theorem execHeartbeatTimeout_legal {x0 s0 t} (h0 : Legal s0.blk) (e : execHeartbeatTimeout x0 s0 = .next t) :
    Legal t.blk := by
  unfold execHeartbeatTimeout at e
  refine link_legal (fun a h => ?_) h0 e
  extract_lets z0
  refine Legal.choice (fun h1 => ?_) (fun h1 => ?_)
  · exact (Block.toTrain_legal h)
  · exact h

theorem execWickRelease_legal {x0 s0 t} (h0 : Legal s0.blk) (e : execWickRelease x0 s0 = .next t) : Legal t.blk :=
  Legal.keep (execWickRelease_keeps (sub_refl _) e) rfl h0

theorem execPwrcycReqRelease_legal {s0 t} (h0 : Legal s0.blk) (e : execPwrcycReqRelease s0 = .next t) :
    Legal t.blk := by
  unfold execPwrcycReqRelease at e
  refine aon_legal (fun a h => ?_) h0 e
  split
  · rename_i y0 y1 y2
    refine Legal.choice (fun h3 => ?_) (fun h3 => ?_)
    · exact (Block.powerReset_legal h)
    · exact h
  · rename_i y4 y5
    exact h

theorem execRcFieldRead_legal {x0 x1 x2 s0 t} (h0 : Legal s0.blk) (e : execRcFieldRead x0 x1 x2 s0 = .next t) :
    Legal t.blk := by
  unfold execRcFieldRead at e
  refine aon_legal (fun a h => ?_) h0 e
  extract_lets z0
  refine Legal.choice (fun h1 => ?_) (fun h1 => ?_)
  · exact (Block.answer_legal (Block.misaligned_legal h))
  · refine Block.readBy_legal ?_ ?_ ?_
    · exact h
    · intro x2 h3
      exact (Block.answer_legal h3)
    · intro h4 x5 h6
      extract_lets z7
      have h8 : Legal z7.2 := by
        subst z7
        refine Legal.choice2 (fun h9 => ?_) (fun h9 => ?_)
        · refine Block.read64_legal ?_ ?_
          · assumption
          · exact h6
        · refine Block.read32_legal ?_ ?_
          · assumption
          · exact h6
      refine Block.answer_legal ?_
      exact h8

theorem execSemRead_legal {x0 x1 s0 t} (h0 : Legal s0.blk) (e : execSemRead x0 x1 s0 = .next t) :
    Legal t.blk := by
  unfold execSemRead at e
  refine aon_legal (fun a h => ?_) h0 e
  refine Block.readBy_legal ?_ ?_ ?_
  · exact h
  · intro x0 h1
    exact (Block.answer_legal h1)
  · intro h2 x3 h4
    extract_lets z5
    have h6 : Legal z5.2 := by
      subst z5
      refine Block.takeSem_legal ?_ ?_
      · assumption
      · exact h4
    refine Block.answer_legal ?_
    exact h6

theorem execWait_legal {x0 x1 s0 t} (h0 : Legal s0.blk) (e : execWait x0 x1 s0 = .next t) : Legal t.blk :=
  Legal.keep (execWait_keeps (sub_refl _) e) rfl h0

theorem execBreakpointResume_legal {x0 s0 t} (h0 : Legal s0.blk) (e : execBreakpointResume x0 s0 = .next t) :
    Legal t.blk := by
  unfold execBreakpointResume at e
  unfold State.write at e
  refine aon_legal (fun a h => ?_) h0 e
  refine Block.regWrite_legal ?_ ?_
  · exact h
  · intro x0 h1
    exact (Block.bpResume_legal h1)

theorem execHeartbeat_legal {x0 x1 s0 t} (h0 : Legal s0.blk) (e : execHeartbeat x0 x1 s0 = .next t) :
    Legal t.blk := by
  unfold execHeartbeat at e
  refine link_legal (fun a h => ?_) h0 e
  refine Block.rxFrame_legal ?_
  exact h

theorem execError_legal {x0 x1 s0 t} (h0 : Legal s0.blk) (e : execError x0 x1 s0 = .next t) :
    Legal t.blk := by
  unfold execError at e
  refine link_legal (fun a h => ?_) h0 e
  refine Block.rxFrame_legal ?_
  exact h

theorem execFill_legal {x0 x1 s0 t} (h0 : Legal s0.blk) (e : execFill x0 x1 s0 = .next t) :
    Legal t.blk := by
  unfold execFill at e
  refine core_legal (fun a h => ?_) h0 e
  refine Block.runCmd_legal ?_ ?_
  · exact h
  · intro x0 x1 h2
    split
    · rename_i y3 y4 y5 y6 y7 y8 y9 y10
      refine Block.whenPlaced_legal ?_ ?_
      · exact h2
      · intro x11 h12
        extract_lets z13
        have h14 : Legal z13 := by
          subst z13
          exact (Block.dmaTouch_legal h12)
        refine Block.access_legal ?_ ?_
        · exact h14
        · intro x15 h16
          extract_lets z17
          have h18 : Legal z17 := by
            subst z17
            exact (Block.countBursts_legal h14)
          exact (Block.endCmd_legal (Block.dmaWrite_legal h18))
    · rename_i y19 y20
      exact h2

theorem execPriResponse_legal {x0 x1 x2 s0 t} (h0 : Legal s0.blk) (e : execPriResponse x0 x1 x2 s0 = .next t) :
    Legal t.blk := by
  unfold execPriResponse at e
  refine core_legal (fun a h => ?_) h0 e
  refine Block.priDone_legal ?_
  exact h

theorem execBreakpointHit_legal {x0 x1 s0 t} (h0 : Legal s0.blk) (e : execBreakpointHit x0 x1 s0 = .next t) : Legal t.blk :=
  Legal.keep (execBreakpointHit_keeps (sub_refl _) e) rfl h0

theorem execWickFree_legal {x0 x1 s0 t} (h0 : Legal s0.blk) (e : execWickFree x0 x1 s0 = .next t) : Legal t.blk :=
  Legal.keep (execWickFree_keeps (sub_refl _) e) rfl h0

theorem execTraceDmaWrite_legal {x0 s0 t} (h0 : Legal s0.blk) (e : execTraceDmaWrite x0 s0 = .next t) :
    Legal t.blk := by
  unfold execTraceDmaWrite at e
  refine core_legal (fun a h => ?_) h0 e
  extract_lets z0
  exact (Block.traceDma_legal h)

theorem execGoRun_legal {x0 s0 t} (h0 : Legal s0.blk) (e : execGoRun x0 s0 = .next t) : Legal t.blk :=
  Legal.keep (execGoRun_keeps (sub_refl _) e) rfl h0

theorem execAuth_legal {x0 x1 s0 t} (h0 : Legal s0.blk) (e : execAuth x0 x1 s0 = .next t) :
    Legal t.blk := by
  unfold execAuth at e
  refine link_legal (fun a h => ?_) h0 e
  refine Block.rxLink_legal ?_ ?_
  · exact h
  · intro x0 h1
    extract_lets z2
    refine Legal.choice (fun h3 => ?_) (fun h3 => ?_)
    · exact (Block.setPort_legal (Block.toSecurity_legal h1))
    · refine Legal.choice (fun h4 => ?_) (fun h4 => ?_)
      · exact (Block.isolate_legal h1)
      · exact (Block.setPort_legal h1)

theorem execLaneSwitch_legal {x0 x1 s0 t} (h0 : Legal s0.blk) (e : execLaneSwitch x0 x1 s0 = .next t) :
    Legal t.blk := by
  unfold execLaneSwitch at e
  refine link_legal (fun a h => ?_) h0 e
  refine Block.rxLink_legal ?_ ?_
  · exact h
  · intro x0 h1
    exact (Block.takeLaneSwitch_legal h1)

theorem execNop_legal {x0 x1 s0 t} (h0 : Legal s0.blk) (e : execNop x0 x1 s0 = .next t) : Legal t.blk :=
  Legal.keep (execNop_keeps (sub_refl _) e) rfl h0

theorem execCopy_legal {x0 x1 s0 t} (h0 : Legal s0.blk) (e : execCopy x0 x1 s0 = .next t) :
    Legal t.blk := by
  unfold execCopy at e
  refine core_legal (fun a h => ?_) h0 e
  refine Block.runCmd_legal ?_ ?_
  · exact h
  · intro x0 x1 h2
    split
    · rename_i y3 y4 y5 y6 y7 y8 y9 y10 y11
      refine Block.whenPlaced_legal ?_ ?_
      · exact h2
      · intro x12 h13
        exact (Block.copyMove_legal h13)
    · rename_i y14 y15
      exact h2

theorem execDelayResp_legal {x0 x1 s0 t} (h0 : Legal s0.blk) (e : execDelayResp x0 x1 s0 = .next t) :
    Legal t.blk := by
  unfold execDelayResp at e
  refine link_legal (fun a h => ?_) h0 e
  refine Block.rxFrame_legal ?_
  exact h

theorem execCoherenceDown_legal {x0 x1 x2 s0 t} (h0 : Legal s0.blk) (e : execCoherenceDown x0 x1 x2 s0 = .next t) : Legal t.blk :=
  Legal.keep (execCoherenceDown_keeps (sub_refl _) e) rfl h0

theorem execJobMembershipCommit_legal {x0 x1 s0 t} (h0 : Legal s0.blk) (e : execJobMembershipCommit x0 x1 s0 = .next t) : Legal t.blk :=
  Legal.keep (execJobMembershipCommit_keeps (sub_refl _) e) rfl h0

theorem execMgRxConsume_legal {x0 x1 s0 t} (h0 : Legal s0.blk) (e : execMgRxConsume x0 x1 s0 = .next t) : Legal t.blk :=
  Legal.keep (execMgRxConsume_keeps (sub_refl _) e) rfl h0

theorem execErrEventPost_legal {x0 x1 x2 s0 t} (h0 : Legal s0.blk) (e : execErrEventPost x0 x1 x2 s0 = .next t) : Legal t.blk :=
  Legal.keep (execErrEventPost_keeps (sub_refl _) e) rfl h0

theorem execRetrain_legal {x0 x1 s0 t} (h0 : Legal s0.blk) (e : execRetrain x0 x1 s0 = .next t) :
    Legal t.blk := by
  unfold execRetrain at e
  unfold State.write at e
  refine aon_legal (fun a h => ?_) h0 e
  refine Block.regWrite_legal ?_ ?_
  · exact h
  · intro x0 h1
    exact (Block.ptCtlWrite_legal h1)

theorem execRegisterWrite_legal {x0 x1 x2 x3 s0 t} (h0 : Legal s0.blk) (e : execRegisterWrite x0 x1 x2 x3 s0 = .next t) :
    Legal t.blk := by
  unfold execRegisterWrite at e
  refine aon_legal (fun a h => ?_) h0 e
  refine Legal.choice (fun h0 => ?_) (fun h0 => ?_)
  · exact (Block.misaligned_legal h)
  · refine Legal.choice (fun h1 => ?_) (fun h1 => ?_)
    · exact (Block.stopDrop_legal h)
    · exact (Block.writeAt_legal h)

theorem execFrameRingEntryWrite_legal {s0 t} (h0 : Legal s0.blk) (e : execFrameRingEntryWrite s0 = .next t) :
    Legal t.blk := by
  unfold execFrameRingEntryWrite at e
  refine core_legal (fun a h => ?_) h0 e
  refine Block.landPages_legal ?_
  exact (Block.writeEntries_legal h)

theorem execCredit_legal {x0 x1 s0 t} (h0 : Legal s0.blk) (e : execCredit x0 x1 s0 = .next t) :
    Legal t.blk := by
  unfold execCredit at e
  refine link_legal (fun a h => ?_) h0 e
  refine Block.rxLink_legal ?_ ?_
  · exact h
  · intro x0 h1
    extract_lets z2
    refine Legal.choice (fun h3 => ?_) (fun h3 => ?_)
    · refine Legal.choice (fun h4 => ?_) (fun h4 => ?_)
      · exact (Block.isolate_legal h1)
      · exact h1
    · exact (Block.modPort_legal h1)

theorem execMgTxGo_legal {x0 x1 s0 t} (h0 : Legal s0.blk) (e : execMgTxGo x0 x1 s0 = .next t) : Legal t.blk :=
  Legal.keep (execMgTxGo_keeps (sub_refl _) e) rfl h0

theorem execRecord_legal {x0 x1 s0 t} (h0 : Legal s0.blk) (e : execRecord x0 x1 s0 = .next t) :
    Legal t.blk := by
  unfold execRecord at e
  refine link_legal (fun a h => ?_) h0 e
  refine Block.rxFrame_legal ?_
  exact h

theorem execLaneFailure_legal {x0 s0 t} (h0 : Legal s0.blk) (e : execLaneFailure x0 s0 = .next t) :
    Legal t.blk := by
  unfold execLaneFailure at e
  refine link_legal (fun a h => ?_) h0 e
  refine Legal.choice (fun h0 => ?_) (fun h0 => ?_)
  · exact h
  · extract_lets z1 z2
    have h3 : Legal z1 := by
      subst z1
      exact (Block.codeErrors_legal h)
    refine Legal.choice (fun h4 => ?_) (fun h4 => ?_)
    · refine Legal.choice (fun h5 => ?_) (fun h5 => ?_)
      · exact (Block.laneFails_legal h3)
      · exact h3
    · refine Legal.choice (fun h6 => ?_) (fun h6 => ?_)
      · exact h3
      · exact (Block.setPort_legal h3)

theorem execIndirectRecordRead_legal {x0 x1 s0 t} (h0 : Legal s0.blk) (e : execIndirectRecordRead x0 x1 s0 = .next t) :
    Legal t.blk := by
  unfold execIndirectRecordRead at e
  refine core_legal (fun a h => ?_) h0 e
  split
  · rename_i y0 y1
    exact h
  · rename_i y2 y3 y4
    split
    · rename_i y5 y6 y7
      refine Legal.choice (fun h8 => ?_) (fun h8 => ?_)
      · refine Legal.choice (fun h9 => ?_) (fun h9 => ?_)
        · exact (Block.acceptRecord_legal h)
        · split
          · rename_i y10 y11 y12
            refine Block.viaHome_legal ?_ ?_
            · exact h
            · exact (Block.acceptRecord_legal (Block.modCmd_legal h))
          · rename_i y13 y14 y15
            exact (Block.faultCmd_legal h)
          · rename_i y16 y17 y18 y19
            exact (Block.poisonCmd_legal h)
          · rename_i y20 y21 y22 y23
            exact (Block.meet_legal h)
      · exact h
    · rename_i y24 y25
      exact h

theorem execCreditReportTimer_legal {x0 s0 t} (h0 : Legal s0.blk) (e : execCreditReportTimer x0 s0 = .next t) : Legal t.blk :=
  Legal.keep (execCreditReportTimer_keeps (sub_refl _) e) rfl h0

theorem execTrainingAttemptTimeout_legal {x0 s0 t} (h0 : Legal s0.blk) (e : execTrainingAttemptTimeout x0 s0 = .next t) :
    Legal t.blk := by
  unfold execTrainingAttemptTimeout at e
  refine link_legal (fun a h => ?_) h0 e
  refine Legal.choice (fun h0 => ?_) (fun h0 => ?_)
  · exact (Block.attemptFails_legal h)
  · exact h

theorem execZtFcrSizeWrite_legal {x0 x1 s0 t} (h0 : Legal s0.blk) (e : execZtFcrSizeWrite x0 x1 s0 = .next t) : Legal t.blk :=
  Legal.keep (execZtFcrSizeWrite_keeps (sub_refl _) e) rfl h0

theorem execLaunchPlacement_legal {x0 s0 t} (h0 : Legal s0.blk) (e : execLaunchPlacement x0 s0 = .next t) :
    Legal t.blk := by
  unfold execLaunchPlacement at e
  refine core_legal (fun a h => ?_) h0 e
  refine Block.placeAll_legal ?_
  exact h

theorem execTraceFlushTimer_legal {x0 s0 t} (h0 : Legal s0.blk) (e : execTraceFlushTimer x0 s0 = .next t) :
    Legal t.blk := by
  unfold execTraceFlushTimer at e
  refine core_legal (fun a h => ?_) h0 e
  extract_lets z0
  clear_value z0
  split
  · rename_i y1 y2
    exact h
  · rename_i y3 y4 y5 y6
    refine Legal.choice (fun h7 => ?_) (fun h7 => ?_)
    · exact (Block.traceDma_legal h)
    · exact h

theorem execCadenceFrameEdge_legal {s0 t} (h0 : Legal s0.blk) (e : execCadenceFrameEdge s0 = .next t) : Legal t.blk :=
  Legal.keep (execCadenceFrameEdge_keeps (sub_refl _) e) rfl h0

theorem execCorrectableError_legal {x0 x1 s0 t} (h0 : Legal s0.blk) (e : execCorrectableError x0 x1 s0 = .next t) :
    Legal t.blk := by
  unfold execCorrectableError at e
  refine core_legal (fun a h => ?_) h0 e
  refine Legal.choice (fun h0 => ?_) (fun h0 => ?_)
  · exact h
  · extract_lets z1 z2 z3 z4 z5 z6
    have h7 : Legal z4 := by
      subst z4
      exact (Block.setWear_legal h)
    have h8 : Legal z5 := by
      subst z5
      clear_value z6
      clear_value z4
      clear_value z3
      clear_value z2
      clear_value z1
      split
      · rename_i y9 y10 y11
        exact (Block.setArms_legal (Block.count32_legal h7))
      · rename_i y12 y13
        exact h7
    have h14 : Legal z6 := by
      subst z6
      exact (Block.spareEvent_legal h8)
    refine Legal.choice (fun h15 => ?_) (fun h15 => ?_)
    · refine Legal.choice (fun h16 => ?_) (fun h16 => ?_)
      · exact (Block.retireNow_legal h14)
      · exact h14
    · exact h8

theorem execIdentTimeout_legal {x0 s0 t} (h0 : Legal s0.blk) (e : execIdentTimeout x0 s0 = .next t) :
    Legal t.blk := by
  unfold execIdentTimeout at e
  refine link_legal (fun a h => ?_) h0 e
  refine Legal.choice (fun h0 => ?_) (fun h0 => ?_)
  · exact (Block.toTrain_legal h)
  · exact h

theorem execSemBreak_legal {x0 x1 x2 s0 t} (h0 : Legal s0.blk) (e : execSemBreak x0 x1 x2 s0 = .next t) :
    Legal t.blk := by
  unfold execSemBreak at e
  unfold State.write at e
  refine aon_legal (fun a h => ?_) h0 e
  refine Block.regWrite_legal ?_ ?_
  · exact h
  · intro x0 h1
    exact (Block.breakSem_legal h1)

theorem execAuthDone_legal {x0 x1 s0 t} (h0 : Legal s0.blk) (e : execAuthDone x0 x1 s0 = .next t) :
    Legal t.blk := by
  unfold execAuthDone at e
  refine link_legal (fun a h => ?_) h0 e
  refine Block.rxLink_legal ?_ ?_
  · exact h
  · intro x0 h1
    exact (Block.authSettle_legal (Block.modPort_legal h1))

theorem execHarnessShrink_legal {x0 x1 s0 t} (h0 : Legal s0.blk) (e : execHarnessShrink x0 x1 s0 = .next t) :
    Legal t.blk := by
  unfold execHarnessShrink at e
  refine core_legal (fun a h => ?_) h0 e
  refine Block.runCmd_legal ?_ ?_
  · exact h
  · intro x0 x1 h2
    split
    · rename_i y3 y4 y5 y6 y7
      refine Legal.choice (fun h8 => ?_) (fun h8 => ?_)
      · exact (Block.endShrink_legal h2)
      · exact (Block.shrink_legal h2)
    · rename_i y9 y10
      exact h2

theorem execTbHeadWrite_legal {x0 x1 s0 t} (h0 : Legal s0.blk) (e : execTbHeadWrite x0 x1 s0 = .next t) : Legal t.blk :=
  Legal.keep (execTbHeadWrite_keeps (sub_refl _) e) rfl h0

theorem execEngineDrained_legal {x0 s0 t} (h0 : Legal s0.blk) (e : execEngineDrained x0 s0 = .next t) : Legal t.blk :=
  Legal.keep (execEngineDrained_keeps (sub_refl _) e) rfl h0

theorem execMessage_legal {x0 x1 s0 t} (h0 : Legal s0.blk) (e : execMessage x0 x1 s0 = .next t) :
    Legal t.blk := by
  unfold execMessage at e
  refine link_legal (fun a h => ?_) h0 e
  refine Block.rxFrame_legal ?_
  exact h

theorem execCadNowRead_legal {x0 x1 s0 t} (h0 : Legal s0.blk) (e : execCadNowRead x0 x1 s0 = .next t) : Legal t.blk :=
  Legal.keep (execCadNowRead_keeps (sub_refl _) e) rfl h0

theorem execL4PowerCycle_legal {x0 s0 t} (h0 : Legal s0.blk) (e : execL4PowerCycle x0 s0 = .next t) :
    Legal t.blk := by
  unfold execL4PowerCycle at e
  unfold State.write at e
  refine aon_legal (fun a h => ?_) h0 e
  refine Block.regWrite_legal ?_ ?_
  · exact h
  · intro x0 h1
    exact (Block.order__legal h1)

theorem execWickAlloc_legal {x0 x1 s0 t} (h0 : Legal s0.blk) (e : execWickAlloc x0 x1 s0 = .next t) : Legal t.blk :=
  Legal.keep (execWickAlloc_keeps (sub_refl _) e) rfl h0

theorem execRegisterInvalidation_legal {x0 s0 t} (h0 : Legal s0.blk) (e : execRegisterInvalidation x0 s0 = .next t) :
    Legal t.blk := by
  unfold execRegisterInvalidation at e
  unfold State.write at e
  refine aon_legal (fun a h => ?_) h0 e
  refine Block.regWrite_legal ?_ ?_
  · exact h
  · intro x0 h1
    exact (Block.regInvalidate_legal h1)

theorem execHandover_legal {x0 s0 t} (h0 : Legal s0.blk) (e : execHandover x0 s0 = .next t) :
    Legal t.blk := by
  unfold execHandover at e
  unfold State.write at e
  refine aon_legal (fun a h => ?_) h0 e
  refine Block.regWrite_legal ?_ ?_
  · exact h
  · intro x0 h1
    exact (Block.handover_legal h1)

theorem execFollowUp_legal {x0 x1 s0 t} (h0 : Legal s0.blk) (e : execFollowUp x0 x1 s0 = .next t) :
    Legal t.blk := by
  unfold execFollowUp at e
  refine link_legal (fun a h => ?_) h0 e
  refine Block.rxFrame_legal ?_
  exact h

theorem execBoundCommit_legal {x0 x1 s0 t} (h0 : Legal s0.blk) (e : execBoundCommit x0 x1 s0 = .next t) : Legal t.blk :=
  Legal.keep (execBoundCommit_keeps (sub_refl _) e) rfl h0

theorem execRdM_legal {x0 x1 s0 t} (h0 : Legal s0.blk) (e : execRdM x0 x1 s0 = .next t) :
    Legal t.blk := by
  unfold execRdM at e
  unfold State.cc at e
  refine core_legal (fun a h => ?_) h0 e
  refine Legal.choice (fun h0 => ?_) (fun h0 => ?_)
  · dsimp -zeta only
    refine Legal.choice (fun h1 => ?_) (fun h1 => ?_)
    · exact h
    · refine Legal.choice (fun h2 => ?_) (fun h2 => ?_)
      · exact (Block.ccDown_legal h)
      · exact (Block.ccRequest_legal (Block.dropLine_legal h))
  · exact h

theorem execOccupancyWindowEnd_legal {s0 t} (h0 : Legal s0.blk) (e : execOccupancyWindowEnd s0 = .next t) : Legal t.blk :=
  Legal.keep (execOccupancyWindowEnd_keeps (sub_refl _) e) rfl h0

theorem execCommandCompletion_legal {x0 x1 s0 t} (h0 : Legal s0.blk) (e : execCommandCompletion x0 x1 s0 = .next t) :
    Legal t.blk := by
  unfold execCommandCompletion at e
  refine core_legal (fun a h => ?_) h0 e
  refine Block.completeCmd_legal ?_
  exact h

theorem execAccInj_legal {x0 x1 s0 t} (h0 : Legal s0.blk) (e : execAccInj x0 x1 s0 = .next t) :
    Legal t.blk := by
  unfold execAccInj at e
  unfold State.injectRow at e
  refine aon_legal (fun a h => ?_) h0 e
  refine Legal.choice (fun h0 => ?_) (fun h0 => ?_)
  · exact (Block.write32_legal h)
  · exact h

theorem execDelayReq_legal {x0 x1 s0 t} (h0 : Legal s0.blk) (e : execDelayReq x0 x1 s0 = .next t) :
    Legal t.blk := by
  unfold execDelayReq at e
  refine link_legal (fun a h => ?_) h0 e
  refine Block.rxFrame_legal ?_
  exact h

theorem execAuthVerdict_legal {x0 x1 x2 s0 t} (h0 : Legal s0.blk) (e : execAuthVerdict x0 x1 x2 s0 = .next t) :
    Legal t.blk := by
  unfold execAuthVerdict at e
  refine core_legal (fun a h => ?_) h0 e
  extract_lets z0
  refine Legal.choice (fun h1 => ?_) (fun h1 => ?_)
  · exact h
  · refine Legal.choice (fun h2 => ?_) (fun h2 => ?_)
    · exact (Block.isolate_legal h)
    · refine Legal.choice (fun h3 => ?_) (fun h3 => ?_)
      · exact (Block.isolate_legal h)
      · exact (Block.authSettle_legal (Block.setPort_legal h))

theorem execMigrationDmaDone_legal {x0 x1 x2 s0 t} (h0 : Legal s0.blk) (e : execMigrationDmaDone x0 x1 x2 s0 = .next t) :
    Legal t.blk := by
  unfold execMigrationDmaDone at e
  refine core_legal (fun a h => ?_) h0 e
  split
  · rename_i y0 y1 y2
    refine Legal.choice (fun h3 => ?_) (fun h3 => ?_)
    · exact (Block.homeAsk_legal h)
    · exact (Block.copyDone_legal h)
  · rename_i y4 y5
    exact h

theorem execMisalignedAccess_legal {x0 x1 x2 x3 s0 t} (h0 : Legal s0.blk) (e : execMisalignedAccess x0 x1 x2 x3 s0 = .next t) : Legal t.blk :=
  Legal.keep (execMisalignedAccess_keeps (sub_refl _) e) rfl h0

theorem execCeArm_legal {x0 x1 s0 t} (h0 : Legal s0.blk) (e : execCeArm x0 x1 s0 = .next t) :
    Legal t.blk := by
  unfold execCeArm at e
  unfold State.injectRow at e
  refine aon_legal (fun a h => ?_) h0 e
  refine Legal.choice (fun h0 => ?_) (fun h0 => ?_)
  · exact (Block.write32_legal h)
  · exact h

theorem execAuthSessionOpen_legal {x0 s0 t} (h0 : Legal s0.blk) (e : execAuthSessionOpen x0 s0 = .next t) : Legal t.blk :=
  Legal.keep (execAuthSessionOpen_keeps (sub_refl _) e) rfl h0

theorem execInvRange_legal {x0 x1 s0 t} (h0 : Legal s0.blk) (e : execInvRange x0 x1 s0 = .next t) :
    Legal t.blk := by
  unfold execInvRange at e
  refine core_legal (fun a h => ?_) h0 e
  refine Block.runCmd_legal ?_ ?_
  · exact h
  · intro x0 x1 h2
    split
    · rename_i y3 y4 y5 y6 y7
      refine Block.kernel_legal ?_ ?_
      · exact h2
      · intro x8 h9
        refine Legal.choice (fun h10 => ?_) (fun h10 => ?_)
        · exact (Block.tryInvRange_legal h9)
        · extract_lets z11 z12
          have h13 : Legal z12 := by
            subst z12
            exact (Block.modCmd_legal h9)
          exact (Block.tryInvRange_legal (Block.stopPins_legal h13))
    · rename_i y14 y15
      exact h2

theorem execSecurityAuthBytes_legal {x0 x1 s0 t} (h0 : Legal s0.blk) (e : execSecurityAuthBytes x0 x1 s0 = .next t) : Legal t.blk :=
  Legal.keep (execSecurityAuthBytes_keeps (sub_refl _) e) rfl h0

theorem execL3ChipReset_legal {x0 s0 t} (h0 : Legal s0.blk) (e : execL3ChipReset x0 s0 = .next t) :
    Legal t.blk := by
  unfold execL3ChipReset at e
  unfold State.write at e
  refine aon_legal (fun a h => ?_) h0 e
  refine Block.regWrite_legal ?_ ?_
  · exact h
  · intro x0 h1
    exact (Block.order__legal h1)

theorem execWrNc_legal {x0 x1 x2 x3 s0 t} (h0 : Legal s0.blk) (e : execWrNc x0 x1 x2 x3 s0 = .next t) :
    Legal t.blk := by
  unfold execWrNc at e
  refine core_legal (fun a h => ?_) h0 e
  refine Legal.choice (fun h0 => ?_) (fun h0 => ?_)
  · exact h
  · exact (Block.ccWrite_legal h)

theorem execCreditStallTimeout_legal {x0 x1 s0 t} (h0 : Legal s0.blk) (e : execCreditStallTimeout x0 x1 s0 = .next t) :
    Legal t.blk := by
  unfold execCreditStallTimeout at e
  refine link_legal (fun a h => ?_) h0 e
  extract_lets z0
  clear_value z0
  split
  · rename_i y1 y2 y3
    refine Legal.choice (fun h4 => ?_) (fun h4 => ?_)
    · exact (Block.isolate_legal h)
    · exact h
  · rename_i y5 y6
    exact h

theorem execInitialisationEnd_legal {x0 s0 t} (h0 : Legal s0.blk) (e : execInitialisationEnd x0 s0 = .next t) :
    Legal t.blk := by
  unfold execInitialisationEnd at e
  refine core_legal (fun a h => ?_) h0 e
  refine Legal.choice (fun h0 => ?_) (fun h0 => ?_)
  · exact h
  · extract_lets z1 z2 z3 z4
    have h5 : Legal z1 := by
      subst z1
      exact (Block.enterState_legal (Block.computeLayout_legal (Block.takeTests_legal h)))
    have h6 : Legal z3 := by
      subst z3
      clear_value z4
      clear_value z2
      clear_value z1
      exact Legal.same h5 rfl rfl rfl rfl rfl
    have h7 : Legal z4 := by
      subst z4
      refine Legal.choice (fun h8 => ?_) (fun h8 => ?_)
      · refine Block.event_legal ?_
        clear_value z3
        clear_value z2
        clear_value z1
        exact Legal.same h6 rfl rfl rfl rfl rfl
      · exact h6
    exact (Block.linkRelease_legal h7)

theorem execPoisonRepairDone_legal {x0 s0 t} (h0 : Legal s0.blk) (e : execPoisonRepairDone x0 s0 = .next t) :
    Legal t.blk := by
  unfold execPoisonRepairDone at e
  refine core_legal (fun a h => ?_) h0 e
  split
  · rename_i y0 y1
    exact h
  · rename_i y2 y3 y4
    split
    · rename_i y5 y6
      exact Legal.same h rfl rfl rfl rfl rfl
    · rename_i y7 y8 y9
      extract_lets z10
      refine Legal.choice (fun h11 => ?_) (fun h11 => ?_)
      · exact (Block.homeAsk_legal h)
      · exact (Block.count_legal (Block.putBytes_legal h))
    · rename_i y12 y13 y14 y15
      exact (Block.askAts_legal h)
    · rename_i y16 y17 y18 y19 y20
      exact h

theorem execPop_legal {x0 s0 t} (h0 : Legal s0.blk) (e : execPop x0 s0 = .next t) : Legal t.blk :=
  Legal.keep (execPop_keeps (sub_refl _) e) rfl h0

theorem execMcSigDataWrite_legal {x0 x1 s0 t} (h0 : Legal s0.blk) (e : execMcSigDataWrite x0 x1 s0 = .next t) : Legal t.blk :=
  Legal.keep (execMcSigDataWrite_keeps (sub_refl _) e) rfl h0

theorem execL0ContextTeardown_legal {x0 x1 s0 t} (h0 : Legal s0.blk) (e : execL0ContextTeardown x0 x1 s0 = .next t) :
    Legal t.blk := by
  unfold execL0ContextTeardown at e
  unfold State.write at e
  refine aon_legal (fun a h => ?_) h0 e
  refine Block.regWrite_legal ?_ ?_
  · exact h
  · intro x0 h1
    exact (Block.order__legal h1)

theorem execReadoutHoldExpiry_legal {s0 t} (h0 : Legal s0.blk) (e : execReadoutHoldExpiry s0 = .next t) : Legal t.blk :=
  Legal.keep (execReadoutHoldExpiry_keeps (sub_refl _) e) rfl h0

theorem execL2HarnessReset_legal {x0 x1 s0 t} (h0 : Legal s0.blk) (e : execL2HarnessReset x0 x1 s0 = .next t) :
    Legal t.blk := by
  unfold execL2HarnessReset at e
  unfold State.write at e
  refine aon_legal (fun a h => ?_) h0 e
  refine Block.regWrite_legal ?_ ?_
  · exact h
  · intro x0 h1
    exact (Block.order__legal h1)

theorem execWickExport_legal {x0 x1 s0 t} (h0 : Legal s0.blk) (e : execWickExport x0 x1 s0 = .next t) :
    Legal t.blk := by
  unfold execWickExport at e
  refine core_legal (fun a h => ?_) h0 e
  refine Block.runCmd_legal ?_ ?_
  · exact h
  · intro x0 x1 h2
    split
    · rename_i y3 y4 y5 y6 y7
      refine Block.kernel_legal ?_ ?_
      · exact h2
      · intro x8 h9
        split
        · rename_i y10 y11
          exact (Block.endCmd_legal h9)
        · rename_i y12 y13 y14 y15
          exact (Block.endCmd_legal h9)
        · rename_i y16 y17 y18
          extract_lets z19
          have h20 : Legal z19 := by
            subst z19
            exact (Block.touch_legal h9)
          refine Block.access_legal ?_ ?_
          · exact h20
          · intro x21 h22
            have h23 := Block.writeVa_legal h20 h22
            exact (Block.endCmd_legal (Block.setSlot_legal h23))
    · rename_i y24 y25
      exact h2

theorem execLaneSignalChange_legal {x0 x1 x2 s0 t} (h0 : Legal s0.blk) (e : execLaneSignalChange x0 x1 x2 s0 = .next t) :
    Legal t.blk := by
  unfold execLaneSignalChange at e
  refine link_legal (fun a h => ?_) h0 e
  refine Block.laneSignal_legal ?_
  exact h

theorem execStallResume_legal {x0 s0 t} (h0 : Legal s0.blk) (e : execStallResume x0 s0 = .next t) :
    Legal t.blk := by
  unfold execStallResume at e
  unfold State.write at e
  refine aon_legal (fun a h => ?_) h0 e
  refine Block.regWrite_legal ?_ ?_
  · exact h
  · intro x0 h1
    exact (Block.stallOpResume_legal h1)

theorem execEngineUe_legal {x0 s0 t} (h0 : Legal s0.blk) (e : execEngineUe x0 s0 = .next t) :
    Legal t.blk := by
  unfold execEngineUe at e
  refine core_legal (fun a h => ?_) h0 e
  refine Legal.choice (fun h0 => ?_) (fun h0 => ?_)
  · exact h
  · extract_lets z1 z2 z3 z4
    have h5 : Legal z2 := by
      subst z2
      exact (Block.event_legal (Block.storageUe_legal h))
    have h6 : Legal z3 := by
      subst z3
      exact (Block.postCancelled_legal (Block.resetEng_legal (Block.cancelWork_legal h5)))
    exact (Block.setEng_legal h6)

theorem execOrderDone_legal {s0 t} (h0 : Legal s0.blk) (e : execOrderDone s0 = .next t) :
    Legal t.blk := by
  unfold execOrderDone at e
  refine core_legal (fun a h => ?_) h0 e
  split
  · rename_i y0 y1
    exact h
  · rename_i y2 y3 y4
    refine Legal.choice (fun h5 => ?_) (fun h5 => ?_)
    · exact h
    · refine Legal.choice (fun h6 => ?_) (fun h6 => ?_)
      · extract_lets z7 z8 z9
        have h10 : Legal z9 := by
          subst z9
          exact (Block.setHarness_legal h)
        exact (Block.placeAll_legal (Block.endOrder_legal (Block.event_legal h10)))
      · exact (Block.endOrder_legal h)

theorem execTranslationFault_legal {x0 x1 x2 x3 s0 t} (h0 : Legal s0.blk) (e : execTranslationFault x0 x1 x2 x3 s0 = .next t) :
    Legal t.blk := by
  unfold execTranslationFault at e
  refine core_legal (fun a h => ?_) h0 e
  refine Legal.choice (fun h0 => ?_) (fun h0 => ?_)
  · split
    · rename_i y1 y2 y3
      exact (Block.faultWork_legal h)
    · rename_i y4 y5
      exact h
  · exact h

theorem execHarnessGrow_legal {x0 x1 s0 t} (h0 : Legal s0.blk) (e : execHarnessGrow x0 x1 s0 = .next t) :
    Legal t.blk := by
  unfold execHarnessGrow at e
  refine core_legal (fun a h => ?_) h0 e
  refine Block.runCmd_legal ?_ ?_
  · exact h
  · intro x0 x1 h2
    split
    · rename_i y3 y4 y5 y6 y7 y8 y9
      refine Legal.choice (fun h10 => ?_) (fun h10 => ?_)
      · exact (Block.settleGrow_legal h2)
      · exact (Block.grow_legal h2)
    · rename_i y11 y12
      exact h2

theorem execSemRelease_legal {x0 x1 s0 t} (h0 : Legal s0.blk) (e : execSemRelease x0 x1 s0 = .next t) :
    Legal t.blk := by
  unfold execSemRelease at e
  unfold State.write at e
  refine aon_legal (fun a h => ?_) h0 e
  refine Block.regWrite_legal ?_ ?_
  · exact h
  · intro x0 h1
    refine Legal.choice (fun h2 => ?_) (fun h2 => ?_)
    · exact (Block.freeSem_legal h1)
    · exact h1

theorem execContextFreed_legal {x0 s0 t} (h0 : Legal s0.blk) (e : execContextFreed x0 s0 = .next t) :
    Legal t.blk := by
  unfold execContextFreed at e
  refine core_legal (fun a h => ?_) h0 e
  refine Block.freeCtx_legal ?_
  exact h

theorem execRdS_legal {x0 x1 s0 t} (h0 : Legal s0.blk) (e : execRdS x0 x1 s0 = .next t) :
    Legal t.blk := by
  unfold execRdS at e
  unfold State.cc at e
  refine core_legal (fun a h => ?_) h0 e
  refine Legal.choice (fun h0 => ?_) (fun h0 => ?_)
  · dsimp -zeta only
    refine Legal.choice (fun h1 => ?_) (fun h1 => ?_)
    · exact h
    · refine Legal.choice (fun h2 => ?_) (fun h2 => ?_)
      · exact (Block.ccDown_legal h)
      · exact (Block.ccRequest_legal h)
  · exact h

theorem execStopPersist_legal {x0 x1 s0 t} (h0 : Legal s0.blk) (e : execStopPersist x0 x1 s0 = .next t) : Legal t.blk :=
  Legal.keep (execStopPersist_keeps (sub_refl _) e) rfl h0

theorem execGrantWaitTimeout_legal {s0 t} (h0 : Legal s0.blk) (e : execGrantWaitTimeout s0 = .next t) : Legal t.blk :=
  Legal.keep (execGrantWaitTimeout_keeps (sub_refl _) e) rfl h0

theorem execGoReady_legal {x0 s0 t} (h0 : Legal s0.blk) (e : execGoReady x0 s0 = .next t) : Legal t.blk :=
  Legal.keep (execGoReady_keeps (sub_refl _) e) rfl h0

theorem execTs1_legal {x0 x1 s0 t} (h0 : Legal s0.blk) (e : execTs1 x0 x1 s0 = .next t) :
    Legal t.blk := by
  unfold execTs1 at e
  refine link_legal (fun a h => ?_) h0 e
  refine Block.takeTs1_legal ?_
  exact h

theorem execAtomic_legal {x0 x1 s0 t} (h0 : Legal s0.blk) (e : execAtomic x0 x1 s0 = .next t) :
    Legal t.blk := by
  unfold execAtomic at e
  refine core_legal (fun a h => ?_) h0 e
  refine Block.runCmd_legal ?_ ?_
  · exact h
  · intro x0 x1 h2
    split
    · rename_i y3 y4 y5 y6 y7 y8 y9
      extract_lets z10
      have h11 : Legal z10 := by
        subst z10
        exact (Block.touch_legal (Block.touch_legal h2))
      refine Block.access_legal ?_ ?_
      · exact h11
      · intro x12 h13
        refine Block.access_legal ?_ ?_
        · exact h11
        · intro x14 h15
          refine Legal.choice (fun h16 => ?_) (fun h16 => ?_)
          · exact (Block.endCmd_legal h11)
          · refine Block.access_legal ?_ ?_
            · exact h11
            · intro x17 h18
              extract_lets z19 z20
              have h21 : Legal z20 := by
                subst z20
                exact (Block.putBytes_legal h11)
              exact (Block.endCmd_legal (Block.putBytes_legal h21))
    · rename_i y22 y23
      exact h2

theorem execReplayTimer_legal {x0 s0 t} (h0 : Legal s0.blk) (e : execReplayTimer x0 s0 = .next t) :
    Legal t.blk := by
  unfold execReplayTimer at e
  refine link_legal (fun a h => ?_) h0 e
  refine Legal.choice (fun h0 => ?_) (fun h0 => ?_)
  · exact (Block.replay_legal h)
  · exact h

theorem execDtCountCommit_legal {x0 x1 s0 t} (h0 : Legal s0.blk) (e : execDtCountCommit x0 x1 s0 = .next t) : Legal t.blk :=
  Legal.keep (execDtCountCommit_keeps (sub_refl _) e) rfl h0

theorem execRollCallClose_legal {x0 s0 t} (h0 : Legal s0.blk) (e : execRollCallClose x0 s0 = .next t) :
    Legal t.blk := by
  unfold execRollCallClose at e
  refine core_legal (fun a h => ?_) h0 e
  refine Legal.choice (fun h0 => ?_) (fun h0 => ?_)
  · extract_lets z1
    have h2 : Legal z1 := by
      subst z1
      refine Legal.foldl (fun b x h => ?_) _ ?_
      · refine Block.fence_legal ?_
        exact h
      · exact h
    exact (Block.ccMod_legal h2)
  · exact h

theorem execSnpFwd_legal {x0 x1 s0 t} (h0 : Legal s0.blk) (e : execSnpFwd x0 x1 s0 = .next t) :
    Legal t.blk := by
  unfold execSnpFwd at e
  unfold State.cc at e
  refine core_legal (fun a h => ?_) h0 e
  refine Legal.choice (fun h0 => ?_) (fun h0 => ?_)
  · dsimp -zeta only
    refine Block.ccSnoop_legal ?_ ?_
    · exact h
    · intro x1 x2 h3
      split
      · rename_i y4 y5
        exact (Block.ccSend_legal h3)
      · rename_i y6 y7 y8
        refine Legal.choice (fun h9 => ?_) (fun h9 => ?_)
        · exact (Block.ccDown_legal h3)
        · extract_lets z10 z11 z12 z13
          have h14 : Legal z10 := by
            subst z10
            refine Legal.choice (fun h15 => ?_) (fun h15 => ?_)
            · exact (Block.ccSpill_legal h3)
            · exact h3
          have h16 : Legal z12 := by
            subst z12
            exact (Block.setLine_legal h14)
          have h17 : Legal z13 := by
            subst z13
            exact (Block.modTxn_legal h16)
          exact (Block.ccSend_legal h17)
  · exact h

theorem execEngineReplacement_legal {x0 s0 t} (h0 : Legal s0.blk) (e : execEngineReplacement x0 s0 = .next t) :
    Legal t.blk := by
  unfold execEngineReplacement at e
  refine core_legal (fun a h => ?_) h0 e
  extract_lets z0
  refine Legal.choice (fun h1 => ?_) (fun h1 => ?_)
  · refine Block.settleRetire_legal ?_
    clear_value z0
    split
    · rename_i y2 y3 y4
      exact (Block.replaceEngine_legal h)
    · rename_i y5 y6
      exact (Block.loseEngine_legal h)
  · exact h

theorem execCadLockLoss_legal {s0 t} (h0 : Legal s0.blk) (e : execCadLockLoss s0 = .next t) : Legal t.blk :=
  Legal.keep (execCadLockLoss_keeps (sub_refl _) e) rfl h0

theorem execWatchdogLapse_legal {s0 t} (h0 : Legal s0.blk) (e : execWatchdogLapse s0 = .next t) : Legal t.blk :=
  Legal.keep (execWatchdogLapse_keeps (sub_refl _) e) rfl h0

theorem execListPatch_legal {x0 x1 s0 t} (h0 : Legal s0.blk) (e : execListPatch x0 x1 s0 = .next t) :
    Legal t.blk := by
  unfold execListPatch at e
  refine core_legal (fun a h => ?_) h0 e
  refine Block.runCmd_legal ?_ ?_
  · exact h
  · intro x0 x1 h2
    split
    · rename_i y3 y4 y5 y6 y7 y8 y9
      refine Block.kernel_legal ?_ ?_
      · exact h2
      · intro x10 h11
        exact (Block.loadList_legal h11)
    · rename_i y12 y13
      exact h2

theorem execCmp_legal {x0 x1 s0 t} (h0 : Legal s0.blk) (e : execCmp x0 x1 s0 = .next t) :
    Legal t.blk := by
  unfold execCmp at e
  unfold State.cc at e
  refine core_legal (fun a h => ?_) h0 e
  refine Legal.choice (fun h0 => ?_) (fun h0 => ?_)
  · dsimp -zeta only
    split
    · rename_i y1 y2
      exact (Block.ccDown_legal h)
    · rename_i y3 y4 y5
      extract_lets z6 z7 z8 z9 z10
      have h11 : Legal z6 := by
        subst z6
        exact (Block.dropMsg_legal h)
      have h12 : Legal z8 := by
        subst z8
        clear_value z10
        clear_value z9
        clear_value z7
        clear_value z6
        split
        · rename_i y13 y14 y15
          exact (Block.ccMod_legal h11)
        · rename_i y16 y17
          exact h11
      have h18 : Legal z9 := by
        subst z9
        refine Legal.choice (fun h19 => ?_) (fun h19 => ?_)
        · exact (Block.setLine_legal h12)
        · exact h12
      have h20 : Legal z10 := by
        subst z10
        refine Legal.choice (fun h21 => ?_) (fun h21 => ?_)
        · exact (Block.ccJournal_legal h18)
        · exact h11
      refine Legal.choice (fun h22 => ?_) (fun h22 => ?_)
      · exact h11
      · exact (Block.ccTaken_legal h20)
  · exact h

theorem execIdentSend_legal {x0 s0 t} (h0 : Legal s0.blk) (e : execIdentSend x0 s0 = .next t) : Legal t.blk :=
  Legal.keep (execIdentSend_keeps (sub_refl _) e) rfl h0

theorem execStitchCacheUe_legal {x0 x1 x2 s0 t} (h0 : Legal s0.blk) (e : execStitchCacheUe x0 x1 x2 s0 = .next t) : Legal t.blk :=
  Legal.keep (execStitchCacheUe_keeps (sub_refl _) e) rfl h0

theorem execBreakpointStep_legal {x0 s0 t} (h0 : Legal s0.blk) (e : execBreakpointStep x0 s0 = .next t) : Legal t.blk :=
  Legal.keep (execBreakpointStep_keeps (sub_refl _) e) rfl h0

theorem execRemoteWickSignal_legal {x0 x1 s0 t} (h0 : Legal s0.blk) (e : execRemoteWickSignal x0 x1 s0 = .next t) : Legal t.blk :=
  Legal.keep (execRemoteWickSignal_keeps (sub_refl _) e) rfl h0

theorem execMcStoreWrite_legal {x0 x1 s0 t} (h0 : Legal s0.blk) (e : execMcStoreWrite x0 x1 s0 = .next t) : Legal t.blk :=
  Legal.keep (execMcStoreWrite_keeps (sub_refl _) e) rfl h0

theorem execRemoteDoorbellSignal_legal {x0 x1 s0 t} (h0 : Legal s0.blk) (e : execRemoteDoorbellSignal x0 x1 s0 = .next t) : Legal t.blk :=
  Legal.keep (execRemoteDoorbellSignal_keeps (sub_refl _) e) rfl h0

theorem execRelayTimeout_legal {s0 t} (h0 : Legal s0.blk) (e : execRelayTimeout s0 = .next t) : Legal t.blk :=
  Legal.keep (execRelayTimeout_keeps (sub_refl _) e) rfl h0

theorem execEngineClockGate_legal {x0 s0 t} (h0 : Legal s0.blk) (e : execEngineClockGate x0 s0 = .next t) :
    Legal t.blk := by
  unfold execEngineClockGate at e
  refine core_legal (fun a h => ?_) h0 e
  extract_lets z0 z1 z2
  have h3 : Legal z2 := by
    subst z2
    exact (Block.setEng_legal h)
  refine Legal.choice (fun h4 => ?_) (fun h4 => ?_)
  · refine Legal.choice (fun h5 => ?_) (fun h5 => ?_)
    · exact (Block.leaveDomain_legal h3)
    · exact h3
  · exact h

theorem execAuthTimeout_legal {x0 s0 t} (h0 : Legal s0.blk) (e : execAuthTimeout x0 s0 = .next t) :
    Legal t.blk := by
  unfold execAuthTimeout at e
  refine link_legal (fun a h => ?_) h0 e
  extract_lets z0
  refine Legal.choice (fun h1 => ?_) (fun h1 => ?_)
  · exact (Block.isolate_legal h)
  · exact h

theorem execBoundDisable_legal {x0 x1 s0 t} (h0 : Legal s0.blk) (e : execBoundDisable x0 x1 s0 = .next t) : Legal t.blk :=
  Legal.keep (execBoundDisable_keeps (sub_refl _) e) rfl h0

theorem execListLoad_legal {x0 x1 s0 t} (h0 : Legal s0.blk) (e : execListLoad x0 x1 s0 = .next t) :
    Legal t.blk := by
  unfold execListLoad at e
  refine core_legal (fun a h => ?_) h0 e
  refine Block.runCmd_legal ?_ ?_
  · exact h
  · intro x0 x1 h2
    split
    · rename_i y3 y4 y5 y6 y7 y8
      refine Block.kernel_legal ?_ ?_
      · exact h2
      · intro x9 h10
        exact (Block.loadList_legal h10)
    · rename_i y11 y12
      exact h2

theorem execStopInEdge_legal {s0 t} (h0 : Legal s0.blk) (e : execStopInEdge s0 = .next t) : Legal t.blk :=
  Legal.keep (execStopInEdge_keeps (sub_refl _) e) rfl h0

theorem execEventForget_legal {x0 x1 x2 s0 t} (h0 : Legal s0.blk) (e : execEventForget x0 x1 x2 s0 = .next t) : Legal t.blk :=
  Legal.keep (execEventForget_keeps (sub_refl _) e) rfl h0

theorem execUnmap_legal {x0 x1 s0 t} (h0 : Legal s0.blk) (e : execUnmap x0 x1 s0 = .next t) :
    Legal t.blk := by
  unfold execUnmap at e
  refine core_legal (fun a h => ?_) h0 e
  refine Block.runCmd_legal ?_ ?_
  · exact h
  · intro x0 x1 h2
    split
    · rename_i y3 y4 y5 y6
      refine Block.kernel_legal ?_ ?_
      · exact h2
      · intro x7 h8
        refine Legal.choice (fun h9 => ?_) (fun h9 => ?_)
        · exact (Block.tryUnmap_legal h8)
        · split
          · rename_i y10 y11
            exact (Block.endCmd_legal h8)
          · rename_i y12 y13 y14
            extract_lets z15
            have h16 : Legal z15 := by
              subst z15
              exact (Block.modCmd_legal h8)
            exact (Block.tryUnmap_legal (Block.stopPins_legal h16))
    · rename_i y17 y18
      exact h2

theorem execRangeCacheWayUe_legal {x0 s0 t} (h0 : Legal s0.blk) (e : execRangeCacheWayUe x0 s0 = .next t) : Legal t.blk :=
  Legal.keep (execRangeCacheWayUe_keeps (sub_refl _) e) rfl h0

theorem execChannelFailure_legal {x0 x1 s0 t} (h0 : Legal s0.blk) (e : execChannelFailure x0 x1 s0 = .next t) : Legal t.blk :=
  Legal.keep (execChannelFailure_keeps (sub_refl _) e) rfl h0

theorem execCadInEdge_legal {s0 t} (h0 : Legal s0.blk) (e : execCadInEdge s0 = .next t) : Legal t.blk :=
  Legal.keep (execCadInEdge_keeps (sub_refl _) e) rfl h0

theorem execMark_legal {x0 x1 s0 t} (h0 : Legal s0.blk) (e : execMark x0 x1 s0 = .next t) : Legal t.blk :=
  Legal.keep (execMark_keeps (sub_refl _) e) rfl h0

theorem execWb_legal {x0 x1 x2 s0 t} (h0 : Legal s0.blk) (e : execWb x0 x1 x2 s0 = .next t) :
    Legal t.blk := by
  unfold execWb at e
  unfold State.cc at e
  refine core_legal (fun a h => ?_) h0 e
  refine Legal.choice (fun h0 => ?_) (fun h0 => ?_)
  · dsimp -zeta only
    split
    · rename_i y1 y2 y3
      refine Legal.choice (fun h4 => ?_) (fun h4 => ?_)
      · exact (Block.ccEvict_legal h)
      · exact h
    · rename_i y5 y6
      exact h
  · exact h

theorem execTs2_legal {x0 x1 x2 s0 t} (h0 : Legal s0.blk) (e : execTs2 x0 x1 x2 s0 = .next t) : Legal t.blk :=
  Legal.keep (execTs2_keeps (sub_refl _) e) rfl h0

theorem execSnpBinv_legal {x0 x1 s0 t} (h0 : Legal s0.blk) (e : execSnpBinv x0 x1 s0 = .next t) :
    Legal t.blk := by
  unfold execSnpBinv at e
  unfold State.cc at e
  refine core_legal (fun a h => ?_) h0 e
  refine Legal.choice (fun h0 => ?_) (fun h0 => ?_)
  · dsimp -zeta only
    refine Block.ccSnoop_legal ?_ ?_
    · exact h
    · intro x1 x2 h3
      exact (Block.ccInvalidate_legal h3)
  · exact h

theorem execPortDown_legal {x0 s0 t} (h0 : Legal s0.blk) (e : execPortDown x0 s0 = .next t) :
    Legal t.blk := by
  unfold execPortDown at e
  refine aon_legal (fun a h => ?_) h0 e
  refine Legal.choice (fun h0 => ?_) (fun h0 => ?_)
  · exact h
  · extract_lets z1
    have h2 : Legal z1 := by
      subst z1
      exact Legal.same h rfl rfl rfl rfl rfl
    refine Legal.choice (fun h3 => ?_) (fun h3 => ?_)
    · exact h2
    · exact (Block.portLost_legal h2)

theorem execListVerdict_legal {x0 x1 s0 t} (h0 : Legal s0.blk) (e : execListVerdict x0 x1 s0 = .next t) : Legal t.blk :=
  Legal.keep (execListVerdict_keeps (sub_refl _) e) rfl h0

theorem execMsixSpacingEnd_legal {x0 s0 t} (h0 : Legal s0.blk) (e : execMsixSpacingEnd x0 s0 = .next t) : Legal t.blk :=
  Legal.keep (execMsixSpacingEnd_keeps (sub_refl _) e) rfl h0

theorem execRetryStepDiscard_legal {x0 x1 s0 t} (h0 : Legal s0.blk) (e : execRetryStepDiscard x0 x1 s0 = .next t) :
    Legal t.blk := by
  unfold execRetryStepDiscard at e
  refine core_legal (fun a h => ?_) h0 e
  extract_lets z0
  refine Legal.choice (fun h1 => ?_) (fun h1 => ?_)
  · exact (Block.retryStepNow_legal h)
  · exact h

theorem execPoisonRead_legal {x0 s0 t} (h0 : Legal s0.blk) (e : execPoisonRead x0 s0 = .next t) : Legal t.blk :=
  Legal.keep (execPoisonRead_keeps (sub_refl _) e) rfl h0

theorem execEvtInj_legal {x0 x1 x2 s0 t} (h0 : Legal s0.blk) (e : execEvtInj x0 x1 x2 s0 = .next t) :
    Legal t.blk := by
  unfold execEvtInj at e
  unfold State.injectRow at e
  refine aon_legal (fun a h => ?_) h0 e
  refine Legal.choice (fun h0 => ?_) (fun h0 => ?_)
  · exact (Block.write32_legal h)
  · exact h

theorem execStepPacingExpiry_legal {x0 s0 t} (h0 : Legal s0.blk) (e : execStepPacingExpiry x0 s0 = .next t) :
    Legal t.blk := by
  unfold execStepPacingExpiry at e
  refine core_legal (fun a h => ?_) h0 e
  refine Block.releaseSteps_legal ?_
  exact h

theorem execSnoopTimeout_legal {x0 s0 t} (h0 : Legal s0.blk) (e : execSnoopTimeout x0 s0 = .next t) : Legal t.blk :=
  Legal.keep (execSnoopTimeout_keeps (sub_refl _) e) rfl h0

theorem execMap_legal {x0 x1 s0 t} (h0 : Legal s0.blk) (e : execMap x0 x1 s0 = .next t) : Legal t.blk :=
  Legal.keep (execMap_keeps (sub_refl _) e) rfl h0

theorem execUeArm_legal {x0 x1 s0 t} (h0 : Legal s0.blk) (e : execUeArm x0 x1 s0 = .next t) :
    Legal t.blk := by
  unfold execUeArm at e
  unfold State.injectRow at e
  refine aon_legal (fun a h => ?_) h0 e
  refine Legal.choice (fun h0 => ?_) (fun h0 => ?_)
  · exact (Block.write32_legal h)
  · exact h

theorem execSync_legal {x0 x1 s0 t} (h0 : Legal s0.blk) (e : execSync x0 x1 s0 = .next t) :
    Legal t.blk := by
  unfold execSync at e
  refine link_legal (fun a h => ?_) h0 e
  refine Block.rxFrame_legal ?_
  exact h

theorem execAckInv_legal {x0 x1 s0 t} (h0 : Legal s0.blk) (e : execAckInv x0 x1 s0 = .next t) :
    Legal t.blk := by
  unfold execAckInv at e
  unfold State.cc at e
  refine core_legal (fun a h => ?_) h0 e
  refine Legal.choice (fun h0 => ?_) (fun h0 => ?_)
  · dsimp -zeta only
    exact (Block.ccReply_legal h)
  · exact h

theorem execWickImport_legal {x0 x1 s0 t} (h0 : Legal s0.blk) (e : execWickImport x0 x1 s0 = .next t) : Legal t.blk :=
  Legal.keep (execWickImport_keeps (sub_refl _) e) rfl h0

theorem execSignal_legal {x0 x1 s0 t} (h0 : Legal s0.blk) (e : execSignal x0 x1 s0 = .next t) : Legal t.blk :=
  Legal.keep (execSignal_keeps (sub_refl _) e) rfl h0

theorem execL1EngineReset_legal {x0 x1 s0 t} (h0 : Legal s0.blk) (e : execL1EngineReset x0 x1 s0 = .next t) :
    Legal t.blk := by
  unfold execL1EngineReset at e
  unfold State.write at e
  refine aon_legal (fun a h => ?_) h0 e
  refine Block.regWrite_legal ?_ ?_
  · exact h
  · intro x0 h1
    exact (Block.order__legal h1)

theorem execWatch_legal {x0 x1 s0 t} (h0 : Legal s0.blk) (e : execWatch x0 x1 s0 = .next t) :
    Legal t.blk := by
  unfold execWatch at e
  refine core_legal (fun a h => ?_) h0 e
  refine Block.runCmd_legal ?_ ?_
  · exact h
  · intro x0 x1 h2
    split
    · rename_i y3 y4 y5 y6 y7
      extract_lets z8 z9 z10 z11
      have h12 : Legal z9 := by
        subst z9
        refine Legal.foldl (fun b x h => ?_) _ ?_
        · refine Block.touchRange_legal ?_
          exact h
        · exact h2
      have h13 : Legal z11 := by
        subst z11
        refine Legal.foldl (fun b x h => ?_) _ ?_
        · refine Block.countBursts_legal ?_
          exact h
        · exact h12
      refine Block.access_legal ?_ ?_
      · exact h12
      · intro x14 h15
        refine Block.access_legal ?_ ?_
        · exact h12
        · intro x16 h17
          refine Block.access_legal ?_ ?_
          · exact h12
          · intro x18 h19
            exact (Block.endCmd_legal (Block.putBytes_legal h13))
    · rename_i y20 y21
      exact h2

theorem execIdent_legal {x0 x1 s0 t} (h0 : Legal s0.blk) (e : execIdent x0 x1 s0 = .next t) :
    Legal t.blk := by
  unfold execIdent at e
  refine link_legal (fun a h => ?_) h0 e
  refine Block.rxLink_legal ?_ ?_
  · exact h
  · intro x0 h1
    exact (Block.takeIdent_legal h1)

theorem execBadFrame_legal {x0 s0 t} (h0 : Legal s0.blk) (e : execBadFrame x0 s0 = .next t) : Legal t.blk :=
  Legal.keep (execBadFrame_keeps (sub_refl _) e) rfl h0

theorem execMicrocodeVerdict_legal {x0 x1 s0 t} (h0 : Legal s0.blk) (e : execMicrocodeVerdict x0 x1 s0 = .next t) : Legal t.blk :=
  Legal.keep (execMicrocodeVerdict_keeps (sub_refl _) e) rfl h0

theorem execCoherenceRebuildDone_legal {s0 t} (h0 : Legal s0.blk) (e : execCoherenceRebuildDone s0 = .next t) :
    Legal t.blk := by
  unfold execCoherenceRebuildDone at e
  refine core_legal (fun a h => ?_) h0 e
  refine Legal.choice (fun h0 => ?_) (fun h0 => ?_)
  · extract_lets z1 z2 z3 z4 z5 z6 z7 z8
    have h9 : Legal z4 := by
      subst z4
      exact (Block.ccMod_legal (Block.reissue_legal (Block.replayJournal_legal h)))
    have h10 : Legal z5 := by
      subst z5
      exact (Block.count32_legal (Block.setField_legal h9))
    have h11 : Legal z6 := by
      subst z6
      exact (Block.setReg_legal h10)
    have h12 : Legal z7 := by
      subst z7
      exact (Block.cinderRec_legal h11)
    have h13 : Legal z8 := by
      subst z8
      exact (Block.startWalks_legal (Block.bumpEpoch_legal (Block.event_legal h12)))
    clear_value z8
    clear_value z7
    clear_value z6
    clear_value z5
    clear_value z4
    clear_value z3
    clear_value z2
    clear_value z1
    split
    · rename_i y14 y15 y16
      refine Legal.choice (fun h17 => ?_) (fun h17 => ?_)
      · exact h13
      · exact (Block.actOrder_legal h13)
    · rename_i y18 y19
      exact h13
  · exact h

theorem execSpareRetireGo_legal {x0 s0 t} (h0 : Legal s0.blk) (e : execSpareRetireGo x0 s0 = .next t) :
    Legal t.blk := by
  unfold execSpareRetireGo at e
  unfold State.write at e
  refine aon_legal (fun a h => ?_) h0 e
  refine Block.regWrite_legal ?_ ?_
  · exact h
  · intro x0 h1
    exact (Block.retireGo_legal h1)

theorem execBreakpointCommit_legal {x0 x1 s0 t} (h0 : Legal s0.blk) (e : execBreakpointCommit x0 x1 s0 = .next t) : Legal t.blk :=
  Legal.keep (execBreakpointCommit_keeps (sub_refl _) e) rfl h0

theorem execAdvise_legal {x0 x1 s0 t} (h0 : Legal s0.blk) (e : execAdvise x0 x1 s0 = .next t) :
    Legal t.blk := by
  unfold execAdvise at e
  refine core_legal (fun a h => ?_) h0 e
  refine Block.runCmd_legal ?_ ?_
  · exact h
  · intro x0 x1 h2
    split
    · rename_i y3 y4 y5 y6 y7
      extract_lets z8
      have h9 : Legal z8 := by
        subst z8
        exact (Block.count_legal h2)
      refine Block.endCmd_legal ?_
      refine Legal.choice (fun h10 => ?_) (fun h10 => ?_)
      · exact (Block.willNeed_legal h9)
      · exact h9
    · rename_i y11 y12
      exact h2

theorem execFpDestWrite_legal {x0 x1 s0 t} (h0 : Legal s0.blk) (e : execFpDestWrite x0 x1 s0 = .next t) : Legal t.blk :=
  Legal.keep (execFpDestWrite_keeps (sub_refl _) e) rfl h0

theorem execOccupancySample_legal {s0 t} (h0 : Legal s0.blk) (e : execOccupancySample s0 = .next t) : Legal t.blk :=
  Legal.keep (execOccupancySample_keeps (sub_refl _) e) rfl h0

theorem execZtBootEnt0Write_legal {x0 x1 s0 t} (h0 : Legal s0.blk) (e : execZtBootEnt0Write x0 x1 s0 = .next t) : Legal t.blk :=
  Legal.keep (execZtBootEnt0Write_keeps (sub_refl _) e) rfl h0

theorem execQueueCreate_legal {x0 x1 s0 t} (h0 : Legal s0.blk) (e : execQueueCreate x0 x1 s0 = .next t) : Legal t.blk :=
  Legal.keep (execQueueCreate_keeps (sub_refl _) e) rfl h0

theorem execCadenceWait_legal {x0 x1 s0 t} (h0 : Legal s0.blk) (e : execCadenceWait x0 x1 s0 = .next t) : Legal t.blk :=
  Legal.keep (execCadenceWait_keeps (sub_refl _) e) rfl h0

theorem execPowerOn_legal {s0 t} (h0 : Legal s0.blk) (e : execPowerOn s0 = .next t) : Legal t.blk :=
  Legal.keep (execPowerOn_keeps (sub_refl _) e) rfl h0

theorem execCadSrcChange_legal {s0 t} (h0 : Legal s0.blk) (e : execCadSrcChange s0 = .next t) : Legal t.blk :=
  Legal.keep (execCadSrcChange_keeps (sub_refl _) e) rfl h0

theorem execJobMembershipEnd_legal {x0 s0 t} (h0 : Legal s0.blk) (e : execJobMembershipEnd x0 s0 = .next t) : Legal t.blk :=
  Legal.keep (execJobMembershipEnd_keeps (sub_refl _) e) rfl h0

theorem execTraceDisable_legal {x0 s0 t} (h0 : Legal s0.blk) (e : execTraceDisable x0 s0 = .next t) :
    Legal t.blk := by
  unfold execTraceDisable at e
  unfold State.write at e
  refine aon_legal (fun a h => ?_) h0 e
  refine Block.regWrite_legal ?_ ?_
  · exact h
  · intro x0 h1
    extract_lets z2 z3
    have h4 : Legal z3 := by
      subst z3
      exact (Block.tbCtlWrite_legal h1)
    exact (Block.traceDma_legal h4)

theorem execWindowSignalWrite_legal {x0 x1 x2 s0 t} (h0 : Legal s0.blk) (e : execWindowSignalWrite x0 x1 x2 s0 = .next t) : Legal t.blk :=
  Legal.keep (execWindowSignalWrite_keeps (sub_refl _) e) rfl h0

theorem execFrameSupply_legal {x0 x1 s0 t} (h0 : Legal s0.blk) (e : execFrameSupply x0 x1 s0 = .next t) :
    Legal t.blk := by
  unfold execFrameSupply at e
  refine core_legal (fun a h => ?_) h0 e
  refine Block.runCmd_legal ?_ ?_
  · exact h
  · intro x0 x1 h2
    split
    · rename_i y3 y4 y5 y6 y7
      refine Block.kernel_legal ?_ ?_
      · exact h2
      · intro x8 h9
        extract_lets z10 z11
        have h12 : Legal z10 := by
          subst z10
          exact (Block.touchRange_legal h9)
        have h13 : Legal z11 := by
          subst z11
          exact (Block.countBursts_legal h12)
        refine Block.access_legal ?_ ?_
        · exact h12
        · intro x14 h15
          extract_lets z16 z17 z18
          have h19 : Legal z17 := by
            subst z17
            exact (Block.setPool_legal h13)
          have h20 : Legal z18 := by
            subst z18
            exact (Block.ledgerTerm_legal h19)
          refine Legal.choice (fun h21 => ?_) (fun h21 => ?_)
          · exact (Block.endCmd_legal h13)
          · refine Legal.choice (fun h22 => ?_) (fun h22 => ?_)
            · exact (Block.endCmd_legal h13)
            · exact (Block.endCmd_legal (Block.resumeFrames_legal h20))
    · rename_i y23 y24
      exact h2

theorem execAbort_legal {x0 x1 s0 t} (h0 : Legal s0.blk) (e : execAbort x0 x1 s0 = .next t) :
    Legal t.blk := by
  unfold execAbort at e
  refine link_legal (fun a h => ?_) h0 e
  refine Block.rxFrame_legal ?_
  exact h

theorem execTimestamp_legal {x0 x1 s0 t} (h0 : Legal s0.blk) (e : execTimestamp x0 x1 s0 = .next t) :
    Legal t.blk := by
  unfold execTimestamp at e
  refine core_legal (fun a h => ?_) h0 e
  refine Block.runCmd_legal ?_ ?_
  · exact h
  · intro x0 x1 h2
    split
    · rename_i y3 y4 y5
      extract_lets z6 z7
      have h8 : Legal z7 := by
        subst z7
        exact (Block.touch_legal (Block.modCmd_legal h2))
      refine Block.access_legal ?_ ?_
      · exact h8
      · intro x9 h10
        have h11 := Block.writeVa_legal h8 h10
        exact (Block.endCmd_legal h11)
    · rename_i y12 y13
      exact h2

theorem execEngineSpaceClearDone_legal {x0 s0 t} (h0 : Legal s0.blk) (e : execEngineSpaceClearDone x0 s0 = .next t) :
    Legal t.blk := by
  unfold execEngineSpaceClearDone at e
  refine core_legal (fun a h => ?_) h0 e
  extract_lets z0 z1 z2
  have h3 : Legal z1 := by
    subst z1
    clear_value z2
    clear_value z0
    exact Legal.mems h id id (Memory.wf_filter _) (Memory.wf_filter _) rfl
  have h4 : Legal z2 := by
    subst z2
    exact (Block.setEng_legal h3)
  refine Legal.choice (fun h5 => ?_) (fun h5 => ?_)
  · clear_value z2
    clear_value z1
    clear_value z0
    split
    · rename_i y6 y7 y8 y9
      split
      · rename_i y10 y11 y12
        exact (Block.placeOne_legal h4)
      · rename_i y13 y14
        exact h4
    · rename_i y15 y16
      exact h4
  · exact h

theorem execAckFwd_legal {x0 x1 s0 t} (h0 : Legal s0.blk) (e : execAckFwd x0 x1 s0 = .next t) :
    Legal t.blk := by
  unfold execAckFwd at e
  unfold State.cc at e
  refine core_legal (fun a h => ?_) h0 e
  refine Legal.choice (fun h0 => ?_) (fun h0 => ?_)
  · dsimp -zeta only
    exact (Block.ccReply_legal h)
  · exact h

theorem execCtxSave_legal {x0 x1 s0 t} (h0 : Legal s0.blk) (e : execCtxSave x0 x1 s0 = .next t) :
    Legal t.blk := by
  unfold execCtxSave at e
  refine core_legal (fun a h => ?_) h0 e
  refine Block.runCmd_legal ?_ ?_
  · exact h
  · intro x0 x1 h2
    split
    · rename_i y3 y4 y5 y6 y7
      refine Block.kernel_legal ?_ ?_
      · exact h2
      · intro x8 h9
        refine Legal.choice (fun h10 => ?_) (fun h10 => ?_)
        · exact (Block.endCmd_legal h9)
        · refine Legal.choice (fun h11 => ?_) (fun h11 => ?_)
          · exact (Block.endCmd_legal h9)
          · extract_lets z12 z13
            have h14 : Legal z13 := by
              subst z13
              exact (Block.touchRange_legal h9)
            refine Block.access_legal ?_ ?_
            · exact h14
            · intro x15 h16
              extract_lets z17 z18 z19 z20
              have h21 : Legal z17 := by
                subst z17
                exact (Block.countBursts_legal (Block.putBytes_legal h14))
              have h22 : Legal z18 := by
                subst z18
                exact (Block.dropBounds_legal (Block.saveWicks_legal h21))
              have h23 : Legal z19 := by
                subst z19
                exact (Block.dropCommits_legal h22)
              exact (Block.endCmd_legal (Block.setCtx_legal h23))
    · rename_i y24 y25
      exact h2

theorem execTaskItemCompletion_legal {x0 x1 s0 t} (h0 : Legal s0.blk) (e : execTaskItemCompletion x0 x1 s0 = .next t) :
    Legal t.blk := by
  unfold execTaskItemCompletion at e
  refine core_legal (fun a h => ?_) h0 e
  split
  · rename_i y0 y1
    exact h
  · rename_i y2 y3 y4
    split
    · rename_i y5 y6
      exact h
    · rename_i y7 y8 y9
      split
      · rename_i y10 y11
        exact h
      · rename_i y12 y13 y14
        refine Legal.choice (fun h15 => ?_) (fun h15 => ?_)
        · exact h
        · split
          · rename_i y16 y17 y18
            have h19 := Block.writeHome_legal h y18
            exact (Block.finishItem_legal h19)
          · rename_i y20 y21 y22 y23
            exact (Block.loseCtx_legal (Block.notePoison_legal h))
          · rename_i y25 y26 y27
            exact (Block.itemFault_legal h)
          · rename_i y29 y30 y31 y32
            exact (Block.meet_legal h)

theorem execLaunchInd_legal {x0 x1 s0 t} (h0 : Legal s0.blk) (e : execLaunchInd x0 x1 s0 = .next t) :
    Legal t.blk := by
  unfold execLaunchInd at e
  refine core_legal (fun a h => ?_) h0 e
  refine Block.runCmd_legal ?_ ?_
  · exact h
  · intro x0 x1 h2
    refine Legal.choice (fun h3 => ?_) (fun h3 => ?_)
    · exact h2
    · exact (Block.toHal_legal h2)

theorem execAtsInvalidateRequest_legal {x0 x1 x2 x3 s0 t} (h0 : Legal s0.blk) (e : execAtsInvalidateRequest x0 x1 x2 x3 s0 = .next t) :
    Legal t.blk := by
  unfold execAtsInvalidateRequest at e
  refine core_legal (fun a h => ?_) h0 e
  refine Block.atsInvalidate_legal ?_
  exact h

theorem execCtxRestore_legal {x0 x1 s0 t} (h0 : Legal s0.blk) (e : execCtxRestore x0 x1 s0 = .next t) :
    Legal t.blk := by
  unfold execCtxRestore at e
  refine core_legal (fun a h => ?_) h0 e
  refine Block.runCmd_legal ?_ ?_
  · exact h
  · intro x0 x1 h2
    split
    · rename_i y3 y4 y5 y6 y7
      refine Block.kernel_legal ?_ ?_
      · exact h2
      · intro x8 h9
        extract_lets z10 z11 z12
        have h13 : Legal z12 := by
          subst z12
          exact (Block.touchRange_legal h9)
        refine Legal.choice (fun h14 => ?_) (fun h14 => ?_)
        · exact (Block.endCmd_legal h9)
        · refine Legal.choice (fun h15 => ?_) (fun h15 => ?_)
          · exact (Block.endCmd_legal h9)
          · refine Block.access_legal ?_ ?_
            · exact h13
            · intro x16 h17
              extract_lets z18
              refine Legal.choice (fun h19 => ?_) (fun h19 => ?_)
              · exact (Block.endCmd_legal h13)
              · refine Block.access_legal ?_ ?_
                · exact (Block.touchRange_legal h13)
                · intro x20 h21
                  exact (Block.doRestore_legal (Block.countBursts_legal (Block.touchRange_legal h13)))
    · rename_i y22 y23
      exact h2

theorem execPoisonConsumed_legal {x0 x1 s0 t} (h0 : Legal s0.blk) (e : execPoisonConsumed x0 x1 s0 = .next t) :
    Legal t.blk := by
  unfold execPoisonConsumed at e
  refine core_legal (fun a h => ?_) h0 e
  extract_lets z0 z1
  clear_value z1
  clear_value z0
  split
  · rename_i y2 y3
    exact h
  · rename_i y4 y5 y6
    refine Legal.choice (fun h7 => ?_) (fun h7 => ?_)
    · split
      · rename_i y8 y9 y10
        exact (Block.stopStep_legal (Block.cinderRec_legal h))
      · rename_i y11 y12
        exact h
    · refine Legal.choice (fun h13 => ?_) (fun h13 => ?_)
      · exact (Block.endWork_legal (Block.notePoison_legal h))
      · exact h

theorem execCadenceTargetReached_legal {x0 x1 s0 t} (h0 : Legal s0.blk) (e : execCadenceTargetReached x0 x1 s0 = .next t) : Legal t.blk :=
  Legal.keep (execCadenceTargetReached_keeps (sub_refl _) e) rfl h0

theorem execEvict_legal {x0 x1 s0 t} (h0 : Legal s0.blk) (e : execEvict x0 x1 s0 = .next t) :
    Legal t.blk := by
  unfold execEvict at e
  unfold State.cc at e
  refine core_legal (fun a h => ?_) h0 e
  refine Legal.choice (fun h0 => ?_) (fun h0 => ?_)
  · dsimp -zeta only
    split
    · rename_i y1 y2 y3
      refine Legal.choice (fun h4 => ?_) (fun h4 => ?_)
      · exact h
      · exact (Block.ccEvict_legal h)
    · rename_i y5 y6
      exact h
  · exact h

theorem execVerify_legal {x0 s0 t} (h0 : Legal s0.blk) (e : execVerify x0 s0 = .next t) : Legal t.blk :=
  Legal.keep (execVerify_keeps (sub_refl _) e) rfl h0

theorem execPortUp_legal {x0 s0 t} (h0 : Legal s0.blk) (e : execPortUp x0 s0 = .next t) : Legal t.blk :=
  Legal.keep (execPortUp_keeps (sub_refl _) e) rfl h0

theorem execTbSizeWrite_legal {x0 x1 s0 t} (h0 : Legal s0.blk) (e : execTbSizeWrite x0 x1 s0 = .next t) : Legal t.blk :=
  Legal.keep (execTbSizeWrite_keeps (sub_refl _) e) rfl h0

theorem execRdNa_legal {x0 x1 s0 t} (h0 : Legal s0.blk) (e : execRdNa x0 x1 s0 = .next t) :
    Legal t.blk := by
  unfold execRdNa at e
  unfold State.cc at e
  refine core_legal (fun a h => ?_) h0 e
  refine Legal.choice (fun h0 => ?_) (fun h0 => ?_)
  · dsimp -zeta only
    refine Legal.choice (fun h1 => ?_) (fun h1 => ?_)
    · exact h
    · exact (Block.ccRequest_legal h)
  · exact h

theorem execRingReadCompletion_legal {x0 s0 t} (h0 : Legal s0.blk) (e : execRingReadCompletion x0 s0 = .next t) :
    Legal t.blk := by
  unfold execRingReadCompletion at e
  refine core_legal (fun a h => ?_) h0 e
  extract_lets z0 z1 z2
  have h3 : Legal z1 := by
    subst z1
    exact (Block.settleHalt_legal h)
  have h4 : Legal z2 := by
    subst z2
    refine Legal.choice (fun h5 => ?_) (fun h5 => ?_)
    · exact (Block.touch_legal h3)
    · exact h3
  exact (Block.fetchBlockN_legal h4)

theorem execGlobalStopRelease_legal {x0 s0 t} (h0 : Legal s0.blk) (e : execGlobalStopRelease x0 s0 = .next t) :
    Legal t.blk := by
  unfold execGlobalStopRelease at e
  unfold State.write at e
  refine aon_legal (fun a h => ?_) h0 e
  refine Block.regWrite_legal ?_ ?_
  · exact h
  · intro x0 h1
    exact (Block.release_legal h1)

end Sys2Proof.Laws
end

