-- ==== Sys2Proof/Laws/State.lean ====
section
/-!
SUPPORT. Reads of the block after one of its updates: each update changes its own field and leaves every other as it was.
-/
namespace Sys2Proof.Laws

open Sys2Proof Sys2Proof.Machine

variable (b : Block)

/-! ### A read of what was written -/

@[simp] theorem Block.setCtx_self (k : Nat) (v : Ctx) : (b.setCtx k v).ctx k = v := Tab.get_set_self _ _ _ _
theorem Block.setCtx_other (k : Nat) (v : Ctx) (x : Nat) (h : k ≠ x) : (b.setCtx k v).ctx x = b.ctx x := Tab.get_set_other _ _ _ h
@[simp] theorem Block.setQueue_self (k : Nat) (v : HwQueue) : (b.setQueue k v).queue k = v := Tab.get_set_self _ _ _ _
theorem Block.setQueue_other (k : Nat) (v : HwQueue) (x : Nat) (h : k ≠ x) : (b.setQueue k v).queue x = b.queue x := Tab.get_set_other _ _ _ h
@[simp] theorem Block.setHarness_self (k : Nat) (v : Harness) : (b.setHarness k v).harness k = v := Tab.get_set_self _ _ _ _
theorem Block.setHarness_other (k : Nat) (v : Harness) (x : Nat) (h : k ≠ x) : (b.setHarness k v).harness x = b.harness x := Tab.get_set_other _ _ _ h
@[simp] theorem Block.setEng_self (k : Nat) (v : Engine) : (b.setEng k v).eng k = v := Tab.get_set_self _ _ _ _
theorem Block.setEng_other (k : Nat) (v : Engine) (x : Nat) (h : k ≠ x) : (b.setEng k v).eng x = b.eng x := Tab.get_set_other _ _ _ h
@[simp] theorem Block.setSlot_self (k : Nat) (v : Slot) : (b.setSlot k v).slot k = v := Tab.get_set_self _ _ _ _
theorem Block.setSlot_other (k : Nat) (v : Slot) (x : Nat) (h : k ≠ x) : (b.setSlot k v).slot x = b.slot x := Tab.get_set_other _ _ _ h
@[simp] theorem Block.setVid_self (c k : Nat) (v : Vid) : (b.setVid c k v).vid c k = v := Tab.get_set_self _ _ _ _
@[simp] theorem Block.setBound_self (k : Nat) (v : Bound) : (b.setBound k v).bound k = v := Tab.get_set_self _ _ _ _
theorem Block.setBound_other (k : Nat) (v : Bound) (x : Nat) (h : k ≠ x) : (b.setBound k v).bound x = b.bound x := Tab.get_set_other _ _ _ h
@[simp] theorem Block.setPool_self (k : Nat) (v : List Nat) : (b.setPool k v).pool k = v := Tab.get_set_self _ _ _ _
theorem Block.setPool_other (k : Nat) (v : List Nat) (x : Nat) (h : k ≠ x) : (b.setPool k v).pool x = b.pool x := Tab.get_set_other _ _ _ h
@[simp] theorem Block.setPort_self (k : Nat) (v : RPort) : (b.setPort k v).port k = v := Tab.get_set_self _ _ _ _
theorem Block.setPort_other (k : Nat) (v : RPort) (x : Nat) (h : k ≠ x) : (b.setPort k v).port x = b.port x := Tab.get_set_other _ _ _ h
@[simp] theorem Block.setWear_self (n k : Nat) (v : Wear) : (b.setWear n k v).wearOf n k = v := Tab.get_set_self _ _ _ _
@[simp] theorem Block.setStamp_self (k v : Nat) : (b.setStamp k v).stampOf k = v := Tab.get_set_self _ _ _ _
theorem Block.setStamp_other (k v : Nat) (x : Nat) (h : k ≠ x) : (b.setStamp k v).stampOf x = b.stampOf x := Tab.get_set_other _ _ _ h
@[simp] theorem Block.setTbuf_self (k : Nat) (v : TraceBuf) : (b.setTbuf k v).tbuf k = v := Tab.get_set_self _ _ _ _
theorem Block.setTbuf_other (k : Nat) (v : TraceBuf) (x : Nat) (h : k ≠ x) : (b.setTbuf k v).tbuf x = b.tbuf x := Tab.get_set_other _ _ _ h
@[simp] theorem Block.setBp_self (k : Nat) (v : Breakpoint) : (b.setBp k v).bp k = v := Tab.get_set_self _ _ _ _
theorem Block.setBp_other (k : Nat) (v : Breakpoint) (x : Nat) (h : k ≠ x) : (b.setBp k v).bp x = b.bp x := Tab.get_set_other _ _ _ h
@[simp] theorem Block.setSem_self (k v : Nat) : (b.setSem k v).sem k = v := Tab.get_set_self _ _ _ _
theorem Block.setSem_other (k v : Nat) (x : Nat) (h : k ≠ x) : (b.setSem k v).sem x = b.sem x := Tab.get_set_other _ _ _ h
@[simp] theorem Block.setMcore_self (k : Nat) (v : MicroCore) : (b.setMcore k v).mcore k = v := Tab.get_set_self _ _ _ _
theorem Block.setMcore_other (k : Nat) (v : MicroCore) (x : Nat) (h : k ≠ x) : (b.setMcore k v).mcore x = b.mcore x := Tab.get_set_other _ _ _ h
@[simp] theorem Block.setReg_self (a v : Nat) : (b.setReg a v).reg a = v % 2 ^ 32 := by
  unfold Block.reg Block.setReg
  dsimp only
  rw [Tab.get_set_self, BitVec.toNat_ofNat]
theorem Block.setReg_other (a v x : Nat) (h : a ≠ x) : (b.setReg a v).reg x = b.reg x :=
  congrArg BitVec.toNat (Tab.get_set_other _ _ _ h)

/-! ### Reads of the rest -/

@[simp] theorem Block.setReg_ctx (a v : Nat) (x : Nat) : (b.setReg a v).ctx x = b.ctx x := rfl
@[simp] theorem Block.setReg_queue (a v : Nat) (x : Nat) : (b.setReg a v).queue x = b.queue x := rfl
@[simp] theorem Block.setReg_harness (a v : Nat) (x : Nat) : (b.setReg a v).harness x = b.harness x := rfl
@[simp] theorem Block.setReg_eng (a v : Nat) (x : Nat) : (b.setReg a v).eng x = b.eng x := rfl
@[simp] theorem Block.setReg_slot (a v : Nat) (x : Nat) : (b.setReg a v).slot x = b.slot x := rfl
@[simp] theorem Block.setReg_vid (a v : Nat) (x y : Nat) : (b.setReg a v).vid x y = b.vid x y := rfl
@[simp] theorem Block.setReg_bound (a v : Nat) (x : Nat) : (b.setReg a v).bound x = b.bound x := rfl
@[simp] theorem Block.setReg_pool (a v : Nat) (x : Nat) : (b.setReg a v).pool x = b.pool x := rfl
@[simp] theorem Block.setReg_port (a v : Nat) (x : Nat) : (b.setReg a v).port x = b.port x := rfl
@[simp] theorem Block.setReg_wearOf (a v : Nat) (x y : Nat) : (b.setReg a v).wearOf x y = b.wearOf x y := rfl
@[simp] theorem Block.setReg_stampOf (a v : Nat) (x : Nat) : (b.setReg a v).stampOf x = b.stampOf x := rfl
@[simp] theorem Block.setReg_tbuf (a v : Nat) (x : Nat) : (b.setReg a v).tbuf x = b.tbuf x := rfl
@[simp] theorem Block.setReg_bp (a v : Nat) (x : Nat) : (b.setReg a v).bp x = b.bp x := rfl
@[simp] theorem Block.setReg_sem (a v : Nat) (x : Nat) : (b.setReg a v).sem x = b.sem x := rfl
@[simp] theorem Block.setReg_mcore (a v : Nat) (x : Nat) : (b.setReg a v).mcore x = b.mcore x := rfl
@[simp] theorem Block.setReg_word48 (a v : Nat) (x y : Nat) : (b.setReg a v).word48 x y = b.word48 x y := rfl
@[simp] theorem Block.setReg_cmdQ (a v : Nat) (x y : Nat) : (b.setReg a v).cmd? x y = b.cmd? x y := rfl
@[simp] theorem Block.setReg_taskQ (a v : Nat) (x y : Nat) : (b.setReg a v).task? x y = b.task? x y := rfl

@[simp] theorem Block.setCtx_reg (k : Nat) (v : Ctx) (x : Nat) : (b.setCtx k v).reg x = b.reg x := rfl
@[simp] theorem Block.setCtx_queue (k : Nat) (v : Ctx) (x : Nat) : (b.setCtx k v).queue x = b.queue x := rfl
@[simp] theorem Block.setCtx_harness (k : Nat) (v : Ctx) (x : Nat) : (b.setCtx k v).harness x = b.harness x := rfl
@[simp] theorem Block.setCtx_eng (k : Nat) (v : Ctx) (x : Nat) : (b.setCtx k v).eng x = b.eng x := rfl
@[simp] theorem Block.setCtx_slot (k : Nat) (v : Ctx) (x : Nat) : (b.setCtx k v).slot x = b.slot x := rfl
@[simp] theorem Block.setCtx_vid (k : Nat) (v : Ctx) (x y : Nat) : (b.setCtx k v).vid x y = b.vid x y := rfl
@[simp] theorem Block.setCtx_bound (k : Nat) (v : Ctx) (x : Nat) : (b.setCtx k v).bound x = b.bound x := rfl
@[simp] theorem Block.setCtx_pool (k : Nat) (v : Ctx) (x : Nat) : (b.setCtx k v).pool x = b.pool x := rfl
@[simp] theorem Block.setCtx_port (k : Nat) (v : Ctx) (x : Nat) : (b.setCtx k v).port x = b.port x := rfl
@[simp] theorem Block.setCtx_wearOf (k : Nat) (v : Ctx) (x y : Nat) : (b.setCtx k v).wearOf x y = b.wearOf x y := rfl
@[simp] theorem Block.setCtx_stampOf (k : Nat) (v : Ctx) (x : Nat) : (b.setCtx k v).stampOf x = b.stampOf x := rfl
@[simp] theorem Block.setCtx_tbuf (k : Nat) (v : Ctx) (x : Nat) : (b.setCtx k v).tbuf x = b.tbuf x := rfl
@[simp] theorem Block.setCtx_bp (k : Nat) (v : Ctx) (x : Nat) : (b.setCtx k v).bp x = b.bp x := rfl
@[simp] theorem Block.setCtx_sem (k : Nat) (v : Ctx) (x : Nat) : (b.setCtx k v).sem x = b.sem x := rfl
@[simp] theorem Block.setCtx_mcore (k : Nat) (v : Ctx) (x : Nat) : (b.setCtx k v).mcore x = b.mcore x := rfl
@[simp] theorem Block.setCtx_word48 (k : Nat) (v : Ctx) (x y : Nat) : (b.setCtx k v).word48 x y = b.word48 x y := rfl
@[simp] theorem Block.setCtx_cmdQ (k : Nat) (v : Ctx) (x y : Nat) : (b.setCtx k v).cmd? x y = b.cmd? x y := rfl
@[simp] theorem Block.setCtx_taskQ (k : Nat) (v : Ctx) (x y : Nat) : (b.setCtx k v).task? x y = b.task? x y := rfl

@[simp] theorem Block.setQueue_reg (k : Nat) (v : HwQueue) (x : Nat) : (b.setQueue k v).reg x = b.reg x := rfl
@[simp] theorem Block.setQueue_ctx (k : Nat) (v : HwQueue) (x : Nat) : (b.setQueue k v).ctx x = b.ctx x := rfl
@[simp] theorem Block.setQueue_harness (k : Nat) (v : HwQueue) (x : Nat) : (b.setQueue k v).harness x = b.harness x := rfl
@[simp] theorem Block.setQueue_eng (k : Nat) (v : HwQueue) (x : Nat) : (b.setQueue k v).eng x = b.eng x := rfl
@[simp] theorem Block.setQueue_slot (k : Nat) (v : HwQueue) (x : Nat) : (b.setQueue k v).slot x = b.slot x := rfl
@[simp] theorem Block.setQueue_vid (k : Nat) (v : HwQueue) (x y : Nat) : (b.setQueue k v).vid x y = b.vid x y := rfl
@[simp] theorem Block.setQueue_bound (k : Nat) (v : HwQueue) (x : Nat) : (b.setQueue k v).bound x = b.bound x := rfl
@[simp] theorem Block.setQueue_pool (k : Nat) (v : HwQueue) (x : Nat) : (b.setQueue k v).pool x = b.pool x := rfl
@[simp] theorem Block.setQueue_port (k : Nat) (v : HwQueue) (x : Nat) : (b.setQueue k v).port x = b.port x := rfl
@[simp] theorem Block.setQueue_wearOf (k : Nat) (v : HwQueue) (x y : Nat) : (b.setQueue k v).wearOf x y = b.wearOf x y := rfl
@[simp] theorem Block.setQueue_stampOf (k : Nat) (v : HwQueue) (x : Nat) : (b.setQueue k v).stampOf x = b.stampOf x := rfl
@[simp] theorem Block.setQueue_tbuf (k : Nat) (v : HwQueue) (x : Nat) : (b.setQueue k v).tbuf x = b.tbuf x := rfl
@[simp] theorem Block.setQueue_bp (k : Nat) (v : HwQueue) (x : Nat) : (b.setQueue k v).bp x = b.bp x := rfl
@[simp] theorem Block.setQueue_sem (k : Nat) (v : HwQueue) (x : Nat) : (b.setQueue k v).sem x = b.sem x := rfl
@[simp] theorem Block.setQueue_mcore (k : Nat) (v : HwQueue) (x : Nat) : (b.setQueue k v).mcore x = b.mcore x := rfl
@[simp] theorem Block.setQueue_word48 (k : Nat) (v : HwQueue) (x y : Nat) : (b.setQueue k v).word48 x y = b.word48 x y := rfl
@[simp] theorem Block.setQueue_cmdQ (k : Nat) (v : HwQueue) (x y : Nat) : (b.setQueue k v).cmd? x y = b.cmd? x y := rfl
@[simp] theorem Block.setQueue_taskQ (k : Nat) (v : HwQueue) (x y : Nat) : (b.setQueue k v).task? x y = b.task? x y := rfl

@[simp] theorem Block.setHarness_reg (k : Nat) (v : Harness) (x : Nat) : (b.setHarness k v).reg x = b.reg x := rfl
@[simp] theorem Block.setHarness_ctx (k : Nat) (v : Harness) (x : Nat) : (b.setHarness k v).ctx x = b.ctx x := rfl
@[simp] theorem Block.setHarness_queue (k : Nat) (v : Harness) (x : Nat) : (b.setHarness k v).queue x = b.queue x := rfl
@[simp] theorem Block.setHarness_eng (k : Nat) (v : Harness) (x : Nat) : (b.setHarness k v).eng x = b.eng x := rfl
@[simp] theorem Block.setHarness_slot (k : Nat) (v : Harness) (x : Nat) : (b.setHarness k v).slot x = b.slot x := rfl
@[simp] theorem Block.setHarness_vid (k : Nat) (v : Harness) (x y : Nat) : (b.setHarness k v).vid x y = b.vid x y := rfl
@[simp] theorem Block.setHarness_bound (k : Nat) (v : Harness) (x : Nat) : (b.setHarness k v).bound x = b.bound x := rfl
@[simp] theorem Block.setHarness_pool (k : Nat) (v : Harness) (x : Nat) : (b.setHarness k v).pool x = b.pool x := rfl
@[simp] theorem Block.setHarness_port (k : Nat) (v : Harness) (x : Nat) : (b.setHarness k v).port x = b.port x := rfl
@[simp] theorem Block.setHarness_wearOf (k : Nat) (v : Harness) (x y : Nat) : (b.setHarness k v).wearOf x y = b.wearOf x y := rfl
@[simp] theorem Block.setHarness_stampOf (k : Nat) (v : Harness) (x : Nat) : (b.setHarness k v).stampOf x = b.stampOf x := rfl
@[simp] theorem Block.setHarness_tbuf (k : Nat) (v : Harness) (x : Nat) : (b.setHarness k v).tbuf x = b.tbuf x := rfl
@[simp] theorem Block.setHarness_bp (k : Nat) (v : Harness) (x : Nat) : (b.setHarness k v).bp x = b.bp x := rfl
@[simp] theorem Block.setHarness_sem (k : Nat) (v : Harness) (x : Nat) : (b.setHarness k v).sem x = b.sem x := rfl
@[simp] theorem Block.setHarness_mcore (k : Nat) (v : Harness) (x : Nat) : (b.setHarness k v).mcore x = b.mcore x := rfl
@[simp] theorem Block.setHarness_word48 (k : Nat) (v : Harness) (x y : Nat) : (b.setHarness k v).word48 x y = b.word48 x y := rfl
@[simp] theorem Block.setHarness_cmdQ (k : Nat) (v : Harness) (x y : Nat) : (b.setHarness k v).cmd? x y = b.cmd? x y := rfl
@[simp] theorem Block.setHarness_taskQ (k : Nat) (v : Harness) (x y : Nat) : (b.setHarness k v).task? x y = b.task? x y := rfl

@[simp] theorem Block.setEng_reg (k : Nat) (v : Engine) (x : Nat) : (b.setEng k v).reg x = b.reg x := rfl
@[simp] theorem Block.setEng_ctx (k : Nat) (v : Engine) (x : Nat) : (b.setEng k v).ctx x = b.ctx x := rfl
@[simp] theorem Block.setEng_queue (k : Nat) (v : Engine) (x : Nat) : (b.setEng k v).queue x = b.queue x := rfl
@[simp] theorem Block.setEng_harness (k : Nat) (v : Engine) (x : Nat) : (b.setEng k v).harness x = b.harness x := rfl
@[simp] theorem Block.setEng_slot (k : Nat) (v : Engine) (x : Nat) : (b.setEng k v).slot x = b.slot x := rfl
@[simp] theorem Block.setEng_vid (k : Nat) (v : Engine) (x y : Nat) : (b.setEng k v).vid x y = b.vid x y := rfl
@[simp] theorem Block.setEng_bound (k : Nat) (v : Engine) (x : Nat) : (b.setEng k v).bound x = b.bound x := rfl
@[simp] theorem Block.setEng_pool (k : Nat) (v : Engine) (x : Nat) : (b.setEng k v).pool x = b.pool x := rfl
@[simp] theorem Block.setEng_port (k : Nat) (v : Engine) (x : Nat) : (b.setEng k v).port x = b.port x := rfl
@[simp] theorem Block.setEng_wearOf (k : Nat) (v : Engine) (x y : Nat) : (b.setEng k v).wearOf x y = b.wearOf x y := rfl
@[simp] theorem Block.setEng_stampOf (k : Nat) (v : Engine) (x : Nat) : (b.setEng k v).stampOf x = b.stampOf x := rfl
@[simp] theorem Block.setEng_tbuf (k : Nat) (v : Engine) (x : Nat) : (b.setEng k v).tbuf x = b.tbuf x := rfl
@[simp] theorem Block.setEng_bp (k : Nat) (v : Engine) (x : Nat) : (b.setEng k v).bp x = b.bp x := rfl
@[simp] theorem Block.setEng_sem (k : Nat) (v : Engine) (x : Nat) : (b.setEng k v).sem x = b.sem x := rfl
@[simp] theorem Block.setEng_mcore (k : Nat) (v : Engine) (x : Nat) : (b.setEng k v).mcore x = b.mcore x := rfl
@[simp] theorem Block.setEng_word48 (k : Nat) (v : Engine) (x y : Nat) : (b.setEng k v).word48 x y = b.word48 x y := rfl
@[simp] theorem Block.setEng_cmdQ (k : Nat) (v : Engine) (x y : Nat) : (b.setEng k v).cmd? x y = b.cmd? x y := rfl
@[simp] theorem Block.setEng_taskQ (k : Nat) (v : Engine) (x y : Nat) : (b.setEng k v).task? x y = b.task? x y := rfl

@[simp] theorem Block.setSlot_reg (k : Nat) (v : Slot) (x : Nat) : (b.setSlot k v).reg x = b.reg x := rfl
@[simp] theorem Block.setSlot_ctx (k : Nat) (v : Slot) (x : Nat) : (b.setSlot k v).ctx x = b.ctx x := rfl
@[simp] theorem Block.setSlot_queue (k : Nat) (v : Slot) (x : Nat) : (b.setSlot k v).queue x = b.queue x := rfl
@[simp] theorem Block.setSlot_harness (k : Nat) (v : Slot) (x : Nat) : (b.setSlot k v).harness x = b.harness x := rfl
@[simp] theorem Block.setSlot_eng (k : Nat) (v : Slot) (x : Nat) : (b.setSlot k v).eng x = b.eng x := rfl
@[simp] theorem Block.setSlot_vid (k : Nat) (v : Slot) (x y : Nat) : (b.setSlot k v).vid x y = b.vid x y := rfl
@[simp] theorem Block.setSlot_bound (k : Nat) (v : Slot) (x : Nat) : (b.setSlot k v).bound x = b.bound x := rfl
@[simp] theorem Block.setSlot_pool (k : Nat) (v : Slot) (x : Nat) : (b.setSlot k v).pool x = b.pool x := rfl
@[simp] theorem Block.setSlot_port (k : Nat) (v : Slot) (x : Nat) : (b.setSlot k v).port x = b.port x := rfl
@[simp] theorem Block.setSlot_wearOf (k : Nat) (v : Slot) (x y : Nat) : (b.setSlot k v).wearOf x y = b.wearOf x y := rfl
@[simp] theorem Block.setSlot_stampOf (k : Nat) (v : Slot) (x : Nat) : (b.setSlot k v).stampOf x = b.stampOf x := rfl
@[simp] theorem Block.setSlot_tbuf (k : Nat) (v : Slot) (x : Nat) : (b.setSlot k v).tbuf x = b.tbuf x := rfl
@[simp] theorem Block.setSlot_bp (k : Nat) (v : Slot) (x : Nat) : (b.setSlot k v).bp x = b.bp x := rfl
@[simp] theorem Block.setSlot_sem (k : Nat) (v : Slot) (x : Nat) : (b.setSlot k v).sem x = b.sem x := rfl
@[simp] theorem Block.setSlot_mcore (k : Nat) (v : Slot) (x : Nat) : (b.setSlot k v).mcore x = b.mcore x := rfl
@[simp] theorem Block.setSlot_word48 (k : Nat) (v : Slot) (x y : Nat) : (b.setSlot k v).word48 x y = b.word48 x y := rfl
@[simp] theorem Block.setSlot_cmdQ (k : Nat) (v : Slot) (x y : Nat) : (b.setSlot k v).cmd? x y = b.cmd? x y := rfl
@[simp] theorem Block.setSlot_taskQ (k : Nat) (v : Slot) (x y : Nat) : (b.setSlot k v).task? x y = b.task? x y := rfl

@[simp] theorem Block.setVid_reg (c k : Nat) (v : Vid) (x : Nat) : (b.setVid c k v).reg x = b.reg x := rfl
@[simp] theorem Block.setVid_ctx (c k : Nat) (v : Vid) (x : Nat) : (b.setVid c k v).ctx x = b.ctx x := rfl
@[simp] theorem Block.setVid_queue (c k : Nat) (v : Vid) (x : Nat) : (b.setVid c k v).queue x = b.queue x := rfl
@[simp] theorem Block.setVid_harness (c k : Nat) (v : Vid) (x : Nat) : (b.setVid c k v).harness x = b.harness x := rfl
@[simp] theorem Block.setVid_eng (c k : Nat) (v : Vid) (x : Nat) : (b.setVid c k v).eng x = b.eng x := rfl
@[simp] theorem Block.setVid_slot (c k : Nat) (v : Vid) (x : Nat) : (b.setVid c k v).slot x = b.slot x := rfl
@[simp] theorem Block.setVid_bound (c k : Nat) (v : Vid) (x : Nat) : (b.setVid c k v).bound x = b.bound x := rfl
@[simp] theorem Block.setVid_pool (c k : Nat) (v : Vid) (x : Nat) : (b.setVid c k v).pool x = b.pool x := rfl
@[simp] theorem Block.setVid_port (c k : Nat) (v : Vid) (x : Nat) : (b.setVid c k v).port x = b.port x := rfl
@[simp] theorem Block.setVid_wearOf (c k : Nat) (v : Vid) (x y : Nat) : (b.setVid c k v).wearOf x y = b.wearOf x y := rfl
@[simp] theorem Block.setVid_stampOf (c k : Nat) (v : Vid) (x : Nat) : (b.setVid c k v).stampOf x = b.stampOf x := rfl
@[simp] theorem Block.setVid_tbuf (c k : Nat) (v : Vid) (x : Nat) : (b.setVid c k v).tbuf x = b.tbuf x := rfl
@[simp] theorem Block.setVid_bp (c k : Nat) (v : Vid) (x : Nat) : (b.setVid c k v).bp x = b.bp x := rfl
@[simp] theorem Block.setVid_sem (c k : Nat) (v : Vid) (x : Nat) : (b.setVid c k v).sem x = b.sem x := rfl
@[simp] theorem Block.setVid_mcore (c k : Nat) (v : Vid) (x : Nat) : (b.setVid c k v).mcore x = b.mcore x := rfl
@[simp] theorem Block.setVid_word48 (c k : Nat) (v : Vid) (x y : Nat) : (b.setVid c k v).word48 x y = b.word48 x y := rfl
@[simp] theorem Block.setVid_cmdQ (c k : Nat) (v : Vid) (x y : Nat) : (b.setVid c k v).cmd? x y = b.cmd? x y := rfl
@[simp] theorem Block.setVid_taskQ (c k : Nat) (v : Vid) (x y : Nat) : (b.setVid c k v).task? x y = b.task? x y := rfl

@[simp] theorem Block.setBound_reg (k : Nat) (v : Bound) (x : Nat) : (b.setBound k v).reg x = b.reg x := rfl
@[simp] theorem Block.setBound_ctx (k : Nat) (v : Bound) (x : Nat) : (b.setBound k v).ctx x = b.ctx x := rfl
@[simp] theorem Block.setBound_queue (k : Nat) (v : Bound) (x : Nat) : (b.setBound k v).queue x = b.queue x := rfl
@[simp] theorem Block.setBound_harness (k : Nat) (v : Bound) (x : Nat) : (b.setBound k v).harness x = b.harness x := rfl
@[simp] theorem Block.setBound_eng (k : Nat) (v : Bound) (x : Nat) : (b.setBound k v).eng x = b.eng x := rfl
@[simp] theorem Block.setBound_slot (k : Nat) (v : Bound) (x : Nat) : (b.setBound k v).slot x = b.slot x := rfl
@[simp] theorem Block.setBound_vid (k : Nat) (v : Bound) (x y : Nat) : (b.setBound k v).vid x y = b.vid x y := rfl
@[simp] theorem Block.setBound_pool (k : Nat) (v : Bound) (x : Nat) : (b.setBound k v).pool x = b.pool x := rfl
@[simp] theorem Block.setBound_port (k : Nat) (v : Bound) (x : Nat) : (b.setBound k v).port x = b.port x := rfl
@[simp] theorem Block.setBound_wearOf (k : Nat) (v : Bound) (x y : Nat) : (b.setBound k v).wearOf x y = b.wearOf x y := rfl
@[simp] theorem Block.setBound_stampOf (k : Nat) (v : Bound) (x : Nat) : (b.setBound k v).stampOf x = b.stampOf x := rfl
@[simp] theorem Block.setBound_tbuf (k : Nat) (v : Bound) (x : Nat) : (b.setBound k v).tbuf x = b.tbuf x := rfl
@[simp] theorem Block.setBound_bp (k : Nat) (v : Bound) (x : Nat) : (b.setBound k v).bp x = b.bp x := rfl
@[simp] theorem Block.setBound_sem (k : Nat) (v : Bound) (x : Nat) : (b.setBound k v).sem x = b.sem x := rfl
@[simp] theorem Block.setBound_mcore (k : Nat) (v : Bound) (x : Nat) : (b.setBound k v).mcore x = b.mcore x := rfl
@[simp] theorem Block.setBound_word48 (k : Nat) (v : Bound) (x y : Nat) : (b.setBound k v).word48 x y = b.word48 x y := rfl
@[simp] theorem Block.setBound_cmdQ (k : Nat) (v : Bound) (x y : Nat) : (b.setBound k v).cmd? x y = b.cmd? x y := rfl
@[simp] theorem Block.setBound_taskQ (k : Nat) (v : Bound) (x y : Nat) : (b.setBound k v).task? x y = b.task? x y := rfl

@[simp] theorem Block.setPool_reg (k : Nat) (v : List Nat) (x : Nat) : (b.setPool k v).reg x = b.reg x := rfl
@[simp] theorem Block.setPool_ctx (k : Nat) (v : List Nat) (x : Nat) : (b.setPool k v).ctx x = b.ctx x := rfl
@[simp] theorem Block.setPool_queue (k : Nat) (v : List Nat) (x : Nat) : (b.setPool k v).queue x = b.queue x := rfl
@[simp] theorem Block.setPool_harness (k : Nat) (v : List Nat) (x : Nat) : (b.setPool k v).harness x = b.harness x := rfl
@[simp] theorem Block.setPool_eng (k : Nat) (v : List Nat) (x : Nat) : (b.setPool k v).eng x = b.eng x := rfl
@[simp] theorem Block.setPool_slot (k : Nat) (v : List Nat) (x : Nat) : (b.setPool k v).slot x = b.slot x := rfl
@[simp] theorem Block.setPool_vid (k : Nat) (v : List Nat) (x y : Nat) : (b.setPool k v).vid x y = b.vid x y := rfl
@[simp] theorem Block.setPool_bound (k : Nat) (v : List Nat) (x : Nat) : (b.setPool k v).bound x = b.bound x := rfl
@[simp] theorem Block.setPool_port (k : Nat) (v : List Nat) (x : Nat) : (b.setPool k v).port x = b.port x := rfl
@[simp] theorem Block.setPool_wearOf (k : Nat) (v : List Nat) (x y : Nat) : (b.setPool k v).wearOf x y = b.wearOf x y := rfl
@[simp] theorem Block.setPool_stampOf (k : Nat) (v : List Nat) (x : Nat) : (b.setPool k v).stampOf x = b.stampOf x := rfl
@[simp] theorem Block.setPool_tbuf (k : Nat) (v : List Nat) (x : Nat) : (b.setPool k v).tbuf x = b.tbuf x := rfl
@[simp] theorem Block.setPool_bp (k : Nat) (v : List Nat) (x : Nat) : (b.setPool k v).bp x = b.bp x := rfl
@[simp] theorem Block.setPool_sem (k : Nat) (v : List Nat) (x : Nat) : (b.setPool k v).sem x = b.sem x := rfl
@[simp] theorem Block.setPool_mcore (k : Nat) (v : List Nat) (x : Nat) : (b.setPool k v).mcore x = b.mcore x := rfl
@[simp] theorem Block.setPool_word48 (k : Nat) (v : List Nat) (x y : Nat) : (b.setPool k v).word48 x y = b.word48 x y := rfl
@[simp] theorem Block.setPool_cmdQ (k : Nat) (v : List Nat) (x y : Nat) : (b.setPool k v).cmd? x y = b.cmd? x y := rfl
@[simp] theorem Block.setPool_taskQ (k : Nat) (v : List Nat) (x y : Nat) : (b.setPool k v).task? x y = b.task? x y := rfl

@[simp] theorem Block.setPort_reg (k : Nat) (v : RPort) (x : Nat) : (b.setPort k v).reg x = b.reg x := rfl
@[simp] theorem Block.setPort_ctx (k : Nat) (v : RPort) (x : Nat) : (b.setPort k v).ctx x = b.ctx x := rfl
@[simp] theorem Block.setPort_queue (k : Nat) (v : RPort) (x : Nat) : (b.setPort k v).queue x = b.queue x := rfl
@[simp] theorem Block.setPort_harness (k : Nat) (v : RPort) (x : Nat) : (b.setPort k v).harness x = b.harness x := rfl
@[simp] theorem Block.setPort_eng (k : Nat) (v : RPort) (x : Nat) : (b.setPort k v).eng x = b.eng x := rfl
@[simp] theorem Block.setPort_slot (k : Nat) (v : RPort) (x : Nat) : (b.setPort k v).slot x = b.slot x := rfl
@[simp] theorem Block.setPort_vid (k : Nat) (v : RPort) (x y : Nat) : (b.setPort k v).vid x y = b.vid x y := rfl
@[simp] theorem Block.setPort_bound (k : Nat) (v : RPort) (x : Nat) : (b.setPort k v).bound x = b.bound x := rfl
@[simp] theorem Block.setPort_pool (k : Nat) (v : RPort) (x : Nat) : (b.setPort k v).pool x = b.pool x := rfl
@[simp] theorem Block.setPort_wearOf (k : Nat) (v : RPort) (x y : Nat) : (b.setPort k v).wearOf x y = b.wearOf x y := rfl
@[simp] theorem Block.setPort_stampOf (k : Nat) (v : RPort) (x : Nat) : (b.setPort k v).stampOf x = b.stampOf x := rfl
@[simp] theorem Block.setPort_tbuf (k : Nat) (v : RPort) (x : Nat) : (b.setPort k v).tbuf x = b.tbuf x := rfl
@[simp] theorem Block.setPort_bp (k : Nat) (v : RPort) (x : Nat) : (b.setPort k v).bp x = b.bp x := rfl
@[simp] theorem Block.setPort_sem (k : Nat) (v : RPort) (x : Nat) : (b.setPort k v).sem x = b.sem x := rfl
@[simp] theorem Block.setPort_mcore (k : Nat) (v : RPort) (x : Nat) : (b.setPort k v).mcore x = b.mcore x := rfl
@[simp] theorem Block.setPort_word48 (k : Nat) (v : RPort) (x y : Nat) : (b.setPort k v).word48 x y = b.word48 x y := rfl
@[simp] theorem Block.setPort_cmdQ (k : Nat) (v : RPort) (x y : Nat) : (b.setPort k v).cmd? x y = b.cmd? x y := rfl
@[simp] theorem Block.setPort_taskQ (k : Nat) (v : RPort) (x y : Nat) : (b.setPort k v).task? x y = b.task? x y := rfl

@[simp] theorem Block.setWear_reg (n k : Nat) (v : Wear) (x : Nat) : (b.setWear n k v).reg x = b.reg x := rfl
@[simp] theorem Block.setWear_ctx (n k : Nat) (v : Wear) (x : Nat) : (b.setWear n k v).ctx x = b.ctx x := rfl
@[simp] theorem Block.setWear_queue (n k : Nat) (v : Wear) (x : Nat) : (b.setWear n k v).queue x = b.queue x := rfl
@[simp] theorem Block.setWear_harness (n k : Nat) (v : Wear) (x : Nat) : (b.setWear n k v).harness x = b.harness x := rfl
@[simp] theorem Block.setWear_eng (n k : Nat) (v : Wear) (x : Nat) : (b.setWear n k v).eng x = b.eng x := rfl
@[simp] theorem Block.setWear_slot (n k : Nat) (v : Wear) (x : Nat) : (b.setWear n k v).slot x = b.slot x := rfl
@[simp] theorem Block.setWear_vid (n k : Nat) (v : Wear) (x y : Nat) : (b.setWear n k v).vid x y = b.vid x y := rfl
@[simp] theorem Block.setWear_bound (n k : Nat) (v : Wear) (x : Nat) : (b.setWear n k v).bound x = b.bound x := rfl
@[simp] theorem Block.setWear_pool (n k : Nat) (v : Wear) (x : Nat) : (b.setWear n k v).pool x = b.pool x := rfl
@[simp] theorem Block.setWear_port (n k : Nat) (v : Wear) (x : Nat) : (b.setWear n k v).port x = b.port x := rfl
@[simp] theorem Block.setWear_stampOf (n k : Nat) (v : Wear) (x : Nat) : (b.setWear n k v).stampOf x = b.stampOf x := rfl
@[simp] theorem Block.setWear_tbuf (n k : Nat) (v : Wear) (x : Nat) : (b.setWear n k v).tbuf x = b.tbuf x := rfl
@[simp] theorem Block.setWear_bp (n k : Nat) (v : Wear) (x : Nat) : (b.setWear n k v).bp x = b.bp x := rfl
@[simp] theorem Block.setWear_sem (n k : Nat) (v : Wear) (x : Nat) : (b.setWear n k v).sem x = b.sem x := rfl
@[simp] theorem Block.setWear_mcore (n k : Nat) (v : Wear) (x : Nat) : (b.setWear n k v).mcore x = b.mcore x := rfl
@[simp] theorem Block.setWear_word48 (n k : Nat) (v : Wear) (x y : Nat) : (b.setWear n k v).word48 x y = b.word48 x y := rfl
@[simp] theorem Block.setWear_cmdQ (n k : Nat) (v : Wear) (x y : Nat) : (b.setWear n k v).cmd? x y = b.cmd? x y := rfl
@[simp] theorem Block.setWear_taskQ (n k : Nat) (v : Wear) (x y : Nat) : (b.setWear n k v).task? x y = b.task? x y := rfl

@[simp] theorem Block.setStamp_reg (k v : Nat) (x : Nat) : (b.setStamp k v).reg x = b.reg x := rfl
@[simp] theorem Block.setStamp_ctx (k v : Nat) (x : Nat) : (b.setStamp k v).ctx x = b.ctx x := rfl
@[simp] theorem Block.setStamp_queue (k v : Nat) (x : Nat) : (b.setStamp k v).queue x = b.queue x := rfl
@[simp] theorem Block.setStamp_harness (k v : Nat) (x : Nat) : (b.setStamp k v).harness x = b.harness x := rfl
@[simp] theorem Block.setStamp_eng (k v : Nat) (x : Nat) : (b.setStamp k v).eng x = b.eng x := rfl
@[simp] theorem Block.setStamp_slot (k v : Nat) (x : Nat) : (b.setStamp k v).slot x = b.slot x := rfl
@[simp] theorem Block.setStamp_vid (k v : Nat) (x y : Nat) : (b.setStamp k v).vid x y = b.vid x y := rfl
@[simp] theorem Block.setStamp_bound (k v : Nat) (x : Nat) : (b.setStamp k v).bound x = b.bound x := rfl
@[simp] theorem Block.setStamp_pool (k v : Nat) (x : Nat) : (b.setStamp k v).pool x = b.pool x := rfl
@[simp] theorem Block.setStamp_port (k v : Nat) (x : Nat) : (b.setStamp k v).port x = b.port x := rfl
@[simp] theorem Block.setStamp_wearOf (k v : Nat) (x y : Nat) : (b.setStamp k v).wearOf x y = b.wearOf x y := rfl
@[simp] theorem Block.setStamp_tbuf (k v : Nat) (x : Nat) : (b.setStamp k v).tbuf x = b.tbuf x := rfl
@[simp] theorem Block.setStamp_bp (k v : Nat) (x : Nat) : (b.setStamp k v).bp x = b.bp x := rfl
@[simp] theorem Block.setStamp_sem (k v : Nat) (x : Nat) : (b.setStamp k v).sem x = b.sem x := rfl
@[simp] theorem Block.setStamp_mcore (k v : Nat) (x : Nat) : (b.setStamp k v).mcore x = b.mcore x := rfl
@[simp] theorem Block.setStamp_word48 (k v : Nat) (x y : Nat) : (b.setStamp k v).word48 x y = b.word48 x y := rfl
@[simp] theorem Block.setStamp_cmdQ (k v : Nat) (x y : Nat) : (b.setStamp k v).cmd? x y = b.cmd? x y := rfl
@[simp] theorem Block.setStamp_taskQ (k v : Nat) (x y : Nat) : (b.setStamp k v).task? x y = b.task? x y := rfl

@[simp] theorem Block.setTbuf_reg (k : Nat) (v : TraceBuf) (x : Nat) : (b.setTbuf k v).reg x = b.reg x := rfl
@[simp] theorem Block.setTbuf_ctx (k : Nat) (v : TraceBuf) (x : Nat) : (b.setTbuf k v).ctx x = b.ctx x := rfl
@[simp] theorem Block.setTbuf_queue (k : Nat) (v : TraceBuf) (x : Nat) : (b.setTbuf k v).queue x = b.queue x := rfl
@[simp] theorem Block.setTbuf_harness (k : Nat) (v : TraceBuf) (x : Nat) : (b.setTbuf k v).harness x = b.harness x := rfl
@[simp] theorem Block.setTbuf_eng (k : Nat) (v : TraceBuf) (x : Nat) : (b.setTbuf k v).eng x = b.eng x := rfl
@[simp] theorem Block.setTbuf_slot (k : Nat) (v : TraceBuf) (x : Nat) : (b.setTbuf k v).slot x = b.slot x := rfl
@[simp] theorem Block.setTbuf_vid (k : Nat) (v : TraceBuf) (x y : Nat) : (b.setTbuf k v).vid x y = b.vid x y := rfl
@[simp] theorem Block.setTbuf_bound (k : Nat) (v : TraceBuf) (x : Nat) : (b.setTbuf k v).bound x = b.bound x := rfl
@[simp] theorem Block.setTbuf_pool (k : Nat) (v : TraceBuf) (x : Nat) : (b.setTbuf k v).pool x = b.pool x := rfl
@[simp] theorem Block.setTbuf_port (k : Nat) (v : TraceBuf) (x : Nat) : (b.setTbuf k v).port x = b.port x := rfl
@[simp] theorem Block.setTbuf_wearOf (k : Nat) (v : TraceBuf) (x y : Nat) : (b.setTbuf k v).wearOf x y = b.wearOf x y := rfl
@[simp] theorem Block.setTbuf_stampOf (k : Nat) (v : TraceBuf) (x : Nat) : (b.setTbuf k v).stampOf x = b.stampOf x := rfl
@[simp] theorem Block.setTbuf_bp (k : Nat) (v : TraceBuf) (x : Nat) : (b.setTbuf k v).bp x = b.bp x := rfl
@[simp] theorem Block.setTbuf_sem (k : Nat) (v : TraceBuf) (x : Nat) : (b.setTbuf k v).sem x = b.sem x := rfl
@[simp] theorem Block.setTbuf_mcore (k : Nat) (v : TraceBuf) (x : Nat) : (b.setTbuf k v).mcore x = b.mcore x := rfl
@[simp] theorem Block.setTbuf_word48 (k : Nat) (v : TraceBuf) (x y : Nat) : (b.setTbuf k v).word48 x y = b.word48 x y := rfl
@[simp] theorem Block.setTbuf_cmdQ (k : Nat) (v : TraceBuf) (x y : Nat) : (b.setTbuf k v).cmd? x y = b.cmd? x y := rfl
@[simp] theorem Block.setTbuf_taskQ (k : Nat) (v : TraceBuf) (x y : Nat) : (b.setTbuf k v).task? x y = b.task? x y := rfl

@[simp] theorem Block.setBp_reg (k : Nat) (v : Breakpoint) (x : Nat) : (b.setBp k v).reg x = b.reg x := rfl
@[simp] theorem Block.setBp_ctx (k : Nat) (v : Breakpoint) (x : Nat) : (b.setBp k v).ctx x = b.ctx x := rfl
@[simp] theorem Block.setBp_queue (k : Nat) (v : Breakpoint) (x : Nat) : (b.setBp k v).queue x = b.queue x := rfl
@[simp] theorem Block.setBp_harness (k : Nat) (v : Breakpoint) (x : Nat) : (b.setBp k v).harness x = b.harness x := rfl
@[simp] theorem Block.setBp_eng (k : Nat) (v : Breakpoint) (x : Nat) : (b.setBp k v).eng x = b.eng x := rfl
@[simp] theorem Block.setBp_slot (k : Nat) (v : Breakpoint) (x : Nat) : (b.setBp k v).slot x = b.slot x := rfl
@[simp] theorem Block.setBp_vid (k : Nat) (v : Breakpoint) (x y : Nat) : (b.setBp k v).vid x y = b.vid x y := rfl
@[simp] theorem Block.setBp_bound (k : Nat) (v : Breakpoint) (x : Nat) : (b.setBp k v).bound x = b.bound x := rfl
@[simp] theorem Block.setBp_pool (k : Nat) (v : Breakpoint) (x : Nat) : (b.setBp k v).pool x = b.pool x := rfl
@[simp] theorem Block.setBp_port (k : Nat) (v : Breakpoint) (x : Nat) : (b.setBp k v).port x = b.port x := rfl
@[simp] theorem Block.setBp_wearOf (k : Nat) (v : Breakpoint) (x y : Nat) : (b.setBp k v).wearOf x y = b.wearOf x y := rfl
@[simp] theorem Block.setBp_stampOf (k : Nat) (v : Breakpoint) (x : Nat) : (b.setBp k v).stampOf x = b.stampOf x := rfl
@[simp] theorem Block.setBp_tbuf (k : Nat) (v : Breakpoint) (x : Nat) : (b.setBp k v).tbuf x = b.tbuf x := rfl
@[simp] theorem Block.setBp_sem (k : Nat) (v : Breakpoint) (x : Nat) : (b.setBp k v).sem x = b.sem x := rfl
@[simp] theorem Block.setBp_mcore (k : Nat) (v : Breakpoint) (x : Nat) : (b.setBp k v).mcore x = b.mcore x := rfl
@[simp] theorem Block.setBp_word48 (k : Nat) (v : Breakpoint) (x y : Nat) : (b.setBp k v).word48 x y = b.word48 x y := rfl
@[simp] theorem Block.setBp_cmdQ (k : Nat) (v : Breakpoint) (x y : Nat) : (b.setBp k v).cmd? x y = b.cmd? x y := rfl
@[simp] theorem Block.setBp_taskQ (k : Nat) (v : Breakpoint) (x y : Nat) : (b.setBp k v).task? x y = b.task? x y := rfl

@[simp] theorem Block.setSem_reg (k v : Nat) (x : Nat) : (b.setSem k v).reg x = b.reg x := rfl
@[simp] theorem Block.setSem_ctx (k v : Nat) (x : Nat) : (b.setSem k v).ctx x = b.ctx x := rfl
@[simp] theorem Block.setSem_queue (k v : Nat) (x : Nat) : (b.setSem k v).queue x = b.queue x := rfl
@[simp] theorem Block.setSem_harness (k v : Nat) (x : Nat) : (b.setSem k v).harness x = b.harness x := rfl
@[simp] theorem Block.setSem_eng (k v : Nat) (x : Nat) : (b.setSem k v).eng x = b.eng x := rfl
@[simp] theorem Block.setSem_slot (k v : Nat) (x : Nat) : (b.setSem k v).slot x = b.slot x := rfl
@[simp] theorem Block.setSem_vid (k v : Nat) (x y : Nat) : (b.setSem k v).vid x y = b.vid x y := rfl
@[simp] theorem Block.setSem_bound (k v : Nat) (x : Nat) : (b.setSem k v).bound x = b.bound x := rfl
@[simp] theorem Block.setSem_pool (k v : Nat) (x : Nat) : (b.setSem k v).pool x = b.pool x := rfl
@[simp] theorem Block.setSem_port (k v : Nat) (x : Nat) : (b.setSem k v).port x = b.port x := rfl
@[simp] theorem Block.setSem_wearOf (k v : Nat) (x y : Nat) : (b.setSem k v).wearOf x y = b.wearOf x y := rfl
@[simp] theorem Block.setSem_stampOf (k v : Nat) (x : Nat) : (b.setSem k v).stampOf x = b.stampOf x := rfl
@[simp] theorem Block.setSem_tbuf (k v : Nat) (x : Nat) : (b.setSem k v).tbuf x = b.tbuf x := rfl
@[simp] theorem Block.setSem_bp (k v : Nat) (x : Nat) : (b.setSem k v).bp x = b.bp x := rfl
@[simp] theorem Block.setSem_mcore (k v : Nat) (x : Nat) : (b.setSem k v).mcore x = b.mcore x := rfl
@[simp] theorem Block.setSem_word48 (k v : Nat) (x y : Nat) : (b.setSem k v).word48 x y = b.word48 x y := rfl
@[simp] theorem Block.setSem_cmdQ (k v : Nat) (x y : Nat) : (b.setSem k v).cmd? x y = b.cmd? x y := rfl
@[simp] theorem Block.setSem_taskQ (k v : Nat) (x y : Nat) : (b.setSem k v).task? x y = b.task? x y := rfl

@[simp] theorem Block.setMcore_reg (k : Nat) (v : MicroCore) (x : Nat) : (b.setMcore k v).reg x = b.reg x := rfl
@[simp] theorem Block.setMcore_ctx (k : Nat) (v : MicroCore) (x : Nat) : (b.setMcore k v).ctx x = b.ctx x := rfl
@[simp] theorem Block.setMcore_queue (k : Nat) (v : MicroCore) (x : Nat) : (b.setMcore k v).queue x = b.queue x := rfl
@[simp] theorem Block.setMcore_harness (k : Nat) (v : MicroCore) (x : Nat) : (b.setMcore k v).harness x = b.harness x := rfl
@[simp] theorem Block.setMcore_eng (k : Nat) (v : MicroCore) (x : Nat) : (b.setMcore k v).eng x = b.eng x := rfl
@[simp] theorem Block.setMcore_slot (k : Nat) (v : MicroCore) (x : Nat) : (b.setMcore k v).slot x = b.slot x := rfl
@[simp] theorem Block.setMcore_vid (k : Nat) (v : MicroCore) (x y : Nat) : (b.setMcore k v).vid x y = b.vid x y := rfl
@[simp] theorem Block.setMcore_bound (k : Nat) (v : MicroCore) (x : Nat) : (b.setMcore k v).bound x = b.bound x := rfl
@[simp] theorem Block.setMcore_pool (k : Nat) (v : MicroCore) (x : Nat) : (b.setMcore k v).pool x = b.pool x := rfl
@[simp] theorem Block.setMcore_port (k : Nat) (v : MicroCore) (x : Nat) : (b.setMcore k v).port x = b.port x := rfl
@[simp] theorem Block.setMcore_wearOf (k : Nat) (v : MicroCore) (x y : Nat) : (b.setMcore k v).wearOf x y = b.wearOf x y := rfl
@[simp] theorem Block.setMcore_stampOf (k : Nat) (v : MicroCore) (x : Nat) : (b.setMcore k v).stampOf x = b.stampOf x := rfl
@[simp] theorem Block.setMcore_tbuf (k : Nat) (v : MicroCore) (x : Nat) : (b.setMcore k v).tbuf x = b.tbuf x := rfl
@[simp] theorem Block.setMcore_bp (k : Nat) (v : MicroCore) (x : Nat) : (b.setMcore k v).bp x = b.bp x := rfl
@[simp] theorem Block.setMcore_sem (k : Nat) (v : MicroCore) (x : Nat) : (b.setMcore k v).sem x = b.sem x := rfl
@[simp] theorem Block.setMcore_word48 (k : Nat) (v : MicroCore) (x y : Nat) : (b.setMcore k v).word48 x y = b.word48 x y := rfl
@[simp] theorem Block.setMcore_cmdQ (k : Nat) (v : MicroCore) (x y : Nat) : (b.setMcore k v).cmd? x y = b.cmd? x y := rfl
@[simp] theorem Block.setMcore_taskQ (k : Nat) (v : MicroCore) (x y : Nat) : (b.setMcore k v).task? x y = b.task? x y := rfl

@[simp] theorem Block.setWord48_reg (c a v : Nat) (x : Nat) : (b.setWord48 c a v).reg x = b.reg x := rfl
@[simp] theorem Block.setWord48_ctx (c a v : Nat) (x : Nat) : (b.setWord48 c a v).ctx x = b.ctx x := rfl
@[simp] theorem Block.setWord48_queue (c a v : Nat) (x : Nat) : (b.setWord48 c a v).queue x = b.queue x := rfl
@[simp] theorem Block.setWord48_harness (c a v : Nat) (x : Nat) : (b.setWord48 c a v).harness x = b.harness x := rfl
@[simp] theorem Block.setWord48_eng (c a v : Nat) (x : Nat) : (b.setWord48 c a v).eng x = b.eng x := rfl
@[simp] theorem Block.setWord48_slot (c a v : Nat) (x : Nat) : (b.setWord48 c a v).slot x = b.slot x := rfl
@[simp] theorem Block.setWord48_vid (c a v : Nat) (x y : Nat) : (b.setWord48 c a v).vid x y = b.vid x y := rfl
@[simp] theorem Block.setWord48_bound (c a v : Nat) (x : Nat) : (b.setWord48 c a v).bound x = b.bound x := rfl
@[simp] theorem Block.setWord48_pool (c a v : Nat) (x : Nat) : (b.setWord48 c a v).pool x = b.pool x := rfl
@[simp] theorem Block.setWord48_port (c a v : Nat) (x : Nat) : (b.setWord48 c a v).port x = b.port x := rfl
@[simp] theorem Block.setWord48_wearOf (c a v : Nat) (x y : Nat) : (b.setWord48 c a v).wearOf x y = b.wearOf x y := rfl
@[simp] theorem Block.setWord48_stampOf (c a v : Nat) (x : Nat) : (b.setWord48 c a v).stampOf x = b.stampOf x := rfl
@[simp] theorem Block.setWord48_tbuf (c a v : Nat) (x : Nat) : (b.setWord48 c a v).tbuf x = b.tbuf x := rfl
@[simp] theorem Block.setWord48_bp (c a v : Nat) (x : Nat) : (b.setWord48 c a v).bp x = b.bp x := rfl
@[simp] theorem Block.setWord48_sem (c a v : Nat) (x : Nat) : (b.setWord48 c a v).sem x = b.sem x := rfl
@[simp] theorem Block.setWord48_mcore (c a v : Nat) (x : Nat) : (b.setWord48 c a v).mcore x = b.mcore x := rfl
@[simp] theorem Block.setWord48_cmdQ (c a v : Nat) (x y : Nat) : (b.setWord48 c a v).cmd? x y = b.cmd? x y := rfl
@[simp] theorem Block.setWord48_taskQ (c a v : Nat) (x y : Nat) : (b.setWord48 c a v).task? x y = b.task? x y := rfl

@[simp] theorem Block.modCmd_reg (q i : Nat) (f : Cmd → Cmd) (x : Nat) : (b.modCmd q i f).reg x = b.reg x := rfl
@[simp] theorem Block.modCmd_ctx (q i : Nat) (f : Cmd → Cmd) (x : Nat) : (b.modCmd q i f).ctx x = b.ctx x := rfl
@[simp] theorem Block.modCmd_queue (q i : Nat) (f : Cmd → Cmd) (x : Nat) : (b.modCmd q i f).queue x = b.queue x := rfl
@[simp] theorem Block.modCmd_harness (q i : Nat) (f : Cmd → Cmd) (x : Nat) : (b.modCmd q i f).harness x = b.harness x := rfl
@[simp] theorem Block.modCmd_eng (q i : Nat) (f : Cmd → Cmd) (x : Nat) : (b.modCmd q i f).eng x = b.eng x := rfl
@[simp] theorem Block.modCmd_slot (q i : Nat) (f : Cmd → Cmd) (x : Nat) : (b.modCmd q i f).slot x = b.slot x := rfl
@[simp] theorem Block.modCmd_vid (q i : Nat) (f : Cmd → Cmd) (x y : Nat) : (b.modCmd q i f).vid x y = b.vid x y := rfl
@[simp] theorem Block.modCmd_bound (q i : Nat) (f : Cmd → Cmd) (x : Nat) : (b.modCmd q i f).bound x = b.bound x := rfl
@[simp] theorem Block.modCmd_pool (q i : Nat) (f : Cmd → Cmd) (x : Nat) : (b.modCmd q i f).pool x = b.pool x := rfl
@[simp] theorem Block.modCmd_port (q i : Nat) (f : Cmd → Cmd) (x : Nat) : (b.modCmd q i f).port x = b.port x := rfl
@[simp] theorem Block.modCmd_wearOf (q i : Nat) (f : Cmd → Cmd) (x y : Nat) : (b.modCmd q i f).wearOf x y = b.wearOf x y := rfl
@[simp] theorem Block.modCmd_stampOf (q i : Nat) (f : Cmd → Cmd) (x : Nat) : (b.modCmd q i f).stampOf x = b.stampOf x := rfl
@[simp] theorem Block.modCmd_tbuf (q i : Nat) (f : Cmd → Cmd) (x : Nat) : (b.modCmd q i f).tbuf x = b.tbuf x := rfl
@[simp] theorem Block.modCmd_bp (q i : Nat) (f : Cmd → Cmd) (x : Nat) : (b.modCmd q i f).bp x = b.bp x := rfl
@[simp] theorem Block.modCmd_sem (q i : Nat) (f : Cmd → Cmd) (x : Nat) : (b.modCmd q i f).sem x = b.sem x := rfl
@[simp] theorem Block.modCmd_mcore (q i : Nat) (f : Cmd → Cmd) (x : Nat) : (b.modCmd q i f).mcore x = b.mcore x := rfl
@[simp] theorem Block.modCmd_word48 (q i : Nat) (f : Cmd → Cmd) (x y : Nat) : (b.modCmd q i f).word48 x y = b.word48 x y := rfl
@[simp] theorem Block.modCmd_taskQ (q i : Nat) (f : Cmd → Cmd) (x y : Nat) : (b.modCmd q i f).task? x y = b.task? x y := rfl

@[simp] theorem Block.modTask_reg (c k : Nat) (f : Task → Task) (x : Nat) : (b.modTask c k f).reg x = b.reg x := rfl
@[simp] theorem Block.modTask_ctx (c k : Nat) (f : Task → Task) (x : Nat) : (b.modTask c k f).ctx x = b.ctx x := rfl
@[simp] theorem Block.modTask_queue (c k : Nat) (f : Task → Task) (x : Nat) : (b.modTask c k f).queue x = b.queue x := rfl
@[simp] theorem Block.modTask_harness (c k : Nat) (f : Task → Task) (x : Nat) : (b.modTask c k f).harness x = b.harness x := rfl
@[simp] theorem Block.modTask_eng (c k : Nat) (f : Task → Task) (x : Nat) : (b.modTask c k f).eng x = b.eng x := rfl
@[simp] theorem Block.modTask_slot (c k : Nat) (f : Task → Task) (x : Nat) : (b.modTask c k f).slot x = b.slot x := rfl
@[simp] theorem Block.modTask_vid (c k : Nat) (f : Task → Task) (x y : Nat) : (b.modTask c k f).vid x y = b.vid x y := rfl
@[simp] theorem Block.modTask_bound (c k : Nat) (f : Task → Task) (x : Nat) : (b.modTask c k f).bound x = b.bound x := rfl
@[simp] theorem Block.modTask_pool (c k : Nat) (f : Task → Task) (x : Nat) : (b.modTask c k f).pool x = b.pool x := rfl
@[simp] theorem Block.modTask_port (c k : Nat) (f : Task → Task) (x : Nat) : (b.modTask c k f).port x = b.port x := rfl
@[simp] theorem Block.modTask_wearOf (c k : Nat) (f : Task → Task) (x y : Nat) : (b.modTask c k f).wearOf x y = b.wearOf x y := rfl
@[simp] theorem Block.modTask_stampOf (c k : Nat) (f : Task → Task) (x : Nat) : (b.modTask c k f).stampOf x = b.stampOf x := rfl
@[simp] theorem Block.modTask_tbuf (c k : Nat) (f : Task → Task) (x : Nat) : (b.modTask c k f).tbuf x = b.tbuf x := rfl
@[simp] theorem Block.modTask_bp (c k : Nat) (f : Task → Task) (x : Nat) : (b.modTask c k f).bp x = b.bp x := rfl
@[simp] theorem Block.modTask_sem (c k : Nat) (f : Task → Task) (x : Nat) : (b.modTask c k f).sem x = b.sem x := rfl
@[simp] theorem Block.modTask_mcore (c k : Nat) (f : Task → Task) (x : Nat) : (b.modTask c k f).mcore x = b.mcore x := rfl
@[simp] theorem Block.modTask_word48 (c k : Nat) (f : Task → Task) (x y : Nat) : (b.modTask c k f).word48 x y = b.word48 x y := rfl
@[simp] theorem Block.modTask_cmdQ (c k : Nat) (f : Task → Task) (x y : Nat) : (b.modTask c k f).cmd? x y = b.cmd? x y := rfl

@[simp] theorem Block.modVersion_reg (c l e : Nat) (f : Version → Version) (x : Nat) : (b.modVersion c l e f).reg x = b.reg x := rfl
@[simp] theorem Block.modVersion_ctx (c l e : Nat) (f : Version → Version) (x : Nat) : (b.modVersion c l e f).ctx x = b.ctx x := rfl
@[simp] theorem Block.modVersion_queue (c l e : Nat) (f : Version → Version) (x : Nat) : (b.modVersion c l e f).queue x = b.queue x := rfl
@[simp] theorem Block.modVersion_harness (c l e : Nat) (f : Version → Version) (x : Nat) : (b.modVersion c l e f).harness x = b.harness x := rfl
@[simp] theorem Block.modVersion_eng (c l e : Nat) (f : Version → Version) (x : Nat) : (b.modVersion c l e f).eng x = b.eng x := rfl
@[simp] theorem Block.modVersion_slot (c l e : Nat) (f : Version → Version) (x : Nat) : (b.modVersion c l e f).slot x = b.slot x := rfl
@[simp] theorem Block.modVersion_vid (c l e : Nat) (f : Version → Version) (x y : Nat) : (b.modVersion c l e f).vid x y = b.vid x y := rfl
@[simp] theorem Block.modVersion_bound (c l e : Nat) (f : Version → Version) (x : Nat) : (b.modVersion c l e f).bound x = b.bound x := rfl
@[simp] theorem Block.modVersion_pool (c l e : Nat) (f : Version → Version) (x : Nat) : (b.modVersion c l e f).pool x = b.pool x := rfl
@[simp] theorem Block.modVersion_port (c l e : Nat) (f : Version → Version) (x : Nat) : (b.modVersion c l e f).port x = b.port x := rfl
@[simp] theorem Block.modVersion_wearOf (c l e : Nat) (f : Version → Version) (x y : Nat) : (b.modVersion c l e f).wearOf x y = b.wearOf x y := rfl
@[simp] theorem Block.modVersion_stampOf (c l e : Nat) (f : Version → Version) (x : Nat) : (b.modVersion c l e f).stampOf x = b.stampOf x := rfl
@[simp] theorem Block.modVersion_tbuf (c l e : Nat) (f : Version → Version) (x : Nat) : (b.modVersion c l e f).tbuf x = b.tbuf x := rfl
@[simp] theorem Block.modVersion_bp (c l e : Nat) (f : Version → Version) (x : Nat) : (b.modVersion c l e f).bp x = b.bp x := rfl
@[simp] theorem Block.modVersion_sem (c l e : Nat) (f : Version → Version) (x : Nat) : (b.modVersion c l e f).sem x = b.sem x := rfl
@[simp] theorem Block.modVersion_mcore (c l e : Nat) (f : Version → Version) (x : Nat) : (b.modVersion c l e f).mcore x = b.mcore x := rfl
@[simp] theorem Block.modVersion_word48 (c l e : Nat) (f : Version → Version) (x y : Nat) : (b.modVersion c l e f).word48 x y = b.word48 x y := rfl
@[simp] theorem Block.modVersion_cmdQ (c l e : Nat) (f : Version → Version) (x y : Nat) : (b.modVersion c l e f).cmd? x y = b.cmd? x y := rfl
@[simp] theorem Block.modVersion_taskQ (c l e : Nat) (f : Version → Version) (x y : Nat) : (b.modVersion c l e f).task? x y = b.task? x y := rfl

@[simp] theorem Block.modMap_reg (k : Nat) (f : Mapping → Mapping) (x : Nat) : (b.modMap k f).reg x = b.reg x := rfl
@[simp] theorem Block.modMap_ctx (k : Nat) (f : Mapping → Mapping) (x : Nat) : (b.modMap k f).ctx x = b.ctx x := rfl
@[simp] theorem Block.modMap_queue (k : Nat) (f : Mapping → Mapping) (x : Nat) : (b.modMap k f).queue x = b.queue x := rfl
@[simp] theorem Block.modMap_harness (k : Nat) (f : Mapping → Mapping) (x : Nat) : (b.modMap k f).harness x = b.harness x := rfl
@[simp] theorem Block.modMap_eng (k : Nat) (f : Mapping → Mapping) (x : Nat) : (b.modMap k f).eng x = b.eng x := rfl
@[simp] theorem Block.modMap_slot (k : Nat) (f : Mapping → Mapping) (x : Nat) : (b.modMap k f).slot x = b.slot x := rfl
@[simp] theorem Block.modMap_vid (k : Nat) (f : Mapping → Mapping) (x y : Nat) : (b.modMap k f).vid x y = b.vid x y := rfl
@[simp] theorem Block.modMap_bound (k : Nat) (f : Mapping → Mapping) (x : Nat) : (b.modMap k f).bound x = b.bound x := rfl
@[simp] theorem Block.modMap_pool (k : Nat) (f : Mapping → Mapping) (x : Nat) : (b.modMap k f).pool x = b.pool x := rfl
@[simp] theorem Block.modMap_port (k : Nat) (f : Mapping → Mapping) (x : Nat) : (b.modMap k f).port x = b.port x := rfl
@[simp] theorem Block.modMap_wearOf (k : Nat) (f : Mapping → Mapping) (x y : Nat) : (b.modMap k f).wearOf x y = b.wearOf x y := rfl
@[simp] theorem Block.modMap_stampOf (k : Nat) (f : Mapping → Mapping) (x : Nat) : (b.modMap k f).stampOf x = b.stampOf x := rfl
@[simp] theorem Block.modMap_tbuf (k : Nat) (f : Mapping → Mapping) (x : Nat) : (b.modMap k f).tbuf x = b.tbuf x := rfl
@[simp] theorem Block.modMap_bp (k : Nat) (f : Mapping → Mapping) (x : Nat) : (b.modMap k f).bp x = b.bp x := rfl
@[simp] theorem Block.modMap_sem (k : Nat) (f : Mapping → Mapping) (x : Nat) : (b.modMap k f).sem x = b.sem x := rfl
@[simp] theorem Block.modMap_mcore (k : Nat) (f : Mapping → Mapping) (x : Nat) : (b.modMap k f).mcore x = b.mcore x := rfl
@[simp] theorem Block.modMap_word48 (k : Nat) (f : Mapping → Mapping) (x y : Nat) : (b.modMap k f).word48 x y = b.word48 x y := rfl
@[simp] theorem Block.modMap_cmdQ (k : Nat) (f : Mapping → Mapping) (x y : Nat) : (b.modMap k f).cmd? x y = b.cmd? x y := rfl
@[simp] theorem Block.modMap_taskQ (k : Nat) (f : Mapping → Mapping) (x y : Nat) : (b.modMap k f).task? x y = b.task? x y := rfl

@[simp] theorem Block.modCad_reg (f : Cadence → Cadence) (x : Nat) : (b.modCad f).reg x = b.reg x := rfl
@[simp] theorem Block.modCad_ctx (f : Cadence → Cadence) (x : Nat) : (b.modCad f).ctx x = b.ctx x := rfl
@[simp] theorem Block.modCad_queue (f : Cadence → Cadence) (x : Nat) : (b.modCad f).queue x = b.queue x := rfl
@[simp] theorem Block.modCad_harness (f : Cadence → Cadence) (x : Nat) : (b.modCad f).harness x = b.harness x := rfl
@[simp] theorem Block.modCad_eng (f : Cadence → Cadence) (x : Nat) : (b.modCad f).eng x = b.eng x := rfl
@[simp] theorem Block.modCad_slot (f : Cadence → Cadence) (x : Nat) : (b.modCad f).slot x = b.slot x := rfl
@[simp] theorem Block.modCad_vid (f : Cadence → Cadence) (x y : Nat) : (b.modCad f).vid x y = b.vid x y := rfl
@[simp] theorem Block.modCad_bound (f : Cadence → Cadence) (x : Nat) : (b.modCad f).bound x = b.bound x := rfl
@[simp] theorem Block.modCad_pool (f : Cadence → Cadence) (x : Nat) : (b.modCad f).pool x = b.pool x := rfl
@[simp] theorem Block.modCad_port (f : Cadence → Cadence) (x : Nat) : (b.modCad f).port x = b.port x := rfl
@[simp] theorem Block.modCad_wearOf (f : Cadence → Cadence) (x y : Nat) : (b.modCad f).wearOf x y = b.wearOf x y := rfl
@[simp] theorem Block.modCad_stampOf (f : Cadence → Cadence) (x : Nat) : (b.modCad f).stampOf x = b.stampOf x := rfl
@[simp] theorem Block.modCad_tbuf (f : Cadence → Cadence) (x : Nat) : (b.modCad f).tbuf x = b.tbuf x := rfl
@[simp] theorem Block.modCad_bp (f : Cadence → Cadence) (x : Nat) : (b.modCad f).bp x = b.bp x := rfl
@[simp] theorem Block.modCad_sem (f : Cadence → Cadence) (x : Nat) : (b.modCad f).sem x = b.sem x := rfl
@[simp] theorem Block.modCad_mcore (f : Cadence → Cadence) (x : Nat) : (b.modCad f).mcore x = b.mcore x := rfl
@[simp] theorem Block.modCad_word48 (f : Cadence → Cadence) (x y : Nat) : (b.modCad f).word48 x y = b.word48 x y := rfl
@[simp] theorem Block.modCad_cmdQ (f : Cadence → Cadence) (x y : Nat) : (b.modCad f).cmd? x y = b.cmd? x y := rfl
@[simp] theorem Block.modCad_taskQ (f : Cadence → Cadence) (x y : Nat) : (b.modCad f).task? x y = b.task? x y := rfl

@[simp] theorem Block.ccMod_reg (f : Coherence → Coherence) (x : Nat) : (b.ccMod f).reg x = b.reg x := rfl
@[simp] theorem Block.ccMod_ctx (f : Coherence → Coherence) (x : Nat) : (b.ccMod f).ctx x = b.ctx x := rfl
@[simp] theorem Block.ccMod_queue (f : Coherence → Coherence) (x : Nat) : (b.ccMod f).queue x = b.queue x := rfl
@[simp] theorem Block.ccMod_harness (f : Coherence → Coherence) (x : Nat) : (b.ccMod f).harness x = b.harness x := rfl
@[simp] theorem Block.ccMod_eng (f : Coherence → Coherence) (x : Nat) : (b.ccMod f).eng x = b.eng x := rfl
@[simp] theorem Block.ccMod_slot (f : Coherence → Coherence) (x : Nat) : (b.ccMod f).slot x = b.slot x := rfl
@[simp] theorem Block.ccMod_vid (f : Coherence → Coherence) (x y : Nat) : (b.ccMod f).vid x y = b.vid x y := rfl
@[simp] theorem Block.ccMod_bound (f : Coherence → Coherence) (x : Nat) : (b.ccMod f).bound x = b.bound x := rfl
@[simp] theorem Block.ccMod_pool (f : Coherence → Coherence) (x : Nat) : (b.ccMod f).pool x = b.pool x := rfl
@[simp] theorem Block.ccMod_port (f : Coherence → Coherence) (x : Nat) : (b.ccMod f).port x = b.port x := rfl
@[simp] theorem Block.ccMod_wearOf (f : Coherence → Coherence) (x y : Nat) : (b.ccMod f).wearOf x y = b.wearOf x y := rfl
@[simp] theorem Block.ccMod_stampOf (f : Coherence → Coherence) (x : Nat) : (b.ccMod f).stampOf x = b.stampOf x := rfl
@[simp] theorem Block.ccMod_tbuf (f : Coherence → Coherence) (x : Nat) : (b.ccMod f).tbuf x = b.tbuf x := rfl
@[simp] theorem Block.ccMod_bp (f : Coherence → Coherence) (x : Nat) : (b.ccMod f).bp x = b.bp x := rfl
@[simp] theorem Block.ccMod_sem (f : Coherence → Coherence) (x : Nat) : (b.ccMod f).sem x = b.sem x := rfl
@[simp] theorem Block.ccMod_mcore (f : Coherence → Coherence) (x : Nat) : (b.ccMod f).mcore x = b.mcore x := rfl
@[simp] theorem Block.ccMod_word48 (f : Coherence → Coherence) (x y : Nat) : (b.ccMod f).word48 x y = b.word48 x y := rfl
@[simp] theorem Block.ccMod_cmdQ (f : Coherence → Coherence) (x y : Nat) : (b.ccMod f).cmd? x y = b.cmd? x y := rfl
@[simp] theorem Block.ccMod_taskQ (f : Coherence → Coherence) (x y : Nat) : (b.ccMod f).task? x y = b.task? x y := rfl

@[simp] theorem Block.mcMod_reg (f : Microcode → Microcode) (x : Nat) : (b.mcMod f).reg x = b.reg x := rfl
@[simp] theorem Block.mcMod_ctx (f : Microcode → Microcode) (x : Nat) : (b.mcMod f).ctx x = b.ctx x := rfl
@[simp] theorem Block.mcMod_queue (f : Microcode → Microcode) (x : Nat) : (b.mcMod f).queue x = b.queue x := rfl
@[simp] theorem Block.mcMod_harness (f : Microcode → Microcode) (x : Nat) : (b.mcMod f).harness x = b.harness x := rfl
@[simp] theorem Block.mcMod_eng (f : Microcode → Microcode) (x : Nat) : (b.mcMod f).eng x = b.eng x := rfl
@[simp] theorem Block.mcMod_slot (f : Microcode → Microcode) (x : Nat) : (b.mcMod f).slot x = b.slot x := rfl
@[simp] theorem Block.mcMod_vid (f : Microcode → Microcode) (x y : Nat) : (b.mcMod f).vid x y = b.vid x y := rfl
@[simp] theorem Block.mcMod_bound (f : Microcode → Microcode) (x : Nat) : (b.mcMod f).bound x = b.bound x := rfl
@[simp] theorem Block.mcMod_pool (f : Microcode → Microcode) (x : Nat) : (b.mcMod f).pool x = b.pool x := rfl
@[simp] theorem Block.mcMod_port (f : Microcode → Microcode) (x : Nat) : (b.mcMod f).port x = b.port x := rfl
@[simp] theorem Block.mcMod_wearOf (f : Microcode → Microcode) (x y : Nat) : (b.mcMod f).wearOf x y = b.wearOf x y := rfl
@[simp] theorem Block.mcMod_stampOf (f : Microcode → Microcode) (x : Nat) : (b.mcMod f).stampOf x = b.stampOf x := rfl
@[simp] theorem Block.mcMod_tbuf (f : Microcode → Microcode) (x : Nat) : (b.mcMod f).tbuf x = b.tbuf x := rfl
@[simp] theorem Block.mcMod_bp (f : Microcode → Microcode) (x : Nat) : (b.mcMod f).bp x = b.bp x := rfl
@[simp] theorem Block.mcMod_sem (f : Microcode → Microcode) (x : Nat) : (b.mcMod f).sem x = b.sem x := rfl
@[simp] theorem Block.mcMod_mcore (f : Microcode → Microcode) (x : Nat) : (b.mcMod f).mcore x = b.mcore x := rfl
@[simp] theorem Block.mcMod_word48 (f : Microcode → Microcode) (x y : Nat) : (b.mcMod f).word48 x y = b.word48 x y := rfl
@[simp] theorem Block.mcMod_cmdQ (f : Microcode → Microcode) (x y : Nat) : (b.mcMod f).cmd? x y = b.cmd? x y := rfl
@[simp] theorem Block.mcMod_taskQ (f : Microcode → Microcode) (x y : Nat) : (b.mcMod f).task? x y = b.task? x y := rfl

@[simp] theorem Block.ledgerTerm_reg (f : Ledger → Ledger) (x : Nat) : (b.ledgerTerm f).reg x = b.reg x := rfl
@[simp] theorem Block.ledgerTerm_ctx (f : Ledger → Ledger) (x : Nat) : (b.ledgerTerm f).ctx x = b.ctx x := rfl
@[simp] theorem Block.ledgerTerm_queue (f : Ledger → Ledger) (x : Nat) : (b.ledgerTerm f).queue x = b.queue x := rfl
@[simp] theorem Block.ledgerTerm_harness (f : Ledger → Ledger) (x : Nat) : (b.ledgerTerm f).harness x = b.harness x := rfl
@[simp] theorem Block.ledgerTerm_eng (f : Ledger → Ledger) (x : Nat) : (b.ledgerTerm f).eng x = b.eng x := rfl
@[simp] theorem Block.ledgerTerm_slot (f : Ledger → Ledger) (x : Nat) : (b.ledgerTerm f).slot x = b.slot x := rfl
@[simp] theorem Block.ledgerTerm_vid (f : Ledger → Ledger) (x y : Nat) : (b.ledgerTerm f).vid x y = b.vid x y := rfl
@[simp] theorem Block.ledgerTerm_bound (f : Ledger → Ledger) (x : Nat) : (b.ledgerTerm f).bound x = b.bound x := rfl
@[simp] theorem Block.ledgerTerm_pool (f : Ledger → Ledger) (x : Nat) : (b.ledgerTerm f).pool x = b.pool x := rfl
@[simp] theorem Block.ledgerTerm_port (f : Ledger → Ledger) (x : Nat) : (b.ledgerTerm f).port x = b.port x := rfl
@[simp] theorem Block.ledgerTerm_wearOf (f : Ledger → Ledger) (x y : Nat) : (b.ledgerTerm f).wearOf x y = b.wearOf x y := rfl
@[simp] theorem Block.ledgerTerm_stampOf (f : Ledger → Ledger) (x : Nat) : (b.ledgerTerm f).stampOf x = b.stampOf x := rfl
@[simp] theorem Block.ledgerTerm_tbuf (f : Ledger → Ledger) (x : Nat) : (b.ledgerTerm f).tbuf x = b.tbuf x := rfl
@[simp] theorem Block.ledgerTerm_bp (f : Ledger → Ledger) (x : Nat) : (b.ledgerTerm f).bp x = b.bp x := rfl
@[simp] theorem Block.ledgerTerm_sem (f : Ledger → Ledger) (x : Nat) : (b.ledgerTerm f).sem x = b.sem x := rfl
@[simp] theorem Block.ledgerTerm_mcore (f : Ledger → Ledger) (x : Nat) : (b.ledgerTerm f).mcore x = b.mcore x := rfl
@[simp] theorem Block.ledgerTerm_word48 (f : Ledger → Ledger) (x y : Nat) : (b.ledgerTerm f).word48 x y = b.word48 x y := rfl
@[simp] theorem Block.ledgerTerm_cmdQ (f : Ledger → Ledger) (x y : Nat) : (b.ledgerTerm f).cmd? x y = b.cmd? x y := rfl
@[simp] theorem Block.ledgerTerm_taskQ (f : Ledger → Ledger) (x y : Nat) : (b.ledgerTerm f).task? x y = b.task? x y := rfl

@[simp] theorem Block.modPwr_reg (f : PwrSeq → PwrSeq) (x : Nat) : (b.modPwr f).reg x = b.reg x := rfl
@[simp] theorem Block.modPwr_ctx (f : PwrSeq → PwrSeq) (x : Nat) : (b.modPwr f).ctx x = b.ctx x := rfl
@[simp] theorem Block.modPwr_queue (f : PwrSeq → PwrSeq) (x : Nat) : (b.modPwr f).queue x = b.queue x := rfl
@[simp] theorem Block.modPwr_harness (f : PwrSeq → PwrSeq) (x : Nat) : (b.modPwr f).harness x = b.harness x := rfl
@[simp] theorem Block.modPwr_eng (f : PwrSeq → PwrSeq) (x : Nat) : (b.modPwr f).eng x = b.eng x := rfl
@[simp] theorem Block.modPwr_slot (f : PwrSeq → PwrSeq) (x : Nat) : (b.modPwr f).slot x = b.slot x := rfl
@[simp] theorem Block.modPwr_vid (f : PwrSeq → PwrSeq) (x y : Nat) : (b.modPwr f).vid x y = b.vid x y := rfl
@[simp] theorem Block.modPwr_bound (f : PwrSeq → PwrSeq) (x : Nat) : (b.modPwr f).bound x = b.bound x := rfl
@[simp] theorem Block.modPwr_pool (f : PwrSeq → PwrSeq) (x : Nat) : (b.modPwr f).pool x = b.pool x := rfl
@[simp] theorem Block.modPwr_port (f : PwrSeq → PwrSeq) (x : Nat) : (b.modPwr f).port x = b.port x := rfl
@[simp] theorem Block.modPwr_wearOf (f : PwrSeq → PwrSeq) (x y : Nat) : (b.modPwr f).wearOf x y = b.wearOf x y := rfl
@[simp] theorem Block.modPwr_stampOf (f : PwrSeq → PwrSeq) (x : Nat) : (b.modPwr f).stampOf x = b.stampOf x := rfl
@[simp] theorem Block.modPwr_tbuf (f : PwrSeq → PwrSeq) (x : Nat) : (b.modPwr f).tbuf x = b.tbuf x := rfl
@[simp] theorem Block.modPwr_bp (f : PwrSeq → PwrSeq) (x : Nat) : (b.modPwr f).bp x = b.bp x := rfl
@[simp] theorem Block.modPwr_sem (f : PwrSeq → PwrSeq) (x : Nat) : (b.modPwr f).sem x = b.sem x := rfl
@[simp] theorem Block.modPwr_mcore (f : PwrSeq → PwrSeq) (x : Nat) : (b.modPwr f).mcore x = b.mcore x := rfl
@[simp] theorem Block.modPwr_word48 (f : PwrSeq → PwrSeq) (x y : Nat) : (b.modPwr f).word48 x y = b.word48 x y := rfl
@[simp] theorem Block.modPwr_cmdQ (f : PwrSeq → PwrSeq) (x y : Nat) : (b.modPwr f).cmd? x y = b.cmd? x y := rfl
@[simp] theorem Block.modPwr_taskQ (f : PwrSeq → PwrSeq) (x y : Nat) : (b.modPwr f).task? x y = b.task? x y := rfl

@[simp] theorem Block.answer_reg (v : Nat) (x : Nat) : (b.answer v).reg x = b.reg x := rfl
@[simp] theorem Block.answer_ctx (v : Nat) (x : Nat) : (b.answer v).ctx x = b.ctx x := rfl
@[simp] theorem Block.answer_queue (v : Nat) (x : Nat) : (b.answer v).queue x = b.queue x := rfl
@[simp] theorem Block.answer_harness (v : Nat) (x : Nat) : (b.answer v).harness x = b.harness x := rfl
@[simp] theorem Block.answer_eng (v : Nat) (x : Nat) : (b.answer v).eng x = b.eng x := rfl
@[simp] theorem Block.answer_slot (v : Nat) (x : Nat) : (b.answer v).slot x = b.slot x := rfl
@[simp] theorem Block.answer_vid (v : Nat) (x y : Nat) : (b.answer v).vid x y = b.vid x y := rfl
@[simp] theorem Block.answer_bound (v : Nat) (x : Nat) : (b.answer v).bound x = b.bound x := rfl
@[simp] theorem Block.answer_pool (v : Nat) (x : Nat) : (b.answer v).pool x = b.pool x := rfl
@[simp] theorem Block.answer_port (v : Nat) (x : Nat) : (b.answer v).port x = b.port x := rfl
@[simp] theorem Block.answer_wearOf (v : Nat) (x y : Nat) : (b.answer v).wearOf x y = b.wearOf x y := rfl
@[simp] theorem Block.answer_stampOf (v : Nat) (x : Nat) : (b.answer v).stampOf x = b.stampOf x := rfl
@[simp] theorem Block.answer_tbuf (v : Nat) (x : Nat) : (b.answer v).tbuf x = b.tbuf x := rfl
@[simp] theorem Block.answer_bp (v : Nat) (x : Nat) : (b.answer v).bp x = b.bp x := rfl
@[simp] theorem Block.answer_sem (v : Nat) (x : Nat) : (b.answer v).sem x = b.sem x := rfl
@[simp] theorem Block.answer_mcore (v : Nat) (x : Nat) : (b.answer v).mcore x = b.mcore x := rfl
@[simp] theorem Block.answer_word48 (v : Nat) (x y : Nat) : (b.answer v).word48 x y = b.word48 x y := rfl
@[simp] theorem Block.answer_cmdQ (v : Nat) (x y : Nat) : (b.answer v).cmd? x y = b.cmd? x y := rfl
@[simp] theorem Block.answer_taskQ (v : Nat) (x y : Nat) : (b.answer v).task? x y = b.task? x y := rfl

/-! ### Fields -/

@[simp] theorem Block.setReg_field_straps (a v : Nat) : (b.setReg a v).straps = b.straps := rfl
@[simp] theorem Block.setReg_field_pins (a v : Nat) : (b.setReg a v).pins = b.pins := rfl
@[simp] theorem Block.setReg_field_st (a v : Nat) : (b.setReg a v).st = b.st := rfl
@[simp] theorem Block.setReg_field_roleSet (a v : Nat) : (b.setReg a v).roleSet = b.roleSet := rfl
@[simp] theorem Block.setReg_field_chipId (a v : Nat) : (b.setReg a v).chipId = b.chipId := rfl
@[simp] theorem Block.setReg_field_zclk (a v : Nat) : (b.setReg a v).zclk = b.zclk := rfl
@[simp] theorem Block.setReg_field_aonClk (a v : Nat) : (b.setReg a v).aonClk = b.aonClk := rfl
@[simp] theorem Block.setReg_field_fabric (a v : Nat) : (b.setReg a v).fabric = b.fabric := rfl
@[simp] theorem Block.setReg_field_freeCount (a v : Nat) : (b.setReg a v).freeCount = b.freeCount := rfl
@[simp] theorem Block.setReg_field_readData (a v : Nat) : (b.setReg a v).readData = b.readData := rfl
@[simp] theorem Block.setReg_field_staged (a v : Nat) : (b.setReg a v).staged = b.staged := rfl
@[simp] theorem Block.setReg_field_nowLatch (a v : Nat) : (b.setReg a v).nowLatch = b.nowLatch := rfl
@[simp] theorem Block.setReg_field_sems (a v : Nat) : (b.setReg a v).sems = b.sems := rfl
@[simp] theorem Block.setReg_field_hiu (a v : Nat) : (b.setReg a v).hiu = b.hiu := rfl
@[simp] theorem Block.setReg_field_armed (a v : Nat) : (b.setReg a v).armed = b.armed := rfl
@[simp] theorem Block.setReg_field_capt (a v : Nat) : (b.setReg a v).capt = b.capt := rfl
@[simp] theorem Block.setReg_field_tableGen (a v : Nat) : (b.setReg a v).tableGen = b.tableGen := rfl
@[simp] theorem Block.setReg_field_ctxs (a v : Nat) : (b.setReg a v).ctxs = b.ctxs := rfl
@[simp] theorem Block.setReg_field_queues (a v : Nat) : (b.setReg a v).queues = b.queues := rfl
@[simp] theorem Block.setReg_field_cmds (a v : Nat) : (b.setReg a v).cmds = b.cmds := rfl
@[simp] theorem Block.setReg_field_harnesses (a v : Nat) : (b.setReg a v).harnesses = b.harnesses := rfl
@[simp] theorem Block.setReg_field_engines (a v : Nat) : (b.setReg a v).engines = b.engines := rfl
@[simp] theorem Block.setReg_field_tasks (a v : Nat) : (b.setReg a v).tasks = b.tasks := rfl
@[simp] theorem Block.setReg_field_groups (a v : Nat) : (b.setReg a v).groups = b.groups := rfl
@[simp] theorem Block.setReg_field_lastLight (a v : Nat) : (b.setReg a v).lastLight = b.lastLight := rfl
@[simp] theorem Block.setReg_field_lastWake (a v : Nat) : (b.setReg a v).lastWake = b.lastWake := rfl
@[simp] theorem Block.setReg_field_dev (a v : Nat) : (b.setReg a v).dev = b.dev := rfl
@[simp] theorem Block.setReg_field_host (a v : Nat) : (b.setReg a v).host = b.host := rfl
@[simp] theorem Block.setReg_field_spm (a v : Nat) : (b.setReg a v).spm = b.spm := rfl
@[simp] theorem Block.setReg_field_ssc (a v : Nat) : (b.setReg a v).ssc = b.ssc := rfl
@[simp] theorem Block.setReg_field_chanOk (a v : Nat) : (b.setReg a v).chanOk = b.chanOk := rfl
@[simp] theorem Block.setReg_field_capMb (a v : Nat) : (b.setReg a v).capMb = b.capMb := rfl
@[simp] theorem Block.setReg_field_layChan (a v : Nat) : (b.setReg a v).layChan = b.layChan := rfl
@[simp] theorem Block.setReg_field_layMb (a v : Nat) : (b.setReg a v).layMb = b.layMb := rfl
@[simp] theorem Block.setReg_field_slots (a v : Nat) : (b.setReg a v).slots = b.slots := rfl
@[simp] theorem Block.setReg_field_vids (a v : Nat) : (b.setReg a v).vids = b.vids := rfl
@[simp] theorem Block.setReg_field_impBusy (a v : Nat) : (b.setReg a v).impBusy = b.impBusy := rfl
@[simp] theorem Block.setReg_field_waiters (a v : Nat) : (b.setReg a v).waiters = b.waiters := rfl
@[simp] theorem Block.setReg_field_waitHold (a v : Nat) : (b.setReg a v).waitHold = b.waitHold := rfl
@[simp] theorem Block.setReg_field_bounds (a v : Nat) : (b.setReg a v).bounds = b.bounds := rfl
@[simp] theorem Block.setReg_field_heldSigs (a v : Nat) : (b.setReg a v).heldSigs = b.heldSigs := rfl
@[simp] theorem Block.setReg_field_versions (a v : Nat) : (b.setReg a v).versions = b.versions := rfl
@[simp] theorem Block.setReg_field_lastEpoch (a v : Nat) : (b.setReg a v).lastEpoch = b.lastEpoch := rfl
@[simp] theorem Block.setReg_field_retired (a v : Nat) : (b.setReg a v).retired = b.retired := rfl
@[simp] theorem Block.setReg_field_descHold (a v : Nat) : (b.setReg a v).descHold = b.descHold := rfl
@[simp] theorem Block.setReg_field_lanes (a v : Nat) : (b.setReg a v).lanes = b.lanes := rfl
@[simp] theorem Block.setReg_field_maps (a v : Nat) : (b.setReg a v).maps = b.maps := rfl
@[simp] theorem Block.setReg_field_nextMap (a v : Nat) : (b.setReg a v).nextMap = b.nextMap := rfl
@[simp] theorem Block.setReg_field_boot (a v : Nat) : (b.setReg a v).boot = b.boot := rfl
@[simp] theorem Block.setReg_field_rangeCache (a v : Nat) : (b.setReg a v).rangeCache = b.rangeCache := rfl
@[simp] theorem Block.setReg_field_pageCache (a v : Nat) : (b.setReg a v).pageCache = b.pageCache := rfl
@[simp] theorem Block.setReg_field_atsCache (a v : Nat) : (b.setReg a v).atsCache = b.atsCache := rfl
@[simp] theorem Block.setReg_field_atsAsked (a v : Nat) : (b.setReg a v).atsAsked = b.atsAsked := rfl
@[simp] theorem Block.setReg_field_walks (a v : Nat) : (b.setReg a v).walks = b.walks := rfl
@[simp] theorem Block.setReg_field_faults (a v : Nat) : (b.setReg a v).faults = b.faults := rfl
@[simp] theorem Block.setReg_field_faultWait (a v : Nat) : (b.setReg a v).faultWait = b.faultWait := rfl
@[simp] theorem Block.setReg_field_advices (a v : Nat) : (b.setReg a v).advices = b.advices := rfl
@[simp] theorem Block.setReg_field_pools (a v : Nat) : (b.setReg a v).pools = b.pools := rfl
@[simp] theorem Block.setReg_field_fcrBase (a v : Nat) : (b.setReg a v).fcrBase = b.fcrBase := rfl
@[simp] theorem Block.setReg_field_fcrWait (a v : Nat) : (b.setReg a v).fcrWait = b.fcrWait := rfl
@[simp] theorem Block.setReg_field_fcrStuck (a v : Nat) : (b.setReg a v).fcrStuck = b.fcrStuck := rfl
@[simp] theorem Block.setReg_field_fcrFull (a v : Nat) : (b.setReg a v).fcrFull = b.fcrFull := rfl
@[simp] theorem Block.setReg_field_tabFrames (a v : Nat) : (b.setReg a v).tabFrames = b.tabFrames := rfl
@[simp] theorem Block.setReg_field_invBusy (a v : Nat) : (b.setReg a v).invBusy = b.invBusy := rfl
@[simp] theorem Block.setReg_field_atsInvs (a v : Nat) : (b.setReg a v).atsInvs = b.atsInvs := rfl
@[simp] theorem Block.setReg_field_ledger (a v : Nat) : (b.setReg a v).ledger = b.ledger := rfl
@[simp] theorem Block.setReg_field_cad (a v : Nat) : (b.setReg a v).cad = b.cad := rfl
@[simp] theorem Block.setReg_field_ll (a v : Nat) : (b.setReg a v).ll = b.ll := rfl
@[simp] theorem Block.setReg_field_micro (a v : Nat) : (b.setReg a v).micro = b.micro := rfl
@[simp] theorem Block.setReg_field_store (a v : Nat) : (b.setReg a v).store = b.store := rfl
@[simp] theorem Block.setReg_field_mc (a v : Nat) : (b.setReg a v).mc = b.mc := rfl
@[simp] theorem Block.setReg_field_coh (a v : Nat) : (b.setReg a v).coh = b.coh := rfl
@[simp] theorem Block.setReg_field_ports (a v : Nat) : (b.setReg a v).ports = b.ports := rfl
@[simp] theorem Block.setReg_field_sync (a v : Nat) : (b.setReg a v).sync = b.sync := rfl
@[simp] theorem Block.setReg_field_seen (a v : Nat) : (b.setReg a v).seen = b.seen := rfl
@[simp] theorem Block.setReg_field_linkNotes (a v : Nat) : (b.setReg a v).linkNotes = b.linkNotes := rfl
@[simp] theorem Block.setReg_field_order (a v : Nat) : (b.setReg a v).order = b.order := rfl
@[simp] theorem Block.setReg_field_l3Done (a v : Nat) : (b.setReg a v).l3Done = b.l3Done := rfl
@[simp] theorem Block.setReg_field_stallBusy (a v : Nat) : (b.setReg a v).stallBusy = b.stallBusy := rfl
@[simp] theorem Block.setReg_field_pwr (a v : Nat) : (b.setReg a v).pwr = b.pwr := rfl
@[simp] theorem Block.setReg_field_wdCycles (a v : Nat) : (b.setReg a v).wdCycles = b.wdCycles := rfl
@[simp] theorem Block.setReg_field_poison (a v : Nat) : (b.setReg a v).poison = b.poison := rfl
@[simp] theorem Block.setReg_field_retry (a v : Nat) : (b.setReg a v).retry = b.retry := rfl
@[simp] theorem Block.setReg_field_held (a v : Nat) : (b.setReg a v).held = b.held := rfl
@[simp] theorem Block.setReg_field_wear (a v : Nat) : (b.setReg a v).wear = b.wear := rfl
@[simp] theorem Block.setReg_field_swapping (a v : Nat) : (b.setReg a v).swapping = b.swapping := rfl
@[simp] theorem Block.setReg_field_retireReq (a v : Nat) : (b.setReg a v).retireReq = b.retireReq := rfl
@[simp] theorem Block.setReg_field_stamps (a v : Nat) : (b.setReg a v).stamps = b.stamps := rfl
@[simp] theorem Block.setReg_field_trace (a v : Nat) : (b.setReg a v).trace = b.trace := rfl
@[simp] theorem Block.setReg_field_bps (a v : Nat) : (b.setReg a v).bps = b.bps := rfl
@[simp] theorem Block.setReg_field_stop (a v : Nat) : (b.setReg a v).stop = b.stop := rfl
@[simp] theorem Block.setReg_field_occ (a v : Nat) : (b.setReg a v).occ = b.occ := rfl
@[simp] theorem Block.setReg_field_cinder (a v : Nat) : (b.setReg a v).cinder = b.cinder := rfl
@[simp] theorem Block.setReg_field_fpDest (a v : Nat) : (b.setReg a v).fpDest = b.fpDest := rfl
@[simp] theorem Block.setReg_field_fabricOut (a v : Nat) : (b.setReg a v).fabricOut = b.fabricOut := rfl
@[simp] theorem Block.setReg_field_secOut (a v : Nat) : (b.setReg a v).secOut = b.secOut := rfl
@[simp] theorem Block.setReg_field_cycFrac (a v : Nat) : (b.setReg a v).cycFrac = b.cycFrac := rfl

@[simp] theorem Block.setCtx_field_straps (k : Nat) (v : Ctx) : (b.setCtx k v).straps = b.straps := rfl
@[simp] theorem Block.setCtx_field_pins (k : Nat) (v : Ctx) : (b.setCtx k v).pins = b.pins := rfl
@[simp] theorem Block.setCtx_field_st (k : Nat) (v : Ctx) : (b.setCtx k v).st = b.st := rfl
@[simp] theorem Block.setCtx_field_roleSet (k : Nat) (v : Ctx) : (b.setCtx k v).roleSet = b.roleSet := rfl
@[simp] theorem Block.setCtx_field_chipId (k : Nat) (v : Ctx) : (b.setCtx k v).chipId = b.chipId := rfl
@[simp] theorem Block.setCtx_field_zclk (k : Nat) (v : Ctx) : (b.setCtx k v).zclk = b.zclk := rfl
@[simp] theorem Block.setCtx_field_aonClk (k : Nat) (v : Ctx) : (b.setCtx k v).aonClk = b.aonClk := rfl
@[simp] theorem Block.setCtx_field_fabric (k : Nat) (v : Ctx) : (b.setCtx k v).fabric = b.fabric := rfl
@[simp] theorem Block.setCtx_field_freeCount (k : Nat) (v : Ctx) : (b.setCtx k v).freeCount = b.freeCount := rfl
@[simp] theorem Block.setCtx_field_readData (k : Nat) (v : Ctx) : (b.setCtx k v).readData = b.readData := rfl
@[simp] theorem Block.setCtx_field_regs (k : Nat) (v : Ctx) : (b.setCtx k v).regs = b.regs := rfl
@[simp] theorem Block.setCtx_field_staged (k : Nat) (v : Ctx) : (b.setCtx k v).staged = b.staged := rfl
@[simp] theorem Block.setCtx_field_nowLatch (k : Nat) (v : Ctx) : (b.setCtx k v).nowLatch = b.nowLatch := rfl
@[simp] theorem Block.setCtx_field_sems (k : Nat) (v : Ctx) : (b.setCtx k v).sems = b.sems := rfl
@[simp] theorem Block.setCtx_field_hiu (k : Nat) (v : Ctx) : (b.setCtx k v).hiu = b.hiu := rfl
@[simp] theorem Block.setCtx_field_armed (k : Nat) (v : Ctx) : (b.setCtx k v).armed = b.armed := rfl
@[simp] theorem Block.setCtx_field_capt (k : Nat) (v : Ctx) : (b.setCtx k v).capt = b.capt := rfl
@[simp] theorem Block.setCtx_field_tableGen (k : Nat) (v : Ctx) : (b.setCtx k v).tableGen = b.tableGen := rfl
@[simp] theorem Block.setCtx_field_queues (k : Nat) (v : Ctx) : (b.setCtx k v).queues = b.queues := rfl
@[simp] theorem Block.setCtx_field_cmds (k : Nat) (v : Ctx) : (b.setCtx k v).cmds = b.cmds := rfl
@[simp] theorem Block.setCtx_field_harnesses (k : Nat) (v : Ctx) : (b.setCtx k v).harnesses = b.harnesses := rfl
@[simp] theorem Block.setCtx_field_engines (k : Nat) (v : Ctx) : (b.setCtx k v).engines = b.engines := rfl
@[simp] theorem Block.setCtx_field_tasks (k : Nat) (v : Ctx) : (b.setCtx k v).tasks = b.tasks := rfl
@[simp] theorem Block.setCtx_field_groups (k : Nat) (v : Ctx) : (b.setCtx k v).groups = b.groups := rfl
@[simp] theorem Block.setCtx_field_lastLight (k : Nat) (v : Ctx) : (b.setCtx k v).lastLight = b.lastLight := rfl
@[simp] theorem Block.setCtx_field_lastWake (k : Nat) (v : Ctx) : (b.setCtx k v).lastWake = b.lastWake := rfl
@[simp] theorem Block.setCtx_field_dev (k : Nat) (v : Ctx) : (b.setCtx k v).dev = b.dev := rfl
@[simp] theorem Block.setCtx_field_host (k : Nat) (v : Ctx) : (b.setCtx k v).host = b.host := rfl
@[simp] theorem Block.setCtx_field_spm (k : Nat) (v : Ctx) : (b.setCtx k v).spm = b.spm := rfl
@[simp] theorem Block.setCtx_field_ssc (k : Nat) (v : Ctx) : (b.setCtx k v).ssc = b.ssc := rfl
@[simp] theorem Block.setCtx_field_chanOk (k : Nat) (v : Ctx) : (b.setCtx k v).chanOk = b.chanOk := rfl
@[simp] theorem Block.setCtx_field_capMb (k : Nat) (v : Ctx) : (b.setCtx k v).capMb = b.capMb := rfl
@[simp] theorem Block.setCtx_field_layChan (k : Nat) (v : Ctx) : (b.setCtx k v).layChan = b.layChan := rfl
@[simp] theorem Block.setCtx_field_layMb (k : Nat) (v : Ctx) : (b.setCtx k v).layMb = b.layMb := rfl
@[simp] theorem Block.setCtx_field_slots (k : Nat) (v : Ctx) : (b.setCtx k v).slots = b.slots := rfl
@[simp] theorem Block.setCtx_field_vids (k : Nat) (v : Ctx) : (b.setCtx k v).vids = b.vids := rfl
@[simp] theorem Block.setCtx_field_impBusy (k : Nat) (v : Ctx) : (b.setCtx k v).impBusy = b.impBusy := rfl
@[simp] theorem Block.setCtx_field_waiters (k : Nat) (v : Ctx) : (b.setCtx k v).waiters = b.waiters := rfl
@[simp] theorem Block.setCtx_field_waitHold (k : Nat) (v : Ctx) : (b.setCtx k v).waitHold = b.waitHold := rfl
@[simp] theorem Block.setCtx_field_bounds (k : Nat) (v : Ctx) : (b.setCtx k v).bounds = b.bounds := rfl
@[simp] theorem Block.setCtx_field_heldSigs (k : Nat) (v : Ctx) : (b.setCtx k v).heldSigs = b.heldSigs := rfl
@[simp] theorem Block.setCtx_field_versions (k : Nat) (v : Ctx) : (b.setCtx k v).versions = b.versions := rfl
@[simp] theorem Block.setCtx_field_lastEpoch (k : Nat) (v : Ctx) : (b.setCtx k v).lastEpoch = b.lastEpoch := rfl
@[simp] theorem Block.setCtx_field_retired (k : Nat) (v : Ctx) : (b.setCtx k v).retired = b.retired := rfl
@[simp] theorem Block.setCtx_field_descHold (k : Nat) (v : Ctx) : (b.setCtx k v).descHold = b.descHold := rfl
@[simp] theorem Block.setCtx_field_lanes (k : Nat) (v : Ctx) : (b.setCtx k v).lanes = b.lanes := rfl
@[simp] theorem Block.setCtx_field_maps (k : Nat) (v : Ctx) : (b.setCtx k v).maps = b.maps := rfl
@[simp] theorem Block.setCtx_field_nextMap (k : Nat) (v : Ctx) : (b.setCtx k v).nextMap = b.nextMap := rfl
@[simp] theorem Block.setCtx_field_boot (k : Nat) (v : Ctx) : (b.setCtx k v).boot = b.boot := rfl
@[simp] theorem Block.setCtx_field_rangeCache (k : Nat) (v : Ctx) : (b.setCtx k v).rangeCache = b.rangeCache := rfl
@[simp] theorem Block.setCtx_field_pageCache (k : Nat) (v : Ctx) : (b.setCtx k v).pageCache = b.pageCache := rfl
@[simp] theorem Block.setCtx_field_atsCache (k : Nat) (v : Ctx) : (b.setCtx k v).atsCache = b.atsCache := rfl
@[simp] theorem Block.setCtx_field_atsAsked (k : Nat) (v : Ctx) : (b.setCtx k v).atsAsked = b.atsAsked := rfl
@[simp] theorem Block.setCtx_field_walks (k : Nat) (v : Ctx) : (b.setCtx k v).walks = b.walks := rfl
@[simp] theorem Block.setCtx_field_faults (k : Nat) (v : Ctx) : (b.setCtx k v).faults = b.faults := rfl
@[simp] theorem Block.setCtx_field_faultWait (k : Nat) (v : Ctx) : (b.setCtx k v).faultWait = b.faultWait := rfl
@[simp] theorem Block.setCtx_field_advices (k : Nat) (v : Ctx) : (b.setCtx k v).advices = b.advices := rfl
@[simp] theorem Block.setCtx_field_pools (k : Nat) (v : Ctx) : (b.setCtx k v).pools = b.pools := rfl
@[simp] theorem Block.setCtx_field_fcrBase (k : Nat) (v : Ctx) : (b.setCtx k v).fcrBase = b.fcrBase := rfl
@[simp] theorem Block.setCtx_field_fcrWait (k : Nat) (v : Ctx) : (b.setCtx k v).fcrWait = b.fcrWait := rfl
@[simp] theorem Block.setCtx_field_fcrStuck (k : Nat) (v : Ctx) : (b.setCtx k v).fcrStuck = b.fcrStuck := rfl
@[simp] theorem Block.setCtx_field_fcrFull (k : Nat) (v : Ctx) : (b.setCtx k v).fcrFull = b.fcrFull := rfl
@[simp] theorem Block.setCtx_field_tabFrames (k : Nat) (v : Ctx) : (b.setCtx k v).tabFrames = b.tabFrames := rfl
@[simp] theorem Block.setCtx_field_invBusy (k : Nat) (v : Ctx) : (b.setCtx k v).invBusy = b.invBusy := rfl
@[simp] theorem Block.setCtx_field_atsInvs (k : Nat) (v : Ctx) : (b.setCtx k v).atsInvs = b.atsInvs := rfl
@[simp] theorem Block.setCtx_field_ledger (k : Nat) (v : Ctx) : (b.setCtx k v).ledger = b.ledger := rfl
@[simp] theorem Block.setCtx_field_cad (k : Nat) (v : Ctx) : (b.setCtx k v).cad = b.cad := rfl
@[simp] theorem Block.setCtx_field_ll (k : Nat) (v : Ctx) : (b.setCtx k v).ll = b.ll := rfl
@[simp] theorem Block.setCtx_field_micro (k : Nat) (v : Ctx) : (b.setCtx k v).micro = b.micro := rfl
@[simp] theorem Block.setCtx_field_store (k : Nat) (v : Ctx) : (b.setCtx k v).store = b.store := rfl
@[simp] theorem Block.setCtx_field_mc (k : Nat) (v : Ctx) : (b.setCtx k v).mc = b.mc := rfl
@[simp] theorem Block.setCtx_field_coh (k : Nat) (v : Ctx) : (b.setCtx k v).coh = b.coh := rfl
@[simp] theorem Block.setCtx_field_ports (k : Nat) (v : Ctx) : (b.setCtx k v).ports = b.ports := rfl
@[simp] theorem Block.setCtx_field_sync (k : Nat) (v : Ctx) : (b.setCtx k v).sync = b.sync := rfl
@[simp] theorem Block.setCtx_field_seen (k : Nat) (v : Ctx) : (b.setCtx k v).seen = b.seen := rfl
@[simp] theorem Block.setCtx_field_linkNotes (k : Nat) (v : Ctx) : (b.setCtx k v).linkNotes = b.linkNotes := rfl
@[simp] theorem Block.setCtx_field_order (k : Nat) (v : Ctx) : (b.setCtx k v).order = b.order := rfl
@[simp] theorem Block.setCtx_field_l3Done (k : Nat) (v : Ctx) : (b.setCtx k v).l3Done = b.l3Done := rfl
@[simp] theorem Block.setCtx_field_stallBusy (k : Nat) (v : Ctx) : (b.setCtx k v).stallBusy = b.stallBusy := rfl
@[simp] theorem Block.setCtx_field_pwr (k : Nat) (v : Ctx) : (b.setCtx k v).pwr = b.pwr := rfl
@[simp] theorem Block.setCtx_field_wdCycles (k : Nat) (v : Ctx) : (b.setCtx k v).wdCycles = b.wdCycles := rfl
@[simp] theorem Block.setCtx_field_poison (k : Nat) (v : Ctx) : (b.setCtx k v).poison = b.poison := rfl
@[simp] theorem Block.setCtx_field_retry (k : Nat) (v : Ctx) : (b.setCtx k v).retry = b.retry := rfl
@[simp] theorem Block.setCtx_field_held (k : Nat) (v : Ctx) : (b.setCtx k v).held = b.held := rfl
@[simp] theorem Block.setCtx_field_wear (k : Nat) (v : Ctx) : (b.setCtx k v).wear = b.wear := rfl
@[simp] theorem Block.setCtx_field_swapping (k : Nat) (v : Ctx) : (b.setCtx k v).swapping = b.swapping := rfl
@[simp] theorem Block.setCtx_field_retireReq (k : Nat) (v : Ctx) : (b.setCtx k v).retireReq = b.retireReq := rfl
@[simp] theorem Block.setCtx_field_stamps (k : Nat) (v : Ctx) : (b.setCtx k v).stamps = b.stamps := rfl
@[simp] theorem Block.setCtx_field_trace (k : Nat) (v : Ctx) : (b.setCtx k v).trace = b.trace := rfl
@[simp] theorem Block.setCtx_field_bps (k : Nat) (v : Ctx) : (b.setCtx k v).bps = b.bps := rfl
@[simp] theorem Block.setCtx_field_stop (k : Nat) (v : Ctx) : (b.setCtx k v).stop = b.stop := rfl
@[simp] theorem Block.setCtx_field_occ (k : Nat) (v : Ctx) : (b.setCtx k v).occ = b.occ := rfl
@[simp] theorem Block.setCtx_field_cinder (k : Nat) (v : Ctx) : (b.setCtx k v).cinder = b.cinder := rfl
@[simp] theorem Block.setCtx_field_fpDest (k : Nat) (v : Ctx) : (b.setCtx k v).fpDest = b.fpDest := rfl
@[simp] theorem Block.setCtx_field_fabricOut (k : Nat) (v : Ctx) : (b.setCtx k v).fabricOut = b.fabricOut := rfl
@[simp] theorem Block.setCtx_field_secOut (k : Nat) (v : Ctx) : (b.setCtx k v).secOut = b.secOut := rfl
@[simp] theorem Block.setCtx_field_cycFrac (k : Nat) (v : Ctx) : (b.setCtx k v).cycFrac = b.cycFrac := rfl

@[simp] theorem Block.setQueue_field_straps (k : Nat) (v : HwQueue) : (b.setQueue k v).straps = b.straps := rfl
@[simp] theorem Block.setQueue_field_pins (k : Nat) (v : HwQueue) : (b.setQueue k v).pins = b.pins := rfl
@[simp] theorem Block.setQueue_field_st (k : Nat) (v : HwQueue) : (b.setQueue k v).st = b.st := rfl
@[simp] theorem Block.setQueue_field_roleSet (k : Nat) (v : HwQueue) : (b.setQueue k v).roleSet = b.roleSet := rfl
@[simp] theorem Block.setQueue_field_chipId (k : Nat) (v : HwQueue) : (b.setQueue k v).chipId = b.chipId := rfl
@[simp] theorem Block.setQueue_field_zclk (k : Nat) (v : HwQueue) : (b.setQueue k v).zclk = b.zclk := rfl
@[simp] theorem Block.setQueue_field_aonClk (k : Nat) (v : HwQueue) : (b.setQueue k v).aonClk = b.aonClk := rfl
@[simp] theorem Block.setQueue_field_fabric (k : Nat) (v : HwQueue) : (b.setQueue k v).fabric = b.fabric := rfl
@[simp] theorem Block.setQueue_field_freeCount (k : Nat) (v : HwQueue) : (b.setQueue k v).freeCount = b.freeCount := rfl
@[simp] theorem Block.setQueue_field_readData (k : Nat) (v : HwQueue) : (b.setQueue k v).readData = b.readData := rfl
@[simp] theorem Block.setQueue_field_regs (k : Nat) (v : HwQueue) : (b.setQueue k v).regs = b.regs := rfl
@[simp] theorem Block.setQueue_field_staged (k : Nat) (v : HwQueue) : (b.setQueue k v).staged = b.staged := rfl
@[simp] theorem Block.setQueue_field_nowLatch (k : Nat) (v : HwQueue) : (b.setQueue k v).nowLatch = b.nowLatch := rfl
@[simp] theorem Block.setQueue_field_sems (k : Nat) (v : HwQueue) : (b.setQueue k v).sems = b.sems := rfl
@[simp] theorem Block.setQueue_field_hiu (k : Nat) (v : HwQueue) : (b.setQueue k v).hiu = b.hiu := rfl
@[simp] theorem Block.setQueue_field_armed (k : Nat) (v : HwQueue) : (b.setQueue k v).armed = b.armed := rfl
@[simp] theorem Block.setQueue_field_capt (k : Nat) (v : HwQueue) : (b.setQueue k v).capt = b.capt := rfl
@[simp] theorem Block.setQueue_field_tableGen (k : Nat) (v : HwQueue) : (b.setQueue k v).tableGen = b.tableGen := rfl
@[simp] theorem Block.setQueue_field_ctxs (k : Nat) (v : HwQueue) : (b.setQueue k v).ctxs = b.ctxs := rfl
@[simp] theorem Block.setQueue_field_cmds (k : Nat) (v : HwQueue) : (b.setQueue k v).cmds = b.cmds := rfl
@[simp] theorem Block.setQueue_field_harnesses (k : Nat) (v : HwQueue) : (b.setQueue k v).harnesses = b.harnesses := rfl
@[simp] theorem Block.setQueue_field_engines (k : Nat) (v : HwQueue) : (b.setQueue k v).engines = b.engines := rfl
@[simp] theorem Block.setQueue_field_tasks (k : Nat) (v : HwQueue) : (b.setQueue k v).tasks = b.tasks := rfl
@[simp] theorem Block.setQueue_field_groups (k : Nat) (v : HwQueue) : (b.setQueue k v).groups = b.groups := rfl
@[simp] theorem Block.setQueue_field_lastLight (k : Nat) (v : HwQueue) : (b.setQueue k v).lastLight = b.lastLight := rfl
@[simp] theorem Block.setQueue_field_lastWake (k : Nat) (v : HwQueue) : (b.setQueue k v).lastWake = b.lastWake := rfl
@[simp] theorem Block.setQueue_field_dev (k : Nat) (v : HwQueue) : (b.setQueue k v).dev = b.dev := rfl
@[simp] theorem Block.setQueue_field_host (k : Nat) (v : HwQueue) : (b.setQueue k v).host = b.host := rfl
@[simp] theorem Block.setQueue_field_spm (k : Nat) (v : HwQueue) : (b.setQueue k v).spm = b.spm := rfl
@[simp] theorem Block.setQueue_field_ssc (k : Nat) (v : HwQueue) : (b.setQueue k v).ssc = b.ssc := rfl
@[simp] theorem Block.setQueue_field_chanOk (k : Nat) (v : HwQueue) : (b.setQueue k v).chanOk = b.chanOk := rfl
@[simp] theorem Block.setQueue_field_capMb (k : Nat) (v : HwQueue) : (b.setQueue k v).capMb = b.capMb := rfl
@[simp] theorem Block.setQueue_field_layChan (k : Nat) (v : HwQueue) : (b.setQueue k v).layChan = b.layChan := rfl
@[simp] theorem Block.setQueue_field_layMb (k : Nat) (v : HwQueue) : (b.setQueue k v).layMb = b.layMb := rfl
@[simp] theorem Block.setQueue_field_slots (k : Nat) (v : HwQueue) : (b.setQueue k v).slots = b.slots := rfl
@[simp] theorem Block.setQueue_field_vids (k : Nat) (v : HwQueue) : (b.setQueue k v).vids = b.vids := rfl
@[simp] theorem Block.setQueue_field_impBusy (k : Nat) (v : HwQueue) : (b.setQueue k v).impBusy = b.impBusy := rfl
@[simp] theorem Block.setQueue_field_waiters (k : Nat) (v : HwQueue) : (b.setQueue k v).waiters = b.waiters := rfl
@[simp] theorem Block.setQueue_field_waitHold (k : Nat) (v : HwQueue) : (b.setQueue k v).waitHold = b.waitHold := rfl
@[simp] theorem Block.setQueue_field_bounds (k : Nat) (v : HwQueue) : (b.setQueue k v).bounds = b.bounds := rfl
@[simp] theorem Block.setQueue_field_heldSigs (k : Nat) (v : HwQueue) : (b.setQueue k v).heldSigs = b.heldSigs := rfl
@[simp] theorem Block.setQueue_field_versions (k : Nat) (v : HwQueue) : (b.setQueue k v).versions = b.versions := rfl
@[simp] theorem Block.setQueue_field_lastEpoch (k : Nat) (v : HwQueue) : (b.setQueue k v).lastEpoch = b.lastEpoch := rfl
@[simp] theorem Block.setQueue_field_retired (k : Nat) (v : HwQueue) : (b.setQueue k v).retired = b.retired := rfl
@[simp] theorem Block.setQueue_field_descHold (k : Nat) (v : HwQueue) : (b.setQueue k v).descHold = b.descHold := rfl
@[simp] theorem Block.setQueue_field_lanes (k : Nat) (v : HwQueue) : (b.setQueue k v).lanes = b.lanes := rfl
@[simp] theorem Block.setQueue_field_maps (k : Nat) (v : HwQueue) : (b.setQueue k v).maps = b.maps := rfl
@[simp] theorem Block.setQueue_field_nextMap (k : Nat) (v : HwQueue) : (b.setQueue k v).nextMap = b.nextMap := rfl
@[simp] theorem Block.setQueue_field_boot (k : Nat) (v : HwQueue) : (b.setQueue k v).boot = b.boot := rfl
@[simp] theorem Block.setQueue_field_rangeCache (k : Nat) (v : HwQueue) : (b.setQueue k v).rangeCache = b.rangeCache := rfl
@[simp] theorem Block.setQueue_field_pageCache (k : Nat) (v : HwQueue) : (b.setQueue k v).pageCache = b.pageCache := rfl
@[simp] theorem Block.setQueue_field_atsCache (k : Nat) (v : HwQueue) : (b.setQueue k v).atsCache = b.atsCache := rfl
@[simp] theorem Block.setQueue_field_atsAsked (k : Nat) (v : HwQueue) : (b.setQueue k v).atsAsked = b.atsAsked := rfl
@[simp] theorem Block.setQueue_field_walks (k : Nat) (v : HwQueue) : (b.setQueue k v).walks = b.walks := rfl
@[simp] theorem Block.setQueue_field_faults (k : Nat) (v : HwQueue) : (b.setQueue k v).faults = b.faults := rfl
@[simp] theorem Block.setQueue_field_faultWait (k : Nat) (v : HwQueue) : (b.setQueue k v).faultWait = b.faultWait := rfl
@[simp] theorem Block.setQueue_field_advices (k : Nat) (v : HwQueue) : (b.setQueue k v).advices = b.advices := rfl
@[simp] theorem Block.setQueue_field_pools (k : Nat) (v : HwQueue) : (b.setQueue k v).pools = b.pools := rfl
@[simp] theorem Block.setQueue_field_fcrBase (k : Nat) (v : HwQueue) : (b.setQueue k v).fcrBase = b.fcrBase := rfl
@[simp] theorem Block.setQueue_field_fcrWait (k : Nat) (v : HwQueue) : (b.setQueue k v).fcrWait = b.fcrWait := rfl
@[simp] theorem Block.setQueue_field_fcrStuck (k : Nat) (v : HwQueue) : (b.setQueue k v).fcrStuck = b.fcrStuck := rfl
@[simp] theorem Block.setQueue_field_fcrFull (k : Nat) (v : HwQueue) : (b.setQueue k v).fcrFull = b.fcrFull := rfl
@[simp] theorem Block.setQueue_field_tabFrames (k : Nat) (v : HwQueue) : (b.setQueue k v).tabFrames = b.tabFrames := rfl
@[simp] theorem Block.setQueue_field_invBusy (k : Nat) (v : HwQueue) : (b.setQueue k v).invBusy = b.invBusy := rfl
@[simp] theorem Block.setQueue_field_atsInvs (k : Nat) (v : HwQueue) : (b.setQueue k v).atsInvs = b.atsInvs := rfl
@[simp] theorem Block.setQueue_field_ledger (k : Nat) (v : HwQueue) : (b.setQueue k v).ledger = b.ledger := rfl
@[simp] theorem Block.setQueue_field_cad (k : Nat) (v : HwQueue) : (b.setQueue k v).cad = b.cad := rfl
@[simp] theorem Block.setQueue_field_ll (k : Nat) (v : HwQueue) : (b.setQueue k v).ll = b.ll := rfl
@[simp] theorem Block.setQueue_field_micro (k : Nat) (v : HwQueue) : (b.setQueue k v).micro = b.micro := rfl
@[simp] theorem Block.setQueue_field_store (k : Nat) (v : HwQueue) : (b.setQueue k v).store = b.store := rfl
@[simp] theorem Block.setQueue_field_mc (k : Nat) (v : HwQueue) : (b.setQueue k v).mc = b.mc := rfl
@[simp] theorem Block.setQueue_field_coh (k : Nat) (v : HwQueue) : (b.setQueue k v).coh = b.coh := rfl
@[simp] theorem Block.setQueue_field_ports (k : Nat) (v : HwQueue) : (b.setQueue k v).ports = b.ports := rfl
@[simp] theorem Block.setQueue_field_sync (k : Nat) (v : HwQueue) : (b.setQueue k v).sync = b.sync := rfl
@[simp] theorem Block.setQueue_field_seen (k : Nat) (v : HwQueue) : (b.setQueue k v).seen = b.seen := rfl
@[simp] theorem Block.setQueue_field_linkNotes (k : Nat) (v : HwQueue) : (b.setQueue k v).linkNotes = b.linkNotes := rfl
@[simp] theorem Block.setQueue_field_order (k : Nat) (v : HwQueue) : (b.setQueue k v).order = b.order := rfl
@[simp] theorem Block.setQueue_field_l3Done (k : Nat) (v : HwQueue) : (b.setQueue k v).l3Done = b.l3Done := rfl
@[simp] theorem Block.setQueue_field_stallBusy (k : Nat) (v : HwQueue) : (b.setQueue k v).stallBusy = b.stallBusy := rfl
@[simp] theorem Block.setQueue_field_pwr (k : Nat) (v : HwQueue) : (b.setQueue k v).pwr = b.pwr := rfl
@[simp] theorem Block.setQueue_field_wdCycles (k : Nat) (v : HwQueue) : (b.setQueue k v).wdCycles = b.wdCycles := rfl
@[simp] theorem Block.setQueue_field_poison (k : Nat) (v : HwQueue) : (b.setQueue k v).poison = b.poison := rfl
@[simp] theorem Block.setQueue_field_retry (k : Nat) (v : HwQueue) : (b.setQueue k v).retry = b.retry := rfl
@[simp] theorem Block.setQueue_field_held (k : Nat) (v : HwQueue) : (b.setQueue k v).held = b.held := rfl
@[simp] theorem Block.setQueue_field_wear (k : Nat) (v : HwQueue) : (b.setQueue k v).wear = b.wear := rfl
@[simp] theorem Block.setQueue_field_swapping (k : Nat) (v : HwQueue) : (b.setQueue k v).swapping = b.swapping := rfl
@[simp] theorem Block.setQueue_field_retireReq (k : Nat) (v : HwQueue) : (b.setQueue k v).retireReq = b.retireReq := rfl
@[simp] theorem Block.setQueue_field_stamps (k : Nat) (v : HwQueue) : (b.setQueue k v).stamps = b.stamps := rfl
@[simp] theorem Block.setQueue_field_trace (k : Nat) (v : HwQueue) : (b.setQueue k v).trace = b.trace := rfl
@[simp] theorem Block.setQueue_field_bps (k : Nat) (v : HwQueue) : (b.setQueue k v).bps = b.bps := rfl
@[simp] theorem Block.setQueue_field_stop (k : Nat) (v : HwQueue) : (b.setQueue k v).stop = b.stop := rfl
@[simp] theorem Block.setQueue_field_occ (k : Nat) (v : HwQueue) : (b.setQueue k v).occ = b.occ := rfl
@[simp] theorem Block.setQueue_field_cinder (k : Nat) (v : HwQueue) : (b.setQueue k v).cinder = b.cinder := rfl
@[simp] theorem Block.setQueue_field_fpDest (k : Nat) (v : HwQueue) : (b.setQueue k v).fpDest = b.fpDest := rfl
@[simp] theorem Block.setQueue_field_fabricOut (k : Nat) (v : HwQueue) : (b.setQueue k v).fabricOut = b.fabricOut := rfl
@[simp] theorem Block.setQueue_field_secOut (k : Nat) (v : HwQueue) : (b.setQueue k v).secOut = b.secOut := rfl
@[simp] theorem Block.setQueue_field_cycFrac (k : Nat) (v : HwQueue) : (b.setQueue k v).cycFrac = b.cycFrac := rfl

@[simp] theorem Block.setHarness_field_straps (k : Nat) (v : Harness) : (b.setHarness k v).straps = b.straps := rfl
@[simp] theorem Block.setHarness_field_pins (k : Nat) (v : Harness) : (b.setHarness k v).pins = b.pins := rfl
@[simp] theorem Block.setHarness_field_st (k : Nat) (v : Harness) : (b.setHarness k v).st = b.st := rfl
@[simp] theorem Block.setHarness_field_roleSet (k : Nat) (v : Harness) : (b.setHarness k v).roleSet = b.roleSet := rfl
@[simp] theorem Block.setHarness_field_chipId (k : Nat) (v : Harness) : (b.setHarness k v).chipId = b.chipId := rfl
@[simp] theorem Block.setHarness_field_zclk (k : Nat) (v : Harness) : (b.setHarness k v).zclk = b.zclk := rfl
@[simp] theorem Block.setHarness_field_aonClk (k : Nat) (v : Harness) : (b.setHarness k v).aonClk = b.aonClk := rfl
@[simp] theorem Block.setHarness_field_fabric (k : Nat) (v : Harness) : (b.setHarness k v).fabric = b.fabric := rfl
@[simp] theorem Block.setHarness_field_freeCount (k : Nat) (v : Harness) : (b.setHarness k v).freeCount = b.freeCount := rfl
@[simp] theorem Block.setHarness_field_readData (k : Nat) (v : Harness) : (b.setHarness k v).readData = b.readData := rfl
@[simp] theorem Block.setHarness_field_regs (k : Nat) (v : Harness) : (b.setHarness k v).regs = b.regs := rfl
@[simp] theorem Block.setHarness_field_staged (k : Nat) (v : Harness) : (b.setHarness k v).staged = b.staged := rfl
@[simp] theorem Block.setHarness_field_nowLatch (k : Nat) (v : Harness) : (b.setHarness k v).nowLatch = b.nowLatch := rfl
@[simp] theorem Block.setHarness_field_sems (k : Nat) (v : Harness) : (b.setHarness k v).sems = b.sems := rfl
@[simp] theorem Block.setHarness_field_hiu (k : Nat) (v : Harness) : (b.setHarness k v).hiu = b.hiu := rfl
@[simp] theorem Block.setHarness_field_armed (k : Nat) (v : Harness) : (b.setHarness k v).armed = b.armed := rfl
@[simp] theorem Block.setHarness_field_capt (k : Nat) (v : Harness) : (b.setHarness k v).capt = b.capt := rfl
@[simp] theorem Block.setHarness_field_tableGen (k : Nat) (v : Harness) : (b.setHarness k v).tableGen = b.tableGen := rfl
@[simp] theorem Block.setHarness_field_ctxs (k : Nat) (v : Harness) : (b.setHarness k v).ctxs = b.ctxs := rfl
@[simp] theorem Block.setHarness_field_queues (k : Nat) (v : Harness) : (b.setHarness k v).queues = b.queues := rfl
@[simp] theorem Block.setHarness_field_cmds (k : Nat) (v : Harness) : (b.setHarness k v).cmds = b.cmds := rfl
@[simp] theorem Block.setHarness_field_engines (k : Nat) (v : Harness) : (b.setHarness k v).engines = b.engines := rfl
@[simp] theorem Block.setHarness_field_tasks (k : Nat) (v : Harness) : (b.setHarness k v).tasks = b.tasks := rfl
@[simp] theorem Block.setHarness_field_groups (k : Nat) (v : Harness) : (b.setHarness k v).groups = b.groups := rfl
@[simp] theorem Block.setHarness_field_lastLight (k : Nat) (v : Harness) : (b.setHarness k v).lastLight = b.lastLight := rfl
@[simp] theorem Block.setHarness_field_lastWake (k : Nat) (v : Harness) : (b.setHarness k v).lastWake = b.lastWake := rfl
@[simp] theorem Block.setHarness_field_dev (k : Nat) (v : Harness) : (b.setHarness k v).dev = b.dev := rfl
@[simp] theorem Block.setHarness_field_host (k : Nat) (v : Harness) : (b.setHarness k v).host = b.host := rfl
@[simp] theorem Block.setHarness_field_spm (k : Nat) (v : Harness) : (b.setHarness k v).spm = b.spm := rfl
@[simp] theorem Block.setHarness_field_ssc (k : Nat) (v : Harness) : (b.setHarness k v).ssc = b.ssc := rfl
@[simp] theorem Block.setHarness_field_chanOk (k : Nat) (v : Harness) : (b.setHarness k v).chanOk = b.chanOk := rfl
@[simp] theorem Block.setHarness_field_capMb (k : Nat) (v : Harness) : (b.setHarness k v).capMb = b.capMb := rfl
@[simp] theorem Block.setHarness_field_layChan (k : Nat) (v : Harness) : (b.setHarness k v).layChan = b.layChan := rfl
@[simp] theorem Block.setHarness_field_layMb (k : Nat) (v : Harness) : (b.setHarness k v).layMb = b.layMb := rfl
@[simp] theorem Block.setHarness_field_slots (k : Nat) (v : Harness) : (b.setHarness k v).slots = b.slots := rfl
@[simp] theorem Block.setHarness_field_vids (k : Nat) (v : Harness) : (b.setHarness k v).vids = b.vids := rfl
@[simp] theorem Block.setHarness_field_impBusy (k : Nat) (v : Harness) : (b.setHarness k v).impBusy = b.impBusy := rfl
@[simp] theorem Block.setHarness_field_waiters (k : Nat) (v : Harness) : (b.setHarness k v).waiters = b.waiters := rfl
@[simp] theorem Block.setHarness_field_waitHold (k : Nat) (v : Harness) : (b.setHarness k v).waitHold = b.waitHold := rfl
@[simp] theorem Block.setHarness_field_bounds (k : Nat) (v : Harness) : (b.setHarness k v).bounds = b.bounds := rfl
@[simp] theorem Block.setHarness_field_heldSigs (k : Nat) (v : Harness) : (b.setHarness k v).heldSigs = b.heldSigs := rfl
@[simp] theorem Block.setHarness_field_versions (k : Nat) (v : Harness) : (b.setHarness k v).versions = b.versions := rfl
@[simp] theorem Block.setHarness_field_lastEpoch (k : Nat) (v : Harness) : (b.setHarness k v).lastEpoch = b.lastEpoch := rfl
@[simp] theorem Block.setHarness_field_retired (k : Nat) (v : Harness) : (b.setHarness k v).retired = b.retired := rfl
@[simp] theorem Block.setHarness_field_descHold (k : Nat) (v : Harness) : (b.setHarness k v).descHold = b.descHold := rfl
@[simp] theorem Block.setHarness_field_lanes (k : Nat) (v : Harness) : (b.setHarness k v).lanes = b.lanes := rfl
@[simp] theorem Block.setHarness_field_maps (k : Nat) (v : Harness) : (b.setHarness k v).maps = b.maps := rfl
@[simp] theorem Block.setHarness_field_nextMap (k : Nat) (v : Harness) : (b.setHarness k v).nextMap = b.nextMap := rfl
@[simp] theorem Block.setHarness_field_boot (k : Nat) (v : Harness) : (b.setHarness k v).boot = b.boot := rfl
@[simp] theorem Block.setHarness_field_rangeCache (k : Nat) (v : Harness) : (b.setHarness k v).rangeCache = b.rangeCache := rfl
@[simp] theorem Block.setHarness_field_pageCache (k : Nat) (v : Harness) : (b.setHarness k v).pageCache = b.pageCache := rfl
@[simp] theorem Block.setHarness_field_atsCache (k : Nat) (v : Harness) : (b.setHarness k v).atsCache = b.atsCache := rfl
@[simp] theorem Block.setHarness_field_atsAsked (k : Nat) (v : Harness) : (b.setHarness k v).atsAsked = b.atsAsked := rfl
@[simp] theorem Block.setHarness_field_walks (k : Nat) (v : Harness) : (b.setHarness k v).walks = b.walks := rfl
@[simp] theorem Block.setHarness_field_faults (k : Nat) (v : Harness) : (b.setHarness k v).faults = b.faults := rfl
@[simp] theorem Block.setHarness_field_faultWait (k : Nat) (v : Harness) : (b.setHarness k v).faultWait = b.faultWait := rfl
@[simp] theorem Block.setHarness_field_advices (k : Nat) (v : Harness) : (b.setHarness k v).advices = b.advices := rfl
@[simp] theorem Block.setHarness_field_pools (k : Nat) (v : Harness) : (b.setHarness k v).pools = b.pools := rfl
@[simp] theorem Block.setHarness_field_fcrBase (k : Nat) (v : Harness) : (b.setHarness k v).fcrBase = b.fcrBase := rfl
@[simp] theorem Block.setHarness_field_fcrWait (k : Nat) (v : Harness) : (b.setHarness k v).fcrWait = b.fcrWait := rfl
@[simp] theorem Block.setHarness_field_fcrStuck (k : Nat) (v : Harness) : (b.setHarness k v).fcrStuck = b.fcrStuck := rfl
@[simp] theorem Block.setHarness_field_fcrFull (k : Nat) (v : Harness) : (b.setHarness k v).fcrFull = b.fcrFull := rfl
@[simp] theorem Block.setHarness_field_tabFrames (k : Nat) (v : Harness) : (b.setHarness k v).tabFrames = b.tabFrames := rfl
@[simp] theorem Block.setHarness_field_invBusy (k : Nat) (v : Harness) : (b.setHarness k v).invBusy = b.invBusy := rfl
@[simp] theorem Block.setHarness_field_atsInvs (k : Nat) (v : Harness) : (b.setHarness k v).atsInvs = b.atsInvs := rfl
@[simp] theorem Block.setHarness_field_ledger (k : Nat) (v : Harness) : (b.setHarness k v).ledger = b.ledger := rfl
@[simp] theorem Block.setHarness_field_cad (k : Nat) (v : Harness) : (b.setHarness k v).cad = b.cad := rfl
@[simp] theorem Block.setHarness_field_ll (k : Nat) (v : Harness) : (b.setHarness k v).ll = b.ll := rfl
@[simp] theorem Block.setHarness_field_micro (k : Nat) (v : Harness) : (b.setHarness k v).micro = b.micro := rfl
@[simp] theorem Block.setHarness_field_store (k : Nat) (v : Harness) : (b.setHarness k v).store = b.store := rfl
@[simp] theorem Block.setHarness_field_mc (k : Nat) (v : Harness) : (b.setHarness k v).mc = b.mc := rfl
@[simp] theorem Block.setHarness_field_coh (k : Nat) (v : Harness) : (b.setHarness k v).coh = b.coh := rfl
@[simp] theorem Block.setHarness_field_ports (k : Nat) (v : Harness) : (b.setHarness k v).ports = b.ports := rfl
@[simp] theorem Block.setHarness_field_sync (k : Nat) (v : Harness) : (b.setHarness k v).sync = b.sync := rfl
@[simp] theorem Block.setHarness_field_seen (k : Nat) (v : Harness) : (b.setHarness k v).seen = b.seen := rfl
@[simp] theorem Block.setHarness_field_linkNotes (k : Nat) (v : Harness) : (b.setHarness k v).linkNotes = b.linkNotes := rfl
@[simp] theorem Block.setHarness_field_order (k : Nat) (v : Harness) : (b.setHarness k v).order = b.order := rfl
@[simp] theorem Block.setHarness_field_l3Done (k : Nat) (v : Harness) : (b.setHarness k v).l3Done = b.l3Done := rfl
@[simp] theorem Block.setHarness_field_stallBusy (k : Nat) (v : Harness) : (b.setHarness k v).stallBusy = b.stallBusy := rfl
@[simp] theorem Block.setHarness_field_pwr (k : Nat) (v : Harness) : (b.setHarness k v).pwr = b.pwr := rfl
@[simp] theorem Block.setHarness_field_wdCycles (k : Nat) (v : Harness) : (b.setHarness k v).wdCycles = b.wdCycles := rfl
@[simp] theorem Block.setHarness_field_poison (k : Nat) (v : Harness) : (b.setHarness k v).poison = b.poison := rfl
@[simp] theorem Block.setHarness_field_retry (k : Nat) (v : Harness) : (b.setHarness k v).retry = b.retry := rfl
@[simp] theorem Block.setHarness_field_held (k : Nat) (v : Harness) : (b.setHarness k v).held = b.held := rfl
@[simp] theorem Block.setHarness_field_wear (k : Nat) (v : Harness) : (b.setHarness k v).wear = b.wear := rfl
@[simp] theorem Block.setHarness_field_swapping (k : Nat) (v : Harness) : (b.setHarness k v).swapping = b.swapping := rfl
@[simp] theorem Block.setHarness_field_retireReq (k : Nat) (v : Harness) : (b.setHarness k v).retireReq = b.retireReq := rfl
@[simp] theorem Block.setHarness_field_stamps (k : Nat) (v : Harness) : (b.setHarness k v).stamps = b.stamps := rfl
@[simp] theorem Block.setHarness_field_trace (k : Nat) (v : Harness) : (b.setHarness k v).trace = b.trace := rfl
@[simp] theorem Block.setHarness_field_bps (k : Nat) (v : Harness) : (b.setHarness k v).bps = b.bps := rfl
@[simp] theorem Block.setHarness_field_stop (k : Nat) (v : Harness) : (b.setHarness k v).stop = b.stop := rfl
@[simp] theorem Block.setHarness_field_occ (k : Nat) (v : Harness) : (b.setHarness k v).occ = b.occ := rfl
@[simp] theorem Block.setHarness_field_cinder (k : Nat) (v : Harness) : (b.setHarness k v).cinder = b.cinder := rfl
@[simp] theorem Block.setHarness_field_fpDest (k : Nat) (v : Harness) : (b.setHarness k v).fpDest = b.fpDest := rfl
@[simp] theorem Block.setHarness_field_fabricOut (k : Nat) (v : Harness) : (b.setHarness k v).fabricOut = b.fabricOut := rfl
@[simp] theorem Block.setHarness_field_secOut (k : Nat) (v : Harness) : (b.setHarness k v).secOut = b.secOut := rfl
@[simp] theorem Block.setHarness_field_cycFrac (k : Nat) (v : Harness) : (b.setHarness k v).cycFrac = b.cycFrac := rfl

@[simp] theorem Block.setEng_field_straps (k : Nat) (v : Engine) : (b.setEng k v).straps = b.straps := rfl
@[simp] theorem Block.setEng_field_pins (k : Nat) (v : Engine) : (b.setEng k v).pins = b.pins := rfl
@[simp] theorem Block.setEng_field_st (k : Nat) (v : Engine) : (b.setEng k v).st = b.st := rfl
@[simp] theorem Block.setEng_field_roleSet (k : Nat) (v : Engine) : (b.setEng k v).roleSet = b.roleSet := rfl
@[simp] theorem Block.setEng_field_chipId (k : Nat) (v : Engine) : (b.setEng k v).chipId = b.chipId := rfl
@[simp] theorem Block.setEng_field_zclk (k : Nat) (v : Engine) : (b.setEng k v).zclk = b.zclk := rfl
@[simp] theorem Block.setEng_field_aonClk (k : Nat) (v : Engine) : (b.setEng k v).aonClk = b.aonClk := rfl
@[simp] theorem Block.setEng_field_fabric (k : Nat) (v : Engine) : (b.setEng k v).fabric = b.fabric := rfl
@[simp] theorem Block.setEng_field_freeCount (k : Nat) (v : Engine) : (b.setEng k v).freeCount = b.freeCount := rfl
@[simp] theorem Block.setEng_field_readData (k : Nat) (v : Engine) : (b.setEng k v).readData = b.readData := rfl
@[simp] theorem Block.setEng_field_regs (k : Nat) (v : Engine) : (b.setEng k v).regs = b.regs := rfl
@[simp] theorem Block.setEng_field_staged (k : Nat) (v : Engine) : (b.setEng k v).staged = b.staged := rfl
@[simp] theorem Block.setEng_field_nowLatch (k : Nat) (v : Engine) : (b.setEng k v).nowLatch = b.nowLatch := rfl
@[simp] theorem Block.setEng_field_sems (k : Nat) (v : Engine) : (b.setEng k v).sems = b.sems := rfl
@[simp] theorem Block.setEng_field_hiu (k : Nat) (v : Engine) : (b.setEng k v).hiu = b.hiu := rfl
@[simp] theorem Block.setEng_field_armed (k : Nat) (v : Engine) : (b.setEng k v).armed = b.armed := rfl
@[simp] theorem Block.setEng_field_capt (k : Nat) (v : Engine) : (b.setEng k v).capt = b.capt := rfl
@[simp] theorem Block.setEng_field_tableGen (k : Nat) (v : Engine) : (b.setEng k v).tableGen = b.tableGen := rfl
@[simp] theorem Block.setEng_field_ctxs (k : Nat) (v : Engine) : (b.setEng k v).ctxs = b.ctxs := rfl
@[simp] theorem Block.setEng_field_queues (k : Nat) (v : Engine) : (b.setEng k v).queues = b.queues := rfl
@[simp] theorem Block.setEng_field_cmds (k : Nat) (v : Engine) : (b.setEng k v).cmds = b.cmds := rfl
@[simp] theorem Block.setEng_field_harnesses (k : Nat) (v : Engine) : (b.setEng k v).harnesses = b.harnesses := rfl
@[simp] theorem Block.setEng_field_tasks (k : Nat) (v : Engine) : (b.setEng k v).tasks = b.tasks := rfl
@[simp] theorem Block.setEng_field_groups (k : Nat) (v : Engine) : (b.setEng k v).groups = b.groups := rfl
@[simp] theorem Block.setEng_field_lastLight (k : Nat) (v : Engine) : (b.setEng k v).lastLight = b.lastLight := rfl
@[simp] theorem Block.setEng_field_lastWake (k : Nat) (v : Engine) : (b.setEng k v).lastWake = b.lastWake := rfl
@[simp] theorem Block.setEng_field_dev (k : Nat) (v : Engine) : (b.setEng k v).dev = b.dev := rfl
@[simp] theorem Block.setEng_field_host (k : Nat) (v : Engine) : (b.setEng k v).host = b.host := rfl
@[simp] theorem Block.setEng_field_spm (k : Nat) (v : Engine) : (b.setEng k v).spm = b.spm := rfl
@[simp] theorem Block.setEng_field_ssc (k : Nat) (v : Engine) : (b.setEng k v).ssc = b.ssc := rfl
@[simp] theorem Block.setEng_field_chanOk (k : Nat) (v : Engine) : (b.setEng k v).chanOk = b.chanOk := rfl
@[simp] theorem Block.setEng_field_capMb (k : Nat) (v : Engine) : (b.setEng k v).capMb = b.capMb := rfl
@[simp] theorem Block.setEng_field_layChan (k : Nat) (v : Engine) : (b.setEng k v).layChan = b.layChan := rfl
@[simp] theorem Block.setEng_field_layMb (k : Nat) (v : Engine) : (b.setEng k v).layMb = b.layMb := rfl
@[simp] theorem Block.setEng_field_slots (k : Nat) (v : Engine) : (b.setEng k v).slots = b.slots := rfl
@[simp] theorem Block.setEng_field_vids (k : Nat) (v : Engine) : (b.setEng k v).vids = b.vids := rfl
@[simp] theorem Block.setEng_field_impBusy (k : Nat) (v : Engine) : (b.setEng k v).impBusy = b.impBusy := rfl
@[simp] theorem Block.setEng_field_waiters (k : Nat) (v : Engine) : (b.setEng k v).waiters = b.waiters := rfl
@[simp] theorem Block.setEng_field_waitHold (k : Nat) (v : Engine) : (b.setEng k v).waitHold = b.waitHold := rfl
@[simp] theorem Block.setEng_field_bounds (k : Nat) (v : Engine) : (b.setEng k v).bounds = b.bounds := rfl
@[simp] theorem Block.setEng_field_heldSigs (k : Nat) (v : Engine) : (b.setEng k v).heldSigs = b.heldSigs := rfl
@[simp] theorem Block.setEng_field_versions (k : Nat) (v : Engine) : (b.setEng k v).versions = b.versions := rfl
@[simp] theorem Block.setEng_field_lastEpoch (k : Nat) (v : Engine) : (b.setEng k v).lastEpoch = b.lastEpoch := rfl
@[simp] theorem Block.setEng_field_retired (k : Nat) (v : Engine) : (b.setEng k v).retired = b.retired := rfl
@[simp] theorem Block.setEng_field_descHold (k : Nat) (v : Engine) : (b.setEng k v).descHold = b.descHold := rfl
@[simp] theorem Block.setEng_field_lanes (k : Nat) (v : Engine) : (b.setEng k v).lanes = b.lanes := rfl
@[simp] theorem Block.setEng_field_maps (k : Nat) (v : Engine) : (b.setEng k v).maps = b.maps := rfl
@[simp] theorem Block.setEng_field_nextMap (k : Nat) (v : Engine) : (b.setEng k v).nextMap = b.nextMap := rfl
@[simp] theorem Block.setEng_field_boot (k : Nat) (v : Engine) : (b.setEng k v).boot = b.boot := rfl
@[simp] theorem Block.setEng_field_rangeCache (k : Nat) (v : Engine) : (b.setEng k v).rangeCache = b.rangeCache := rfl
@[simp] theorem Block.setEng_field_pageCache (k : Nat) (v : Engine) : (b.setEng k v).pageCache = b.pageCache := rfl
@[simp] theorem Block.setEng_field_atsCache (k : Nat) (v : Engine) : (b.setEng k v).atsCache = b.atsCache := rfl
@[simp] theorem Block.setEng_field_atsAsked (k : Nat) (v : Engine) : (b.setEng k v).atsAsked = b.atsAsked := rfl
@[simp] theorem Block.setEng_field_walks (k : Nat) (v : Engine) : (b.setEng k v).walks = b.walks := rfl
@[simp] theorem Block.setEng_field_faults (k : Nat) (v : Engine) : (b.setEng k v).faults = b.faults := rfl
@[simp] theorem Block.setEng_field_faultWait (k : Nat) (v : Engine) : (b.setEng k v).faultWait = b.faultWait := rfl
@[simp] theorem Block.setEng_field_advices (k : Nat) (v : Engine) : (b.setEng k v).advices = b.advices := rfl
@[simp] theorem Block.setEng_field_pools (k : Nat) (v : Engine) : (b.setEng k v).pools = b.pools := rfl
@[simp] theorem Block.setEng_field_fcrBase (k : Nat) (v : Engine) : (b.setEng k v).fcrBase = b.fcrBase := rfl
@[simp] theorem Block.setEng_field_fcrWait (k : Nat) (v : Engine) : (b.setEng k v).fcrWait = b.fcrWait := rfl
@[simp] theorem Block.setEng_field_fcrStuck (k : Nat) (v : Engine) : (b.setEng k v).fcrStuck = b.fcrStuck := rfl
@[simp] theorem Block.setEng_field_fcrFull (k : Nat) (v : Engine) : (b.setEng k v).fcrFull = b.fcrFull := rfl
@[simp] theorem Block.setEng_field_tabFrames (k : Nat) (v : Engine) : (b.setEng k v).tabFrames = b.tabFrames := rfl
@[simp] theorem Block.setEng_field_invBusy (k : Nat) (v : Engine) : (b.setEng k v).invBusy = b.invBusy := rfl
@[simp] theorem Block.setEng_field_atsInvs (k : Nat) (v : Engine) : (b.setEng k v).atsInvs = b.atsInvs := rfl
@[simp] theorem Block.setEng_field_ledger (k : Nat) (v : Engine) : (b.setEng k v).ledger = b.ledger := rfl
@[simp] theorem Block.setEng_field_cad (k : Nat) (v : Engine) : (b.setEng k v).cad = b.cad := rfl
@[simp] theorem Block.setEng_field_ll (k : Nat) (v : Engine) : (b.setEng k v).ll = b.ll := rfl
@[simp] theorem Block.setEng_field_micro (k : Nat) (v : Engine) : (b.setEng k v).micro = b.micro := rfl
@[simp] theorem Block.setEng_field_store (k : Nat) (v : Engine) : (b.setEng k v).store = b.store := rfl
@[simp] theorem Block.setEng_field_mc (k : Nat) (v : Engine) : (b.setEng k v).mc = b.mc := rfl
@[simp] theorem Block.setEng_field_coh (k : Nat) (v : Engine) : (b.setEng k v).coh = b.coh := rfl
@[simp] theorem Block.setEng_field_ports (k : Nat) (v : Engine) : (b.setEng k v).ports = b.ports := rfl
@[simp] theorem Block.setEng_field_sync (k : Nat) (v : Engine) : (b.setEng k v).sync = b.sync := rfl
@[simp] theorem Block.setEng_field_seen (k : Nat) (v : Engine) : (b.setEng k v).seen = b.seen := rfl
@[simp] theorem Block.setEng_field_linkNotes (k : Nat) (v : Engine) : (b.setEng k v).linkNotes = b.linkNotes := rfl
@[simp] theorem Block.setEng_field_order (k : Nat) (v : Engine) : (b.setEng k v).order = b.order := rfl
@[simp] theorem Block.setEng_field_l3Done (k : Nat) (v : Engine) : (b.setEng k v).l3Done = b.l3Done := rfl
@[simp] theorem Block.setEng_field_stallBusy (k : Nat) (v : Engine) : (b.setEng k v).stallBusy = b.stallBusy := rfl
@[simp] theorem Block.setEng_field_pwr (k : Nat) (v : Engine) : (b.setEng k v).pwr = b.pwr := rfl
@[simp] theorem Block.setEng_field_wdCycles (k : Nat) (v : Engine) : (b.setEng k v).wdCycles = b.wdCycles := rfl
@[simp] theorem Block.setEng_field_poison (k : Nat) (v : Engine) : (b.setEng k v).poison = b.poison := rfl
@[simp] theorem Block.setEng_field_retry (k : Nat) (v : Engine) : (b.setEng k v).retry = b.retry := rfl
@[simp] theorem Block.setEng_field_held (k : Nat) (v : Engine) : (b.setEng k v).held = b.held := rfl
@[simp] theorem Block.setEng_field_wear (k : Nat) (v : Engine) : (b.setEng k v).wear = b.wear := rfl
@[simp] theorem Block.setEng_field_swapping (k : Nat) (v : Engine) : (b.setEng k v).swapping = b.swapping := rfl
@[simp] theorem Block.setEng_field_retireReq (k : Nat) (v : Engine) : (b.setEng k v).retireReq = b.retireReq := rfl
@[simp] theorem Block.setEng_field_stamps (k : Nat) (v : Engine) : (b.setEng k v).stamps = b.stamps := rfl
@[simp] theorem Block.setEng_field_trace (k : Nat) (v : Engine) : (b.setEng k v).trace = b.trace := rfl
@[simp] theorem Block.setEng_field_bps (k : Nat) (v : Engine) : (b.setEng k v).bps = b.bps := rfl
@[simp] theorem Block.setEng_field_stop (k : Nat) (v : Engine) : (b.setEng k v).stop = b.stop := rfl
@[simp] theorem Block.setEng_field_occ (k : Nat) (v : Engine) : (b.setEng k v).occ = b.occ := rfl
@[simp] theorem Block.setEng_field_cinder (k : Nat) (v : Engine) : (b.setEng k v).cinder = b.cinder := rfl
@[simp] theorem Block.setEng_field_fpDest (k : Nat) (v : Engine) : (b.setEng k v).fpDest = b.fpDest := rfl
@[simp] theorem Block.setEng_field_fabricOut (k : Nat) (v : Engine) : (b.setEng k v).fabricOut = b.fabricOut := rfl
@[simp] theorem Block.setEng_field_secOut (k : Nat) (v : Engine) : (b.setEng k v).secOut = b.secOut := rfl
@[simp] theorem Block.setEng_field_cycFrac (k : Nat) (v : Engine) : (b.setEng k v).cycFrac = b.cycFrac := rfl

@[simp] theorem Block.setSlot_field_straps (k : Nat) (v : Slot) : (b.setSlot k v).straps = b.straps := rfl
@[simp] theorem Block.setSlot_field_pins (k : Nat) (v : Slot) : (b.setSlot k v).pins = b.pins := rfl
@[simp] theorem Block.setSlot_field_st (k : Nat) (v : Slot) : (b.setSlot k v).st = b.st := rfl
@[simp] theorem Block.setSlot_field_roleSet (k : Nat) (v : Slot) : (b.setSlot k v).roleSet = b.roleSet := rfl
@[simp] theorem Block.setSlot_field_chipId (k : Nat) (v : Slot) : (b.setSlot k v).chipId = b.chipId := rfl
@[simp] theorem Block.setSlot_field_zclk (k : Nat) (v : Slot) : (b.setSlot k v).zclk = b.zclk := rfl
@[simp] theorem Block.setSlot_field_aonClk (k : Nat) (v : Slot) : (b.setSlot k v).aonClk = b.aonClk := rfl
@[simp] theorem Block.setSlot_field_fabric (k : Nat) (v : Slot) : (b.setSlot k v).fabric = b.fabric := rfl
@[simp] theorem Block.setSlot_field_freeCount (k : Nat) (v : Slot) : (b.setSlot k v).freeCount = b.freeCount := rfl
@[simp] theorem Block.setSlot_field_readData (k : Nat) (v : Slot) : (b.setSlot k v).readData = b.readData := rfl
@[simp] theorem Block.setSlot_field_regs (k : Nat) (v : Slot) : (b.setSlot k v).regs = b.regs := rfl
@[simp] theorem Block.setSlot_field_staged (k : Nat) (v : Slot) : (b.setSlot k v).staged = b.staged := rfl
@[simp] theorem Block.setSlot_field_nowLatch (k : Nat) (v : Slot) : (b.setSlot k v).nowLatch = b.nowLatch := rfl
@[simp] theorem Block.setSlot_field_sems (k : Nat) (v : Slot) : (b.setSlot k v).sems = b.sems := rfl
@[simp] theorem Block.setSlot_field_hiu (k : Nat) (v : Slot) : (b.setSlot k v).hiu = b.hiu := rfl
@[simp] theorem Block.setSlot_field_armed (k : Nat) (v : Slot) : (b.setSlot k v).armed = b.armed := rfl
@[simp] theorem Block.setSlot_field_capt (k : Nat) (v : Slot) : (b.setSlot k v).capt = b.capt := rfl
@[simp] theorem Block.setSlot_field_tableGen (k : Nat) (v : Slot) : (b.setSlot k v).tableGen = b.tableGen := rfl
@[simp] theorem Block.setSlot_field_ctxs (k : Nat) (v : Slot) : (b.setSlot k v).ctxs = b.ctxs := rfl
@[simp] theorem Block.setSlot_field_queues (k : Nat) (v : Slot) : (b.setSlot k v).queues = b.queues := rfl
@[simp] theorem Block.setSlot_field_cmds (k : Nat) (v : Slot) : (b.setSlot k v).cmds = b.cmds := rfl
@[simp] theorem Block.setSlot_field_harnesses (k : Nat) (v : Slot) : (b.setSlot k v).harnesses = b.harnesses := rfl
@[simp] theorem Block.setSlot_field_engines (k : Nat) (v : Slot) : (b.setSlot k v).engines = b.engines := rfl
@[simp] theorem Block.setSlot_field_tasks (k : Nat) (v : Slot) : (b.setSlot k v).tasks = b.tasks := rfl
@[simp] theorem Block.setSlot_field_groups (k : Nat) (v : Slot) : (b.setSlot k v).groups = b.groups := rfl
@[simp] theorem Block.setSlot_field_lastLight (k : Nat) (v : Slot) : (b.setSlot k v).lastLight = b.lastLight := rfl
@[simp] theorem Block.setSlot_field_lastWake (k : Nat) (v : Slot) : (b.setSlot k v).lastWake = b.lastWake := rfl
@[simp] theorem Block.setSlot_field_dev (k : Nat) (v : Slot) : (b.setSlot k v).dev = b.dev := rfl
@[simp] theorem Block.setSlot_field_host (k : Nat) (v : Slot) : (b.setSlot k v).host = b.host := rfl
@[simp] theorem Block.setSlot_field_spm (k : Nat) (v : Slot) : (b.setSlot k v).spm = b.spm := rfl
@[simp] theorem Block.setSlot_field_ssc (k : Nat) (v : Slot) : (b.setSlot k v).ssc = b.ssc := rfl
@[simp] theorem Block.setSlot_field_chanOk (k : Nat) (v : Slot) : (b.setSlot k v).chanOk = b.chanOk := rfl
@[simp] theorem Block.setSlot_field_capMb (k : Nat) (v : Slot) : (b.setSlot k v).capMb = b.capMb := rfl
@[simp] theorem Block.setSlot_field_layChan (k : Nat) (v : Slot) : (b.setSlot k v).layChan = b.layChan := rfl
@[simp] theorem Block.setSlot_field_layMb (k : Nat) (v : Slot) : (b.setSlot k v).layMb = b.layMb := rfl
@[simp] theorem Block.setSlot_field_vids (k : Nat) (v : Slot) : (b.setSlot k v).vids = b.vids := rfl
@[simp] theorem Block.setSlot_field_impBusy (k : Nat) (v : Slot) : (b.setSlot k v).impBusy = b.impBusy := rfl
@[simp] theorem Block.setSlot_field_waiters (k : Nat) (v : Slot) : (b.setSlot k v).waiters = b.waiters := rfl
@[simp] theorem Block.setSlot_field_waitHold (k : Nat) (v : Slot) : (b.setSlot k v).waitHold = b.waitHold := rfl
@[simp] theorem Block.setSlot_field_bounds (k : Nat) (v : Slot) : (b.setSlot k v).bounds = b.bounds := rfl
@[simp] theorem Block.setSlot_field_heldSigs (k : Nat) (v : Slot) : (b.setSlot k v).heldSigs = b.heldSigs := rfl
@[simp] theorem Block.setSlot_field_versions (k : Nat) (v : Slot) : (b.setSlot k v).versions = b.versions := rfl
@[simp] theorem Block.setSlot_field_lastEpoch (k : Nat) (v : Slot) : (b.setSlot k v).lastEpoch = b.lastEpoch := rfl
@[simp] theorem Block.setSlot_field_retired (k : Nat) (v : Slot) : (b.setSlot k v).retired = b.retired := rfl
@[simp] theorem Block.setSlot_field_descHold (k : Nat) (v : Slot) : (b.setSlot k v).descHold = b.descHold := rfl
@[simp] theorem Block.setSlot_field_lanes (k : Nat) (v : Slot) : (b.setSlot k v).lanes = b.lanes := rfl
@[simp] theorem Block.setSlot_field_maps (k : Nat) (v : Slot) : (b.setSlot k v).maps = b.maps := rfl
@[simp] theorem Block.setSlot_field_nextMap (k : Nat) (v : Slot) : (b.setSlot k v).nextMap = b.nextMap := rfl
@[simp] theorem Block.setSlot_field_boot (k : Nat) (v : Slot) : (b.setSlot k v).boot = b.boot := rfl
@[simp] theorem Block.setSlot_field_rangeCache (k : Nat) (v : Slot) : (b.setSlot k v).rangeCache = b.rangeCache := rfl
@[simp] theorem Block.setSlot_field_pageCache (k : Nat) (v : Slot) : (b.setSlot k v).pageCache = b.pageCache := rfl
@[simp] theorem Block.setSlot_field_atsCache (k : Nat) (v : Slot) : (b.setSlot k v).atsCache = b.atsCache := rfl
@[simp] theorem Block.setSlot_field_atsAsked (k : Nat) (v : Slot) : (b.setSlot k v).atsAsked = b.atsAsked := rfl
@[simp] theorem Block.setSlot_field_walks (k : Nat) (v : Slot) : (b.setSlot k v).walks = b.walks := rfl
@[simp] theorem Block.setSlot_field_faults (k : Nat) (v : Slot) : (b.setSlot k v).faults = b.faults := rfl
@[simp] theorem Block.setSlot_field_faultWait (k : Nat) (v : Slot) : (b.setSlot k v).faultWait = b.faultWait := rfl
@[simp] theorem Block.setSlot_field_advices (k : Nat) (v : Slot) : (b.setSlot k v).advices = b.advices := rfl
@[simp] theorem Block.setSlot_field_pools (k : Nat) (v : Slot) : (b.setSlot k v).pools = b.pools := rfl
@[simp] theorem Block.setSlot_field_fcrBase (k : Nat) (v : Slot) : (b.setSlot k v).fcrBase = b.fcrBase := rfl
@[simp] theorem Block.setSlot_field_fcrWait (k : Nat) (v : Slot) : (b.setSlot k v).fcrWait = b.fcrWait := rfl
@[simp] theorem Block.setSlot_field_fcrStuck (k : Nat) (v : Slot) : (b.setSlot k v).fcrStuck = b.fcrStuck := rfl
@[simp] theorem Block.setSlot_field_fcrFull (k : Nat) (v : Slot) : (b.setSlot k v).fcrFull = b.fcrFull := rfl
@[simp] theorem Block.setSlot_field_tabFrames (k : Nat) (v : Slot) : (b.setSlot k v).tabFrames = b.tabFrames := rfl
@[simp] theorem Block.setSlot_field_invBusy (k : Nat) (v : Slot) : (b.setSlot k v).invBusy = b.invBusy := rfl
@[simp] theorem Block.setSlot_field_atsInvs (k : Nat) (v : Slot) : (b.setSlot k v).atsInvs = b.atsInvs := rfl
@[simp] theorem Block.setSlot_field_ledger (k : Nat) (v : Slot) : (b.setSlot k v).ledger = b.ledger := rfl
@[simp] theorem Block.setSlot_field_cad (k : Nat) (v : Slot) : (b.setSlot k v).cad = b.cad := rfl
@[simp] theorem Block.setSlot_field_ll (k : Nat) (v : Slot) : (b.setSlot k v).ll = b.ll := rfl
@[simp] theorem Block.setSlot_field_micro (k : Nat) (v : Slot) : (b.setSlot k v).micro = b.micro := rfl
@[simp] theorem Block.setSlot_field_store (k : Nat) (v : Slot) : (b.setSlot k v).store = b.store := rfl
@[simp] theorem Block.setSlot_field_mc (k : Nat) (v : Slot) : (b.setSlot k v).mc = b.mc := rfl
@[simp] theorem Block.setSlot_field_coh (k : Nat) (v : Slot) : (b.setSlot k v).coh = b.coh := rfl
@[simp] theorem Block.setSlot_field_ports (k : Nat) (v : Slot) : (b.setSlot k v).ports = b.ports := rfl
@[simp] theorem Block.setSlot_field_sync (k : Nat) (v : Slot) : (b.setSlot k v).sync = b.sync := rfl
@[simp] theorem Block.setSlot_field_seen (k : Nat) (v : Slot) : (b.setSlot k v).seen = b.seen := rfl
@[simp] theorem Block.setSlot_field_linkNotes (k : Nat) (v : Slot) : (b.setSlot k v).linkNotes = b.linkNotes := rfl
@[simp] theorem Block.setSlot_field_order (k : Nat) (v : Slot) : (b.setSlot k v).order = b.order := rfl
@[simp] theorem Block.setSlot_field_l3Done (k : Nat) (v : Slot) : (b.setSlot k v).l3Done = b.l3Done := rfl
@[simp] theorem Block.setSlot_field_stallBusy (k : Nat) (v : Slot) : (b.setSlot k v).stallBusy = b.stallBusy := rfl
@[simp] theorem Block.setSlot_field_pwr (k : Nat) (v : Slot) : (b.setSlot k v).pwr = b.pwr := rfl
@[simp] theorem Block.setSlot_field_wdCycles (k : Nat) (v : Slot) : (b.setSlot k v).wdCycles = b.wdCycles := rfl
@[simp] theorem Block.setSlot_field_poison (k : Nat) (v : Slot) : (b.setSlot k v).poison = b.poison := rfl
@[simp] theorem Block.setSlot_field_retry (k : Nat) (v : Slot) : (b.setSlot k v).retry = b.retry := rfl
@[simp] theorem Block.setSlot_field_held (k : Nat) (v : Slot) : (b.setSlot k v).held = b.held := rfl
@[simp] theorem Block.setSlot_field_wear (k : Nat) (v : Slot) : (b.setSlot k v).wear = b.wear := rfl
@[simp] theorem Block.setSlot_field_swapping (k : Nat) (v : Slot) : (b.setSlot k v).swapping = b.swapping := rfl
@[simp] theorem Block.setSlot_field_retireReq (k : Nat) (v : Slot) : (b.setSlot k v).retireReq = b.retireReq := rfl
@[simp] theorem Block.setSlot_field_stamps (k : Nat) (v : Slot) : (b.setSlot k v).stamps = b.stamps := rfl
@[simp] theorem Block.setSlot_field_trace (k : Nat) (v : Slot) : (b.setSlot k v).trace = b.trace := rfl
@[simp] theorem Block.setSlot_field_bps (k : Nat) (v : Slot) : (b.setSlot k v).bps = b.bps := rfl
@[simp] theorem Block.setSlot_field_stop (k : Nat) (v : Slot) : (b.setSlot k v).stop = b.stop := rfl
@[simp] theorem Block.setSlot_field_occ (k : Nat) (v : Slot) : (b.setSlot k v).occ = b.occ := rfl
@[simp] theorem Block.setSlot_field_cinder (k : Nat) (v : Slot) : (b.setSlot k v).cinder = b.cinder := rfl
@[simp] theorem Block.setSlot_field_fpDest (k : Nat) (v : Slot) : (b.setSlot k v).fpDest = b.fpDest := rfl
@[simp] theorem Block.setSlot_field_fabricOut (k : Nat) (v : Slot) : (b.setSlot k v).fabricOut = b.fabricOut := rfl
@[simp] theorem Block.setSlot_field_secOut (k : Nat) (v : Slot) : (b.setSlot k v).secOut = b.secOut := rfl
@[simp] theorem Block.setSlot_field_cycFrac (k : Nat) (v : Slot) : (b.setSlot k v).cycFrac = b.cycFrac := rfl

@[simp] theorem Block.setPort_field_straps (k : Nat) (v : RPort) : (b.setPort k v).straps = b.straps := rfl
@[simp] theorem Block.setPort_field_pins (k : Nat) (v : RPort) : (b.setPort k v).pins = b.pins := rfl
@[simp] theorem Block.setPort_field_st (k : Nat) (v : RPort) : (b.setPort k v).st = b.st := rfl
@[simp] theorem Block.setPort_field_roleSet (k : Nat) (v : RPort) : (b.setPort k v).roleSet = b.roleSet := rfl
@[simp] theorem Block.setPort_field_chipId (k : Nat) (v : RPort) : (b.setPort k v).chipId = b.chipId := rfl
@[simp] theorem Block.setPort_field_zclk (k : Nat) (v : RPort) : (b.setPort k v).zclk = b.zclk := rfl
@[simp] theorem Block.setPort_field_aonClk (k : Nat) (v : RPort) : (b.setPort k v).aonClk = b.aonClk := rfl
@[simp] theorem Block.setPort_field_fabric (k : Nat) (v : RPort) : (b.setPort k v).fabric = b.fabric := rfl
@[simp] theorem Block.setPort_field_freeCount (k : Nat) (v : RPort) : (b.setPort k v).freeCount = b.freeCount := rfl
@[simp] theorem Block.setPort_field_readData (k : Nat) (v : RPort) : (b.setPort k v).readData = b.readData := rfl
@[simp] theorem Block.setPort_field_regs (k : Nat) (v : RPort) : (b.setPort k v).regs = b.regs := rfl
@[simp] theorem Block.setPort_field_staged (k : Nat) (v : RPort) : (b.setPort k v).staged = b.staged := rfl
@[simp] theorem Block.setPort_field_nowLatch (k : Nat) (v : RPort) : (b.setPort k v).nowLatch = b.nowLatch := rfl
@[simp] theorem Block.setPort_field_sems (k : Nat) (v : RPort) : (b.setPort k v).sems = b.sems := rfl
@[simp] theorem Block.setPort_field_hiu (k : Nat) (v : RPort) : (b.setPort k v).hiu = b.hiu := rfl
@[simp] theorem Block.setPort_field_armed (k : Nat) (v : RPort) : (b.setPort k v).armed = b.armed := rfl
@[simp] theorem Block.setPort_field_capt (k : Nat) (v : RPort) : (b.setPort k v).capt = b.capt := rfl
@[simp] theorem Block.setPort_field_tableGen (k : Nat) (v : RPort) : (b.setPort k v).tableGen = b.tableGen := rfl
@[simp] theorem Block.setPort_field_ctxs (k : Nat) (v : RPort) : (b.setPort k v).ctxs = b.ctxs := rfl
@[simp] theorem Block.setPort_field_queues (k : Nat) (v : RPort) : (b.setPort k v).queues = b.queues := rfl
@[simp] theorem Block.setPort_field_cmds (k : Nat) (v : RPort) : (b.setPort k v).cmds = b.cmds := rfl
@[simp] theorem Block.setPort_field_harnesses (k : Nat) (v : RPort) : (b.setPort k v).harnesses = b.harnesses := rfl
@[simp] theorem Block.setPort_field_engines (k : Nat) (v : RPort) : (b.setPort k v).engines = b.engines := rfl
@[simp] theorem Block.setPort_field_tasks (k : Nat) (v : RPort) : (b.setPort k v).tasks = b.tasks := rfl
@[simp] theorem Block.setPort_field_groups (k : Nat) (v : RPort) : (b.setPort k v).groups = b.groups := rfl
@[simp] theorem Block.setPort_field_lastLight (k : Nat) (v : RPort) : (b.setPort k v).lastLight = b.lastLight := rfl
@[simp] theorem Block.setPort_field_lastWake (k : Nat) (v : RPort) : (b.setPort k v).lastWake = b.lastWake := rfl
@[simp] theorem Block.setPort_field_dev (k : Nat) (v : RPort) : (b.setPort k v).dev = b.dev := rfl
@[simp] theorem Block.setPort_field_host (k : Nat) (v : RPort) : (b.setPort k v).host = b.host := rfl
@[simp] theorem Block.setPort_field_spm (k : Nat) (v : RPort) : (b.setPort k v).spm = b.spm := rfl
@[simp] theorem Block.setPort_field_ssc (k : Nat) (v : RPort) : (b.setPort k v).ssc = b.ssc := rfl
@[simp] theorem Block.setPort_field_chanOk (k : Nat) (v : RPort) : (b.setPort k v).chanOk = b.chanOk := rfl
@[simp] theorem Block.setPort_field_capMb (k : Nat) (v : RPort) : (b.setPort k v).capMb = b.capMb := rfl
@[simp] theorem Block.setPort_field_layChan (k : Nat) (v : RPort) : (b.setPort k v).layChan = b.layChan := rfl
@[simp] theorem Block.setPort_field_layMb (k : Nat) (v : RPort) : (b.setPort k v).layMb = b.layMb := rfl
@[simp] theorem Block.setPort_field_slots (k : Nat) (v : RPort) : (b.setPort k v).slots = b.slots := rfl
@[simp] theorem Block.setPort_field_vids (k : Nat) (v : RPort) : (b.setPort k v).vids = b.vids := rfl
@[simp] theorem Block.setPort_field_impBusy (k : Nat) (v : RPort) : (b.setPort k v).impBusy = b.impBusy := rfl
@[simp] theorem Block.setPort_field_waiters (k : Nat) (v : RPort) : (b.setPort k v).waiters = b.waiters := rfl
@[simp] theorem Block.setPort_field_waitHold (k : Nat) (v : RPort) : (b.setPort k v).waitHold = b.waitHold := rfl
@[simp] theorem Block.setPort_field_bounds (k : Nat) (v : RPort) : (b.setPort k v).bounds = b.bounds := rfl
@[simp] theorem Block.setPort_field_heldSigs (k : Nat) (v : RPort) : (b.setPort k v).heldSigs = b.heldSigs := rfl
@[simp] theorem Block.setPort_field_versions (k : Nat) (v : RPort) : (b.setPort k v).versions = b.versions := rfl
@[simp] theorem Block.setPort_field_lastEpoch (k : Nat) (v : RPort) : (b.setPort k v).lastEpoch = b.lastEpoch := rfl
@[simp] theorem Block.setPort_field_retired (k : Nat) (v : RPort) : (b.setPort k v).retired = b.retired := rfl
@[simp] theorem Block.setPort_field_descHold (k : Nat) (v : RPort) : (b.setPort k v).descHold = b.descHold := rfl
@[simp] theorem Block.setPort_field_lanes (k : Nat) (v : RPort) : (b.setPort k v).lanes = b.lanes := rfl
@[simp] theorem Block.setPort_field_maps (k : Nat) (v : RPort) : (b.setPort k v).maps = b.maps := rfl
@[simp] theorem Block.setPort_field_nextMap (k : Nat) (v : RPort) : (b.setPort k v).nextMap = b.nextMap := rfl
@[simp] theorem Block.setPort_field_boot (k : Nat) (v : RPort) : (b.setPort k v).boot = b.boot := rfl
@[simp] theorem Block.setPort_field_rangeCache (k : Nat) (v : RPort) : (b.setPort k v).rangeCache = b.rangeCache := rfl
@[simp] theorem Block.setPort_field_pageCache (k : Nat) (v : RPort) : (b.setPort k v).pageCache = b.pageCache := rfl
@[simp] theorem Block.setPort_field_atsCache (k : Nat) (v : RPort) : (b.setPort k v).atsCache = b.atsCache := rfl
@[simp] theorem Block.setPort_field_atsAsked (k : Nat) (v : RPort) : (b.setPort k v).atsAsked = b.atsAsked := rfl
@[simp] theorem Block.setPort_field_walks (k : Nat) (v : RPort) : (b.setPort k v).walks = b.walks := rfl
@[simp] theorem Block.setPort_field_faults (k : Nat) (v : RPort) : (b.setPort k v).faults = b.faults := rfl
@[simp] theorem Block.setPort_field_faultWait (k : Nat) (v : RPort) : (b.setPort k v).faultWait = b.faultWait := rfl
@[simp] theorem Block.setPort_field_advices (k : Nat) (v : RPort) : (b.setPort k v).advices = b.advices := rfl
@[simp] theorem Block.setPort_field_pools (k : Nat) (v : RPort) : (b.setPort k v).pools = b.pools := rfl
@[simp] theorem Block.setPort_field_fcrBase (k : Nat) (v : RPort) : (b.setPort k v).fcrBase = b.fcrBase := rfl
@[simp] theorem Block.setPort_field_fcrWait (k : Nat) (v : RPort) : (b.setPort k v).fcrWait = b.fcrWait := rfl
@[simp] theorem Block.setPort_field_fcrStuck (k : Nat) (v : RPort) : (b.setPort k v).fcrStuck = b.fcrStuck := rfl
@[simp] theorem Block.setPort_field_fcrFull (k : Nat) (v : RPort) : (b.setPort k v).fcrFull = b.fcrFull := rfl
@[simp] theorem Block.setPort_field_tabFrames (k : Nat) (v : RPort) : (b.setPort k v).tabFrames = b.tabFrames := rfl
@[simp] theorem Block.setPort_field_invBusy (k : Nat) (v : RPort) : (b.setPort k v).invBusy = b.invBusy := rfl
@[simp] theorem Block.setPort_field_atsInvs (k : Nat) (v : RPort) : (b.setPort k v).atsInvs = b.atsInvs := rfl
@[simp] theorem Block.setPort_field_ledger (k : Nat) (v : RPort) : (b.setPort k v).ledger = b.ledger := rfl
@[simp] theorem Block.setPort_field_cad (k : Nat) (v : RPort) : (b.setPort k v).cad = b.cad := rfl
@[simp] theorem Block.setPort_field_ll (k : Nat) (v : RPort) : (b.setPort k v).ll = b.ll := rfl
@[simp] theorem Block.setPort_field_micro (k : Nat) (v : RPort) : (b.setPort k v).micro = b.micro := rfl
@[simp] theorem Block.setPort_field_store (k : Nat) (v : RPort) : (b.setPort k v).store = b.store := rfl
@[simp] theorem Block.setPort_field_mc (k : Nat) (v : RPort) : (b.setPort k v).mc = b.mc := rfl
@[simp] theorem Block.setPort_field_coh (k : Nat) (v : RPort) : (b.setPort k v).coh = b.coh := rfl
@[simp] theorem Block.setPort_field_sync (k : Nat) (v : RPort) : (b.setPort k v).sync = b.sync := rfl
@[simp] theorem Block.setPort_field_seen (k : Nat) (v : RPort) : (b.setPort k v).seen = b.seen := rfl
@[simp] theorem Block.setPort_field_linkNotes (k : Nat) (v : RPort) : (b.setPort k v).linkNotes = b.linkNotes := rfl
@[simp] theorem Block.setPort_field_order (k : Nat) (v : RPort) : (b.setPort k v).order = b.order := rfl
@[simp] theorem Block.setPort_field_l3Done (k : Nat) (v : RPort) : (b.setPort k v).l3Done = b.l3Done := rfl
@[simp] theorem Block.setPort_field_stallBusy (k : Nat) (v : RPort) : (b.setPort k v).stallBusy = b.stallBusy := rfl
@[simp] theorem Block.setPort_field_pwr (k : Nat) (v : RPort) : (b.setPort k v).pwr = b.pwr := rfl
@[simp] theorem Block.setPort_field_wdCycles (k : Nat) (v : RPort) : (b.setPort k v).wdCycles = b.wdCycles := rfl
@[simp] theorem Block.setPort_field_poison (k : Nat) (v : RPort) : (b.setPort k v).poison = b.poison := rfl
@[simp] theorem Block.setPort_field_retry (k : Nat) (v : RPort) : (b.setPort k v).retry = b.retry := rfl
@[simp] theorem Block.setPort_field_held (k : Nat) (v : RPort) : (b.setPort k v).held = b.held := rfl
@[simp] theorem Block.setPort_field_wear (k : Nat) (v : RPort) : (b.setPort k v).wear = b.wear := rfl
@[simp] theorem Block.setPort_field_swapping (k : Nat) (v : RPort) : (b.setPort k v).swapping = b.swapping := rfl
@[simp] theorem Block.setPort_field_retireReq (k : Nat) (v : RPort) : (b.setPort k v).retireReq = b.retireReq := rfl
@[simp] theorem Block.setPort_field_stamps (k : Nat) (v : RPort) : (b.setPort k v).stamps = b.stamps := rfl
@[simp] theorem Block.setPort_field_trace (k : Nat) (v : RPort) : (b.setPort k v).trace = b.trace := rfl
@[simp] theorem Block.setPort_field_bps (k : Nat) (v : RPort) : (b.setPort k v).bps = b.bps := rfl
@[simp] theorem Block.setPort_field_stop (k : Nat) (v : RPort) : (b.setPort k v).stop = b.stop := rfl
@[simp] theorem Block.setPort_field_occ (k : Nat) (v : RPort) : (b.setPort k v).occ = b.occ := rfl
@[simp] theorem Block.setPort_field_cinder (k : Nat) (v : RPort) : (b.setPort k v).cinder = b.cinder := rfl
@[simp] theorem Block.setPort_field_fpDest (k : Nat) (v : RPort) : (b.setPort k v).fpDest = b.fpDest := rfl
@[simp] theorem Block.setPort_field_fabricOut (k : Nat) (v : RPort) : (b.setPort k v).fabricOut = b.fabricOut := rfl
@[simp] theorem Block.setPort_field_secOut (k : Nat) (v : RPort) : (b.setPort k v).secOut = b.secOut := rfl
@[simp] theorem Block.setPort_field_cycFrac (k : Nat) (v : RPort) : (b.setPort k v).cycFrac = b.cycFrac := rfl

@[simp] theorem Block.setWear_field_straps (n k : Nat) (v : Wear) : (b.setWear n k v).straps = b.straps := rfl
@[simp] theorem Block.setWear_field_pins (n k : Nat) (v : Wear) : (b.setWear n k v).pins = b.pins := rfl
@[simp] theorem Block.setWear_field_st (n k : Nat) (v : Wear) : (b.setWear n k v).st = b.st := rfl
@[simp] theorem Block.setWear_field_roleSet (n k : Nat) (v : Wear) : (b.setWear n k v).roleSet = b.roleSet := rfl
@[simp] theorem Block.setWear_field_chipId (n k : Nat) (v : Wear) : (b.setWear n k v).chipId = b.chipId := rfl
@[simp] theorem Block.setWear_field_zclk (n k : Nat) (v : Wear) : (b.setWear n k v).zclk = b.zclk := rfl
@[simp] theorem Block.setWear_field_aonClk (n k : Nat) (v : Wear) : (b.setWear n k v).aonClk = b.aonClk := rfl
@[simp] theorem Block.setWear_field_fabric (n k : Nat) (v : Wear) : (b.setWear n k v).fabric = b.fabric := rfl
@[simp] theorem Block.setWear_field_freeCount (n k : Nat) (v : Wear) : (b.setWear n k v).freeCount = b.freeCount := rfl
@[simp] theorem Block.setWear_field_readData (n k : Nat) (v : Wear) : (b.setWear n k v).readData = b.readData := rfl
@[simp] theorem Block.setWear_field_regs (n k : Nat) (v : Wear) : (b.setWear n k v).regs = b.regs := rfl
@[simp] theorem Block.setWear_field_staged (n k : Nat) (v : Wear) : (b.setWear n k v).staged = b.staged := rfl
@[simp] theorem Block.setWear_field_nowLatch (n k : Nat) (v : Wear) : (b.setWear n k v).nowLatch = b.nowLatch := rfl
@[simp] theorem Block.setWear_field_sems (n k : Nat) (v : Wear) : (b.setWear n k v).sems = b.sems := rfl
@[simp] theorem Block.setWear_field_hiu (n k : Nat) (v : Wear) : (b.setWear n k v).hiu = b.hiu := rfl
@[simp] theorem Block.setWear_field_armed (n k : Nat) (v : Wear) : (b.setWear n k v).armed = b.armed := rfl
@[simp] theorem Block.setWear_field_capt (n k : Nat) (v : Wear) : (b.setWear n k v).capt = b.capt := rfl
@[simp] theorem Block.setWear_field_tableGen (n k : Nat) (v : Wear) : (b.setWear n k v).tableGen = b.tableGen := rfl
@[simp] theorem Block.setWear_field_ctxs (n k : Nat) (v : Wear) : (b.setWear n k v).ctxs = b.ctxs := rfl
@[simp] theorem Block.setWear_field_queues (n k : Nat) (v : Wear) : (b.setWear n k v).queues = b.queues := rfl
@[simp] theorem Block.setWear_field_cmds (n k : Nat) (v : Wear) : (b.setWear n k v).cmds = b.cmds := rfl
@[simp] theorem Block.setWear_field_harnesses (n k : Nat) (v : Wear) : (b.setWear n k v).harnesses = b.harnesses := rfl
@[simp] theorem Block.setWear_field_engines (n k : Nat) (v : Wear) : (b.setWear n k v).engines = b.engines := rfl
@[simp] theorem Block.setWear_field_tasks (n k : Nat) (v : Wear) : (b.setWear n k v).tasks = b.tasks := rfl
@[simp] theorem Block.setWear_field_groups (n k : Nat) (v : Wear) : (b.setWear n k v).groups = b.groups := rfl
@[simp] theorem Block.setWear_field_lastLight (n k : Nat) (v : Wear) : (b.setWear n k v).lastLight = b.lastLight := rfl
@[simp] theorem Block.setWear_field_lastWake (n k : Nat) (v : Wear) : (b.setWear n k v).lastWake = b.lastWake := rfl
@[simp] theorem Block.setWear_field_dev (n k : Nat) (v : Wear) : (b.setWear n k v).dev = b.dev := rfl
@[simp] theorem Block.setWear_field_host (n k : Nat) (v : Wear) : (b.setWear n k v).host = b.host := rfl
@[simp] theorem Block.setWear_field_spm (n k : Nat) (v : Wear) : (b.setWear n k v).spm = b.spm := rfl
@[simp] theorem Block.setWear_field_ssc (n k : Nat) (v : Wear) : (b.setWear n k v).ssc = b.ssc := rfl
@[simp] theorem Block.setWear_field_chanOk (n k : Nat) (v : Wear) : (b.setWear n k v).chanOk = b.chanOk := rfl
@[simp] theorem Block.setWear_field_capMb (n k : Nat) (v : Wear) : (b.setWear n k v).capMb = b.capMb := rfl
@[simp] theorem Block.setWear_field_layChan (n k : Nat) (v : Wear) : (b.setWear n k v).layChan = b.layChan := rfl
@[simp] theorem Block.setWear_field_layMb (n k : Nat) (v : Wear) : (b.setWear n k v).layMb = b.layMb := rfl
@[simp] theorem Block.setWear_field_slots (n k : Nat) (v : Wear) : (b.setWear n k v).slots = b.slots := rfl
@[simp] theorem Block.setWear_field_vids (n k : Nat) (v : Wear) : (b.setWear n k v).vids = b.vids := rfl
@[simp] theorem Block.setWear_field_impBusy (n k : Nat) (v : Wear) : (b.setWear n k v).impBusy = b.impBusy := rfl
@[simp] theorem Block.setWear_field_waiters (n k : Nat) (v : Wear) : (b.setWear n k v).waiters = b.waiters := rfl
@[simp] theorem Block.setWear_field_waitHold (n k : Nat) (v : Wear) : (b.setWear n k v).waitHold = b.waitHold := rfl
@[simp] theorem Block.setWear_field_bounds (n k : Nat) (v : Wear) : (b.setWear n k v).bounds = b.bounds := rfl
@[simp] theorem Block.setWear_field_heldSigs (n k : Nat) (v : Wear) : (b.setWear n k v).heldSigs = b.heldSigs := rfl
@[simp] theorem Block.setWear_field_versions (n k : Nat) (v : Wear) : (b.setWear n k v).versions = b.versions := rfl
@[simp] theorem Block.setWear_field_lastEpoch (n k : Nat) (v : Wear) : (b.setWear n k v).lastEpoch = b.lastEpoch := rfl
@[simp] theorem Block.setWear_field_retired (n k : Nat) (v : Wear) : (b.setWear n k v).retired = b.retired := rfl
@[simp] theorem Block.setWear_field_descHold (n k : Nat) (v : Wear) : (b.setWear n k v).descHold = b.descHold := rfl
@[simp] theorem Block.setWear_field_lanes (n k : Nat) (v : Wear) : (b.setWear n k v).lanes = b.lanes := rfl
@[simp] theorem Block.setWear_field_maps (n k : Nat) (v : Wear) : (b.setWear n k v).maps = b.maps := rfl
@[simp] theorem Block.setWear_field_nextMap (n k : Nat) (v : Wear) : (b.setWear n k v).nextMap = b.nextMap := rfl
@[simp] theorem Block.setWear_field_boot (n k : Nat) (v : Wear) : (b.setWear n k v).boot = b.boot := rfl
@[simp] theorem Block.setWear_field_rangeCache (n k : Nat) (v : Wear) : (b.setWear n k v).rangeCache = b.rangeCache := rfl
@[simp] theorem Block.setWear_field_pageCache (n k : Nat) (v : Wear) : (b.setWear n k v).pageCache = b.pageCache := rfl
@[simp] theorem Block.setWear_field_atsCache (n k : Nat) (v : Wear) : (b.setWear n k v).atsCache = b.atsCache := rfl
@[simp] theorem Block.setWear_field_atsAsked (n k : Nat) (v : Wear) : (b.setWear n k v).atsAsked = b.atsAsked := rfl
@[simp] theorem Block.setWear_field_walks (n k : Nat) (v : Wear) : (b.setWear n k v).walks = b.walks := rfl
@[simp] theorem Block.setWear_field_faults (n k : Nat) (v : Wear) : (b.setWear n k v).faults = b.faults := rfl
@[simp] theorem Block.setWear_field_faultWait (n k : Nat) (v : Wear) : (b.setWear n k v).faultWait = b.faultWait := rfl
@[simp] theorem Block.setWear_field_advices (n k : Nat) (v : Wear) : (b.setWear n k v).advices = b.advices := rfl
@[simp] theorem Block.setWear_field_pools (n k : Nat) (v : Wear) : (b.setWear n k v).pools = b.pools := rfl
@[simp] theorem Block.setWear_field_fcrBase (n k : Nat) (v : Wear) : (b.setWear n k v).fcrBase = b.fcrBase := rfl
@[simp] theorem Block.setWear_field_fcrWait (n k : Nat) (v : Wear) : (b.setWear n k v).fcrWait = b.fcrWait := rfl
@[simp] theorem Block.setWear_field_fcrStuck (n k : Nat) (v : Wear) : (b.setWear n k v).fcrStuck = b.fcrStuck := rfl
@[simp] theorem Block.setWear_field_fcrFull (n k : Nat) (v : Wear) : (b.setWear n k v).fcrFull = b.fcrFull := rfl
@[simp] theorem Block.setWear_field_tabFrames (n k : Nat) (v : Wear) : (b.setWear n k v).tabFrames = b.tabFrames := rfl
@[simp] theorem Block.setWear_field_invBusy (n k : Nat) (v : Wear) : (b.setWear n k v).invBusy = b.invBusy := rfl
@[simp] theorem Block.setWear_field_atsInvs (n k : Nat) (v : Wear) : (b.setWear n k v).atsInvs = b.atsInvs := rfl
@[simp] theorem Block.setWear_field_ledger (n k : Nat) (v : Wear) : (b.setWear n k v).ledger = b.ledger := rfl
@[simp] theorem Block.setWear_field_cad (n k : Nat) (v : Wear) : (b.setWear n k v).cad = b.cad := rfl
@[simp] theorem Block.setWear_field_ll (n k : Nat) (v : Wear) : (b.setWear n k v).ll = b.ll := rfl
@[simp] theorem Block.setWear_field_micro (n k : Nat) (v : Wear) : (b.setWear n k v).micro = b.micro := rfl
@[simp] theorem Block.setWear_field_store (n k : Nat) (v : Wear) : (b.setWear n k v).store = b.store := rfl
@[simp] theorem Block.setWear_field_mc (n k : Nat) (v : Wear) : (b.setWear n k v).mc = b.mc := rfl
@[simp] theorem Block.setWear_field_coh (n k : Nat) (v : Wear) : (b.setWear n k v).coh = b.coh := rfl
@[simp] theorem Block.setWear_field_ports (n k : Nat) (v : Wear) : (b.setWear n k v).ports = b.ports := rfl
@[simp] theorem Block.setWear_field_sync (n k : Nat) (v : Wear) : (b.setWear n k v).sync = b.sync := rfl
@[simp] theorem Block.setWear_field_seen (n k : Nat) (v : Wear) : (b.setWear n k v).seen = b.seen := rfl
@[simp] theorem Block.setWear_field_linkNotes (n k : Nat) (v : Wear) : (b.setWear n k v).linkNotes = b.linkNotes := rfl
@[simp] theorem Block.setWear_field_order (n k : Nat) (v : Wear) : (b.setWear n k v).order = b.order := rfl
@[simp] theorem Block.setWear_field_l3Done (n k : Nat) (v : Wear) : (b.setWear n k v).l3Done = b.l3Done := rfl
@[simp] theorem Block.setWear_field_stallBusy (n k : Nat) (v : Wear) : (b.setWear n k v).stallBusy = b.stallBusy := rfl
@[simp] theorem Block.setWear_field_pwr (n k : Nat) (v : Wear) : (b.setWear n k v).pwr = b.pwr := rfl
@[simp] theorem Block.setWear_field_wdCycles (n k : Nat) (v : Wear) : (b.setWear n k v).wdCycles = b.wdCycles := rfl
@[simp] theorem Block.setWear_field_poison (n k : Nat) (v : Wear) : (b.setWear n k v).poison = b.poison := rfl
@[simp] theorem Block.setWear_field_retry (n k : Nat) (v : Wear) : (b.setWear n k v).retry = b.retry := rfl
@[simp] theorem Block.setWear_field_held (n k : Nat) (v : Wear) : (b.setWear n k v).held = b.held := rfl
@[simp] theorem Block.setWear_field_swapping (n k : Nat) (v : Wear) : (b.setWear n k v).swapping = b.swapping := rfl
@[simp] theorem Block.setWear_field_retireReq (n k : Nat) (v : Wear) : (b.setWear n k v).retireReq = b.retireReq := rfl
@[simp] theorem Block.setWear_field_stamps (n k : Nat) (v : Wear) : (b.setWear n k v).stamps = b.stamps := rfl
@[simp] theorem Block.setWear_field_trace (n k : Nat) (v : Wear) : (b.setWear n k v).trace = b.trace := rfl
@[simp] theorem Block.setWear_field_bps (n k : Nat) (v : Wear) : (b.setWear n k v).bps = b.bps := rfl
@[simp] theorem Block.setWear_field_stop (n k : Nat) (v : Wear) : (b.setWear n k v).stop = b.stop := rfl
@[simp] theorem Block.setWear_field_occ (n k : Nat) (v : Wear) : (b.setWear n k v).occ = b.occ := rfl
@[simp] theorem Block.setWear_field_cinder (n k : Nat) (v : Wear) : (b.setWear n k v).cinder = b.cinder := rfl
@[simp] theorem Block.setWear_field_fpDest (n k : Nat) (v : Wear) : (b.setWear n k v).fpDest = b.fpDest := rfl
@[simp] theorem Block.setWear_field_fabricOut (n k : Nat) (v : Wear) : (b.setWear n k v).fabricOut = b.fabricOut := rfl
@[simp] theorem Block.setWear_field_secOut (n k : Nat) (v : Wear) : (b.setWear n k v).secOut = b.secOut := rfl
@[simp] theorem Block.setWear_field_cycFrac (n k : Nat) (v : Wear) : (b.setWear n k v).cycFrac = b.cycFrac := rfl

@[simp] theorem Block.modCmd_field_straps (q i : Nat) (f : Cmd → Cmd) : (b.modCmd q i f).straps = b.straps := rfl
@[simp] theorem Block.modCmd_field_pins (q i : Nat) (f : Cmd → Cmd) : (b.modCmd q i f).pins = b.pins := rfl
@[simp] theorem Block.modCmd_field_st (q i : Nat) (f : Cmd → Cmd) : (b.modCmd q i f).st = b.st := rfl
@[simp] theorem Block.modCmd_field_roleSet (q i : Nat) (f : Cmd → Cmd) : (b.modCmd q i f).roleSet = b.roleSet := rfl
@[simp] theorem Block.modCmd_field_chipId (q i : Nat) (f : Cmd → Cmd) : (b.modCmd q i f).chipId = b.chipId := rfl
@[simp] theorem Block.modCmd_field_zclk (q i : Nat) (f : Cmd → Cmd) : (b.modCmd q i f).zclk = b.zclk := rfl
@[simp] theorem Block.modCmd_field_aonClk (q i : Nat) (f : Cmd → Cmd) : (b.modCmd q i f).aonClk = b.aonClk := rfl
@[simp] theorem Block.modCmd_field_fabric (q i : Nat) (f : Cmd → Cmd) : (b.modCmd q i f).fabric = b.fabric := rfl
@[simp] theorem Block.modCmd_field_freeCount (q i : Nat) (f : Cmd → Cmd) : (b.modCmd q i f).freeCount = b.freeCount := rfl
@[simp] theorem Block.modCmd_field_readData (q i : Nat) (f : Cmd → Cmd) : (b.modCmd q i f).readData = b.readData := rfl
@[simp] theorem Block.modCmd_field_regs (q i : Nat) (f : Cmd → Cmd) : (b.modCmd q i f).regs = b.regs := rfl
@[simp] theorem Block.modCmd_field_staged (q i : Nat) (f : Cmd → Cmd) : (b.modCmd q i f).staged = b.staged := rfl
@[simp] theorem Block.modCmd_field_nowLatch (q i : Nat) (f : Cmd → Cmd) : (b.modCmd q i f).nowLatch = b.nowLatch := rfl
@[simp] theorem Block.modCmd_field_sems (q i : Nat) (f : Cmd → Cmd) : (b.modCmd q i f).sems = b.sems := rfl
@[simp] theorem Block.modCmd_field_hiu (q i : Nat) (f : Cmd → Cmd) : (b.modCmd q i f).hiu = b.hiu := rfl
@[simp] theorem Block.modCmd_field_armed (q i : Nat) (f : Cmd → Cmd) : (b.modCmd q i f).armed = b.armed := rfl
@[simp] theorem Block.modCmd_field_capt (q i : Nat) (f : Cmd → Cmd) : (b.modCmd q i f).capt = b.capt := rfl
@[simp] theorem Block.modCmd_field_tableGen (q i : Nat) (f : Cmd → Cmd) : (b.modCmd q i f).tableGen = b.tableGen := rfl
@[simp] theorem Block.modCmd_field_ctxs (q i : Nat) (f : Cmd → Cmd) : (b.modCmd q i f).ctxs = b.ctxs := rfl
@[simp] theorem Block.modCmd_field_queues (q i : Nat) (f : Cmd → Cmd) : (b.modCmd q i f).queues = b.queues := rfl
@[simp] theorem Block.modCmd_field_harnesses (q i : Nat) (f : Cmd → Cmd) : (b.modCmd q i f).harnesses = b.harnesses := rfl
@[simp] theorem Block.modCmd_field_engines (q i : Nat) (f : Cmd → Cmd) : (b.modCmd q i f).engines = b.engines := rfl
@[simp] theorem Block.modCmd_field_tasks (q i : Nat) (f : Cmd → Cmd) : (b.modCmd q i f).tasks = b.tasks := rfl
@[simp] theorem Block.modCmd_field_groups (q i : Nat) (f : Cmd → Cmd) : (b.modCmd q i f).groups = b.groups := rfl
@[simp] theorem Block.modCmd_field_lastLight (q i : Nat) (f : Cmd → Cmd) : (b.modCmd q i f).lastLight = b.lastLight := rfl
@[simp] theorem Block.modCmd_field_lastWake (q i : Nat) (f : Cmd → Cmd) : (b.modCmd q i f).lastWake = b.lastWake := rfl
@[simp] theorem Block.modCmd_field_dev (q i : Nat) (f : Cmd → Cmd) : (b.modCmd q i f).dev = b.dev := rfl
@[simp] theorem Block.modCmd_field_host (q i : Nat) (f : Cmd → Cmd) : (b.modCmd q i f).host = b.host := rfl
@[simp] theorem Block.modCmd_field_spm (q i : Nat) (f : Cmd → Cmd) : (b.modCmd q i f).spm = b.spm := rfl
@[simp] theorem Block.modCmd_field_ssc (q i : Nat) (f : Cmd → Cmd) : (b.modCmd q i f).ssc = b.ssc := rfl
@[simp] theorem Block.modCmd_field_chanOk (q i : Nat) (f : Cmd → Cmd) : (b.modCmd q i f).chanOk = b.chanOk := rfl
@[simp] theorem Block.modCmd_field_capMb (q i : Nat) (f : Cmd → Cmd) : (b.modCmd q i f).capMb = b.capMb := rfl
@[simp] theorem Block.modCmd_field_layChan (q i : Nat) (f : Cmd → Cmd) : (b.modCmd q i f).layChan = b.layChan := rfl
@[simp] theorem Block.modCmd_field_layMb (q i : Nat) (f : Cmd → Cmd) : (b.modCmd q i f).layMb = b.layMb := rfl
@[simp] theorem Block.modCmd_field_slots (q i : Nat) (f : Cmd → Cmd) : (b.modCmd q i f).slots = b.slots := rfl
@[simp] theorem Block.modCmd_field_vids (q i : Nat) (f : Cmd → Cmd) : (b.modCmd q i f).vids = b.vids := rfl
@[simp] theorem Block.modCmd_field_impBusy (q i : Nat) (f : Cmd → Cmd) : (b.modCmd q i f).impBusy = b.impBusy := rfl
@[simp] theorem Block.modCmd_field_waiters (q i : Nat) (f : Cmd → Cmd) : (b.modCmd q i f).waiters = b.waiters := rfl
@[simp] theorem Block.modCmd_field_waitHold (q i : Nat) (f : Cmd → Cmd) : (b.modCmd q i f).waitHold = b.waitHold := rfl
@[simp] theorem Block.modCmd_field_bounds (q i : Nat) (f : Cmd → Cmd) : (b.modCmd q i f).bounds = b.bounds := rfl
@[simp] theorem Block.modCmd_field_heldSigs (q i : Nat) (f : Cmd → Cmd) : (b.modCmd q i f).heldSigs = b.heldSigs := rfl
@[simp] theorem Block.modCmd_field_versions (q i : Nat) (f : Cmd → Cmd) : (b.modCmd q i f).versions = b.versions := rfl
@[simp] theorem Block.modCmd_field_lastEpoch (q i : Nat) (f : Cmd → Cmd) : (b.modCmd q i f).lastEpoch = b.lastEpoch := rfl
@[simp] theorem Block.modCmd_field_retired (q i : Nat) (f : Cmd → Cmd) : (b.modCmd q i f).retired = b.retired := rfl
@[simp] theorem Block.modCmd_field_descHold (q i : Nat) (f : Cmd → Cmd) : (b.modCmd q i f).descHold = b.descHold := rfl
@[simp] theorem Block.modCmd_field_lanes (q i : Nat) (f : Cmd → Cmd) : (b.modCmd q i f).lanes = b.lanes := rfl
@[simp] theorem Block.modCmd_field_maps (q i : Nat) (f : Cmd → Cmd) : (b.modCmd q i f).maps = b.maps := rfl
@[simp] theorem Block.modCmd_field_nextMap (q i : Nat) (f : Cmd → Cmd) : (b.modCmd q i f).nextMap = b.nextMap := rfl
@[simp] theorem Block.modCmd_field_boot (q i : Nat) (f : Cmd → Cmd) : (b.modCmd q i f).boot = b.boot := rfl
@[simp] theorem Block.modCmd_field_rangeCache (q i : Nat) (f : Cmd → Cmd) : (b.modCmd q i f).rangeCache = b.rangeCache := rfl
@[simp] theorem Block.modCmd_field_pageCache (q i : Nat) (f : Cmd → Cmd) : (b.modCmd q i f).pageCache = b.pageCache := rfl
@[simp] theorem Block.modCmd_field_atsCache (q i : Nat) (f : Cmd → Cmd) : (b.modCmd q i f).atsCache = b.atsCache := rfl
@[simp] theorem Block.modCmd_field_atsAsked (q i : Nat) (f : Cmd → Cmd) : (b.modCmd q i f).atsAsked = b.atsAsked := rfl
@[simp] theorem Block.modCmd_field_walks (q i : Nat) (f : Cmd → Cmd) : (b.modCmd q i f).walks = b.walks := rfl
@[simp] theorem Block.modCmd_field_faults (q i : Nat) (f : Cmd → Cmd) : (b.modCmd q i f).faults = b.faults := rfl
@[simp] theorem Block.modCmd_field_faultWait (q i : Nat) (f : Cmd → Cmd) : (b.modCmd q i f).faultWait = b.faultWait := rfl
@[simp] theorem Block.modCmd_field_advices (q i : Nat) (f : Cmd → Cmd) : (b.modCmd q i f).advices = b.advices := rfl
@[simp] theorem Block.modCmd_field_pools (q i : Nat) (f : Cmd → Cmd) : (b.modCmd q i f).pools = b.pools := rfl
@[simp] theorem Block.modCmd_field_fcrBase (q i : Nat) (f : Cmd → Cmd) : (b.modCmd q i f).fcrBase = b.fcrBase := rfl
@[simp] theorem Block.modCmd_field_fcrWait (q i : Nat) (f : Cmd → Cmd) : (b.modCmd q i f).fcrWait = b.fcrWait := rfl
@[simp] theorem Block.modCmd_field_fcrStuck (q i : Nat) (f : Cmd → Cmd) : (b.modCmd q i f).fcrStuck = b.fcrStuck := rfl
@[simp] theorem Block.modCmd_field_fcrFull (q i : Nat) (f : Cmd → Cmd) : (b.modCmd q i f).fcrFull = b.fcrFull := rfl
@[simp] theorem Block.modCmd_field_tabFrames (q i : Nat) (f : Cmd → Cmd) : (b.modCmd q i f).tabFrames = b.tabFrames := rfl
@[simp] theorem Block.modCmd_field_invBusy (q i : Nat) (f : Cmd → Cmd) : (b.modCmd q i f).invBusy = b.invBusy := rfl
@[simp] theorem Block.modCmd_field_atsInvs (q i : Nat) (f : Cmd → Cmd) : (b.modCmd q i f).atsInvs = b.atsInvs := rfl
@[simp] theorem Block.modCmd_field_ledger (q i : Nat) (f : Cmd → Cmd) : (b.modCmd q i f).ledger = b.ledger := rfl
@[simp] theorem Block.modCmd_field_cad (q i : Nat) (f : Cmd → Cmd) : (b.modCmd q i f).cad = b.cad := rfl
@[simp] theorem Block.modCmd_field_ll (q i : Nat) (f : Cmd → Cmd) : (b.modCmd q i f).ll = b.ll := rfl
@[simp] theorem Block.modCmd_field_micro (q i : Nat) (f : Cmd → Cmd) : (b.modCmd q i f).micro = b.micro := rfl
@[simp] theorem Block.modCmd_field_store (q i : Nat) (f : Cmd → Cmd) : (b.modCmd q i f).store = b.store := rfl
@[simp] theorem Block.modCmd_field_mc (q i : Nat) (f : Cmd → Cmd) : (b.modCmd q i f).mc = b.mc := rfl
@[simp] theorem Block.modCmd_field_coh (q i : Nat) (f : Cmd → Cmd) : (b.modCmd q i f).coh = b.coh := rfl
@[simp] theorem Block.modCmd_field_ports (q i : Nat) (f : Cmd → Cmd) : (b.modCmd q i f).ports = b.ports := rfl
@[simp] theorem Block.modCmd_field_sync (q i : Nat) (f : Cmd → Cmd) : (b.modCmd q i f).sync = b.sync := rfl
@[simp] theorem Block.modCmd_field_seen (q i : Nat) (f : Cmd → Cmd) : (b.modCmd q i f).seen = b.seen := rfl
@[simp] theorem Block.modCmd_field_linkNotes (q i : Nat) (f : Cmd → Cmd) : (b.modCmd q i f).linkNotes = b.linkNotes := rfl
@[simp] theorem Block.modCmd_field_order (q i : Nat) (f : Cmd → Cmd) : (b.modCmd q i f).order = b.order := rfl
@[simp] theorem Block.modCmd_field_l3Done (q i : Nat) (f : Cmd → Cmd) : (b.modCmd q i f).l3Done = b.l3Done := rfl
@[simp] theorem Block.modCmd_field_stallBusy (q i : Nat) (f : Cmd → Cmd) : (b.modCmd q i f).stallBusy = b.stallBusy := rfl
@[simp] theorem Block.modCmd_field_pwr (q i : Nat) (f : Cmd → Cmd) : (b.modCmd q i f).pwr = b.pwr := rfl
@[simp] theorem Block.modCmd_field_wdCycles (q i : Nat) (f : Cmd → Cmd) : (b.modCmd q i f).wdCycles = b.wdCycles := rfl
@[simp] theorem Block.modCmd_field_poison (q i : Nat) (f : Cmd → Cmd) : (b.modCmd q i f).poison = b.poison := rfl
@[simp] theorem Block.modCmd_field_retry (q i : Nat) (f : Cmd → Cmd) : (b.modCmd q i f).retry = b.retry := rfl
@[simp] theorem Block.modCmd_field_held (q i : Nat) (f : Cmd → Cmd) : (b.modCmd q i f).held = b.held := rfl
@[simp] theorem Block.modCmd_field_wear (q i : Nat) (f : Cmd → Cmd) : (b.modCmd q i f).wear = b.wear := rfl
@[simp] theorem Block.modCmd_field_swapping (q i : Nat) (f : Cmd → Cmd) : (b.modCmd q i f).swapping = b.swapping := rfl
@[simp] theorem Block.modCmd_field_retireReq (q i : Nat) (f : Cmd → Cmd) : (b.modCmd q i f).retireReq = b.retireReq := rfl
@[simp] theorem Block.modCmd_field_stamps (q i : Nat) (f : Cmd → Cmd) : (b.modCmd q i f).stamps = b.stamps := rfl
@[simp] theorem Block.modCmd_field_trace (q i : Nat) (f : Cmd → Cmd) : (b.modCmd q i f).trace = b.trace := rfl
@[simp] theorem Block.modCmd_field_bps (q i : Nat) (f : Cmd → Cmd) : (b.modCmd q i f).bps = b.bps := rfl
@[simp] theorem Block.modCmd_field_stop (q i : Nat) (f : Cmd → Cmd) : (b.modCmd q i f).stop = b.stop := rfl
@[simp] theorem Block.modCmd_field_occ (q i : Nat) (f : Cmd → Cmd) : (b.modCmd q i f).occ = b.occ := rfl
@[simp] theorem Block.modCmd_field_cinder (q i : Nat) (f : Cmd → Cmd) : (b.modCmd q i f).cinder = b.cinder := rfl
@[simp] theorem Block.modCmd_field_fpDest (q i : Nat) (f : Cmd → Cmd) : (b.modCmd q i f).fpDest = b.fpDest := rfl
@[simp] theorem Block.modCmd_field_fabricOut (q i : Nat) (f : Cmd → Cmd) : (b.modCmd q i f).fabricOut = b.fabricOut := rfl
@[simp] theorem Block.modCmd_field_secOut (q i : Nat) (f : Cmd → Cmd) : (b.modCmd q i f).secOut = b.secOut := rfl
@[simp] theorem Block.modCmd_field_cycFrac (q i : Nat) (f : Cmd → Cmd) : (b.modCmd q i f).cycFrac = b.cycFrac := rfl

@[simp] theorem Block.modTask_field_straps (c k : Nat) (f : Task → Task) : (b.modTask c k f).straps = b.straps := rfl
@[simp] theorem Block.modTask_field_pins (c k : Nat) (f : Task → Task) : (b.modTask c k f).pins = b.pins := rfl
@[simp] theorem Block.modTask_field_st (c k : Nat) (f : Task → Task) : (b.modTask c k f).st = b.st := rfl
@[simp] theorem Block.modTask_field_roleSet (c k : Nat) (f : Task → Task) : (b.modTask c k f).roleSet = b.roleSet := rfl
@[simp] theorem Block.modTask_field_chipId (c k : Nat) (f : Task → Task) : (b.modTask c k f).chipId = b.chipId := rfl
@[simp] theorem Block.modTask_field_zclk (c k : Nat) (f : Task → Task) : (b.modTask c k f).zclk = b.zclk := rfl
@[simp] theorem Block.modTask_field_aonClk (c k : Nat) (f : Task → Task) : (b.modTask c k f).aonClk = b.aonClk := rfl
@[simp] theorem Block.modTask_field_fabric (c k : Nat) (f : Task → Task) : (b.modTask c k f).fabric = b.fabric := rfl
@[simp] theorem Block.modTask_field_freeCount (c k : Nat) (f : Task → Task) : (b.modTask c k f).freeCount = b.freeCount := rfl
@[simp] theorem Block.modTask_field_readData (c k : Nat) (f : Task → Task) : (b.modTask c k f).readData = b.readData := rfl
@[simp] theorem Block.modTask_field_regs (c k : Nat) (f : Task → Task) : (b.modTask c k f).regs = b.regs := rfl
@[simp] theorem Block.modTask_field_staged (c k : Nat) (f : Task → Task) : (b.modTask c k f).staged = b.staged := rfl
@[simp] theorem Block.modTask_field_nowLatch (c k : Nat) (f : Task → Task) : (b.modTask c k f).nowLatch = b.nowLatch := rfl
@[simp] theorem Block.modTask_field_sems (c k : Nat) (f : Task → Task) : (b.modTask c k f).sems = b.sems := rfl
@[simp] theorem Block.modTask_field_hiu (c k : Nat) (f : Task → Task) : (b.modTask c k f).hiu = b.hiu := rfl
@[simp] theorem Block.modTask_field_armed (c k : Nat) (f : Task → Task) : (b.modTask c k f).armed = b.armed := rfl
@[simp] theorem Block.modTask_field_capt (c k : Nat) (f : Task → Task) : (b.modTask c k f).capt = b.capt := rfl
@[simp] theorem Block.modTask_field_tableGen (c k : Nat) (f : Task → Task) : (b.modTask c k f).tableGen = b.tableGen := rfl
@[simp] theorem Block.modTask_field_ctxs (c k : Nat) (f : Task → Task) : (b.modTask c k f).ctxs = b.ctxs := rfl
@[simp] theorem Block.modTask_field_queues (c k : Nat) (f : Task → Task) : (b.modTask c k f).queues = b.queues := rfl
@[simp] theorem Block.modTask_field_cmds (c k : Nat) (f : Task → Task) : (b.modTask c k f).cmds = b.cmds := rfl
@[simp] theorem Block.modTask_field_harnesses (c k : Nat) (f : Task → Task) : (b.modTask c k f).harnesses = b.harnesses := rfl
@[simp] theorem Block.modTask_field_engines (c k : Nat) (f : Task → Task) : (b.modTask c k f).engines = b.engines := rfl
@[simp] theorem Block.modTask_field_groups (c k : Nat) (f : Task → Task) : (b.modTask c k f).groups = b.groups := rfl
@[simp] theorem Block.modTask_field_lastLight (c k : Nat) (f : Task → Task) : (b.modTask c k f).lastLight = b.lastLight := rfl
@[simp] theorem Block.modTask_field_lastWake (c k : Nat) (f : Task → Task) : (b.modTask c k f).lastWake = b.lastWake := rfl
@[simp] theorem Block.modTask_field_dev (c k : Nat) (f : Task → Task) : (b.modTask c k f).dev = b.dev := rfl
@[simp] theorem Block.modTask_field_host (c k : Nat) (f : Task → Task) : (b.modTask c k f).host = b.host := rfl
@[simp] theorem Block.modTask_field_spm (c k : Nat) (f : Task → Task) : (b.modTask c k f).spm = b.spm := rfl
@[simp] theorem Block.modTask_field_ssc (c k : Nat) (f : Task → Task) : (b.modTask c k f).ssc = b.ssc := rfl
@[simp] theorem Block.modTask_field_chanOk (c k : Nat) (f : Task → Task) : (b.modTask c k f).chanOk = b.chanOk := rfl
@[simp] theorem Block.modTask_field_capMb (c k : Nat) (f : Task → Task) : (b.modTask c k f).capMb = b.capMb := rfl
@[simp] theorem Block.modTask_field_layChan (c k : Nat) (f : Task → Task) : (b.modTask c k f).layChan = b.layChan := rfl
@[simp] theorem Block.modTask_field_layMb (c k : Nat) (f : Task → Task) : (b.modTask c k f).layMb = b.layMb := rfl
@[simp] theorem Block.modTask_field_slots (c k : Nat) (f : Task → Task) : (b.modTask c k f).slots = b.slots := rfl
@[simp] theorem Block.modTask_field_vids (c k : Nat) (f : Task → Task) : (b.modTask c k f).vids = b.vids := rfl
@[simp] theorem Block.modTask_field_impBusy (c k : Nat) (f : Task → Task) : (b.modTask c k f).impBusy = b.impBusy := rfl
@[simp] theorem Block.modTask_field_waiters (c k : Nat) (f : Task → Task) : (b.modTask c k f).waiters = b.waiters := rfl
@[simp] theorem Block.modTask_field_waitHold (c k : Nat) (f : Task → Task) : (b.modTask c k f).waitHold = b.waitHold := rfl
@[simp] theorem Block.modTask_field_bounds (c k : Nat) (f : Task → Task) : (b.modTask c k f).bounds = b.bounds := rfl
@[simp] theorem Block.modTask_field_heldSigs (c k : Nat) (f : Task → Task) : (b.modTask c k f).heldSigs = b.heldSigs := rfl
@[simp] theorem Block.modTask_field_versions (c k : Nat) (f : Task → Task) : (b.modTask c k f).versions = b.versions := rfl
@[simp] theorem Block.modTask_field_lastEpoch (c k : Nat) (f : Task → Task) : (b.modTask c k f).lastEpoch = b.lastEpoch := rfl
@[simp] theorem Block.modTask_field_retired (c k : Nat) (f : Task → Task) : (b.modTask c k f).retired = b.retired := rfl
@[simp] theorem Block.modTask_field_descHold (c k : Nat) (f : Task → Task) : (b.modTask c k f).descHold = b.descHold := rfl
@[simp] theorem Block.modTask_field_lanes (c k : Nat) (f : Task → Task) : (b.modTask c k f).lanes = b.lanes := rfl
@[simp] theorem Block.modTask_field_maps (c k : Nat) (f : Task → Task) : (b.modTask c k f).maps = b.maps := rfl
@[simp] theorem Block.modTask_field_nextMap (c k : Nat) (f : Task → Task) : (b.modTask c k f).nextMap = b.nextMap := rfl
@[simp] theorem Block.modTask_field_boot (c k : Nat) (f : Task → Task) : (b.modTask c k f).boot = b.boot := rfl
@[simp] theorem Block.modTask_field_rangeCache (c k : Nat) (f : Task → Task) : (b.modTask c k f).rangeCache = b.rangeCache := rfl
@[simp] theorem Block.modTask_field_pageCache (c k : Nat) (f : Task → Task) : (b.modTask c k f).pageCache = b.pageCache := rfl
@[simp] theorem Block.modTask_field_atsCache (c k : Nat) (f : Task → Task) : (b.modTask c k f).atsCache = b.atsCache := rfl
@[simp] theorem Block.modTask_field_atsAsked (c k : Nat) (f : Task → Task) : (b.modTask c k f).atsAsked = b.atsAsked := rfl
@[simp] theorem Block.modTask_field_walks (c k : Nat) (f : Task → Task) : (b.modTask c k f).walks = b.walks := rfl
@[simp] theorem Block.modTask_field_faults (c k : Nat) (f : Task → Task) : (b.modTask c k f).faults = b.faults := rfl
@[simp] theorem Block.modTask_field_faultWait (c k : Nat) (f : Task → Task) : (b.modTask c k f).faultWait = b.faultWait := rfl
@[simp] theorem Block.modTask_field_advices (c k : Nat) (f : Task → Task) : (b.modTask c k f).advices = b.advices := rfl
@[simp] theorem Block.modTask_field_pools (c k : Nat) (f : Task → Task) : (b.modTask c k f).pools = b.pools := rfl
@[simp] theorem Block.modTask_field_fcrBase (c k : Nat) (f : Task → Task) : (b.modTask c k f).fcrBase = b.fcrBase := rfl
@[simp] theorem Block.modTask_field_fcrWait (c k : Nat) (f : Task → Task) : (b.modTask c k f).fcrWait = b.fcrWait := rfl
@[simp] theorem Block.modTask_field_fcrStuck (c k : Nat) (f : Task → Task) : (b.modTask c k f).fcrStuck = b.fcrStuck := rfl
@[simp] theorem Block.modTask_field_fcrFull (c k : Nat) (f : Task → Task) : (b.modTask c k f).fcrFull = b.fcrFull := rfl
@[simp] theorem Block.modTask_field_tabFrames (c k : Nat) (f : Task → Task) : (b.modTask c k f).tabFrames = b.tabFrames := rfl
@[simp] theorem Block.modTask_field_invBusy (c k : Nat) (f : Task → Task) : (b.modTask c k f).invBusy = b.invBusy := rfl
@[simp] theorem Block.modTask_field_atsInvs (c k : Nat) (f : Task → Task) : (b.modTask c k f).atsInvs = b.atsInvs := rfl
@[simp] theorem Block.modTask_field_ledger (c k : Nat) (f : Task → Task) : (b.modTask c k f).ledger = b.ledger := rfl
@[simp] theorem Block.modTask_field_cad (c k : Nat) (f : Task → Task) : (b.modTask c k f).cad = b.cad := rfl
@[simp] theorem Block.modTask_field_ll (c k : Nat) (f : Task → Task) : (b.modTask c k f).ll = b.ll := rfl
@[simp] theorem Block.modTask_field_micro (c k : Nat) (f : Task → Task) : (b.modTask c k f).micro = b.micro := rfl
@[simp] theorem Block.modTask_field_store (c k : Nat) (f : Task → Task) : (b.modTask c k f).store = b.store := rfl
@[simp] theorem Block.modTask_field_mc (c k : Nat) (f : Task → Task) : (b.modTask c k f).mc = b.mc := rfl
@[simp] theorem Block.modTask_field_coh (c k : Nat) (f : Task → Task) : (b.modTask c k f).coh = b.coh := rfl
@[simp] theorem Block.modTask_field_ports (c k : Nat) (f : Task → Task) : (b.modTask c k f).ports = b.ports := rfl
@[simp] theorem Block.modTask_field_sync (c k : Nat) (f : Task → Task) : (b.modTask c k f).sync = b.sync := rfl
@[simp] theorem Block.modTask_field_seen (c k : Nat) (f : Task → Task) : (b.modTask c k f).seen = b.seen := rfl
@[simp] theorem Block.modTask_field_linkNotes (c k : Nat) (f : Task → Task) : (b.modTask c k f).linkNotes = b.linkNotes := rfl
@[simp] theorem Block.modTask_field_order (c k : Nat) (f : Task → Task) : (b.modTask c k f).order = b.order := rfl
@[simp] theorem Block.modTask_field_l3Done (c k : Nat) (f : Task → Task) : (b.modTask c k f).l3Done = b.l3Done := rfl
@[simp] theorem Block.modTask_field_stallBusy (c k : Nat) (f : Task → Task) : (b.modTask c k f).stallBusy = b.stallBusy := rfl
@[simp] theorem Block.modTask_field_pwr (c k : Nat) (f : Task → Task) : (b.modTask c k f).pwr = b.pwr := rfl
@[simp] theorem Block.modTask_field_wdCycles (c k : Nat) (f : Task → Task) : (b.modTask c k f).wdCycles = b.wdCycles := rfl
@[simp] theorem Block.modTask_field_poison (c k : Nat) (f : Task → Task) : (b.modTask c k f).poison = b.poison := rfl
@[simp] theorem Block.modTask_field_retry (c k : Nat) (f : Task → Task) : (b.modTask c k f).retry = b.retry := rfl
@[simp] theorem Block.modTask_field_held (c k : Nat) (f : Task → Task) : (b.modTask c k f).held = b.held := rfl
@[simp] theorem Block.modTask_field_wear (c k : Nat) (f : Task → Task) : (b.modTask c k f).wear = b.wear := rfl
@[simp] theorem Block.modTask_field_swapping (c k : Nat) (f : Task → Task) : (b.modTask c k f).swapping = b.swapping := rfl
@[simp] theorem Block.modTask_field_retireReq (c k : Nat) (f : Task → Task) : (b.modTask c k f).retireReq = b.retireReq := rfl
@[simp] theorem Block.modTask_field_stamps (c k : Nat) (f : Task → Task) : (b.modTask c k f).stamps = b.stamps := rfl
@[simp] theorem Block.modTask_field_trace (c k : Nat) (f : Task → Task) : (b.modTask c k f).trace = b.trace := rfl
@[simp] theorem Block.modTask_field_bps (c k : Nat) (f : Task → Task) : (b.modTask c k f).bps = b.bps := rfl
@[simp] theorem Block.modTask_field_stop (c k : Nat) (f : Task → Task) : (b.modTask c k f).stop = b.stop := rfl
@[simp] theorem Block.modTask_field_occ (c k : Nat) (f : Task → Task) : (b.modTask c k f).occ = b.occ := rfl
@[simp] theorem Block.modTask_field_cinder (c k : Nat) (f : Task → Task) : (b.modTask c k f).cinder = b.cinder := rfl
@[simp] theorem Block.modTask_field_fpDest (c k : Nat) (f : Task → Task) : (b.modTask c k f).fpDest = b.fpDest := rfl
@[simp] theorem Block.modTask_field_fabricOut (c k : Nat) (f : Task → Task) : (b.modTask c k f).fabricOut = b.fabricOut := rfl
@[simp] theorem Block.modTask_field_secOut (c k : Nat) (f : Task → Task) : (b.modTask c k f).secOut = b.secOut := rfl
@[simp] theorem Block.modTask_field_cycFrac (c k : Nat) (f : Task → Task) : (b.modTask c k f).cycFrac = b.cycFrac := rfl

@[simp] theorem Block.modCad_field_straps (f : Cadence → Cadence) : (b.modCad f).straps = b.straps := rfl
@[simp] theorem Block.modCad_field_pins (f : Cadence → Cadence) : (b.modCad f).pins = b.pins := rfl
@[simp] theorem Block.modCad_field_st (f : Cadence → Cadence) : (b.modCad f).st = b.st := rfl
@[simp] theorem Block.modCad_field_roleSet (f : Cadence → Cadence) : (b.modCad f).roleSet = b.roleSet := rfl
@[simp] theorem Block.modCad_field_chipId (f : Cadence → Cadence) : (b.modCad f).chipId = b.chipId := rfl
@[simp] theorem Block.modCad_field_zclk (f : Cadence → Cadence) : (b.modCad f).zclk = b.zclk := rfl
@[simp] theorem Block.modCad_field_aonClk (f : Cadence → Cadence) : (b.modCad f).aonClk = b.aonClk := rfl
@[simp] theorem Block.modCad_field_fabric (f : Cadence → Cadence) : (b.modCad f).fabric = b.fabric := rfl
@[simp] theorem Block.modCad_field_freeCount (f : Cadence → Cadence) : (b.modCad f).freeCount = b.freeCount := rfl
@[simp] theorem Block.modCad_field_readData (f : Cadence → Cadence) : (b.modCad f).readData = b.readData := rfl
@[simp] theorem Block.modCad_field_regs (f : Cadence → Cadence) : (b.modCad f).regs = b.regs := rfl
@[simp] theorem Block.modCad_field_staged (f : Cadence → Cadence) : (b.modCad f).staged = b.staged := rfl
@[simp] theorem Block.modCad_field_nowLatch (f : Cadence → Cadence) : (b.modCad f).nowLatch = b.nowLatch := rfl
@[simp] theorem Block.modCad_field_sems (f : Cadence → Cadence) : (b.modCad f).sems = b.sems := rfl
@[simp] theorem Block.modCad_field_hiu (f : Cadence → Cadence) : (b.modCad f).hiu = b.hiu := rfl
@[simp] theorem Block.modCad_field_armed (f : Cadence → Cadence) : (b.modCad f).armed = b.armed := rfl
@[simp] theorem Block.modCad_field_capt (f : Cadence → Cadence) : (b.modCad f).capt = b.capt := rfl
@[simp] theorem Block.modCad_field_tableGen (f : Cadence → Cadence) : (b.modCad f).tableGen = b.tableGen := rfl
@[simp] theorem Block.modCad_field_ctxs (f : Cadence → Cadence) : (b.modCad f).ctxs = b.ctxs := rfl
@[simp] theorem Block.modCad_field_queues (f : Cadence → Cadence) : (b.modCad f).queues = b.queues := rfl
@[simp] theorem Block.modCad_field_cmds (f : Cadence → Cadence) : (b.modCad f).cmds = b.cmds := rfl
@[simp] theorem Block.modCad_field_harnesses (f : Cadence → Cadence) : (b.modCad f).harnesses = b.harnesses := rfl
@[simp] theorem Block.modCad_field_engines (f : Cadence → Cadence) : (b.modCad f).engines = b.engines := rfl
@[simp] theorem Block.modCad_field_tasks (f : Cadence → Cadence) : (b.modCad f).tasks = b.tasks := rfl
@[simp] theorem Block.modCad_field_groups (f : Cadence → Cadence) : (b.modCad f).groups = b.groups := rfl
@[simp] theorem Block.modCad_field_lastLight (f : Cadence → Cadence) : (b.modCad f).lastLight = b.lastLight := rfl
@[simp] theorem Block.modCad_field_lastWake (f : Cadence → Cadence) : (b.modCad f).lastWake = b.lastWake := rfl
@[simp] theorem Block.modCad_field_dev (f : Cadence → Cadence) : (b.modCad f).dev = b.dev := rfl
@[simp] theorem Block.modCad_field_host (f : Cadence → Cadence) : (b.modCad f).host = b.host := rfl
@[simp] theorem Block.modCad_field_spm (f : Cadence → Cadence) : (b.modCad f).spm = b.spm := rfl
@[simp] theorem Block.modCad_field_ssc (f : Cadence → Cadence) : (b.modCad f).ssc = b.ssc := rfl
@[simp] theorem Block.modCad_field_chanOk (f : Cadence → Cadence) : (b.modCad f).chanOk = b.chanOk := rfl
@[simp] theorem Block.modCad_field_capMb (f : Cadence → Cadence) : (b.modCad f).capMb = b.capMb := rfl
@[simp] theorem Block.modCad_field_layChan (f : Cadence → Cadence) : (b.modCad f).layChan = b.layChan := rfl
@[simp] theorem Block.modCad_field_layMb (f : Cadence → Cadence) : (b.modCad f).layMb = b.layMb := rfl
@[simp] theorem Block.modCad_field_slots (f : Cadence → Cadence) : (b.modCad f).slots = b.slots := rfl
@[simp] theorem Block.modCad_field_vids (f : Cadence → Cadence) : (b.modCad f).vids = b.vids := rfl
@[simp] theorem Block.modCad_field_impBusy (f : Cadence → Cadence) : (b.modCad f).impBusy = b.impBusy := rfl
@[simp] theorem Block.modCad_field_waiters (f : Cadence → Cadence) : (b.modCad f).waiters = b.waiters := rfl
@[simp] theorem Block.modCad_field_waitHold (f : Cadence → Cadence) : (b.modCad f).waitHold = b.waitHold := rfl
@[simp] theorem Block.modCad_field_bounds (f : Cadence → Cadence) : (b.modCad f).bounds = b.bounds := rfl
@[simp] theorem Block.modCad_field_heldSigs (f : Cadence → Cadence) : (b.modCad f).heldSigs = b.heldSigs := rfl
@[simp] theorem Block.modCad_field_versions (f : Cadence → Cadence) : (b.modCad f).versions = b.versions := rfl
@[simp] theorem Block.modCad_field_lastEpoch (f : Cadence → Cadence) : (b.modCad f).lastEpoch = b.lastEpoch := rfl
@[simp] theorem Block.modCad_field_retired (f : Cadence → Cadence) : (b.modCad f).retired = b.retired := rfl
@[simp] theorem Block.modCad_field_descHold (f : Cadence → Cadence) : (b.modCad f).descHold = b.descHold := rfl
@[simp] theorem Block.modCad_field_lanes (f : Cadence → Cadence) : (b.modCad f).lanes = b.lanes := rfl
@[simp] theorem Block.modCad_field_maps (f : Cadence → Cadence) : (b.modCad f).maps = b.maps := rfl
@[simp] theorem Block.modCad_field_nextMap (f : Cadence → Cadence) : (b.modCad f).nextMap = b.nextMap := rfl
@[simp] theorem Block.modCad_field_boot (f : Cadence → Cadence) : (b.modCad f).boot = b.boot := rfl
@[simp] theorem Block.modCad_field_rangeCache (f : Cadence → Cadence) : (b.modCad f).rangeCache = b.rangeCache := rfl
@[simp] theorem Block.modCad_field_pageCache (f : Cadence → Cadence) : (b.modCad f).pageCache = b.pageCache := rfl
@[simp] theorem Block.modCad_field_atsCache (f : Cadence → Cadence) : (b.modCad f).atsCache = b.atsCache := rfl
@[simp] theorem Block.modCad_field_atsAsked (f : Cadence → Cadence) : (b.modCad f).atsAsked = b.atsAsked := rfl
@[simp] theorem Block.modCad_field_walks (f : Cadence → Cadence) : (b.modCad f).walks = b.walks := rfl
@[simp] theorem Block.modCad_field_faults (f : Cadence → Cadence) : (b.modCad f).faults = b.faults := rfl
@[simp] theorem Block.modCad_field_faultWait (f : Cadence → Cadence) : (b.modCad f).faultWait = b.faultWait := rfl
@[simp] theorem Block.modCad_field_advices (f : Cadence → Cadence) : (b.modCad f).advices = b.advices := rfl
@[simp] theorem Block.modCad_field_pools (f : Cadence → Cadence) : (b.modCad f).pools = b.pools := rfl
@[simp] theorem Block.modCad_field_fcrBase (f : Cadence → Cadence) : (b.modCad f).fcrBase = b.fcrBase := rfl
@[simp] theorem Block.modCad_field_fcrWait (f : Cadence → Cadence) : (b.modCad f).fcrWait = b.fcrWait := rfl
@[simp] theorem Block.modCad_field_fcrStuck (f : Cadence → Cadence) : (b.modCad f).fcrStuck = b.fcrStuck := rfl
@[simp] theorem Block.modCad_field_fcrFull (f : Cadence → Cadence) : (b.modCad f).fcrFull = b.fcrFull := rfl
@[simp] theorem Block.modCad_field_tabFrames (f : Cadence → Cadence) : (b.modCad f).tabFrames = b.tabFrames := rfl
@[simp] theorem Block.modCad_field_invBusy (f : Cadence → Cadence) : (b.modCad f).invBusy = b.invBusy := rfl
@[simp] theorem Block.modCad_field_atsInvs (f : Cadence → Cadence) : (b.modCad f).atsInvs = b.atsInvs := rfl
@[simp] theorem Block.modCad_field_ledger (f : Cadence → Cadence) : (b.modCad f).ledger = b.ledger := rfl
@[simp] theorem Block.modCad_field_ll (f : Cadence → Cadence) : (b.modCad f).ll = b.ll := rfl
@[simp] theorem Block.modCad_field_micro (f : Cadence → Cadence) : (b.modCad f).micro = b.micro := rfl
@[simp] theorem Block.modCad_field_store (f : Cadence → Cadence) : (b.modCad f).store = b.store := rfl
@[simp] theorem Block.modCad_field_mc (f : Cadence → Cadence) : (b.modCad f).mc = b.mc := rfl
@[simp] theorem Block.modCad_field_coh (f : Cadence → Cadence) : (b.modCad f).coh = b.coh := rfl
@[simp] theorem Block.modCad_field_ports (f : Cadence → Cadence) : (b.modCad f).ports = b.ports := rfl
@[simp] theorem Block.modCad_field_sync (f : Cadence → Cadence) : (b.modCad f).sync = b.sync := rfl
@[simp] theorem Block.modCad_field_seen (f : Cadence → Cadence) : (b.modCad f).seen = b.seen := rfl
@[simp] theorem Block.modCad_field_linkNotes (f : Cadence → Cadence) : (b.modCad f).linkNotes = b.linkNotes := rfl
@[simp] theorem Block.modCad_field_order (f : Cadence → Cadence) : (b.modCad f).order = b.order := rfl
@[simp] theorem Block.modCad_field_l3Done (f : Cadence → Cadence) : (b.modCad f).l3Done = b.l3Done := rfl
@[simp] theorem Block.modCad_field_stallBusy (f : Cadence → Cadence) : (b.modCad f).stallBusy = b.stallBusy := rfl
@[simp] theorem Block.modCad_field_pwr (f : Cadence → Cadence) : (b.modCad f).pwr = b.pwr := rfl
@[simp] theorem Block.modCad_field_wdCycles (f : Cadence → Cadence) : (b.modCad f).wdCycles = b.wdCycles := rfl
@[simp] theorem Block.modCad_field_poison (f : Cadence → Cadence) : (b.modCad f).poison = b.poison := rfl
@[simp] theorem Block.modCad_field_retry (f : Cadence → Cadence) : (b.modCad f).retry = b.retry := rfl
@[simp] theorem Block.modCad_field_held (f : Cadence → Cadence) : (b.modCad f).held = b.held := rfl
@[simp] theorem Block.modCad_field_wear (f : Cadence → Cadence) : (b.modCad f).wear = b.wear := rfl
@[simp] theorem Block.modCad_field_swapping (f : Cadence → Cadence) : (b.modCad f).swapping = b.swapping := rfl
@[simp] theorem Block.modCad_field_retireReq (f : Cadence → Cadence) : (b.modCad f).retireReq = b.retireReq := rfl
@[simp] theorem Block.modCad_field_stamps (f : Cadence → Cadence) : (b.modCad f).stamps = b.stamps := rfl
@[simp] theorem Block.modCad_field_trace (f : Cadence → Cadence) : (b.modCad f).trace = b.trace := rfl
@[simp] theorem Block.modCad_field_bps (f : Cadence → Cadence) : (b.modCad f).bps = b.bps := rfl
@[simp] theorem Block.modCad_field_stop (f : Cadence → Cadence) : (b.modCad f).stop = b.stop := rfl
@[simp] theorem Block.modCad_field_occ (f : Cadence → Cadence) : (b.modCad f).occ = b.occ := rfl
@[simp] theorem Block.modCad_field_cinder (f : Cadence → Cadence) : (b.modCad f).cinder = b.cinder := rfl
@[simp] theorem Block.modCad_field_fpDest (f : Cadence → Cadence) : (b.modCad f).fpDest = b.fpDest := rfl
@[simp] theorem Block.modCad_field_fabricOut (f : Cadence → Cadence) : (b.modCad f).fabricOut = b.fabricOut := rfl
@[simp] theorem Block.modCad_field_secOut (f : Cadence → Cadence) : (b.modCad f).secOut = b.secOut := rfl
@[simp] theorem Block.modCad_field_cycFrac (f : Cadence → Cadence) : (b.modCad f).cycFrac = b.cycFrac := rfl

@[simp] theorem Block.ccMod_field_straps (f : Coherence → Coherence) : (b.ccMod f).straps = b.straps := rfl
@[simp] theorem Block.ccMod_field_pins (f : Coherence → Coherence) : (b.ccMod f).pins = b.pins := rfl
@[simp] theorem Block.ccMod_field_st (f : Coherence → Coherence) : (b.ccMod f).st = b.st := rfl
@[simp] theorem Block.ccMod_field_roleSet (f : Coherence → Coherence) : (b.ccMod f).roleSet = b.roleSet := rfl
@[simp] theorem Block.ccMod_field_chipId (f : Coherence → Coherence) : (b.ccMod f).chipId = b.chipId := rfl
@[simp] theorem Block.ccMod_field_zclk (f : Coherence → Coherence) : (b.ccMod f).zclk = b.zclk := rfl
@[simp] theorem Block.ccMod_field_aonClk (f : Coherence → Coherence) : (b.ccMod f).aonClk = b.aonClk := rfl
@[simp] theorem Block.ccMod_field_fabric (f : Coherence → Coherence) : (b.ccMod f).fabric = b.fabric := rfl
@[simp] theorem Block.ccMod_field_freeCount (f : Coherence → Coherence) : (b.ccMod f).freeCount = b.freeCount := rfl
@[simp] theorem Block.ccMod_field_readData (f : Coherence → Coherence) : (b.ccMod f).readData = b.readData := rfl
@[simp] theorem Block.ccMod_field_regs (f : Coherence → Coherence) : (b.ccMod f).regs = b.regs := rfl
@[simp] theorem Block.ccMod_field_staged (f : Coherence → Coherence) : (b.ccMod f).staged = b.staged := rfl
@[simp] theorem Block.ccMod_field_nowLatch (f : Coherence → Coherence) : (b.ccMod f).nowLatch = b.nowLatch := rfl
@[simp] theorem Block.ccMod_field_sems (f : Coherence → Coherence) : (b.ccMod f).sems = b.sems := rfl
@[simp] theorem Block.ccMod_field_hiu (f : Coherence → Coherence) : (b.ccMod f).hiu = b.hiu := rfl
@[simp] theorem Block.ccMod_field_armed (f : Coherence → Coherence) : (b.ccMod f).armed = b.armed := rfl
@[simp] theorem Block.ccMod_field_capt (f : Coherence → Coherence) : (b.ccMod f).capt = b.capt := rfl
@[simp] theorem Block.ccMod_field_tableGen (f : Coherence → Coherence) : (b.ccMod f).tableGen = b.tableGen := rfl
@[simp] theorem Block.ccMod_field_ctxs (f : Coherence → Coherence) : (b.ccMod f).ctxs = b.ctxs := rfl
@[simp] theorem Block.ccMod_field_queues (f : Coherence → Coherence) : (b.ccMod f).queues = b.queues := rfl
@[simp] theorem Block.ccMod_field_cmds (f : Coherence → Coherence) : (b.ccMod f).cmds = b.cmds := rfl
@[simp] theorem Block.ccMod_field_harnesses (f : Coherence → Coherence) : (b.ccMod f).harnesses = b.harnesses := rfl
@[simp] theorem Block.ccMod_field_engines (f : Coherence → Coherence) : (b.ccMod f).engines = b.engines := rfl
@[simp] theorem Block.ccMod_field_tasks (f : Coherence → Coherence) : (b.ccMod f).tasks = b.tasks := rfl
@[simp] theorem Block.ccMod_field_groups (f : Coherence → Coherence) : (b.ccMod f).groups = b.groups := rfl
@[simp] theorem Block.ccMod_field_lastLight (f : Coherence → Coherence) : (b.ccMod f).lastLight = b.lastLight := rfl
@[simp] theorem Block.ccMod_field_lastWake (f : Coherence → Coherence) : (b.ccMod f).lastWake = b.lastWake := rfl
@[simp] theorem Block.ccMod_field_dev (f : Coherence → Coherence) : (b.ccMod f).dev = b.dev := rfl
@[simp] theorem Block.ccMod_field_host (f : Coherence → Coherence) : (b.ccMod f).host = b.host := rfl
@[simp] theorem Block.ccMod_field_spm (f : Coherence → Coherence) : (b.ccMod f).spm = b.spm := rfl
@[simp] theorem Block.ccMod_field_ssc (f : Coherence → Coherence) : (b.ccMod f).ssc = b.ssc := rfl
@[simp] theorem Block.ccMod_field_chanOk (f : Coherence → Coherence) : (b.ccMod f).chanOk = b.chanOk := rfl
@[simp] theorem Block.ccMod_field_capMb (f : Coherence → Coherence) : (b.ccMod f).capMb = b.capMb := rfl
@[simp] theorem Block.ccMod_field_layChan (f : Coherence → Coherence) : (b.ccMod f).layChan = b.layChan := rfl
@[simp] theorem Block.ccMod_field_layMb (f : Coherence → Coherence) : (b.ccMod f).layMb = b.layMb := rfl
@[simp] theorem Block.ccMod_field_slots (f : Coherence → Coherence) : (b.ccMod f).slots = b.slots := rfl
@[simp] theorem Block.ccMod_field_vids (f : Coherence → Coherence) : (b.ccMod f).vids = b.vids := rfl
@[simp] theorem Block.ccMod_field_impBusy (f : Coherence → Coherence) : (b.ccMod f).impBusy = b.impBusy := rfl
@[simp] theorem Block.ccMod_field_waiters (f : Coherence → Coherence) : (b.ccMod f).waiters = b.waiters := rfl
@[simp] theorem Block.ccMod_field_waitHold (f : Coherence → Coherence) : (b.ccMod f).waitHold = b.waitHold := rfl
@[simp] theorem Block.ccMod_field_bounds (f : Coherence → Coherence) : (b.ccMod f).bounds = b.bounds := rfl
@[simp] theorem Block.ccMod_field_heldSigs (f : Coherence → Coherence) : (b.ccMod f).heldSigs = b.heldSigs := rfl
@[simp] theorem Block.ccMod_field_versions (f : Coherence → Coherence) : (b.ccMod f).versions = b.versions := rfl
@[simp] theorem Block.ccMod_field_lastEpoch (f : Coherence → Coherence) : (b.ccMod f).lastEpoch = b.lastEpoch := rfl
@[simp] theorem Block.ccMod_field_retired (f : Coherence → Coherence) : (b.ccMod f).retired = b.retired := rfl
@[simp] theorem Block.ccMod_field_descHold (f : Coherence → Coherence) : (b.ccMod f).descHold = b.descHold := rfl
@[simp] theorem Block.ccMod_field_lanes (f : Coherence → Coherence) : (b.ccMod f).lanes = b.lanes := rfl
@[simp] theorem Block.ccMod_field_maps (f : Coherence → Coherence) : (b.ccMod f).maps = b.maps := rfl
@[simp] theorem Block.ccMod_field_nextMap (f : Coherence → Coherence) : (b.ccMod f).nextMap = b.nextMap := rfl
@[simp] theorem Block.ccMod_field_boot (f : Coherence → Coherence) : (b.ccMod f).boot = b.boot := rfl
@[simp] theorem Block.ccMod_field_rangeCache (f : Coherence → Coherence) : (b.ccMod f).rangeCache = b.rangeCache := rfl
@[simp] theorem Block.ccMod_field_pageCache (f : Coherence → Coherence) : (b.ccMod f).pageCache = b.pageCache := rfl
@[simp] theorem Block.ccMod_field_atsCache (f : Coherence → Coherence) : (b.ccMod f).atsCache = b.atsCache := rfl
@[simp] theorem Block.ccMod_field_atsAsked (f : Coherence → Coherence) : (b.ccMod f).atsAsked = b.atsAsked := rfl
@[simp] theorem Block.ccMod_field_walks (f : Coherence → Coherence) : (b.ccMod f).walks = b.walks := rfl
@[simp] theorem Block.ccMod_field_faults (f : Coherence → Coherence) : (b.ccMod f).faults = b.faults := rfl
@[simp] theorem Block.ccMod_field_faultWait (f : Coherence → Coherence) : (b.ccMod f).faultWait = b.faultWait := rfl
@[simp] theorem Block.ccMod_field_advices (f : Coherence → Coherence) : (b.ccMod f).advices = b.advices := rfl
@[simp] theorem Block.ccMod_field_pools (f : Coherence → Coherence) : (b.ccMod f).pools = b.pools := rfl
@[simp] theorem Block.ccMod_field_fcrBase (f : Coherence → Coherence) : (b.ccMod f).fcrBase = b.fcrBase := rfl
@[simp] theorem Block.ccMod_field_fcrWait (f : Coherence → Coherence) : (b.ccMod f).fcrWait = b.fcrWait := rfl
@[simp] theorem Block.ccMod_field_fcrStuck (f : Coherence → Coherence) : (b.ccMod f).fcrStuck = b.fcrStuck := rfl
@[simp] theorem Block.ccMod_field_fcrFull (f : Coherence → Coherence) : (b.ccMod f).fcrFull = b.fcrFull := rfl
@[simp] theorem Block.ccMod_field_tabFrames (f : Coherence → Coherence) : (b.ccMod f).tabFrames = b.tabFrames := rfl
@[simp] theorem Block.ccMod_field_invBusy (f : Coherence → Coherence) : (b.ccMod f).invBusy = b.invBusy := rfl
@[simp] theorem Block.ccMod_field_atsInvs (f : Coherence → Coherence) : (b.ccMod f).atsInvs = b.atsInvs := rfl
@[simp] theorem Block.ccMod_field_ledger (f : Coherence → Coherence) : (b.ccMod f).ledger = b.ledger := rfl
@[simp] theorem Block.ccMod_field_cad (f : Coherence → Coherence) : (b.ccMod f).cad = b.cad := rfl
@[simp] theorem Block.ccMod_field_ll (f : Coherence → Coherence) : (b.ccMod f).ll = b.ll := rfl
@[simp] theorem Block.ccMod_field_micro (f : Coherence → Coherence) : (b.ccMod f).micro = b.micro := rfl
@[simp] theorem Block.ccMod_field_store (f : Coherence → Coherence) : (b.ccMod f).store = b.store := rfl
@[simp] theorem Block.ccMod_field_mc (f : Coherence → Coherence) : (b.ccMod f).mc = b.mc := rfl
@[simp] theorem Block.ccMod_field_ports (f : Coherence → Coherence) : (b.ccMod f).ports = b.ports := rfl
@[simp] theorem Block.ccMod_field_sync (f : Coherence → Coherence) : (b.ccMod f).sync = b.sync := rfl
@[simp] theorem Block.ccMod_field_seen (f : Coherence → Coherence) : (b.ccMod f).seen = b.seen := rfl
@[simp] theorem Block.ccMod_field_linkNotes (f : Coherence → Coherence) : (b.ccMod f).linkNotes = b.linkNotes := rfl
@[simp] theorem Block.ccMod_field_order (f : Coherence → Coherence) : (b.ccMod f).order = b.order := rfl
@[simp] theorem Block.ccMod_field_l3Done (f : Coherence → Coherence) : (b.ccMod f).l3Done = b.l3Done := rfl
@[simp] theorem Block.ccMod_field_stallBusy (f : Coherence → Coherence) : (b.ccMod f).stallBusy = b.stallBusy := rfl
@[simp] theorem Block.ccMod_field_pwr (f : Coherence → Coherence) : (b.ccMod f).pwr = b.pwr := rfl
@[simp] theorem Block.ccMod_field_wdCycles (f : Coherence → Coherence) : (b.ccMod f).wdCycles = b.wdCycles := rfl
@[simp] theorem Block.ccMod_field_poison (f : Coherence → Coherence) : (b.ccMod f).poison = b.poison := rfl
@[simp] theorem Block.ccMod_field_retry (f : Coherence → Coherence) : (b.ccMod f).retry = b.retry := rfl
@[simp] theorem Block.ccMod_field_held (f : Coherence → Coherence) : (b.ccMod f).held = b.held := rfl
@[simp] theorem Block.ccMod_field_wear (f : Coherence → Coherence) : (b.ccMod f).wear = b.wear := rfl
@[simp] theorem Block.ccMod_field_swapping (f : Coherence → Coherence) : (b.ccMod f).swapping = b.swapping := rfl
@[simp] theorem Block.ccMod_field_retireReq (f : Coherence → Coherence) : (b.ccMod f).retireReq = b.retireReq := rfl
@[simp] theorem Block.ccMod_field_stamps (f : Coherence → Coherence) : (b.ccMod f).stamps = b.stamps := rfl
@[simp] theorem Block.ccMod_field_trace (f : Coherence → Coherence) : (b.ccMod f).trace = b.trace := rfl
@[simp] theorem Block.ccMod_field_bps (f : Coherence → Coherence) : (b.ccMod f).bps = b.bps := rfl
@[simp] theorem Block.ccMod_field_stop (f : Coherence → Coherence) : (b.ccMod f).stop = b.stop := rfl
@[simp] theorem Block.ccMod_field_occ (f : Coherence → Coherence) : (b.ccMod f).occ = b.occ := rfl
@[simp] theorem Block.ccMod_field_cinder (f : Coherence → Coherence) : (b.ccMod f).cinder = b.cinder := rfl
@[simp] theorem Block.ccMod_field_fpDest (f : Coherence → Coherence) : (b.ccMod f).fpDest = b.fpDest := rfl
@[simp] theorem Block.ccMod_field_fabricOut (f : Coherence → Coherence) : (b.ccMod f).fabricOut = b.fabricOut := rfl
@[simp] theorem Block.ccMod_field_secOut (f : Coherence → Coherence) : (b.ccMod f).secOut = b.secOut := rfl
@[simp] theorem Block.ccMod_field_cycFrac (f : Coherence → Coherence) : (b.ccMod f).cycFrac = b.cycFrac := rfl

end Sys2Proof.Laws
end

