-- ==== Sys2Proof/Tests/Slice0.lean ====
section
/-!
SUPPORT. Tests. Small states that meet the conditions of the statements, clause by clause; operands that WellFormed refuses; ring
words written out from the spec's encodings; and results worked out by hand from the rules.
-/
namespace Sys2Proof.Tests

open Sys2Proof Sys2Proof.Machine Sys2Proof.Safety

/-! ### Small states -/

def on (b : Block) : State := { blk := b, pending := [] }

/-- A running block whose semaphores Port A holds, without a boot map. -/
def base : Block := Block.setReg {
  st := .run
  pins := { coreHeld := false }
  sems := (List.range 64).map fun k => (k, 1)
  chanOk := List.replicate 8 65535
  layChan := List.replicate 8 65535
  layMb := List.replicate 8 96000 } Reg.ZT_CTL 0

/-- 64 KiB of device memory at 0x10000 of context 1. -/
def m7 : Mapping := { id := 7, ctx := 1, va := 0x10000, len := 0x10000, rd := true, wr := true, at_ := true, backed := true }

/-- The base block with an OPEN context 1 that has this mapping. -/
def mb : Block := Block.setCtx { base with maps := [m7] } 1 { st := .opn }

def cm (opc : Nat) (op : Op) : Cmd := { opcode := opc, op := op, phase := .decided }

def cmc (opc : Nat) (op : Op) : Cmd := { cm opc op with ctx := 1 }

def under (opc : Nat) (op : Op) : Cmd := { opcode := opc, op := op, phase := .running }

def run1 (c : Cmd) (b : Block := base) : State := on { b with cmds := [c] }

theorem dec (c : Cmd) (b : Block) (hq : c.q = 0) (hi : c.i = 0) (hs : c.stalled = false) (hp : c.phase = .decided)
    (he : c.empty = false) (hb : (bootBusy c.opcode && ({ b with cmds := [c] } : Block).bootmap) = false) :
    Decided (run1 c b) 0 0 c.opcode c := by
  refine ⟨?_, rfl, hs, hp, he, ?_⟩
  · simp [run1, on, Block.cmd?, hq, hi]
  · rintro ⟨h1, h2⟩
    have h3 : ({ b with cmds := [c] } : Block).bootmap = true := h2
    rw [h1, h3] at hb
    cases hb

theorem und (c : Cmd) (b : Block) (hq : c.q = 0) (hi : c.i = 0) (hs : c.stalled = false) (hp : c.phase = .running) (hc : c.cancel = none) :
    Underway (run1 c b) 0 0 c.opcode c := by
  refine ⟨?_, rfl, hs, hp, hc⟩
  simp [run1, on, Block.cmd?, hq, hi]

/-- The home holds no line of a block whose caches, transactions and requests are empty. -/
theorem rest (b : Block) (h : b.down = false) (h1 : b.coh.txns = []) (h2 : b.coh.queue = []) (h3 : b.coh.caches = []) : AtRest b :=
  ⟨h, fun ps => by unfold Block.homeHolds; rw [h1, h2, h3]; rfl⟩

/-- Port A writes in the base state. -/
theorem takes_base (a : Nat) (h : (pageSem (a / 0x1000)) < 64) : Takes (on base) 1 a := by
  refine ⟨.inl rfl, rfl, rfl, .inl rfl, fun _ => ?_⟩
  have : ∀ k < 64, base.sem k = 1 := by decide
  show decide (base.sem _ = 1) = true
  exact decide_eq_true (this _ h)

/-- Port A writes in a state that has the pins, the semaphores and no stop as the base state. -/
theorem takes_of {b : Block} (a : Nat) (h : pageSem (a / 0x1000) < 64) (h1 : b.pins = base.pins) (h2 : b.sems = base.sems)
    (h3 : b.stop.stopped = false) : Takes (on b) 1 a := by
  refine ⟨.inl rfl, ?_, ?_, .inl h3, fun _ => ?_⟩
  · show b.pathUp 1 = true
    unfold Block.pathUp
    rw [h1]
    rfl
  · show b.pins.coreHeld = false
    rw [h1]
    rfl
  · have h4 : ∀ k < 64, base.sem k = 1 := by decide
    have h5 : ∀ k, b.sem k = base.sem k := fun k => by unfold Block.sem; rw [h2]
    show decide (b.sem _ = 1) = true
    exact decide_eq_true ((h5 _).trans (h4 _ h))

/-! ### The conditions of the statements can be met -/

theorem wit_IdleStepIsOneCycle : (on base).pending = [] := rfl

theorem wit_CommandFrames : ∃ t, exec (.nop 0 0) (run1 (cm 0 .nop)) = .next t ∧ t.blk ≠ (run1 (cm 0 .nop)).blk :=
  ⟨_, rfl, by decide⟩

theorem wit_StepKeepsLegal : Legal (on base).blk ∧ ∃ t, step (on base) = .next t := ⟨by constructor <;> decide, _, rfl⟩

theorem wit_CoreRowsHold : State.reset.blk.frozen = true ∧ stopActs (.nop 0 0) = false := ⟨rfl, rfl⟩

theorem wit_StrapsNeverChange : ∃ t, step (on base) = .next t := ⟨_, rfl⟩

theorem wit_EndedCommand : (run1 (cm 0 .nop)).blk.cmd? 0 0 = some (cm 0 .nop) ∧ (∀ k, (cm 0 .nop).phase ≠ .ended k) ∧ ¬((0 : Nat) = 0 ∧ (1 : Nat) = 0) :=
  ⟨rfl, fun _ h => (nomatch h), by decide⟩

theorem wit_BytesWritten : [Phys.dev 0, .host 5].length = ([1, 2] : List Byte).length ∧ [Phys.dev 0, .host 5].Nodup ∧ Phys.dev 1 ∉ [Phys.dev 0, .host 5] := by
  decide

theorem wit_PowerRows : (State.reset.blk.st = .power ∧ State.reset.blk.pwr = none)
    ∧ (State.reset.blk.setReg Reg.LG_REBASE 1).reg Reg.LG_REBASE ≠ 0 ∧ (State.reset.blk.setReg Reg.LG_REBASE 0).reg Reg.LG_REBASE = 0
    ∧ (on base).blk.pins.coreHeld = false := by decide

/-- A block in LOAD that READY finds nothing missing in. -/
def ready : Block :=
  ((({ base with
    st := .load
    roleSet := true
    boot := [(0, { valid := true, rd := true, wr := true })]
    mc := { verified := [0] } }.setReg Reg.WK_INCARNATION 1).setReg Reg.CC_JRNL_LEN 0x100000).setReg Reg.KQ0_CFG 12).setReg Reg.KQ0_BASE_LO 0x1000

theorem wit_StartRows : (Runs (on { base with st := .off }) ∧ (on { base with st := .off }).blk.st = .off)
    ∧ (Takes (on ready) 1 Reg.GLB_CTL ∧ ready.st = .load ∧ ready.readyCode = 0)
    ∧ ({ base with st := .load } : Block).readyCode ≠ 0
    ∧ base.reg Reg.ZT_FCR_SIZE = 0 ∧ (base.setReg Reg.ZT_FCR_SIZE 12).reg Reg.ZT_FCR_SIZE ≠ 0 :=
  ⟨⟨rfl, rfl⟩, ⟨takes_of _ (by decide) rfl rfl rfl, rfl, by decide⟩, by decide, by decide, by decide⟩

/-- A queue of 64 slots of an OPEN context. -/
def qb : Block := (base.setQueue 3 { st := .active, ctx := 1, qidx := 2, ringLog2 := 12, harness := some 0 }).setCtx 1 { st := .opn }

theorem wit_DoorbellAndFetch : qb.pathUp 1 = true ∧ Runs (on qb) ∧ qb.st = .run ∧ qb.queueOf? 1 2 = some 3 ∧ (qb.queue 3).takesDb = true
    ∧ (qb.queue 3).slots = 64 ∧ (64#32).toNat % 2 ^ 21 < 2 * (qb.queue 3).slots ∧ (qb.queue 3).dbCount + 128 < 2 ^ 64
    ∧ ((64#32).toNat % 2 ^ 21 + 128 - (qb.queue 3).completed) % 128 ≤ 64 ∧ ((64#32).toNat % 2 ^ 21 + 128 - (qb.queue 3).doorbell) % 128 ≤ 64
    ∧ 64 < ((65#32).toNat % 2 ^ 21 + 128 - (qb.queue 3).doorbell) % 128 ∧ 2 * (qb.queue 3).slots ≤ (128#32).toNat % 2 ^ 21 :=
  ⟨by decide, rfl, rfl, by decide⟩

/-- Queue 0 of context 1 has a NOP published at index 0 of its ring. -/
def fqB : Block := { mb.setQueue 0 { st := .active, ctx := 1, ringBase := 0x10000, ringLog2 := 12, dbCount := 1, harness := some 0 } with
  dev := [(2, 1)] }

theorem wit_RingRead : ∃ hd bs p, fqB.mayFetch 0 = true ∧ (fqB.queue 0).marks = [] ∧ (fqB.queue 0).halting = none ∧ fqB.cmd? 0 0 = none
    ∧ 0 < 2 * (fqB.queue 0).slots ∧ (fqB.touch 1 0x10000 (some (.queue 0))).down = false ∧ (fqB.touch 1 0x10000 (some (.queue 0))).mayFetch 0 = true
    ∧ (fqB.touch 1 0x10000 (some (.queue 0))).readVa 1 0x10000 64 = .ok hd ∧ (fqB.queue 0).unfetched = slotsAt 0 (ofLeBytes (hd.take 8))
    ∧ (fqB.touch 1 0x10000 (some (.queue 0))).readVa 1 0x10000 (64 * 1) = .ok bs
    ∧ (fqB.touch 1 0x10000 (some (.queue 0))).validate { cmdOf 0 0 (words64 bs) with ctx := 1 } (words64 bs) = .ok p
    ∧ (fqB.touch 1 0x10000 (some (.queue 0))).waitsSnuffed { cmdOf 0 0 (words64 bs) with ctx := 1 } = false :=
  ⟨_, _, _, by decide, rfl, rfl, rfl, by decide, by decide, by decide, rfl, by decide, rfl, rfl, by decide⟩

def indC : Cmd := { cm 0x11 (.launchInd 0x10000) with ctx := 1, phase := .ready }

theorem wit_IndirectRecord : ∃ bs, (run1 indC mb).blk.cmd? 0 0 = some indC ∧ indC.ind = none ∧ indC.record = []
    ∧ Block.clear { mb with cmds := [indC] } indC = true ∧ AtRest { mb with cmds := [indC] }
    ∧ Block.readVa { mb with cmds := [indC] } 1 0x10000 24 = .ok bs :=
  ⟨_, rfl, rfl, rfl, by decide, rest _ (by decide) rfl rfl rfl, rfl⟩

/-- A queue whose ring lies in the mapping. -/
def rb : Block := mb.setQueue 0 { st := .active, ctx := 1, ringBase := 0x10000, ringLog2 := 12 }

/-- A NOP at the index that COMPLETED_INDEX stands at has ended with OK. -/
def endedB : Block := { rb with cmds := [{ cm 0 .nop with phase := .ended 0 }] }

theorem wit_CompletionAndFreeing : (∃ b, endedB.cmd? 0 0 = some { cm 0 .nop with phase := .ended 0 } ∧ endedB.writeStatus 0 0 0 = .ok b)
    ∧ (endedB.sigsHeld 0 0 = false ∧ (endedB.queue 0).done = [] ∧ (endedB.queue 0).completed = 0
      ∧ (endedB.queues.any fun kv => kv.2.st = .draining ∨ kv.2.st = .aborting) = false)
    ∧ rb.cmd? 0 0 = none ∧ (Block.ctx (base.setCtx 1 { st := .closing }) 1).st = .closing ∧ Block.hasQueue (base.setCtx 1 { st := .closing }) 1 = false
    ∧ Block.empty (Block.freeObjects (base.setCtx 1 { st := .closing }) 1) 1 = true
    ∧ Block.empty (Block.freeObjects ({ base.setCtx 1 { st := .closing } with tasks := [{ ctx := 1 }] }) 1) 1 = false :=
  ⟨⟨_, rfl, rfl⟩, by decide⟩

def readyB : Block := { rb with cmds := [{ cm 0 .nop with phase := .ready }] }

/-- A hot block whose one ready launch is of UQ. -/
def hotB : Block := { (Block.setReg (rb.setQueue 0 { rb.queue 0 with cls := 1 }) Reg.LL_OCCUPANCY (2 ^ 31)) with
  cmds := [{ cmc 0x10 (.launch { reps := 1, cores := 1 }) with phase := .ready }] }

theorem wit_LamplighterDecision : readyB.decides = true ∧ (readyB.calm.pick.map (·.2)) = some { cm 0 .nop with phase := .ready }
    ∧ bit (readyB.calm.reg Reg.LL_OCCUPANCY) 31 = false
    ∧ hotB.decides = true ∧ bit (hotB.calm.reg Reg.LL_OCCUPANCY) 31 = true
    ∧ (hotB.calm.pick.map fun x => (x.1, x.2.coalesces)) = some (5, true)
    ∧ rb.decides = true ∧ rb.calm.pick = none ∧ (base.setReg Reg.CC_STS 1).decides = false := by decide

theorem wit_LamplighterRows : Config.windowCycles ≤ ({ base with ll := { winCycles := 65536 } } : Block).ll.winCycles
    ∧ bit (base.reg Reg.LL_OCCUPANCY) 31 = false := by decide

theorem wit_NopWaitSignal : (run1 (cm 0x30 .wait)).blk.cmd? 0 0 = some (cm 0x30 .wait) ∧ (cm 0x30 .wait).waits = []
    ∧ ({ cm 0x30 .wait with waits := [{ value := 1, gt := false, wick := 2 }] } : Cmd).waits ≠ [] ∧ ({ cm 0x31 .signal with sigs := [{ value := 1, setmax := true, wick := 2 }] } : Cmd).sigs ≠ [] := by decide

def lp : LaunchP := {}

/-- Harness 1 is ACTIVE with core 4, and serves queue 0. -/
def hlB : Block := ((mb.setHarness 1 { st := .active, cores := [4] }).setEng 4 { lit := true, harness := some 1 }).setQueue 0
  { st := .active, ctx := 1, harness := some 1 }

def launchC : Cmd := cmc 0x10 (.launch { reps := 1, cores := 1 })

theorem wit_LaunchCommands : Decided (run1 launchC hlB) 0 0 0x10 launchC
    ∧ Decided (run1 (cm 0x11 (.launchInd 0x10000)) hlB) 0 0 0x11 (cm 0x11 (.launchInd 0x10000))
    ∧ Decided (run1 (cm 0x12 (.launchPersist 1 { cores := 1 } 0 0 12)) hlB) 0 0 0x12 (cm 0x12 (.launchPersist 1 { cores := 1 } 0 0 12))
    ∧ ((run1 launchC hlB).blk.queue 0).harness = some 1 ∧ (hlB.harness 1).st = .active ∧ hlB.boundaryHeld 1 = false ∧ (hlB.harness 1).waiting = []
    ∧ (run1 launchC hlB).blk.cmds.any (fun x => x.phase = .placing) = false ∧ launchC.engs = []
    ∧ launchC.launch? = some { reps := 1, cores := 1 }
    ∧ (((hlB.harness 1).cores.filter ((run1 launchC hlB).blk.enterPlacing launchC).canPlace).take 1).length = 1
    ∧ (hlB.harness 1).cores.length < 2
    ∧ (((hlB.setEng 4 { use := .task 1 5 }).harness 1).cores.filter fun e => !(hlB.setEng 4 { use := .task 1 5 }).isBound e).length < 1 :=
  ⟨dec _ _ rfl rfl rfl rfl rfl rfl, dec _ _ rfl rfl rfl rfl rfl rfl, dec _ _ rfl rfl rfl rfl rfl rfl, by decide⟩

theorem wit_StopPersist : Decided (run1 (cm 0x13 (.stopPersist false 5))) 0 0 0x13 (cm 0x13 (.stopPersist false 5))
    ∧ base.task? 0 5 = none ∧ ({ base with tasks := [{ id := 5 }] } : Block).task? 0 5 = some { id := 5 }
    ∧ ({ id := 5 } : Task).item = none ∧ ({ id := 5 } : Task).stopAt = none ∧ ({ id := 5 } : Task).stops = [] ∧ base.allQuiet ({ id := 5 } : Task).engs = true
    ∧ Underway (run1 (under 0x13 (.stopPersist false 5))) 0 0 0x13 (under 0x13 (.stopPersist false 5)) :=
  ⟨dec _ _ rfl rfl rfl rfl rfl rfl, rfl, rfl, rfl, rfl, rfl, by decide, und _ _ rfl rfl rfl rfl rfl⟩

def copyC : Cmd := cmc 0x20 (.copy 0x10000 0x10100 4 0 0 0 0)
def fillC : Cmd := cmc 0x21 (.fill 0x10000 0xAB 4 0 0 0)

theorem wit_CopyAndFill : ∃ xs ps qs, Decided (run1 copyC mb) 0 0 0x20 copyC ∧ copyC.needsPlace = false
    ∧ AtRest (((run1 copyC mb).blk.dmaTouch copyC 0 0x10000 4).dmaTouch copyC 0 0x10100 4)
    ∧ (((run1 copyC mb).blk.dmaTouch copyC 0 0x10000 4).dmaTouch copyC 0 0x10100 4).dmaRead copyC 0 copyC.srcEng 0x10000 4 = .ok xs
    ∧ (((run1 copyC mb).blk.dmaTouch copyC 0 0x10000 4).dmaTouch copyC 0 0x10100 4).dmaPlaces copyC 0 0x10100 4 = .ok ps
    ∧ Decided (run1 fillC mb) 0 0 0x21 fillC ∧ fillC.needsPlace = false ∧ AtRest ((run1 fillC mb).blk.dmaTouch fillC 0 0x10000 4)
    ∧ ((run1 fillC mb).blk.dmaTouch fillC 0 0x10000 4).dmaPlaces fillC 0 0x10000 4 = .ok qs :=
  ⟨_, _, _, dec _ _ rfl rfl rfl rfl rfl rfl, rfl, rest _ (by decide) rfl rfl rfl, rfl, rfl, dec _ _ rfl rfl rfl rfl rfl rfl, rfl,
    rest _ (by decide) rfl rfl rfl, rfl⟩

theorem wit_CopyPlaced : Decided (run1 (cm 0x20 (.copy 0 0 4 1 0 0 0))) 0 0 0x20 (cm 0x20 (.copy 0 0 4 1 0 0 0))
    ∧ (cm 0x20 (.copy 0 0 4 1 0 0 0)).needsPlace = true ∧ Decided (run1 (cm 0x21 (.fill 0 0 4 0 1 0))) 0 0 0x21 (cm 0x21 (.fill 0 0 4 0 1 0))
    ∧ (cm 0x21 (.fill 0 0 4 0 1 0)).needsPlace = true :=
  ⟨dec _ _ rfl rfl rfl rfl rfl rfl, rfl, dec _ _ rfl rfl rfl rfl rfl rfl, rfl⟩

theorem wit_FillStores : ∃ ps, AtRest ((run1 fillC mb).blk.touchRange 1 0x10000 4 (some (.cmd 0 0)))
    ∧ ((run1 fillC mb).blk.touchRange 1 0x10000 4 (some (.cmd 0 0))).resolveN 1 needWr true 0x10000 4 = .ok ps ∧ ps.Nodup
    ∧ (fillBytes 0xAB 0 4).length = 4 := ⟨_, rest _ (by decide) rfl rfl rfl, rfl, by decide⟩

def atC (r : Nat) : Cmd := cmc 0x22 (.atomic 0 0x10000 1 0 r)

theorem wit_AtomicCommand : ∃ ps bs, Decided (run1 (atC 0) mb) 0 0 0x22 (atC 0)
    ∧ AtRest (((run1 (atC 0) mb).blk.touch 1 0x10000 (some (.cmd 0 0))).touch 1 0 (some (.cmd 0 0)))
    ∧ (((run1 (atC 0) mb).blk.touch 1 0x10000 (some (.cmd 0 0))).touch 1 0 (some (.cmd 0 0))).resolveN 1 needAt false 0x10000 8 = .ok ps
    ∧ inDev ps = true ∧ inDev [] = true
    ∧ (((run1 (atC 0) mb).blk.touch 1 0x10000 (some (.cmd 0 0))).touch 1 0 (some (.cmd 0 0))).readPlaces ps = .ok bs ∧ inDev [.host 0] = false :=
  ⟨_, _, dec _ _ rfl rfl rfl rfl rfl rfl, rest _ (by decide) rfl rfl rfl, rfl, by decide, by decide, rfl, rfl⟩

def stampC : Cmd := cmc 0x38 (.timestamp 0x10000)

def stampB : Block := ((run1 stampC mb).blk.modCmd 0 0 fun c => { c with sample := 0 }).touch 1 0x10000 (some (.cmd 0 0))

theorem wit_HintCommands : ∃ b, (Underway (run1 (under 0x24 (.prefetch 0 4))) 0 0 0x24 (under 0x24 (.prefetch 0 4)) ∧ base.faulting (.cmd 0 0) = false)
    ∧ (Decided (run1 (cm 0x24 (.prefetch 0 4))) 0 0 0x24 (cm 0x24 (.prefetch 0 4)) ∧ base.hostPages 0 0 4 = []
      ∧ ((run1 (cm 0x24 (.prefetch 0 4))).blk.setRunning 0 0).faulting (.cmd 0 0) = false)
    ∧ Decided (run1 (cm 0x25 (.advise 1 0 4))) 0 0 0x25 (cm 0x25 (.advise 1 0 4)) ∧ (base.count Reg.ZT_ADVISE 15 0 1).hostPages 0 0 4 = []
    ∧ Decided (run1 (cm 0x25 (.advise 0 0 4))) 0 0 0x25 (cm 0x25 (.advise 0 0 4))
    ∧ (Decided (run1 stampC mb) 0 0 0x38 stampC ∧ mb.ns + mb.cadence * 2 ^ 64 = 0 ∧ AtRest stampB
      ∧ stampB.writeVa 1 0x10000 (leBytes 8 0 ++ leBytes 8 0) = .ok b) :=
  ⟨_, ⟨und _ _ rfl rfl rfl rfl rfl, rfl⟩, ⟨dec _ _ rfl rfl rfl rfl rfl rfl, rfl, by decide⟩, dec _ _ rfl rfl rfl rfl rfl rfl, rfl,
    dec _ _ rfl rfl rfl rfl rfl rfl, dec _ _ rfl rfl rfl rfl rfl rfl, by decide, rest _ (by decide) rfl rfl rfl, rfl⟩

/-- A mapping whose page lies on the host. -/
def hostM : Block := { mb with maps := [{ id := 7, ctx := 1, va := 0x10000, len := 0x10000, rd := true, wr := true }] }

def preC : Cmd := cmc 0x24 (.prefetch 0x10000 4)

theorem wit_PrefetchHost : Decided (run1 preC hostM) 0 0 0x24 preC
    ∧ (((run1 preC hostM).blk.hostPages 1 0x10000 4).foldl (fun b p => b.startFault 1 p false 1 [.cmd 0 0] (.cmd 0 0))
      ((run1 preC hostM).blk.setRunning 0 0)).faulting (.cmd 0 0) = true := ⟨dec _ _ rfl rfl rfl rfl rfl rfl, by decide⟩

def markB : Block := (base.setReg Reg.OB_STOP_CTL 32).setReg Reg.OB_STOP_MARK 2

theorem wit_CadenceMarkWatch : (Decided (run1 (cm 0x39 (.cadenceWait 0))) 0 0 0x39 (cm 0x39 (.cadenceWait 0)) ∧ 0 ≤ base.cadence)
    ∧ (Decided (run1 (cm 0x39 (.cadenceWait 1))) 0 0 0x39 (cm 0x39 (.cadenceWait 1)) ∧ base.cadence < 1)
    ∧ Underway (run1 (under 0x39 (.cadenceWait 0))) 0 0 0x39 (under 0x39 (.cadenceWait 0))
    ∧ (Decided (run1 (cm 0x3A (.mark 1 2))) 0 0 0x3A (cm 0x3A (.mark 1 2)) ∧ bit (base.reg Reg.OB_STOP_CTL) 5 = false)
    ∧ (Decided (run1 (cm 0x3A (.mark 1 2)) markB) 0 0 0x3A (cm 0x3A (.mark 1 2)) ∧ bit (markB.reg Reg.OB_STOP_CTL) 5 = true
      ∧ 2 = markB.reg Reg.OB_STOP_MARK) :=
  ⟨⟨dec _ _ rfl rfl rfl rfl rfl rfl, by decide⟩, ⟨dec _ _ rfl rfl rfl rfl rfl rfl, by decide⟩, und _ _ rfl rfl rfl rfl rfl,
    ⟨dec _ _ rfl rfl rfl rfl rfl rfl, by decide⟩, dec _ _ rfl rfl rfl rfl rfl rfl, by decide, by decide⟩

def watchC : Cmd := { cmc 0x40 (.watch 0 5 0x10040) with descs := [(5, { base := 0x10000 })] }

def watchB : Block := (descFor watchC.descs 5).footprint.foldl (fun b x => b.touchRange 1 x.1 x.2 (some (.cmd 0 0))) (run1 watchC mb).blk

theorem wit_Watch : ∃ rows scales ps, Decided (run1 watchC mb) 0 0 0x40 watchC ∧ AtRest watchB
    ∧ watchB.tensorRows 1 (descFor watchC.descs 5) (if (descFor watchC.descs 5).isEmpty then 0 else (descFor watchC.descs 5).rows) 0 = .ok rows
    ∧ watchB.scaleRows 1 (descFor watchC.descs 5) (if (descFor watchC.descs 5).isEmpty then 0 else (descFor watchC.descs 5).rows) 0 = .ok scales
    ∧ watchB.resolveN 1 needWr true 0x10040 64 = .ok ps :=
  ⟨_, _, _, dec _ _ rfl rfl rfl rfl rfl rfl, rest _ (by decide) rfl rfl rfl, rfl, rfl, rfl⟩

def expB : Block := (base.setSlot 9 { alloc := true, exported := true, owner := some (1, 2) }).setReg Reg.WK_INCARNATION 1

def svcB : Block := base.setQueue 3 { st := .active, svc := true, ringLog2 := 12 }

theorem wit_RemoteRows : Decided (run1 (cm 0x32 (.signalRemote true 1 7 0))) 0 0 0x32 (cm 0x32 (.signalRemote true 1 7 0))
    ∧ 7 ≠ base.chipId ∧ base.chipId = 0
    ∧ ((expB.token 9) / 2 ^ 32 = (expB.count32 Reg.FP_RECV).reg Reg.WK_INCARNATION ∧ (expB.count32 Reg.FP_RECV).tokenSlot? (expB.token 9 % 2 ^ 32) = some 9
      ∧ ((expB.count32 Reg.FP_RECV).slot 9).snuffed = false ∧ (expB.count32 Reg.FP_RECV).paced 9 true 5 = none)
    ∧ (0#64).toNat / 2 ^ 32 ≠ (expB.count32 Reg.FP_RECV).reg Reg.WK_INCARNATION
    ∧ ((svcB.queue 3).st = .active ∧ (svcB.queue 3).svc = true ∧ (svcB.queue 3).dbCount < (64#64).toNat
      ∧ ((64#64).toNat % 128 + 128 - (svcB.queue 3).completed) % 128 ≤ (svcB.queue 3).slots ∧ (0#64).toNat ≤ (svcB.queue 3).dbCount)
    ∧ (base.queue 3).svc = false := ⟨dec _ _ rfl rfl rfl rfl rfl rfl, by decide⟩

def mp : MapP := { ctx := 1, va := 0x20000, len := 0x10000, rd := true }

def atsB : Block := mb.setCtx 1 { st := .opn, ats := true }

def unmapC : Cmd := { under 0x81 (.unmap 1 0x10000) with left := [(7, 0)] }
def unmapD : Cmd := cm 0x81 (.unmap 1 0x10000)
def invC : Cmd := { under 0x82 (.invRange 1 0x10000 4096) with left := [(7, 0)] }

/-- UNMAP takes the mapping's pins, and then its entries leave. -/
def unmapB : Block := ((run1 unmapD mb).blk.modCmd 0 0 fun c => { c with phase := .running, left := [(7, 0)] }).stopPins [7]

/-- The entries of the range that INV_RANGE names have left. -/
def invB : Block := Block.demote ((run1 invC mb).blk.dropRange 1 0x10000 4096) 7 3 0x10000 (0x10000 + 4096)

theorem wit_MappingCommands : (Decided (run1 (cm 0x80 (.map { mp with va := 0x10000 })) mb) 0 0 0x80 (cm 0x80 (.map { mp with va := 0x10000 })) ∧ OpenFor (run1 (cm 0 .nop) mb) 1
      ∧ (mb.maps.any fun x => x.ctx = 1 ∧ overlaps x.va x.len 0x10000 0x10000) = true)
    ∧ (Decided (run1 (cm 0x80 (.map mp)) atsB) 0 0 0x80 (cm 0x80 (.map mp)) ∧ (atsB.ctx 1).ats = true
      ∧ (atsB.maps.any fun x => x.ctx = 1 ∧ overlaps x.va x.len 0x20000 0x10000) = false)
    ∧ ((mb.ctx 1).ats = false ∧ (mb.pool (mb.field Reg.ZT_CTL 11 8)).length < mb.tablesNeeded 1 0x10000 false
      ∧ (mb.setPool 0 [0]).tablesNeeded 1 0x10000 true ≤ ((mb.setPool 0 [0]).pool ((mb.setPool 0 [0]).field Reg.ZT_CTL 11 8)).length)
    ∧ (Decided (run1 (cm 0x81 (.unmap 1 0x20000)) mb) 0 0 0x81 (cm 0x81 (.unmap 1 0x20000)) ∧ (mb.maps.find? fun m => m.ctx = 1 ∧ m.va = 0x20000) = none)
    ∧ (Underway (run1 unmapC mb) 0 0 0x81 unmapC ∧ (mb.map? 7).map (·.pins) = some 0 ∧ (mb.map? 7).map (·.movesIn 0 (2 ^ 65)) = some false
      ∧ ((mb.modMap 7 fun m => { m with pins := 1 }).map? 7).map (·.pins) = some 1
      ∧ (((run1 unmapC mb).blk.unmapWork 7 2).unmapEnd 7).1 = true
      ∧ ((((run1 unmapC mb).blk.unmapWork 7 2).unmapEnd 7).2.cmd? 0 0).map (·.phase) = some .running)
    ∧ (Underway (run1 invC mb) 0 0 0x82 invC ∧ ∀ m ∈ mb.maps, m.pins = 0 ∧ m.movesIn 0x10000 (0x10000 + 4096) = false) :=
  ⟨⟨dec _ _ rfl rfl rfl rfl rfl rfl, rfl, by decide⟩, ⟨dec _ _ rfl rfl rfl rfl rfl rfl, by decide, by decide⟩, by decide,
    ⟨dec _ _ rfl rfl rfl rfl rfl rfl, by decide⟩, ⟨und _ _ rfl rfl rfl rfl rfl, by decide⟩, und _ _ rfl rfl rfl rfl rfl, by decide⟩

theorem wit_UnmapAndInvRange : Decided (run1 unmapD mb) 0 0 0x81 unmapD ∧ (unmapB.map? 7).map (·.pins) = some 0
    ∧ ((unmapB.unmapWork 7 2).unmapEnd 7).1 = true ∧ (((unmapB.unmapWork 7 2).unmapEnd 7).2.cmd? 0 0).map (·.phase) = some .running
    ∧ invB.entriesLeft 7 = false ∧ (invB.cmd? 0 0).map (·.phase) = some .running
    ∧ Decided (run1 (cm 0x82 (.invRange 1 0x30000 4096)) mb) 0 0 0x82 (cm 0x82 (.invRange 1 0x30000 4096))
    ∧ ∀ m ∈ mb.maps, ¬(m.va < 0x30000 + 4096 ∧ 0x30000 < m.va + m.len) :=
  ⟨dec _ _ rfl rfl rfl rfl rfl rfl, by decide, by decide, by decide, by decide, by decide, dec _ _ rfl rfl rfl rfl rfl rfl, by decide⟩

/-- A boot map whose first gigabyte is host memory. -/
def bootB : Block := { base.setReg Reg.ZT_CTL 1 with boot := [(0, { valid := true, host := true, rd := true, wr := true })] }

/-- Context 1 under address translation services, with one translation held. -/
def atsM : Block := { atsB with atsCache := [{ pasid := 0, va := 0x10000, log2 := 16, pa := 0, rd := true, wr := true }] }

/-- Where no host address is another chip's or this one's (`Config.atsTarget` is a free value), the translation names host memory. -/
theorem wit_AtomicHost (h : ∀ pa, Config.atsTarget pa = none) : ∃ ps, Decided (run1 (atC 0) atsM) 0 0 0x22 (atC 0)
    ∧ (((run1 (atC 0) atsM).blk.touch 1 0x10000).touch 1 0).resolveN 1 needAt false 0x10000 8 = .ok ps ∧ inDev ps = false := by
  have hh : ∀ (b : Block) pa, b.hostAt pa = b.hostPlace pa := fun b pa => by unfold Block.hostAt; rw [h]
  have hr : ∀ k < 8, (((run1 (atC 0) atsM).blk.touch 1 0x10000).touch 1 0).resolve 1 (0x10000 + k) needAt false = .ok (.host k) := by
    intro k hk
    have hc : k = 0 ∨ k = 1 ∨ k = 2 ∨ k = 3 ∨ k = 4 ∨ k = 5 ∨ k = 6 ∨ k = 7 := by omega
    rcases hc with rfl | rfl | rfl | rfl | rfl | rfl | rfl | rfl <;>
      exact Eq.trans (b := (((run1 (atC 0) atsM).blk.touch 1 0x10000).touch 1 0).hostAt _) rfl ((hh _ _).trans rfl)
  refine ⟨(List.range 8).map fun k => .host k, dec _ _ rfl rfl rfl rfl rfl rfl, ?_, rfl⟩
  have h0 := hr 0 (by decide)
  have h1 := hr 1 (by decide)
  have h2 := hr 2 (by decide)
  have h3 := hr 3 (by decide)
  have h4 := hr 4 (by decide)
  have h5 := hr 5 (by decide)
  have h6 := hr 6 (by decide)
  have h7 := hr 7 (by decide)
  simp only [Block.resolveN, Nat.reduceAdd] at *
  simp only [h0, h1, h2, h3, h4, h5, h6, h7]
  rfl

def qp : QCreate := { ctx := 1, qidx := 3, ringBase := 0x10000, ringLog2 := 12, cls := 1, harness := 1, stallUs := 1000 }

def hb : Block := { mb.setHarness 1 { st := .active } with straps := {} }

/-- Context 1 has another live queue, and queue 3 of it a NOP fetched. -/
def drainB : Block := { qb.setQueue 4 { qb.queue 3 with qidx := 4 } with cmds := [cm 0x89 (.queueDestroy 1 2 false)] }

def drains (b : Block) : Block :=
  Block.setQueue { b.setRunning 0 0 with waitHold := b.waitHold.filter (· ≠ 3) } 3 { b.queue 3 with st := .draining }

theorem wit_QueueCommands : (∃ u, Decided (run1 (cm 0x88 (.queueCreate qp)) hb) 0 0 0x88 (cm 0x88 (.queueCreate qp)) ∧ OpenFor (run1 (cm 0 .nop) hb) 1
      ∧ hb.queueArgs qp 0 = .ok u ∧ hb.queueRoom qp = true ∧ hb.bootmap = false ∧ hb.freeQueue? = some 0)
    ∧ (∃ st, hb.queueArgs { qp with ringLog2 := 11 } 0 = .bad st)
    ∧ (Decided (run1 (cm 0x89 (.queueDestroy 1 2 false)) mb) 0 0 0x89 (cm 0x89 (.queueDestroy 1 2 false)) ∧ mb.queueOf? 1 2 = none)
    ∧ (drainB.queueOf? 1 2 = some 3 ∧ (drainB.queue 3).st = .active ∧ (drainB.queue 3).ctx = 1 ∧ (drainB.queue 3).qidx = 2
      ∧ (drains drainB).hasLiveQueue 1 = true ∧ drainB.inflight 3 = 0 ∧ (drainB.queue 3).marks = [])
    ∧ ({ drainB with cmds := [{ cm 0 .nop with q := 3 }] } : Block).inflight 3 ≠ 0 ∧ OpenFor (on drainB) 1
    ∧ Underway (run1 (under 0x89 (.queueDestroy 1 2 false)) mb) 0 0 0x89 (under 0x89 (.queueDestroy 1 2 false)) :=
  ⟨⟨_, dec _ _ rfl rfl rfl rfl rfl rfl, rfl, rfl, by decide, by decide, by decide⟩, ⟨_, rfl⟩, ⟨dec _ _ rfl rfl rfl rfl rfl rfl, by decide⟩, by decide,
    by decide, rfl, und _ _ rfl rfl rfl rfl rfl⟩

theorem wit_QueueRoom : (hb.setQueue 3 { st := .active, ctx := 1, qidx := 3 }).queueRoom qp = false := by decide

/-- Harness 1 has core 4, of its two, in use. -/
def hsB : Block := ((hb.setHarness 1 { st := .active, cores := [4, 5] }).setEng 4 { lit := true, harness := some 1 }).setEng 5
  { lit := true, harness := some 1 }

/-- A chip of one stack with three cores and two units, all free. -/
def gb : Block := { hb with straps := { nStacks := 1, coresPerStack := 3, coreSpares := 0, unitsPerStack := 2, unitSpares := 0 } }

theorem wit_HarnessCommands : Decided (run1 (cm 0x8A (.harnessGrow 1 1 0 1 false)) hb) 0 0 0x8A (cm 0x8A (.harnessGrow 1 1 0 1 false))
    ∧ (hb.harness 1).st = .active ∧ true ≠ (hb.harness 1).rt ∧ (hb.harness 2).st = .free
    ∧ (gb.spareEngs true).length < 4 ∧ (3 ≤ (gb.spareEngs true).length ∧ 2 ≤ (gb.spareEngs false).length)
    ∧ (gb.field Reg.RT_RESERVE_CORES 8 0 + 3 ≤ (gb.spareEngs true).length + gb.rtHeld true
      ∧ gb.field Reg.RT_RESERVE_UNITS 8 0 + 2 ≤ (gb.spareEngs false).length + gb.rtHeld false)
    ∧ hb.st = .run ∧ (hb.eng 0).lit = false ∧ ({ hb with st := .ready } : Block).st = .ready
    ∧ ([(4, 0)].all fun x => (hsB.eng x.1).lit) = true
    ∧ (Decided (run1 (cm 0x8B (.harnessShrink 1 1 0)) hb) 0 0 0x8B (cm 0x8B (.harnessShrink 1 1 0)) ∧ (hb.harness 1).cores.length < 1)
    ∧ ((hsB.harness 1).rt = false ∧ (hsB.harness 1).waiting = [] ∧ 1 < (hsB.harness 1).cores.length ∧ (hsB.eng 5).use = .free
      ∧ (hsB.eng 5).draining = false)
    ∧ (Underway (run1 { under 0x8B (.harnessShrink 1 1 0) with left := [(4, 0)] } hb) 0 0 0x8B { under 0x8B (.harnessShrink 1 1 0) with left := [(4, 0)] }
      ∧ ([((4 : Nat), (0 : Nat))].any fun x => decide (((hb.setEng 4 { draining := true }).eng x.1).use ≠ .free) || ((hb.setEng 4 { draining := true }).eng x.1).draining) = true
      ∧ ([((4 : Nat), (0 : Nat))].all fun x => decide ((hb.eng x.1).use = .free) && !(hb.eng x.1).draining) = true) :=
  ⟨dec _ _ rfl rfl rfl rfl rfl rfl, by decide, by decide, by decide, by decide, by decide, by decide, by decide, by decide, by decide, by decide,
    ⟨dec _ _ rfl rfl rfl rfl rfl rfl, by decide⟩, by decide, und _ _ rfl rfl rfl rfl rfl, by decide⟩

def verB : Block := { mb with versions := [{ ctx := 1, listId := 4, epoch := 1, st := .current }] }

/-- The record at 0x10000 names list 4 with one invocation on one core. -/
def recB : Block := { verB with cmds := [indC], dev := [(0, 4), (2, 1), (6, 1)], lastEpoch := [(1 * 65536 + 4, 1)] }

theorem wit_IndirectLaunch : ∃ bs, recB.readVa 1 0x10000 24 = .ok bs ∧ bs = [4, 0, 1, 0, 0, 0, 1] ++ List.replicate 17 0 ∧ indirectOk (words64 bs) = true
    ∧ (indirectOf (words64 bs)).argsOk = true
    ∧ ∃ p, (recB.modCmd 0 0 fun c => { c with record := words64 bs }).launchPlan 1 (indirectOf (words64 bs)) [] = .ok p
      ∧ (recB.modCmd 0 0 fun c => { c with record := words64 bs }).steps89 p = .ok () ∧ p.descs = [] :=
  ⟨_, rfl, rfl, by decide, by decide, _, rfl, rfl, rfl⟩

def loadC : Cmd := { under 0x90 (.listLoad 1 4 0x10000 64) with sample := 1, version := some (4, 1) }

def listC : Cmd := cm 0x90 (.listLoad 1 5 0x10000 64)

def listB : Block := (run1 listC mb).blk.touchRange 1 0x10000 64 (some (.cmd 0 0))

def loadB : Block := { mb with versions := [{ ctx := 1, listId := 4, epoch := 1 }] }

theorem wit_ListCommands : (∃ st, Decided (run1 (cm 0x90 (.listLoad 1 4 0x10000 64)) verB) 0 0 0x90 (cm 0x90 (.listLoad 1 4 0x10000 64))
      ∧ OpenFor (run1 (cm 0 .nop) verB) 1 ∧ verB.listConflict 1 4 false false = some st)
    ∧ (Decided (run1 (cm 0x91 (.listPatch 1 5 0x10000 64 false)) verB) 0 0 0x91 (cm 0x91 (.listPatch 1 5 0x10000 64 false))
      ∧ ∃ st, verB.listConflict 1 5 true false = some st)
    ∧ (∃ h, Decided (run1 listC mb) 0 0 0x90 listC ∧ (run1 listC mb).blk.listConflict 1 5 false false = none ∧ AtRest listB ∧ listB.readVa 1 0x10000 64 = .ok h)
    ∧ imageHeaderOk [] 64 = false
    ∧ (Decided (run1 (cm 0x92 (.listRetire 1 4)) verB) 0 0 0x92 (cm 0x92 (.listRetire 1 4)) ∧ mb.epochOf 1 4 = 0
      ∧ Block.epochOf { verB with lastEpoch := [(1 * 65536 + 4, 1)] } 1 4 ≠ 0 ∧ ((verB.versionsOf 1 4).any fun v => v.st = .loading) = false
      ∧ ((loadB.versionsOf 1 4).any fun v => v.st = .loading) = true)
    ∧ (loadC.sample = 1 ∧ Underway (run1 loadC loadB) 0 0 0x90 loadC)
    ∧ ((run1 loadC loadB).blk.atSecurity.map fun x => (x.1, x.2.inPlace, x.2.broken)) = some (loadC, false, false)
    ∧ (∃ v, verB.version? 1 4 1 = some v ∧ v.broken = false) ∧ (∀ x ∈ verB.versions, x.st ≠ .loading) ∧ verB.cmds = [] ∧ verB.tasks = [] :=
  ⟨⟨_, dec _ _ rfl rfl rfl rfl rfl rfl, rfl, rfl⟩, ⟨dec _ _ rfl rfl rfl rfl rfl rfl, _, rfl⟩,
    ⟨_, dec _ _ rfl rfl rfl rfl rfl rfl, rfl, rest _ (by decide) rfl rfl rfl, rfl⟩, by decide,
    ⟨dec _ _ rfl rfl rfl rfl rfl rfl, by decide⟩, ⟨rfl, und _ _ rfl rfl rfl rfl rfl⟩, by decide, ⟨_, rfl, rfl⟩, by decide, rfl, rfl⟩

/-- A load in progress whose image has not been handed over. -/
def readC : Cmd := { under 0x90 (.listLoad 1 4 0x10000 64) with version := some (4, 1) }
def readP : Cmd := { under 0x91 (.listPatch 1 4 0x10000 64 false) with version := some (4, 1) }

theorem wit_ListImage : ∃ bs cs, Underway (run1 readC loadB) 0 0 0x90 readC ∧ readC.sample ≠ 1 ∧ AtRest (run1 readC loadB).blk
    ∧ (run1 readC loadB).blk.readVa 1 0x10000 64 = .ok bs
    ∧ Underway (run1 readP loadB) 0 0 0x91 readP ∧ (run1 readP loadB).blk.readVa 1 0x10000 64 = .ok cs ∧ AtRest (run1 readP loadB).blk
    ∧ (checkStream [] 0).isSome = true ∧ checkStream [] 1 = none :=
  ⟨_, _, und _ _ rfl rfl rfl rfl rfl, by decide, rest _ (by decide) rfl rfl rfl, rfl, und _ _ rfl rfl rfl rfl rfl, rfl,
    rest _ (by decide) rfl rfl rfl, by decide, by decide⟩

theorem wit_WickCommands : (∃ k, Decided (run1 (cm 0xA0 (.wickAlloc 1 5 0)) mb) 0 0 0xA0 (cm 0xA0 (.wickAlloc 1 5 0)) ∧ OpenFor (run1 (cm 0 .nop) mb) 1
      ∧ mb.vid 1 5 = .free ∧ mb.freeSlot? = some k)
    ∧ Decided (run1 (cm 0xA1 (.wickFree 1 5)) mb) 0 0 0xA1 (cm 0xA1 (.wickFree 1 5))
    ∧ ((mb.setVid 1 5 (.owned 9)).vid 1 5 ≠ .free ∧ (mb.setVid 1 5 (.owned 9)).vidNamed 1 5 = false
      ∧ Block.vidNamed { mb.setVid 1 5 (.owned 9) with tasks := [{ ctx := 1, id := 2, wick := 5 }], waiters := [{ slot := 9, value := 1, gt := false, who := .task 1 2 }] } 1 5 = true)
    ∧ (mb.setVid 1 5 (.imported 9 1)).vid 1 5 = .imported 9 1
    ∧ ∃ b, Decided (run1 (cm 0xA2 (.wickExport 1 5 0x10000)) (mb.setVid 1 5 (.owned 9))) 0 0 0xA2 (cm 0xA2 (.wickExport 1 5 0x10000))
      ∧ (mb.setVid 1 5 (.owned 9)).vid 1 5 = .owned 9 ∧ AtRest ((mb.setVid 1 5 (.owned 9)).touch 1 0x10000 (some (.cmd 0 0)))
      ∧ ((mb.setVid 1 5 (.owned 9)).touch 1 0x10000 (some (.cmd 0 0))).writeVa 1 0x10000
        (leBytes 8 (((mb.setVid 1 5 (.owned 9)).touch 1 0x10000 (some (.cmd 0 0))).token 9)) = .ok b :=
  ⟨⟨_, dec _ _ rfl rfl rfl rfl rfl rfl, rfl, by decide, rfl⟩, dec _ _ rfl rfl rfl rfl rfl rfl, by decide, by decide, _,
    dec _ _ rfl rfl rfl rfl rfl rfl, by decide, rest _ (by decide) rfl rfl rfl, rfl⟩

def saveC : Cmd := cm 0xB0 (.ctxSave 1 0x10000 4096)
def restoreC : Cmd := cm 0xB1 (.ctxRestore 1 0x10000 4096)

/-- Context 1 is SAVED, and its image at 0x10000 holds no queue and no wick. -/
def savedB : Block := { mb.setCtx 1 { st := .saved } with
  dev := [(1, 0x10)] ++ (List.range 4).filterMap fun k =>
    if Config.blockId / 2 ^ (8 * k) % 256 = 0 then none else some (0x14 + k, BitVec.ofNat 8 (Config.blockId / 2 ^ (8 * k))) }

theorem wit_ContextCommands : (Decided (run1 (cm 0xB0 (.ctxSave 1 0x10000 100)) mb) 0 0 0xB0 (cm 0xB0 (.ctxSave 1 0x10000 100)) ∧ OpenFor (run1 (cm 0 .nop) mb) 1
      ∧ 100 < mb.saveLen 1)
    ∧ (Decided (run1 saveC mb) 0 0 0xB0 saveC ∧ mb.saveLen 1 ≤ 4096 ∧ ({ mb with tasks := [{ ctx := 1 }] } : Block).tasks.any (·.ctx = 1) = true
      ∧ mb.tasks.any (·.ctx = 1) = false ∧ (run1 saveC mb).blk.cmds.any (·.ctx = 1) = false)
    ∧ Decided (run1 (cm 0xB1 (.ctxRestore 1 0x10000 4096)) mb) 0 0 0xB1 (cm 0xB1 (.ctxRestore 1 0x10000 4096))
    ∧ (Decided (run1 restoreC savedB) 0 0 0xB1 restoreC ∧ (savedB.ctx 1).st = .saved ∧ 4095 < 4096) :=
  ⟨⟨dec _ _ rfl rfl rfl rfl rfl rfl, rfl, by decide⟩, ⟨dec _ _ rfl rfl rfl rfl rfl rfl, by decide⟩, dec _ _ rfl rfl rfl rfl rfl rfl,
    dec _ _ rfl rfl rfl rfl rfl rfl, by decide⟩

/-- A block whose one mapping is `m7` resolves each byte of its first page to the byte of device memory. -/
theorem resolve_m7 (b : Block) (need : Nat) (h0 : b.bootmap = false) (h1 : b.maps = [m7]) (h2 : (b.ctx 1).ats = false) (h3 : b.straps.nStacks ≠ 0)
    (h4 : 4096 ≤ b.stackBytes 0) :
    ∀ n va, 0x10000 ≤ va → va + n ≤ 0x11000 → b.resolveN 1 need true va n = .ok ((List.range' (va - 0x10000) n).map .dev)
  | 0, _, _, _ => rfl
  | n + 1, va, hl, hu => by
    have ih := resolve_m7 b need h0 h1 h2 h3 h4 n (va + 1) (by omega) (by omega)
    have hm : b.mapAt? 1 va = some m7 := by
      unfold Block.mapAt?
      rw [h1]
      have h : decide (m7.ctx = 1 ∧ m7.va ≤ va ∧ va < m7.va + m7.len) = true := decide_eq_true ⟨rfl, hl, Nat.lt_of_lt_of_le (by omega) (show 0x11000 ≤ m7.va + m7.len by decide)⟩
      rw [List.find?_cons, h]
    have hd : b.devAt (va - 0x10000) = .ok (.dev (va - 0x10000)) := by
      have e : (va - 0x10000) / 2 ^ 37 = 0 := Nat.div_eq_of_lt (by omega)
      have e2 : (va - 0x10000) % 2 ^ 37 = va - 0x10000 := Nat.mod_eq_of_lt (by omega)
      unfold Block.devAt Block.isDev
      rw [e, e2, if_pos]
      simp
      omega
    have hr : b.resolve 1 va need true = .ok (.dev (va - 0x10000)) := by
      unfold Block.resolve
      rw [h0, hm]
      simp [m7, Mapping.dead, covers, h2, hd]
    have hs : va + 1 - 0x10000 = va - 0x10000 + 1 := by omega
    rw [Block.resolveN, hr, ih, hs]
    rfl

/-- Unmarked bytes in a channel that works are read as they stand. -/
theorem read_dev (b : Block) (h0 : b.poison = []) (h1 : ∀ a, a < 4096 → b.chanFailed a = false) :
    ∀ n a, a + n ≤ 4096 → b.readPlaces ((List.range' a n).map .dev) = .ok ((List.range' a n).map (Memory.byte b.dev))
  | 0, _, _ => rfl
  | n + 1, a, hu => by
    have hr : b.readAt (.dev a) = .ok (Memory.byte b.dev a) := by
      simp [Block.readAt, Block.poisonAt, h0, h1 a (by omega)]
    have ih := read_dev b h0 h1 n (a + 1) (by omega)
    simp only [List.range'_succ, List.map_cons]
    rw [Block.readPlaces, hr]
    simp only [MRes.bind]
    rw [ih]

/-- The first burst of stack 0 lies in a channel that works. -/
theorem chan0 (b : Block) (h : (bit (nth b.chanOk 0) 0 && decide (channels (nth b.layChan 0) = List.range 16)) = true) (a : Nat) (ha : a < 4096) : b.chanFailed a = false := by
  have h0 : a / 2 ^ 37 = 0 := Nat.div_eq_of_lt (by omega)
  have h1 : a % 2 ^ 37 / 65536 = 0 := by omega
  rw [Bool.and_eq_true, decide_eq_true_eq] at h
  unfold Block.chanFailed Block.channelOf
  rw [h0, h1, h.2]
  show (!bit (nth b.chanOk 0) 0) = false
  rw [h.1]
  rfl

theorem read_m7 (b : Block) (n : Nat) (h0 : b.bootmap = false) (h1 : b.maps = [m7]) (h2 : (b.ctx 1).ats = false) (h3 : b.straps.nStacks ≠ 0)
    (h4 : 4096 ≤ b.stackBytes 0) (hn : n ≤ 4096) (h5 : b.poison = []) (h6 : ∀ a, a < 4096 → b.chanFailed a = false) :
    b.readVa 1 0x10000 n = .ok ((List.range' 0 n).map (Memory.byte b.dev)) := by
  unfold Block.readVa
  rw [resolve_m7 b needRd h0 h1 h2 h3 h4 n 0x10000 (by omega) (by omega)]
  exact read_dev b h5 h6 n 0 (by omega)

def saveB : Block := (run1 saveC mb).blk.touchRange 1 0x10000 4096 (some (.cmd 0 0))

set_option maxRecDepth 40000 in
theorem wit_SaveImage : AtRest saveB ∧ saveB.resolveN 1 needWr true 0x10000 4096 = .ok ((List.range' 0 4096).map .dev) :=
  ⟨rest _ (by decide) rfl rfl rfl, resolve_m7 saveB needWr (by decide) (by rfl) (by decide) (by decide) (by decide) 4096 0x10000 (by decide) (by decide)⟩

def restB : Block := (run1 restoreC savedB).blk.touchRange 1 0x10000 4096 (some (.cmd 0 0))
def restB2 : Block := restB.touchRange 1 0x10000 4096 (some (.cmd 0 0))
def img : List Byte := (List.range' 0 4096).map (Memory.byte restB.dev)

theorem reads_img : restB.readVa 1 0x10000 4096 = .ok img ∧ restB2.readVa 1 0x10000 4096 = .ok img :=
  ⟨read_m7 restB 4096 (by decide) (by rfl) (by decide) (by decide) (by decide) (by decide) (by rfl) (chan0 restB (by decide)),
    read_m7 restB2 4096 (by decide) (by rfl) (by decide) (by decide) (by decide) (by decide) (by rfl) (chan0 restB2 (by decide))⟩

set_option maxRecDepth 40000 in
theorem wit_RestoreImage : restB.addrCtx restoreC = 1 ∧ AtRest restB ∧ AtRest restB2 ∧ headOk img 4096 = true
    ∧ (imgField img 0 8 = 4096 ∧ imgField img 8 4 = restB.chipId ∧ imgField img 0x10 4 = 0 ∧ imgField img 0x0C 4 = 0)
    ∧ restB.slotsNeeded 0 true [] ≤ restB.freeSlots :=
  ⟨by decide, rest _ (by decide) rfl rfl rfl, rest _ (by decide) rfl rfl rfl, by decide +kernel, by decide +kernel, by decide⟩

def fb : Block := mb.setReg Reg.ZT_FCR_SIZE 12

def supC : Cmd := cmc 0xC0 (.frameSupply 0 0x10000 1)

def supB : Block := (run1 supC fb).blk.touchRange 1 0x10000 8 (some (.cmd 0 0))

theorem wit_FrameSupply : ∃ bs, Decided (run1 supC fb) 0 0 0xC0 supC ∧ AtRest supB ∧ supB.readVa 1 0x10000 8 = .ok bs
    ∧ (words64 bs).all (Block.frameOk (supB.countBursts 0 0x10000 0x10000 8 [])) = true
    ∧ (supB.countBursts 0 0x10000 0x10000 8 []).frameOk 1 = false
    ∧ 1 ≤ Block.poolRoom (supB.countBursts 0 0x10000 0x10000 8 []) 0 ∧ Block.poolRoom (supB.countBursts 0 0x10000 0x10000 8 []) 0 < 2 ^ 20 :=
  ⟨_, dec _ _ rfl rfl rfl rfl rfl rfl, rest _ (by decide) rfl rfl rfl, rfl, by decide, by decide, by decide, by decide⟩

/-! Engines, work and stalls -/

def grp (wake granted : Bool) : PGroup := { engs := [4], wake := wake, granted := granted }

/-- A launch waits in harness 1, whose core 4 is free. -/
def plB : Block := { hlB.setHarness 1 { hlB.harness 1 with waiting := [(0, 0)] } with
  versions := [{ ctx := 1, listId := 4, epoch := 1, st := .current }]
  cmds := [{ launchC with phase := .placing, version := some (4, 1) }] }

def plC : Cmd := { launchC with phase := .placing, version := some (4, 1) }

theorem wit_HalRows : ((base.setHarness 1 { st := .active }).harness 1).st = .active ∧ (base.harness 1).st ≠ .active
    ∧ ((base.setEng 4 { clearing := true }).eng 4).clearing = true ∧ ((base.setEng 4 { clearing := true }).eng 4).use = .free
    ∧ ({ base with groups := [grp false true] } : Block).groupDue false = true
    ∧ ({ base with groups := [grp true true] } : Block).groupDue true = true
    ∧ (grp false false).granted = false ∧ (grp false false).waited = false
    ∧ ({ base with groups := [grp false false] } : Block).groupDue false = true
    ∧ ({ base with groups := [grp false false], lastLight := 1 } : Block).groupDue false = false
    ∧ (grp false false).asked + Config.cyclesMs ≤ ({ base with zclk := Config.cyclesMs } : Block).zclk := by decide

theorem wit_Placement : ((plB.harness 1).st = .active ∧ plB.boundaryHeld 1 = false ∧ (∀ x ∈ plB.cmds, x.phase = .placing → x.engs = [])
      ∧ (plB.harness 1).waiting = [(0, 0)] ∧ plB.cmd? 0 0 = some plC ∧ plB.placeStatus 1 plC = none ∧ plB.choose 1 plC = some [4])
    ∧ ([4].any fun e => ((plB.reserve plC [4]).eng e).clearing) = false
    ∧ ([4].any fun e => (((plB.setEng 4 { lit := true, harness := some 1, needClear := true }).reserve plC [4]).eng e).clearing) = true
    ∧ plC.launch? = some { reps := 1, cores := 1 } ∧ (plB.invsOf 1 (4, 1) [4] 1).all (·.2 = 0) = true
    ∧ (cm 0x20 (.copy 0 0 4 1 0 0 0)).launch? = none
    ∧ (plB.setHarness 1 { plB.harness 1 with cores := [] }).placeStatus 1 plC = some 0x12 := by decide

/-- Engine 4 runs one invocation of a launch at (0, 0), its arguments empty. -/
def eb : Block := Block.setEng { mb with
  cmds := [{ cmc 0x10 (.launch { lp with cores := 1, reps := 1 }) with phase := .running, left := [(4, 1)], engs := [4] }] } 4
    { lit := true, use := .cmd 0 0, harness := some 1 }

/-- Engine 4 runs one invocation of an item of task (1, 5). -/
def tb : Block := Block.setEng { mb with tasks := [{ ctx := 1, id := 5, engs := [4], item := some { left := [(4, 1)] } }] } 4
  { lit := true, use := .task 1 5, harness := some 1 }

/-- Engine 4 has one stitch, an engine beat, in its queue. -/
def beatB : Block := eb.setEng 4 { eb.eng 4 with inq := [{ inv := 0, idx := 0, copies := 1, st := { hdr := 8, slots := [] } }] }

/-- Every stitch of engine 4's invocation has been delivered and retired. -/
def lastB : Block := { eb with lanes := [{ who := .cmd 0 0, reps := 1, inv := 1 }] }

/-- Engine 4 drains for a command that is being cancelled. -/
def drainE : Block := Block.setEng { eb with cmds := eb.cmds.map fun c => { c with cancel := some 0x31 } } 4 { eb.eng 4 with draining := true }

theorem wit_EngineRows : (((base.setEng 4 { lit := true, wickWait := some (5, 1), waitCycles := 1800 }).setReg Reg.WK_GATE_NS 1000).sleeps 4 = true
      ∧ 1000 * 9 ≤ 1800 * 5 ∧ unitBase ≤ 1024 ∧ 1023 < unitBase ∧ (base.setReg Reg.WK_GATE_NS 0).reg Reg.WK_GATE_NS = 0)
    ∧ (beatB.executes 4 = true ∧ (beatB.eng 4).use = .cmd 0 0 ∧ (beatB.cmd? 0 0).isSome = true
      ∧ (toBeat (beatB.eng 4).inv (beatB.eng 4).synced (beatB.eng 4).inq).isSome = true)
    ∧ (tb.executes 4 = true ∧ (tb.eng 4).use = .task 1 5 ∧ (tb.task? 1 5).isSome = true ∧ base.executes 4 = false)
    ∧ (lastB.executes 4 = true ∧ lastB.allDelivered 4 = true ∧ (lastB.cmd? 0 0).map (fun c => (c.phase, (takeInv 4 c.left).all (·.2 = 0))) = some (.running, true)
      ∧ toEnd (lastB.eng 4).inv (lastB.eng 4).synced (lastB.eng 4).inq = some [])
    ∧ ((base.setEng 4 { draining := true }).eng 4).draining = true ∧ ((base.setEng 4 { draining := true }).eng 4).use = .free
    ∧ ((drainE.eng 4).draining = true ∧ (drainE.eng 4).drainCycles < drainNoted ∧ (drainE.cmd? 0 0).map (fun c => (c.phase, c.cancel, c.engs))
      = some (.running, some 0x31, [4]) ∧ 0x31 ≠ retryStep)
    ∧ (drainE.setEng 4 { drainE.eng 4 with drainCycles := drainNoted }).cancelled 4 = true
    ∧ (0 : Nat) < drainNoted ∧ Block.field (base.setReg Reg.RC_DRAIN_LIMIT 1) Reg.RC_DRAIN_LIMIT 15 0 * Config.cyclesUs ≤ 1800 := by decide

/-- Task (1, 5) may take the item that its wick publishes. -/
def ib : Block := ((({ mb with tasks := [{ ctx := 1, id := 5, ring := 0x10000, wick := 2 }] } : Block).setVid 1 2 (.owned 9)).setSlot 9 { alloc := true, value := 1 })

/-- The item at index 0 of task (1, 5): no invocation, and a word that is reserved in the second form. -/
def itemB (x : Option Item) : Block := { mb with tasks := [{ ctx := 1, id := 5, ring := 0x10000, item := x }] }

theorem wit_TaskRows : (∃ bs, (ib.task? 1 5).map ib.takesItem = some true ∧ AtRest (ib.touch 1 0x10000 (some (.task 1 5)))
      ∧ (ib.touch 1 0x10000 (some (.task 1 5))).readVa 1 0x10000 64 = .ok bs)
    ∧ itemOf 0 [2 ^ 40] = some { idx := 0, reps := 1, argAddr := 0, argLen := 0, sigValue := 0, sigCtl := 0 } ∧ itemOf 0 [2 ^ 16] = none
    ∧ ib.itemStatus 1 { idx := 0, reps := 1, argAddr := 0, argLen := 0, sigValue := 0, sigCtl := 0 } = none
    ∧ (ib.invsOf 1 (0, 0) [] 1).all (·.2 = 0) = true
    ∧ (∃ b, ((itemB (some { ended := some 0 })).task? 1 5).map (fun t => (t.item, t.stalled)) = some (some { ended := some 0 }, false)
      ∧ (itemB (some { ended := some 0 })).writeHome 1 (0x10000 + 7) [BitVec.ofNat 8 0] needRd = .ok b)
    ∧ (({ ended := some 0 } : Item).hasSig = false ∧ ib.slotOf 1 2 = some 9 ∧ (ib.slot 9).snuffed = false ∧ 0 < (ib.slot 9).value)
    ∧ ((itemB none).task? 1 5).map (fun t => (t.item, (itemB none).takesItem t)) = some (none, false) :=
  ⟨⟨_, by decide, rest _ (by decide) rfl rfl rfl, rfl⟩, by decide, by decide, by decide, by decide, ⟨_, by decide, rfl⟩, by decide, by decide⟩

def budC : Cmd := { under 0x10 (.launch lp) with stallUs := 5, budget := 5 * Config.cyclesUs }

/-- A stalled WAIT and a stalled task without an item, each with its budget fresh. -/
def stalledB : Block := { mb with cmds := [{ under 0x30 .wait with stalled := true }], tasks := [{ ctx := 1, id := 5, stalled := true }] }

theorem wit_StallRows : ((run1 budC).blk.cmdBudgetRuns budC = true ∧ (run1 budC).blk.budgetUs budC.ctx budC.stallUs ≤ budC.budget / Config.cyclesUs)
    ∧ 4 * Config.cyclesUs / Config.cyclesUs < (run1 budC).blk.budgetUs budC.ctx budC.stallUs
    ∧ (tb.taskBudgetRuns { ctx := 1, id := 5, engs := [4], item := some { left := [(4, 1)] } } = true ∧ (0 : Nat) ≤ 0 / Config.cyclesUs)
    ∧ (stalledB.cmd? 0 0).map (fun c => (c.stalled, c.budget, c.onEngines)) = some (true, 0, false)
    ∧ (stalledB.task? 1 5).map (fun t => (t.stalled, t.budget, t.item, t.engs)) = some (true, 0, none, []) := by decide

def stB : Block := { (base.setReg Reg.RC_STALL_Q 0).setReg Reg.RC_STALL_IDX 0 with cmds := [{ under 0x30 .wait with stalled := true }] }
def stE : Block := { ((base.setReg Reg.RC_STALL_Q 0).setReg Reg.RC_STALL_IDX 0).setEng 4 { draining := true } with cmds := [{ under 0x10 (.launch lp) with stalled := true, engs := [4] }] }

/-- The selected task is stalled with an item in hand. -/
def stT : Block := Block.setReg { base with tasks := [{ ctx := 0, id := 0, stalled := true, item := some {} }] } Reg.RC_STALL_Q 0x80000000

theorem wit_StallOperations : Takes (on stB) 1 Reg.RC_STALL_CMD ∧ Takes (on stE) 1 Reg.RC_STALL_CMD ∧ Takes (on stT) 1 Reg.RC_STALL_CMD
    ∧ (stB.stalledCmd?.map fun c => (stB.allQuiet c.engs, c.op.target, c.engs, stB.cmd? c.q c.i == some c, c.phase)) = some (true, none, [], true, .running)
    ∧ (stE.stalledCmd?.map fun c => stE.allQuiet c.engs) = some false
    ∧ (base.setReg Reg.RC_STALL_Q 0).stalledCmd? = none ∧ (base.setReg Reg.RC_STALL_Q 0).stalledTask? = none
    ∧ (stT.stalledTask?.map fun t => (stT.allQuiet t.engs, t.item, stT.task? t.ctx t.id == some t)) = some (true, some {}, true)
    ∧ stT.stalledCmd? = none :=
  ⟨takes_of _ (by decide) rfl rfl rfl, takes_of _ (by decide) rfl rfl rfl, takes_of _ (by decide) rfl rfl rfl, by decide, by decide, by decide, by decide,
    by decide, by decide⟩

/-! Wicks, the ledger and the cadence -/

/-- A signal of slot 9 is held back by harness 1. -/
def heldB : Block := { base.setSlot 9 { alloc := true } with heldSigs := [{ slot := 9, setmax := true, value := 3, h := 1 }] }

theorem wit_WickRows : Runs (on base) ∧ ((base.setSlot 9 { alloc := true }).slot 9).alloc = true ∧ ((base.setSlot 9 { alloc := true }).slot 9).snuffed = false
    ∧ (base.setSlot 9 { alloc := true }).paced 9 true 5 = none ∧ (base.slot 9).alloc = false ∧ (base.slot 9).window = false
    ∧ ((base.setSlot 9 { alloc := true, snuffed := true }).slot 9).snuffed = true ∧ base.heldSigs = []
    ∧ (heldB.heldSigs.map (·.h) = [1] ∧ (heldB.slot 9).snuffed = false ∧ Block.paced { heldB with heldSigs := [] } 9 true 3 = none
      ∧ ∀ c ∈ heldB.cmds, c.posted = false) ∧ base.pathUp 1 = true
    ∧ (((base.setSlot 9 { alloc := true, exported := true, window := true }).slot 9).window = true
      ∧ (base.setSlot 9 { alloc := true, exported := true, window := true }).paced 9 true 5 = none) := ⟨rfl, by decide⟩

/-- The token of slot 9 stands in WK_IMP_TOKEN for virtual ID 5 of context 1. -/
def impB : Block := (((expB.setCtx 1 { st := .opn }).setReg Reg.WK_IMP_TOKEN (expB.token 9 % 2 ^ 32)).setReg Reg.WK_IMP_DEST 0x50001)

theorem wit_WickRegisterRows : Takes (on impB) 1 Reg.WK_IMP_CMD ∧ impB.impBusy = 0 ∧ Takes (on { base with impBusy := 1 }) 1 Reg.WK_IMP_CMD ∧ impB.impSlot? = some 9 ∧ impB.importStatus 1 = 0 ∧ impB.importStatus 0 ≠ 0
    ∧ impB.releaseStatus ≠ 0 ∧ (impB.setVid 1 5 (.imported 9 1)).releaseStatus = 0 ∧ (base.setReg Reg.WK_IMP_TOKEN 0).impSlot? = none :=
  ⟨takes_of _ (by decide) rfl rfl rfl, rfl, takes_of _ (by decide) rfl rfl rfl, by decide⟩

/-- Virtual IDs 5 and 6 of context 1 stand in the staged pair of bound 0. -/
def bndB : Block := { ((mb.setVid 1 5 (.owned 9)).setVid 1 6 (.owned 8)).setBound 0 { ctx := 1, prod := 5, cons := 6 } with staged := [] }

theorem wit_BoundRows : Takes (on bndB) 1 Reg.WK_BND_CTL ∧ bndB.bndSel = 0
    ∧ (let y := bndB.stagedBound 1 ((bndB.bound 0).clearFlags 0)
      (bndB.unstagePath 1 isBndReg).slotOf y.ctx y.prod = some 9 ∧ (bndB.unstagePath 1 isBndReg).slotOf y.ctx y.cons = some 8
      ∧ (bndB.ctx y.ctx).st = .opn ∧ (9 : Nat) ≠ 8)
    ∧ (let y := base.stagedBound 1 ((base.bound 0).clearFlags 0)
      (base.unstagePath 1 isBndReg).slotOf y.ctx y.prod = none) :=
  ⟨takes_of _ (by decide) rfl rfl rfl, by decide⟩

theorem wit_LedgerRows : Runs (on base) ∧ base.st = .run ∧ base.closingDue = true ∧ ({ base with st := .ready } : Block).st ≠ .run
    ∧ (∃ h : Harness, h.st ≠ .free) := ⟨rfl, rfl, rfl, by decide, { st := .active }, by decide⟩

def cwB : Block := ((((mb.setHarness 3 { st := .active }).setReg Reg.LG_H_SEL 3).setVid 1 5 (.owned 9)).setSlot 9 { alloc := true })

theorem wit_CommitWick : Takes (on cwB) 1 Reg.LG_H_COMMIT ∧ (let v := (0x10005#32).toNat ||| 2 ^ 31
    cwB.field Reg.LG_H_SEL 5 0 = 3 ∧ bits v 27 16 = 1 ∧ bits v 15 0 = 5 ∧ bit v 31 = true ∧ (cwB.ctx 1).st = .opn ∧ isDoorbell 5 = false
    ∧ (cwB.harness 3).st ≠ .free ∧ (cwB.vid 1 5).slot?.isSome = true ∧ (cwB.vid 1 5).isImport = false) :=
  ⟨takes_of _ (by decide) rfl rfl rfl, by decide⟩

theorem wit_CommitRefused : (base.ctx (bits ((0#32).toNat ||| 2 ^ 31) 27 16)).st ≠ .opn ∧ bit ((0#32).toNat ||| 2 ^ 31) 31 = true
    ∧ Takes (on base) 1 Reg.LG_H_COMMIT := ⟨by decide, by decide, takes_base _ (by decide)⟩

/-- The cadence runs on CAD_IN, locked, with a period of 1,000 clocks; its last edge was `n` clocks ago. -/
def cadB (n : Nat) : Block := { (base.setReg Reg.CAD_PERIOD 1000) with
  cad := { started := true, locked := true, src := 1, clk := 10000 + n, lastEdge := 10000 } }

theorem wit_CadenceRows : Linked (on base) ∧ Runs (on base)
    ∧ ({ base with cad := { started := true, due := true, src := 1 } } : Block).cad.src = 1
    ∧ base.bounces = false ∧ ({ base with cad := { pinAt := some 0 } } : Block).bounces = true
    ∧ (base.cad.locked = false ∧ base.cad.edges = [])
    ∧ ((cadB 900).bounces = false ∧ 9 * (cadB 900).period ≤ 10 * ((cadB 900).cad.clk - (cadB 900).cad.lastEdge)
      ∧ 2 * ((cadB 1499).cad.clk - (cadB 1499).cad.lastEdge) < 3 * (cadB 1499).period)
    ∧ 3 * (cadB 1500).period ≤ 2 * ((cadB 1500).cad.clk - (cadB 1500).cad.lastEdge) ∧ (base.setReg Reg.CAD_PERIOD 1000).period ≤ 1000
    ∧ base.tsUp? = none ∧ base.cad.relay = [] ∧ ({ base with cad := { srcPend := true } } : Block).cad.srcPend = true := ⟨rfl, rfl, by decide⟩

/-! Recovery, translation and memory -/

def jobB : Block := ((mb.setReg Reg.RC_JOB_SEL 1).setReg Reg.HANG_WD_CTL 1)

theorem wit_WatchdogAndJobs : Takes (on base) 1 Reg.HANG_WD ∧ Takes (on jobB) 1 Reg.RC_JOB_CTL
    ∧ (jobB.field Reg.HANG_WD_CTL 15 0 ≠ 0 ∧ Config.cyclesMs < wdLapsed ∧ jobB.field Reg.HANG_WD_CTL 15 0 * Config.cyclesMs ≤ Config.cyclesMs)
    ∧ base.field Reg.HANG_WD_CTL 15 0 = 0 ∧ (jobB.ctx (jobB.field Reg.RC_JOB_SEL 11 0)).st = .opn ∧ jobB.field Reg.RC_JOB_SEL 11 0 ≠ 0
    ∧ Block.stagedOr { jobB with staged := [(Reg.RC_JOB_ID, 1, 77)] } 1 Reg.RC_JOB_ID 0 = 77 ∧ base.field Reg.RC_JOB_SEL 11 0 = 0
    ∧ (mb.setCtx 1 { st := .opn, job := 77, jobValid := true }).jobs.contains 77 = true ∧ base.jobs.contains 77 = false
    ∧ base.runPorts = [] :=
  ⟨takes_base _ (by decide), takes_of _ (by decide) rfl rfl rfl, by decide⟩

/-- Context 1 and harness 1 are there, and nothing runs. -/
def ordB (o : Option Order) : Block := { mb.setHarness 1 { st := .active, cores := [4] } with order := o }

def stopO : Block := { ordB none with stop := { stopped := true } }

theorem wit_OrderRows : (∀ o, Takes (on (ordB o)) 1 Reg.RC_ORDER ∧ (ordB o).order = o) ∧ ((ordB none).holds 1 pgRc = true ∧ (ordB none).down = false)
    ∧ ((ordB none).orderTarget 0 9 = false ∧ (ordB none).orderTarget 0 1 = true ∧ ((ordB none).ctx 1).st = .opn ∧ (ordB none).cmds = []
      ∧ (ordB none).tasks = [])
    ∧ ((ordB none).inService 4 = true ∧ ofEngCode (engCode 4) = 4 ∧ ((ordB none).eng 4).use = .free)
    ∧ ((ordB none).orderTarget 2 1 = true ∧ ((ordB none).harness 1).cores = [4] ∧ ((ordB none).harness 1).units = [])
    ∧ base.pwr = none ∧ Takes (on { base with pwr := some {} }) 1 Reg.RC_ORDER
    ∧ (Takes (on stopO) 1 Reg.RC_ORDER ∧ stopO.stop.stopped = true ∧ stopO.holds 1 pgRc = true ∧ stopO.stop.heldOrders = [])
    ∧ (ordB none).orderDone { level := 1, target := 4, acted := true } = true
    ∧ ({ base with st := .ready } : Block).orderDone { level := 2, target := 3, acted := true } = true
    ∧ ({ base with cmds := [{ ctx := 1 }] } : Block).orderDone { level := 0, target := 1, acted := true } = false :=
  ⟨fun _ => ⟨takes_of _ (by decide) rfl rfl rfl, rfl⟩, by decide, by decide, by decide, by decide, rfl, takes_of _ (by decide) rfl rfl rfl,
    ⟨⟨.inl rfl, rfl, rfl, .inr (by decide), fun _ => by decide⟩, by decide⟩, by decide⟩

theorem wit_PowerCycleRows : Takes (on { base with pwr := some {} }) 1 Reg.RC_PWR
    ∧ Config.cyclesMs ≤ ({ cycles := Config.cyclesMs } : PwrSeq).cycles ∧ ({} : PwrSeq).ack = false
    ∧ 50 * Config.cyclesMs ≤ ({ cycles := 50 * Config.cyclesMs } : PwrSeq).cycles
    ∧ ({ cycles := 50 * Config.cyclesMs - 1 } : PwrSeq).cycles < 50 * Config.cyclesMs := ⟨takes_of _ (by decide) rfl rfl rfl, by decide⟩

def smB : Block := base.setReg Reg.SM_SEL (6 * 2 ^ 28 + 4)

theorem wit_SpareRows : Takes (on smB) 1 Reg.SM_RETIRE ∧ (smB.retireReq = none ∧ (smB.wearOf 6 4).st < 2 ∧ smB.field Reg.SM_SEL 31 28 = 6 ∧ smB.field Reg.SM_SEL 19 0 = 4)
    ∧ Takes (on { base with retireReq := some (6, 4) }) 1 Reg.SM_RETIRE
    ∧ (base.spareFor 4).isSome = true ∧ (∃ k, (({ base with straps := { coreSpares := 0, coresPerStack := 1 } } : Block).spareFor k) = none)
    ∧ (((base.setEng 4 { retiring := true }).eng 4).retiring = true ∧ ((base.setEng 4 { retiring := true }).eng 4).use = .free)
    ∧ ((base.setWear 8 3 { st := 1 }).instOk 8 3 = true ∧ ((base.setWear 8 3 { st := 1 }).wearOf 8 3).st ≠ 0
      ∧ ((base.setReg Reg.SM_THRESH 1).recentCe ((base.setReg Reg.SM_THRESH 1).wearOf 8 3)).length ≤ (base.setReg Reg.SM_THRESH 1).reg Reg.SM_THRESH)
    ∧ ((smB.wearOf 6 4).st < 2 ∧ 2 ≤ ((smB.setWear 6 4 { st := 2 }).wearOf 6 4).st ∧ Takes (on (smB.setWear 6 4 { st := 2 })) 1 Reg.SM_RETIRE)
    ∧ base.inService 4 = true ∧ base.walkers.contains 0 = true ∧ (base.wearOf 4 16).st = 3 ∧ (base.wearOf 4 15).st < 2
    ∧ bit (nth base.chanOk 7) 15 = true :=
  ⟨takes_of _ (by decide) rfl rfl rfl, by decide, takes_of _ (by decide) rfl rfl rfl, by decide, ⟨0, by decide⟩, by decide, by decide,
    ⟨by decide, by decide, takes_of _ (by decide) rfl rfl rfl⟩, by decide⟩

/-- A golden copy at 0x20000, in stack 1, of the mapping at 0x10000, one burst of which is marked. -/
def goB (d : Bool) : Block := { eb with
  maps := [{ id := 7, ctx := 1, va := 0x10000, len := 0x10000, rd := true, sharedRo := true, golden := 1, goldenAddr := 0x20000, backed := true },
    { id := 8, ctx := 1, va := 0x20000, len := 0x10000, rd := true, backed := true, backing := if d then 0 else 2 ^ 37 }]
  poison := [{ addr := 0x100 }] }

/-- A marked burst without a golden copy. -/
def poB : Block := { eb with poison := [{ addr := 0x100 }] }

/-- The step of the launch of `eb` on harness 1 has been stopped, and its engine is free. -/
def stoppedB : Block := { (rb.setQueue 0 { rb.queue 0 with harness := some 1 }) with
  retry := [{ ctx := 1, h := 1 }]
  cmds := [{ under 0x10 (.launch lp) with ctx := 1, cancel := some retryStep }] }

set_option maxRecDepth 8000 in
theorem wit_PoisonRows : Runs (on poB) ∧ eb.isDev (alignDown 0x1FF 256) = true ∧ eb.poison.any (·.addr = alignDown 0x1FF 256) = false
    ∧ poB.poison.any (·.addr = alignDown 0x1FF 256) = true
    ∧ (((goB false).poison.find? fun p => p.addr = alignDown 0x1FF 256 ∧ (goB false).repairs p).isSome = true ∧ (goB true).golden { addr := 0x100 } = none
      ∧ ((goB true).poison.find? fun p => p.addr = alignDown 0x1FF 256 ∧ (goB true).repairs p).isSome = true)
    ∧ (poB.poisonAt (alignDown 0x1FF 256) = some false ∧ (poB.eng 4).use = .cmd 0 0 ∧ (poB.cmd? 0 0).isSome = true)
    ∧ ((goB false).engCtx 4 = some 1 ∧ (goB false).poisonAt (alignDown 0x1FF 256) = some true ∧ ((goB false).eng 4).harness = some 1)
    ∧ ((stoppedB.retry.any fun r => r.ctx = 1 ∧ r.h = 1) = true ∧ (stoppedB.stoppedCmds 1 1).map (fun x => (x.q, x.i)) = [(0, 0)]
      ∧ stoppedB.stoppedTasks 1 1 = [] ∧ (stoppedB.cmd? 0 0).isSome = true ∧ (stoppedB.stoppedCmds 1 1).flatMap (·.engs) = [])
    ∧ base.retry = [] := ⟨rfl, by decide⟩

set_option maxRecDepth 8000 in
theorem wit_PoisonRepair : AtRest (goB false) ∧ ∃ xs, (goB false).golden { addr := 0x100 } = some (.ok xs) ∧ xs.length = 256 :=
  ⟨rest _ (by decide) rfl rfl rfl, _, rfl, rfl⟩

/-- Engine 4 accesses a context whose page lies on the host. -/
def aeB : Block := { eb with maps := hostM.maps }

/-- A fault of the page at 0x10000 in the given stage, which no one waits for. -/
def fltB (st : FaultStage) : Block := { aeB with faults := [{ ctx := 1, page := 0x10000, stage := st }] }

/-- The page at 0x10000 may only be read, by the command at (0, 0). -/
def roB : Block := { mb with
  maps := [{ id := 7, ctx := 1, va := 0x10000, len := 0x10000, rd := true, backed := true }]
  cmds := [fillC] }

theorem wit_FaultRows : Runs (on aeB) ∧ aeB.accesses (.engine 4) 1 = true ∧ aeB.accesses (.engine 4) 2 = false 
    ∧ (∃ p, (aeB.touch 1 0x10000 (some (askerOf (.engine 4)))).agentResolve (.engine 4) 1 0x10000 false = .migrate p ∧ p = 0x10000)
    ∧ (((fltB .needAts).touch 1 0x10000 (some (askerOf (.engine 4)))).fault? 1 0x10000).map (fun g => decide (askerOf (.engine 4) ∉ g.waiters)) = some true
    ∧ (((fltB .needAts).touch 1 0x10000 (some (askerOf (.engine 4)))).down = false
      ∧ ((aeB.touch 1 0x10000 (some (askerOf (.engine 4)))).priFailed = false ∧ (aeB.touch 1 0x10000 (some (askerOf (.engine 4)))).faults = [] ∧ aeB.pins.ats = true))
    ∧ ((aeB.touch 1 0x10000 (some (askerOf (.engine 4)))).ctx 1).ats = false ∧ (aeB.touch 1 0x10000 (some (askerOf (.engine 4)))).atsFor? 0 0x10000 = none
    ∧ ((roB.cmd? 0 0).isSome = true ∧ roB.accesses (.block 0 0) 1 = true ∧ roB.agentResolve (.block 0 0) 1 0x10000 true = .bad 0x21)
    ∧ (aeB.agentResolve (.engine 4) 1 0x30000 false = .bad 0x20 ∧ (decide (0x20 = 0x20) && aeB.deadRange 1 0x30000 1) = false)
    ∧ ((fltB (.copying [0] 0x20000 0)).fault? 1 0x10000).map (fun f => (f.waiters, f.stage)) = some ([], .copying [0] 0x20000 0)
    ∧ (AtRest (fltB (.copying [0] 0x20000 0)) ∧ ({ fltB (.copying [0] 0x20000 0) with fcrStuck := true } : Block).fcrStuck = true)
    ∧ ((fltB (.needPri true)).fault? 1 0x10000).map (·.stage) = some (.needPri true) :=
  ⟨rfl, by decide, by decide, ⟨_, rfl, rfl⟩, by decide, by decide, by decide, by decide, by decide, by decide, by decide,
    ⟨rest _ (by decide) rfl rfl rfl, rfl⟩, by decide⟩

def wkB : Block := { mb with walks := [{ walker := some 0, mapId := 7, page := 1 }] }

/-- The command at (0, 0) has asked for a translation. -/
def askB : Block := { rb with cmds := [fillC], atsAsked := [{ pasid := 0, va := 0x10000, who := [.cmd 0 0] }] }

def invR : Block := (mb.setReg Reg.ZT_INV_LEN_LO 4096).setReg Reg.ZT_INV_CTX 1

theorem wit_TranslationRows : Runs (on wkB) ∧ base.down = false ∧ (base.setReg Reg.CC_STS 1).down = true
    ∧ (wkB.walks.find? (fun w => w.walker = some 0)).map (fun w => (wkB.map? w.mapId).isSome) = some true
    ∧ (AtsEnt.mk 0 (alignDown 0x10000 (2 ^ 12)) 12 (alignDown 0x5000 (2 ^ 12)) true true).va = 0x10000
    ∧ askB.atsAsked.map (fun a => (a.pasid, a.va, a.who)) = [(0, 0x10000, [.cmd 0 0])] ∧ (askB.cmd? 0 0).isSome = true
    ∧ (askB.faults = [] ∧ askB.faultWait = [] ∧ base.atsAsked = [])
    ∧ (∃ c, ({ askB with cmds := [{ fillC with phase := .running }] } : Block).cmd? 0 0 = some c ∧ c.phase = .running ∧ c.runsStitches = false)
    ∧ ((List.replicate 31 ({ tag := 0, pasid := 0, va := 0, len := 0 } : AtsInv)).length < 32) ∧ (base.atsInvs.any fun x => x.tag = 0) = false
    ∧ base.invHeld { tag := 0, pasid := 0, va := 0, len := 4096 } = false
    ∧ ({ base with faults := [{ ctx := 1, page := 0, stage := .copying [0] 0 0 }] } : Block).invHeld { tag := 0, pasid := 0, va := 0, len := 4096 } = true
    ∧ Takes (on { base with invBusy := 1 }) 1 Reg.ZT_INV_CTL ∧ Takes (on invR) 1 Reg.ZT_INV_CTL
    ∧ (invR.invBusy = 0 ∧ invR.field Reg.ZT_INV_CTX 11 0 = 1 ∧ invR.field Reg.ZT_INV_LEN_LO 31 12 * 4096 + invR.reg Reg.ZT_INV_LEN_HI * 2 ^ 32 = 4096) :=
  ⟨rfl, by decide, by decide, by decide, by decide, by decide, by decide, by decide, ⟨_, rfl, rfl, rfl⟩, by decide, by decide, by decide, by decide,
    takes_of _ (by decide) rfl rfl rfl, takes_of _ (by decide) rfl rfl rfl, by decide⟩

def fcB : Block := base.setReg Reg.ZT_FCR_SIZE 12

/-- An entry waits for the ring, which lies in a mapping of context 0. -/
def fcW : Block := { fcB with
  fcrWait := [{ frame := 0, typ := 0, pool := 0, va := 0, ctx := 1, own := 0 }]
  fcrBase := 0x10000
  maps := [{ id := 7, ctx := 0, va := 0x10000, len := 0x10000, wr := true, backed := true }] }

theorem wit_FrameRingRows : (fcW.fcrWait.length = 1 ∧ fcW.fcrStuck = false ∧ fcW.fcrRoom = true ∧ fcW.faults = [] ∧ base.fcrWait = [])
    ∧ (∃ x b, fcW.fcrWait = [x] ∧ fcW.writeVa 0 (fcW.fcrBase + fcW.reg Reg.ZT_FCR_TAIL % fcW.fcrN * 16) x.bytes = .ok b)
    ∧ Takes (on fcB) 1 Reg.ZT_FCR_HEAD
    ∧ headOkay fcB.fcrN (fcB.reg Reg.ZT_FCR_TAIL) (fcB.reg Reg.ZT_FCR_HEAD) 0 = true
    ∧ headOkay fcB.fcrN (fcB.reg Reg.ZT_FCR_TAIL) (fcB.reg Reg.ZT_FCR_HEAD) 1 = false
    ∧ Takes (on base) 1 Reg.ZT_FCR_SIZE ∧ (12 ≤ (12#32).toNat % 32 ∧ (24#32).toNat % 32 ≤ 24) ∧ base.holdsFrames = false
    ∧ (base.setPool 0 [0]).holdsFrames = true ∧ alignDown (base.stagedOr 1 Reg.ZT_FCR_BASE_LO 0) 4096 % 2 ^ 24 = 0
    ∧ Takes (on (bootB.setPool 0 [0])) 1 Reg.ZT_CTL ∧ (bootB.setPool 0 [0]).bootmap = true
    ∧ (bootB.setPool 0 [0]).pool ((bootB.setPool 0 [0]).field Reg.ZT_CTL 11 8) ≠ [] ∧ base.bootmap = false
    ∧ base.bootWrites = false ∧ ({ bootB with st := .load } : Block).bootWrites = true ∧ Takes (on { bootB with st := .load }) 1 Reg.ZT_BOOT_ENT0
    ∧ Takes (on base) 1 Reg.DT_COUNT ∧ (65536#32).toNat % 2 ^ 17 ≤ 2 ^ 16 ∧ base.cmds.any (·.ctx = 0) = false ∧ base.tasks.any (·.ctx = 0) = false :=
  ⟨by decide, ⟨_, _, rfl, rfl⟩, takes_of _ (by decide) rfl rfl rfl, by decide, by decide, takes_base _ (by decide), by decide, by decide, by decide, by decide,
    takes_of _ (by decide) rfl rfl rfl, by decide, by decide, by decide, by decide, by decide, takes_of _ (by decide) rfl rfl rfl,
    takes_base _ (by decide), by decide, by decide, by decide⟩


/-! ### Coherence -/

/-- A scratch window at lines 1024 to 2047 and a journal window at lines 2048 to 3071. -/
def ccB : Block := ((((base.setReg Reg.CC_SCR_BASE_LO 0x10000).setReg Reg.CC_SCR_LEN 0x10000).setReg Reg.CC_JRNL_BASE_LO 0x20000).setReg
  Reg.CC_JRNL_LEN 0x10000)

def lineB (st : LineSt) : Block := ccB.setLine 0 1024 st 5

/-- Core 4, lit and in service, is agent 12. -/
def litB : Block := ccB.setEng 4 { lit := true, harness := some 1 }

theorem wit_CohRequests : (Runs (on ccB) ∧ ccB.ccLive = true ∧ ccB.down = false)
    ∧ (ccB.inDomain 0 = true ∧ ccB.cacheRoom 0 = true ∧ ccB.lineOf 0 1024 = none ∧ ccB.asking 0 1024 = false ∧ ccB.isScratch 1024 = true)
    ∧ (HomeFree ccB 1024 ∧ ccB.dirOf 1024 = none ∧ ccB.needsWay { kind := .rdS, agent := 0, line := 1024 } = false
      ∧ ccB.needsWay { kind := .rdM, agent := 0, line := 1024 } = false)
    ∧ (ccB.isScratch 2047 = true ∧ ccB.isScratch 2048 = false ∧ ccB.isScratch 1023 = false)
    ∧ (litB.inDomain 12 = true ∧ litB.cacheRoom 12 = true ∧ litB.asking 12 1024 = false ∧ litB.lineOf 12 1024 = none)
    ∧ (ccB.mayAsk 512 = true ∧ ccB.asking 512 1024 = false ∧ ccB.holders 1024 = [])
    ∧ (ccB.isJournal 1024 = false ∧ ccB.isJournal 2048 = true ∧ ccB.isJournal 3071 = true ∧ ccB.isJournal 3072 = false)
    ∧ (ccB.isRecord 0 1024 = false ∧ ccB.isRecord 0 2048 = false ∧ ccB.isRecord 0 3072 = true)
    ∧ ((ccB.coh.wbuf.any fun w => w.agent < 3 ∧ ccB.isJournal w.line) = false
      ∧ ([({ agent := 0, line := 2048, nc := false, data := 0, mask := 0 } : WBuf)].any fun w => w.agent < 3 ∧ ccB.isJournal w.line) = true)
    ∧ ({ checkpoint := 0, journal := 16384 } : Coherence).checkpoint + 16384 ≤ ({ checkpoint := 0, journal := 16384 } : Coherence).journal
    ∧ ((lineB .s).asking 0 1024 = false ∧ (lineB .m).asking 0 1024 = false) ∧ (HomeFree (lineB .s) 1024 ∧ HomeFree (lineB .m) 1024)
    ∧ ((lineB .s).lineOf 0 1024).map (·.st) = some .s ∧ ((lineB .m).lineOf 0 1024).map (·.st) = some .m :=
  ⟨⟨rfl, by decide⟩, by decide, ⟨⟨rfl, rfl⟩, by decide⟩, by decide, by decide, by decide, by decide, by decide, by decide, by decide, by decide,
    ⟨⟨rfl, rfl⟩, rfl, rfl⟩, by decide⟩

def msgB (k : MsgKind) : Block := ccB.ccSend [{ kind := k, agent := 0, line := 1024, grant := some .s }]

/-- Core 0 holds line 1024 in state `st`, and is sent a message about it. -/
def heldM (st : LineSt) (k : MsgKind) : Block := (lineB st).ccSend [{ kind := k, agent := 0, line := 1024, grant := some .s }]

/-- A transaction for line 1024 awaits the answers of agents 0 and 1, the first of which is here. -/
def awaitB (k : MsgKind) : Block := (msgB k).ccMod fun c => { c with
  txns := [{ line := 1024, kind := .rdS, agent := 2, await := [0, 1] }]
  dir := [{ line := 1024, st := .e, lead := 0, sharers := [0, 1] }] }

/-- A write of core 0 has reached memory, and its CMP is here. -/
def doneW : Block := (msgB .cmp).ccMod fun c => { c with
  txns := [{ line := 1024, kind := .wrT, agent := 0, out := true }]
  wbuf := [{ agent := 0, line := 1024, nc := false, data := 5, mask := 1 }] }

theorem wit_CohAnswers : (∀ k : MsgKind, (msgB k).msg? k 0 1024 = some { kind := k, agent := 0, line := 1024, grant := some .s })
    ∧ (∀ k : MsgKind, (msgB k).lineOf 0 1024 = none ∧ (msgB k).ccLive = true ∧ (msgB k).down = false ∧ (msgB k).txn 1024 = none)
    ∧ (∀ k : MsgKind, Runs (on (msgB k)))
    ∧ (∀ k : MsgKind, ccB.msg? k 0 1024 = none) ∧ ¬(5 ≤ (0 : Nat) ∧ (0 : Nat) < 8) ∧ (5 ≤ (5 : Nat) ∧ (5 : Nat) < 8)
    ∧ (∀ st, ((heldM st .snpFwd).lineOf 0 1024).map (·.st) = some st ∧ ((heldM st .snpFwd).msg? .snpFwd 0 1024).isSome = true)
    ∧ (((heldM .m .snpWb).lineOf 0 1024).map (·.st) = some .m ∧ ((heldM .m .snpWb).msg? .snpWb 0 1024).isSome = true
      ∧ (heldM .m .snpWb).txn 1024 = none)
    ∧ (((awaitB .ackInv).msg? .ackInv 0 1024).isSome = true ∧ ((awaitB .ackFwd).msg? .ackFwd 0 1024).isSome = true
      ∧ ((awaitB .ackFwd).txn 1024).map (·.await) = some [0, 1] ∧ (awaitB .ackFwd).coh.queue = []
      ∧ ((awaitB .ackFwd).dirOf 1024).isSome = true)
    ∧ (ccB.ccSend [{ kind := .cmp, agent := 0, line := 1024, crossed := true }]).msg? .cmp 0 1024
      = some { kind := .cmp, agent := 0, line := 1024, crossed := true }
    ∧ ((msgB .cmp).dropMsg { kind := .cmp, agent := 0, line := 1024, grant := some .s }).txn 1024 = none
    ∧ ((doneW.msg? .cmp 0 1024).map (·.crossed) = some false ∧ (doneW.txn 1024).map (·.kind) = some .wrT ∧ doneW.coh.queue = []
      ∧ (doneW.coh.wbuf.find? fun w => w.agent = 0 ∧ w.line = 1024).isSome = true) :=
  ⟨fun k => by cases k <;> rfl, fun k => by cases k <;> decide, fun _ => rfl, fun k => by cases k <;> rfl, by decide, by decide,
    fun st => by cases st <;> decide, by decide, by decide, rfl, rfl, by decide⟩

def ageB (l : List Nat) : Block := ccB.ccMod fun c => { c with txns := [{ line := 1024, kind := .rdM, agent := 0, await := l, age := 2 ^ 30 }] }

def dnB (p : Rebuild) : Block := (ccB.setReg Reg.CC_STS 1).ccMod fun c => { c with phase := p, phaseCycles := 10 * Config.cyclesUs }

theorem wit_CohDownRows : (∃ t, (ageB [1]).txn 1024 = some t ∧ t.await = 1 :: [] ∧ (ageB [1]).field Reg.CC_SNP_TIMEOUT 15 0 * Config.cyclesUs ≤ t.age)
    ∧ (∃ t, (ageB []).txn 1024 = some t ∧ t.await = []) ∧ (ageB [1]).ccLive = true ∧ (ageB [1]).down = false
    ∧ ((dnB .rollCall).down = true ∧ (dnB .rollCall).coh.phase = .rollCall ∧ 10 * Config.cyclesUs ≤ (dnB .rollCall).coh.phaseCycles)
    ∧ ((dnB .replay).down = true ∧ (dnB .replay).coh.phase = .replay ∧ (dnB .replay).order = none)
    ∧ ccB.ccLive = true ∧ Runs (on (dnB .replay)) ∧ Runs (on (ageB [1])) :=
  ⟨⟨_, rfl, rfl, by decide⟩, ⟨_, rfl, rfl⟩, by decide, by decide, by decide, by decide, by decide, rfl, rfl⟩

/-! ### Microcode and the host interface -/

/-- Core 1 is a spare with a verified image. -/
def mcB : Block := { base.setReg Reg.MC_SEL 1 with mc := { verified := [0, 1] } }

theorem wit_MicrocodeRows : Takes (on mcB) 1 Reg.MC_DATA_HI ∧ (mcB.mcSel = mcB.mc.active → mcB.st = .load) ∧ (mcB.wearOf 0 mcB.mcSel).st ≠ 2
    ∧ mcB.mcBusy = false ∧ Takes (on (mcB.setReg Reg.MC_SEL 0)) 1 Reg.MC_DATA_HI ∧ (mcB.setReg Reg.MC_SEL 0).mcSel = mcB.mc.active
    ∧ mcB.st ≠ .load ∧ Takes (on mcB) 1 Reg.MC_SIG_DATA ∧ mcB.mc.sig.length + 4 ≤ 4096 ∧ 4096 < (List.replicate 4096 (0 : Byte)).length + 4
    ∧ Takes (on mcB) 1 Reg.MC_CTL ∧ mcB.handoverReason mcB.mcSel = 0 ∧ base.handoverReason base.mcSel ≠ 0
    ∧ (mcB.coh.wbuf.any (·.agent = mcB.mc.active)) = false ∧ ({ mcB with mc := { busy := .verify 1 } } : Block).mcBusy = true ∧ mcB.mc.busy = .idle ∧ Runs (on mcB) := by
  refine ⟨takes_of _ (by decide) rfl rfl rfl, by decide, by decide, by decide, takes_of _ (by decide) rfl rfl rfl, by decide, by decide,
    takes_of _ (by decide) rfl rfl rfl, by decide, ?_, takes_of _ (by decide) rfl rfl rfl, by decide, by decide, by decide, by decide, by decide, rfl⟩
  rw [List.length_replicate]
  decide

theorem wit_SemaphoreRows : Reads (on base) 1 ∧ Reads (on base) 3 ∧ base.stop.stopped = false ∧ base.sem 5 = 1 ∧ base.sem 5 ≠ 0
    ∧ (base.setSem 5 0).sem 5 = 0 ∧ Takes (on base) 1 (0x1100 + 4 * 63) ∧ Takes (on (base.setSem 5 2)) 1 (0x1100 + 4 * 5) ∧ (base.setSem 5 2).sem 5 ≠ 1
    ∧ Takes (on base) 1 Reg.SEM_BREAK ∧ (BitVec.ofNat 8 Config.semBreakKey).toNat = Config.semBreakKey := by
  refine ⟨⟨rfl, rfl⟩, ⟨rfl, rfl⟩, rfl, by decide, by decide, by decide, takes_base _ (by decide), ?_, by decide, takes_base _ (by decide), by decide⟩
  exact ⟨.inl rfl, rfl, rfl, .inl rfl, fun h => absurd h (by decide)⟩

theorem wit_PortRows : base.pathUp 1 = true ∧ Runs (on base) ∧ ({ base with pins := { base.pins with portA := false } } : Block).pathUp 1 = false
    ∧ ({ base with pins := { base.pins with portB := false } } : Block).pathUp 2 = false
    ∧ ({ base with hiu := { pend := [4] } } : Block).hiu.pend.contains 4 = true ∧ base.hiu.pend.contains 4 = false
    ∧ Takes (on base) 1 Reg.EV_CTL ∧ Takes (on base) 2 Reg.EV_CTL :=
  ⟨by decide, rfl, by decide, by decide, by decide, by decide, takes_base _ (by decide), .inr rfl, rfl, rfl, .inl rfl, fun h => absurd h (by decide)⟩

theorem wit_AccessRows : aligned 0x1004 false = true ∧ aligned 0x1004 true = false ∧ aligned 0x1008 true = true ∧ aligned 0x1002 false = false
    ∧ base.stop.stopped = false ∧ State.reset.blk.pathUp 7 = false ∧ isUnitPage 1 = true ∧ Reads (on base) 3
    ∧ (base.st = .run ∧ isUnitPage 3 = true ∧ bit (pageInfo 3).evts 8 = true ∧ (pageInfo 3).ecc = true)
    ∧ Takes (on base) 1 (3 * 0x1000 + Reg.PG_ERR_INJ) :=
  ⟨by decide, by decide, by decide, by decide, rfl, by decide, by decide, ⟨rfl, rfl⟩, by decide, takes_base _ (by decide)⟩

theorem wit_CadenceCountRead : Reads (on base) 2 := ⟨rfl, rfl⟩

/-! ### Observation -/

def tbB : Block := base.setTbuf 0 { en := true, log2 := 12, times := [0] }

/-- One record waits in trace buffer 0, whose ring lies in a mapping of context 0. -/
def recT (en : Bool) : Block := { base.setTbuf 0 { en := en, log2 := 12, base := 0x10000, recs := [5], times := [0] } with
  maps := [{ id := 7, ctx := 0, va := 0x10000, len := 0x10000, wr := true, backed := true }] }

theorem wit_ObservationRows : (∀ en, ((recT en).tbuf 0).recs = [5] ∧ ((recT en).tbuf 0).times = [0] ∧ ((recT en).tbuf 0).en = en)
    ∧ (∃ w, (recT false).writeHome 0 0x10000 (leBytes 32 (5 : BitVec 256).toNat) = .ok w) ∧ (base.tbuf base.tbSel).ctx < 4096
    ∧ (((recT false).tbuf 0).tail + 2 * ((recT false).tbuf 0).size - ((recT false).tbuf 0).head) % (2 * ((recT false).tbuf 0).size) < ((recT false).tbuf 0).size
    ∧ (tbB.tbuf 0).en = true ∧ (base.tbuf 0).en = false ∧ Runs (on tbB)
    ∧ (({ tbB with zclk := 10 * Config.cyclesUs } : Block).tbuf 0).times = 0 :: []
    ∧ 0 + 10 * Config.cyclesUs ≤ ({ tbB with zclk := 10 * Config.cyclesUs } : Block).zclk ∧ (base.tbuf 0).times = []
    ∧ Takes (on tbB) 1 Reg.TB_CTL ∧ Takes (on tbB) 1 Reg.TB_SIZE ∧ (tbB.tbuf tbB.tbSel).en = true ∧ Takes (on base) 1 Reg.TB_SIZE
    ∧ ((base.tbuf base.tbSel).en = false ∧ (base.tbuf base.tbSel).recs = [] ∧ 12 ≤ (12#32).toNat % 32 ∧ (24#32).toNat % 32 ≤ 24
      ∧ (base.stagedOr 1 Reg.TB_BASE_LO ((base.tbuf base.tbSel).base % 2 ^ 32)) % 2 ^ 12 = 0) ∧ Takes (on base) 1 Reg.TB_HEAD
    ∧ Config.cyclesUs ≤ (base.setFrac Reg.OB_QOCC_NOW Config.cyclesUs).frac Reg.OB_QOCC_NOW ∧ base.frac Reg.OB_QOCC_NOW < Config.cyclesUs
    ∧ Reads (on base) 1 :=
  ⟨by decide, ⟨_, rfl⟩, by decide, by decide, by decide, by decide, rfl, by decide, by decide, by decide, takes_of _ (by decide) rfl rfl rfl, takes_of _ (by decide) rfl rfl rfl, by decide,
    takes_base _ (by decide), by decide, takes_base _ (by decide), by decide, by decide, rfl, rfl⟩

def stopd : Block := { base with stop := { stopped := true } }

/-- Context 1 has debug access, and a breakpoint stands on the one stitch of its list 3, at which its launch on engine 4 stands. -/
def bpB : Block := Block.setBp (Block.setCtx { eb with
  lanes := [{ who := .cmd 0 0, ctx := 1, listId := 3, epoch := 2, reps := 1 }]
  versions := [{ ctx := 1, listId := 3, epoch := 2, st := .current, stream := [0, 0] }] } 1 { st := .opn, debug := true }) 0
  { ctx := 1, listId := 3, epoch := 2, at_ := 0, en := true }

/-- Breakpoint 0 has halted that launch. -/
def haltB : Block := { bpB with cmds := bpB.cmds.map fun c => { c with bp := some 0 } }

theorem wit_StopRows : Takes (on base) 1 Reg.OB_STOP_CTL ∧ base.stop.stopped = false ∧ Takes (on stopd) 1 Reg.OB_STOP_CTL
    ∧ stopd.stop.stopped = true ∧ Linked (on base) ∧ bit (base.reg Reg.OB_STOP_CTL) 2 = false
    ∧ bit ((base.setReg Reg.OB_STOP_CTL 4).reg Reg.OB_STOP_CTL) 2 = true ∧ Takes (on base) 1 Reg.CN_CTL ∧ bit (1#32).toNat 0 = true ∧ bit (0#32).toNat 0 = false :=
  ⟨takes_base _ (by decide), rfl, ⟨.inl rfl, rfl, rfl, .inr (by decide), fun _ => by decide⟩, rfl, rfl, by decide, by decide, takes_base _ (by decide), by decide⟩

theorem wit_StopAndBreakpointRows : ((bpB.lane? (.cmd 0 0)).map fun l => (bpB.hits (bpB.bp 0) l, bpB.hits (bpB.bp 1) l)) = some (true, false)
    ∧ bpB.workRuns (.cmd 0 0) = true ∧ haltB.workRuns (.cmd 0 0) = false ∧ base.lane? (.cmd 0 0) = none ∧ Runs (on bpB)
    ∧ Takes (on bpB) 1 Reg.OB_BP_CTL ∧ bpB.debugOn (bits (0x100001#32).toNat 31 20) = true
    ∧ (bpB.version? (bits (0x100001#32).toNat 31 20) (bits 0x30002 31 16) (bits 0x30002 15 0)).isSome = true
    ∧ Takes (on haltB) 1 Reg.OB_BP_CTL ∧ haltB.haltedAt haltB.bpSel = [.cmd 0 0] ∧ (haltB.lane? (.cmd 0 0)).map Lane.live = some true :=
  ⟨by decide, by decide, by decide, by decide, rfl, takes_of _ (by decide) rfl rfl rfl, by decide, by decide, takes_of _ (by decide) rfl rfl rfl,
    by decide, by decide⟩

/-! ### Rein -/

def ptB (r : RPort) : Block := base.setPort 0 r

theorem takes_port (r : RPort) (a : Nat) (h : pageSem (a / 0x1000) < 64) : Takes (on (ptB r)) 1 a := takes_of a h rfl rfl rfl

/-- A good IDENT of chip 9, which has seen this chip's own. -/
def pl9 : BitVec 192 := BitVec.ofNat 192 (9 + 0x5A17 * 2 ^ 48 + 0x10101010601 * 2 ^ 64 + 0x20 * 2 ^ 112)

def idB : Block := (ptB { st := .ident }).setReg (prt 0 Reg.PT_ALLOW0) 9

def trB : Block := ptB { st := .train, sigA := true, wellA := true, ts2Run := 7, ts2Sent := 7 }

theorem wit_TrainingRows : Takes (on base) 1 (prt 0 Reg.PT_CTL) ∧ base.chipId ≠ 2 ^ 32 - 1 ∧ (base.port 0).st = .off ∧ Linked (on base)
    ∧ (bit (1#32).toNat 0 = true ∧ bit (1#32).toNat 3 = false) ∧ (bit (24#32).toNat 3 = true ∧ bit (24#32).toNat 4 = true)
    ∧ (bit ((idB.setReg (prt 0 Reg.PT_CTL) 1).reg (prt 0 Reg.PT_CTL)) 0 = true ∧ bit ((idB.setReg (prt 0 Reg.PT_CTL) 1).reg (prt 0 Reg.PT_CTL)) 3 = false)
    ∧ Takes (on (idB.setReg (prt 0 Reg.PT_CTL) 1)) 1 (prt 0 Reg.PT_CTL) ∧ PtState.linked .off = false
    ∧ ((trB.port 0).st = .train ∧ (trB.port 0).sigA = true ∧ trB.laneRetired 0 0 = false ∧ (trB.port 0).wellA = true
      ∧ 0 < (trB.port 0).ts1Run.length ∧ (1#2) ≠ 0 ∧ 7 ≤ (trB.port 0).ts2Run ∧ 7 ≤ (trB.port 0).ts2Sent)
    ∧ (10 * Config.cyclesMs ≤ ((ptB { st := .train, sigA := true, stCycles := 10 * Config.cyclesMs }).port 0).stCycles
      ∧ ((ptB { st := .train, sigA := true, stCycles := 10 * Config.cyclesMs }).port 0).anySignal = true ∧ ((trB.port 0).fails < 15))
    ∧ ((idB.port 0).st = .ident ∧ ((idB.port 0).takeToken 7).isSome = true ∧ idB.reg (prt 0 Reg.PT_ALLOW0) = payField pl9 0 4
      ∧ payField pl9 0 4 ≠ 2 ^ 32 - 1 ∧ idB.identBad pl9 = false ∧ bit (payField pl9 14 1) 5 = true)
    ∧ ((ptB { st := .ident, tokens := List.replicate 8 0 }).port 0).takeToken 7 = none
    ∧ (10 * Config.cyclesUs ≤ ((ptB { hbCycles := 10 * Config.cyclesUs }).port 0).hbCycles
      ∧ Config.cyclesMs ≤ ((ptB { stCycles := Config.cyclesMs }).port 0).stCycles) :=
  ⟨takes_base _ (by decide), by decide, by decide, rfl, by decide, by decide, by decide, takes_of _ (by decide) rfl rfl rfl, by decide, by decide,
    by decide, by decide, by decide, by decide⟩

/-- A good frame of sequence number 0. -/
def fr : Frame := { cls := 7, typ := 0, seq := 0, ack := 0, ackValid := false, replay := false, resv := 0, payload := 0 }

def runB : Block := ptB { st := .run }

theorem wit_CreditAndAuthRows : Linked (on runB) ∧ (runB.port 0).st = .run ∧ fr.resv = 0 ∧ (∃ r, ((runB.rxGood 0 fr).port 0).takeToken 7 = some r
      ∧ (((runB.rxGood 0 fr).setPort 0 r).port 0).creditBad (creditCounts fr.payload) = false)
    ∧ (PtState.framed .run = true ∧ PtState.linked .run = true ∧ PtState.linked .off = false)
    ∧ (stallLimit 1 = some 20 ∧ stallLimit 0 = some 100) ∧ 20 * Config.cyclesUs ≤ nth [0, 20 * Config.cyclesUs] 1
    ∧ ((ptB { st := .quarantine, authing := true }).port 0).st = .quarantine
    ∧ (∃ r, (((ptB { st := .quarantine, authing := true }).rxGood 0 fr).port 0).takeToken 7 = some r
      ∧ ((((ptB { st := .quarantine, authing := true }).rxGood 0 fr).setPort 0 r).port 0).authing = true)
    ∧ ((ptB { st := .quarantine, authing := true }).port 0).authing = true ∧ Runs (on runB)
    ∧ (BitVec.ofNat 32 (runB.reg (prt 0 Reg.PT_PEER_ID))).toNat = runB.reg (prt 0 Reg.PT_PEER_ID)
    ∧ (((ptB { st := .quarantine, authAsked := true }).port 0).authAsked = true ∧ ((ptB { st := .quarantine, authAsked := true }).port 0).authing = false
      ∧ ((ptB { st := .quarantine, authAsked := true }).port 0).authHeld = []) ∧ ([] : List Byte).length ≤ 5610 ∧ frameOf [] = none :=
  ⟨rfl, by decide, rfl, ⟨_, rfl, by decide⟩, by decide, by decide, by decide, by decide, ⟨_, rfl, by decide⟩, by decide, rfl, by decide, by decide,
    by decide, by decide⟩

theorem wit_FrameRows : Linked (on runB) ∧ (runB.port 0).st = .run ∧ ((runB.port 0).expSeq + 256 - fr.seq % 256) % 256 = 0
    ∧ (fr.replay = false ∧ runB.stop.stopped = false ∧ runB.st ≠ .off ∧ (({ runB.port 0 with
      expSeq := 1, ackedTo := some 0, nakFor := none } : RPort).takeToken 5).isSome = true ∧ ((runB.rxGood 0 fr).port 0).takeToken 7 ≠ none)
    ∧ ((runB.codeErrors 0 0 65).port 0).noisy (runB.codeErrors 0 0 65).aonClk 0 = true
    ∧ ((runB.codeErrors 0 0 64).port 0).noisy (runB.codeErrors 0 0 64).aonClk 0 = false
    ∧ ({ fr with resv := 1 } : Frame).resv ≠ 0
    ∧ runB.field (prt 0 Reg.HB_CTL) 15 0 * Config.cyclesUs ≤ ((ptB { st := .run, hbCycles := 65535 * Config.cyclesUs }).port 0).hbCycles
    ∧ runB.field (prt 0 Reg.HB_CTL) 31 16 * Config.cyclesUs ≤ ((ptB { st := .run, hbLast := 65535 * Config.cyclesUs }).port 0).hbLast
    ∧ bit ((runB.setReg (prt 0 Reg.PT_CTL) 16).reg (prt 0 Reg.PT_CTL)) 4 = true ∧ 112500 ≤ ((ptB { exchCycles := 112500 }).port 0).exchCycles
    ∧ Takes (on runB) 1 (prt 0 Reg.MG_TX_CTL) ∧ (runB.port 0).mgBusy = false ∧ (base.port 0).st ≠ .run ∧ Takes (on base) 1 (prt 0 Reg.MG_TX_CTL)
    ∧ Takes (on (ptB { st := .run, mgRx := [0] })) 1 (prt 0 Reg.MG_RX_CTL) ∧ ((ptB { st := .run, mgRx := [0] }).port 0).mgRx = [0]
    ∧ (base.port 0).mgRx = [] ∧ Takes (on base) 1 Reg.FP_DEST ∧ base.st ≠ .off
    ∧ ((BitVec.ofNat 32 base.chipId) ≠ noDest ∧ (BitVec.ofNat 32 base.chipId).toNat = base.chipId) :=
  ⟨rfl, by decide, by decide, by decide, by decide, by decide, by decide, by decide, by decide, by decide, by decide, takes_port _ _ (by decide), by decide, by decide,
    takes_base _ (by decide), takes_port _ _ (by decide), by decide, by decide, takes_base _ (by decide), by decide, by decide⟩

/-! ### Operands that name no object of the block are ill-formed -/

theorem wf_bounds : Instr.wf (.nop 0 0) = true ∧ Instr.wf (.nop Config.numQueues 0) = false ∧ Instr.wf (.nop 0 (2 ^ 21)) = false
    ∧ Instr.wf (.goRun 0) = false ∧ Instr.wf (.goRun 4) = false ∧ Instr.wf (.doorbellWrite 1 Config.numContexts 0 0) = false
    ∧ Instr.wf (.doorbellWrite 1 0 16 0) = false ∧ Instr.wf (.launchPlacement Config.numHarnesses) = false
    ∧ Instr.wf (.engineDrained (unitBase + 1024)) = false ∧ Instr.wf (.taskItemTake 0 (2 ^ 16)) = false
    ∧ Instr.wf (.breakpointHit 8 (.cmd 0 0)) = false ∧ Instr.wf (.breakpointHit 0 (.task Config.numContexts 0)) = false
    ∧ Instr.wf (.wickSignalApply Config.numSlots true 0) = false ∧ Instr.wf (.contextFreed Config.numContexts) = false
    ∧ Instr.wf (.stitchCacheUe 0 (2 ^ 16) 0) = false ∧ Instr.wf (.stitchCacheUe 0 0 (2 ^ 16)) = false := by decide

theorem wf_recovery : Instr.wf (.correctableError 9 0) = false ∧ Instr.wf (.correctableError 0 (2 ^ 20)) = false ∧ Instr.wf (.walkerUe 10) = false
    ∧ Instr.wf (.channelFailure 16 0) = false ∧ Instr.wf (.channelFailure 0 16) = false ∧ Instr.wf (.poisonRead (2 ^ 64)) = false
    ∧ Instr.wf (.migrationDmaDone 0 (2 ^ 48) true) = false ∧ Instr.wf (.atsInvalidateRequest 32 0 0 0) = false
    ∧ Instr.wf (.atsInvalidateRequest 0 (2 ^ 20) 0 0) = false ∧ Instr.wf (.atsCompletion 0 0 11 0 true true true) = false
    ∧ Instr.wf (.rangeCacheWayUe 17) = false := by decide

theorem wf_links : Instr.wf (.snoopTimeout (2 ^ 58)) = false ∧ Instr.wf (.rdS 2048 0) = false ∧ Instr.wf (.coherenceDown 6 0 0) = false
    ∧ Instr.wf (.rollCallClose [2048]) = false ∧ Instr.wf (.semRead 1 64) = false ∧ Instr.wf (.ueArm 1 0x200) = false
    ∧ Instr.wf (.registerWrite 1 (2 ^ 25) true 0) = false ∧ Instr.wf (.traceDmaWrite 16) = false ∧ Instr.wf (.ts1 0 2) = false
    ∧ Instr.wf (.ts1 8 0) = false ∧ Instr.wf (.creditStallTimeout 0 6) = false ∧ Instr.wf (.credit 0 { fr with cls := 8 }) = false
    ∧ Instr.wf (.credit 0 { fr with typ := 16 }) = false ∧ Instr.wf (.credit 0 { fr with seq := 256 }) = false
    ∧ Instr.wf (.credit 0 { fr with ack := 256 }) = false ∧ Instr.wf (.credit 0 { fr with resv := 64 }) = false
    ∧ Instr.wf (.credit 0 fr) = true ∧ Instr.wf (.badFrame ⟨0, 0, []⟩) = false ∧ Instr.wf (.laneFailure ⟨0, 2, 0, true⟩) = false := by decide

/-! ### Ring words written out from R103 to R110 -/

/-- FILL of 16 bytes at 0x10000 with 64-bit words of 0xAB, which waits for wick 5 above 7: FMT_VER 1, NWAIT 1, COND GT. -/
def fillWords : List Nat := [0x0000000000010421, 7, 0x10005, 0x10000, 0xAB, 0x00000C0000000010, 0, 0]

theorem decode_fill : headerOk 0 (nth fillWords 0) = true ∧ entriesOk fillWords = true ∧ operandsOk fillWords = true
    ∧ cmdOf 3 0 fillWords = { q := 3, i := 0, opcode := 0x21, op := .fill 0x10000 0xAB 16 3 0 0, waits := [{ value := 7, gt := true, wick := 5 }] } := by
  decide

/-- LAUNCH of list 9 with 2 cores, 1 unit and 3 invocations, pinned to epoch 4, with arguments of 2 lines at 0x40000; it signals
wick 6 by SETMAX 8 and has a stall budget of 100 µs: STALL_US 100, FLAGS 1, NSIG 1. -/
def launchWords : List Nat := [0x0000006401011010, 8, 0x10006, 0x0003000100020009, 0x40000, 0x00040002, 0, 0]

theorem decode_launch : headerOk 0 (nth launchWords 0) = true ∧ entriesOk launchWords = true ∧ operandsOk launchWords = true
    ∧ (cmdOf 0 0 launchWords).op = .launch { reps := 3, units := 1, cores := 2, listId := 9, argAddr := 0x40000, argLen := 2, ver := some 4 }
    ∧ (cmdOf 0 0 launchWords).sigs = [{ value := 8, setmax := true, wick := 6 }] ∧ (cmdOf 0 0 launchWords).stallUs = 100 := by decide

/-- MAP for context 2, readable and writable, BACKED at device address 0x2000: five operand words. -/
def mapWords : List Nat := [0x0000000001010080, 0x30002, 0x10000, 0x1000, 0x2000, 0, 0, 0]

theorem decode_map : headerOk 0 (nth mapWords 0) = true ∧ operandsOk mapWords = true
    ∧ (cmdOf 0 0 mapWords).op = .map { ctx := 2, va := 0x10000, len := 0x1000, rd := true, wr := true, backed := true, backing := 0x2000 } := by
  decide

/-- A header with an undefined opcode, FMT_VER 2, NWAIT 3, a reserved bit, or two slots at an odd index is refused (R103, R129). -/
theorem decode_refuses : headerOk 0 0x10001 = false ∧ headerOk 0 0x20000 = false ∧ headerOk 0 0x10C00 = false ∧ headerOk 0 0x210000 = false
    ∧ headerOk 1 0x10100 = false ∧ headerOk 2 0x10100 = true ∧ headerOk 0 0x1010000 = false
    ∧ entriesOk [0x10421, 7, 0x20005, 0x10000, 0xAB, 0x00000C0000000010] = false
    ∧ operandsOk [0x10021, 0x10000, 0xAB, 0x0001000000000010] = false := by decide

/-- No row of the opcode table gives bits. -/
theorem test_decodeTableWord : decodeTableWord 64 0x10421 = none := rfl

/-! ### Results worked out by hand -/

/-- A free semaphore reads 0 and is then Port B's (R471). -/
theorem test_semRead : ∃ t, exec (.semRead 2 5) (on (base.setSem 5 0)) = .next t ∧ t.blk.readData = 0 ∧ t.blk.sem 5 = 2 :=
  ⟨_, rfl, by decide, by decide⟩

/-- ADD of 5 to 2^64 − 3 saturates (R231); SETMAX of a smaller value leaves the wick. -/
theorem test_signal : ∃ t, exec (.wickSignalApply 9 false 5) (on (base.setSlot 9 { alloc := true, value := 0xFFFFFFFFFFFFFFFD })) = .next t
    ∧ (t.blk.slot 9).value = 0xFFFFFFFFFFFFFFFF := ⟨_, rfl, by decide⟩
theorem test_setmax : ∃ t, exec (.wickSignalApply 9 true 5) (on (base.setSlot 9 { alloc := true, value := 8 })) = .next t
    ∧ (t.blk.slot 9).value = 8 := ⟨_, rfl, by decide⟩


/-- The check values of CRC-64/ECMA-182 (R444) and CRC-32 (R359): both of the digits 123456789 in ASCII. -/
def digits : List Byte := [0x31, 0x32, 0x33, 0x34, 0x35, 0x36, 0x37, 0x38, 0x39]
set_option maxRecDepth 20000 in
theorem test_crc64 : crc64 digits = 0x6C40DF5F0B497347 := by decide
set_option maxRecDepth 20000 in
theorem test_crc32 : crc32 digits = 0xCBF43926 := by decide

/-- A frame of class 7, type 2, SEQ 0x33, ACK 0x44 with ACK_VALID, and payload bytes 1 to 24, laid out by R358 with the CRC-32 of its first
28 bytes, is that frame; with its last bit changed it is a bad frame (R359). -/
def frBytes (last : Byte) : List Byte :=
  [0x80, 0x44, 0x33, 0xe2] ++ (List.range' 1 24).map (BitVec.ofNat 8) ++ [0x40, 0x27, 0xbc, last]
set_option maxRecDepth 40000 in
theorem test_frame : frameOf (frBytes 0x49) = some {
      cls := 7, typ := 2, seq := 0x33, ack := 0x44, ackValid := true, replay := false, resv := 0
      payload := 0x1817161514131211100f0e0d0c0b0a090807060504030201 }
    ∧ frameOf (frBytes 0x48) = none := by decide

/-- E4M3 0x38 is 1, 0x7E is 448 and 0x7F is NaN; E5M2 0x7C is infinite; E2M1 7 is 6 (R221). FP64 of 1 and 448 by IEEE 754. -/
theorem test_formats : (match e4m3 0x38 with | .fin x => x.fp64 | _ => 0) = 0x3FF0000000000000
    ∧ (match e4m3 0x7E with | .fin x => x.fp64 | _ => 0) = 0x407C000000000000 ∧ e4m3 0x7F = .nan ∧ e5m2 0x7C = .inf false
    ∧ (match e2m1 7 with | .fin x => x.fp64 | _ => 0) = 0x4018000000000000 := by decide

end Sys2Proof.Tests
end

section
/-!
SUPPORT. The invariant of every step (R15, R470): canonical memories, and semaphores that are free or in the hands of Port A or Port B.
-/
namespace Sys2Proof.Proofs

open Sys2Proof Sys2Proof.Machine Sys2Proof.Safety Sys2Proof.Laws

/-- No row of the table breaks the invariant: each row by the law about its own meaning. -/
theorem exec_legal {i : Instr} {s t : State} (h : Legal s.blk) (e : exec i s = .next t) : Legal t.blk := by
  cases i with
  | powerOn => exact execPowerOn_legal h e
  | aonResetRelease => exact execAonResetRelease_legal h e
  | initialisationEnd => exact execInitialisationEnd_legal h e
  | goReady => exact execGoReady_legal h e
  | goRun => exact execGoRun_legal h e
  | doorbellWrite => exact execDoorbellWrite_legal h e
  | ringReadCompletion => exact execRingReadCompletion_legal h e
  | indirectRecordRead => exact execIndirectRecordRead_legal h e
  | lamplighterDecision => exact execLamplighterDecision_legal h e
  | occupancyWindowEnd => exact execOccupancyWindowEnd_legal h e
  | nop => exact execNop_legal h e
  | launch => exact execLaunch_legal h e
  | launchInd => exact execLaunchInd_legal h e
  | launchPersist => exact execLaunchPersist_legal h e
  | stopPersist => exact execStopPersist_legal h e
  | copy => exact execCopy_legal h e
  | fill => exact execFill_legal h e
  | atomic => exact execAtomic_legal h e
  | prefetch => exact execPrefetch_legal h e
  | advise => exact execAdvise_legal h e
  | wait => exact execWait_legal h e
  | signal => exact execSignal_legal h e
  | signalRemote => exact execSignalRemote_legal h e
  | timestamp => exact execTimestamp_legal h e
  | cadenceWait => exact execCadenceWait_legal h e
  | mark => exact execMark_legal h e
  | watch => exact execWatch_legal h e
  | map => exact execMap_legal h e
  | unmap => exact execUnmap_legal h e
  | invRange => exact execInvRange_legal h e
  | queueCreate => exact execQueueCreate_legal h e
  | queueDestroy => exact execQueueDestroy_legal h e
  | harnessGrow => exact execHarnessGrow_legal h e
  | harnessShrink => exact execHarnessShrink_legal h e
  | listLoad => exact execListLoad_legal h e
  | listPatch => exact execListPatch_legal h e
  | listRetire => exact execListRetire_legal h e
  | wickAlloc => exact execWickAlloc_legal h e
  | wickFree => exact execWickFree_legal h e
  | wickExport => exact execWickExport_legal h e
  | ctxSave => exact execCtxSave_legal h e
  | ctxRestore => exact execCtxRestore_legal h e
  | frameSupply => exact execFrameSupply_legal h e
  | commandCompletion => exact execCommandCompletion_legal h e
  | contextFreed => exact execContextFreed_legal h e
  | launchPlacement => exact execLaunchPlacement_legal h e
  | engineSpaceClearDone => exact execEngineSpaceClearDone_legal h e
  | lightingGroupStart => exact execLightingGroupStart_legal h e
  | wakeGroupStart => exact execWakeGroupStart_legal h e
  | powerGrant => exact execPowerGrant_legal h e
  | grantWaitTimeout => exact execGrantWaitTimeout_legal h e
  | engineClockGate => exact execEngineClockGate_legal h e
  | progressBeat => exact execProgressBeat_legal h e
  | engineInvocationEnd => exact execEngineInvocationEnd_legal h e
  | engineDrained => exact execEngineDrained_legal h e
  | taskItemTake => exact execTaskItemTake_legal h e
  | taskItemCompletion => exact execTaskItemCompletion_legal h e
  | breakpointHit => exact execBreakpointHit_legal h e
  | wickSignalApply => exact execWickSignalApply_legal h e
  | stepPacingExpiry => exact execStepPacingExpiry_legal h e
  | ledgerClosing => exact execLedgerClosing_legal h e
  | ledgerStorageUe => exact execLedgerStorageUe_legal h e
  | remoteWickSignal => exact execRemoteWickSignal_legal h e
  | remoteDoorbellSignal => exact execRemoteDoorbellSignal_legal h e
  | windowSignalWrite => exact execWindowSignalWrite_legal h e
  | wickImport => exact execWickImport_legal h e
  | wickRelease => exact execWickRelease_legal h e
  | windowOn => exact execWindowOn_legal h e
  | windowOff => exact execWindowOff_legal h e
  | boundCommit => exact execBoundCommit_legal h e
  | boundDisable => exact execBoundDisable_legal h e
  | wickRowUe => exact execWickRowUe_legal h e
  | stitchCacheUe => exact execStitchCacheUe_legal h e
  | listVerdict => exact execListVerdict_legal h e
  | cadenceFrameEdge => exact execCadenceFrameEdge_legal h e
  | cadenceTargetReached => exact execCadenceTargetReached_legal h e
  | cadInEdge => exact execCadInEdge_legal h e
  | cadLockLoss => exact execCadLockLoss_legal h e
  | holdoverEdge => exact execHoldoverEdge_legal h e
  | relayTimeout => exact execRelayTimeout_legal h e
  | cadSrcChange => exact execCadSrcChange_legal h e
  | stallBudgetExpiry => exact execStallBudgetExpiry_legal h e
  | stallAutoResume => exact execStallAutoResume_legal h e
  | stallResume => exact execStallResume_legal h e
  | stallEnd => exact execStallEnd_legal h e
  | drainLimitExpiry => exact execDrainLimitExpiry_legal h e
  | watchdogPet => exact execWatchdogPet_legal h e
  | watchdogLapse => exact execWatchdogLapse_legal h e
  | l0ContextTeardown => exact execL0ContextTeardown_legal h e
  | l1EngineReset => exact execL1EngineReset_legal h e
  | l2HarnessReset => exact execL2HarnessReset_legal h e
  | l3ChipReset => exact execL3ChipReset_legal h e
  | l4PowerCycle => exact execL4PowerCycle_legal h e
  | orderDone => exact execOrderDone_legal h e
  | pwrcycAckAssert => exact execPwrcycAckAssert_legal h e
  | pwrcycNoackTimeout => exact execPwrcycNoackTimeout_legal h e
  | rdoutAck => exact execRdoutAck_legal h e
  | readoutHoldExpiry => exact execReadoutHoldExpiry_legal h e
  | pwrcycReqRelease => exact execPwrcycReqRelease_legal h e
  | jobMembershipCommit => exact execJobMembershipCommit_legal h e
  | jobMembershipEnd => exact execJobMembershipEnd_legal h e
  | errEventPost => exact execErrEventPost_legal h e
  | spareRetireGo => exact execSpareRetireGo_legal h e
  | engineReplacement => exact execEngineReplacement_legal h e
  | correctableError => exact execCorrectableError_legal h e
  | engineUe => exact execEngineUe_legal h e
  | walkerUe => exact execWalkerUe_legal h e
  | channelFailure => exact execChannelFailure_legal h e
  | poisonRead => exact execPoisonRead_legal h e
  | poisonRepairDone => exact execPoisonRepairDone_legal h e
  | poisonConsumed => exact execPoisonConsumed_legal h e
  | retryStepDiscard => exact execRetryStepDiscard_legal h e
  | migrationFault => exact execMigrationFault_legal h e
  | migrationDmaDone => exact execMigrationDmaDone_legal h e
  | walkDone => exact execWalkDone_legal h e
  | atsCompletion => exact execAtsCompletion_legal h e
  | priResponse => exact execPriResponse_legal h e
  | atsInvalidateRequest => exact execAtsInvalidateRequest_legal h e
  | atsInvalidateCompletion => exact execAtsInvalidateCompletion_legal h e
  | registerInvalidation => exact execRegisterInvalidation_legal h e
  | frameRingEntryWrite => exact execFrameRingEntryWrite_legal h e
  | ztFcrHeadWrite => exact execZtFcrHeadWrite_legal h e
  | ztFcrSizeWrite => exact execZtFcrSizeWrite_legal h e
  | bootmapClear => exact execBootmapClear_legal h e
  | ztBootEnt0Write => exact execZtBootEnt0Write_legal h e
  | dtCountCommit => exact execDtCountCommit_legal h e
  | commitWickEnable => exact execCommitWickEnable_legal h e
  | snoopTimeout => exact execSnoopTimeout_legal h e
  | coherenceDown => exact execCoherenceDown_legal h e
  | rollCallClose => exact execRollCallClose_legal h e
  | coherenceRebuildDone => exact execCoherenceRebuildDone_legal h e
  | rdS => exact execRdS_legal h e
  | rdM => exact execRdM_legal h e
  | rdNa => exact execRdNa_legal h e
  | wrT => exact execWrT_legal h e
  | wrNc => exact execWrNc_legal h e
  | evict => exact execEvict_legal h e
  | wb => exact execWb_legal h e
  | snpFwd => exact execSnpFwd_legal h e
  | snpInv => exact execSnpInv_legal h e
  | snpBinv => exact execSnpBinv_legal h e
  | snpWb => exact execSnpWb_legal h e
  | ackInv => exact execAckInv_legal h e
  | ackFwd => exact execAckFwd_legal h e
  | cmp => exact execCmp_legal h e
  | data => exact execData_legal h e
  | mcStoreWrite => exact execMcStoreWrite_legal h e
  | verify => exact execVerify_legal h e
  | microcodeVerdict => exact execMicrocodeVerdict_legal h e
  | handover => exact execHandover_legal h e
  | clrSig => exact execClrSig_legal h e
  | mcSigDataWrite => exact execMcSigDataWrite_legal h e
  | semRead => exact execSemRead_legal h e
  | semRelease => exact execSemRelease_legal h e
  | semBreak => exact execSemBreak_legal h e
  | portDown => exact execPortDown_legal h e
  | portUp => exact execPortUp_legal h e
  | msixSpacingEnd => exact execMsixSpacingEnd_legal h e
  | pop => exact execPop_legal h e
  | evtInj => exact execEvtInj_legal h e
  | accInj => exact execAccInj_legal h e
  | ueArm => exact execUeArm_legal h e
  | ceArm => exact execCeArm_legal h e
  | registerWrite => exact execRegisterWrite_legal h e
  | misalignedAccess => exact execMisalignedAccess_legal h e
  | cadNowRead => exact execCadNowRead_legal h e
  | obScanDataRead => exact execObScanDataRead_legal h e
  | traceDmaWrite => exact execTraceDmaWrite_legal h e
  | traceFlushTimer => exact execTraceFlushTimer_legal h e
  | traceDisable => exact execTraceDisable_legal h e
  | tbSizeWrite => exact execTbSizeWrite_legal h e
  | tbHeadWrite => exact execTbHeadWrite_legal h e
  | occupancySample => exact execOccupancySample_legal h e
  | globalStopRequest => exact execGlobalStopRequest_legal h e
  | stopInEdge => exact execStopInEdge_legal h e
  | globalStopRelease => exact execGlobalStopRelease_legal h e
  | breakpointCommit => exact execBreakpointCommit_legal h e
  | breakpointResume => exact execBreakpointResume_legal h e
  | breakpointStep => exact execBreakpointStep_legal h e
  | cnFreezeWrite => exact execCnFreezeWrite_legal h e
  | ptEnWrite => exact execPtEnWrite_legal h e
  | retrain => exact execRetrain_legal h e
  | laneSignalChange => exact execLaneSignalChange_legal h e
  | ts1 => exact execTs1_legal h e
  | ts2 => exact execTs2_legal h e
  | trainingAttemptTimeout => exact execTrainingAttemptTimeout_legal h e
  | ident => exact execIdent_legal h e
  | identSend => exact execIdentSend_legal h e
  | identTimeout => exact execIdentTimeout_legal h e
  | credit => exact execCredit_legal h e
  | creditReportTimer => exact execCreditReportTimer_legal h e
  | creditStallTimeout => exact execCreditStallTimeout_legal h e
  | nak => exact execNak_legal h e
  | replayTimer => exact execReplayTimer_legal h e
  | badFrame => exact execBadFrame_legal h e
  | auth => exact execAuth_legal h e
  | authDone => exact execAuthDone_legal h e
  | authVerdict => exact execAuthVerdict_legal h e
  | authTimeout => exact execAuthTimeout_legal h e
  | laneSwitch => exact execLaneSwitch_legal h e
  | laneFailure => exact execLaneFailure_legal h e
  | heartbeat => exact execHeartbeat_legal h e
  | heartbeatSend => exact execHeartbeatSend_legal h e
  | heartbeatTimeout => exact execHeartbeatTimeout_legal h e
  | timeSyncExchange => exact execTimeSyncExchange_legal h e
  | sync => exact execSync_legal h e
  | followUp => exact execFollowUp_legal h e
  | delayReq => exact execDelayReq_legal h e
  | delayResp => exact execDelayResp_legal h e
  | relay => exact execRelay_legal h e
  | error => exact execError_legal h e
  | abort => exact execAbort_legal h e
  | eventForget => exact execEventForget_legal h e
  | record => exact execRecord_legal h e
  | message => exact execMessage_legal h e
  | mgTxGo => exact execMgTxGo_legal h e
  | mgRxConsume => exact execMgRxConsume_legal h e
  | fpDestWrite => exact execFpDestWrite_legal h e
  | coreResetAssert => exact execCoreResetAssert_legal h e
  | translationFault => exact execTranslationFault_legal h e
  | rangeCacheWayUe => exact execRangeCacheWayUe_legal h e
  | rcFieldRead => exact execRcFieldRead_legal h e
  | authSessionOpen => exact execAuthSessionOpen_legal h e
  | securityAuthBytes => exact execSecurityAuthBytes_legal h e

theorem step_legal_of_idle {s t : State} (hp : s.pending = []) (h : Legal s.blk) (e : step s = .next t) : Legal t.blk := by
  simp only [step, hp, Host.Outcome.next.injEq] at e
  subst e
  exact tick_legal h

theorem step_legal_of_command {c : Instr} {cs : List Instr} {s t : State} (hp : s.pending = c :: cs) (h : Legal s.blk)
    (e : step s = .next t) : Legal t.blk := by
  simp only [step, hp] at e
  exact exec_legal (s := { s with pending := cs }) h e

/-- Settles O5: a step is an idle cycle or the command at the front of the queue, and both keep the invariant. -/
theorem stepKeepsLegal : Obligations.StepKeepsLegal := by
  unfold Obligations.StepKeepsLegal
  intro s t h e
  cases hp : s.pending with
  | nil => exact step_legal_of_idle hp h e
  | cons c cs => exact step_legal_of_command hp h e

end Sys2Proof.Proofs
end

section
/-!
SUPPORT. The core domain and the life of a command at its end: the rows that a held core or a global stop holds (R448, R531), what
ending a command leaves, and the completion of a command in ring order (R23, R24, R99).
-/
namespace Sys2Proof.Proofs

open Sys2Proof Sys2Proof.Machine Sys2Proof.Safety Sys2Proof.Laws

/-! ### Rows of the core domain -/

/-- Every row outside `stopActs` is a row of the core domain (those of the coherence domain among them): each arm of `exec` is a
`State.core`, which leaves a frozen block as it is. -/
theorem exec_holds {i : Instr} {s : State} (hf : s.blk.frozen = true) (hi : stopActs i = false) : exec i s = .next s := by
  cases i <;> cases hi -- the rows of `stopActs` are gone
  all_goals
    unfold exec
    exact core_holds hf

/-- Settles O7: the core domain is frozen when it is held in reset and in a global stop. A row that comes meanwhile is lost, not
taken up later (log entry 2). -/
theorem coreRowsHold : Obligations.CoreRowsHold := by
  unfold Obligations.CoreRowsHold
  exact fun _ _ hf hi => exec_holds hf hi

/-! ### The end of a command -/

/-- Settles O10: the command that ends, the commands that do not, and the frame of `endCmd`. -/
theorem endedCommand : Obligations.EndedCommand := by
  unfold Obligations.EndedCommand
  intro b q i st c hc hp
  exact ⟨endCmd_cmd hc hp, fun _ _ hn => endCmd_other hn,
    agree_of_keeps (Block.endCmd_keeps (sub_refl _) (Keeps.refl _ _)) (by decide)⟩

/-! ### Queues that no step ends -/

/-- Two queues stand alike: state, COMPLETED_INDEX, completions ahead of it and ring size; their counts may differ. -/
structure SameRing (x y : HwQueue) : Prop where
  st : y.st = x.st
  completed : y.completed = x.completed
  done : y.done = x.done
  slots : y.slots = x.slots

theorem SameRing.refl (x : HwQueue) : SameRing x x := ⟨rfl, rfl, rfl, rfl⟩

theorem SameRing.trans {x y z : HwQueue} (h : SameRing x y) (g : SameRing y z) : SameRing x z :=
  ⟨g.st.trans h.st, g.completed.trans h.completed, g.done.trans h.done, g.slots.trans h.slots⟩

/-- All queues of two blocks stand alike. -/
def SameRings (a b : Block) : Prop := ∀ k, SameRing (a.queue k) (b.queue k)

theorem SameRings.trans {a b c : Block} (h : SameRings a b) (g : SameRings b c) : SameRings a c := fun k => (h k).trans (g k)

theorem SameRings.of_same {a b : Block} (h : Part.same .queues a b) : SameRings a b := by
  intro k
  unfold Block.queue
  rw [h.1]
  exact SameRing.refl _

/-- A queue written with the same ring and state. -/
theorem SameRings.setQueue (b : Block) {q : Nat} {v : HwQueue} (h : SameRing (b.queue q) v) : SameRings b (b.setQueue q v) := by
  intro k
  by_cases hk : q = k
  · subst hk
    rwa [Block.setQueue_self]
  · rw [Block.setQueue_other _ _ _ _ hk]
    exact SameRing.refl _

/-- No queue is draining or aborting. -/
def NoQueueEnds (b : Block) : Prop := ∀ k, ¬((b.queue k).st = .draining ∨ (b.queue k).st = .aborting)

theorem noQueueEnds_of_queues {b : Block} (h : (b.queues.any fun kv => kv.2.st = .draining ∨ kv.2.st = .aborting) = false) :
    NoQueueEnds b := by
  intro k
  unfold Block.queue
  generalize b.queues = l at h
  induction l with
  | nil => simp [Tab.get]
  | cons e t ih =>
    rw [List.any_cons, Bool.or_eq_false_iff, decide_eq_false_iff_not] at h
    unfold Tab.get
    split
    · exact h.1
    · exact ih h.2

theorem NoQueueEnds.of_st {a b : Block} (h : NoQueueEnds a) (hst : ∀ k, (b.queue k).st = (a.queue k).st) : NoQueueEnds b := by
  intro k
  rw [hst k]
  exact h k

/-- Where no queue ends, the settling of queues has nothing to do. -/
theorem NoQueueEnds.settleQueues {b : Block} (h : NoQueueEnds b) : b.settleQueues = b := by
  have hq : ∀ q, b.settleQueue q = b := fun q => if_neg fun hc => h q hc.1
  unfold Block.settleQueues
  generalize b.queues.map (·.1) = l
  induction l with
  | nil => rfl
  | cons q t ih => rw [List.foldl_cons, hq, ih]

/-! ### COMPLETED_INDEX -/

theorem advance_st (n : Nat) : ∀ x : HwQueue, (x.advance n).st = x.st := by
  induction n with
  | zero => exact fun _ => rfl
  | succ n ih =>
    intro x
    unfold HwQueue.advance
    split
    · rfl
    · rw [ih]

theorem complete_st (x : HwQueue) (i n : Nat) : (x.complete i n).st = x.st := advance_st _ _

/-- A completion in ring order passes COMPLETED_INDEX over the command (R24). -/
theorem complete_in_order {x : HwQueue} {i n : Nat} (hd : x.done = []) (hc : x.completed = i) :
    (x.complete i n).completed = (i + n) % (2 * x.slots) := by
  subst hc
  simp [HwQueue.complete, HwQueue.advance, HwQueue.slots, hd]

/-! ### The steps of a completion -/

theorem fixDeadlines_queue (b : Block) (k : Nat) : b.fixDeadlines.queue k = b.queue k := mapCmds_queue _ _ _ _

theorem fixDeadlines_rings (b : Block) : SameRings b b.fixDeadlines := fun _ => SameRing.refl _

theorem count32_queues (b : Block) (a : Nat) : Part.same .queues b (b.count32 a) :=
  agree_of_keeps (ps := [.regs]) (Block.count32_keeps (sub_refl _) (Keeps.refl _ _)) (by decide) .queues (by decide)

/-- Without signals, only the deadlines are looked at. -/
theorem sigAll_nil (b : Block) (ctx : Nat) (who : Option (Nat × Nat)) : b.sigAll ctx [] who = b.fixDeadlines := by
  have hb : (b.bounds.filter fun kv => kv.2.en && (([] : List Nat).contains kv.2.prodSlot || ([] : List Nat).contains kv.2.consSlot)) = [] :=
    List.filter_eq_nil_iff.2 fun kv _ => by simp
  show (b.checkBounds []).fixDeadlines = _
  unfold Block.checkBounds
  rw [hb]
  rfl

theorem writeStatus_frame {b b' : Block} {q i st : Nat} (h : b.writeStatus q i st = .ok b') :
    agreeBut [.dev, .host, .mappings, .coherence, .poison] b b' :=
  agree_of_keeps (Block.writeStatus_keeps (sub_refl _) (Keeps.refl _ _) h) (by decide)

theorem profEnd_queues (b : Block) (c : Cmd) (st : Nat) : Part.same .queues b (b.profEnd c st) :=
  agree_of_keeps (ps := [.regs, .trace]) (Block.profEnd_keeps (sub_refl _) (Keeps.refl _ _)) (by decide) .queues (by decide)

theorem releaseEngs_queues (b : Block) (es : List Nat) : Part.same .queues b (b.releaseEngs es) :=
  agree_of_keeps (ps := [.engines, .waits, .translation]) (Block.releaseEngs_keeps (sub_refl _) (Keeps.refl _ _)) (by decide)
    .queues (by decide)

theorem reapVersions_queues (b : Block) : Part.same .queues b b.reapVersions :=
  agree_of_keeps (ps := [.lists, .breakpoints]) (Block.reapVersions_keeps (sub_refl _) (Keeps.refl _ _)) (by decide) .queues (by decide)

theorem sigsHeld_of_waits {a b : Block} {q i : Nat} (h : Part.same .waits a b) : b.sigsHeld q i = a.sigsHeld q i := by
  unfold Block.sigsHeld
  rw [h.2.2]

/-- A command without signals: the start of its completion writes no more than its records, its queue's misses and deadlines. -/
theorem sendSigs_frame {b : Block} {c : Cmd} {st : Nat} (hs : c.sigs = []) : agreeBut [.regs, .queues, .trace] b (b.sendSigs c st) := by
  refine agree_of_keeps (m := 1099511636096) ?_ (by decide)
  unfold Block.sendSigs
  extract_lets q miss b₁ x b₂
  have hprof : Keeps 1099511636096 b b₁ := Block.profEnd_keeps rfl (Keeps.refl _ _)
  have hmiss : Keeps 1099511636096 b b₂ := Keeps.choice (fun _ => Block.count32_keeps rfl (Block.setQueue_keeps rfl hprof)) fun _ => hprof
  rw [hs, sigAll_nil]
  exact Keeps.choice (fun _ => Block.fixDeadlines_keeps rfl hmiss) fun _ => hmiss

/-- A command without signals: the start of its completion counts at most a miss in its queue. -/
theorem sendSigs_rings {b : Block} {c : Cmd} {st : Nat} (hs : c.sigs = []) : SameRings b (b.sendSigs c st) := by
  unfold Block.sendSigs
  extract_lets q miss b₁ x b₂
  have hprof : SameRings b b₁ := .of_same (profEnd_queues b c st)
  have hmiss : SameRings b b₂ := by
    subst b₂
    split
    · refine (hprof.trans ?_).trans (.of_same (count32_queues _ _))
      exact .setQueue _ ⟨rfl, rfl, rfl, rfl⟩
    · exact hprof
  rw [hs, sigAll_nil]
  split
  · exact hmiss.trans (fixDeadlines_rings _)
  · exact hmiss

/-- A command without signals: the start of its completion holds no signal back. -/
theorem sendSigs_sigsHeld {b : Block} {c : Cmd} {st q i : Nat} (hs : c.sigs = []) : (b.sendSigs c st).sigsHeld q i = b.sigsHeld q i :=
  sigsHeld_of_waits (sendSigs_frame hs .waits (by decide))

theorem dropPins_queues (b : Block) (ids : List Nat) : (b.dropPins ids).queues = b.queues := rfl

theorem removeCmd_queues (b : Block) (c : Cmd) : (b.removeCmd c).queues = b.queues := by
  rw [(releaseEngs_queues b c.engs).1]
  unfold Block.removeCmd
  extract_lets
  rw [← (reapVersions_queues _).1, dropPins_queues]
  rfl

theorem removeCmd_rings (b : Block) (c : Cmd) : SameRings b (b.removeCmd c) := by
  intro k
  unfold Block.queue
  rw [removeCmd_queues]
  exact SameRing.refl _

/-- A map over the commands makes no command. -/
theorem mapCmds_none {b : Block} {p f} {q i : Nat} (hf : ∀ c, (f c).q = c.q ∧ (f c).i = c.i) (h : b.cmd? q i = none) :
    (b.mapCmds p f).cmd? q i = none := by
  rw [mapCmds_cmd hf, h]
  rfl

/-- A command that is removed is found no more. -/
theorem removeCmd_cmd (b : Block) (c : Cmd) : (b.removeCmd c).cmd? c.q c.i = none := by
  unfold Block.removeCmd
  rw [cmd_of (reapVersions_queues _)]
  refine mapCmds_none (fun _ => ⟨rfl, rfl⟩) (List.find?_eq_none.2 fun x hx hplace => ?_)
  have hkept := (List.mem_filter.1 hx).2
  rw [hplace] at hkept
  cases hkept

/-- The block once the command and what it holds are released and its slots are counted as done: the next thing is COMPLETED_INDEX. -/
def released (b : Block) (c : Cmd) : Block :=
  let b := (b.releaseEngs c.engs).removeCmd c
  b.setQueue c.q { b.queue c.q with doneSlots := (b.queue c.q).doneSlots + c.slots }

theorem released_rings (b : Block) (c : Cmd) : SameRings b (released b c) :=
  ((SameRings.of_same (releaseEngs_queues b c.engs)).trans (removeCmd_rings _ c)).trans (.setQueue _ ⟨rfl, rfl, rfl, rfl⟩)

theorem released_cmd (b : Block) (c : Cmd) : (released b c).cmd? c.q c.i = none := by
  unfold released
  rw [Block.setQueue_cmdQ, removeCmd_cmd]

/-- A command that ends with OK or OK_EMPTY leaves without an event or a halt (R52, R101); where no queue ends, no queue is settled. -/
theorem leaveCmd_ok {b : Block} {c : Cmd} {st : Nat} (hst : st ≤ 1) (hq : NoQueueEnds b) :
    b.leaveCmd c st = ((released b c).setQueue c.q (((released b c).queue c.q).complete c.i c.slots)).fixDeadlines := by
  have herr : ¬(c.errEvt = true ∧ 1 < st) := fun h => by omega
  have hhalt : halting st = false := by
    obtain rfl | rfl : st = 0 ∨ st = 1 := by omega
    · rfl
    · rfl
  have hends : NoQueueEnds ((released b c).setQueue c.q (((released b c).queue c.q).complete c.i c.slots)) := by
    intro k
    have hk := hq k
    rw [← (released_rings b c k).st] at hk
    by_cases hck : c.q = k
    · subst hck
      rw [Block.setQueue_self, complete_st]
      exact hk
    · rwa [Block.setQueue_other _ _ _ _ hck]
  unfold Block.leaveCmd
  simp only [herr, hhalt, if_false, Bool.false_eq_true]
  exact (hends.of_st fun k => (fixDeadlines_rings _ k).st).settleQueues

/-- A command at the place of COMPLETED_INDEX that has no signals and ends well leaves, and COMPLETED_INDEX passes it (R23, R24, R99). -/
theorem finishCmd_in_order {b : Block} {c : Cmd} {st : Nat} (hsigs : c.sigs = []) (hheld : b.sigsHeld c.q c.i = false) (hst : st ≤ 1)
    (hdone : (b.queue c.q).done = []) (hcomp : (b.queue c.q).completed = c.i) (hq : NoQueueEnds b) :
    (b.finishCmd c st).cmd? c.q c.i = none
      ∧ ((b.finishCmd c st).queue c.q).completed = (c.i + c.slots) % (2 * (b.queue c.q).slots) := by
  have hsent := sendSigs_rings (b := b) (st := st) hsigs
  have hends : NoQueueEnds (b.sendSigs c st) := hq.of_st fun k => (hsent k).st
  have hleave : b.finishCmd c st = _ :=
    (if_neg (by rw [sendSigs_sigsHeld hsigs, hheld]; exact Bool.false_ne_true)).trans (leaveCmd_ok hst hends)
  have hring := hsent.trans (released_rings _ c) c.q
  rw [hleave]
  constructor
  · rw [fixDeadlines_cmd, Block.setQueue_cmdQ, released_cmd]
    rfl
  · rw [fixDeadlines_queue, Block.setQueue_self, complete_in_order (hring.done.trans hdone) (hring.completed.trans hcomp), hring.slots]

/-! ### The rows of completion and freeing -/

theorem cmd_place {b : Block} {q i : Nat} {c : Cmd} (h : b.cmd? q i = some c) : c.q = q ∧ c.i = i := by
  simpa using List.find?_some h

/-- COMMAND_COMPLETION of a command that has ended, once its STATUS is written. -/
theorem completeCmd_written {b b' : Block} {q i st : Nat} {c : Cmd} (hc : b.cmd? q i = some c) (hph : c.phase = .ended st)
    (hpost : c.posted = false) (hstall : c.stalled = false) (hw : b.writeStatus q i st = .ok b') : b.completeCmd q i = b'.finishCmd c st := by
  unfold Block.completeCmd
  simp only [hc, hph, hpost, hstall, hw, Bool.false_eq_true, if_false]

theorem completeCmd_none {b : Block} {q i : Nat} (hc : b.cmd? q i = none) : b.completeCmd q i = b := by
  unfold Block.completeCmd
  rw [hc]

/-- CONTEXT_FREED of a context of which nothing is left. -/
theorem freeCtx_empty {b : Block} {c : Nat} (hst : (b.ctx c).st = .closing) (hq : b.hasQueue c = false) (he : (b.freeObjects c).empty c = true) :
    b.freeCtx c = ((b.freeObjects c).dropPasid ((b.freeObjects c).ctx c).pasid).setCtx c { ats := ((b.freeObjects c).ctx c).ats } := by
  unfold Block.freeCtx
  simp only [hst, hq, he, Bool.not_false, and_self, if_true]

/-- CONTEXT_FREED of a context that still holds something. -/
theorem freeCtx_left {b : Block} {c : Nat} (hst : (b.ctx c).st = .closing) (hq : b.hasQueue c = false) (he : (b.freeObjects c).empty c = false) :
    b.freeCtx c = b.freeObjects c := by
  unfold Block.freeCtx
  simp only [hst, hq, he, Bool.not_false, and_self, if_true, Bool.false_eq_true, if_false]

/-- A PASID that is dropped has no cached translation (R41). -/
theorem dropPasid_atsCache (b : Block) (p : Nat) : ((b.dropPasid p).atsCache.any fun e => e.pasid = p) = false := by
  simp [Block.dropPasid]

theorem commandCompletion_gives {s : State} {q i : Nat} (h : Runs s) : Gives (.commandCompletion q i) s (s.blk.completeCmd q i) := by
  unfold Gives exec
  exact core_runs h

theorem contextFreed_gives {s : State} {c : Nat} (h : Runs s) : Gives (.contextFreed c) s (s.blk.freeCtx c) := by
  unfold Gives exec
  exact core_runs h

/-- Settles O15: the completion of a command in ring order, and the freeing of a context. -/
theorem completionAndFreeing : Obligations.CompletionAndFreeing := by
  unfold Obligations.CompletionAndFreeing
  intro s hr
  refine ⟨fun q i c st b hc hph hpost hstall hw => ⟨?_, ?_⟩, fun q i hc => ?_, fun c hst hq he => ⟨?_, ?_, ?_⟩, fun c hst hq he => ?_⟩
  · rw [← completeCmd_written hc hph hpost hstall hw]
    exact commandCompletion_gives hr
  · intro hsigs hheld hst hdone hcomp hq
    obtain ⟨rfl, rfl⟩ := cmd_place hc
    have hframe := writeStatus_frame hw
    have hrings := SameRings.of_same (hframe .queues (by decide))
    have hring := hrings c.q
    rw [← hring.slots]
    exact finishCmd_in_order hsigs ((sigsHeld_of_waits (hframe .waits (by decide))).trans hheld) hst (hring.done.trans hdone)
      (hring.completed.trans hcomp) ((noQueueEnds_of_queues hq).of_st fun k => (hrings k).st)
  · have h := commandCompletion_gives (q := q) (i := i) hr
    rwa [completeCmd_none hc] at h
  · rw [← freeCtx_empty hst hq he]
    exact contextFreed_gives hr
  · rw [Block.setCtx_self]
  · exact dropPasid_atsCache _ _
  · rw [← freeCtx_left hst hq he]
    exact contextFreed_gives hr

end Sys2Proof.Proofs
end

section
/-!
SUPPORT. Kernel commands: what the row of a decided command answers, and what the end of a command leaves as it was; then the
commands on wicks (R67, R68, R69, R254) and on queues (R39, R48, R55, R124).
-/
namespace Sys2Proof.Proofs

open Sys2Proof Sys2Proof.Machine Sys2Proof.Safety Sys2Proof.Laws

/-! ### Rows of commands -/

/-- A row that works on a decided command gives what the work leaves. -/
theorem gives_of_decided {row : Instr} {s : State} {q i opc : Nat} {c : Cmd} {work : Cmd → Block → Block} {b : Block}
    (hrow : exec row s = s.core fun b => b.runCmd q i opc work) (hr : Runs s) (hd : Decided s q i opc c) (hwork : work c s.blk = b) :
    Gives row s b := by
  unfold Gives
  rw [hrow, core_runs hr, runCmd_decided hd, hwork]

/-- A row that works on a command under way gives what the work leaves. -/
theorem gives_of_underway {row : Instr} {s : State} {q i opc : Nat} {c : Cmd} {work : Cmd → Block → Block} {b : Block}
    (hrow : exec row s = s.core fun b => b.runCmd q i opc work) (hr : Runs s) (hu : Underway s q i opc c) (hwork : work c s.blk = b) :
    Gives row s b := by
  unfold Gives
  rw [hrow, core_runs hr, runCmd_underway hu, hwork]

/-- A row that ends its decided command where it stands. -/
theorem leaves_ended {row : Instr} {s : State} {q i opc st : Nat} {c : Cmd} (hd : Decided s q i opc c)
    (h : Gives row s (s.blk.endCmd q i st)) : Leaves row s (s.blk.endCmd q i st) (HasEnded q i st) :=
  ⟨h, decided_ended hd (same_refl _ _)⟩

/-! ### What the end of a command leaves as it was -/

theorem endCmd_frame (b : Block) (q i st : Nat) : agreeBut [.queues, .harnesses, .waits, .lists, .translation] b (b.endCmd q i st) :=
  agree_of_keeps (Block.endCmd_keeps (sub_refl _) (Keeps.refl _ _)) (by decide)

theorem ctx_of {a b : Block} {t : Nat} (h : Part.same .contexts a b) : b.ctx t = a.ctx t := by
  unfold Block.ctx
  rw [show a.ctxs = b.ctxs from h]

theorem slot_of {a b : Block} {k : Nat} (h : Part.same .wicks a b) : b.slot k = a.slot k := by
  unfold Block.slot
  rw [h.1]

theorem vid_of {a b : Block} {t v : Nat} (h : Part.same .wicks a b) : b.vid t v = a.vid t v := by
  unfold Block.vid
  rw [h.2.1]

@[simp] theorem endCmd_ctx (b : Block) (q i st t : Nat) : (b.endCmd q i st).ctx t = b.ctx t :=
  ctx_of (endCmd_frame b q i st .contexts (by decide))

@[simp] theorem endCmd_slot (b : Block) (q i st k : Nat) : (b.endCmd q i st).slot k = b.slot k :=
  slot_of (endCmd_frame b q i st .wicks (by decide))

@[simp] theorem endCmd_vid (b : Block) (q i st t v : Nat) : (b.endCmd q i st).vid t v = b.vid t v :=
  vid_of (endCmd_frame b q i st .wicks (by decide))

/-! ### WICK_ALLOC -/

theorem wickAlloc_gives_slot {s : State} {q i t v x k : Nat} {c : Cmd} (hr : Runs s) (hd : Decided s q i 0xA0 c)
    (hop : c.op = .wickAlloc t v x) (ho : OpenFor s t) (hv : s.blk.vid t v = .free) (hk : s.blk.freeSlot? = some k) :
    Gives (.wickAlloc q i) s ((s.blk.allocVid t v k x).endCmd q i 0) := by
  refine gives_of_decided rfl hr hd ?_
  simp only [hop, kernel_open (congrArg Op.target hop) ho, hv, hk]

theorem wickAlloc_gives_busy {s : State} {q i t v x : Nat} {c : Cmd} (hr : Runs s) (hd : Decided s q i 0xA0 c)
    (hop : c.op = .wickAlloc t v x) (ho : OpenFor s t) (hk : s.blk.freeSlot? = none) :
    Gives (.wickAlloc q i) s (s.blk.endCmd q i 0x14) := by
  refine gives_of_decided rfl hr hd ?_
  simp only [hop, kernel_open (congrArg Op.target hop) ho, hk]
  cases s.blk.vid t v <;> rfl

theorem allocVid_vid (b : Block) (t v k x : Nat) : (b.allocVid t v k x).vid t v = .owned k := Block.setVid_self _ _ _ _

theorem allocVid_slot (b : Block) (t v k x : Nat) :
    (b.allocVid t v k x).slot k = { b.slot k with value := x, alloc := true, owner := some (t, v) } := Block.setSlot_self _ _ _

/-! ### WICK_FREE -/

theorem wickFree_gives {s : State} {q i t v : Nat} {c : Cmd} (hr : Runs s) (hd : Decided s q i 0xA1 c) (hop : c.op = .wickFree t v)
    (ho : OpenFor s t) :
    Gives (.wickFree q i) s (if s.blk.vid t v = .free then s.blk.endCmd q i 0x13
      else if s.blk.vidNamed t v then s.blk.endCmd q i 0x14 else (s.blk.freeVid t v).endCmd q i 0) := by
  refine gives_of_decided rfl hr hd ?_
  simp only [hop, kernel_open (congrArg Op.target hop) ho]

/-- Signals that a freed slot drops touch a counter and the ledger. -/
theorem sigDrops_vid (l : List HeldSig) (b : Block) (t v : Nat) : (l.foldl (fun b y => b.sigDrop y.win) b).vid t v = b.vid t v :=
  vid_of (agree_of_keeps (ps := [.regs, .ledger])
    (Keeps.foldl (fun _ _ h => Block.sigDrop_keeps (sub_refl _) h) l (Keeps.refl _ b)) (by decide) .wicks (by decide))

/-- The freeing of a slot leaves the names as they are. -/
theorem freeSlot_vid (b : Block) (k t v : Nat) : (b.freeSlot k).vid t v = b.vid t v := by
  unfold Block.freeSlot
  extract_lets x x' b₁ b₂ b₃ dropped
  rw [sigDrops_vid]
  have hreg : b₂.vids = b.vids := by
    subst b₂
    split <;> rfl
  unfold Block.vid
  rw [← hreg]
  rfl

/-- A virtual ID that is freed names nothing. -/
theorem freeVid_vid (b : Block) (t v : Nat) : (b.freeVid t v).vid t v = .free := by
  unfold Block.freeVid
  split
  case h_1 h => exact h
  case h_2 h =>
    extract_lets k b₁ b₂ x b₃
    have hgone : b₂.vid t v = .free := Block.setVid_self _ _ _ _
    have hnamed : b₃.vid t v = .free := by
      subst b₃
      split
      · exact hgone
      · exact hgone
    split
    · exact hnamed
    · rw [freeSlot_vid, hnamed]

theorem freeVid_queues (b : Block) (t v : Nat) : Part.same .queues b (b.freeVid t v) :=
  agree_of_keeps (ps := [.regs, .harnesses, .wicks, .waits, .ledger]) (Block.freeVid_keeps (sub_refl _) (Keeps.refl _ _)) (by decide)
    .queues (by decide)

/-! ### WICK_EXPORT -/

theorem wickExport_gives_import {s : State} {q i t v a k r : Nat} {c : Cmd} (hr : Runs s) (hd : Decided s q i 0xA2 c)
    (hop : c.op = .wickExport t v a) (ho : OpenFor s t) (hv : s.blk.vid t v = .imported k r) :
    Gives (.wickExport q i) s (s.blk.endCmd q i 0x12) := by
  refine gives_of_decided rfl hr hd ?_
  simp only [hop, kernel_open (congrArg Op.target hop) ho, hv]

/-- WICK_EXPORT of an owned slot whose token goes to memory at once. -/
theorem wickExport_gives_token {s : State} {q i t v a k : Nat} {c : Cmd} {b b' : Block} (hr : Runs s) (hd : Decided s q i 0xA2 c)
    (hop : c.op = .wickExport t v a) (ho : OpenFor s t) (hv : s.blk.vid t v = .owned k)
    (hb : b = s.blk.touch t a (some (.cmd q i))) (hrest : AtRest b) (hw : b.writeVa t a (leBytes 8 (b.token k)) = .ok b') :
    Gives (.wickExport q i) s ((b'.setSlot k { b'.slot k with exported := true, everExported := true }).endCmd q i 0) := by
  refine gives_of_decided rfl hr hd ?_
  simp only [hop, kernel_open (congrArg Op.target hop) ho, hv, ← hb, access_ok hrest hw]

theorem touch_queues (b : Block) (t a : Nat) (who : Option Asker) : Part.same .queues b (b.touch t a who) :=
  agree_of_keeps (ps := [.regs, .stamps, .translation]) (Block.touch_keeps (sub_refl _) (Keeps.refl _ _)) (by decide) .queues (by decide)

theorem writeVa_queues {b b' : Block} {t a : Nat} {xs : List Byte} (h : b.writeVa t a xs = .ok b') : Part.same .queues b b' :=
  agree_of_keeps (ps := [.dev, .host, .mappings, .coherence, .poison]) (Block.writeVa_keeps (sub_refl _) (Keeps.refl _ _) h) (by decide)
    .queues (by decide)

/-- Settles O29: each command by its row, and the names and slots by what the end of a command leaves as it was. -/
theorem wickCommands : Obligations.WickCommands := by
  unfold Obligations.WickCommands
  intro s q i c hr
  refine ⟨?_, ?_, ?_, ?_, ?_, ?_, ?_⟩
  · intro t v x k hd hop ho hv hk
    refine ⟨wickAlloc_gives_slot hr hd hop ho hv hk, decided_ended hd ⟨rfl, rfl⟩, ?_⟩
    simp only [endCmd_vid, endCmd_slot, allocVid_vid, allocVid_slot, and_self]
  · intro t v x hd hop ho hk
    exact leaves_ended hd (wickAlloc_gives_busy hr hd hop ho hk)
  · intro t v hd hop ho hv
    have hg := wickFree_gives hr hd hop ho
    rw [if_pos hv] at hg
    exact leaves_ended hd hg
  · intro t v hd hop ho hv hnamed
    have hg := wickFree_gives hr hd hop ho
    rw [if_neg hv, if_pos hnamed] at hg
    exact leaves_ended hd hg
  · intro t v hd hop ho hv hnamed
    have hg := wickFree_gives hr hd hop ho
    rw [if_neg hv, if_neg (by simp [hnamed])] at hg
    exact ⟨hg, decided_ended hd (freeVid_queues _ _ _), (endCmd_vid ..).trans (freeVid_vid _ _ _)⟩
  · intro t v a k r hd hop ho hv
    exact leaves_ended hd (wickExport_gives_import hr hd hop ho hv)
  · intro t v a k b b' hd hop ho hv hb hrest hw
    refine ⟨wickExport_gives_token hr hd hop ho hv hb hrest hw, decided_ended hd ?_, ?_⟩
    · subst hb
      exact same_trans (same_trans (touch_queues ..) (writeVa_queues hw)) ⟨rfl, rfl⟩
    · rw [endCmd_slot, Block.setSlot_self]

/-! ### QUEUE_CREATE -/

/-- QUEUE_CREATE meets no obstacle in its context where that is OPEN, or FREE and still to be opened (R39). -/
theorem kernel_create {b : Block} {c : Cmd} {p : QCreate} {f : Block → Block} (hcode : c.opcode = 0x88) (hph : c.phase = .decided)
    (hop : c.op = .queueCreate p) (hst : (b.ctx p.ctx).st = .opn ∨ (b.ctx p.ctx).st = .free) : b.kernel c f = f b := by
  rcases hst with hst | hst
  · exact kernel_open (congrArg Op.target hop) hst
  · unfold Block.kernel
    simp [hop, Op.target, Block.ctxLost, Block.ctxClosing, hst, hph, hcode]

theorem queueCreate_gives {s : State} {q i : Nat} {c : Cmd} {p : QCreate} (hr : Runs s) (hd : Decided s q i 0x88 c)
    (hop : c.op = .queueCreate p) (hst : OpenFor s p.ctx ∨ (s.blk.ctx p.ctx).st = .free) :
    Gives (.queueCreate q i) s (s.blk.doCreate c p) := by
  have ⟨_, hcode, _, hph, _⟩ := hd
  refine gives_of_decided rfl hr hd ?_
  simp only [hop, kernel_create hcode hph hop hst]

theorem doCreate_bad {b : Block} {c : Cmd} {p : QCreate} {st : Nat} (h : b.queueArgs p c.stallUs = .bad st) :
    b.doCreate c p = b.endCmd c.q c.i st := by
  unfold Block.doCreate
  rw [h]

theorem doCreate_full {b : Block} {c : Cmd} {p : QCreate} {u : Unit} (h : b.queueArgs p c.stallUs = .ok u)
    (hroom : b.queueRoom p = false) : b.doCreate c p = b.endCmd c.q c.i 0x14 := by
  unfold Block.doCreate
  simp [h, hroom]

/-- QUEUE_CREATE that passes its checks makes its queue, a FREE context being opened first (R39). -/
theorem doCreate_ok {b b' : Block} {c : Cmd} {p : QCreate} {u : Unit} (h : b.queueArgs p c.stallUs = .ok u)
    (hroom : b.queueRoom p = true) (hboot : b.bootmap = true → p.ctx = 0)
    (hb' : b' = if (b.ctx p.ctx).st = .free then b.openCtx p.ctx p.pasid p.stallUs else b) :
    b.doCreate c p = (b'.createQueue p).endCmd c.q c.i 0 := by
  have hgo : ¬((!b.queueRoom p) = true ∨ (b.bootmap = true ∧ p.ctx ≠ 0)) := by
    simpa [hroom] using hboot
  unfold Block.doCreate
  simp only [h, if_neg hgo, hb', Block.ctxFree, decide_eq_true_eq]

theorem openCtx_ctx (b : Block) (t pasid stall : Nat) : ((b.openCtx t pasid stall).ctx t).st = .opn := by
  unfold Block.openCtx
  rw [Block.setCtx_self]

theorem createQueue_ctx (b : Block) (p : QCreate) (t : Nat) : (b.createQueue p).ctx t = b.ctx t := by
  unfold Block.createQueue
  split <;> rfl

theorem createQueue_cmd (b : Block) (p : QCreate) (q i : Nat) : (b.createQueue p).cmd? q i = b.cmd? q i := by
  unfold Block.createQueue
  split <;> rfl

/-- The queue that QUEUE_CREATE makes is as its arguments say (R47, R49). -/
structure MadeBy (p : QCreate) (x : HwQueue) : Prop where
  st : x.st = .active
  ctx : x.ctx = p.ctx
  qidx : x.qidx = p.qidx
  cls : x.cls = p.cls
  svc : x.svc = p.svc
  ringBase : x.ringBase = p.ringBase
  ringLog2 : x.ringLog2 = p.ringLog2
  harness : x.harness = some p.harness
  dbCount : x.dbCount = p.start

theorem createQueue_made {b : Block} {p : QCreate} {k : Nat} (hk : b.freeQueue? = some k) : MadeBy p ((b.createQueue p).queue k) := by
  unfold Block.createQueue
  simp only [hk, Block.setQueue_self]
  constructor <;> rfl

/-- The block in which QUEUE_CREATE makes its queue: the context is OPEN, and the free queue and the command are as they were. -/
theorem opened_for_create {s : State} {q i k : Nat} {c : Cmd} {p : QCreate} {b : Block} (hd : Decided s q i 0x88 c)
    (hst : OpenFor s p.ctx ∨ (s.blk.ctx p.ctx).st = .free) (hk : s.blk.freeQueue? = some k)
    (hb : b = if (s.blk.ctx p.ctx).st = .free then s.blk.openCtx p.ctx p.pasid p.stallUs else s.blk) :
    (b.ctx p.ctx).st = .opn ∧ b.freeQueue? = some k ∧ b.cmd? q i = some c := by
  obtain ⟨hc, -⟩ := hd
  subst hb
  split
  case isTrue => exact ⟨openCtx_ctx .., hk, hc⟩
  case isFalse hfree => exact ⟨hst.resolve_right hfree, hk, hc⟩

/-! ### QUEUE_DESTROY -/

theorem queueDestroy_gives_none {s : State} {q i t k : Nat} {a : Bool} {c : Cmd} (hr : Runs s) (hd : Decided s q i 0x89 c)
    (hop : c.op = .queueDestroy t k a) (ho : OpenFor s t) (hx : s.blk.queueOf? t k = none) :
    Gives (.queueDestroy q i) s (s.blk.endCmd q i 0x13) := by
  have ⟨_, _, _, hph, _⟩ := hd
  refine gives_of_decided rfl hr hd ?_
  simp [hop, kernel_open (congrArg Op.target hop) ho, hx, hph]

theorem queueDestroy_gives_gone {s : State} {q i t k : Nat} {a : Bool} {c : Cmd} (hr : Runs s) (hu : Underway s q i 0x89 c)
    (hop : c.op = .queueDestroy t k a) (ho : OpenFor s t) (hx : s.blk.queueOf? t k = none) :
    Gives (.queueDestroy q i) s (s.blk.endCmd q i 0) := by
  have ⟨_, _, _, hph, _⟩ := hu
  refine gives_of_underway rfl hr hu ?_
  simp [hop, kernel_open (congrArg Op.target hop) ho, hx, hph]

theorem queueDestroy_gives_some {s : State} {q i t k x : Nat} {a : Bool} {c : Cmd} (hr : Runs s) (hd : Decided s q i 0x89 c)
    (hop : c.op = .queueDestroy t k a) (ho : OpenFor s t) (hx : s.blk.queueOf? t k = some x) :
    Gives (.queueDestroy q i) s ((s.blk.setRunning q i).destroyQueue x a) := by
  have ⟨_, _, _, hph, _⟩ := hd
  refine gives_of_decided rfl hr hd ?_
  simp [hop, kernel_open (congrArg Op.target hop) ho, hx, hph]

/-- The block in which queue `x` drains: no signal of it waits for room any longer. -/
def startDrain (b : Block) (x : Nat) : Block :=
  { b with waitHold := b.waitHold.filter (· ≠ x) }.setQueue x { b.queue x with st := .draining }

/-- In mode DRAIN an ACTIVE queue drains, and its context stays where it has another live queue (R39, R55). -/
theorem destroyQueue_drain {b : Block} {t x : Nat} (hst : (b.queue x).st = .active) (hctx : (b.queue x).ctx = t)
    (hlive : (startDrain b x).hasLiveQueue t = true) : b.destroyQueue x false = (startDrain b x).fixDeadlines.settleQueue x := by
  subst hctx
  unfold Block.destroyQueue
  extract_lets y n b₁ b₂ b₃ k b₄
  have hn : n = .draining := by
    show y.st.destroyed false = .draining
    rw [hst]
    rfl
  have hb₁ : b₁ = startDrain b x := by
    unfold startDrain
    rw [← hn]
  have hb₃ : b₃ = startDrain b x := by
    rw [← hb₁]
    exact if_neg (by simp [hn])
  have hb₄ : b₄ = startDrain b x := by
    rw [← hb₃] at hlive ⊢
    exact if_neg fun h => by simp [hlive, y] at h
  rw [hb₄]

theorem mapIf_filter_length {p : Cmd → Bool} {f : Cmd → Cmd} {g : Cmd → Bool} (hf : ∀ c, g (f c) = g c) (l : List Cmd) :
    ((mapIf p f l).filter g).length = (l.filter g).length := by
  have hg : (g ∘ fun c => if p c then f c else c) = g := by
    funext c
    simp only [Function.comp]
    split
    · exact hf c
    · rfl
  unfold mapIf
  rw [List.filter_map, List.length_map, hg]

/-- A map over the commands that leaves them in their queues makes none and loses none. -/
theorem mapCmds_inflight {b : Block} {p : Cmd → Bool} {f : Cmd → Cmd} (hf : ∀ c, (f c).q = c.q) (k : Nat) :
    (b.mapCmds p f).inflight k = b.inflight k := mapIf_filter_length (fun c => by rw [hf]) _

theorem setRunning_cmd {b : Block} {q i : Nat} {c : Cmd} (hc : b.cmd? q i = some c) :
    (b.setRunning q i).cmd? q i = some { c with phase := .running } := modCmd_self (fun _ => ⟨rfl, rfl⟩) hc

/-- Commands that become eligible get deadlines (R161); one that runs stays as it is. -/
theorem fixDeadlines_running {b : Block} {q i : Nat} {c : Cmd} (hc : b.cmd? q i = some c) (hph : c.phase = .running) :
    b.fixDeadlines.cmd? q i = some c := by
  rw [fixDeadlines_cmd, hc]
  simp [Block.eligible, hph]

/-- The block in which queue `x` drains for the QUEUE_DESTROY at (q, i), which runs. -/
def draining (b : Block) (q i x : Nat) : Block := (startDrain (b.setRunning q i) x).fixDeadlines

theorem draining_inflight (b : Block) (q i x k : Nat) : (draining b q i x).inflight k = b.inflight k :=
  calc (draining b q i x).inflight k
    _ = (b.setRunning q i).inflight k := mapCmds_inflight (by intro c; rfl) k
    _ = b.inflight k := mapCmds_inflight (by intro c; rfl) k

theorem draining_queue (b : Block) (q i x : Nat) : (draining b q i x).queue x = { b.queue x with st := .draining } := by
  unfold draining
  rw [fixDeadlines_queue]
  exact Block.setQueue_self _ _ _

theorem draining_ctx (b : Block) (q i x t : Nat) : (draining b q i x).ctx t = b.ctx t := rfl

theorem draining_cmd {b : Block} {q i x : Nat} {c : Cmd} (hc : b.cmd? q i = some c) :
    (draining b q i x).cmd? q i = some { c with phase := .running } := fixDeadlines_running (setRunning_cmd hc) rfl

theorem settleQueue_inflight {b : Block} {x : Nat} (h : b.inflight x ≠ 0) : b.settleQueue x = b := if_neg fun hc => h hc.2.1

/-- The QUEUE_DESTROY commands under way that name a queue end with OK (R55). -/
def endDestroys (b : Block) (t k : Nat) : Block :=
  (b.cmds.filter fun c => c.op.destroys t k ∧ c.phase = .running).foldl (fun b c => b.endCmd c.q c.i 0) b

theorem endCmds_queue (l : List Cmd) (st k : Nat) (b : Block) : (l.foldl (fun b c => b.endCmd c.q c.i st) b).queue k = b.queue k := by
  induction l generalizing b with
  | nil => rfl
  | cons c l ih => rw [List.foldl_cons, ih, endCmd_queue]

theorem endCmds_ctx (l : List Cmd) (st t : Nat) (b : Block) : (l.foldl (fun b c => b.endCmd c.q c.i st) b).ctx t = b.ctx t := by
  induction l generalizing b with
  | nil => rfl
  | cons c l ih => rw [List.foldl_cons, ih, endCmd_ctx]

/-- A draining queue without commands or markers goes (R51); a context that does not close keeps what it holds. -/
theorem settleQueue_drained {b : Block} {x : Nat} (hst : (b.queue x).st = .draining) (hin : b.inflight x = 0)
    (hmarks : (b.queue x).marks = []) (hctx : (b.ctx (b.queue x).ctx).st ≠ .closing) :
    b.settleQueue x = endDestroys (b.setQueue x {}) (b.queue x).ctx (b.queue x).qidx := by
  unfold Block.settleQueue
  extract_lets y b₁ b₂
  have hkept : b₂.ctx y.ctx = b.ctx y.ctx := endCmds_ctx _ _ _ _
  rw [if_pos ⟨.inl hst, hin, List.isEmpty_iff.2 hmarks⟩, if_neg]
  · rfl
  · rw [hkept]
    exact fun h => hctx h.1

/-- A QUEUE_DESTROY under way that names the queue is among those that end. -/
theorem endDestroys_ended {b : Block} {q i t k : Nat} {c : Cmd} (hc : b.cmd? q i = some c) (hph : c.phase = .running)
    (hop : c.op.destroys t k = true) : HasEnded q i 0 (endDestroys b t k) := by
  refine endCmds_ended _ b (.inr ⟨c, hc, by simp [hph], c, ?_, cmd_place hc⟩)
  exact List.mem_filter.2 ⟨List.mem_of_find?_eq_some hc, by simp [hop, hph]⟩

/-- QUEUE_DESTROY in mode DRAIN of an ACTIVE queue of a context that has another live queue. -/
theorem queueDestroy_gives_drain {s : State} {q i t k x : Nat} {c : Cmd} (hr : Runs s) (hd : Decided s q i 0x89 c)
    (hop : c.op = .queueDestroy t k false) (ho : OpenFor s t) (hx : s.blk.queueOf? t k = some x)
    (hst : (s.blk.queue x).st = .active) (hctx : (s.blk.queue x).ctx = t)
    (hlive : (startDrain (s.blk.setRunning q i) x).hasLiveQueue t = true) :
    Gives (.queueDestroy q i) s ((draining s.blk q i x).settleQueue x) := by
  have hg := queueDestroy_gives_some hr hd hop ho hx
  rwa [destroyQueue_drain (b := s.blk.setRunning q i) hst hctx hlive] at hg

/-- A drain with nothing fetched and no marker to write is over at once, and its QUEUE_DESTROY with it. -/
theorem draining_settles {b : Block} {q i t k x : Nat} {c : Cmd} (hc : b.cmd? q i = some c) (hop : c.op = .queueDestroy t k false)
    (ho : (b.ctx t).st = .opn) (hctx : (b.queue x).ctx = t) (hqidx : (b.queue x).qidx = k) (hin : b.inflight x = 0)
    (hmarks : (b.queue x).marks = []) :
    (((draining b q i x).settleQueue x).queue x).st = .unused ∧ HasEnded q i 0 ((draining b q i x).settleQueue x) := by
  subst hctx hqidx
  have hq := draining_queue b q i x
  have hopn : ((draining b q i x).ctx ((draining b q i x).queue x).ctx).st ≠ .closing := by
    rw [hq, draining_ctx]
    simp [ho]
  rw [settleQueue_drained (by rw [hq]) ((draining_inflight ..).trans hin) (by rw [hq]; exact hmarks) hopn, hq]
  constructor
  · rw [endDestroys, endCmds_queue, Block.setQueue_self]
  · exact endDestroys_ended ((Block.setQueue_cmdQ ..).trans (draining_cmd hc)) rfl (by simp [hop, Op.destroys])

/-- Settles O26: QUEUE_CREATE by the cases of its execution, QUEUE_DESTROY by what is left of its queue. -/
theorem queueCommands : Obligations.QueueCommands := by
  unfold Obligations.QueueCommands
  rintro s q i c hr rfl rfl
  refine ⟨?_, ?_, ?_, ?_, ?_, ?_⟩
  · intro p u k b hd hop hst hargs hroom hboot hk hb
    have ⟨_, _, _, hph, _⟩ := hd
    obtain ⟨hopn, hfree, hcmd⟩ := opened_for_create hd hst hk hb
    obtain ⟨hactive, hctx, hqidx, hcls, hsvc, hbase, hlog2, hharness, hcount⟩ := createQueue_made (p := p) hfree
    have hg := queueCreate_gives hr hd hop hst
    rw [doCreate_ok hargs hroom hboot hb] at hg
    refine ⟨hg, endCmd_ended ((createQueue_cmd ..).trans hcmd) (by simp [hph]), ?_⟩
    simp only [endCmd_ctx, createQueue_ctx, endCmd_queue]
    exact ⟨hopn, hactive, hctx, hqidx, hcls, hsvc, hbase, hlog2, hharness, hcount⟩
  · intro p u hd hop ho hargs hroom
    have hg := queueCreate_gives hr hd hop (.inl ho)
    rw [doCreate_full hargs hroom] at hg
    exact leaves_ended hd hg
  · intro p st hd hop ho hargs
    have hg := queueCreate_gives hr hd hop (.inl ho)
    rw [doCreate_bad hargs] at hg
    exact leaves_ended hd hg
  · intro t k a hd hop ho hx
    exact leaves_ended hd (queueDestroy_gives_none hr hd hop ho hx)
  · intro t k x b hd hop ho hx hst hctx hqidx _ hb hlive
    have ⟨hc, _⟩ := hd
    have hdrain : b = startDrain (s.blk.setRunning c.q c.i) x := hb
    subst hdrain
    have hg := queueDestroy_gives_drain hr hd hop ho hx hst hctx hlive
    constructor
    · intro hfetched
      rw [settleQueue_inflight (by rwa [draining_inflight])] at hg
      exact ⟨hg, congrArg HwQueue.st (draining_queue ..), _, draining_cmd hc, rfl⟩
    · intro hnone hmarks
      exact ⟨_, hg, draining_settles hc hop ho hctx hqidx hnone hmarks⟩
  · intro t k a hu hop ho hx
    exact ⟨queueDestroy_gives_gone hr hu hop ho hx, underway_ended hu (same_refl _ _)⟩

end Sys2Proof.Proofs
end

section
/-!
SUPPORT. The rows of the Lamplighter (R148, R149, R185, R186).
-/
namespace Sys2Proof.Proofs

open Sys2Proof Sys2Proof.Machine Sys2Proof.Safety Sys2Proof.Laws

/-! ### Dispatch -/

theorem reg_of {a b : Block} {x : Nat} (h : Part.same .regs a b) : b.reg x = a.reg x := by
  unfold Block.reg
  rw [show a.regs = b.regs from h]

theorem inPhase_of {a b : Block} {q i : Nat} {ph : Phase} (h : Part.same .queues a b) (hp : InPhase q i ph a) : InPhase q i ph b := by
  obtain ⟨c, hc, hph⟩ := hp
  exact ⟨c, (cmd_of h).trans hc, hph⟩

theorem traceAll_frame (b : Block) (take : Nat → TraceBuf → Bool) (ctx : Nat) (r : BitVec 256) :
    agreeBut [.trace] b (b.traceAll take ctx r) :=
  agree_of_keeps (Block.traceAll_keeps (sub_refl _) (Keeps.refl _ _)) (by decide)

/-- The PROF_START of a command leaves its phase. -/
theorem profStart_inPhase {b : Block} {c : Cmd} {w3 : Nat} {ph : Phase} (h : InPhase c.q c.i ph b) :
    InPhase c.q c.i ph (b.profStart c w3) := by
  unfold Block.profStart
  split
  · obtain ⟨x, hx, hph⟩ := inPhase_of (traceAll_frame b _ c.ctx _ .queues (by decide)) h
    exact ⟨_, modCmd_self (fun _ => ⟨rfl, rfl⟩) hx, hph⟩
  · exact h

/-- A command that is dispatched is decided (R144). -/
theorem dispatch_decided {b : Block} {c x : Cmd} (hx : b.cmd? c.q c.i = some x) : InPhase c.q c.i .decided (b.dispatch c) := by
  unfold Block.dispatch
  extract_lets launch b₁
  have hdecided : InPhase c.q c.i .decided b₁ := ⟨_, modCmd_self (fun _ => ⟨rfl, rfl⟩) hx, rfl⟩
  split
  · exact hdecided
  · exact profStart_inPhase hdecided

theorem dispatch_frame (b : Block) (c : Cmd) : agreeBut [.queues, .trace] b (b.dispatch c) :=
  agree_of_keeps (Block.dispatch_keeps (sub_refl _) (Keeps.refl _ _)) (by decide)

/-! ### The count of decisions -/

/-- The lower word of a 64-bit counter advances modulo 2^32. -/
theorem count64_reg (b : Block) (lo k : Nat) : (b.count64 lo k).reg lo = (b.reg lo + k) % 2 ^ 32 := by
  unfold Block.count64
  rw [Block.setReg_other _ _ _ _ (by omega), Block.setReg_self]
  omega

theorem count64_queues (b : Block) (lo k : Nat) : Part.same .queues b (b.count64 lo k) := ⟨rfl, rfl⟩

/-- What follows the count of a decision: the favours (R150), the busy cycles (R185) and the record (R435). -/
theorem decisionRecord_frame (b : Block) (cls q : Nat) (c : Cmd) (batch : Bool) :
    agreeBut [.free, .lamplighter, .trace] b ((b.countDecision cls q).traceDecision c batch) :=
  agree_of_keeps (m := 1100585369632) (Block.traceDecision_keeps rfl (Block.countDecision_keeps rfl (Keeps.refl _ _))) (by decide)

theorem decisionRecord_inPhase {b : Block} {cls q : Nat} {c : Cmd} {batch : Bool} {ph : Phase} (h : InPhase c.q c.i ph b) :
    InPhase c.q c.i ph (((b.count64 Reg.LL_DECISIONS_LO 1).countDecision cls q).traceDecision c batch) :=
  inPhase_of (same_trans (count64_queues ..) (decisionRecord_frame _ cls q c batch .queues (by decide))) h

theorem decisionRecord_count (b : Block) (cls q : Nat) (c : Cmd) (batch : Bool) :
    (((b.count64 Reg.LL_DECISIONS_LO 1).countDecision cls q).traceDecision c batch).reg Reg.LL_DECISIONS_LO
      = (b.reg Reg.LL_DECISIONS_LO + 1) % 2 ^ 32 :=
  (reg_of (decisionRecord_frame _ cls q c batch .regs (by decide))).trans (count64_reg ..)

/-! ### The decision -/

/-- A decision takes a batch: coalesced dispatch is on, and a launch of UQ is chosen (R186). -/
abbrev Coalesced (b : Block) (row : Nat) (c : Cmd) : Prop :=
  bit (b.reg Reg.LL_OCCUPANCY) 31 = true ∧ (row = 1 ∨ row = 5) ∧ c.coalesces = true

theorem calm_reg (b : Block) (x : Nat) : b.calm.reg x = b.reg x := rfl

theorem takeDecision_none {b : Block} (h : b.pick = none) : b.takeDecision = b := by
  unfold Block.takeDecision
  rw [h]

theorem takeDecision_single {b : Block} {row : Nat} {c : Cmd} (h : b.pick = some (row, c)) (hn : ¬Coalesced b row c) :
    b.takeDecision = (((b.dispatch c).count64 Reg.LL_DECISIONS_LO 1).countDecision (b.queue c.q).cls c.q).traceDecision c false := by
  unfold Block.takeDecision
  simp only [h]
  exact if_neg hn

theorem takeDecision_batch {b : Block} {row : Nat} {c : Cmd} (h : b.pick = some (row, c)) (hc : Coalesced b row c) :
    b.takeDecision = ((((b.batch c).foldl (fun b x => if x.empty then b.dispatch x else (b.dispatch x).enterPlacing x) b).count64
      Reg.LL_DECISIONS_LO 1).countDecision 1 (((b.batch c).getLast?.map (·.q)).getD c.q)).traceDecision c true := by
  unfold Block.takeDecision
  simp only [h]
  exact if_pos hc

theorem lamplighterDecision_gives {s : State} (hr : Runs s) (hd : s.blk.decides = true) :
    Gives .lamplighterDecision s s.blk.calm.takeDecision := by
  show execLamplighterDecision s = _
  unfold execLamplighterDecision
  rw [core_runs hr, if_pos hd]

theorem lamplighterDecision_held {s : State} (hr : Runs s) (hd : s.blk.decides = false) : Gives .lamplighterDecision s s.blk := by
  show execLamplighterDecision s = _
  unfold execLamplighterDecision
  rw [core_runs hr, if_neg (by simp [hd])]

/-! ### The occupancy window -/

theorem occupancyWindowEnd_gives {s : State} (hr : Runs s) (hw : Config.windowCycles ≤ s.blk.ll.winCycles) :
    Gives .occupancyWindowEnd s s.blk.windowEnd := by
  show execOccupancyWindowEnd s = _
  unfold execOccupancyWindowEnd
  rw [core_runs hr, if_pos hw]

theorem ofBit_le_one (v : Bool) : ofBit v ≤ 1 := by cases v <;> decide

/-- OCC and HOT fill the word that is shown: neither is cut off. -/
theorem setReg_occupancy (b : Block) (now : Bool) {occ : Nat} (h : occ ≤ 1024) :
    (b.setReg Reg.LL_OCCUPANCY (ofBit now * 2 ^ 31 + occ)).reg Reg.LL_OCCUPANCY = ofBit now * 2 ^ 31 + occ := by
  have hbit := ofBit_le_one now
  rw [Block.setReg_self, Nat.mod_eq_of_lt (by omega)]

/-- Not below the smaller of LL_HOT and LL_COOL. -/
theorem not_lt_smaller (occ hot cool : Nat) : (!decide (occ < if hot ≤ cool then hot else cool)) = decide (min hot cool ≤ occ) := by
  rw [Nat.min_def, ← decide_not]
  simp only [Nat.not_lt]

/-- What the end of a window shows: dispatch is coalesced from LL_HOT on, and until the occupancy falls below the smaller of LL_HOT and
LL_COOL (R186). -/
theorem windowEnd_occupancy {b : Block} {occ hot cool : Nat} {now : Bool} (hocc : occ = min 1024 (b.ll.busy / 64))
    (hhot : hot = b.reg Reg.LL_HOT) (hcool : cool = b.reg Reg.LL_COOL)
    (hnow : now = if bit (b.reg Reg.LL_OCCUPANCY) 31 then decide (min hot cool ≤ occ) else decide (hot ≤ occ)) :
    b.windowEnd.reg Reg.LL_OCCUPANCY = ofBit now * 2 ^ 31 + occ := by
  have hregs : b.windowEnd.regs = (b.setReg Reg.LL_OCCUPANCY (ofBit now * 2 ^ 31 + occ)).regs := by
    unfold Block.windowEnd
    simp only [← hocc, ← hhot, ← hcool, not_lt_smaller, ← hnow]
  exact (reg_of hregs.symm).trans (setReg_occupancy b now (by omega))

theorem windowEnd_ll (b : Block) : b.windowEnd.ll = { b.ll with busy := 0, winCycles := 0 } := by
  unfold Block.windowEnd
  exact congrArg (fun l : Lamplighter => { l with busy := 0, winCycles := 0 }) (Block.setReg_field_ll b _ _)

/-- Settles O16: a decision by what is chosen and by whether it is coalesced, and the end of a window. -/
theorem lamplighterRows : Obligations.LamplighterRows := by
  unfold Obligations.LamplighterRows
  intro s hr
  refine ⟨?_, ?_, ?_, ?_, ?_⟩
  · intro row c hd hpick hn
    have hg := lamplighterDecision_gives hr hd
    rw [takeDecision_single hpick hn] at hg
    refine ⟨hg, fun x hx => decisionRecord_inPhase (dispatch_decided hx), ?_⟩
    rw [decisionRecord_count, reg_of (dispatch_frame _ c .regs (by decide)), calm_reg]
  · rintro row c _ hd hpick hhot hrow hc rfl
    have hg := lamplighterDecision_gives hr hd
    rwa [takeDecision_batch hpick ⟨hhot, hrow, hc⟩] at hg
  · intro hd hpick
    have hg := lamplighterDecision_gives hr hd
    rwa [takeDecision_none hpick] at hg
  · exact lamplighterDecision_held hr
  · intro occ hot cool now hw hocc hhot hcool hnow
    exact ⟨_, occupancyWindowEnd_gives hr hw, windowEnd_occupancy hocc hhot hcool hnow, windowEnd_ll _⟩

end Sys2Proof.Proofs
end

section
/-!
SUPPORT. The items of persistent tasks (R139, R178 to R182).
-/
namespace Sys2Proof.Proofs

open Sys2Proof Sys2Proof.Machine Sys2Proof.Safety Sys2Proof.Laws

/-! ### Tasks of the block -/

theorem task_place {b : Block} {c k : Nat} {t : Task} (h : b.task? c k = some t) : t.ctx = c ∧ t.id = k := by
  simpa using List.find?_some h

theorem task_of {a b : Block} {c k : Nat} (h : Part.same .tasks a b) : b.task? c k = a.task? c k := by
  unfold Block.task?
  rw [show a.tasks = b.tasks from h]

/-- A change of a task, at that task. -/
theorem modTask_self {b : Block} {f : Task → Task} {c k : Nat} {t : Task} (hf : ∀ x, (f x).ctx = x.ctx ∧ (f x).id = x.id)
    (h : b.task? c k = some t) : (b.modTask c k f).task? c k = some (f t) := by
  have hplace := task_place h
  have hp : (fun x : Task => decide (x.ctx = c ∧ x.id = k)) ∘ (fun x => if decide (x.ctx = c ∧ x.id = k) then f x else x)
      = fun x => decide (x.ctx = c ∧ x.id = k) := by
    funext x
    simp only [Function.comp]
    split
    · rw [(hf x).1, (hf x).2]
    · rfl
  unfold Block.task? at h
  show (mapIf _ f b.tasks).find? _ = _
  unfold mapIf
  rw [List.find?_map, hp, h]
  simp [hplace]

theorem slotOf_of {a b : Block} {c v : Nat} (h : Part.same .wicks a b) : b.slotOf c v = a.slotOf c v := by
  unfold Block.slotOf
  rw [vid_of h]

/-! ### The take of an item -/

/-- The engines of a task stand at the start of an item. -/
def rewindEngs (b : Block) (es : List Nat) : Block := es.foldl (fun b e => b.setEng e (b.eng e).rewind) b

theorem rewindEngs_frame (b : Block) (es : List Nat) : agreeBut [.engines] b (rewindEngs b es) :=
  agree_of_keeps (Keeps.foldl (fun _ _ h => Block.setEng_keeps (sub_refl _) h) es (Keeps.refl _ _)) (by decide)

/-- Task `t` takes item `x` in hand. -/
def takeItem (b : Block) (t : Task) (x : Item) : Block :=
  { b with waiters := b.waiters.filter fun r => r.who ≠ WaitFor.task t.ctx t.id }.modTask t.ctx t.id
    fun t => { t with next := t.next + 1, item := some x, budget := 0 }

theorem takeItem_task {b : Block} {c k : Nat} {t : Task} (x : Item) (h : b.task? c k = some t) :
    (takeItem b t x).task? c k = some { t with next := t.next + 1, item := some x, budget := 0 } := by
  obtain ⟨rfl, rfl⟩ := task_place h
  exact modTask_self (fun _ => ⟨rfl, rfl⟩) h

/-- An item whose words are reserved ends at once with ERR_RSVD (R181). -/
theorem startItem_reserved {b : Block} {t : Task} {w : List Nat} (h : itemOf t.next w = none) :
    b.startItem t w = takeItem b t { idx := t.next, ended := some 0x10 } := by
  unfold Block.startItem
  rw [h]
  rfl

/-- An item that runs no stitch ends at once with OK (R205). -/
theorem startItem_idle {b : Block} {t : Task} {w : List Nat} {x : Item} (h : itemOf t.next w = some x) (hst : b.itemStatus t.ctx x = none)
    (hno : (b.invsOf t.ctx (t.listId, t.epoch) t.engs x.reps).all (·.2 = 0) = true) :
    b.startItem t w
      = rewindEngs (takeItem b t { x with left := b.invsOf t.ctx (t.listId, t.epoch) t.engs x.reps, ended := some 0 }) t.engs := by
  have hnone : (((b.invsOf t.ctx (t.listId, t.epoch) t.engs x.reps).filter (·.2 ≠ 0)).map (·.1)).isEmpty = true := by
    rw [List.isEmpty_map, List.isEmpty_iff, List.filter_eq_nil_iff]
    simpa using hno
  unfold Block.startItem
  simp only [h, hst, hnone, if_true]
  rfl

theorem taskItemTake_gives {s : State} {c k : Nat} {t : Task} {b : Block} {bs : List Byte} (hr : Runs s) (ht : s.blk.task? c k = some t)
    (htakes : s.blk.takesItem t = true) (hb : b = s.blk.touch c (t.itemVa t.next) (some (.task c k))) (hrest : AtRest b)
    (hread : b.readVa c (t.itemVa t.next) 64 = .ok bs) : Gives (.taskItemTake c k) s (b.startItem t (words64 bs)) := by
  show execTaskItemTake c k s = _
  unfold execTaskItemTake
  rw [core_runs hr]
  simp only [ht, htakes, if_true, ← hb, hread, viaHome_rest hrest]

theorem taskItemTake_held {s : State} {c k : Nat} {t : Task} (hr : Runs s) (ht : s.blk.task? c k = some t)
    (htakes : s.blk.takesItem t = false) : Gives (.taskItemTake c k) s s.blk := by
  show execTaskItemTake c k s = _
  unfold execTaskItemTake
  rw [core_runs hr]
  simp only [ht, htakes, Bool.false_eq_true, if_false]

theorem touch_tasks (b : Block) (c va : Nat) (who : Option Asker) : Part.same .tasks b (b.touch c va who) :=
  agree_of_keeps (ps := [.regs, .stamps, .translation]) (Block.touch_keeps (sub_refl _) (Keeps.refl _ _)) (by decide) .tasks (by decide)

/-! ### The completion of an item -/

/-- A task without a stop that is due goes on (R182). -/
theorem settleTask_stays {b : Block} {c k : Nat} {t : Task} (h : b.task? c k = some t) (hdue : t.stopDue = false) : b.settleTask c k = b := by
  unfold Block.settleTask
  rw [h]
  exact if_neg (by simp [hdue])

/-- A task whose next item is published waits for nothing (R178). -/
theorem waitItem_published {b : Block} {t : Task} {w : Nat} (hw : b.slotOf t.ctx t.wick = some w) (hlit : (b.slot w).snuffed = false)
    (hpub : t.next < (b.slot w).value) : b.waitItem t = b := by
  unfold Block.waitItem
  simp only [hw, hlit, Bool.false_eq_true, if_false, hpub, true_or, if_true]

/-- The block in which the item in hand of task `t` is over and sends no signal: its lane is dropped and its engines are rewound. -/
def itemOver (b : Block) (t : Task) : Block :=
  (rewindEngs (b.dropLane (.task t.ctx t.id)) t.engs).modTask t.ctx t.id fun t => { t with item := none, budget := 0, stalled := false, bp := none }

theorem itemOver_task {b : Block} {c k : Nat} {t : Task} (h : b.task? c k = some t) :
    (itemOver b t).task? c k = some { t with item := none, budget := 0, stalled := false, bp := none } := by
  obtain ⟨rfl, rfl⟩ := task_place h
  exact modTask_self (fun _ => ⟨rfl, rfl⟩) ((task_of (rewindEngs_frame _ _ .tasks (by decide))).trans h)

theorem itemOver_wicks (b : Block) (t : Task) : Part.same .wicks b (itemOver b t) :=
  rewindEngs_frame (b.dropLane _) t.engs .wicks (by decide)

/-- An item without a signal that ends well, of a task that goes on and whose next item is published: nothing more is to do (R180). -/
theorem finishItem_goes_on {b : Block} {c k st w : Nat} {t : Task} {x : Item} (ht : b.task? c k = some t) (hst : st ≤ 1)
    (hsig : x.hasSig = false) (hstop : t.stopAt = none) (hbind : t.unbinding = false) (hw : b.slotOf c t.wick = some w)
    (hlit : (b.slot w).snuffed = false) (hpub : t.next < (b.slot w).value) : b.finishItem t x st = itemOver b t := by
  have hover := itemOver_task ht
  obtain ⟨rfl, rfl⟩ := task_place ht
  have hwicks := itemOver_wicks b t
  have hsettled : (itemOver b t).settleTask t.ctx t.id = itemOver b t :=
    settleTask_stays hover (by simp [Task.stopDue, hstop, hbind])
  have hwaits : (itemOver b t).waitItem { t with item := none, budget := 0, stalled := false, bp := none } = itemOver b t :=
    waitItem_published ((slotOf_of hwicks).trans hw) (by rwa [slot_of hwicks]) (by rwa [slot_of hwicks])
  have hok : ¬(1 < st ∧ st ≠ 0x41 ∧ (!t.unbinding) = true) := fun h => absurd h.1 (by omega)
  unfold itemOver rewindEngs at hover hsettled hwaits
  unfold Block.finishItem itemOver rewindEngs
  simp only [hsig, Bool.false_eq_true, and_false, if_false, hok, hsettled, hover, hwaits, ite_self]

theorem taskItemCompletion_gives {s : State} {c k st : Nat} {t : Task} {x : Item} {b : Block} (hr : Runs s) (ht : s.blk.task? c k = some t)
    (hx : t.item = some x) (hended : x.ended = some st) (hstall : t.stalled = false)
    (hw : s.blk.writeHome c (t.itemVa x.idx + 7) [BitVec.ofNat 8 st] needRd = .ok b) :
    Gives (.taskItemCompletion c k) s (b.finishItem t x st) := by
  show execTaskItemCompletion c k s = _
  unfold execTaskItemCompletion
  rw [core_runs hr]
  simp only [ht, hx, hended, hstall, Bool.false_eq_true, if_false, hw]

theorem taskItemCompletion_none {s : State} {c k : Nat} {t : Task} (hr : Runs s) (ht : s.blk.task? c k = some t) (hx : t.item = none) :
    Gives (.taskItemCompletion c k) s s.blk := by
  show execTaskItemCompletion c k s = _
  unfold execTaskItemCompletion
  rw [core_runs hr]
  simp only [ht, hx]

theorem writeHome_frame {b b' : Block} {c va need : Nat} {xs : List Byte} (h : b.writeHome c va xs need = .ok b') :
    agreeBut [.dev, .host, .mappings, .coherence, .poison] b b' :=
  agree_of_keeps (Block.writeHome_keeps (sub_refl _) (Keeps.refl _ _) h) (by decide)

/-- Settles O33: an item by the words read, and its completion. -/
theorem taskRows : Obligations.TaskRows := by
  unfold Obligations.TaskRows
  intro s c k t hr ht
  obtain ⟨rfl, rfl⟩ := task_place ht
  refine ⟨?_, taskItemTake_held hr ht, ?_, taskItemCompletion_none hr ht⟩
  · intro b bs htakes hb hrest hread
    have htask : b.task? t.ctx t.id = some t := by
      rw [hb, task_of (touch_tasks ..), ht]
    refine ⟨taskItemTake_gives hr ht htakes hb hrest hread, fun hres => ?_, fun x hx hst hno => ?_⟩
    · rw [startItem_reserved hres, takeItem_task _ htask]
    · rw [startItem_idle hx hst hno, task_of (rewindEngs_frame _ _ .tasks (by decide)), takeItem_task _ htask]
  · intro x st b hx hended hstall hw
    have hframe := writeHome_frame hw
    have htask : b.task? t.ctx t.id = some t := (task_of (hframe .tasks (by decide))).trans ht
    have hwicks := hframe .wicks (by decide)
    refine ⟨taskItemCompletion_gives hr ht hx hended hstall hw, fun w hst hsig hstop hbind _ hslot hlit hpub => ?_⟩
    rw [finishItem_goes_on htask hst hsig hstop hbind ((slotOf_of hwicks).trans hslot) (by rwa [slot_of hwicks]) (by rwa [slot_of hwicks]),
      itemOver_task htask, hstall]

end Sys2Proof.Proofs
end

section
/-!
SUPPORT. Reads of CAD_NOW (R159).
-/
namespace Sys2Proof.Proofs

open Sys2Proof Sys2Proof.Machine Sys2Proof.Safety Sys2Proof.Laws

/-- The block after a read of the lower word of CAD_NOW by a path: the answer, and the upper word in the path's latch. -/
def latchNow (b : Block) (path : Nat) : Block :=
  { b with nowLatch := Tab.set (fun _ => 0) b.nowLatch path (BitVec.ofNat 32 (hi32 b.cadence)) }.answer (lo32 b.cadence)

theorem latchNow_latch (b : Block) (path : Nat) :
    Tab.get (fun _ => (0 : W32)) (latchNow b path).nowLatch path = BitVec.ofNat 32 (hi32 b.cadence) := Tab.get_set_self _ _ _ _

/-- The path reads on after it has filled its latch. -/
theorem latchNow_reads {s : State} {path : Nat} (h : Reads s path) : Reads { s with blk := latchNow s.blk path } path := h

theorem cadNowRead_lo64 {s : State} {path : Nat} (h : Reads s path) : Gives (.cadNowRead path .lo64) s (s.blk.answer s.blk.cadence) := by
  show execCadNowRead path .lo64 s = _
  unfold execCadNowRead State.aon
  simp only [readBy_reads h]

theorem cadNowRead_hi32 {s : State} {path : Nat} (h : Reads s path) :
    Gives (.cadNowRead path .hi32) s (s.blk.answer (Tab.get (fun _ => (0 : W32)) s.blk.nowLatch path).toNat) := by
  show execCadNowRead path .hi32 s = _
  unfold execCadNowRead State.aon
  simp only [readBy_reads h]

theorem cadNowRead_lo32 {s : State} {path : Nat} (h : Reads s path) : Gives (.cadNowRead path .lo32) s (latchNow s.blk path) := by
  show execCadNowRead path .lo32 s = _
  unfold execCadNowRead State.aon
  simp only [readBy_reads h]
  rfl

/-- Settles O55: the read of the lower word leaves the path able to read, and its latch full. -/
theorem cadenceCountRead : Obligations.CadenceCountRead := by
  unfold Obligations.CadenceCountRead
  intro s path h
  refine ⟨cadNowRead_lo64 h, cadNowRead_hi32 h, _, cadNowRead_lo32 h, rfl, latchNow_latch _ _, _, cadNowRead_hi32 (latchNow_reads h), ?_⟩
  show BitVec.ofNat 64 (Tab.get (fun _ => (0 : W32)) (latchNow s.blk path).nowLatch path).toNat = _
  rw [latchNow_latch]

end Sys2Proof.Proofs
end

section
/-!
SUPPORT. Stitch lists: LIST_LOAD and LIST_PATCH, their verdict, LIST_RETIRE, and errors of the stitch cache (R72, R209, R210, R214, R218).
-/
namespace Sys2Proof.Proofs

open Sys2Proof Sys2Proof.Machine Sys2Proof.Safety Sys2Proof.Laws

/-! ### Versions -/

/-- The look-up of a version fails exactly where no version bears the keys. -/
theorem version_none_iff {b : Block} {t l e : Nat} :
    b.version? t l e = none ↔ ∀ v ∈ b.versions, ¬(v.ctx = t ∧ v.listId = l ∧ v.epoch = e) := by
  simp [Block.version?]

theorem version_of {a b : Block} {t l e : Nat} (h : Part.same .lists a b) : b.version? t l e = a.version? t l e := by
  unfold Block.version?
  rw [h.1]

theorem version_key {b : Block} {t l e : Nat} {v : Version} (h : b.version? t l e = some v) :
    v.ctx = t ∧ v.listId = l ∧ v.epoch = e := by
  simpa using List.find?_some h

theorem mapCmds_versions (b : Block) (p f) : (b.mapCmds p f).versions = b.versions := rfl

theorem endCmd_versions (b : Block) (q i st : Nat) : (b.endCmd q i st).versions = b.versions := by
  unfold Block.endCmd Block.fixDeadlines Block.modCmd
  rw [mapCmds_versions, mapCmds_versions]
  rfl

@[simp] theorem endCmd_version (b : Block) (q i st t l e : Nat) : (b.endCmd q i st).version? t l e = b.version? t l e := by
  unfold Block.version?
  rw [endCmd_versions]

/-- What a reaping leaves: the versions that something refers to, and those that do not go (R70, R218). -/
theorem mem_reapVersions {b : Block} {v : Version} :
    v ∈ b.reapVersions.versions ↔ v ∈ b.versions ∧ (b.verHeld v = true ∨ v.dying = false) := by
  show v ∈ b.versions.filter (fun v => b.verHeld v || !v.dying) ↔ _
  simp

/-- A reaping brings no version back. -/
theorem reapVersions_version_none {b : Block} {t l e : Nat} (h : b.version? t l e = none) : b.reapVersions.version? t l e = none :=
  version_none_iff.2 fun v hv => version_none_iff.1 h v (mem_reapVersions.1 hv).1

/-- A version that is dropped is found no more. -/
theorem dropVersion_version (b : Block) (t l e : Nat) : (b.dropVersion t l e).version? t l e = none := by
  unfold Block.dropVersion
  extract_lets b₁
  have hgone : b₁.version? t l e = none := version_none_iff.2 fun v hv => by
    simpa only [Bool.not_eq_true', decide_eq_false_iff_not] using (List.mem_filter.1 hv).2
  split
  · exact hgone
  · exact reapVersions_version_none hgone

/-- A changed version stands in the place of the old one. -/
theorem mem_modVersion {b : Block} {t l e : Nat} {f : Version → Version} {v : Version} (h : v ∈ b.versions) :
    (if v.ctx = t ∧ v.listId = l ∧ v.epoch = e then f v else v) ∈ (b.modVersion t l e f).versions := by
  refine List.mem_map.2 ⟨v, h, ?_⟩
  simp only [decide_eq_true_eq]

/-- The block holds a version with the keys of `v` that is broken where `v` is. -/
def HoldsLike (v : Version) (b : Block) : Prop :=
  ∃ x ∈ b.versions, (x.ctx = v.ctx ∧ x.listId = v.listId ∧ x.epoch = v.epoch) ∧ x.broken = v.broken

theorem HoldsLike.of_mem {b : Block} {v : Version} (h : v ∈ b.versions) : HoldsLike v b := ⟨v, h, ⟨rfl, rfl, rfl⟩, rfl⟩

/-- A change of the state of a version takes no version away. -/
theorem HoldsLike.modVersion_st {b : Block} {v : Version} (h : HoldsLike v b) (t l e : Nat) (st : VerState) :
    HoldsLike v (b.modVersion t l e fun y => { y with st := st }) := by
  obtain ⟨x, hx, hkey, hbroken⟩ := h
  refine ⟨_, mem_modVersion hx, ?_⟩
  split
  · exact ⟨hkey, hbroken⟩
  · exact ⟨hkey, hbroken⟩

/-! ### Phases of commands -/

/-- A command that runs can end. -/
theorem running_ended {b : Block} {q i st : Nat} (h : InPhase q i .running b) : HasEnded q i st (b.endCmd q i st) := by
  obtain ⟨c, hc, hph⟩ := h
  exact endCmd_ended hc (by simp [hph])

theorem underway_running {s : State} {q i opc : Nat} {c : Cmd} (h : Underway s q i opc c) : InPhase q i .running s.blk := by
  obtain ⟨hc, _, _, hph, _⟩ := h
  exact ⟨c, hc, hph⟩

/-- A command that loses its version keeps its phase. -/
theorem forgetVersion_inPhase {b : Block} {q i : Nat} {ph : Phase} (h : InPhase q i ph b) :
    InPhase q i ph (b.modCmd q i fun c => { c with version := none }) := by
  obtain ⟨c, hc, hph⟩ := h
  exact ⟨_, modCmd_self (fun _ => ⟨rfl, rfl⟩) hc, hph⟩

theorem dropVersion_queues (b : Block) (t l e : Nat) : Part.same .queues b (b.dropVersion t l e) :=
  agree_of_keeps (ps := [.lists, .breakpoints]) (Block.dropVersion_keeps (sub_refl _) (Keeps.refl _ _)) (by decide) .queues (by decide)

theorem dropLoadOf_some {b : Block} {c : Cmd} {t l e : Nat} (ht : c.op.target = some t) (hv : c.version = some (l, e)) :
    b.dropLoadOf c = (b.modCmd c.q c.i fun c => { c with version := none }).dropVersion t l e := by
  unfold Block.dropLoadOf
  rw [ht, hv]

/-- A list command whose load is dropped keeps its phase. -/
theorem dropLoadOf_inPhase {b : Block} {c : Cmd} {ph : Phase} (h : InPhase c.q c.i ph b) : InPhase c.q c.i ph (b.dropLoadOf c) := by
  unfold Block.dropLoadOf
  split
  · exact inPhase_of (dropVersion_queues ..) (forgetVersion_inPhase h)
  · exact h

/-- A list command under way that fails ends with the status. -/
theorem failList_ended {b : Block} {c : Cmd} {st : Nat} (h : InPhase c.q c.i .running b) : HasEnded c.q c.i st (b.failList c st) :=
  running_ended (dropLoadOf_inPhase h)

/-- The version of a list command that fails is freed (R209). -/
theorem failList_version {b : Block} {c : Cmd} {st t l e : Nat} (ht : c.op.target = some t) (hv : c.version = some (l, e)) :
    (b.failList c st).version? t l e = none := by
  unfold Block.failList
  rw [endCmd_version, dropLoadOf_some ht hv, dropVersion_version]

/-! ### LIST_LOAD and LIST_PATCH -/

theorem touchRange_queues (b : Block) (t a len : Nat) (who : Option Asker) : Part.same .queues b (b.touchRange t a len who) :=
  agree_of_keeps (ps := [.regs, .stamps, .translation]) (Block.touchRange_keeps (sub_refl _) (Keeps.refl _ _)) (by decide)
    .queues (by decide)

theorem countBursts_queues (b : Block) (q src dst len : Nat) (places : List Phys) :
    Part.same .queues b (b.countBursts q src dst len places) :=
  agree_of_keeps (ps := [.regs]) (Block.countBursts_keeps (sub_refl _) (Keeps.refl _ _)) (by decide) .queues (by decide)

/-- A row that works on a command decided or under way gives what the work leaves. -/
theorem gives_of_begun {row : Instr} {s : State} {q i opc : Nat} {c : Cmd} {work : Cmd → Block → Block} {b : Block}
    (hrow : exec row s = s.core fun b => b.runCmd q i opc work) (hr : Runs s) (hb : Decided s q i opc c ∨ Underway s q i opc c)
    (hwork : work c s.blk = b) : Gives row s b :=
  hb.elim (gives_of_decided hrow hr · hwork) (gives_of_underway hrow hr · hwork)

theorem listLoad_gives {s : State} {q i t l a len : Nat} {c : Cmd} (hr : Runs s) (hb : Decided s q i 0x90 c ∨ Underway s q i 0x90 c)
    (hop : c.op = .listLoad t l a len) (ho : OpenFor s t) : Gives (.listLoad q i) s (s.blk.loadList c t l a len false false) := by
  refine gives_of_begun rfl hr hb ?_
  simp only [hop, kernel_open (congrArg Op.target hop) ho]

theorem listPatch_gives {s : State} {q i t l a len : Nat} {p : Bool} {c : Cmd} (hr : Runs s)
    (hb : Decided s q i 0x91 c ∨ Underway s q i 0x91 c) (hop : c.op = .listPatch t l a len p) (ho : OpenFor s t) :
    Gives (.listPatch q i) s (s.blk.loadList c t l a len true p) := by
  refine gives_of_begun rfl hr hb ?_
  simp only [hop, kernel_open (congrArg Op.target hop) ho]

/-- Step 1 of R209. -/
theorem loadList_conflict {b : Block} {c : Cmd} {t l a len st : Nat} {patch p : Bool} (hs : c.sample ≠ 1) (hv : c.version = none)
    (h : b.listConflict t l patch p = some st) : b.loadList c t l a len patch p = b.endCmd c.q c.i st := by
  unfold Block.loadList
  simp only [if_neg hs, hv, h]

/-- Steps 2 and 3 of R209 where they end the command: the header is bad, or the cache has no room for the stream. -/
theorem loadList_header {b b₁ : Block} {c : Cmd} {t l a len : Nat} {patch p : Bool} {h : List Byte} (hs : c.sample ≠ 1)
    (hv : c.version = none) (hfree : b.listConflict t l patch p = none) (hb₁ : b₁ = b.touchRange t a len (some (.cmd c.q c.i)))
    (hrest : AtRest b₁) (hread : b₁.readVa t a 64 = .ok h) :
    (imageHeaderOk (words64 h) len = false →
        b.loadList c t l a len patch p = (b₁.countBursts c.q a a 64 []).endCmd c.q c.i 0x12)
      ∧ (imageHeaderOk (words64 h) len = true →
        Config.stitchCacheBytes < (b₁.countBursts c.q a a 64 []).cacheUsed + cacheBytes (imgField h 8 4) →
        b.loadList c t l a len patch p = (b₁.countBursts c.q a a 64 []).endCmd c.q c.i 0x14) := by
  unfold Block.loadList
  simp only [if_neg hs, hv, hfree, ← hb₁, access_ok hrest hread]
  exact ⟨fun hbad => by simp only [hbad, Bool.not_false, if_true],
    fun hok hfull => by simp only [hok, Bool.not_true, Bool.false_eq_true, if_false, if_pos hfull]⟩

/-- A list command that has its version goes on with the rest of the image. -/
theorem loadList_image {b : Block} {c : Cmd} {t l a len e k : Nat} {patch p : Bool} (hs : c.sample ≠ 1) (hv : c.version = some (k, e)) :
    b.loadList c t l a len patch p = b.loadBody c t a len e k := by
  unfold Block.loadList
  simp only [if_neg hs, hv]

/-- The block once the image of the list command at (q, i) has been read and counted. -/
def imageRead (b : Block) (q a len : Nat) : Block := b.countBursts q (a + 64) (a + 64) (len - 64) []

theorem imageRead_inPhase {b : Block} {q i a len : Nat} {ph : Phase} (h : InPhase q i ph b) : InPhase q i ph (imageRead b q a len) :=
  inPhase_of (countBursts_queues ..) h

/-- An image that passes the checks of R210 goes to the security block. -/
theorem loadBody_passes {b : Block} {c : Cmd} {t a len e l : Nat} {bs : List Byte} {sum : Summary} (hrest : AtRest b)
    (hread : b.readVa t a len = .ok bs)
    (hsum : checkStream ((bs.drop 0x40).take (imgField bs 8 4)) (imgField bs 0x0C 4) = some sum) :
    b.loadBody c t a len e l
      = { (imageRead b c.q a len).modVersion t l e
            fun v => { v with stream := (bs.drop 0x40).take (imgField bs 8 4), sum := sum } with
          secOut := bs }.modCmd c.q c.i fun c => { c with sample := 1 } := by
  unfold Block.loadBody
  simp only [hread, access_ok hrest rfl, hsum]
  rfl

/-- An image that fails a check of R210 ends its command with ERR_ARG. -/
theorem loadBody_fails {b : Block} {c : Cmd} {t a len e l : Nat} {bs : List Byte} (hrest : AtRest b)
    (hread : b.readVa t a len = .ok bs)
    (hsum : checkStream ((bs.drop 0x40).take (imgField bs 8 4)) (imgField bs 0x0C 4) = none) :
    b.loadBody c t a len e l = (imageRead b c.q a len).failList c 0x12 := by
  unfold Block.loadBody
  simp only [hread, access_ok hrest rfl, hsum]
  rfl

/-- A list command under way that has its version takes the rest of its image, LIST_LOAD and LIST_PATCH alike. -/
theorem listImage_gives {s : State} {q i t l e a len : Nat} {c : Cmd} {n : Instr} (hr : Runs s)
    (hn : Underway s q i 0x90 c ∧ c.op = .listLoad t l a len ∧ n = Instr.listLoad q i
      ∨ ∃ p, Underway s q i 0x91 c ∧ c.op = .listPatch t l a len p ∧ n = Instr.listPatch q i)
    (ho : OpenFor s t) (hs : c.sample ≠ 1) (hv : c.version = some (l, e)) : Gives n s (s.blk.loadBody c t a len e l) := by
  rcases hn with ⟨hu, hop, rfl⟩ | ⟨p, hu, hop, rfl⟩
  · have hg := listLoad_gives hr (.inr hu) hop ho
    rwa [loadList_image hs hv] at hg
  · have hg := listPatch_gives hr (.inr hu) hop ho
    rwa [loadList_image hs hv] at hg

/-! ### LIST_RETIRE -/

/-- The block in which every version of a list is SUPERSEDED, and the list retired (R72). -/
def retireList (b : Block) (t l : Nat) : Block :=
  { b with
    versions := mapIf (fun v => v.ctx = t ∧ v.listId = l) (fun v => { v with st := .superseded }) b.versions
    retired := dedup (b.retired ++ [t * 65536 + l]) }

theorem listRetire_gives {s : State} {q i t l : Nat} {c : Cmd} (hr : Runs s) (hd : Decided s q i 0x92 c) (hop : c.op = .listRetire t l)
    (ho : OpenFor s t) :
    Gives (.listRetire q i) s (if s.blk.epochOf t l = 0 then s.blk.endCmd q i 0x13
      else if (s.blk.versionsOf t l).any fun v => v.st = .loading then s.blk.endCmd q i 0x14
      else (retireList s.blk t l).reapVersions.endCmd q i 0) := by
  refine gives_of_decided rfl hr hd ?_
  simp only [hop, kernel_open (congrArg Op.target hop) ho]
  rfl

theorem retireList_superseded {b : Block} {t l : Nat} {v : Version} (h : v ∈ (retireList b t l).versions) (ht : v.ctx = t)
    (hl : v.listId = l) : v.st = .superseded := by
  obtain ⟨x, -, hx⟩ := List.mem_map.1 h
  split at hx
  case isTrue => rw [← hx]
  case isFalse hother =>
    subst hx
    exact absurd (decide_eq_true ⟨ht, hl⟩) hother

/-! ### The verdict -/

/-- The list command whose image the security block holds runs, and its version is there. -/
theorem atSecurity_some {b : Block} {c : Cmd} {v : Version} (h : b.atSecurity = some (c, v)) : c.phase = .running ∧ v ∈ b.versions := by
  unfold Block.atSecurity at h
  obtain ⟨x, hfound, hx⟩ := Option.bind_eq_some_iff.1 h
  have hrun := List.find?_some hfound
  simp only [decide_eq_true_eq] at hrun
  split at hx
  · obtain ⟨w, hw, hpair⟩ := Option.map_eq_some_iff.1 hx
    cases hpair
    exact ⟨hrun.2.1, List.mem_of_find?_eq_some hw⟩
  · cases hx

theorem listVerdict_gives_bad {s : State} {ok : Bool} {c : Cmd} {v : Version} (hr : Runs s) (h : s.blk.atSecurity = some (c, v)) :
    Gives (.listVerdict ok true) s (s.blk.failList c 0x12) := by
  show execListVerdict ok true s = _
  unfold execListVerdict
  simp only [core_runs hr, h, if_true]

theorem listVerdict_gives_ok {s : State} {c : Cmd} {v : Version} (hr : Runs s) (h : s.blk.atSecurity = some (c, v)) :
    Gives (.listVerdict true false) s (s.blk.makeCurrent c v) := by
  show execListVerdict true false s = _
  unfold execListVerdict
  simp only [core_runs hr, h, Bool.false_eq_true, if_false, if_true]

/-- A version that is not broken becomes CURRENT and stays, and its command ends with OK (R70, R209). -/
theorem makeCurrent_current {b : Block} {c : Cmd} {v : Version} (hv : v ∈ b.versions) (hrun : InPhase c.q c.i .running b)
    (hin : v.inPlace = false) (hok : v.broken = false) :
    HasEnded c.q c.i 0 (b.makeCurrent c v)
      ∧ ∃ x ∈ (b.makeCurrent c v).versions, x.ctx = v.ctx ∧ x.listId = v.listId ∧ x.epoch = v.epoch ∧ x.st = .current := by
  unfold Block.makeCurrent
  extract_lets old held b₁ b₂ b₃
  rw [if_neg (by simp [hin])]
  have hstep : HoldsLike v b₁ ∧ InPhase c.q c.i .running b₁ := by
    subst b₁
    clear_value old
    cases old with
    | none => exact ⟨.of_mem hv, hrun⟩
    | some x => exact ⟨(HoldsLike.of_mem hv).modVersion_st .., hrun⟩
  obtain ⟨⟨x, hx, ⟨hctx, hlist, hepoch⟩, hbroken⟩, hrun₁⟩ := hstep
  constructor
  · exact running_ended (inPhase_of (reapVersions_queues b₃) (forgetVersion_inPhase (b := b₂) hrun₁))
  · rw [endCmd_versions]
    have hx₃ : { x with st := .current } ∈ b₃.versions := by
      have h := mem_modVersion (t := v.ctx) (l := v.listId) (e := v.epoch) (f := fun y => { y with st := .current }) hx
      rwa [if_pos ⟨hctx, hlist, hepoch⟩] at h
    have hstays : Version.dying { x with st := .current } = false := by simp [Version.dying, hbroken, hok]
    exact ⟨_, mem_reapVersions.2 ⟨hx₃, .inr hstays⟩, hctx, hlist, hepoch, rfl⟩

/-! ### Errors of the stitch cache -/

theorem plainUe_frame (b : Block) (pg : Nat) : agreeBut [.free, .regs, .staged, .events, .ports, .stop, .cinder] b (b.plainUe pg) :=
  agree_of_keeps (Block.plainUe_keeps (sub_refl _) (Keeps.refl _ _)) (by decide)

/-- The record and the event of a broken version leave the lists as they are. -/
theorem breakNotes_lists (b : Block) (typ code x d pg k y e : Nat) : Part.same .lists b ((b.cinderRec typ code x d).event pg k y e) :=
  agree_of_keeps (ps := [.regs, .events, .ports, .stop, .cinder]) (m := 13202729470080)
    (Block.event_keeps rfl (Block.cinderRec_keeps rfl (Keeps.refl _ _))) (by decide) .lists (by decide)

/-- Without commands and tasks nothing refers to a version. -/
theorem verHeld_idle {b : Block} {v : Version} (hc : b.cmds = []) (ht : b.tasks = []) : b.verHeld v = false := by
  unfold Block.verHeld
  rw [hc, ht]
  rfl

/-- A broken version that is not LOADING and that nothing refers to leaves the cache at once (R218). -/
theorem reap_broken {b : Block} {t l e : Nat} (hc : b.cmds = []) (ht : b.tasks = []) (hload : ∀ x ∈ b.versions, x.st ≠ .loading) :
    (b.modVersion t l e fun x => { x with broken := true }).reapVersions.version? t l e = none := by
  refine version_none_iff.2 fun y hy hkey => ?_
  obtain ⟨hmem, hkept⟩ := mem_reapVersions.1 hy
  have hfree : (b.modVersion t l e fun x => { x with broken := true }).verHeld y = false := verHeld_idle hc ht
  obtain ⟨x, hx, hxy⟩ := List.mem_map.1 hmem
  split at hxy
  case isTrue =>
    have hdies : y.dying = true := by simp [← hxy, Version.dying, hload x hx]
    simp [hfree, hdies] at hkept
  case isFalse hother =>
    subst hxy
    exact hother (decide_eq_true hkey)

theorem breakVersion_idle {b : Block} {v : Version} (hc : b.cmds = []) (ht : b.tasks = []) (hv : v ∈ b.versions)
    (hload : ∀ x ∈ b.versions, x.st ≠ .loading) : (b.breakVersion v).version? v.ctx v.listId v.epoch = none := by
  unfold Block.breakVersion
  extract_lets b₁ runs b₂ b₃ b₄ b₅ b₆
  have hcmds : b₁.cmds = [] := hc
  have htasks : b₁.tasks = [] := ht
  have hb₂ : b₂ = b₁ := by
    subst b₂
    rw [hcmds]
    rfl
  have hb₃ : b₃ = b₁ := by
    subst b₃
    rw [hb₂, htasks]
    rfl
  have hb₄ : b₄ = b₁ := by
    subst b₄
    rw [if_neg (hload v hv), hb₃]
  rw [version_of (breakNotes_lists ..)]
  subst b₅
  rw [hb₄]
  exact reap_broken hc ht hload

theorem stitchCacheUe_gives {s : State} {t l e : Nat} {v : Version} (hr : Runs s) (hv : s.blk.version? t l e = some v)
    (hok : v.broken = false) : Gives (.stitchCacheUe t l e) s ((s.blk.plainUe pgSs).breakVersion v) := by
  show execStitchCacheUe t l e s = _
  unfold execStitchCacheUe
  simp only [core_runs hr, hv, hok, Bool.false_eq_true, if_false]

/-- Settles O28: list commands by how far their image has come, LIST_RETIRE by the epoch and the versions of its list, the verdict by
what becomes of the version, and an error of the cache by what is left to refer to it. That LIST_RETIRE of a list without an epoch ends
with ERR_HANDLE at execution is log entry 104. -/
theorem listCommands : Obligations.ListCommands := by
  unfold Obligations.ListCommands
  rintro s q i c hr rfl rfl
  refine ⟨?_, ?_, ?_, ?_, ?_, ?_, ?_, ?_, ?_, ?_⟩
  · intro t l a len st hd hop ho hs hv hst
    have hg := listLoad_gives hr (.inl hd) hop ho
    rw [loadList_conflict hs hv hst] at hg
    exact leaves_ended hd hg
  · intro t l a len p st hd hop ho hs hv hst
    have hg := listPatch_gives hr (.inl hd) hop ho
    rw [loadList_conflict hs hv hst] at hg
    exact leaves_ended hd hg
  · rintro t l a len h b b' hd hop ho hs hv hfree hb hrest hread rfl
    have hg := listLoad_gives hr (.inl hd) hop ho
    have hqueues : Part.same .queues s.blk (b.countBursts c.q a a 64 []) := by
      subst hb
      exact same_trans (touchRange_queues ..) (countBursts_queues ..)
    obtain ⟨hbad, hfull⟩ := loadList_header hs hv hfree hb hrest hread
    constructor
    · intro hhead
      rw [hbad hhead] at hg
      exact ⟨hg, decided_ended hd hqueues⟩
    · intro hhead hroom
      rw [hfull hhead hroom] at hg
      exact ⟨hg, decided_ended hd hqueues⟩
  · intro t l e a len bs sum n hn ho hs hv hrest hread
    have hg := listImage_gives hr hn ho hs hv
    have ⟨hrun, htarget⟩ : InPhase c.q c.i .running s.blk ∧ c.op.target = some t := by
      rcases hn with ⟨hu, hop, -⟩ | ⟨p, hu, hop, -⟩
      · exact ⟨underway_running hu, congrArg Op.target hop⟩
      · exact ⟨underway_running hu, congrArg Op.target hop⟩
    have hread' := imageRead_inPhase (a := a) (len := len) hrun
    constructor
    · intro hsum
      rw [loadBody_passes hrest hread hsum] at hg
      obtain ⟨x, hx, hph⟩ := hread'
      exact ⟨_, _, hg, rfl, modCmd_self (fun _ => ⟨rfl, rfl⟩) hx, rfl, hph⟩
    · intro hsum
      rw [loadBody_fails hrest hread hsum] at hg
      exact ⟨_, hg, failList_ended hread', failList_version htarget hv⟩
  · intro t l hd hop ho hep
    have hg := listRetire_gives hr hd hop ho
    rw [if_pos hep] at hg
    exact leaves_ended hd hg
  · intro t l hd hop ho hep hload
    have hg := listRetire_gives hr hd hop ho
    rw [if_neg hep, if_pos hload] at hg
    exact leaves_ended hd hg
  · intro t l hd hop ho hep hload
    have hg := listRetire_gives hr hd hop ho
    rw [if_neg hep, if_neg (by simp [hload])] at hg
    refine ⟨hg, decided_ended hd (reapVersions_queues (retireList s.blk t l)), fun v hv ht hl => ?_⟩
    exact retireList_superseded (mem_reapVersions.1 hv).1 ht hl
  · intro ok v hat hc
    obtain ⟨hph, -⟩ := atSecurity_some hat
    exact ⟨listVerdict_gives_bad hr hat, failList_ended ⟨c, hc, hph⟩⟩
  · intro v hat hc hin hok
    obtain ⟨hph, hv⟩ := atSecurity_some hat
    exact ⟨_, listVerdict_gives_ok hr hat, makeCurrent_current hv ⟨c, hc, hph⟩ hin hok⟩
  · intro t l e v hv hok hload hcmds htasks
    have hframe := plainUe_frame s.blk pgSs
    obtain ⟨hversions, -⟩ := hframe .lists (by decide)
    obtain ⟨-, hcmds'⟩ := hframe .queues (by decide)
    have htasks' := hframe .tasks (by decide)
    refine ⟨_, stitchCacheUe_gives hr hv hok, ?_⟩
    obtain ⟨rfl, rfl, rfl⟩ := version_key hv
    exact breakVersion_idle (hcmds'.symm.trans hcmds) (Eq.trans (Eq.symm htasks') htasks) (hversions ▸ List.mem_of_find?_eq_some hv)
      (hversions ▸ hload)

end Sys2Proof.Proofs
end

section
/-!
SUPPORT. The rows of engines: clock gating (R245, R335), beats and ends of invocations (R136, R204, R205), drains (R138, R207) and
their limit (R401).
-/
namespace Sys2Proof.Proofs

open Sys2Proof Sys2Proof.Machine Sys2Proof.Safety Sys2Proof.Laws

/-! ### Clock gating -/

theorem eng_of {a b : Block} {e : Nat} (h : Part.same .engines a b) : b.eng e = a.eng e := by
  unfold Block.eng
  rw [h.1]

theorem leaveDomain_engines (b : Block) (a : Nat) (lose : Bool) : Part.same .engines b (b.leaveDomain a lose) :=
  agree_of_keeps (ps := [.regs, .dev, .coherence]) (Block.leaveDomain_keeps (sub_refl _) (Keeps.refl _ _)) (by decide) .engines (by decide)

/-- What R245 asks before the clock of an engine is gated. -/
structure Gates (b : Block) (e : Nat) : Prop where
  lit : (b.eng e).lit = true
  clocked : (b.eng e).gated = false
  undrained : (b.eng e).draining = false
  sleeps : b.sleeps e = true
  enabled : b.reg Reg.WK_GATE_NS ≠ 0
  waited : b.reg Reg.WK_GATE_NS * 9 ≤ (b.eng e).waitCycles * 5

/-- A gated core leaves the domain (R335); a stack unit has no place in it. -/
theorem engineClockGate_gives {s : State} {e : Nat} (hr : Runs s) (h : Gates s.blk e) :
    Gives (.engineClockGate e) s (if e < unitBase then (s.blk.setEng e { s.blk.eng e with gated := true }).leaveDomain (8 + e) false
      else s.blk.setEng e { s.blk.eng e with gated := true }) := by
  obtain ⟨hlit, hclk, hdrain, hsleep, hon, hwait⟩ := h
  show execEngineClockGate e s = _
  unfold execEngineClockGate
  simp only [core_runs hr, hlit, hclk, hdrain, hsleep, hon, hwait, Bool.not_false, ne_eq, not_false_eq_true, and_self, if_true]

theorem engineClockGate_off {s : State} {e : Nat} (hr : Runs s) (h : s.blk.reg Reg.WK_GATE_NS = 0) : Gives (.engineClockGate e) s s.blk := by
  show execEngineClockGate e s = _
  unfold execEngineClockGate
  simp only [core_runs hr, h, ne_eq, not_true_eq_false, false_and, and_false, if_false]

/-! ### Beats -/

/-- The block in which engine `e` has retired its records up to its next beat. -/
def beaten (b : Block) (e : Nat) (l : List QStitch) (n : Nat) : Block :=
  (b.setEng e { b.eng e with inq := l, synced := false, retired := n }).beatEng e

theorem progressBeat_gives {s : State} {e n : Nat} {l : List QStitch} (hr : Runs s) (hx : s.blk.executes e = true)
    (hb : toBeat (s.blk.eng e).inv (s.blk.eng e).synced (s.blk.eng e).inq = some (l, n)) :
    Gives (.progressBeat e) s (beaten s.blk e l n) := by
  show execProgressBeat e s = _
  unfold execProgressBeat
  simp only [core_runs hr, hb, hx, if_true]
  rfl

theorem progressBeat_idle {s : State} {e : Nat} (hr : Runs s) (hx : s.blk.executes e = false) : Gives (.progressBeat e) s s.blk := by
  show execProgressBeat e s = _
  unfold execProgressBeat
  simp only [core_runs hr, hx, Bool.false_eq_true, if_false]
  split <;> rfl

theorem beatEng_engines (b : Block) (e : Nat) : Part.same .engines b (b.beatEng e) :=
  agree_of_keeps (ps := [.queues, .tasks]) (Block.beatEng_keeps (sub_refl _) (Keeps.refl _ _)) (by decide) .engines (by decide)

/-- A beat of an engine of a command restarts its budget, and the command counts it (R136, R434). -/
theorem beatEng_cmd {b : Block} {e q i : Nat} {c : Cmd} (hu : (b.eng e).use = .cmd q i) (hc : b.cmd? q i = some c) :
    (b.beatEng e).cmd? q i = some { c with budget := 0, beats := c.beats + 1 } := by
  unfold Block.beatEng
  rw [hu]
  exact modCmd_self (fun _ => ⟨rfl, rfl⟩) hc

/-- A beat of an engine of a task restarts its budget (R136). -/
theorem beatEng_task {b : Block} {e c k : Nat} {x : Task} (hu : (b.eng e).use = .task c k) (hx : b.task? c k = some x) :
    (b.beatEng e).task? c k = some { x with budget := 0 } := by
  unfold Block.beatEng Block.progressEng
  simp only [hu]
  exact modTask_self (fun _ => ⟨rfl, rfl⟩) hx

theorem beaten_eng (b : Block) (e : Nat) (l : List QStitch) (n : Nat) :
    (beaten b e l n).eng e = { b.eng e with inq := l, synced := false, retired := n } := by
  unfold beaten
  rw [eng_of (beatEng_engines ..), Block.setEng_self]

theorem beaten_cmd {b : Block} {e n q i : Nat} {l : List QStitch} {c : Cmd} (hu : (b.eng e).use = .cmd q i) (hc : b.cmd? q i = some c) :
    (beaten b e l n).cmd? q i = some { c with budget := 0, beats := c.beats + 1 } :=
  beatEng_cmd (by rw [Block.setEng_self]; exact hu) hc

theorem beaten_task {b : Block} {e n c k : Nat} {l : List QStitch} {x : Task} (hu : (b.eng e).use = .task c k)
    (hx : b.task? c k = some x) : (beaten b e l n).task? c k = some { x with budget := 0 } :=
  beatEng_task (by rw [Block.setEng_self]; exact hu) hx

/-! ### The end of an invocation -/

/-- Engine `e` stands before its next invocation. -/
def nextInv (x : Engine) : Engine := { x with inv := x.inv + 1, args := [], synced := false, starved := false }

/-- The block in which engine `e` has ended an invocation for the command at (q, i), with its beat. -/
def invEnded (b : Block) (e q i : Nat) : Block :=
  ((b.beatEng e).setEng e (nextInv ((b.beatEng e).eng e))).modCmd q i fun c => { c with left := takeInv e c.left }

theorem invEnded_cmd {b : Block} {e q i : Nat} {c : Cmd} (hu : (b.eng e).use = .cmd q i) (hc : b.cmd? q i = some c) :
    (invEnded b e q i).cmd? q i = some { c with budget := 0, beats := c.beats + 1, left := takeInv e c.left } :=
  modCmd_self (f := fun c => { c with left := takeInv e c.left }) (fun _ => ⟨rfl, rfl⟩) (beatEng_cmd hu hc)

theorem invEnded_eng (b : Block) (e q i : Nat) : (invEnded b e q i).eng e = nextInv (b.eng e) :=
  (Block.setEng_self ..).trans (congrArg nextInv (eng_of (beatEng_engines ..)))

/-- The last invocation of a command ends it with OK (R205). -/
theorem endInvocation_last {b : Block} {e q i : Nat} {c : Cmd} (hu : (b.eng e).use = .cmd q i) (hc : b.cmd? q i = some c)
    (hlast : (takeInv e c.left).all (·.2 = 0) = true) : b.endInvocation e = (invEnded b e q i).endCmd q i 0 := by
  have huse : (((b.beatEng e).setEng e (nextInv ((b.beatEng e).eng e))).eng e).use = .cmd q i := by
    rw [Block.setEng_self, eng_of (beatEng_engines ..)]
    exact hu
  have hleft := invEnded_cmd hu hc
  unfold nextInv at huse
  unfold invEnded nextInv at hleft
  unfold Block.endInvocation invEnded nextInv
  simp only [huse, hleft, Option.map_some, Option.getD_some, hlast, if_true]

theorem engineInvocationEnd_gives {s : State} {e : Nat} {l : List QStitch} (hr : Runs s) (hx : s.blk.executes e = true)
    (hall : s.blk.allDelivered e = true) (hend : toEnd (s.blk.eng e).inv (s.blk.eng e).synced (s.blk.eng e).inq = some l) :
    Gives (.engineInvocationEnd e) s ((s.blk.setEng e { s.blk.eng e with inq := l }).endInvocation e) := by
  show execEngineInvocationEnd e s = _
  unfold execEngineInvocationEnd
  simp only [core_runs hr, hend, hx, hall, and_self, if_true]

theorem endCmd_eng (b : Block) (q i st e : Nat) : (b.endCmd q i st).eng e = b.eng e :=
  eng_of (endCmd_frame b q i st .engines (by decide))

/-! ### Drains -/

/-- The block in which engine `e` drains no longer, and is quiet where it still holds its work. -/
def drainOver (b : Block) (e : Nat) : Block :=
  b.setEng e { b.eng e with draining := false, drainCycles := 0, quiet := decide ((b.eng e).use ≠ .free) }

theorem drained_free {b : Block} {e : Nat} (hd : (b.eng e).draining = true) (hu : (b.eng e).use = .free) : b.drained e = drainOver b e := by
  have hc : b.cancelled e = false := by
    unfold Block.cancelled
    rw [hu]
  unfold Block.drained drainOver
  simp [hd, hu, hc]

theorem drained_cmd {b : Block} {e q i : Nat} (hd : (b.eng e).draining = true) (hl : (b.eng e).drainCycles < drainNoted)
    (hu : (b.eng e).use = .cmd q i) : b.drained e = (drainOver b e).settleCmd q i := by
  have hnot : ¬((!(b.eng e).draining) = true ∨ (drainNoted ≤ (b.eng e).drainCycles ∧ b.cancelled e = true)) := by
    rintro (h | ⟨h, -⟩)
    · rw [hd] at h
      cases h
    · omega
  unfold Block.drained drainOver
  simp only [if_neg hnot, hu]

/-- An engine that was recorded as undrained keeps its cancelled work (R401). -/
theorem drained_noted {b : Block} {e : Nat} (hl : drainNoted ≤ (b.eng e).drainCycles) (hc : b.cancelled e = true) : b.drained e = b :=
  if_pos (.inr ⟨hl, hc⟩)

/-- A cancelled command whose only engine has drained ends (R138). -/
theorem settleCmd_drained {b : Block} {e q i st : Nat} {c : Cmd} (hc : b.cmd? q i = some c) (hst : c.cancel = some st)
    (hretry : st ≠ retryStep) (hengs : c.engs = [e]) : (drainOver b e).settleCmd q i = (drainOver b e).endCmd q i st := by
  have hquiet : (drainOver b e).allQuiet c.engs = true := by
    simp [hengs, Block.allQuiet, drainOver]
  have hcmd : (drainOver b e).cmd? q i = some c := hc
  unfold Block.settleCmd
  simp only [hcmd, hst, hquiet, hretry, ne_eq, not_false_eq_true, and_self, if_true]

theorem engineDrained_gives {s : State} (e : Nat) (hr : Runs s) : Gives (.engineDrained e) s (s.blk.drained e) := by
  show execEngineDrained e s = _
  exact core_runs hr

/-! ### The limit of a drain -/

theorem drainLimitExpiry_gives {s : State} {e : Nat} (hr : Runs s) (hd : (s.blk.eng e).draining = true)
    (hl : (s.blk.eng e).drainCycles < drainNoted)
    (ht : s.blk.field Reg.RC_DRAIN_LIMIT 15 0 * Config.cyclesUs ≤ (s.blk.eng e).drainCycles) :
    Gives (.drainLimitExpiry e) s (s.blk.undrained e) := by
  show execDrainLimitExpiry e s = _
  unfold execDrainLimitExpiry
  rw [core_runs hr, if_pos ⟨hd, hl, ht⟩]

theorem event_frame (b : Block) (pg kind y e : Nat) : agreeBut [.regs, .events] b (b.event pg kind y e) :=
  agree_of_keeps (Block.event_keeps (sub_refl _) (Keeps.refl _ _)) (by decide)

theorem undrained_eng (b : Block) (e : Nat) : (b.undrained e).eng e = { b.eng e with drainCycles := drainNoted } := by
  unfold Block.undrained
  extract_lets x b₁ b₂
  have hnoted : b₂.eng e = b₁.eng e := by
    subst b₂
    split <;> rfl
  rw [eng_of (event_frame _ _ _ _ _ .engines (by decide)), hnoted]
  exact Block.setEng_self ..

theorem undrained_cmds (b : Block) (e : Nat) : (b.undrained e).cmds = b.cmds := by
  have h : agreeBut [.regs, .events, .engines] b (b.undrained e) :=
    agree_of_keeps (Block.undrained_keeps (sub_refl _) (Keeps.refl _ _)) (by decide)
  exact (h .queues (by decide)).2.symm

/-- Settles O32: gating by the kind of the engine, a beat by the kind of its work, the last invocation of a launch, a drain by what the
engine holds, and the limit of a drain. -/
theorem engineRows : Obligations.EngineRows := by
  unfold Obligations.EngineRows
  intro s e hr
  refine ⟨?_, engineClockGate_off hr, ?_, ?_, progressBeat_idle hr, ?_, ?_, ?_, ?_, ?_⟩
  · intro hlit hclk hdrain hsleep hon hwait
    have hg := engineClockGate_gives hr ⟨hlit, hclk, hdrain, hsleep, hon, hwait⟩
    constructor
    · intro hunit
      rw [if_neg (by omega)] at hg
      exact ⟨hg, congrArg Engine.gated (Block.setEng_self ..)⟩
    · intro hcore
      rw [if_pos hcore] at hg
      exact ⟨hg, congrArg Engine.gated ((eng_of (leaveDomain_engines ..)).trans (Block.setEng_self ..))⟩
  · intro q i c l n hx hu hc hb
    exact ⟨_, progressBeat_gives hr hx hb, beaten_cmd hu hc, congrArg Engine.inq (beaten_eng ..), congrArg Engine.retired (beaten_eng ..)⟩
  · intro c k x l n hx hu ht hb
    exact ⟨_, progressBeat_gives hr hx hb, beaten_task hu ht, congrArg Engine.inq (beaten_eng ..), congrArg Engine.retired (beaten_eng ..)⟩
  · intro q i c l hx hall hu hc hph hend hlast
    have hg := engineInvocationEnd_gives hr hx hall hend
    have hu' : ((s.blk.setEng e { s.blk.eng e with inq := l }).eng e).use = .cmd q i := by
      rw [Block.setEng_self]
      exact hu
    have hc' : (s.blk.setEng e { s.blk.eng e with inq := l }).cmd? q i = some c := hc
    rw [endInvocation_last hu' hc' hlast] at hg
    refine ⟨_, hg, endCmd_ended (invEnded_cmd hu' hc') (by simp [hph]), ?_⟩
    rw [endCmd_eng, invEnded_eng, Block.setEng_self]
    exact ⟨rfl, rfl⟩
  · intro hd hu
    have hg := engineDrained_gives e hr
    rw [drained_free hd hu] at hg
    refine ⟨?_, congrArg Engine.draining (Block.setEng_self ..)⟩
    rwa [drainOver, show decide ((s.blk.eng e).use ≠ .free) = false by simp [hu]] at hg
  · intro q i c st hd hl hu hc hph hcancel hretry hengs
    have hg := engineDrained_gives e hr
    rw [drained_cmd hd hl hu, settleCmd_drained hc hcancel hretry hengs] at hg
    refine ⟨_, hg, endCmd_ended (b := drainOver s.blk e) hc (by simp [hph]), ?_⟩
    rw [endCmd_eng, drainOver, Block.setEng_self]
  · intro hl hc
    have hg := engineDrained_gives e hr
    rwa [drained_noted hl hc] at hg
  · intro hd hl ht
    have heng := undrained_eng s.blk e
    exact ⟨drainLimitExpiry_gives hr hd hl ht, congrArg Engine.drainCycles heng, (congrArg Engine.draining heng).trans hd,
      undrained_cmds ..⟩

end Sys2Proof.Proofs
end

section
/-!
SUPPORT. The rows of wicks: signals (R231, R232, R235, R250), step pacing (R320), window writes (R265) and row errors (R236).
-/
namespace Sys2Proof.Proofs

open Sys2Proof Sys2Proof.Machine Sys2Proof.Safety Sys2Proof.Laws

/-! ### A signal on its slot -/

theorem foldl_wicks {α : Type} {f : Block → α → Block} (hf : ∀ b x, Part.same .wicks b (f b x)) (l : List α) (b : Block) :
    Part.same .wicks b (l.foldl f b) := by
  induction l generalizing b with
  | nil => exact same_refl _ _
  | cons x l ih => exact same_trans (hf b x) (ih _)

theorem sigDrop_wicks (b : Block) (win : Bool) : Part.same .wicks b (b.sigDrop win) :=
  agree_of_keeps (ps := [.regs, .ledger]) (Block.sigDrop_keeps (sub_refl _) (Keeps.refl _ _)) (by decide) .wicks (by decide)

theorem count32_wicks (b : Block) (a : Nat) : Part.same .wicks b (b.count32 a) :=
  agree_of_keeps (ps := [.regs]) (Block.count32_keeps (sub_refl _) (Keeps.refl _ _)) (by decide) .wicks (by decide)

theorem event_wicks (b : Block) (pg kind y e : Nat) : Part.same .wicks b (b.event pg kind y e) :=
  event_frame b pg kind y e .wicks (by decide)

theorem stepBoundary_wicks (b : Block) (hs : List Nat) : Part.same .wicks b (b.stepBoundary hs) :=
  agree_of_keeps (ps := [.regs, .events, .harnesses, .ledger, .ports, .heldWrites, .stop, .cinder])
    (Block.stepBoundary_keeps (sub_refl _) (Keeps.refl _ _)) (by decide) .wicks (by decide)

theorem sigNow_frame (b : Block) (k : Nat) (m : Bool) (v : Nat) (win : Bool) :
    agreeBut [.regs, .events, .harnesses, .wicks, .ledger, .ports, .heldWrites, .stop, .cinder] b (b.sigNow k m v win) :=
  agree_of_keeps (Block.sigNow_keeps (sub_refl _) (Keeps.refl _ _)) (by decide)

/-- A snuffed slot keeps its value (R236, R250). -/
theorem sigNow_snuffed {b : Block} {k v : Nat} {m win : Bool} (h : (b.slot k).snuffed = true) :
    ((b.sigNow k m v win).slot k).value = (b.slot k).value := by
  unfold Block.sigNow
  simp only [h, if_true]
  rw [slot_of (sigDrop_wicks ..)]

/-- A signal leaves the result of its operation in a slot that is not snuffed (R231, R232): a SETMAX of no more than the value leaves the
value, which is its result too. -/
theorem sigNow_value {b : Block} {k v : Nat} {m win : Bool} (h : (b.slot k).snuffed = false) :
    ((b.sigNow k m v win).slot k).value = sigResult (b.slot k).value m v := by
  unfold Block.sigNow
  extract_lets x r overrun b₁ b₂ b₃
  rw [if_neg (by simp [x, h])]
  split
  case isTrue hstale =>
    obtain ⟨rfl, hlt⟩ := hstale
    rw [slot_of (count32_wicks ..)]
    exact (Nat.max_eq_left (Nat.le_of_lt hlt)).symm
  case isFalse =>
    split
    case isTrue hequal =>
      obtain ⟨rfl, rfl⟩ := hequal
      exact (Nat.max_self _).symm
    case isFalse =>
      have hset : (b₂.slot k).value = r := congrArg Slot.value (Block.setSlot_self ..)
      have hnoted : (b₃.slot k).value = r := by
        subst b₃
        split
        · rw [slot_of (same_trans (count32_wicks ..) (event_wicks ..)), hset]
        · exact hset
      split
      · exact hnoted
      · rw [slot_of (stepBoundary_wicks ..), hnoted]

/-! ### Waiters and bounds after a signal -/

theorem evalWaiters_wicks (b : Block) (k : Nat) : Part.same .wicks b (b.evalWaiters k) :=
  agree_of_keeps (ps := [.queues, .engines, .tasks, .waits]) (Block.evalWaiters_keeps (sub_refl _) (Keeps.refl _ _)) (by decide)
    .wicks (by decide)

theorem evalAll_slots (l : List Nat) (b : Block) : (l.foldl Block.evalWaiters b).slots = b.slots := by
  obtain ⟨hslots, -⟩ := foldl_wicks evalWaiters_wicks l b
  exact hslots.symm

theorem checkBound_slots (b : Block) (k : Nat) : (b.checkBound k).slots = b.slots := by
  unfold Block.checkBound
  extract_lets y p c overrun underrun y' b₁
  split
  · rfl
  · split
    · obtain ⟨hslots, -⟩ := event_wicks b₁ pgWk 9 y.ctx (ofBit y'.underrun * 2 ^ 11 + ofBit y'.overrun * 2 ^ 10 + k)
      exact hslots.symm
    · rfl

theorem checkBounds_slots (b : Block) (ss : List Nat) : (b.checkBounds ss).slots = b.slots := by
  unfold Block.checkBounds
  generalize (b.bounds.filter _).map (·.1) = l
  induction l generalizing b with
  | nil => rfl
  | cons k l ih => rw [List.foldl_cons, ih, checkBound_slots]

/-- Waiters, bounds and deadlines leave the slots as they are. -/
theorem settleWicks_slot (b old : Block) (ss : List Nat) (k : Nat) : (b.settleWicks old ss).slot k = b.slot k := by
  have h : (b.settleWicks old ss).slots = b.slots := (checkBounds_slots _ _).trans (evalAll_slots _ _)
  unfold Block.slot
  rw [h]

/-! ### WICK_SIGNAL_APPLY -/

/-- A signal that pacing does not hold takes effect at once (R320). -/
theorem sigSlot_unpaced {b : Block} {k v : Nat} {m win : Bool} (h : b.paced k m v = none) :
    b.sigSlot k m v win = (b.ledgerTerm fun l => { l with issued := l.issued + 1 }).sigNow k m v win := by
  have h' : (b.ledgerTerm fun l => { l with issued := l.issued + 1 }).paced k m v = none := h
  unfold Block.sigSlot
  simp only [h']

theorem signalOne_value {b : Block} {k v : Nat} {m win : Bool} (hs : (b.slot k).snuffed = false) (hp : b.paced k m v = none) :
    ((b.signalOne k m v win).slot k).value = sigResult (b.slot k).value m v := by
  unfold Block.signalOne
  rw [settleWicks_slot, sigSlot_unpaced hp]
  exact sigNow_value hs

/-- Pacing holds no signal to a snuffed slot. -/
theorem paced_snuffed {b : Block} {k v : Nat} {m : Bool} (hs : (b.slot k).snuffed = true) (hh : b.heldSigs = []) :
    b.paced k m v = none := by
  unfold Block.paced
  simp only [hh, List.find?_nil, hs, true_or, if_true]

theorem signalOne_snuffed {b : Block} {k v : Nat} {m win : Bool} (hs : (b.slot k).snuffed = true) (hh : b.heldSigs = []) :
    ((b.signalOne k m v win).slot k).value = (b.slot k).value := by
  unfold Block.signalOne
  rw [settleWicks_slot, sigSlot_unpaced (paced_snuffed hs hh)]
  exact sigNow_snuffed hs

theorem wickSignalApply_gives {s : State} {k : Nat} (m : Bool) (v : BitVec 64) (hr : Runs s) (ha : (s.blk.slot k).alloc = true) :
    Gives (.wickSignalApply k m v) s (s.blk.signalOne k m v.toNat false) := by
  show execWickSignalApply k m v s = _
  unfold execWickSignalApply
  rw [core_runs hr, if_pos ha]

theorem wickSignalApply_free {s : State} {k : Nat} (m : Bool) (v : BitVec 64) (hr : Runs s) (ha : (s.blk.slot k).alloc = false) :
    Gives (.wickSignalApply k m v) s s.blk := by
  show execWickSignalApply k m v s = _
  unfold execWickSignalApply
  rw [core_runs hr, if_neg (by simp [ha])]

/-! ### STEP_PACING_EXPIRY -/

/-- No signal is held, and no command waits for one that is. -/
structure NoSigWait (b : Block) : Prop where
  held : b.heldSigs = []
  posted : ∀ c ∈ b.cmds, c.posted = false

theorem NoSigWait.of_same {a b : Block} (h : NoSigWait a) (hq : Part.same .queues a b) (hw : Part.same .waits a b) : NoSigWait b := by
  obtain ⟨-, hcmds⟩ := hq
  obtain ⟨-, -, hheld⟩ := hw
  exact ⟨hheld ▸ h.held, hcmds ▸ h.posted⟩

/-- A map over the commands that posts none. -/
theorem NoSigWait.mapCmds {b : Block} (h : NoSigWait b) {p : Cmd → Bool} {f : Cmd → Cmd} (hf : ∀ c, (f c).posted = c.posted) :
    NoSigWait (b.mapCmds p f) := by
  refine ⟨h.held, fun c hc => ?_⟩
  obtain ⟨x, hx, rfl⟩ := List.mem_map.1 hc
  split
  · exact (hf x).trans (h.posted x hx)
  · exact h.posted x hx

theorem NoSigWait.progress {b : Block} (h : NoSigWait b) (q i : Nat) : NoSigWait (b.progress q i) := h.mapCmds fun _ => rfl

theorem NoSigWait.progressEng {b : Block} (h : NoSigWait b) (e : Nat) : NoSigWait (b.progressEng e) := by
  unfold Block.progressEng
  split
  · exact h
  · exact h.progress ..
  · exact ⟨h.held, h.posted⟩

theorem NoSigWait.foldl {α : Type} {f : Block → α → Block} (hf : ∀ b x, NoSigWait b → NoSigWait (f b x)) :
    ∀ (l : List α) {b : Block}, NoSigWait b → NoSigWait (l.foldl f b)
  | [], _, h => h
  | x :: l, b, h => NoSigWait.foldl hf l (hf b x h)

theorem NoSigWait.setEng {b : Block} (h : NoSigWait b) (e : Nat) (x : Engine) : NoSigWait (b.setEng e x) := ⟨h.held, h.posted⟩

/-- A block with other waiter records. -/
theorem NoSigWait.waiters {b : Block} (h : NoSigWait b) (l : List Waiter) : NoSigWait { b with waiters := l } := ⟨h.held, h.posted⟩

theorem NoSigWait.wakeOne {b : Block} (h : NoSigWait b) (v : Nat) (w : Waiter) : NoSigWait (b.wakeOne v w) := by
  unfold Block.wakeOne
  extract_lets met b₁ b₂
  have hprog : NoSigWait b₁ := by
    subst b₁
    split
    · exact h.progress ..
    · exact h.progressEng ..
    · exact h
  have hgone : NoSigWait b₂ := hprog.waiters _
  split
  · split
    · exact hgone
    · exact hgone.setEng ..
    · exact NoSigWait.foldl (fun _ _ hb => hb.setEng ..) _ hgone
  · exact hprog

theorem NoSigWait.wakeEngs {b : Block} (h : NoSigWait b) (es : List Nat) : NoSigWait (b.wakeEngs es) :=
  have hf : agreeBut [.engines] b (b.wakeEngs es) := agree_of_keeps (Block.wakeEngs_keeps (sub_refl _) (Keeps.refl _ _)) (by decide)
  h.of_same (hf .queues (by decide)) (hf .waits (by decide))

theorem NoSigWait.evalWaiters {b : Block} (h : NoSigWait b) (k : Nat) : NoSigWait (b.evalWaiters k) :=
  NoSigWait.wakeEngs (NoSigWait.foldl (fun _ w hb => hb.wakeOne _ w) _ h) _

theorem NoSigWait.checkBounds {b : Block} (h : NoSigWait b) (ss : List Nat) : NoSigWait (b.checkBounds ss) :=
  have hf : agreeBut [.regs, .events, .wicks] b (b.checkBounds ss) :=
    agree_of_keeps (Block.checkBounds_keeps (sub_refl _) (Keeps.refl _ _)) (by decide)
  h.of_same (hf .queues (by decide)) (hf .waits (by decide))

theorem NoSigWait.settleWicks {b : Block} (h : NoSigWait b) (old : Block) (ss : List Nat) : NoSigWait (b.settleWicks old ss) :=
  ((NoSigWait.foldl (fun _ k hb => hb.evalWaiters k) _ h).checkBounds _).mapCmds fun _ => rfl

theorem NoSigWait.sigNow {b : Block} (h : NoSigWait b) (k : Nat) (m : Bool) (v : Nat) (win : Bool) : NoSigWait (b.sigNow k m v win) :=
  have hf := sigNow_frame b k m v win
  h.of_same (hf .queues (by decide)) (hf .waits (by decide))

/-- Where no command is posted, no command completes with the release of held signals. -/
theorem NoSigWait.settlePosted {b : Block} (h : NoSigWait b) : b.settlePosted = b := by
  have hnone : b.cmds.filter (·.posted) = [] := List.filter_eq_nil_iff.2 fun c hc => by simp [h.posted c hc]
  unfold Block.settlePosted
  rw [hnone]
  rfl

/-- The block in which the one signal that is held takes effect. -/
def releasedOne (b : Block) (y : HeldSig) : Block :=
  (Block.sigNow { b with heldSigs := [] } y.slot y.setmax y.value y.win).settleWicks b [y.slot]

theorem releaseHeld_one {b : Block} {y : HeldSig} (hh : b.heldSigs = [y])
    (hp : Block.paced { b with heldSigs := [] } y.slot y.setmax y.value = none) :
    Block.releaseHeld y.slot [y] b = Block.sigNow { b with heldSigs := [] } y.slot y.setmax y.value y.win := by
  simp [Block.releaseHeld, hh, hp]

theorem releaseSteps_one {b : Block} {y : HeldSig} (hh : b.heldSigs = [y])
    (hp : Block.paced { b with heldSigs := [] } y.slot y.setmax y.value = none) :
    b.releaseSteps y.h = (releasedOne b y).settlePosted := by
  have hone := releaseHeld_one hh hp
  unfold Block.releaseSteps releasedOne
  simp [hh, dedup, hone]

theorem releasedOne_value {b : Block} {y : HeldSig} (hs : (b.slot y.slot).snuffed = false) :
    ((releasedOne b y).slot y.slot).value = sigResult (b.slot y.slot).value y.setmax y.value := by
  unfold releasedOne
  rw [settleWicks_slot]
  exact sigNow_value hs

theorem releasedOne_noSigWait {b : Block} (y : HeldSig) (h : ∀ c ∈ b.cmds, c.posted = false) : NoSigWait (releasedOne b y) :=
  have h₀ : NoSigWait { b with heldSigs := [] } := ⟨rfl, h⟩
  (h₀.sigNow ..).settleWicks ..

theorem stepPacingExpiry_gives {s : State} (h : Nat) (hr : Runs s) : Gives (.stepPacingExpiry h) s (s.blk.releaseSteps h) := by
  show execStepPacingExpiry h s = _
  exact core_runs hr

/-! ### WINDOW_SIGNAL_WRITE -/

/-- A window write by a port that is up reaches the slot. -/
theorem windowSignalWrite_gives {s : State} {path k : Nat} (v : BitVec 64) (hr : Runs s) (hpath : path = 1 ∨ path = 2)
    (hup : s.blk.pathUp path = true) : Gives (.windowSignalWrite path k v) s (s.blk.windowWrite k v.toNat) := by
  have hport : path ≠ 3 := by omega
  unfold Runs Block.frozen at hr
  rw [Bool.or_eq_false_iff] at hr
  obtain ⟨hstop, hheld⟩ := hr
  show execWindowSignalWrite path k v s = _
  unfold execWindowSignalWrite State.aon
  simp only [hup, hheld, hstop, hport, Bool.not_true, Bool.false_eq_true, or_self, if_false]

theorem windowWrite_on {b : Block} {k v : Nat} (ha : (b.slot k).alloc = true) (he : (b.slot k).exported = true)
    (hw : (b.slot k).window = true) : b.windowWrite k v = b.signalOne k true v true := if_pos ⟨ha, he, hw⟩

theorem windowWrite_off {b : Block} {k v : Nat} (hw : (b.slot k).window = false) :
    b.windowWrite k v = (b.ledgerTerm fun l => { l with issued := l.issued + 1, win := l.win + 1 }).count32 Reg.WK_WIN_DROP :=
  if_neg fun h => by simp [hw] at h

/-! ### WICK_ROW_UE -/

theorem sigDrops_wicks (l : List HeldSig) (b : Block) : Part.same .wicks b (l.foldl (fun b y => b.sigDrop y.win) b) :=
  foldl_wicks (fun b y => sigDrop_wicks b y.win) l b

theorem setHarness_wicks (b : Block) (h : Nat) (x : Harness) : Part.same .wicks b (b.setHarness h x) := ⟨rfl, rfl, rfl, rfl⟩

theorem snuffWaiter_wicks (b : Block) (w : Waiter) : Part.same .wicks b (b.snuffWaiter w) :=
  agree_of_keeps (ps := [.regs, .events, .queues, .harnesses, .engines, .tasks, .waits, .lists, .mappings, .translation, .breakpoints])
    (Block.snuffWaiter_keeps (sub_refl _) (Keeps.refl _ _)) (by decide) .wicks (by decide)

/-- The slot is snuffed, whether it was before or not; what ends with it leaves it so. -/
theorem snuff_snuffed {b : Block} {k : Nat} (ha : (b.slot k).alloc = true) : ((b.snuff k).slot k).snuffed = true := by
  unfold Block.snuff
  extract_lets x b₁ b₂ cs b₃ dropped b₄
  split
  case isTrue h => simpa [x, ha] using h
  case isFalse =>
    have hset : (b₂.slot k).snuffed = true := congrArg Slot.snuffed (Block.setSlot_self ..)
    have hcommits : Part.same .wicks b₂ b₃ := foldl_wicks (fun b h => setHarness_wicks b h _) cs b₂
    have hdrops : Part.same .wicks b₃ b₄ := sigDrops_wicks dropped { b₃ with heldSigs := b₃.heldSigs.filter (·.slot ≠ k) }
    have hwaits := foldl_wicks snuffWaiter_wicks (b₄.waiters.filter (·.slot = k)) b₄
    exact (congrArg Slot.snuffed (slot_of (same_trans hcommits (same_trans hdrops hwaits)))).trans hset

theorem retireInst_wicks (b : Block) (kind inst : Nat) : Part.same .wicks b (b.retireInst kind inst) :=
  agree_of_keeps (ps := [.regs, .events, .ports, .wear, .stop, .cinder]) (Block.retireInst_keeps (sub_refl _) (Keeps.refl _ _)) (by decide)
    .wicks (by decide)

theorem enterSpare_wicks (b : Block) (kind inst : Nat) : Part.same .wicks b (b.enterSpare kind inst) :=
  agree_of_keeps (ps := [.regs, .tables, .events, .ports, .wear, .stop, .cinder]) (Block.enterSpare_keeps (sub_refl _) (Keeps.refl _ _))
    (by decide) .wicks (by decide)

theorem storageUe_wicks (b : Block) (kind inst : Nat) : Part.same .wicks b (b.storageUe kind inst) :=
  agree_of_keeps (ps := [.regs, .staged, .events, .ports, .wear, .stop, .cinder]) (Block.storageUe_keeps (sub_refl _) (Keeps.refl _ _))
    (by decide) .wicks (by decide)

theorem wickError_wicks (b : Block) (k : Nat) : Part.same .wicks b (b.wickError k) :=
  agree_of_keeps (ps := [.regs, .events, .ports, .stop, .cinder]) (Block.wickError_keeps (sub_refl _) (Keeps.refl _ _)) (by decide)
    .wicks (by decide)

/-- A slot that moves to a spare row is snuffed as before. -/
theorem moveRow_snuffed (b : Block) (k : Nat) : ((b.moveRow k).slot k).snuffed = (b.slot k).snuffed := by
  unfold Block.moveRow
  extract_lets b₁
  have hretired : b₁.slot k = b.slot k := slot_of (retireInst_wicks ..)
  rw [← hretired]
  split
  · rw [slot_of (enterSpare_wicks ..), Block.setSlot_self]
  · split
    · rfl
    · rw [Block.setReg_slot, Block.setSlot_self]

theorem wickRowUe_gives {s : State} (k : Nat) (hr : Runs s) :
    Gives (.wickRowUe k) s ((((s.blk.storageUe 2 (s.blk.rowOf k)).snuff k).moveRow k).wickError k) := by
  show execWickRowUe k s = _
  exact core_runs hr

/-- Settles O36: a signal by whether its slot is snuffed and held, the release of the one signal that is held, a window write by its
window, and an error of a row. -/
theorem wickRows : Obligations.WickRows := by
  unfold Obligations.WickRows
  intro s hr
  refine ⟨?_, ?_, fun k m v ha => wickSignalApply_free m v hr ha, ?_, ?_, ?_, ?_⟩
  · intro k m v ha hs hp
    exact ⟨wickSignalApply_gives m v hr ha, signalOne_value hs hp⟩
  · intro k m v ha hs hh
    exact ⟨wickSignalApply_gives m v hr ha, signalOne_snuffed hs hh⟩
  · rintro h y hh rfl hs hp hposted
    have hquiet := releasedOne_noSigWait y hposted
    have hsteps : s.blk.releaseSteps y.h = releasedOne s.blk y := (releaseSteps_one hh hp).trans hquiet.settlePosted
    refine ⟨stepPacingExpiry_gives y.h hr, ?_⟩
    rw [hsteps]
    exact ⟨hquiet.held, releasedOne_value hs⟩
  · intro path k v hpath hup ha he hw hs hp
    have hg := windowSignalWrite_gives (k := k) v hr hpath hup
    rw [windowWrite_on ha he hw] at hg
    exact ⟨hg, signalOne_value hs hp⟩
  · intro path k v hpath hup hw
    have hg := windowSignalWrite_gives (k := k) v hr hpath hup
    rw [windowWrite_off hw] at hg
    obtain ⟨hslots, -⟩ := count32_wicks (s.blk.ledgerTerm fun l => { l with issued := l.issued + 1, win := l.win + 1 }) Reg.WK_WIN_DROP
    exact ⟨hg, hslots.symm⟩
  · intro k ha
    have hue : ((s.blk.storageUe 2 (s.blk.rowOf k)).slot k).alloc = true := by rw [slot_of (storageUe_wicks ..), ha]
    have hsnuffed := (moveRow_snuffed _ k).trans (snuff_snuffed hue)
    exact ⟨wickRowUe_gives k hr, (congrArg Slot.snuffed (slot_of (wickError_wicks ..))).trans hsnuffed⟩

end Sys2Proof.Proofs
end

section
/-!
SUPPORT. The registers of the Wick Engine: imports, releases and windows (R256, R257), and bounds (R246, R263).
-/
namespace Sys2Proof.Proofs

open Sys2Proof Sys2Proof.Machine Sys2Proof.Safety Sys2Proof.Laws

/-! ### Operations of WK_IMP_CMD -/

theorem impResult_vid (b : Block) (st c v : Nat) : (b.impResult st).vid c v = b.vid c v := rfl

theorem impResult_reg (b : Block) {st : Nat} (h : st < 2 ^ 32) : (b.impResult st).reg Reg.WK_IMP_RESULT = st :=
  (Block.setReg_self ..).trans (Nat.mod_eq_of_lt h)

/-- A choice between two values below a limit is below it. -/
theorem ite_lt {p : Prop} [Decidable p] {m n k : Nat} (hm : m < k) (hn : n < k) : (if p then m else n) < k := by
  split
  · exact hm
  · exact hn

theorem importStatus_lt (b : Block) (r : Nat) : b.importStatus r < 2 ^ 32 := by
  unfold Block.importStatus
  extract_lets c v
  exact ite_lt (by decide) (ite_lt (by decide) (ite_lt (by decide) (ite_lt (by decide) (by decide))))

theorem releaseStatus_lt (b : Block) : b.releaseStatus < 2 ^ 32 := by
  unfold Block.releaseStatus
  extract_lets c v
  exact ite_lt (by decide) (ite_lt (by decide) (ite_lt (by decide) (ite_lt (by decide) (by decide))))

theorem doImport_ok {b : Block} {r k : Nat} (h : b.importStatus r = 0) (hk : b.impSlot? = some k) :
    b.doImport r = (b.setVid b.impCtx b.impVid (.imported k r)).impResult 0 := by
  unfold Block.doImport
  simp only [hk, h, if_true]

theorem doImport_refused {b : Block} {r : Nat} (h : b.importStatus r ≠ 0) : b.doImport r = b.impResult (b.importStatus r) := by
  unfold Block.doImport
  cases b.impSlot? with
  | none => rfl
  | some k => exact if_neg h

theorem setWindow_some {b : Block} {k : Nat} (on : Bool) (hk : b.impSlot? = some k) :
    b.setWindow on = (b.setSlot k { b.slot k with window := on }).impResult 0 := by
  unfold Block.setWindow
  rw [hk]

theorem setWindow_none {b : Block} (on : Bool) (hk : b.impSlot? = none) : b.setWindow on = b.impResult 0x13 := by
  unfold Block.setWindow
  rw [hk]

/-- A row of WK_IMP_CMD, with no operation under way, does its operation (R256). -/
theorem gives_of_impOp {row : Instr} {s : State} {path : Nat} {f : Block → Block} {b : Block}
    (hrow : exec row s = s.write path Reg.WK_IMP_CMD fun b => b.impOp path f) (ht : Takes s path Reg.WK_IMP_CMD)
    (hidle : s.blk.impBusy = 0) (hf : f s.blk = b) : Gives row s b := by
  unfold Gives
  rw [hrow, write_takes ht, Block.impOp, if_neg (by simp [hidle]), hf]

/-- A row of WK_IMP_CMD while an operation is under way is an access error (R256). -/
theorem gives_of_impBusy {row : Instr} {s : State} {path : Nat} {f : Block → Block}
    (hrow : exec row s = s.write path Reg.WK_IMP_CMD fun b => b.impOp path f) (ht : Takes s path Reg.WK_IMP_CMD)
    (hbusy : s.blk.impBusy ≠ 0) : Gives row s (s.blk.pageErr path Reg.WK_IMP_CMD) := by
  unfold Gives
  rw [hrow, write_takes ht, Block.impOp, if_pos hbusy]

theorem windowOn_gives {s : State} {path : Nat} (ht : Takes s path Reg.WK_IMP_CMD) (hidle : s.blk.impBusy = 0) :
    Gives (.windowOn path) s (s.blk.setWindow true) := gives_of_impOp rfl ht hidle rfl

theorem windowOff_gives {s : State} {path : Nat} (ht : Takes s path Reg.WK_IMP_CMD) (hidle : s.blk.impBusy = 0) :
    Gives (.windowOff path) s (s.blk.setWindow false) := gives_of_impOp rfl ht hidle rfl

/-! ### Bounds -/

theorem bound_of {a b : Block} {k : Nat} (h : Part.same .wicks a b) : b.bound k = a.bound k := by
  unfold Block.bound
  rw [h.2.2.1]

theorem pageErr_wicks (b : Block) (path off : Nat) : Part.same .wicks b (b.pageErr path off) :=
  agree_of_keeps (ps := [.regs, .events]) (Block.pageErr_keeps (sub_refl _) (Keeps.refl _ _)) (by decide) .wicks (by decide)

theorem bndCommit_pair {b : Block} {path v p c : Nat} {y : Bound} (hy : y = b.stagedBound path ((b.bound b.bndSel).clearFlags v))
    (hp : (b.unstagePath path isBndReg).slotOf y.ctx y.prod = some p) (hc : (b.unstagePath path isBndReg).slotOf y.ctx y.cons = some c)
    (ho : (b.ctx y.ctx).st = .opn) (hne : p ≠ c) :
    b.bndCommit path v = (b.unstagePath path isBndReg).setBound b.bndSel { y with en := true, prodSlot := p, consSlot := c } := by
  subst hy
  unfold Block.bndCommit
  simp only [hp, hc]
  exact if_pos ⟨ho, hne⟩

/-- A bound whose producer names nothing is refused; the staged values are consumed all the same (log entry 46). -/
theorem bndCommit_refused {b : Block} {path v : Nat} {y : Bound} (hy : y = b.stagedBound path ((b.bound b.bndSel).clearFlags v))
    (hp : (b.unstagePath path isBndReg).slotOf y.ctx y.prod = none) :
    b.bndCommit path v
      = ((b.unstagePath path isBndReg).setBound b.bndSel { (b.bound b.bndSel).clearFlags v with en := false }).pageErr path
          Reg.WK_BND_CTL := by
  subst hy
  unfold Block.bndCommit
  simp only [hp]

theorem boundCommit_gives {s : State} {path : Nat} (v : BitVec 32) (ht : Takes s path Reg.WK_BND_CTL) :
    Gives (.boundCommit path v) s (s.blk.bndCommit path v.toNat) := write_takes ht

theorem boundDisable_gives {s : State} {path : Nat} (v : BitVec 32) (ht : Takes s path Reg.WK_BND_CTL) :
    Gives (.boundDisable path v) s (s.blk.bndDisable v.toNat) := write_takes ht

/-- Settles O37: each operation of WK_IMP_CMD by its status, an operation under way by its access error, and a write of WK_BND_CTL by
what it names. A refused bound consumes the staged values by log entry 46. -/
theorem wickRegisterRows : Obligations.WickRegisterRows := by
  unfold Obligations.WickRegisterRows
  intro s path
  refine ⟨fun ht hidle => ⟨?_, ?_, ?_, ?_, ?_, ?_⟩, fun ht hbusy r => gives_of_impBusy rfl ht hbusy, fun ht => ⟨?_, ?_, ?_⟩⟩
  · intro r k hst hk
    refine ⟨gives_of_impOp rfl ht hidle (doImport_ok hst hk), ?_, impResult_reg _ (by decide)⟩
    rw [impResult_vid, Block.setVid_self]
  · intro r hst
    exact ⟨gives_of_impOp rfl ht hidle (doImport_refused hst), impResult_reg _ (importStatus_lt ..)⟩
  · intro hst
    refine ⟨gives_of_impOp rfl ht hidle (if_pos hst), ?_, impResult_reg _ (by decide)⟩
    rw [impResult_vid, freeVid_vid]
  · intro hst
    exact ⟨gives_of_impOp rfl ht hidle (if_neg hst), impResult_reg _ (releaseStatus_lt _)⟩
  · intro k hk
    have hon := windowOn_gives ht hidle
    have hoff := windowOff_gives ht hidle
    rw [setWindow_some _ hk] at hon hoff
    exact ⟨⟨hon, congrArg Slot.window (Block.setSlot_self ..), impResult_reg _ (by decide)⟩,
      hoff, congrArg Slot.window (Block.setSlot_self ..), impResult_reg _ (by decide)⟩
  · intro hk
    have hon := windowOn_gives ht hidle
    have hoff := windowOff_gives ht hidle
    rw [setWindow_none _ hk] at hon hoff
    exact ⟨⟨hon, impResult_reg _ (by decide)⟩, hoff, impResult_reg _ (by decide)⟩
  · intro v y p c hy hp hc ho hne
    have hg := boundCommit_gives v ht
    rw [bndCommit_pair hy hp hc ho hne] at hg
    exact ⟨hg, Block.setBound_self ..⟩
  · intro v y hy hp
    have hg := boundCommit_gives v ht
    rw [bndCommit_refused hy hp] at hg
    exact ⟨hg, congrArg Bound.en ((bound_of (pageErr_wicks ..)).trans (Block.setBound_self ..))⟩
  · intro v
    exact ⟨boundDisable_gives v ht, Block.setBound_self ..⟩

end Sys2Proof.Proofs
end

section
/-!
SUPPORT. The commands that speak of pages ahead of their use, PREFETCH and ADVISE (R292, R293), and TIMESTAMP (R118).
-/
namespace Sys2Proof.Proofs

open Sys2Proof Sys2Proof.Machine Sys2Proof.Safety Sys2Proof.Laws

theorem decided_phase {s : State} {q i opc : Nat} {c : Cmd} (h : Decided s q i opc c) : c.phase = .decided := by
  obtain ⟨_, _, _, hph, _⟩ := h
  exact hph

theorem underway_phase {s : State} {q i opc : Nat} {c : Cmd} (h : Underway s q i opc c) : c.phase = .running := by
  obtain ⟨_, _, _, hph, _⟩ := h
  exact hph

/-- A command that is set running runs. -/
theorem setRunning_inPhase {b : Block} {q i : Nat} {c : Cmd} (hc : b.cmd? q i = some c) : InPhase q i .running (b.setRunning q i) :=
  ⟨_, setRunning_cmd hc, rfl⟩

/-! ### PREFETCH -/

/-- A PREFETCH ends with OK, unless it waits for pages (R292). -/
def prefetchSettled (b : Block) (q i : Nat) : Block := if b.faulting (.cmd q i) then b else b.endCmd q i 0

theorem prefetchSettled_quiet {b : Block} {q i : Nat} (h : b.faulting (.cmd q i) = false) : prefetchSettled b q i = b.endCmd q i 0 :=
  if_neg (by simp [h])

theorem prefetchSettled_faulting {b : Block} {q i : Nat} (h : b.faulting (.cmd q i) = true) : prefetchSettled b q i = b := if_pos h

theorem prefetch_gives_underway {s : State} {q i a len : Nat} {c : Cmd} (hr : Runs s) (hu : Underway s q i 0x24 c)
    (hop : c.op = .prefetch a len) : Gives (.prefetch q i) s (prefetchSettled s.blk q i) := by
  refine gives_of_underway rfl hr hu ?_
  simp only [hop, underway_phase hu, if_true]
  rfl

theorem prefetch_gives_decided {s : State} {q i a len : Nat} {c : Cmd} (hr : Runs s) (hd : Decided s q i 0x24 c)
    (hop : c.op = .prefetch a len) :
    Gives (.prefetch q i) s (prefetchSettled ((s.blk.hostPages c.ctx a len).foldl
      (fun b p => b.startFault c.ctx p false 1 [.cmd q i] (.cmd q i)) (s.blk.setRunning q i)) q i) := by
  refine gives_of_decided rfl hr hd ?_
  simp only [hop, decided_phase hd, reduceCtorEq, if_false]
  rfl

/-! ### ADVISE -/

theorem advise_gives {s : State} {q i advice a len : Nat} {c : Cmd} (hr : Runs s) (hd : Decided s q i 0x25 c)
    (hop : c.op = .advise advice a len) :
    Gives (.advise q i) s ((if advice = 1 then (s.blk.count Reg.ZT_ADVISE 15 0 1).willNeed c a len
      else s.blk.count Reg.ZT_ADVISE 15 0 1).endCmd q i 0) := by
  refine gives_of_decided rfl hr hd ?_
  simp only [hop]

/-- WILL_NEED of pages that are all in device memory has nothing to ask for. -/
theorem willNeed_none {b : Block} {c : Cmd} {a len : Nat} (h : b.hostPages c.ctx a len = []) : b.willNeed c a len = b := by
  unfold Block.willNeed
  rw [h]
  rfl

theorem count_frame (b : Block) (a hi lo k : Nat) : agreeBut [.regs] b (b.count a hi lo k) :=
  agree_of_keeps (Block.count_keeps (sub_refl _) (Keeps.refl _ _)) (by decide)

/-! ### TIMESTAMP -/

/-- TIMESTAMP samples both values at its start and writes them where memory is at rest. -/
theorem timestamp_gives {s : State} {q i a t : Nat} {c : Cmd} {b b' : Block} (hr : Runs s) (hd : Decided s q i 0x38 c)
    (hop : c.op = .timestamp a) (ht : t = s.blk.ns + s.blk.cadence * 2 ^ 64)
    (hb : b = (s.blk.modCmd q i fun c => { c with sample := t }).touch c.ctx a (some (.cmd q i))) (hrest : AtRest b)
    (hw : b.writeVa c.ctx a (leBytes 8 (t % 2 ^ 64) ++ leBytes 8 (t / 2 ^ 64)) = .ok b') :
    Gives (.timestamp q i) s (b'.endCmd q i 0) := by
  refine gives_of_decided rfl hr hd ?_
  simp only [hop, decided_phase hd, reduceCtorEq, if_false, ← ht, ← hb, access_ok hrest hw]

/-- Settles O22: PREFETCH by whether it still waits for pages, ADVISE by its advice, and TIMESTAMP by its write. -/
theorem hintCommands : Obligations.HintCommands := by
  unfold Obligations.HintCommands
  intro s q i c hr
  refine ⟨?_, ?_, ?_, ?_, ?_, ?_⟩
  · intro a len hu hop hquiet
    have hg := prefetch_gives_underway hr hu hop
    rw [prefetchSettled_quiet hquiet] at hg
    exact ⟨hg, underway_ended hu (same_refl _ _)⟩
  · intro a len hd hop hnone hquiet
    have hg := prefetch_gives_decided hr hd hop
    rw [hnone, List.foldl_nil, prefetchSettled_quiet hquiet] at hg
    obtain ⟨hc, _⟩ := hd
    exact ⟨hg, running_ended (setRunning_inPhase hc)⟩
  · intro a len b hd hop hb hfault
    have hg := prefetch_gives_decided hr hd hop
    rwa [← hb, prefetchSettled_faulting hfault] at hg
  · intro advice a len hd hop hne
    have hg := advise_gives hr hd hop
    rw [if_neg hne] at hg
    exact ⟨hg, decided_ended hd (count_frame s.blk Reg.ZT_ADVISE 15 0 1 .queues (by decide))⟩
  · intro a len hd hop
    have hg := advise_gives hr hd hop
    rw [if_pos rfl] at hg
    refine ⟨hg, fun hnone => ?_⟩
    rw [willNeed_none hnone]
    exact decided_ended hd (count_frame s.blk Reg.ZT_ADVISE 15 0 1 .queues (by decide))
  · intro a t b b' hd hop ht hb hrest hw
    refine ⟨timestamp_gives hr hd hop ht hb hrest hw, ?_⟩
    obtain ⟨hc, _, _, hph, _⟩ := hd
    have hsampled : InPhase q i .decided (s.blk.modCmd q i fun c => { c with sample := t }) :=
      ⟨_, modCmd_self (fun _ => ⟨rfl, rfl⟩) hc, hph⟩
    subst hb
    obtain ⟨x, hx, hxph⟩ := inPhase_of (writeVa_queues hw) (inPhase_of (touch_queues ..) hsampled)
    exact endCmd_ended hx (by simp [hxph])

end Sys2Proof.Proofs
end

section
/-!
SUPPORT. The kernel commands on mappings: MAP (R62, R273, R276), UNMAP (R295) and INV_RANGE (R294).
-/
namespace Sys2Proof.Proofs

open Sys2Proof Sys2Proof.Machine Sys2Proof.Safety Sys2Proof.Laws

/-! ### What the shared operations leave as it was -/

theorem map_of {a b : Block} {id : Nat} (h : Part.same .mappings a b) : b.map? id = a.map? id := by
  unfold Block.map?
  rw [h.1]

/-- The advance of the epoch reaches RC_EPOCH, the engines and the stamps alone (R421, R422). -/
theorem bumpEpoch_frame (b : Block) : agreeBut [.regs, .engines, .stamps] b b.bumpEpoch :=
  agree_of_keeps (Block.bumpEpoch_keeps (sub_refl _) (Keeps.refl _ _)) (by decide)

/-- The end of a command after an advance of the epoch. -/
theorem bumped_ended {b : Block} {q i st : Nat} (h : InPhase q i .running b) : HasEnded q i st (b.bumpEpoch.endCmd q i st) :=
  running_ended (inPhase_of (bumpEpoch_frame b .queues (by decide)) h)

theorem bumped_map (b : Block) (q i st id : Nat) : (b.bumpEpoch.endCmd q i st).map? id = b.map? id :=
  (map_of (endCmd_frame _ q i st .mappings (by decide))).trans (map_of (bumpEpoch_frame b .mappings (by decide)))

/-! ### MAP -/

theorem map_gives {s : State} {q i : Nat} {c : Cmd} {m : MapP} (hr : Runs s) (hd : Decided s q i 0x80 c) (hop : c.op = .map m)
    (ho : OpenFor s m.ctx) : Gives (.map q i) s (s.blk.doMap c m) := by
  refine gives_of_decided rfl hr hd ?_
  simp only [hop, kernel_open (congrArg Op.target hop) ho]

theorem doMap_overlap {b : Block} {c : Cmd} {m : MapP}
    (h : (b.maps.any fun x => x.ctx = m.ctx ∧ overlaps x.va x.len m.va m.len) = true) : b.doMap c m = b.endCmd c.q c.i 0x12 := if_pos h

theorem doMap_short {b : Block} {c : Cmd} {m : MapP}
    (hfree : (b.maps.any fun x => x.ctx = m.ctx ∧ overlaps x.va x.len m.va m.len) = false) (hats : (b.ctx m.ctx).ats = false)
    (hshort : (b.pool (b.field Reg.ZT_CTL 11 8)).length < b.tablesNeeded m.ctx m.len m.backed) :
    b.doMap c m = b.endCmd c.q c.i 0x14 := by
  unfold Block.doMap
  rw [if_neg (Bool.eq_false_iff.1 hfree), if_pos ⟨by simp [hats], hshort⟩]

/-- The tables of a new mapping (R276): the frame of its record, and the block that has given the frames. -/
def tablesFor (b : Block) (m : MapP) : Nat × Block :=
  let ats := (b.ctx m.ctx).ats
  let r := if ats then (0, b) else b.takeRecord m.ctx
  (r.1, if ats ∨ m.backed then r.2 else r.2.takeTables m.ctx b.nextMap (b.field Reg.ZT_CTL 11 8) (pageFrames m.len))

/-- The mapping that MAP adds, with its record in frame `f`. -/
def mappingFor (m : MapP) (id f : Nat) : Mapping :=
  { id := id, ctx := m.ctx, va := m.va, len := m.len, rd := m.rd, wr := m.wr, at_ := m.at_, sharedRo := m.sharedRo
    golden := m.golden, goldenAddr := m.goldenAddr, backed := m.backed, backing := m.backing, recFrame := f }

/-- The block in which MAP has added its mapping. -/
def mapAdded (b : Block) (m : MapP) : Block :=
  let r := tablesFor b m
  { r.2 with maps := r.2.maps ++ [mappingFor m b.nextMap r.1], nextMap := b.nextMap + 1 }

theorem doMap_adds {b : Block} {c : Cmd} {m : MapP}
    (hfree : (b.maps.any fun x => x.ctx = m.ctx ∧ overlaps x.va x.len m.va m.len) = false)
    (hroom : (b.ctx m.ctx).ats = true ∨ b.tablesNeeded m.ctx m.len m.backed ≤ (b.pool (b.field Reg.ZT_CTL 11 8)).length) :
    b.doMap c m = (mapAdded b m).endCmd c.q c.i 0 := by
  have hgo : ¬((!(b.ctx m.ctx).ats) = true ∧ (b.pool (b.field Reg.ZT_CTL 11 8)).length < b.tablesNeeded m.ctx m.len m.backed) := by
    rintro ⟨hats, hshort⟩
    rcases hroom with hroom | hroom
    · simp [hroom] at hats
    · omega
  unfold Block.doMap
  rw [if_neg (Bool.eq_false_iff.1 hfree), if_neg hgo]
  rfl

theorem tablesFor_queues (b : Block) (m : MapP) : Part.same .queues b (tablesFor b m).2 := by
  refine agree_of_keeps (m := 134219904) (ps := [.regs, .events, .frames]) ?_ (by decide) .queues (by decide)
  unfold tablesFor
  extract_lets ats r
  have hrec : Keeps 134219904 b r.2 :=
    Keeps.choice2 (fun _ => Keeps.refl _ _) fun _ => Block.takeRecord_keeps (sub_refl _) (Keeps.refl _ _)
  exact Keeps.choice (fun _ => hrec) fun _ => Block.takeTables_keeps (sub_refl _) hrec

theorem mapAdded_queues (b : Block) (m : MapP) : Part.same .queues b (mapAdded b m) := tablesFor_queues b m

theorem mem_mapAdded (b : Block) (m : MapP) : mappingFor m b.nextMap (tablesFor b m).1 ∈ (mapAdded b m).maps :=
  List.mem_append_right _ (List.mem_singleton_self _)

/-! ### UNMAP -/

theorem unmap_gives_none {s : State} {q i t va : Nat} {c : Cmd} (hr : Runs s) (hd : Decided s q i 0x81 c) (hop : c.op = .unmap t va)
    (ho : OpenFor s t) (hnone : (s.blk.maps.find? fun m => m.ctx = t ∧ m.va = va) = none) :
    Gives (.unmap q i) s (s.blk.endCmd q i 0x13) := by
  refine gives_of_decided rfl hr hd ?_
  simp only [hop, kernel_open (congrArg Op.target hop) ho, decided_phase hd, reduceCtorEq, if_false, hnone]

/-- UNMAP starts: it names its mapping, which takes no new pins (R295). -/
theorem unmap_gives_some {s : State} {q i t va : Nat} {c : Cmd} {m : Mapping} (hr : Runs s) (hd : Decided s q i 0x81 c)
    (hop : c.op = .unmap t va) (ho : OpenFor s t) (hm : (s.blk.maps.find? fun m => m.ctx = t ∧ m.va = va) = some m) :
    Gives (.unmap q i) s (((s.blk.modCmd q i fun c => { c with phase := .running, left := [(m.id, 0)] }).stopPins [m.id]).tryUnmap
      c m.id) := by
  refine gives_of_decided rfl hr hd ?_
  simp only [hop, kernel_open (congrArg Op.target hop) ho, decided_phase hd, reduceCtorEq, if_false, hm]

theorem unmap_gives_underway {s : State} {q i t va id n : Nat} {l : List (Nat × Nat)} {c : Cmd} (hr : Runs s)
    (hu : Underway s q i 0x81 c) (hop : c.op = .unmap t va) (ho : OpenFor s t) (hleft : c.left = (id, n) :: l) :
    Gives (.unmap q i) s (s.blk.tryUnmap c id) := by
  refine gives_of_underway rfl hr hu ?_
  simp only [hop, kernel_open (congrArg Op.target hop) ho, underway_phase hu, if_true, hleft, List.map_cons, List.headD_cons]

theorem tryUnmap_pinned {b : Block} {c : Cmd} {id : Nat} {m : Mapping} (hm : b.map? id = some m) (hp : m.pins ≠ 0) :
    b.tryUnmap c id = b := by
  unfold Block.tryUnmap
  rw [hm]
  exact if_pos (.inl hp)

theorem tryUnmap_ends {b : Block} {c : Cmd} {id : Nat} {m : Mapping} (hm : b.map? id = some m) (hp : m.pins = 0)
    (hstill : m.movesIn 0 (2 ^ 65) = false) (hend : ((b.unmapWork id 2).unmapEnd id).1 = true) :
    b.tryUnmap c id = ((b.unmapWork id 2).unmapEnd id).2.bumpEpoch.endCmd c.q c.i 0 := by
  have hgo : ¬(m.pins ≠ 0 ∨ m.movesIn 0 (2 ^ 65) = true) := not_or.2 ⟨fun hne => hne hp, Bool.eq_false_iff.1 hstill⟩
  unfold Block.tryUnmap
  rw [hm]
  dsimp only
  rw [if_neg hgo, if_pos hend]

/-- A mapping whose entries have left is gone (R295 step 4). -/
theorem unmapEnd_map {b : Block} {id : Nat} (hend : (b.unmapEnd id).1 = true) : (b.unmapEnd id).2.map? id = none := by
  unfold Block.unmapEnd at hend ⊢
  split at hend
  · cases hend
  · rw [if_neg ‹_›]
    refine List.find?_eq_none.2 fun m hm => ?_
    simpa using (List.mem_filter.1 hm).2

/-- An UNMAP that ends has taken its mapping away. -/
theorem unmapped_leaves {b : Block} {q i id : Nat} {r : Bool × Block} {c' : Cmd} (hr : r = (b.unmapWork id 2).unmapEnd id)
    (hend : r.1 = true) (hc : r.2.cmd? q i = some c') (hph : c'.phase = .running) :
    HasEnded q i 0 (r.2.bumpEpoch.endCmd q i 0) ∧ (r.2.bumpEpoch.endCmd q i 0).map? id = none := by
  refine ⟨bumped_ended ⟨c', hc, hph⟩, ?_⟩
  rw [bumped_map]
  subst hr
  exact unmapEnd_map hend

/-! ### INV_RANGE -/

theorem invRange_gives_underway {s : State} {q i t va len : Nat} {c : Cmd} (hr : Runs s) (hu : Underway s q i 0x82 c)
    (hop : c.op = .invRange t va len) (ho : OpenFor s t) :
    Gives (.invRange q i) s (s.blk.tryInvRange c t va len (c.left.map (·.1))) := by
  refine gives_of_underway rfl hr hu ?_
  simp only [hop, kernel_open (congrArg Op.target hop) ho, underway_phase hu, if_true]

/-- INV_RANGE ends where its mappings hold no pin, none of their pages in the range is on the move, and no entry is left (R294). -/
theorem tryInvRange_ends {b b' : Block} {c : Cmd} {t va len : Nat} {ids : List Nat}
    (hfree : ∀ m ∈ b.maps, m.id ∈ ids → m.pins = 0 ∧ m.movesIn va (va + len) = false)
    (hb' : b' = ids.foldl (fun b id => b.demote id 3 va (va + len)) (b.dropRange t va len)) (hleft : ids.any b'.entriesLeft = false) :
    b.tryInvRange c t va len ids = (b'.takePins ids).bumpEpoch.endCmd c.q c.i 0 := by
  have hgo : ¬(b.maps.any fun m => ids.contains m.id ∧ (m.pins ≠ 0 ∨ m.movesIn va (va + len))) = true := by
    intro h
    obtain ⟨m, hm, hx⟩ := List.any_eq_true.1 h
    simp only [List.contains_eq_mem, decide_eq_true_eq] at hx
    obtain ⟨hp, hstill⟩ := hfree m hm hx.1
    simp [hp, hstill] at hx
  unfold Block.tryInvRange
  rw [if_neg hgo]
  dsimp only
  rw [← hb', if_neg (by simp [hleft])]

theorem takePins_queues (b : Block) (ids : List Nat) : Part.same .queues b (b.takePins ids) := ⟨rfl, rfl⟩

/-- The command of an INV_RANGE that touches no mapping. -/
theorem invRange_gives_untouched {s : State} {q i t va len : Nat} {c : Cmd} {b : Block} (hr : Runs s) (hd : Decided s q i 0x82 c)
    (hop : c.op = .invRange t va len) (ho : OpenFor s t)
    (hnone : ∀ m ∈ s.blk.maps, m.ctx = t → ¬(m.va < va + len ∧ va < m.va + m.len))
    (hb : b = (s.blk.modCmd q i fun c => { c with phase := .running, left := [] }).stopPins []) :
    Gives (.invRange q i) s (((b.dropRange t va len).takePins []).bumpEpoch.endCmd c.q c.i 0) := by
  have hids : (s.blk.maps.filter fun m => m.ctx = t ∧ m.va < va + len ∧ va < m.va + m.len) = [] :=
    List.filter_eq_nil_iff.2 fun m hm => by
      simp only [decide_eq_true_eq, not_and]
      exact fun hctx hlo hhi => hnone m hm hctx ⟨hlo, hhi⟩
  refine gives_of_decided rfl hr hd ?_
  simp only [hop, kernel_open (congrArg Op.target hop) ho, decided_phase hd, reduceCtorEq, if_false, hids, List.map_nil, ← hb]
  exact tryInvRange_ends (fun _ _ h => nomatch h) rfl rfl

/-- Settles O25: MAP by its overlaps and its tables, UNMAP by its mapping and the pins of it, INV_RANGE by its pins and entries. That
an UNMAP of nothing ends with ERR_HANDLE here too is log entry 104. -/
theorem mappingCommands : Obligations.MappingCommands := by
  unfold Obligations.MappingCommands
  rintro s _ _ c hr rfl rfl
  refine ⟨?_, ?_, ?_, ?_, ?_, ?_, ?_, ?_, ?_⟩
  · intro m hd hop ho hover
    have hg := map_gives hr hd hop ho
    rw [doMap_overlap hover] at hg
    exact leaves_ended hd hg
  · intro m hd hop ho hfree hats hshort
    have hg := map_gives hr hd hop ho
    rw [doMap_short hfree hats hshort] at hg
    exact leaves_ended hd hg
  · intro m hd hop ho hfree hroom
    have hg := map_gives hr hd hop ho
    rw [doMap_adds hfree hroom] at hg
    refine ⟨_, hg, decided_ended hd (mapAdded_queues ..), mappingFor m s.blk.nextMap (tablesFor s.blk m).1, ?_,
      rfl, rfl, rfl, rfl, rfl, rfl, rfl, rfl, rfl, rfl⟩
    rw [← (endCmd_frame (mapAdded s.blk m) c.q c.i 0 .mappings (by decide)).1]
    exact mem_mapAdded ..
  · intro t va hd hop ho hnone
    exact leaves_ended hd (unmap_gives_none hr hd hop ho hnone)
  · intro t va m b m' r c' hd hop ho hm hb hm' hp hstill hrdef hend hc hph
    have hg := unmap_gives_some hr hd hop ho hm
    rw [← hb, tryUnmap_ends hm' hp hstill (hrdef ▸ hend), ← hrdef] at hg
    exact ⟨hg, unmapped_leaves hrdef hend hc hph⟩
  · intro t va m id l n r c' hu hop ho hleft hm hp hstill hrdef hend hc hph
    have hg := unmap_gives_underway hr hu hop ho hleft
    rw [tryUnmap_ends hm hp hstill (hrdef ▸ hend), ← hrdef] at hg
    exact ⟨hg, unmapped_leaves hrdef hend hc hph⟩
  · intro t va m id n l hu hop ho hleft hm hp
    have hg := unmap_gives_underway hr hu hop ho hleft
    rwa [tryUnmap_pinned hm hp] at hg
  · intro t va len b c' hu hop ho hfree hb hleft hc hph
    have hg := invRange_gives_underway hr hu hop ho
    rw [tryInvRange_ends hfree hb hleft] at hg
    exact ⟨hg, bumped_ended (inPhase_of (takePins_queues ..) ⟨c', hc, hph⟩)⟩
  · intro t va len hd hop ho hnone
    refine ⟨_, invRange_gives_untouched hr hd hop ho hnone rfl, ?_⟩
    obtain ⟨hc, _⟩ := hd
    exact bumped_ended ⟨_, modCmd_self (fun _ => ⟨rfl, rfl⟩) hc, rfl⟩

end Sys2Proof.Proofs
end

section
/-!
SUPPORT. The frame completion ring (R288 to R291), the boot map (R272, R484) and the commit of a descriptor table (R229).
-/
namespace Sys2Proof.Proofs

open Sys2Proof Sys2Proof.Machine Sys2Proof.Safety Sys2Proof.Laws

/-! ### Entries of the ring -/

/-- Without faults no page waits for its entry. -/
theorem landPages_idle {b : Block} (h : b.faults = []) : b.landPages = b := by
  unfold Block.landPages
  rw [h]
  rfl

theorem writeEntries_none {b : Block} (h : b.fcrWait = []) : b.writeEntries = b := by
  unfold Block.writeEntries
  rw [h, List.length_nil]
  rfl

/-- Entries that wait behind a write that is stuck stay where they are (R291). -/
theorem writeEntries_stuck {b : Block} (h : b.fcrStuck = true) : b.writeEntries = b := by
  have hentry : b.writeEntry = b := by
    unfold Block.writeEntry
    split
    · rfl
    · exact if_pos h
  unfold Block.writeEntries
  cases b.fcrWait.length with
  | zero => rfl
  | succ n =>
    unfold Block.writeEntriesN
    rw [hentry, if_neg (Nat.lt_irrefl _)]

theorem writeVa_frame {b b' : Block} {t a : Nat} {xs : List Byte} (h : b.writeVa t a xs = .ok b') :
    agreeBut [.dev, .host, .mappings, .coherence, .poison] b b' :=
  agree_of_keeps (Block.writeVa_keeps (sub_refl _) (Keeps.refl _ _) h) (by decide)

theorem faults_of {a b : Block} (h : Part.same .translation a b) : b.faults = a.faults := by
  obtain ⟨_, _, _, _, _, hfaults, _⟩ := h
  exact hfaults.symm

theorem fcrN_of {a b : Block} (h : Part.same .regs a b) : b.fcrN = a.fcrN := by
  unfold Block.fcrN
  rw [reg_of h]

/-- The block in which the entry that waited in `b` stands in the ring, its bytes written in `b'`. -/
def entryWritten (b b' : Block) : Block :=
  Block.setReg { b' with fcrWait := [] } Reg.ZT_FCR_TAIL ((b.reg Reg.ZT_FCR_TAIL + 1) % (2 * b.fcrN))

/-- The one entry that waits is written where the ring has room, and TAIL passes it (R288, R290). -/
theorem writeEntries_one {b b' : Block} {x : FcrEnt} (hx : b.fcrWait = [x]) (hfree : b.fcrStuck = false) (hroom : b.fcrRoom = true)
    (hw : b.writeVa 0 (b.fcrBase + b.reg Reg.ZT_FCR_TAIL % b.fcrN * 16) x.bytes = .ok b') :
    b.writeEntries = entryWritten b b' := by
  have hentry : b.writeEntry = entryWritten b b' := by
    unfold Block.writeEntry entryWritten
    simp only [hx, hfree, hroom, hw, Bool.not_true, Bool.false_eq_true, if_false, fcrN_of (writeVa_frame hw .regs (by decide))]
  unfold Block.writeEntries
  rw [hx]
  show b.writeEntriesN 1 = _
  unfold Block.writeEntriesN
  rw [hentry, hx]
  exact if_pos Nat.zero_lt_one

theorem frameRingEntryWrite_gives {s : State} (hr : Runs s) : Gives .frameRingEntryWrite s s.blk.writeEntries.landPages :=
  core_runs (f := fun b => b.writeEntries.landPages) hr

/-! ### The registers of the ring -/

theorem ztFcrHeadWrite_gives {s : State} {path : Nat} (v : BitVec 32) (ht : Takes s path Reg.ZT_FCR_HEAD) :
    Gives (.ztFcrHeadWrite path v) s (s.blk.fcrHeadWrite path v.toNat) := write_takes ht

theorem ztFcrSizeWrite_gives {s : State} {path : Nat} (v : BitVec 32) (ht : Takes s path Reg.ZT_FCR_SIZE) :
    Gives (.ztFcrSizeWrite path v) s (s.blk.fcrSizeWrite path v.toNat) := write_takes ht

/-- The ring with HEAD at `v`: what held its writer back is over (R290, R291). -/
def headMoved (b : Block) (v : Nat) : Block :=
  let b := b.setReg Reg.ZT_FCR_HEAD v
  { b with fcrStuck := false, fcrFull := b.fcrFull && !b.fcrRoom }

theorem headMoved_head (b : Block) {v : Nat} (h : v < 2 ^ 32) : (headMoved b v).reg Reg.ZT_FCR_HEAD = v :=
  (Block.setReg_self ..).trans (Nat.mod_eq_of_lt h)

theorem fcrHeadWrite_taken {b : Block} {path v : Nat}
    (h : headOkay b.fcrN (b.reg Reg.ZT_FCR_TAIL) (b.reg Reg.ZT_FCR_HEAD) (v % 2 ^ 21) = true) :
    b.fcrHeadWrite path v = (headMoved b (v % 2 ^ 21)).writeEntries.landPages := if_pos h

theorem fcrHeadWrite_refused {b : Block} {path v : Nat}
    (h : headOkay b.fcrN (b.reg Reg.ZT_FCR_TAIL) (b.reg Reg.ZT_FCR_HEAD) (v % 2 ^ 21) = false) :
    b.fcrHeadWrite path v = b.pageErr path Reg.ZT_FCR_HEAD := if_neg (Bool.eq_false_iff.1 h)

/-- The base that a write of ZT_FCR_SIZE commits: what its path has staged, else the base in force (R290, R473). -/
def fcrBaseFor (b : Block) (path : Nat) : Nat :=
  alignDown (b.stagedOr path Reg.ZT_FCR_BASE_LO (b.fcrBase % 2 ^ 32)) 4096
    + 2 ^ 32 * b.stagedOr path Reg.ZT_FCR_BASE_HI (b.fcrBase / 2 ^ 32)

/-- The ring of size `lg` at `base`, empty. -/
def ringFresh (b : Block) (path lg base : Nat) : Block :=
  { ((((b.unstagePath path fun a => a = Reg.ZT_FCR_BASE_LO ∨ a = Reg.ZT_FCR_BASE_HI).setReg Reg.ZT_FCR_SIZE lg).setReg
      Reg.ZT_FCR_TAIL 0).setReg Reg.ZT_FCR_HEAD 0) with fcrBase := base, fcrStuck := false, fcrFull := false }

theorem ringFresh_size (b : Block) (path base : Nat) {lg : Nat} (h : lg < 2 ^ 32) :
    (ringFresh b path lg base).reg Reg.ZT_FCR_SIZE = lg := by
  show (Block.setReg _ Reg.ZT_FCR_HEAD 0).reg Reg.ZT_FCR_SIZE = lg
  rw [Block.setReg_other _ _ _ _ (by decide), Block.setReg_other _ _ _ _ (by decide), Block.setReg_self, Nat.mod_eq_of_lt h]

theorem ringFresh_tail (b : Block) (path lg base : Nat) : (ringFresh b path lg base).reg Reg.ZT_FCR_TAIL = 0 := by
  show (Block.setReg _ Reg.ZT_FCR_HEAD 0).reg Reg.ZT_FCR_TAIL = 0
  rw [Block.setReg_other _ _ _ _ (by decide), Block.setReg_self, Nat.zero_mod]

theorem ringFresh_head (b : Block) (path lg base : Nat) : (ringFresh b path lg base).reg Reg.ZT_FCR_HEAD = 0 := by
  show (Block.setReg _ Reg.ZT_FCR_HEAD 0).reg Reg.ZT_FCR_HEAD = 0
  rw [Block.setReg_self, Nat.zero_mod]

/-- A size that is not reserved: 0, or 12 to 24 (R290). -/
theorem fcrSizeWrite_size {b : Block} {path v : Nat} (hlg : v % 32 = 0 ∨ 12 ≤ v % 32 ∧ v % 32 ≤ 24) :
    b.fcrSizeWrite path v =
      if b.holdsFrames ∨ (v % 32 ≠ 0 ∧ fcrBaseFor b path % 2 ^ (v % 32) ≠ 0) then b.pageErr path Reg.ZT_FCR_SIZE
      else ringFresh b path (v % 32) (fcrBaseFor b path) := by
  have hgo : ¬(v % 32 ≠ 0 ∧ (v % 32 < 12 ∨ 24 < v % 32)) := by omega
  exact if_neg hgo

theorem fcrSizeWrite_held {b : Block} {path v : Nat} (hlg : v % 32 = 0 ∨ 12 ≤ v % 32 ∧ v % 32 ≤ 24) (h : b.holdsFrames = true) :
    b.fcrSizeWrite path v = b.pageErr path Reg.ZT_FCR_SIZE := (fcrSizeWrite_size hlg).trans (if_pos (.inl h))

theorem fcrSizeWrite_fresh {b : Block} {path v : Nat} (h : b.holdsFrames = false)
    (hlg : v % 32 = 0 ∨ 12 ≤ v % 32 ∧ v % 32 ≤ 24 ∧ fcrBaseFor b path % 2 ^ (v % 32) = 0) :
    b.fcrSizeWrite path v = ringFresh b path (v % 32) (fcrBaseFor b path) := by
  have hgo : ¬(b.holdsFrames = true ∨ (v % 32 ≠ 0 ∧ fcrBaseFor b path % 2 ^ (v % 32) ≠ 0)) := by
    rintro (hheld | ⟨hne, hbase⟩)
    · exact Bool.eq_false_iff.1 h hheld
    · exact hlg.elim hne fun hsize => hbase hsize.2.2
  exact (fcrSizeWrite_size (by omega)).trans (if_neg hgo)

/-! ### The boot map -/

theorem bootmapClear_gives {s : State} {path : Nat} (ht : Takes s path Reg.ZT_CTL) :
    Gives (.bootmapClear path) s (s.blk.clearBootmap path) := write_takes ht

theorem clearBootmap_clear {b : Block} {path : Nat} (h : b.bootmap = false) : b.clearBootmap path = b := if_pos (by rw [h]; rfl)

/-- The boot map goes: each entry that decides its pages becomes a mapping of context 0 (R484). -/
theorem clearBootmap_goes {b : Block} {path : Nat} (h : b.bootmap = true) (hst : b.st = .ready ∨ b.st = .run)
    (hpool : b.pool (b.field Reg.ZT_CTL 11 8) ≠ []) :
    b.clearBootmap path = (b.bootDeciders.foldl Block.convertBoot b).setField Reg.ZT_CTL 0 0 0 := by
  have hgo : ¬((b.st ≠ .ready ∧ b.st ≠ .run) ∨ (b.pool (b.field Reg.ZT_CTL 11 8)).isEmpty = true) := by
    rintro (⟨hready, hrun⟩ | hempty)
    · exact hst.elim hready hrun
    · exact hpool (List.isEmpty_iff.1 hempty)
  unfold Block.clearBootmap
  rw [if_neg (by simp [h]), if_neg hgo]

/-- Bit 0 of a register written 0 reads 0. -/
theorem setField_bit0 (b : Block) (a : Nat) : bit ((b.setField a 0 0 0).reg a) 0 = false := by
  have hword : (b.setField a 0 0 0).reg a = (b.reg a - b.reg a % 2) % 2 ^ 32 := by
    unfold Block.setField bits
    simp
  have heven : (b.reg a - b.reg a % 2) % 2 ^ 32 % 2 = 0 := by omega
  rw [hword]
  unfold bit
  rw [Nat.testBit_zero, heven]
  rfl

theorem ztBootEnt0Write_gives {s : State} {path : Nat} (v : BitVec 32) (ht : Takes s path Reg.ZT_BOOT_ENT0) :
    Gives (.ztBootEnt0Write path v) s (s.blk.bootCommit path v.toNat) := write_takes ht

theorem bootCommit_refused {b : Block} {path v : Nat} (h : b.bootWrites = false) :
    b.bootCommit path v = b.pageErr path Reg.ZT_BOOT_ENT0 := if_neg (Bool.eq_false_iff.1 h)

/-- A write of ZT_BOOT_ENT0 leaves the selected entry with its fields and the PPN staged before (R272). -/
theorem bootCommit_ent {b : Block} {path v : Nat} (h : b.bootWrites = true) :
    (b.bootCommit path v).bootEnt (b.field Reg.ZT_BOOT_SEL 5 0) = {
      valid := bit v 31, host := bit v 30, wr := bit v 29, rd := bit v 28, vpn := v % 2 ^ 18
      ppn := b.stagedOr path Reg.ZT_BOOT_ENT1 (b.bootEnt (b.field Reg.ZT_BOOT_SEL 5 0)).ppn } := by
  unfold Block.bootCommit
  rw [if_pos h]
  exact Tab.get_set_self ..

/-! ### Descriptor tables -/

theorem dtCountCommit_gives {s : State} {path : Nat} (v : BitVec 32) (ht : Takes s path Reg.DT_COUNT) :
    Gives (.dtCountCommit path v) s (s.blk.dtCommit path v.toNat) := write_takes ht

/-- The table of a context without work is committed (R229). -/
theorem dtCommit_idle {b : Block} {path v c lo hi : Nat} (hc : c = b.field Reg.DT_SEL 11 0) (hv : v % 2 ^ 17 ≤ 2 ^ 16)
    (hlo : lo = b.stagedOr path Reg.DT_BASE_LO ((b.ctx c).dtBase % 2 ^ 32))
    (hhi : hi = b.stagedOr path Reg.DT_BASE_HI ((b.ctx c).dtBase / 2 ^ 32))
    (hcmds : b.cmds.any (·.ctx = c) = false) (htasks : b.tasks.any (·.ctx = c) = false) :
    b.dtCommit path v = (b.unstagePath path fun a => a = Reg.DT_BASE_LO ∨ a = Reg.DT_BASE_HI).setCtx c
      { b.ctx c with dtBase := alignDown (hi * 2 ^ 32 + lo) 64, dtCount := v % 2 ^ 17 } := by
  have hidle : ¬(b.cmds.any (·.ctx = c) = true ∨ b.tasks.any (·.ctx = c) = true) :=
    not_or.2 ⟨Bool.eq_false_iff.1 hcmds, Bool.eq_false_iff.1 htasks⟩
  subst hc hlo hhi
  unfold Block.dtCommit
  dsimp only
  rw [if_neg (Nat.not_lt.2 hv)]
  exact if_neg hidle

/-- Settles O47: the ring by what waits for it and by what is written, the boot map by its state, DT_COUNT by its context. That an
entry write with nothing waiting changes nothing is log entry 2. -/
theorem frameRingRows : Obligations.FrameRingRows := by
  unfold Obligations.FrameRingRows
  intro s
  refine ⟨?_, ?_, ?_, ?_, ?_, ?_, ?_, ?_, ?_, ?_, ?_⟩
  · intro x b hr hx hfree hroom hfaults hw
    have hg := frameRingEntryWrite_gives hr
    have hstill : b.faults = [] := (faults_of (writeVa_frame hw .translation (by decide))).trans hfaults
    rw [writeEntries_one hx hfree hroom hw, landPages_idle (b := entryWritten s.blk b) hstill] at hg
    exact ⟨hg, rfl, Block.setReg_self ..⟩
  · intro hr hnone hfaults
    have hg := frameRingEntryWrite_gives hr
    rwa [writeEntries_none hnone, landPages_idle hfaults] at hg
  · intro path v b ht hok hb
    have hg := ztFcrHeadWrite_gives v ht
    rw [fcrHeadWrite_taken hok] at hg
    subst hb
    refine ⟨hg, fun hnone hfaults => ⟨?_, headMoved_head _ (by omega)⟩⟩
    rw [writeEntries_none (b := headMoved _ _) hnone, landPages_idle (b := headMoved _ _) hfaults] at hg
    exact hg
  · intro path v ht hok
    have hg := ztFcrHeadWrite_gives v ht
    rwa [fcrHeadWrite_refused hok] at hg
  · intro path v ht hlg hheld
    have hg := ztFcrSizeWrite_gives v ht
    rwa [fcrSizeWrite_held hlg hheld] at hg
  · intro path v base ht hfree hbase hlg
    have hg := ztFcrSizeWrite_gives v ht
    subst hbase
    rw [fcrSizeWrite_fresh hfree hlg] at hg
    exact ⟨hg, rfl, ringFresh_size _ _ _ (by omega), ringFresh_tail .., ringFresh_head ..⟩
  · intro path ht hmap hst hpool
    have hg := bootmapClear_gives ht
    rw [clearBootmap_goes hmap hst hpool] at hg
    exact ⟨hg, setField_bit0 ..⟩
  · intro path ht hmap
    have hg := bootmapClear_gives ht
    rwa [clearBootmap_clear hmap] at hg
  · intro path v ht hno
    have hg := ztBootEnt0Write_gives v ht
    rwa [bootCommit_refused hno] at hg
  · intro path v k ht hyes hk
    subst hk
    exact ⟨_, ztBootEnt0Write_gives v ht, bootCommit_ent hyes⟩
  · intro path v c lo hi ht hc hv hlo hhi hcmds htasks
    have hg := dtCountCommit_gives v ht
    rw [dtCommit_idle hc hv hlo hhi hcmds htasks] at hg
    exact ⟨hg, congrArg Ctx.dtBase (Block.setCtx_self ..), congrArg Ctx.dtCount (Block.setCtx_self ..)⟩

end Sys2Proof.Proofs
end

section
/-!
SUPPORT. Walks (R278, R279), answers of ATS (R280) and invalidations (R297, R298).
-/
namespace Sys2Proof.Proofs

open Sys2Proof Sys2Proof.Machine Sys2Proof.Safety Sys2Proof.Laws

/-! ### A fault queue at rest -/

/-- No fault holds an entry, and none waits for one (R281). -/
structure NoFaults (b : Block) : Prop where
  faults : b.faults = []
  waiting : b.faultWait = []

theorem NoFaults.of_same {a b : Block} (h : NoFaults a) (hs : Part.same .translation a b) : NoFaults b := by
  obtain ⟨_, _, _, _, _, hfaults, hwait, _⟩ := hs
  exact ⟨hfaults.symm.trans h.faults, hwait.symm.trans h.waiting⟩

theorem startDma_idle {b : Block} (h : b.faults = []) : b.startDma = b := by
  unfold Block.startDma
  rw [h]
  rfl

theorem NoFaults.settleFaults {b : Block} (h : NoFaults b) : b.settleFaults = b := by
  unfold Block.settleFaults
  simp only [h.faults, h.waiting, List.filter_nil, List.foldl_nil, List.length_nil]
  exact startDma_idle h.faults

theorem NoFaults.endCmd {b : Block} (h : NoFaults b) (q i st : Nat) : NoFaults (b.endCmd q i st) := by
  obtain ⟨hfaults, hwait⟩ := h
  constructor
  · show b.faults.map _ = []
    rw [hfaults, List.map_nil]
  · show (b.faultWait.map _).filter _ = []
    rw [hwait, List.map_nil, List.filter_nil]

/-! ### Walks -/

theorem mem_fillRange (b : Block) (id : Nat) : ((b.fillRange id).rangeCache.any fun x => x.1 = id) = true := by
  unfold Block.fillRange
  simp only [List.any_cons, decide_true, Bool.true_or]

theorem mem_fillPages (b : Block) (id g : Nat) : (b.fillPages id g).pageCache.contains (id, g) = true := by
  unfold Block.fillPages
  simp only [List.take_succ_cons, List.contains_cons, BEq.rfl, Bool.true_or]

/-- The caches of two blocks hold the same. -/
def SameCaches (a b : Block) : Prop := b.rangeCache = a.rangeCache ∧ b.pageCache = a.pageCache

/-- Walks that start fill nothing yet. -/
theorem startWalks_caches (b : Block) : SameCaches b b.startWalks := by
  unfold Block.startWalks
  split
  · exact ⟨rfl, rfl⟩
  · refine List.foldlRecOn (motive := SameCaches b) _ _ ⟨rfl, rfl⟩ fun x hx w _ => ?_
    split
    · exact hx
    · split
      · exact hx
      · exact hx

/-- The caches filled with mapping `m` and, where it has page records, with the group of `va` (R278). -/
def walkFilled (b : Block) (m : Mapping) (va : Nat) : Block :=
  if m.backed ∨ (b.ctx m.ctx).ats then b.fillRange m.id else (b.fillRange m.id).fillPages m.id (m.group va)

theorem walkFilled_range (b : Block) (m : Mapping) (va : Nat) : ((walkFilled b m va).rangeCache.any fun x => x.1 = m.id) = true := by
  unfold walkFilled
  split
  · exact mem_fillRange ..
  · exact mem_fillRange ..

theorem walkFilled_pages {b : Block} {m : Mapping} (va : Nat) (hback : m.backed = false) (hats : (b.ctx m.ctx).ats = false) :
    (walkFilled b m va).pageCache.contains (m.id, m.group va) = true := by
  unfold walkFilled
  rw [if_neg (by simp [hback, hats])]
  exact mem_fillPages ..

theorem walkEnd_fills {b : Block} {k : Nat} {w : Walk} {m : Mapping} (hw : (b.walks.find? fun w => w.walker = some k) = some w)
    (hm : b.map? w.mapId = some m) :
    b.walkEnd k = (walkFilled { b with walks := b.walks.filter fun x => x.walker ≠ some k } m (w.page * 65536)).startWalks := by
  have hm' : Block.map? { b with walks := b.walks.filter fun x => x.walker ≠ some k } w.mapId = some m := hm
  unfold Block.walkEnd
  simp only [hw, hm']
  rfl

theorem walkDone_gives {s : State} {k : Nat} (hr : Runs s) : Gives (.walkDone k) s (if s.blk.down then s.blk else s.blk.walkEnd k) :=
  core_runs (f := fun b => if b.down then b else b.walkEnd k) hr

/-! ### Answers of ATS -/

theorem atsCompletion_gives {s : State} (pasid va log2 pa : Nat) (ok rd wr : Bool) (hr : Runs s) :
    Gives (.atsCompletion pasid va log2 pa ok rd wr) s
      (s.blk.atsDone (AtsEnt.mk pasid (alignDown va (2 ^ log2)) log2 (alignDown pa (2 ^ log2)) rd wr) ok) :=
  core_runs (f := fun b => b.atsDone (AtsEnt.mk pasid (alignDown va (2 ^ log2)) log2 (alignDown pa (2 ^ log2)) rd wr) ok) hr

/-- A completion that nothing asked for changes nothing (log entry 90). -/
theorem atsDone_unasked {b : Block} (x : AtsEnt) (ok : Bool) (h : b.atsAsked = []) : b.atsDone x ok = b := by
  unfold Block.atsDone
  simp only [h, List.filter_nil, List.isEmpty_nil, if_true]

/-- Completion `x` answers the only request that is out. -/
structure AnswersSole (b : Block) (x : AtsEnt) (a : AtsAsk) : Prop where
  sole : b.atsAsked = [a]
  pasid : a.pasid = x.pasid
  above : x.va ≤ a.va
  below : a.va < x.va + 2 ^ x.log2

/-- The block in which completion `x` has answered every request, and is cached where it is good (R280). -/
def atsAnswered (b : Block) (x : AtsEnt) (ok : Bool) : Block :=
  let b : Block := { b with atsAsked := [] }
  if ok then { b with
    atsCache := (x :: b.atsCache.filter fun e => !(e.pasid = x.pasid ∧ x.va ≤ e.va ∧ e.va < x.va + 2 ^ x.log2)).take 8192 } else b

theorem atsAnswered_noFaults {b : Block} (x : AtsEnt) (ok : Bool) (h : NoFaults b) : NoFaults (atsAnswered b x ok) := by
  cases ok <;> exact ⟨h.faults, h.waiting⟩

theorem atsAnswered_queues (b : Block) (x : AtsEnt) (ok : Bool) : Part.same .queues b (atsAnswered b x ok) := by
  cases ok <;> exact ⟨rfl, rfl⟩

theorem atsDone_sole {b : Block} {x : AtsEnt} {a : AtsAsk} {q i : Nat} (ok : Bool) (h : AnswersSole b x a) (hwho : a.who = [.cmd q i])
    (hf : NoFaults b) :
    b.atsDone x ok = (if ok then (atsAnswered b x ok).progress q i else (atsAnswered b x ok).failAsker (.cmd q i)).settleFaults := by
  have hidle : ∀ l n, (atsAnswered b x ok).atsFaults x.pasid l n = [] := fun l n => by
    unfold Block.atsFaults
    rw [(atsAnswered_noFaults x ok hf).faults, List.filter_nil]
  obtain ⟨hask, hpasid, habove, hbelow⟩ := h
  have hhit : (decide (a.pasid = x.pasid) && decide (x.va ≤ a.va) && decide (a.va < x.va + 2 ^ x.log2)) = true := by
    simp [hpasid, habove, hbelow]
  unfold Block.atsDone
  simp only [hask, List.filter_cons, List.filter_nil, hhit, Bool.not_true, if_true, List.isEmpty_cons, Bool.false_eq_true, if_false,
    List.flatMap_cons, List.flatMap_nil, List.append_nil, hwho, List.map_cons, List.map_nil, List.foldl_cons, List.foldl_nil]
  show Block.settleFaults (if ok then
      Block.resumeAsker (List.foldl _ (atsAnswered b x ok) ((atsAnswered b x ok).atsFaults _ _ _)) a.va (.cmd q i)
    else Block.failAsker (List.foldl _ (atsAnswered b x ok) ((atsAnswered b x ok).atsFaults _ _ _)) (.cmd q i)) = _
  rw [hidle]
  rfl

/-- A good completion is cached, and the command that asked goes on with a fresh budget (R137, R280). -/
theorem atsDone_good {b : Block} {x : AtsEnt} {a : AtsAsk} {q i : Nat} (h : AnswersSole b x a) (hwho : a.who = [.cmd q i])
    (hf : NoFaults b) : b.atsDone x true = (atsAnswered b x true).progress q i := by
  have hquiet : NoFaults ((atsAnswered b x true).progress q i) := ⟨hf.faults, hf.waiting⟩
  exact (atsDone_sole true h hwho hf).trans hquiet.settleFaults

/-- A command that runs no stitches ends where it is cancelled (R138). -/
theorem cancelCmd_plain {b : Block} {q i st : Nat} {c : Cmd} (hc : b.cmd? q i = some c) (hph : c.phase = .running)
    (hplain : c.runsStitches = false) : b.cancelCmd q i st = b.endCmd q i st := by
  unfold Block.cancelCmd
  simp only [hc, hph, hplain, Bool.false_eq_true, if_false]

/-- A command whose load is dropped is as before, but for its version. -/
theorem dropLoadOf_cmd {b : Block} {c : Cmd} (hc : b.cmd? c.q c.i = some c) :
    ∃ v, (b.dropLoadOf c).cmd? c.q c.i = some { c with version := v } := by
  unfold Block.dropLoadOf
  split
  · exact ⟨none, (cmd_of (dropVersion_queues ..)).trans (modCmd_self (fun _ => ⟨rfl, rfl⟩) hc)⟩
  · exact ⟨c.version, hc⟩

theorem dropLoadOf_translation (b : Block) (c : Cmd) : Part.same .translation b (b.dropLoadOf c) :=
  agree_of_keeps (ps := [.queues, .lists, .breakpoints]) (Block.dropLoadOf_keeps (sub_refl _) (Keeps.refl _ _)) (by decide)
    .translation (by decide)

theorem failAsker_plain {b : Block} {q i : Nat} {c : Cmd} (hc : b.cmd? q i = some c) (hph : c.phase = .running)
    (hplain : c.runsStitches = false) : b.failAsker (.cmd q i) = (b.dropLoadOf c).endCmd q i 0x20 := by
  have hfail : b.failAsker (.cmd q i) = (b.dropLoadOf c).cancelCmd q i 0x20 := by
    unfold Block.failAsker
    simp only [hc, hph]
  obtain ⟨rfl, rfl⟩ := cmd_place hc
  obtain ⟨v, hv⟩ := dropLoadOf_cmd hc
  exact hfail.trans (cancelCmd_plain hv hph hplain)

/-- A completion that failed ends the command that asked, with FAULT_XLAT (R280). -/
theorem atsDone_failed {b : Block} {x : AtsEnt} {a : AtsAsk} {q i : Nat} {c : Cmd} (h : AnswersSole b x a) (hwho : a.who = [.cmd q i])
    (hf : NoFaults b) (hc : b.cmd? q i = some c) (hph : c.phase = .running) (hplain : c.runsStitches = false) :
    HasEnded q i 0x20 (b.atsDone x false) := by
  have hc' : (atsAnswered b x false).cmd? q i = some c := (cmd_of (atsAnswered_queues b x false)).trans hc
  have hquiet : NoFaults (((atsAnswered b x false).dropLoadOf c).endCmd q i 0x20) :=
    ((atsAnswered_noFaults x false hf).of_same (dropLoadOf_translation ..)).endCmd ..
  rw [atsDone_sole false h hwho hf, if_neg Bool.false_ne_true, failAsker_plain hc' hph hplain, hquiet.settleFaults]
  obtain ⟨rfl, rfl⟩ := cmd_place hc
  exact running_ended (dropLoadOf_inPhase ⟨c, hc', hph⟩)

/-! ### Invalidations of the host -/

theorem atsInvalidateRequest_gives {s : State} (tag pasid va len : Nat) (hr : Runs s) :
    Gives (.atsInvalidateRequest tag pasid va len) s (s.blk.atsInvalidate tag pasid va len) :=
  core_runs (f := fun b => b.atsInvalidate tag pasid va len) hr

theorem atsInvalidate_full {b : Block} (tag pasid va len : Nat) (h : 32 ≤ b.atsInvs.length) : b.atsInvalidate tag pasid va len = b :=
  if_pos (.inl h)

/-- The block that has taken an invalidation and dropped the translations that it names (R297). -/
def invTaken (b : Block) (tag pasid va len : Nat) : Block :=
  { b with
    atsInvs := b.atsInvs ++ [{ tag := tag, pasid := pasid, va := va, len := len }]
    atsCache := b.atsCache.filter fun e => !(e.pasid = pasid ∧ e.va < va + len ∧ va < e.va + 2 ^ e.log2)
    engines := b.engines.map fun kv => (kv.1, { kv.2 with
      tlb := kv.2.tlb.filter fun t => !((b.ctxsOf pasid).contains t.1 ∧ t.2 * 65536 < va + len ∧ va < (t.2 + 1) * 65536) }) }

theorem atsInvalidate_taken {b : Block} {tag pasid va len : Nat} (hroom : b.atsInvs.length < 32)
    (hnew : (b.atsInvs.any fun x => x.tag = tag) = false) (hf : b.faults = []) :
    b.atsInvalidate tag pasid va len = invTaken b tag pasid va len := by
  have hgo : ¬(32 ≤ b.atsInvs.length ∨ (b.atsInvs.any fun x => x.tag = tag) = true) :=
    not_or.2 ⟨Nat.not_le.2 hroom, Bool.eq_false_iff.1 hnew⟩
  unfold Block.atsInvalidate
  rw [if_neg hgo]
  show List.foldl _ (invTaken b tag pasid va len) (List.filter _ b.faults) = _
  rw [hf]
  rfl

theorem atsInvalidateCompletion_gives {s : State} {tag : Nat} {x : AtsInv} (hr : Runs s)
    (hx : (s.blk.atsInvs.find? fun x => x.tag = tag) = some x) :
    Gives (.atsInvalidateCompletion tag) s
      (if s.blk.invHeld x then s.blk else Block.bumpEpoch { s.blk with atsInvs := s.blk.atsInvs.filter fun y => y.tag ≠ tag }) := by
  show execAtsInvalidateCompletion tag s = _
  unfold execAtsInvalidateCompletion
  simp only [core_runs hr, hx]

theorem bumpEpoch_atsInvs (b : Block) : b.bumpEpoch.atsInvs = b.atsInvs := by
  obtain ⟨_, _, _, _, _, _, _, _, _, hinvs⟩ := bumpEpoch_frame b .translation (by decide)
  exact hinvs.symm

/-! ### Invalidations through registers -/

theorem registerInvalidation_gives {s : State} {path : Nat} (ht : Takes s path Reg.ZT_INV_CTL) :
    Gives (.registerInvalidation path) s (s.blk.regInvalidate path) := write_takes ht

/-- The operands of an invalidation through registers (R298). -/
def invVa (b : Block) : Nat := b.field Reg.ZT_INV_VA_LO 31 12 * 4096 + b.reg Reg.ZT_INV_VA_HI * 2 ^ 32
def invLen (b : Block) : Nat := b.field Reg.ZT_INV_LEN_LO 31 12 * 4096 + b.reg Reg.ZT_INV_LEN_HI * 2 ^ 32

theorem regInvalidate_busy {b : Block} (path : Nat) (h : b.invBusy ≠ 0) : b.regInvalidate path = b.pageErr path Reg.ZT_INV_CTL :=
  if_pos (.inl h)

theorem regInvalidate_maps {b : Block} (path : Nat) (hidle : b.invBusy = 0) (hlen : invLen b ≠ 0) :
    (b.regInvalidate path).maps = (b.invalidate (b.field Reg.ZT_INV_CTX 11 0) (invVa b) (invLen b)).maps := by
  have hgo : ¬(b.invBusy ≠ 0 ∨ invLen b = 0) := not_or.2 ⟨fun hne => hne hidle, hlen⟩
  have hbump := bumpEpoch_frame (b.invalidate (b.field Reg.ZT_INV_CTX 11 0) (invVa b) (invLen b)) .mappings (by decide)
  unfold Block.regInvalidate
  exact (congrArg Block.maps (if_neg hgo)).trans hbump.1.symm

/-- A mapping with the range [va, va + len) of context `c` marked invalid, where it touches it. -/
def marked (c va len : Nat) (m : Mapping) : Mapping :=
  if m.ctx = c ∧ m.va < va + len ∧ va < m.va + m.len then { m with invalid := m.invalid ++ [(va, len)] } else m

theorem marked_invalid {c va len : Nat} {m : Mapping} (hc : (marked c va len m).ctx = c) (hlo : (marked c va len m).va < va + len)
    (hhi : va < (marked c va len m).va + (marked c va len m).len) : (va, len) ∈ (marked c va len m).invalid := by
  unfold marked at hc hlo hhi ⊢
  split at hc
  next h =>
    rw [if_pos h]
    exact List.mem_append_right _ (List.mem_singleton_self _)
  next h =>
    rw [if_neg h] at hlo hhi
    exact absurd ⟨hc, hlo, hhi⟩ h

theorem NoFaults.failFaults_maps {b : Block} (h : NoFaults b) (c va len : Nat) : (b.failFaults c va len).maps = b.maps := by
  unfold Block.failFaults
  simp only [h.faults, h.waiting, List.append_nil, List.filter_nil, List.foldl_nil]

/-- The block in which a range is marked invalid, and its cached translations are dropped (R298). -/
def rangeMarked (b : Block) (c va len : Nat) : Block :=
  let b := b.dropRange c va len
  { b with maps := b.maps.map (marked c va len) }

/-- Where no fault waits, the marks are all that an invalidation does to the mappings. -/
theorem NoFaults.invalidate_maps {b : Block} (h : NoFaults b) (c va len : Nat) :
    (b.invalidate c va len).maps = b.maps.map (marked c va len) := by
  have hmarked : NoFaults (rangeMarked b c va len) := ⟨h.faults, h.waiting⟩
  have hquiet : ∀ p, (((rangeMarked b c va len).faults ++ (rangeMarked b c va len).faultWait).any p) = false := fun p => by
    rw [hmarked.faults, hmarked.waiting]
    rfl
  unfold Block.invalidate
  exact (congrArg Block.maps (if_neg (Bool.eq_false_iff.1 (hquiet _)))).trans (hmarked.failFaults_maps ..)

/-- Settles O46: a walk by what it fills, a completion by whether it is asked for and good, invalidations by their room and what holds
them. That a completion which nothing asked for and an invalidation that is still held change nothing is log entries 90 and 2. -/
theorem translationRows : Obligations.TranslationRows := by
  unfold Obligations.TranslationRows
  intro s
  refine ⟨?_, ?_, ?_, ?_, ?_, ?_, ?_, ?_, ?_, ?_⟩
  · intro k w m hr hup hw hm
    have hg := walkDone_gives (k := k) hr
    rw [hup, if_neg Bool.false_ne_true, walkEnd_fills hw hm] at hg
    refine ⟨_, hg, ?_, fun hback hats => ?_⟩
    · rw [(startWalks_caches _).1]
      exact walkFilled_range ..
    · rw [(startWalks_caches _).2]
      exact walkFilled_pages _ hback hats
  · intro k hr hdown
    have hg := walkDone_gives (k := k) hr
    rwa [if_pos hdown] at hg
  · intro pasid va log2 pa rd wr a q i c x hr hx hask hpasid habove hbelow hwho hc hfaults hwait
    subst hx
    have hsole : AnswersSole s.blk _ a := ⟨hask, hpasid, habove, hbelow⟩
    refine ⟨⟨_, atsCompletion_gives pasid va log2 pa true rd wr hr, ?_⟩, fun hph hplain =>
      ⟨_, atsCompletion_gives pasid va log2 pa false rd wr hr, atsDone_failed hsole hwho ⟨hfaults, hwait⟩ hc hph hplain⟩⟩
    dsimp only
    rw [atsDone_good hsole hwho ⟨hfaults, hwait⟩]
    exact ⟨List.mem_cons_self, rfl, modCmd_self (fun _ => ⟨rfl, rfl⟩) ((cmd_of (atsAnswered_queues ..)).trans hc)⟩
  · intro pasid va log2 pa ok rd wr hr hnone
    have hg := atsCompletion_gives pasid va log2 pa ok rd wr hr
    rwa [atsDone_unasked _ _ hnone] at hg
  · intro tag pasid va len hr hfull
    have hg := atsInvalidateRequest_gives tag pasid va len hr
    rwa [atsInvalidate_full _ _ _ _ hfull] at hg
  · intro tag pasid va len hr hroom hnew hfaults
    have hg := atsInvalidateRequest_gives tag pasid va len hr
    rwa [atsInvalidate_taken hroom hnew hfaults] at hg
  · intro tag x hr hx hfree
    have hg := atsInvalidateCompletion_gives hr hx
    rw [hfree, if_neg Bool.false_ne_true] at hg
    refine ⟨hg, fun y hy => ?_⟩
    rw [bumpEpoch_atsInvs] at hy
    exact of_decide_eq_true (List.mem_filter.1 hy).2
  · intro tag x hr hx hheld
    have hg := atsInvalidateCompletion_gives hr hx
    rwa [if_pos hheld] at hg
  · intro path ht hbusy
    have hg := registerInvalidation_gives ht
    rwa [regInvalidate_busy path hbusy] at hg
  · intro path va len c ht hidle hc hlen hne hva hfaults hwait
    have hquiet : NoFaults s.blk := ⟨hfaults, hwait⟩
    subst hc hlen hva
    refine ⟨_, registerInvalidation_gives ht, fun m hm hctx hlo hhi => ?_⟩
    dsimp only at hm
    rw [regInvalidate_maps path hidle hne, hquiet.invalidate_maps] at hm
    obtain ⟨m, _, rfl⟩ := List.mem_map.1 hm
    exact marked_invalid hctx hlo hhi

end Sys2Proof.Proofs
end

section
/-!
SUPPORT. Faults of accesses (R274, R281, R282), the copy of a page (R282, R286, R291) and the answers to page requests (R285, R286).
-/
namespace Sys2Proof.Proofs

open Sys2Proof Sys2Proof.Machine Sys2Proof.Safety Sys2Proof.Laws

/-! ### The fault queue -/

theorem count32_frame (b : Block) (a : Nat) : agreeBut [.regs] b (b.count32 a) := count_frame b a 31 0 1

theorem fault_key {b : Block} {c page : Nat} {f : FaultEnt} (h : b.fault? c page = some f) : f.ctx = c ∧ f.page = page := by
  simpa using List.find?_some h

theorem fault_sole {b : Block} {c page : Nat} {f : FaultEnt} (hf : b.faults = [f]) (hc : f.ctx = c) (hp : f.page = page) :
    b.fault? c page = some f := by
  unfold Block.fault?
  rw [hf]
  exact List.find?_cons_of_pos (decide_eq_true ⟨hc, hp⟩)

/-- A change of a fault entry, at that entry. -/
theorem modFault_self {b : Block} {f : FaultEnt → FaultEnt} {c page : Nat} {g : FaultEnt}
    (hf : ∀ x, (f x).ctx = x.ctx ∧ (f x).page = x.page) (h : b.fault? c page = some g) :
    (b.modFault c page f).fault? c page = some (f g) := by
  have hkey := fault_key h
  have hp : (fun x : FaultEnt => decide (x.ctx = c ∧ x.page = page)) ∘ (fun x => if decide (x.ctx = c ∧ x.page = page) then f x else x)
      = fun x => decide (x.ctx = c ∧ x.page = page) := by
    funext x
    simp only [Function.comp]
    split
    · rw [(hf x).1, (hf x).2]
    · rfl
  unfold Block.fault? at h
  show (mapIf _ f b.faults).find? _ = _
  unfold mapIf
  rw [List.find?_map, hp, h]
  simp [hkey]

theorem modFault_sole {b : Block} (g : FaultEnt → FaultEnt) {c page : Nat} {f : FaultEnt} (hf : b.faults = [f]) (hc : f.ctx = c)
    (hp : f.page = page) : (b.modFault c page g).faults = [g f] := by
  show mapIf _ g b.faults = _
  rw [hf]
  exact congrArg (· :: []) (if_pos (decide_eq_true ⟨hc, hp⟩))

theorem mem_dedup {α : Type} [DecidableEq α] {l : List α} {x : α} (h : x ∈ l) : x ∈ dedup l := by
  have hfold : ∀ (l acc : List α), x ∈ acc ∨ x ∈ l → x ∈ l.foldl (fun acc y => if acc.contains y then acc else acc ++ [y]) acc := by
    intro l
    induction l with
    | nil => exact fun acc h => h.resolve_right List.not_mem_nil
    | cons y l ih =>
      intro acc h
      refine ih _ ?_
      dsimp only
      by_cases hy : acc.contains y = true
      · rw [if_pos hy]
        rw [List.contains_iff_mem] at hy
        rcases h with h | h
        · exact .inl h
        · exact (List.mem_cons.1 h).imp_left fun hxy => by rwa [hxy]
      · rw [if_neg hy]
        simpa [or_assoc] using h
  exact hfold l [] (.inr h)

/-! ### Accesses that meet a page on the host -/

theorem migrationFault_gives {s : State} {a : Agent} {c : Nat} (va : Nat) (w : Bool) (hr : Runs s) (ha : s.blk.accesses a c = true) :
    Gives (.migrationFault a c va w) s (s.blk.missAccess a c va w) := by
  show execMigrationFault a c va w s = _
  unfold execMigrationFault
  simp only [core_runs hr, ha, if_true]

theorem migrationFault_idle {s : State} {a : Agent} {c : Nat} (va : Nat) (w : Bool) (hr : Runs s) (ha : s.blk.accesses a c = false) :
    Gives (.migrationFault a c va w) s s.blk := by
  show execMigrationFault a c va w s = _
  unfold execMigrationFault
  simp only [core_runs hr, ha, Bool.false_eq_true, if_false]

/-- An access that meets a page on the host starts its fault, or joins it (R274, R282). -/
theorem missAccess_migrates {b b' : Block} {a : Agent} {c va p : Nat} {w : Bool} (hb' : b' = b.touch c va (some (askerOf a)))
    (hres : b'.agentResolve a c va w = .migrate p) (hup : b'.down = false) :
    b.missAccess a c va w = b'.startFault c p w 0 [askerOf a] (askerOf a) := by
  have hgo : ¬b'.walkHeld (askerOf a) = true := by
    unfold Block.walkHeld
    simp [hup]
  unfold Block.missAccess
  simp only [← hb', hres, if_neg hgo]
  rfl

/-- A new waiter joins the fault of its page (R281). -/
theorem startFault_joins {b : Block} {c va cls : Nat} {w : Bool} {a : Asker} {g : FaultEnt}
    (hg : b.fault? c (alignDown va (b.faultPage c)) = some g) (hnew : a ∉ g.waiters) :
    ∃ g', (b.startFault c va w cls [a] a).fault? c (alignDown va (b.faultPage c)) = some g' ∧ a ∈ g'.waiters := by
  have hmiss : ¬([a].all g.waiters.contains = true ∧ (!([a].isEmpty)) = true) := by simp [hnew]
  unfold Block.startFault
  dsimp only
  rw [if_pos (.inl (by rw [hg]; rfl))]
  unfold Block.enterFault
  dsimp only
  rw [hg]
  dsimp only
  rw [if_neg hmiss]
  have hcounted : (b.count32 Reg.FAULT_MERGED).fault? c (alignDown va (b.faultPage c)) = some g := by
    unfold Block.fault? at hg ⊢
    rw [faults_of (count32_frame b Reg.FAULT_MERGED .translation (by decide)), hg]
  refine ⟨_, modFault_self (fun _ => ⟨rfl, rfl⟩) hcounted, mem_dedup ?_⟩
  exact List.mem_append_right _ (List.mem_singleton_self _)

/-! ### The first fault -/

theorem askAts_faults (b : Block) (pasid va : Nat) (who : List Asker) (log2 : Nat) : (b.askAts pasid va who log2).faults = b.faults := by
  unfold Block.askAts
  split <;> rfl

/-- Nothing of the source is cached: all of it is asked for (R280). -/
theorem sourceOf_none {b : Block} {pasid page : Nat} (h : b.atsFor? pasid page = none) : b.sourceOf pasid page = .inl (page, 16) := by
  have hfirst : (b.atsFor? pasid (page + 0 * 4096)).isNone = true := by
    rw [Nat.zero_mul, Nat.add_zero, h]
    rfl
  have hfind : (List.range 16).find? (fun k => (b.atsFor? pasid (page + k * 4096)).isNone) = some 0 :=
    List.find?_cons_of_pos (l := List.range' 1 15) hfirst
  unfold Block.sourceOf
  rw [hfind]
  rfl

/-- What a fault of a RANGE-mode context asks for where its source is not cached (R280, R282). -/
theorem seekSource_asks {b : Block} {c page : Nat} {f : FaultEnt} (hf : b.fault? c page = some f) (hok : b.priFailed = false)
    (hats : b.pins.ats = true) (hmode : (b.ctx c).ats = false) (hnone : b.atsFor? (b.ctx c).pasid page = none) :
    b.seekSource c page = (b.modFault c page fun f => { f with stage := .needAts }).askAts (b.ctx c).pasid page [] 16 := by
  unfold Block.seekSource
  simp only [hf, hok, hats, hmode, sourceOf_none hnone, Bool.not_true, Bool.false_eq_true, or_self, if_false]

/-- What `seekSource` asks of a block: PRI_FAILED, ATS, its contexts and its cached translations. -/
structure SameSources (a b : Block) : Prop where
  failed : b.priFailed = a.priFailed
  pins : b.pins = a.pins
  ctxs : b.ctxs = a.ctxs
  cache : b.atsCache = a.atsCache

/-- A counter leaves ZT_CTL, and all but the registers. -/
theorem count32_sources (b : Block) {a : Nat} (h : a ≠ Reg.ZT_CTL) : SameSources b (b.count32 a) := by
  have hframe := count32_frame b a
  obtain ⟨_, _, hcache, _⟩ := hframe .translation (by decide)
  exact ⟨congrArg (bit · 1) (Block.setReg_other b a _ Reg.ZT_CTL h), (hframe .pins (by decide)).symm,
    (hframe .contexts (by decide)).symm, hcache.symm⟩

/-- The page of a fault marked MIGRATING in its mapping (R282). -/
def pageMoves (b : Block) (f : FaultEnt) : Block := match b.mapAt? f.ctx f.va with
  | some m => b.setPage m.id (f.page / 65536) .migrating
  | none => b

theorem pageMoves_sources (b : Block) (f : FaultEnt) : SameSources b (pageMoves b f) := by
  unfold pageMoves
  split <;> exact ⟨rfl, rfl, rfl, rfl⟩

theorem pageMoves_faults (b : Block) (f : FaultEnt) : (pageMoves b f).faults = b.faults := by
  unfold pageMoves
  split <;> rfl

/-- The block in which fault `f` of a RANGE-mode context has its entry: its page is MIGRATING (R281, R282). -/
def faultEntered (b : Block) (f : FaultEnt) : Block :=
  let b := pageMoves (b.count32 Reg.FAULT_COUNT) f
  { b with faults := b.faults ++ [f] }

theorem faultEntered_sources (b : Block) (f : FaultEnt) : SameSources b (faultEntered b f) := by
  obtain ⟨hfailed, hpins, hctxs, hcache⟩ := count32_sources b (a := Reg.FAULT_COUNT) (by decide)
  obtain ⟨hfailed', hpins', hctxs', hcache'⟩ := pageMoves_sources (b.count32 Reg.FAULT_COUNT) f
  exact ⟨hfailed'.trans hfailed, hpins'.trans hpins, hctxs'.trans hctxs, hcache'.trans hcache⟩

theorem faultEntered_faults {b : Block} {f : FaultEnt} (h : b.faults = []) : (faultEntered b f).faults = [f] := by
  show (pageMoves (b.count32 Reg.FAULT_COUNT) f).faults ++ [f] = [f]
  rw [pageMoves_faults, faults_of (count32_frame b Reg.FAULT_COUNT .translation (by decide)), h, List.nil_append]

theorem enterFault_new {b : Block} {f : FaultEnt} (hnone : b.fault? f.ctx f.page = none) (hmode : (b.ctx f.ctx).ats = false) :
    b.enterFault f = (faultEntered b f).seekSource f.ctx f.page := by
  unfold Block.enterFault
  rw [hnone]
  dsimp only
  rw [ctx_of (count32_frame b Reg.FAULT_COUNT .contexts (by decide)), hmode, if_neg Bool.false_ne_true]
  rfl

/-- A fault whose source nothing knows asks for it, and has the one entry of the fault queue. -/
theorem enterFault_first {b : Block} {f : FaultEnt} (hfaults : b.faults = []) (hok : b.priFailed = false) (hats : b.pins.ats = true)
    (hmode : (b.ctx f.ctx).ats = false) (hnone : b.atsFor? (b.ctx f.ctx).pasid f.page = none) :
    (b.enterFault f).faults = [{ f with stage := .needAts }] := by
  obtain ⟨hfailed, hpins, hctxs, hcache⟩ := faultEntered_sources b f
  have hctx : (faultEntered b f).ctx f.ctx = b.ctx f.ctx := ctx_of hctxs.symm
  have hentry := faultEntered_faults (f := f) hfaults
  have hnew : b.fault? f.ctx f.page = none := by
    unfold Block.fault?
    rw [hfaults, List.find?_nil]
  have hcold : (faultEntered b f).atsFor? ((faultEntered b f).ctx f.ctx).pasid f.page = none := by
    unfold Block.atsFor? at hnone ⊢
    rw [hcache, hctx, hnone]
  rw [enterFault_new hnew hmode, seekSource_asks (fault_sole hentry rfl rfl) (hfailed.trans hok) (by rw [hpins, hats])
    (by rw [hctx, hmode]) hcold, askAts_faults]
  exact modFault_sole _ hentry rfl rfl

/-- The first fault on a page takes the entry of that page, with its waiter (R281, R282). -/
theorem startFault_first {b : Block} {c va cls : Nat} {w : Bool} {a : Asker} (hfaults : b.faults = []) (hok : b.priFailed = false)
    (hats : b.pins.ats = true) (hmode : (b.ctx c).ats = false)
    (hnone : b.atsFor? (b.ctx c).pasid (alignDown va (b.faultPage c)) = none) :
    ∃ g, (b.startFault c va w cls [a] a).fault? c (alignDown va (b.faultPage c)) = some g ∧ g.waiters = [a] ∧ g.write = w := by
  have hroom : b.faults.length < Config.faultEntries := by
    rw [hfaults]
    decide
  unfold Block.startFault
  dsimp only
  rw [if_pos (.inr hroom)]
  exact ⟨_, fault_sole (enterFault_first hfaults hok hats hmode hnone) rfl rfl, rfl, rfl⟩

/-! ### Accesses that are refused -/

theorem translationFault_gives {s : State} {a : Agent} {c va st : Nat} {w : Bool} (hr : Runs s) (ha : s.blk.accesses a c = true)
    (hbad : s.blk.agentResolve a c va w = .bad st) : Gives (.translationFault a c va w) s (s.blk.faultWork a c va st) := by
  show execTranslationFault a c va w s = _
  unfold execTranslationFault
  simp only [core_runs hr, ha, hbad, if_true]

theorem translationFault_idle {s : State} {a : Agent} {c : Nat} (va : Nat) (w : Bool) (hr : Runs s) (ha : s.blk.accesses a c = false) :
    Gives (.translationFault a c va w) s s.blk := by
  show execTranslationFault a c va w s = _
  unfold execTranslationFault
  simp only [core_runs hr, ha, Bool.false_eq_true, if_false]

/-- A command that a block agent makes accesses for has not ended. -/
theorem accesses_begun {b : Block} {q i t : Nat} {c : Cmd} (ha : b.accesses (.block q i) t = true) (hc : b.cmd? q i = some c) :
    ∀ k, c.phase ≠ .ended k := by
  intro k hk
  unfold Block.accesses Block.agentCmd? at ha
  simp [hc, hk] at ha

/-- A refused access of the block ends its command with the status that it met (R274). -/
theorem faultWork_block {b : Block} {q i t va st : Nat} {c : Cmd} (hc : b.cmd? q i = some c) (hlive : ∀ k, c.phase ≠ .ended k)
    (hst : st ≠ 0x20) : HasEnded q i st (b.faultWork (.block q i) t va st) := by
  have hwork : b.faultWork (.block q i) t va st = (b.dropLoadOf c).endCmd c.q c.i st := by
    unfold Block.faultWork Block.faultCmd
    simp only [hc, hst, false_and, if_false]
  rw [hwork]
  obtain ⟨rfl, rfl⟩ := cmd_place hc
  obtain ⟨v, hv⟩ := dropLoadOf_cmd hc
  exact endCmd_ended hv hlive

/-- A command whose stitches an engine executes: a launch under way that is not cancelled. -/
structure Executed (c : Cmd) : Prop where
  stitches : c.runsStitches = true
  running : c.phase = .running
  live : c.cancel = none

theorem executes_cmd {b : Block} {e q i : Nat} {c : Cmd} (hx : b.executes e = true) (hu : (b.eng e).use = .cmd q i)
    (hc : b.cmd? q i = some c) : Executed c := by
  have hleft : 0 < b.invLeft e := by
    unfold Block.executes Block.ready at hx
    simp only [Bool.and_eq_true, decide_eq_true_eq] at hx
    exact hx.1.2
  have hruns : b.workRuns (.cmd q i) = true := by
    cases hw : b.workRuns (.cmd q i) with
    | true => rfl
    | false =>
      unfold Block.invLeft at hleft
      simp only [hu, EngUse.work?, hw, Bool.false_eq_true, if_false, Nat.lt_irrefl] at hleft
  unfold Block.workRuns at hruns
  simp only [hc, Bool.and_eq_true, decide_eq_true_eq, Option.isNone_iff_eq_none] at hruns
  obtain ⟨⟨⟨⟨hst, hph⟩, hlive⟩, _⟩, _⟩ := hruns
  exact ⟨hst, hph, hlive⟩

/-- A cancelled command that settles keeps the status of its cancellation. -/
theorem settleCmd_cancel {b : Block} {q i st : Nat} {c : Cmd} (hc : b.cmd? q i = some c) (hph : c.phase = .running)
    (hst : c.cancel = some st) : ∃ c', (b.settleCmd q i).cmd? q i = some c' ∧ c'.cancel = some st := by
  unfold Block.settleCmd
  simp only [hc, hst]
  split
  · exact ⟨_, endCmd_cmd hc (by simp [hph]), hst⟩
  · exact ⟨c, hc, hst⟩

/-- A launch under way is cancelled with the status, whether its engines drain at once or not (R138). -/
theorem cancelCmd_launch {b : Block} {q i st : Nat} {c : Cmd} (hc : b.cmd? q i = some c) (h : Executed c) :
    ∃ c', (b.cancelCmd q i st).cmd? q i = some c' ∧ c'.cancel = some st := by
  obtain ⟨hs, hph, hlive⟩ := h
  have hmod := modCmd_self (f := fun c => { c with cancel := some (c.cancel.getD st), stalled := false, bp := none })
    (fun _ => ⟨rfl, rfl⟩) hc
  unfold Block.cancelCmd
  simp only [hc, hph, hs, if_true]
  generalize (b.modCmd q i fun c => { c with cancel := some (c.cancel.getD st), stalled := false, bp := none }) = b₁ at hmod ⊢
  have hdrain : Part.same .queues b₁ (c.engs.foldl Block.drainEng ((b₁.dropLane (.cmd q i)).clearQueues c.engs)) := by
    refine agree_of_keeps (m := 92307456) (ps := [.harnesses, .engines, .waits, .lists, .translation]) ?_ (by decide) .queues (by decide)
    refine Keeps.foldl (fun _ _ hk => ?_) _ ?_
    · exact Block.drainEng_keeps rfl hk
    · exact Block.clearQueues_keeps rfl (Block.dropLane_keeps rfl (Keeps.refl _ _))
  refine settleCmd_cancel ((cmd_of hdrain).trans hmod) hph ?_
  show some (c.cancel.getD st) = _
  rw [hlive]
  rfl

/-- A refused access of an engine cancels its launch (R274), where no context is lost by it (R298). -/
theorem faultWork_engine {b : Block} {e q i t va st : Nat} {c : Cmd} (hu : (b.eng e).use = .cmd q i) (hc : b.cmd? q i = some c)
    (hkeep : (decide (st = 0x20) && b.deadRange t va 1) = false) : b.faultWork (.engine e) t va st = b.cancelCmd q i st := by
  unfold Block.faultWork Block.endWork
  simp only [hu, hc, hkeep, Bool.false_eq_true, if_false]

/-! ### Faults that end -/

theorem endAdvice_frame (b : Block) (c page : Nat) (ok : Bool) :
    agreeBut [.regs, .queues, .mappings, .translation] b (b.endAdvice c page ok) :=
  agree_of_keeps (Block.endAdvice_keeps (sub_refl _) (Keeps.refl _ _)) (by decide)

/-- Where no ADVISE is at work, the end of a fault leaves the fault queue. -/
theorem endAdvice_noFaults {b : Block} {c page : Nat} {ok : Bool} (h : NoFaults b) (hadv : b.advices = []) :
    NoFaults (b.endAdvice c page ok) := by
  unfold Block.endAdvice
  extract_lets hit n b₁ b₂ pins b₃
  have hcount : Part.same .translation b b₁ := by
    subst b₁
    split
    · exact same_refl _ _
    · exact count_frame b Reg.ZT_ADVISE 31 16 n .translation (by decide)
  have hquiet : NoFaults b₁ := h.of_same hcount
  obtain ⟨_, _, _, _, _, _, _, hnone, _⟩ := hcount
  have hpins : pins = [] := by
    show (List.filter _ (mapIf hit _ b₁.advices)).flatMap _ = []
    rw [← hnone, hadv]
    rfl
  rw [hpins]
  exact ⟨hquiet.faults, hquiet.waiting⟩

/-- The only fault, for which nothing waits. -/
structure SoleFault (b : Block) (c page : Nat) (f : FaultEnt) : Prop where
  sole : b.faults = [f]
  ctx : f.ctx = c
  page : f.page = page
  alone : f.waiters = []
  waiting : b.faultWait = []
  advices : b.advices = []

theorem SoleFault.of_same {a b : Block} {c page : Nat} {f : FaultEnt} (h : SoleFault a c page f) (hs : Part.same .translation a b) :
    SoleFault b c page f := by
  obtain ⟨hf, hc, hp, halone, hwait, hadv⟩ := h
  obtain ⟨_, _, _, _, _, hfaults, hwaiting, hadvices, _⟩ := hs
  exact ⟨hfaults.symm.trans hf, hc, hp, halone, hwaiting.symm.trans hwait, hadvices.symm.trans hadv⟩

/-- A fault that fails, and for which nothing waits, leaves the fault queue empty and the pools as they were (R286). -/
theorem SoleFault.finishFault {b : Block} {c page : Nat} {f : FaultEnt} (h : SoleFault b c page f) :
    (b.finishFault c page false).faults = [] ∧ ∀ p, (b.finishFault c page false).pool p = b.pool p := by
  obtain ⟨hf, hc, hp, halone, hwait, hadv⟩ := h
  have hgone : b.faults.filter (fun x => !(decide (x.ctx = c ∧ x.page = page))) = [] := by
    simp [hf, hc, hp]
  generalize hb₁ : ({ b with faults := b.faults.filter fun x => !(decide (x.ctx = c ∧ x.page = page)) } : Block) = b₁
  have hpools : b₁.pools = b.pools := hb₁ ▸ rfl
  have hquiet : NoFaults (b₁.endAdvice c page false) := by
    subst hb₁
    exact endAdvice_noFaults ⟨hgone, hwait⟩ hadv
  have hclose : b.closeFault c page false = (b₁.endAdvice c page false).unmigrate c page := by
    unfold Block.closeFault
    simp only [fault_sole hf hc hp, halone, List.foldl_nil, Bool.false_eq_true, if_false, ← hb₁]
  have hend : NoFaults ((b₁.endAdvice c page false).unmigrate c page) := ⟨hquiet.faults, hquiet.waiting⟩
  unfold Block.finishFault
  rw [hclose, hend.settleFaults]
  refine ⟨hend.faults, fun p => ?_⟩
  have hframe := endAdvice_frame b₁ c page false .frames (by decide)
  unfold Block.pool
  show Tab.get _ (b₁.endAdvice c page false).pools p = _
  rw [← hframe.1, hpools]

/-! ### The copy of a page -/

theorem migrationDmaDone_gives {s : State} {c page : Nat} {f : FaultEnt} {ok : Bool} (hr : Runs s) (hf : s.blk.fault? c page = some f)
    (hgo : ok = true → AtRest s.blk) : Gives (.migrationDmaDone c page ok) s (s.blk.copyDone c page ok) := by
  have hhome : ¬(ok = true ∧ (s.blk.down = true ∨ s.blk.homeHolds f.places = true)) := by
    rintro ⟨hok, hheld⟩
    obtain ⟨hup, hfree⟩ := hgo hok
    simp [hup, hfree] at hheld
  show execMigrationDmaDone c page ok s = _
  unfold execMigrationDmaDone
  simp only [core_runs hr, hf, if_neg hhome]

theorem copyDone_failed {b : Block} {c page fr p : Nat} {src : List Nat} {f : FaultEnt} (hf : b.fault? c page = some f)
    (hst : f.stage = .copying src fr p) : b.copyDone c page false = (b.setPool p (fr :: b.pool p)).finishFault c page false := by
  unfold Block.copyDone
  simp only [hf, hst, Bool.false_eq_true, if_false]

/-- The block in which the page of fault `f` stands in frame `fr`, its bursts counted, its fault waiting for the entry (R282, R309). -/
def pageCopied (b : Block) (f : FaultEnt) (src : List Nat) (fr p : Nat) : Block :=
  let xs := src.flatMap fun a => match b.hostAt a with
    | .ok (.dev d) => Memory.read b.dev d 4096
    | _ => Memory.read b.host a 4096
  let b := b.putBytes ((List.range 65536).map fun k => Phys.dev (fr + k)) xs
  let b := (List.range 256).foldl (fun b k => b.countFar f.near (.dev (fr + k * 256))) b
  b.modFault f.ctx f.page fun f => { f with stage := .needEntry fr p }

/-- The MIGRATED entry of fault `f` (R289). -/
def migratedEntry (b : Block) (f : FaultEnt) (fr p : Nat) : FcrEnt :=
  { frame := fr, typ := 1, pool := p, va := f.page, ctx := f.ctx
    own := ((b.maps.find? fun m => m.ctx = f.ctx ∧ m.page f.page = .migrating).map (·.id)).getD 0 }

theorem copyDone_read {b : Block} {c page fr p : Nat} {src : List Nat} {f : FaultEnt} (hf : b.fault? c page = some f)
    (hst : f.stage = .copying src fr p) :
    b.copyDone c page true
      = ((pageCopied b f src fr p).pushEntry (migratedEntry (pageCopied b f src fr p) f fr p)).landPages.startDma := by
  obtain ⟨rfl, rfl⟩ := fault_key hf
  unfold Block.copyDone
  simp only [hf, hst, if_true]
  rfl

/-- The copy leaves the frame ring and the other faults as they were. -/
theorem copied_frame (b : Block) (f : FaultEnt) (ps : List Phys) (xs : List Byte) (fr : Nat) :
    agreeBut [.regs, .dev, .host, .mappings, .coherence, .poison] b
      ((List.range 256).foldl (fun b k => b.countFar f.near (.dev (fr + k * 256))) (b.putBytes ps xs)) := by
  refine agree_of_keeps (m := 141768261760) ?_ (by decide)
  refine Keeps.foldl (fun _ _ hk => ?_) _ ?_
  · exact Block.countFar_keeps rfl hk
  · exact Block.putBytes_keeps rfl (Keeps.refl _ _)

theorem pageCopied_faults {b : Block} {f : FaultEnt} (src : List Nat) (fr p : Nat) (hf : b.faults = [f]) :
    (pageCopied b f src fr p).faults = [{ f with stage := .needEntry fr p }] := by
  unfold pageCopied
  extract_lets xs b₁ b₂
  have hsame : b₂.faults = b.faults := faults_of (copied_frame b f _ xs fr .translation (by decide))
  exact modFault_sole _ (hsame.trans hf) rfl rfl

theorem modFault_frames (b : Block) (c page : Nat) (g : FaultEnt → FaultEnt) : Part.same .frames b (b.modFault c page g) :=
  ⟨rfl, rfl, rfl, rfl, rfl, rfl⟩

theorem pageCopied_frames (b : Block) (f : FaultEnt) (src : List Nat) (fr p : Nat) : Part.same .frames b (pageCopied b f src fr p) := by
  unfold pageCopied
  extract_lets xs b₁ b₂
  have hsame : Part.same .frames b b₂ := copied_frame b f _ xs fr .frames (by decide)
  exact same_trans hsame (modFault_frames ..)

/-- A MIGRATED entry behind a write that is stuck waits (R291). -/
theorem pushEntry_waits {b : Block} {x : FcrEnt} (htyp : x.typ = 1) (hstuck : b.fcrStuck = true) :
    b.pushEntry x = { b with fcrWait := b.fcrWait ++ [x] } := by
  unfold Block.pushEntry
  rw [if_pos htyp]
  exact writeEntries_stuck hstuck

/-- A page whose entry waits does not land yet (R282). -/
theorem landPages_waits {b : Block} {f : FaultEnt} {x : FcrEnt} {fr p : Nat} (hf : b.faults = [f]) (hst : f.stage = .needEntry fr p)
    (hx : x ∈ b.fcrWait) (htyp : x.typ = 1) (hctx : x.ctx = f.ctx) (hva : x.va = f.page) : b.landPages = b := by
  have hany : (b.fcrWait.any fun x => x.typ = 1 ∧ x.ctx = f.ctx ∧ x.va = f.page) = true :=
    List.any_eq_true.2 ⟨x, hx, decide_eq_true ⟨htyp, hctx, hva⟩⟩
  unfold Block.landPages
  rw [hf, List.foldl_cons, List.foldl_nil, hst]
  exact if_pos hany

/-- A page that waits for its entry is no work for the copy engine. -/
theorem startDma_waits {b : Block} {f : FaultEnt} {fr p : Nat} (hf : b.faults = [f]) (hst : f.stage = .needEntry fr p) :
    b.startDma = b := by
  unfold Block.startDma
  simp [hf, hst]

/-- A copy that has been read behind a stuck write leaves its fault, and its entry, waiting (R282, R291). -/
theorem copyDone_waits {b : Block} {c page fr p : Nat} {src : List Nat} {f : FaultEnt} (hf : b.faults = [f]) (hc : f.ctx = c)
    (hp : f.page = page) (hst : f.stage = .copying src fr p) (hstuck : b.fcrStuck = true) :
    (b.copyDone c page true).faults = [{ f with stage := .needEntry fr p }]
      ∧ (b.copyDone c page true).fcrWait = b.fcrWait ++ [migratedEntry (pageCopied b f src fr p) f fr p] := by
  obtain ⟨_, _, hwait, hstuck', _⟩ := pageCopied_frames b f src fr p
  have hfaults := pageCopied_faults src fr p hf
  rw [copyDone_read (fault_sole hf hc hp) hst, pushEntry_waits rfl (hstuck'.symm.trans hstuck)]
  generalize hb' : ({ pageCopied b f src fr p with
    fcrWait := (pageCopied b f src fr p).fcrWait ++ [migratedEntry (pageCopied b f src fr p) f fr p] } : Block) = b'
  have hfaults' : b'.faults = [{ f with stage := .needEntry fr p }] := hb' ▸ hfaults
  have hentry : b'.fcrWait = b.fcrWait ++ [migratedEntry (pageCopied b f src fr p) f fr p] := by
    rw [← hb', hwait]
  rw [landPages_waits hfaults' rfl (by rw [hentry]; exact List.mem_append_right _ (List.mem_singleton_self _)) rfl rfl rfl,
    startDma_waits hfaults' rfl]
  exact ⟨hfaults', hentry⟩

/-! ### Page responses -/

theorem setField_frame (b : Block) (a hi lo v : Nat) : agreeBut [.regs] b (b.setField a hi lo v) :=
  agree_of_keeps (Block.setField_keeps (sub_refl _) (Keeps.refl _ _)) (by decide)

theorem priResponse_gives {s : State} (c page : Nat) (code : PriCode) (hr : Runs s) :
    Gives (.priResponse c page code) s (s.blk.priDone c page code) := core_runs (f := fun b => b.priDone c page code) hr

/-- A page response with no translation ends the fault whose request is out (R286). -/
theorem priDone_invalid {b : Block} {c page : Nat} {f : FaultEnt} (hf : b.fault? c page = some f) (hst : f.stage = .needPri true) :
    b.priDone c page .invalid = b.finishFault c page false := by
  unfold Block.priDone
  simp only [hf, hst, ne_eq, not_true_eq_false, if_false]

theorem priDone_failure {b : Block} {c page : Nat} {f : FaultEnt} (hf : b.fault? c page = some f) (hst : f.stage = .needPri true) :
    b.priDone c page .failure = (b.setField Reg.ZT_CTL 1 1 1).finishFault c page false := by
  unfold Block.priDone
  simp only [hf, hst, ne_eq, not_true_eq_false, if_false]

/-- A page response that succeeds drops what ATS said of the page, and its fault looks for the source again (R286). -/
theorem priDone_success {b : Block} {c page : Nat} {f : FaultEnt} (hf : b.fault? c page = some f) (hst : f.stage = .needPri true) :
    b.priDone c page .success = ((Block.modFault { b with
      atsCache := b.atsCache.filter fun e => !(e.pasid = (b.ctx c).pasid ∧ e.va < page + b.faultPage c ∧ page < e.va + 2 ^ e.log2) } c page
      fun f => { f with stage := .needAts }).seekSource c page).settleFaults := by
  unfold Block.priDone
  simp only [hf, hst, ne_eq, not_true_eq_false, if_false]

/-- Settles O45: an access by what it resolves to, a copy by whether it was read, a page response by its code. -/
theorem faultRows : Obligations.FaultRows := by
  unfold Obligations.FaultRows
  intro s hr
  refine ⟨?_, ?_, ?_, ?_, ?_, ?_, ?_, ?_⟩
  · intro a c va w p b g ha hb hres hup hg hnew
    have h := migrationFault_gives va w hr ha
    rw [missAccess_migrates hb hres hup] at h
    exact ⟨h, startFault_joins hg hnew⟩
  · intro a c va w p b ha hb hres hup hfaults hok hats hmode hnone
    have h := migrationFault_gives va w hr ha
    rw [missAccess_migrates hb hres hup] at h
    exact ⟨h, startFault_first hfaults hok hats hmode hnone⟩
  · intro q i c₀ c va w st hc ha hbad hst
    exact ⟨_, translationFault_gives hr ha hbad, faultWork_block hc (accesses_begun ha hc) hst⟩
  · intro e q i c₀ c va w st ha hu hc hbad hkeep
    have h := translationFault_gives hr ha hbad
    rw [faultWork_engine hu hc hkeep] at h
    have hx : s.blk.executes e = true := (Bool.and_eq_true_iff.1 ha).1
    exact ⟨h, cancelCmd_launch hc (executes_cmd hx hu hc)⟩
  · intro a c va w ha
    exact ⟨migrationFault_idle va w hr ha, translationFault_idle va w hr ha⟩
  · intro c page f src fr p hf hst
    have h := migrationDmaDone_gives (ok := false) hr hf nofun
    rw [copyDone_failed hf hst] at h
    refine ⟨h, fun hsole halone hwait hadv => ?_⟩
    obtain ⟨hc, hp⟩ := fault_key hf
    have hend : SoleFault (s.blk.setPool p (fr :: s.blk.pool p)) c page f := ⟨hsole, hc, hp, halone, hwait, hadv⟩
    exact ⟨hend.finishFault.1, (hend.finishFault.2 p).trans (Block.setPool_self ..)⟩
  · intro c page f src fr p hsole hc hp hst hrest hstuck
    obtain ⟨hfaults, hentry⟩ := copyDone_waits hsole hc hp hst hstuck
    exact ⟨_, _, migrationDmaDone_gives hr (fault_sole hsole hc hp) fun _ => hrest, hfaults, hentry, rfl, rfl, hp, hc⟩
  · intro c page f hf hst
    have h := fun code => priResponse_gives c page code hr
    refine ⟨priDone_invalid hf hst ▸ h .invalid, priDone_failure hf hst ▸ h .failure, fun hsole halone hwait hadv => ?_,
      priDone_success hf hst ▸ h .success⟩
    obtain ⟨hc, hp⟩ := fault_key hf
    have hend : SoleFault s.blk c page f := ⟨hsole, hc, hp, halone, hwait, hadv⟩
    have hend' : SoleFault (s.blk.setField Reg.ZT_CTL 1 1 1) c page f := hend.of_same (setField_frame _ _ _ _ _ .translation (by decide))
    exact ⟨hend.finishFault.1, hend'.finishFault.1⟩

end Sys2Proof.Proofs
end

section
/-!
SUPPORT. Start-up: the end of initialisation (R306, R477), the entry to READY (R479, R480) and the entry to RUN (R481, R482).
-/
namespace Sys2Proof.Proofs

open Sys2Proof Sys2Proof.Machine Sys2Proof.Safety Sys2Proof.Laws

/-! ### The block state -/

/-- What a record of the Cinder log and its event can write: the record may be mirrored over a port (R457). -/
theorem recorded_frame (b : Block) (typ code x d pg k y e z : Nat) :
    agreeBut [.regs, .events, .ports, .stop, .cinder] b ((b.cinderRec typ code x d).event pg k y e z) :=
  agree_of_keeps (m := 13202729470080) (Block.event_keeps rfl (Block.cinderRec_keeps rfl (Keeps.refl _ _))) (by decide)

theorem enterState_st (b : Block) (st : BlockState) : (b.enterState st).st = st :=
  (recorded_frame { b with st := st } _ _ _ _ _ _ _ _ _ .mode (by decide)).symm

theorem enterState_layout (b : Block) (st : BlockState) : Part.same .layout b (b.enterState st) :=
  recorded_frame { b with st := st } _ _ _ _ _ _ _ _ _ .layout (by decide)

/-! ### INITIALISATION_END -/

/-- The channels that passed their tests are in service; the note of each stack's shrink is a register's alone (R306). -/
theorem takeTests_chanOk (b : Block) (failed : List Nat) :
    (b.takeTests failed).chanOk = (List.range b.straps.nStacks).map fun k => (65535 - nth failed k % 65536) &&& b.keptChannels k := by
  unfold Block.takeTests
  extract_lets ok b₁
  have hnotes : Keeps 128 b₁
      ((List.range b.straps.nStacks).foldl (fun b s => if nth ok s = 65535 then b else b.setField Reg.CAPACITY_SHRINK s s 1) b₁) := by
    refine Keeps.foldl (fun b s h => ?_) _ (Keeps.refl _ _)
    exact Keeps.choice (fun _ => h) fun _ => Block.setField_keeps rfl h
  obtain ⟨hok, _⟩ := (hnotes .layout).resolve_left (by decide)
  exact hok.symm

/-- What follows the entry to LOAD: the exchange of times starts, an L3 that led here has its event, and what it held of the link is
taken (R377, R477). -/
def startLink (b : Block) : Block :=
  let b := { b with sync := { b.sync with started := true } }
  let b := if b.l3Done then { b with l3Done := false }.event pgGlb 9 else b
  b.linkRelease

theorem linkRelease_frame (b : Block) : agreeBut (allBut [.mode, .layout]) b b.linkRelease :=
  agree_of_keeps (Block.linkRelease_keeps (sub_refl _) (Keeps.refl _ _)) (by decide)

/-- Neither the block state nor the channels in service depend on the link. -/
theorem startLink_same (b : Block) : Part.same .mode b (startLink b) ∧ Part.same .layout b (startLink b) := by
  unfold startLink
  extract_lets sync b₁ b₂
  have hevent : Part.same .mode b b₂ ∧ Part.same .layout b b₂ := by
    subst b₂
    split
    · have h := event_frame { b₁ with l3Done := false } pgGlb 9 0 0
      exact ⟨h .mode (by decide), h .layout (by decide)⟩
    · exact ⟨same_refl .mode b, same_refl .layout b⟩
  obtain ⟨hmode, hlayout⟩ := hevent
  have hlink := linkRelease_frame b₂
  exact ⟨same_trans hmode (hlink .mode (by decide)), same_trans hlayout (hlink .layout (by decide))⟩

theorem initialisationEnd_gives {s : State} (failed : List (BitVec 16)) (hr : Runs s) (hoff : s.blk.st = .off) :
    Gives (.initialisationEnd failed) s (startLink ((s.blk.takeTests (failed.map (·.toNat))).computeLayout.enterState .load)) := by
  show execInitialisationEnd failed s = _
  unfold execInitialisationEnd
  rw [core_runs hr, if_neg (by simp [hoff])]
  rfl

/-! ### GO_READY -/

theorem goReady_gives {s : State} {path : Nat} (ht : Takes s path Reg.GLB_CTL) : Gives (.goReady path) s (s.blk.goReady path) :=
  write_takes ht

theorem goReady_enters {b : Block} {path : Nat} (hl : b.st = .load) (hc : b.readyCode = 0) : b.goReady path = b.enterReady := by
  unfold Block.goReady
  simp only [hl, hc, ne_eq, not_true_eq_false, if_false, if_true]

theorem goReady_refuses {b : Block} {path : Nat} (hl : b.st = .load) (hc : b.readyCode ≠ 0) :
    b.goReady path = b.setReg Reg.GLB_REFUSE b.readyCode := by
  unfold Block.goReady
  simp only [hl, hc, ne_eq, not_true_eq_false, if_false]

theorem poolEvents_keeps (b : Block) (l : List Nat) :
    Keeps 2176 b (l.foldl (fun b s => if nth b.chanOk s = 65535 then b else b.poolEvent 3 s) b) := by
  refine Keeps.foldl (fun b s h => ?_) _ (Keeps.refl _ _)
  exact Keeps.choice (fun _ => h) fun _ => Block.poolEvent_keeps rfl h

theorem enterReady_st (b : Block) : b.enterReady.st = .ready :=
  (((poolEvents_keeps _ _ .mode).resolve_left (by decide)).symm).trans (enterState_st ..)

/-- Once the tables are written and KQ0 is open, the entry to READY leaves the tables, the contexts and the queues as they are. -/
theorem enterReady_frame (b : Block) :
    agreeBut [.mode, .regs, .events, .stamps, .cadence, .lamplighter, .microcode, .ports, .stop, .cinder]
      b.writeCaps.openKq0 b.enterReady := by
  refine agree_of_keeps (m := 13206487632008) ?_ (by decide)
  have hstate : Keeps 13206487632008 b.writeCaps.openKq0 ((b.writeCaps.openKq0.startCore b.mc.active).startCadence.enterState .ready) :=
    Block.enterState_keeps rfl (Block.startCadence_keeps rfl (Block.startCore_keeps rfl (Keeps.refl _ _)))
  exact hstate.trans (.mono (m := 2176) rfl (poolEvents_keeps _ _))

theorem queue_of {a b : Block} {q : Nat} (h : Part.same .queues a b) : b.queue q = a.queue q := by
  obtain ⟨hqueues, _⟩ := h
  unfold Block.queue
  rw [hqueues]

theorem openKq0_queue (b : Block) : (b.openKq0.queue 0).st = .active ∧ (b.openKq0.queue 0).ctx = 0 := by
  unfold Block.openKq0
  rw [Block.setQueue_self]
  exact ⟨rfl, rfl⟩

theorem openKq0_ctx (b : Block) : (b.openKq0.ctx 0).st = .opn := by
  unfold Block.openKq0
  rw [Block.setQueue_ctx, Block.setCtx_self]

/-! ### GO_RUN -/

theorem goRun_gives {s : State} {path : Nat} (ht : Takes s path Reg.GLB_CTL) : Gives (.goRun path) s (s.blk.goRun path) :=
  write_takes ht

theorem goRun_enters {b : Block} {path : Nat} (hst : b.st = .ready) (hring : b.reg Reg.ZT_FCR_SIZE ≠ 0) :
    b.goRun path = (b.enterState .run).lightAll := by
  unfold Block.goRun
  simp only [hst, hring, ne_eq, not_true_eq_false, if_false]

theorem goRun_refuses {b : Block} {path : Nat} (hst : b.st = .ready) (hring : b.reg Reg.ZT_FCR_SIZE = 0) :
    b.goRun path = b.setReg Reg.GLB_REFUSE 8 := by
  unfold Block.goRun
  simp only [hst, hring, ne_eq, not_true_eq_false, if_false, if_true]

theorem lightAll_st (b : Block) : b.lightAll.st = b.st := rfl

/-- Settles O13: each row by what it enters, and what stands there is what no later step of the row touches. The checks of GO_READY
are R479, the tables and KQ0 are R480, and reason 8 of GO_RUN is R481. -/
theorem startRows : Obligations.StartRows := by
  unfold Obligations.StartRows
  intro s
  refine ⟨?_, ?_, ?_, ?_, ?_⟩
  · intro failed hr hoff
    obtain ⟨hmode, hlink, _⟩ := startLink_same ((s.blk.takeTests (failed.map (·.toNat))).computeLayout.enterState .load)
    obtain ⟨hload, _⟩ := enterState_layout (s.blk.takeTests (failed.map (·.toNat))).computeLayout .load
    exact ⟨_, initialisationEnd_gives failed hr hoff, hmode.symm.trans (enterState_st ..),
      (hload.trans hlink).symm.trans (takeTests_chanOk ..)⟩
  · intro path ht hload hcode
    have hg := goReady_gives ht
    rw [goReady_enters hload hcode] at hg
    have hframe := enterReady_frame s.blk
    obtain ⟨_, htable⟩ := hframe .tables (by decide)
    have hqueue : s.blk.enterReady.queue 0 = s.blk.writeCaps.openKq0.queue 0 := queue_of (hframe .queues (by decide))
    have hctx : s.blk.enterReady.ctx 0 = s.blk.writeCaps.openKq0.ctx 0 := ctx_of (hframe .contexts (by decide))
    refine ⟨hg, enterReady_st _, htable.symm, ?_⟩
    rw [hqueue, hctx]
    obtain ⟨hact, hzero⟩ := openKq0_queue s.blk.writeCaps
    exact ⟨hact, hzero, openKq0_ctx _⟩
  · intro path ht hload hcode
    have hg := goReady_gives ht
    rwa [goReady_refuses hload hcode] at hg
  · intro path ht hready hring
    have hg := goRun_gives ht
    rw [goRun_enters hready hring] at hg
    exact ⟨hg, (lightAll_st _).trans (enterState_st ..)⟩
  · intro path ht hready hring
    have hg := goRun_gives ht
    rwa [goRun_refuses hready hring] at hg

end Sys2Proof.Proofs
end

section
/-!
SUPPORT. The Credit Ledger: a closing and what it keeps (R325), a re-base and its terms (R329), and commit wicks (R331).
-/
namespace Sys2Proof.Proofs

open Sys2Proof Sys2Proof.Machine Sys2Proof.Safety Sys2Proof.Laws

/-! ### Closings -/

/-- The check of accounts writes no more than what it found, where it found something (R327). -/
theorem checkAccounts_frame (l : List (Nat × Nat)) (b : Block) :
    agreeBut [.regs, .events, .ports, .stop, .cinder] b (l.foldl Block.checkAccount b) := by
  refine agree_of_keeps (m := 13202729470080) (Keeps.foldl (fun b x h => ?_) _ (Keeps.refl _ _)) (by decide)
  exact Block.checkAccount_keeps rfl h

theorem count64_frame (b : Block) (lo k : Nat) : agreeBut [.regs] b (b.count64 lo k) :=
  agree_of_keeps (Block.count64_keeps (sub_refl _) (Keeps.refl _ _)) (by decide)

/-- A closing is due by the time of the last one alone. -/
theorem closingDue_of {a b : Block} (hl : Part.same .ledger a b) (hc : Part.same .clocks a b) : b.closingDue = a.closingDue := by
  obtain ⟨hz, _⟩ := hc
  have hl : a.ledger = b.ledger := hl
  unfold Block.closingDue
  rw [hl, hz]

/-- A closing at any step boundary, where one of every account is due, keeps its time and nothing else of the ledger. -/
theorem closeAt_ledger {b : Block} {hs : List Nat} (hne : hs.isEmpty = false) (hdue : b.closingDue = true) :
    (b.closeAt hs).ledger = { b.ledger with last := some b.zclk } := by
  unfold Block.closeAt
  rw [if_neg (by simp [hne])]
  extract_lets b₁ b₂
  have hcount := count64_frame b Reg.LG_CLOSES_LO 1
  have hcheck : agreeBut [.regs, .events, .ports, .stop, .cinder] b₁ b₂ := by
    subst b₂
    rw [← List.foldl_map (f := fun h => (2, h)) (g := Block.checkAccount)]
    exact checkAccounts_frame _ _
  have hled := same_trans (hcount .ledger (by decide)) (hcheck .ledger (by decide))
  have hclk := same_trans (hcount .clocks (by decide)) (hcheck .clocks (by decide))
  rw [if_pos ((closingDue_of hled hclk).trans hdue)]
  have hstamp : { b₂.ledger with last := some b₂.zclk } = { b.ledger with last := some b.zclk } := by
    obtain ⟨hz, _⟩ := hclk
    have hled : b.ledger = b₂.ledger := hled
    rw [hled, hz]
  exact (checkAccounts_frame _ { b₂ with ledger := { b₂.ledger with last := some b₂.zclk } } .ledger (by decide)).symm.trans hstamp

theorem closeAll_ledger {b : Block} (hdue : b.closingDue = true) : b.closeAll.ledger = { b.ledger with last := some b.zclk } :=
  closeAt_ledger rfl hdue

theorem ledgerClosing_gives {s : State} (hr : Runs s) :
    Gives .ledgerClosing s (if s.blk.st = .run ∧ s.blk.closingDue then s.blk.closeAll else s.blk) := core_runs hr

/-! ### Re-bases -/

theorem ledgerStorageUe_gives {s : State} (hr : Runs s) : Gives .ledgerStorageUe s ((s.blk.plainUe pgLg).rebase 1) :=
  core_runs (f := fun b => (b.plainUe pgLg).rebase 1) hr

/-- The status, record and event of a re-base leave the terms that it took (R329). -/
theorem rebase_ledger (b : Block) (cause : Nat) : (b.rebase cause).ledger = b.rebaseTerms.ledger :=
  (recorded_frame _ _ _ _ _ _ _ _ _ _ .ledger (by decide)).symm

/-- The signals held are all that a re-base has issued and none has been applied; the time of the last closing stays. -/
theorem rebase_terms (b : Block) (cause : Nat) : (b.rebase cause).ledger.issued = b.heldSigs.length ∧ (b.rebase cause).ledger.applied = 0
    ∧ (b.rebase cause).ledger.last = b.ledger.last := by
  rw [rebase_ledger]
  exact ⟨rfl, rfl, rfl⟩

/-! ### Commit wicks -/

theorem commitWickEnable_gives {s : State} {path : Nat} (v : BitVec 32) (ht : Takes s path Reg.LG_H_COMMIT) :
    Gives (.commitWickEnable path v) s (s.blk.commitWrite path (v.toNat ||| 2 ^ 31)) := write_takes ht

theorem commitWrite_enables {b : Block} {path v : Nat} (hen : bit v 31 = true) (hopen : (b.ctx (bits v 27 16)).st = .opn)
    (hbell : isDoorbell (bits v 15 0) = false) (hfree : (b.harness (b.field Reg.LG_H_SEL 5 0)).st ≠ .free)
    (hslot : (b.vid (bits v 27 16) (bits v 15 0)).slot?.isSome = true) (himp : (b.vid (bits v 27 16) (bits v 15 0)).isImport = false) :
    b.commitWrite path v = b.setHarness (b.field Reg.LG_H_SEL 5 0)
      { b.harness (b.field Reg.LG_H_SEL 5 0) with commitEn := true, commitCtx := bits v 27 16, commitVid := bits v 15 0 } := by
  have hnone : (b.vid (bits v 27 16) (bits v 15 0)).slot?.isNone = false := by simpa using hslot
  unfold Block.commitWrite
  simp [hen, hopen, hbell, hfree, hnone, himp]

theorem commitWrite_closed {b : Block} {path v : Nat} (hen : bit v 31 = true) (hctx : (b.ctx (bits v 27 16)).st ≠ .opn) :
    b.commitWrite path v = b.pageErr path Reg.LG_H_COMMIT := by
  unfold Block.commitWrite
  simp only [hen, hctx, ne_eq, not_false_eq_true, true_or, if_true]

theorem pageErr_frame (b : Block) (path a : Nat) : agreeBut [.regs, .events] b (b.pageErr path a) :=
  agree_of_keeps (Block.pageErr_keeps (sub_refl _) (Keeps.refl _ _)) (by decide)

/-- Settles O38: a closing by whether it is due, a re-base by its terms, and a commit wick by what it names. That a closing outside RUN
changes nothing is log entry 2. -/
theorem ledgerRows : Obligations.LedgerRows := by
  unfold Obligations.LedgerRows
  intro s
  refine ⟨?_, ?_, ?_, ?_, ?_⟩
  · intro hr hrun hdue
    have hg := ledgerClosing_gives hr
    rw [if_pos ⟨hrun, hdue⟩] at hg
    exact ⟨hg, closeAll_ledger hdue⟩
  · intro hr hrun
    have hg := ledgerClosing_gives hr
    rwa [if_neg fun h => hrun h.1] at hg
  · intro hr
    have hue := plainUe_frame s.blk pgLg
    have hled : s.blk.ledger = _ := hue .ledger (by decide)
    obtain ⟨_, _, hheld⟩ := hue .waits (by decide)
    refine ⟨ledgerStorageUe_gives hr, ?_⟩
    rw [hled, hheld]
    exact rebase_terms _ _
  · rintro path v _ _ _ ht rfl rfl rfl hen hopen hbell hfree hslot himp
    have hg := commitWickEnable_gives v ht
    rw [commitWrite_enables hen hopen hbell hfree hslot himp] at hg
    exact ⟨hg, congrArg Harness.commitEn (Block.setHarness_self ..), congrArg Harness.commitCtx (Block.setHarness_self ..),
      congrArg Harness.commitVid (Block.setHarness_self ..)⟩
  · intro path v ht hen hctx
    have hg := commitWickEnable_gives v ht
    rw [commitWrite_closed hen hctx] at hg
    have hharness : s.blk.harnesses = _ := pageErr_frame s.blk path Reg.LG_H_COMMIT .harnesses (by decide)
    exact ⟨hg, hharness.symm⟩

end Sys2Proof.Proofs
end

section
/-!
SUPPORT. The coherence domain: the messages to and from an agent (R339, R343, R345, R346).
-/
namespace Sys2Proof.Proofs

open Sys2Proof Sys2Proof.Machine Sys2Proof.Safety Sys2Proof.Laws

/-! ### Lines, the directory and transactions -/

/-- What a search finds is found among the elements kept, where it is one of them. -/
theorem find?_filter_kept {α : Type} {p q : α → Bool} {l : List α} {x : α} (h : l.find? q = some x) (hp : p x = true) :
    (l.filter p).find? q = some x := by
  obtain ⟨hq, before, after, rfl, hbefore⟩ := List.find?_eq_some_iff_append.1 h
  rw [List.filter_append, List.filter_cons_of_pos hp]
  exact List.find?_eq_some_iff_append.2 ⟨hq, _, _, rfl, fun y hy => hbefore y (List.mem_filter.1 hy).1⟩

/-- A change of the elements that are sought, at the first of them. -/
theorem find?_mapIf_self {α : Type} {p : α → Bool} {f : α → α} (hf : ∀ x, p (f x) = p x) (l : List α) :
    (mapIf p f l).find? p = (l.find? p).map f := by
  have hp : (p ∘ fun x => if p x = true then f x else x) = p := by
    funext x
    simp only [Function.comp]
    split
    · exact hf x
    · rfl
  unfold mapIf
  rw [List.find?_map, hp]
  cases hx : l.find? p with
  | none => rfl
  | some x => exact congrArg some (if_pos (List.find?_some hx))

theorem dropLine_lineOf (b : Block) (a line : Nat) : (b.dropLine a line).lineOf a line = none := by
  refine List.find?_eq_none.2 fun l hl hfound => ?_
  have hkept : (!decide (l.agent = a ∧ l.line = line)) = true := (List.mem_filter.1 hl).2
  rw [hfound] at hkept
  exact Bool.false_ne_true hkept

theorem setLine_lineOf (b : Block) (a line : Nat) (st : LineSt) (data : BitVec 512) :
    (b.setLine a line st data).lineOf a line = some { agent := a, line := line, st := st, data := data } := by
  have hnone : (b.dropLine a line).coh.caches.find? (fun l => decide (l.agent = a ∧ l.line = line)) = none := dropLine_lineOf b a line
  show ((b.dropLine a line).coh.caches ++ [_]).find? _ = _
  rw [List.find?_append, hnone]
  simp

@[simp] theorem ccMod_lineData (b : Block) (f : Coherence → Coherence) (line : Nat) : (b.ccMod f).lineData line = b.lineData line := rfl

@[simp] theorem ccSend_lineData (b : Block) (ms : List Msg) (line : Nat) : (b.ccSend ms).lineData line = b.lineData line :=
  ccMod_lineData ..

@[simp] theorem modTxn_lineData (b : Block) (l : Nat) (f : Txn → Txn) (line : Nat) : (b.modTxn l f).lineData line = b.lineData line :=
  ccMod_lineData ..

@[simp] theorem setLine_lineData (b : Block) (a l : Nat) (st : LineSt) (data : BitVec 512) (line : Nat) :
    (b.setLine a l st data).lineData line = b.lineData line := (ccMod_lineData ..).trans (ccMod_lineData ..)

@[simp] theorem ccSend_lineOf (b : Block) (ms : List Msg) (a line : Nat) : (b.ccSend ms).lineOf a line = b.lineOf a line := rfl

@[simp] theorem modTxn_lineOf (b : Block) (l : Nat) (f : Txn → Txn) (a line : Nat) : (b.modTxn l f).lineOf a line = b.lineOf a line := rfl

@[simp] theorem ccEnd_lineOf (b : Block) (l a line : Nat) : (b.ccEnd l).lineOf a line = b.lineOf a line := rfl

@[simp] theorem setDir_lineOf (b : Block) (d : DirEnt) (a line : Nat) : (b.setDir d).lineOf a line = b.lineOf a line := rfl

theorem setDir_dirOf (b : Block) (d : DirEnt) :
    (b.setDir d).dirOf d.line = some { d with coarse := d.coarse || decide (4 < d.sharers.length) } :=
  List.find?_cons_of_pos (decide_eq_true rfl)

theorem modTxn_txn {b : Block} {line : Nat} {f : Txn → Txn} (hf : ∀ t, (f t).line = t.line) :
    (b.modTxn line f).txn line = (b.txn line).map f :=
  find?_mapIf_self (fun t => by rw [hf]) _

/-- A transaction that awaits an answer is not done. -/
theorem ccEnd_txn {b : Block} {line : Nat} {t : Txn} (ht : b.txn line = some t) (hw : t.await ≠ []) : (b.ccEnd line).txn line = some t :=
  find?_filter_kept ht (by simp [hw])

/-- The departure of a holder changes the directory alone. -/
theorem dropHolder_requests (b : Block) (line a : Nat) :
    (b.dropHolder line a).coh.txns = b.coh.txns ∧ (b.dropHolder line a).coh.queue = b.coh.queue := by
  unfold Block.dropHolder
  split
  · exact ⟨rfl, rfl⟩
  · dsimp only
    split
    · exact ⟨rfl, rfl⟩
    · split <;> exact ⟨rfl, rfl⟩

/-- The spill of a line writes memory, and takes free values (log entry 9). -/
theorem ccSpill_frame (b : Block) (line : Nat) : agreeBut [.free, .dev] b (b.ccSpill line) :=
  agree_of_keeps (Block.ccSpill_keeps (sub_refl _) (Keeps.refl _ _)) (by decide)

/-! ### The home with nothing waiting -/

theorem ccGo_idle {b : Block} (h : b.coh.queue = []) : b.ccGo = b := by
  have hmove : b.ccMove = none := by
    unfold Block.ccMove
    rw [h]
    rfl
  unfold Block.ccGo Block.ccPump
  rw [hmove]

theorem ccTaken_idle {b : Block} (line a : Nat) (h : b.coh.queue = []) :
    b.ccTaken line a = (b.modTxn line fun t => if t.agent = a then { t with taken := true } else t).ccEnd line := ccGo_idle h

theorem ccAnswer_unawaited {b : Block} {line : Nat} (a : Nat) (fwd : Bool) (h : b.txn line = none) : b.ccAnswer line a fwd = b := by
  unfold Block.ccAnswer
  rw [h]

/-- The directory after an answer of `a` to a snoop of transaction `t`: a forward makes the requester the Lead, an invalidation takes
the holder out (R345). -/
def dirAnswered (b : Block) (t : Txn) (line a : Nat) (fwd : Bool) : Block :=
  if fwd then match b.dirOf line with
    | some d => b.setDir { d with st := .l, lead := t.agent, sharers := dedup (d.sharers ++ [t.agent]) }
    | none => b
  else if t.kind = .rdNa then b
  else b.dropHolder line a

theorem dirAnswered_requests (b : Block) (t : Txn) (line a : Nat) (fwd : Bool) :
    (dirAnswered b t line a fwd).coh.txns = b.coh.txns ∧ (dirAnswered b t line a fwd).coh.queue = b.coh.queue := by
  unfold dirAnswered
  split
  · split <;> exact ⟨rfl, rfl⟩
  · split
    · exact ⟨rfl, rfl⟩
    · exact dropHolder_requests b line a

/-- The transaction no longer awaits `a`. -/
def unawait (b : Block) (line a : Nat) : Block := b.modTxn line fun t => { t with await := t.await.erase a }

theorem unawait_txn {b : Block} {line : Nat} {t : Txn} (a : Nat) (ht : b.txn line = some t) :
    (unawait b line a).txn line = some { t with await := t.await.erase a } := by
  have hmod := modTxn_txn (b := b) (line := line) (f := fun t : Txn => { t with await := t.await.erase a }) fun _ => rfl
  rwa [ht] at hmod

theorem dirAnswered_txn {b : Block} {line a : Nat} {t : Txn} (fwd : Bool) (ht : b.txn line = some t) :
    (dirAnswered (unawait b line a) t line a fwd).txn line = some { t with await := t.await.erase a } := by
  obtain ⟨htxns, -⟩ := dirAnswered_requests (unawait b line a) t line a fwd
  unfold Block.txn
  rw [htxns]
  exact unawait_txn a ht

/-- An answer that is not the last one awaited. -/
theorem ccAnswer_more {b : Block} {line a x : Nat} {l : List Nat} {t : Txn} (fwd : Bool) (ht : b.txn line = some t)
    (hw : t.await = a :: x :: l) (hq : b.coh.queue = []) :
    b.ccAnswer line a fwd = (dirAnswered (unawait b line a) t line a fwd).ccEnd line := by
  obtain ⟨-, hqueue⟩ := dirAnswered_requests (unawait b line a) t line a fwd
  unfold Block.ccAnswer
  rw [ht]
  show (if (!t.await.contains a) = true then b else _) = _
  rw [if_neg (by simp [hw])]
  extract_lets b₁ b₂
  have hafter : b₂.txn line = some { t with await := t.await.erase a } := dirAnswered_txn fwd ht
  rw [hafter]
  dsimp only
  rw [if_neg (by simp [hw])]
  exact ccGo_idle (hqueue.trans hq)

theorem ccAnswer_more_await {b : Block} {line a x : Nat} {l : List Nat} {t : Txn} (fwd : Bool) (ht : b.txn line = some t)
    (hw : t.await = a :: x :: l) (hq : b.coh.queue = []) : ((b.ccAnswer line a fwd).txn line).map (·.await) = some (x :: l) := by
  have hleft : t.await.erase a = x :: l := by rw [hw, List.erase_cons_head]
  rw [ccAnswer_more fwd ht hw hq, ccEnd_txn (dirAnswered_txn fwd ht) (by simp [hleft])]
  exact congrArg some hleft

/-- The requester is the Lead once the former one has forwarded the line (R345). -/
theorem ccAnswer_more_dir {b : Block} {line a x : Nat} {l : List Nat} {t : Txn} {d : DirEnt} (ht : b.txn line = some t)
    (hw : t.await = a :: x :: l) (hq : b.coh.queue = []) (hd : b.dirOf line = some d) :
    ((b.ccAnswer line a true).dirOf line).map (·.st) = some .l ∧ ((b.ccAnswer line a true).dirOf line).map (·.lead) = some t.agent := by
  obtain rfl : d.line = line := by simpa using List.find?_some hd
  have hdir : dirAnswered (unawait b d.line a) t d.line a true
      = (unawait b d.line a).setDir { d with st := .l, lead := t.agent, sharers := dedup (d.sharers ++ [t.agent]) } := by
    have hd : (unawait b d.line a).dirOf d.line = some d := hd
    unfold dirAnswered
    rw [hd]
    rfl
  have hset := setDir_dirOf (unawait b d.line a) { d with st := .l, lead := t.agent, sharers := dedup (d.sharers ++ [t.agent]) }
  rw [ccAnswer_more true ht hw hq, hdir]
  exact ⟨congrArg (Option.map (·.st)) hset, congrArg (Option.map (·.lead)) hset⟩

/-! ### Snoops -/

theorem ccSnoop_reserved {b : Block} {k : MsgKind} {a line : Nat} {f : Msg → Block → Block} (h : 5 ≤ a ∧ a < 8) :
    b.ccSnoop k a line f = b.ccDown 3 a := if_pos h

theorem ccSnoop_takes {b : Block} {k : MsgKind} {a line : Nat} {f : Msg → Block → Block} {m : Msg} (ha : ¬(5 ≤ a ∧ a < 8))
    (hm : b.msg? k a line = some m) : b.ccSnoop k a line f = f m (b.dropMsg m) := by
  unfold Block.ccSnoop
  rw [if_neg ha, hm]

/-- What SNP_FWD does at a holder in state `st`: the line goes to `req` in L, by way of memory from M, and stays in S (R345). -/
def forwarded (b : Block) (a line req : Nat) (st : LineSt) : Block :=
  let b := if st = .m then b.ccSpill line else b
  let data := b.lineData line
  let b := b.setLine a line .s data
  let b := b.modTxn line fun t => { t with out := true }
  b.ccSend [{ kind := .data, agent := req, line := line, grant := some .l, data := data }, { kind := .ackFwd, agent := a, line := line }]

theorem forwarded_line (b : Block) (a line req : Nat) (st : LineSt) : ((forwarded b a line req st).lineOf a line).map (·.st) = some .s := by
  unfold forwarded
  extract_lets b₁ data b₂ b₃
  rw [ccSend_lineOf, modTxn_lineOf, setLine_lineOf]
  rfl

theorem forwarded_sends (b : Block) (a line req : Nat) (st : LineSt) :
    ({ kind := .ackFwd, agent := a, line := line } : Msg) ∈ (forwarded b a line req st).coh.msgs
      ∧ ({ kind := .data, agent := req, line := line, grant := some .l, data := (forwarded b a line req st).lineData line } : Msg)
        ∈ (forwarded b a line req st).coh.msgs := by
  unfold forwarded
  extract_lets b₁ data b₂ b₃
  rw [ccSend_lineData, modTxn_lineData, setLine_lineData]
  exact ⟨List.mem_append_right _ (List.mem_cons_of_mem _ (List.mem_singleton_self _)), List.mem_append_right _ List.mem_cons_self⟩

/-- An invalidated agent gives the line up, and says so (R345). -/
theorem ccInvalidate_leaves (b : Block) (a line : Nat) : (b.ccInvalidate a line).lineOf a line = none
    ∧ ({ kind := .ackInv, agent := a, line := line } : Msg) ∈ (b.ccInvalidate a line).coh.msgs :=
  ⟨dropLine_lineOf _ a line, List.mem_append_right _ (List.mem_singleton_self _)⟩

/-- What SNP_WB does at an M holder: the line goes to memory and stays in E, at its agent alone (R345). -/
def writtenBack (b : Block) (a line : Nat) : Block :=
  let b := b.ccSpill line
  let b := b.setLine a line .e (b.lineData line)
  b.setDir { line := line, way := b.freeWay line, st := .e, lead := a, sharers := [a] }

theorem writtenBack_txn (b : Block) (a line : Nat) : (writtenBack b a line).txn line = b.txn line := by
  have hcoh : b.coh = (b.ccSpill line).coh := ccSpill_frame b line .coherence (by decide)
  show (b.ccSpill line).txn line = _
  unfold Block.txn
  rw [← hcoh]

theorem writtenBack_line (b : Block) (a line : Nat) : ((writtenBack b a line).lineOf a line).map (·.st) = some .e := by
  unfold writtenBack
  extract_lets b₁ b₂
  rw [setDir_lineOf, setLine_lineOf]
  rfl

theorem writtenBack_dir (b : Block) (a line : Nat) :
    ((writtenBack b a line).dirOf line).map (·.st) = some .e ∧ ((writtenBack b a line).dirOf line).map (·.lead) = some a := by
  unfold writtenBack
  extract_lets b₁ b₂
  rw [setDir_dirOf b₂ { line := line, way := b₂.freeWay line, st := .e, lead := a, sharers := [a] }]
  exact ⟨rfl, rfl⟩

/-! ### Writes that end -/

theorem ccJournal_writes (b : Block) (a line : Nat) :
    (b.ccJournal a line).coh.wbuf = b.coh.wbuf ∧ (b.ccJournal a line).coh.queue = b.coh.queue := by
  unfold Block.ccJournal
  split
  · exact ⟨rfl, rfl⟩
  · split <;> exact ⟨rfl, rfl⟩

/-- A write that CMP ends leaves its buffer, its writer holds the line in E where it held it, and the journal takes note (R341, R343,
R351). -/
def writeDone (b : Block) (a line : Nat) (w : WBuf) : Block :=
  let b := b.ccMod fun c => { c with wbuf := c.wbuf.erase w }
  let b := if (b.lineOf a line).isSome then b.setLine a line .e (b.lineData line) else b
  b.ccJournal a line

theorem writeDone_writes (b : Block) (a line : Nat) (w : WBuf) :
    (writeDone b a line w).coh.wbuf = b.coh.wbuf.erase w ∧ (writeDone b a line w).coh.queue = b.coh.queue := by
  unfold writeDone
  extract_lets b₁ b₂
  have hline : b₂.coh.wbuf = b.coh.wbuf.erase w ∧ b₂.coh.queue = b.coh.queue := by
    subst b₂
    split <;> exact ⟨rfl, rfl⟩
  obtain ⟨hwbuf, hqueue⟩ := hline
  obtain ⟨hj, hjq⟩ := ccJournal_writes b₂ a line
  exact ⟨hj.trans hwbuf, hjq.trans hqueue⟩

/-! ### The rows, with the domain up after OFF -/

section
variable {s : State} {a line : Nat} {m : Msg} (hr : Runs s) (hlive : s.blk.ccLive = true) (hup : s.blk.down = false)
include hr hlive hup

theorem snpFwd_gives_absent (ha : ¬(5 ≤ a ∧ a < 8)) (hm : s.blk.msg? .snpFwd a line = some m) (hl : s.blk.lineOf a line = none) :
    Gives (.snpFwd a line) s ((s.blk.dropMsg m).ccSend [{ kind := .ackInv, agent := a, line := line }]) := by
  show execSnpFwd a line s = _
  have hl : (s.blk.dropMsg m).lineOf a line = none := hl
  unfold execSnpFwd
  rw [cc_runs hr hlive hup, ccSnoop_takes ha hm, hl]

theorem snpFwd_gives_shared {l : CLine} (ha : ¬(5 ≤ a ∧ a < 8)) (hm : s.blk.msg? .snpFwd a line = some m)
    (hl : s.blk.lineOf a line = some l) (hst : l.st = .s) : Gives (.snpFwd a line) s ((s.blk.dropMsg m).ccDown 3 a) := by
  show execSnpFwd a line s = _
  have hl : (s.blk.dropMsg m).lineOf a line = some l := hl
  unfold execSnpFwd
  rw [cc_runs hr hlive hup, ccSnoop_takes ha hm, hl]
  dsimp only
  rw [if_pos hst]

theorem snpFwd_gives_forward {l : CLine} (ha : ¬(5 ≤ a ∧ a < 8)) (hm : s.blk.msg? .snpFwd a line = some m)
    (hl : s.blk.lineOf a line = some l) (hst : l.st ≠ .s) :
    Gives (.snpFwd a line) s (forwarded (s.blk.dropMsg m) a line m.req l.st) := by
  show execSnpFwd a line s = _
  have hl : (s.blk.dropMsg m).lineOf a line = some l := hl
  unfold execSnpFwd
  rw [cc_runs hr hlive hup, ccSnoop_takes ha hm, hl]
  dsimp only
  rw [if_neg hst]
  rfl

/-- A snoop of an agent ID that no agent has (R332). -/
theorem snoops_give_reserved (ha : 5 ≤ a ∧ a < 8) :
    Gives (.snpFwd a line) s (s.blk.ccDown 3 a) ∧ Gives (.snpInv a line) s (s.blk.ccDown 3 a)
      ∧ Gives (.snpBinv a line) s (s.blk.ccDown 3 a) ∧ Gives (.snpWb a line) s (s.blk.ccDown 3 a) := by
  have row {k : MsgKind} {f : Msg → Block → Block} :
      s.cc (fun b => b.ccSnoop k a line f) = .next { s with blk := s.blk.ccDown 3 a } := by
    rw [cc_runs hr hlive hup, ccSnoop_reserved ha]
  exact ⟨row, row, row, row⟩

theorem snpInv_gives (ha : ¬(5 ≤ a ∧ a < 8)) (hm : s.blk.msg? .snpInv a line = some m) :
    Gives (.snpInv a line) s ((s.blk.dropMsg m).ccInvalidate a line) := by
  show execSnpInv a line s = _
  unfold execSnpInv
  rw [cc_runs hr hlive hup, ccSnoop_takes ha hm]

theorem snpBinv_gives (ha : ¬(5 ≤ a ∧ a < 8)) (hm : s.blk.msg? .snpBinv a line = some m) :
    Gives (.snpBinv a line) s ((s.blk.dropMsg m).ccInvalidate a line) := by
  show execSnpBinv a line s = _
  unfold execSnpBinv
  rw [cc_runs hr hlive hup, ccSnoop_takes ha hm]

theorem snpWb_gives_absent (ha : ¬(5 ≤ a ∧ a < 8)) (hm : s.blk.msg? .snpWb a line = some m) (hl : s.blk.lineOf a line = none) :
    Gives (.snpWb a line) s ((s.blk.dropMsg m).ccAnswer line a false) := by
  show execSnpWb a line s = _
  have hl : (s.blk.dropMsg m).lineOf a line = none := hl
  unfold execSnpWb
  rw [cc_runs hr hlive hup, ccSnoop_takes ha hm, hl]
  rfl

theorem snpWb_gives_dirty {l : CLine} (ha : ¬(5 ≤ a ∧ a < 8)) (hm : s.blk.msg? .snpWb a line = some m)
    (hl : s.blk.lineOf a line = some l) (hst : l.st = .m) :
    Gives (.snpWb a line) s ((writtenBack (s.blk.dropMsg m) a line).ccAnswer line a false) := by
  show execSnpWb a line s = _
  have hl : ((s.blk.dropMsg m).lineOf a line).map (·.st) = some .m := by
    rw [← hst]
    exact congrArg (Option.map (·.st)) hl
  unfold execSnpWb
  rw [cc_runs hr hlive hup, ccSnoop_takes ha hm]
  dsimp only
  rw [if_pos hl]
  rfl

theorem ackInv_gives (hm : s.blk.msg? .ackInv a line = some m) : Gives (.ackInv a line) s ((s.blk.dropMsg m).ccAnswer line a false) := by
  show execAckInv a line s = _
  unfold execAckInv Block.ccReply
  rw [cc_runs hr hlive hup, hm]
  rfl

theorem ackFwd_gives (hm : s.blk.msg? .ackFwd a line = some m) : Gives (.ackFwd a line) s ((s.blk.dropMsg m).ccAnswer line a true) := by
  show execAckFwd a line s = _
  unfold execAckFwd Block.ccReply
  rw [cc_runs hr hlive hup, hm]
  rfl

/-- Without an acknowledgement on its way there is none to take (log entry 2). -/
theorem ackInv_gives_none (hm : s.blk.msg? .ackInv a line = none) : Gives (.ackInv a line) s s.blk := by
  show execAckInv a line s = _
  unfold execAckInv Block.ccReply
  rw [cc_runs hr hlive hup, hm]

theorem ackFwd_gives_none (hm : s.blk.msg? .ackFwd a line = none) : Gives (.ackFwd a line) s s.blk := by
  show execAckFwd a line s = _
  unfold execAckFwd Block.ccReply
  rw [cc_runs hr hlive hup, hm]

theorem cmp_gives_none (hm : s.blk.msg? .cmp a line = none) : Gives (.cmp a line) s (s.blk.ccDown 3 a) := by
  show execCmp a line s = _
  unfold execCmp
  rw [cc_runs hr hlive hup, hm]

/-- The CMP of an EVICT or WB that crossed a snoop ends nothing (R346; log entry 71). -/
theorem cmp_gives_crossed (hm : s.blk.msg? .cmp a line = some m) (hc : m.crossed = true) : Gives (.cmp a line) s (s.blk.dropMsg m) := by
  show execCmp a line s = _
  unfold execCmp
  rw [cc_runs hr hlive hup, hm]
  dsimp only
  rw [if_pos hc]

theorem cmp_gives_alone (hm : s.blk.msg? .cmp a line = some m) (hc : m.crossed = false) (ht : (s.blk.dropMsg m).txn line = none) :
    Gives (.cmp a line) s ((s.blk.dropMsg m).ccTaken line a) := by
  show execCmp a line s = _
  unfold execCmp
  rw [cc_runs hr hlive hup, hm]
  dsimp only
  rw [if_neg (by simp [hc]), ht]
  rfl

theorem cmp_gives_write {t : Txn} {w : WBuf} (hm : s.blk.msg? .cmp a line = some m) (hc : m.crossed = false)
    (ht : s.blk.txn line = some t) (hk : t.kind = .wrT ∨ t.kind = .wrNc)
    (hw : (s.blk.coh.wbuf.find? fun w => w.agent = a ∧ w.line = line) = some w) :
    Gives (.cmp a line) s ((writeDone (s.blk.dropMsg m) a line w).ccTaken line a) := by
  show execCmp a line s = _
  have ht : (s.blk.dropMsg m).txn line = some t := ht
  have hw : ((s.blk.dropMsg m).coh.wbuf.find? fun w => w.agent = a ∧ w.line = line) = some w := hw
  unfold execCmp
  rw [cc_runs hr hlive hup, hm]
  dsimp only
  rw [if_neg (by simp [hc]), ht, hw]
  simp only [Option.map_some, Option.getD_some, decide_eq_true hk, if_true]
  rfl

theorem data_gives_none (hm : s.blk.msg? .data a line = none) : Gives (.data a line) s (s.blk.ccDown 3 a) := by
  show execData a line s = _
  unfold execData
  rw [cc_runs hr hlive hup, hm]

theorem data_gives_grant {g : LineSt} (hm : s.blk.msg? .data a line = some m) (hg : m.grant = some g) :
    Gives (.data a line) s (((s.blk.dropMsg m).setLine a line g m.data).ccTaken line a) := by
  show execData a line s = _
  unfold execData
  rw [cc_runs hr hlive hup, hm]
  dsimp only
  rw [hg]

end

/-- Settles O49: snoops by what the agent holds, acknowledgements by what the transaction still awaits, CMP by the write that it ends and
DATA by its grant. That a CMP marked as crossed ends nothing is log entry 71 (R346); that an acknowledgement which is not there changes
nothing is log entry 2. -/
theorem cohAnswers : Obligations.CohAnswers := by
  unfold Obligations.CohAnswers
  intro s a line hr hlive hup
  refine ⟨?_, ?_, ?_, ?_, ?_, ?_, ?_, ?_, ?_, ?_, ?_, ?_, ackInv_gives_none hr hlive hup, ackFwd_gives_none hr hlive hup, ?_, ?_, ?_,
    cmp_gives_none hr hlive hup, ?_, data_gives_none hr hlive hup⟩
  · exact fun m ha hm hl => snpFwd_gives_absent hr hlive hup ha hm hl
  · intro m l ha hm hl hst
    obtain ⟨hack, hdata⟩ := forwarded_sends (s.blk.dropMsg m) a line m.req l.st
    exact ⟨_, snpFwd_gives_forward hr hlive hup ha hm hl hst, forwarded_line .., hack, hdata⟩
  · exact fun m l ha hm hl hst => snpFwd_gives_shared hr hlive hup ha hm hl hst
  · exact fun h5 h8 => snoops_give_reserved hr hlive hup ⟨h5, h8⟩
  · exact fun m ha hm => ⟨snpInv_gives hr hlive hup ha hm, ccInvalidate_leaves ..⟩
  · exact fun m ha hm => ⟨snpBinv_gives hr hlive hup ha hm, ccInvalidate_leaves ..⟩
  · exact fun m ha hm hl => snpWb_gives_absent hr hlive hup ha hm hl
  · intro m l ha hm hl hst ht
    have hg := snpWb_gives_dirty hr hlive hup ha hm hl hst
    have ht : (writtenBack (s.blk.dropMsg m) a line).txn line = none := (writtenBack_txn ..).trans ht
    rw [ccAnswer_unawaited a false ht] at hg
    exact ⟨_, hg, writtenBack_line .., writtenBack_dir ..⟩
  · exact fun m hm => ackInv_gives hr hlive hup hm
  · exact fun m t x l hm ht hw hq => ⟨_, ackInv_gives hr hlive hup hm, ccAnswer_more_await false ht hw hq⟩
  · exact fun m hm => ackFwd_gives hr hlive hup hm
  · exact fun m t x l d hm ht hw hq hd =>
      ⟨_, ackFwd_gives hr hlive hup hm, ccAnswer_more_await true ht hw hq, ccAnswer_more_dir ht hw hq hd⟩
  · exact fun m hm hc => cmp_gives_crossed hr hlive hup hm hc
  · exact fun m hm hc ht => cmp_gives_alone hr hlive hup hm hc ht
  · intro m t w hm hc ht hk hq hw
    have hg := cmp_gives_write hr hlive hup hm hc ht hk hw
    obtain ⟨hwbuf, hqueue⟩ := writeDone_writes (s.blk.dropMsg m) a line w
    rw [ccTaken_idle line a (hqueue.trans hq)] at hg
    exact ⟨_, hg, hwbuf⟩
  · intro m g hm hgrant
    have hg := data_gives_grant hr hlive hup hm hgrant
    refine ⟨hg, fun hq => ?_⟩
    have hq : ((s.blk.dropMsg m).setLine a line g m.data).coh.queue = [] := hq
    rw [ccTaken_idle line a hq] at hg
    exact ⟨_, hg, ((ccEnd_lineOf ..).trans (modTxn_lineOf ..)).trans (setLine_lineOf ..)⟩

end Sys2Proof.Proofs
end

section
/-!
SUPPORT. The coherence domain: its fall (R348, R350), the roll call (R350, R352) and the rebuild (R350, R351).
-/
namespace Sys2Proof.Proofs

open Sys2Proof Sys2Proof.Machine Sys2Proof.Safety Sys2Proof.Laws

/-! ### The fall -/

/-- Of the domain only the write buffers, the journal and, in a rebuild that starts again, the count of the pause outlive a fall (R343,
R350, R352). -/
def fallen (c : Coherence) (again : Bool) : Coherence := { c with
  dir := [], caches := [], msgs := [], txns := [], queue := [], fenced := [], phase := .rollCall, phaseCycles := 0
  downCycles := if again then c.downCycles else 0
  restarts := if again then c.restarts + 1 else 0 }

theorem ccDown_coh (b : Block) (cause a : Nat) : (b.ccDown cause a).coh = fallen b.coh b.down := by
  unfold Block.ccDown
  extract_lets again b₁ b₂
  have hcoh : b₂.coh = fallen b.coh b.down := congrArg (fallen · b.down) (Block.setReg_field_coh ..)
  split
  · exact (Block.setReg_field_coh ..).trans hcoh
  · exact hcoh

theorem withMicrocode_reg (b : Block) (m : Microcode) (x : Nat) : ({ b with mc := m } : Block).reg x = b.reg x := rfl

/-- CC_STS is written with its DOWN bit 1; the end of a handover writes MC_STS (R494). -/
theorem ccDown_down (b : Block) (cause a : Nat) : (b.ccDown cause a).down = true := by
  have hreg : (b.ccDown cause a).reg Reg.CC_STS = (cause * 2 ^ 24 + a % 512 * 2 ^ 9 + 1) % 2 ^ 32 := by
    unfold Block.ccDown
    extract_lets again b₁ b₂
    have hsts : b₂.reg Reg.CC_STS = (cause * 2 ^ 24 + a % 512 * 2 ^ 9 + 1) % 2 ^ 32 := (Block.ccMod_reg ..).trans (Block.setReg_self ..)
    split
    · rw [Block.setReg_other _ _ _ _ (by decide), withMicrocode_reg, hsts]
    · exact hsts
  unfold Block.down bit
  rw [hreg, Nat.testBit_zero, decide_eq_true_eq]
  omega

section
variable {s : State} (hr : Runs s)
include hr

theorem snoopTimeout_gives_down {line a : Nat} {t : Txn} {l : List Nat} (hlive : s.blk.ccLive = true) (hup : s.blk.down = false)
    (ht : s.blk.txn line = some t) (hw : t.await = a :: l) (hage : s.blk.field Reg.CC_SNP_TIMEOUT 15 0 * Config.cyclesUs ≤ t.age) :
    Gives (.snoopTimeout line) s (s.blk.ccDown 4 a) := by
  show execSnoopTimeout line s = _
  unfold execSnoopTimeout
  rw [cc_runs hr hlive hup, ht]
  dsimp only
  rw [hw]
  dsimp only
  rw [if_pos hage]

/-- Without an answer that the line awaits there is none to time out (log entry 2). -/
theorem snoopTimeout_gives_none {line : Nat} {t : Txn} (ht : s.blk.txn line = some t) (hw : t.await = []) :
    Gives (.snoopTimeout line) s s.blk := by
  show execSnoopTimeout line s = _
  unfold execSnoopTimeout State.cc
  rw [core_runs hr]
  dsimp only
  rw [ht]
  dsimp only
  rw [hw, ite_self]

theorem coherenceDown_gives {cause a way : Nat} (hlive : s.blk.ccLive = true) (hlo : cause ≠ 0) (hhi : cause ≤ 5) :
    Gives (.coherenceDown cause a way) s
      (if cause = 5 ∧ a < 3 then (((if cause = 1 then s.blk.ccStorage way else s.blk).ccDown cause a).storageUe 0 a).takeOver a
        else (if cause = 1 then s.blk.ccStorage way else s.blk).ccDown cause a) := by
  show execCoherenceDown cause a way s = _
  unfold execCoherenceDown
  rw [core_runs hr, if_neg (by simp [hlive, hlo, hhi])]

/-- COHERENCE_DOWN has no cause 0, and none above 5 (R348). -/
theorem coherenceDown_gives_none {cause a way : Nat} (hc : cause = 0 ∨ 5 < cause) : Gives (.coherenceDown cause a way) s s.blk := by
  show execCoherenceDown cause a way s = _
  unfold execCoherenceDown
  rw [core_runs hr, if_pos (.inr hc)]

/-! ### The roll call -/

/-- The silent agents that are in the domain fenced out (R350 step 3). -/
def fenceSilent (b : Block) (silent : List Nat) : Block := (silent.filter fun a => a < 512 ∧ b.inDomain a).foldl Block.fence b

theorem rollCallClose_gives (silent : List Nat) (hdown : s.blk.down = true) (hphase : s.blk.coh.phase = .rollCall)
    (htime : 10 * Config.cyclesUs ≤ s.blk.coh.phaseCycles) :
    Gives (.rollCallClose silent) s ((fenceSilent s.blk silent).ccMod fun c => { c with
      wbuf := c.wbuf.filter (fenceSilent s.blk silent).keepsWrite, phase := .replay, phaseCycles := 0 }) := by
  show execRollCallClose silent s = _
  unfold execRollCallClose
  rw [core_runs hr, if_pos ⟨hdown, hphase, htime⟩]
  rfl

theorem rollCallClose_gives_none (silent : List Nat) (hup : s.blk.down = false) : Gives (.rollCallClose silent) s s.blk := by
  show execRollCallClose silent s = _
  unfold execRollCallClose
  rw [core_runs hr, if_neg (by simp [hup])]

/-! ### The rebuild -/

theorem coherenceRebuildDone_gives_none (hup : s.blk.down = false) : Gives .coherenceRebuildDone s s.blk := by
  show execCoherenceRebuildDone s = _
  unfold execCoherenceRebuildDone
  rw [core_runs hr, if_neg (by simp [hup])]

end

/-- The domain up again: the journal replayed, the writes issued again, and the agents of engines that were fenced out free to join
(R335, R350; log entry 78). -/
def restored (b : Block) : Block := b.replayJournal.reissue.ccMod fun c => { c with
  phase := .up, phaseCycles := 0, downCycles := 0, restarts := 0, fenced := c.fenced.filter (· < 8) }

/-- The registers of a rebuild that is done: CC_STS, CC_REBUILDS and CC_LAST_PAUSE (R350 step 6). -/
def noteRebuild (b : Block) (us : Nat) : Block :=
  ((b.setField Reg.CC_STS 0 0 0).count32 Reg.CC_REBUILDS).setReg Reg.CC_LAST_PAUSE (min us (2 ^ 32 - 1))

/-- The record and the event of a rebuild that is done, and the epoch and the walks that follow (R350 step 6, R421). -/
def announceRebuild (b : Block) (cause a us : Nat) : Block :=
  (((b.cinderRec 0x08 cause 0 (min us 1023 * 2 ^ 9 + a)).event pgCc 8 0 (cause * 2 ^ 24 + a) us).bumpEpoch).startWalks

theorem noteRebuild_frame (b : Block) (us : Nat) : agreeBut [.regs] b (noteRebuild b us) :=
  agree_of_keeps (m := 128) (Block.setReg_keeps rfl (Block.count32_keeps rfl (Block.setField_keeps rfl (Keeps.refl _ _)))) (by decide)

theorem startWalks_frame (b : Block) : agreeBut [.stamps, .translation] b b.startWalks :=
  agree_of_keeps (Block.startWalks_keeps (sub_refl _) (Keeps.refl _ _)) (by decide)

/-- Neither the domain nor a reset order depends on what tells of the rebuild. -/
theorem announceRebuild_same (b : Block) (cause a us : Nat) :
    Part.same .coherence b (announceRebuild b cause a us) ∧ Part.same .orders b (announceRebuild b cause a us) := by
  have told (p : Part) (hrec : p ∉ [.regs, .events, .ports, .stop, .cinder]) (hep : p ∉ [.regs, .engines, .stamps])
      (hwalk : p ∉ [.stamps, .translation]) : p.same b (announceRebuild b cause a us) :=
    same_trans (same_trans (recorded_frame b _ _ _ _ _ _ _ _ _ p hrec) (bumpEpoch_frame _ p hep)) (startWalks_frame _ p hwalk)
  exact ⟨told .coherence (by decide) (by decide) (by decide), told .orders (by decide) (by decide) (by decide)⟩

/-- What the writes issued again leave of the buffers and the journal (R350 step 5, R351). -/
theorem restored_coh (b : Block) : (restored b).coh.phase = .up ∧ (restored b).coh.wbuf = [] ∧ (restored b).coh.entries = []
    ∧ (restored b).coh.checkpoint = (restored b).coh.journal := ⟨rfl, rfl, rfl, rfl⟩

theorem restored_orders (b : Block) : Part.same .orders b (restored b) :=
  agree_of_keeps (m := 4295229440) (ps := [.regs, .dev, .coherence])
    (Block.ccMod_keeps rfl (Block.reissue_keeps (sub_refl _) (Block.replayJournal_keeps rfl (Keeps.refl _ _)))) (by decide) .orders (by decide)

/-- The block once a rebuild is done. -/
def rebuilt (b : Block) : Block :=
  announceRebuild (noteRebuild (restored b) (b.coh.downCycles / Config.cyclesUs)) (b.field Reg.CC_STS 31 24) (b.field Reg.CC_STS 17 9)
    (b.coh.downCycles / Config.cyclesUs)

theorem rebuilt_coh (b : Block) : (rebuilt b).coh = (restored b).coh := by
  obtain ⟨htold, -⟩ := announceRebuild_same (noteRebuild (restored b) (b.coh.downCycles / Config.cyclesUs)) (b.field Reg.CC_STS 31 24)
    (b.field Reg.CC_STS 17 9) (b.coh.downCycles / Config.cyclesUs)
  exact (same_trans (noteRebuild_frame (restored b) _ .coherence (by decide)) htold).symm

theorem rebuilt_order (b : Block) : (rebuilt b).order = b.order := by
  obtain ⟨-, htold⟩ := announceRebuild_same (noteRebuild (restored b) (b.coh.downCycles / Config.cyclesUs)) (b.field Reg.CC_STS 31 24)
    (b.field Reg.CC_STS 17 9) (b.coh.downCycles / Config.cyclesUs)
  obtain ⟨horder, -⟩ := same_trans (restored_orders b) (same_trans (noteRebuild_frame (restored b) _ .orders (by decide)) htold)
  exact horder.symm

/-- With no reset order waiting the rebuild ends there (R404). -/
theorem coherenceRebuildDone_gives {s : State} (hr : Runs s) (hdown : s.blk.down = true) (hphase : s.blk.coh.phase = .replay)
    (horder : s.blk.order = none) : Gives .coherenceRebuildDone s (rebuilt s.blk) := by
  have hnone : (rebuilt s.blk).order = none := (rebuilt_order s.blk).trans horder
  show execCoherenceRebuildDone s = _
  unfold execCoherenceRebuildDone
  rw [core_runs hr, if_pos ⟨hdown, hphase⟩]
  extract_lets us cause a b₁ b₂ b₃ b₄ b₅
  have hb : b₅ = rebuilt s.blk := rfl
  rw [hb, hnone]

/-- Settles O50: the fall by its cause, the roll call by whom it fences and whose writes it keeps, and the rebuild by what it restores and
tells. That the agents of the engines join again, and what is replayed, is log entry 78; that a row whose condition does not hold changes
nothing is log entry 2. -/
theorem cohDownRows : Obligations.CohDownRows := by
  unfold Obligations.CohDownRows
  intro s hr
  refine ⟨?_, ?_, ?_, ?_, ?_, ?_, ?_, ?_, ?_⟩
  · intro line t a l hlive hup ht hw hage
    refine ⟨snoopTimeout_gives_down hr hlive hup ht hw hage, ccDown_down .., ?_⟩
    rw [ccDown_coh]
    exact ⟨rfl, rfl⟩
  · exact fun line t ht hw => snoopTimeout_gives_none hr ht hw
  · intro cause a way hlive hlo hhi
    have hg := coherenceDown_gives (a := a) (way := way) hr hlive (by omega : cause ≠ 0) (by omega)
    rw [if_neg (by omega), if_neg (by omega)] at hg
    refine ⟨hg, ccDown_down .., ?_⟩
    rw [ccDown_coh]
    exact ⟨rfl, rfl, rfl, rfl, rfl, rfl⟩
  · intro a way hlive
    refine ⟨coherenceDown_gives hr hlive (by decide) (by decide), ccDown_down .., ?_⟩
    rw [ccDown_coh]
    rfl
  · intro a way hlive ha
    have hg := coherenceDown_gives (cause := 5) (a := a) (way := way) hr hlive (by decide) (Nat.le_refl _)
    rwa [if_pos ⟨rfl, ha⟩] at hg
  · exact fun cause a way hc => coherenceDown_gives_none hr hc
  · intro hdown hphase htime
    refine ⟨rollCallClose_gives hr [] hdown hphase htime, fun silent => ⟨_, rollCallClose_gives hr silent hdown hphase htime, rfl, ?_⟩⟩
    intro w hw
    have hkept : (fenceSilent s.blk silent).keepsWrite w = true := (List.mem_filter.1 hw).2
    show w.agent ∉ (fenceSilent s.blk silent).coh.fenced
    simpa [Block.keepsWrite] using hkept
  · exact fun l hup => ⟨rollCallClose_gives_none hr l hup, coherenceRebuildDone_gives_none hr hup⟩
  · intro hdown hphase horder
    refine ⟨_, _, _, rfl, rfl, rfl, coherenceRebuildDone_gives hr hdown hphase horder, ?_⟩
    have hcoh := rebuilt_coh s.blk
    have hrestored := restored_coh s.blk
    rwa [← hcoh] at hrestored

end Sys2Proof.Proofs
end

section
/-!
SUPPORT. Operations on stalled work (R399): what a write of RC_STALL_CMD answers, and what it leaves of the work that it names.
-/
namespace Sys2Proof.Proofs

open Sys2Proof Sys2Proof.Machine Sys2Proof.Safety Sys2Proof.Laws

/-! ### The answer -/

@[simp] theorem stallRes_cmd (b : Block) (st q i : Nat) : (b.stallRes st).cmd? q i = b.cmd? q i := rfl

@[simp] theorem stallRes_task (b : Block) (st c k : Nat) : (b.stallRes st).task? c k = b.task? c k := rfl

theorem stallRes_reg (b : Block) {st : Nat} (h : st < 2 ^ 32) : (b.stallRes st).reg Reg.RC_STALL_RES = st :=
  (Block.setReg_self ..).trans (Nat.mod_eq_of_lt h)

theorem stallRes_ended {b : Block} {q i st : Nat} (h : HasEnded q i st b) (res : Nat) : HasEnded q i st (b.stallRes res) :=
  inPhase_of (a := b) ⟨rfl, rfl⟩ h

/-! ### The selection -/

/-- RC_STALL_Q names a task or a command, by its bit 31 (R399). -/
theorem stalledCmd_none_of_task {b : Block} {t : Task} (h : b.stalledTask? = some t) : b.stalledCmd? = none := by
  unfold Block.stalledTask? at h
  unfold Block.stalledCmd?
  split at h
  · exact if_pos ‹_›
  · cases h

theorem stallOpResume_cmd {b : Block} {c : Cmd} (h : b.stalledCmd? = some c) : b.stallOpResume = (b.resumeCmd c).stallRes 0 := by
  unfold Block.stallOpResume
  rw [h]

theorem stallOpResume_task {b : Block} {t : Task} (h : b.stalledTask? = some t) : b.stallOpResume = (b.resumeTask t).stallRes 0 := by
  unfold Block.stallOpResume
  rw [stalledCmd_none_of_task h, h]

theorem stallOpResume_none {b : Block} (hc : b.stalledCmd? = none) (ht : b.stalledTask? = none) :
    b.stallOpResume = b.stallRes 0x13 := by
  unfold Block.stallOpResume
  rw [hc, ht]

theorem stallOpEnd_cmd {b : Block} {c : Cmd} (h : b.stalledCmd? = some c) :
    b.stallOpEnd = if b.allQuiet c.engs then (b.endStalled c).stallRes 0 else b.stallRes 0x14 := by
  unfold Block.stallOpEnd
  rw [h]

theorem stallOpEnd_item {b : Block} {t : Task} {x : Item} (h : b.stalledTask? = some t) (hq : b.allQuiet t.engs = true)
    (hx : t.item = some x) : b.stallOpEnd = (b.endStalledItem t x).stallRes 0 := by
  unfold Block.stallOpEnd
  rw [stalledCmd_none_of_task h, h]
  dsimp only
  rw [if_pos hq, hx]

theorem stallOpEnd_none {b : Block} (hc : b.stalledCmd? = none) (ht : b.stalledTask? = none) : b.stallOpEnd = b.stallRes 0x13 := by
  unfold Block.stallOpEnd
  rw [hc, ht]

/-! ### The work after it -/

/-- Fixing deadlines changes no more of a command than its deadline. -/
theorem fixDeadlines_some {b : Block} {q i : Nat} {c : Cmd} (h : b.cmd? q i = some c) :
    ∃ d, b.fixDeadlines.cmd? q i = some { c with deadline := d } := by
  rw [fixDeadlines_cmd, h, Option.map_some]
  split <;> exact ⟨_, rfl⟩

/-- A command on no engine goes on with its budget fresh. -/
theorem resumeCmd_cmd {b : Block} {c : Cmd} (hc : b.cmd? c.q c.i = some c) (hengs : c.engs = []) :
    ∃ c', (b.resumeCmd c).cmd? c.q c.i = some c' ∧ c'.stalled = false ∧ c'.budget = 0 := by
  have hgoes := modCmd_self (f := fun c => { c with stalled := false, budget := 0 }) (fun _ => ⟨rfl, rfl⟩) hc
  obtain ⟨d, hd⟩ := fixDeadlines_some hgoes
  unfold Block.resumeCmd
  rw [hengs, List.foldl_nil]
  exact ⟨_, hd, rfl, rfl⟩

/-- A command that has not ended ends. -/
theorem inPhase_ended {b : Block} {q i st : Nat} {ph : Phase} (h : InPhase q i ph b) (hp : ∀ k, ph ≠ .ended k) :
    HasEnded q i st (b.endCmd q i st) := by
  obtain ⟨c, hc, rfl⟩ := h
  exact endCmd_ended hc hp

theorem restatus_ended {b : Block} {q i st st' : Nat} (h : HasEnded q i st b) : HasEnded q i st' (b.restatus q i st') := by
  obtain ⟨c, hc, hp⟩ := h
  unfold Block.restatus
  extract_lets b'
  have hc' : b'.cmd? q i = some c := hc
  refine ⟨_, modCmd_self (fun c => ?_) hc', ?_⟩
  · cases c.phase <;> exact ⟨rfl, rfl⟩
  · rw [hp]

/-- What the early end of a command undoes leaves its phase. -/
theorem undoEnd_inPhase {b : Block} {c : Cmd} {ph : Phase} (h : InPhase c.q c.i ph b) : InPhase c.q c.i ph (b.undoEnd c) := by
  unfold Block.undoEnd
  split
  · exact dropLoadOf_inPhase h
  · exact dropLoadOf_inPhase h
  · exact h
  · exact h
  · exact h
  · exact h

theorem endStalled_ended {b : Block} {c : Cmd} (hc : b.cmd? c.q c.i = some c) (hp : ∀ k, c.phase ≠ .ended k) :
    HasEnded c.q c.i 0x30 (b.endStalled c) := by
  have h : InPhase c.q c.i c.phase b := ⟨c, hc, rfl⟩
  unfold Block.endStalled
  refine restatus_ended (inPhase_ended (ph := c.phase) ?_ hp)
  split
  · exact undoEnd_inPhase h
  · exact h

theorem clearQueues_tasks (b : Block) (es : List Nat) : Part.same .tasks b (b.clearQueues es) :=
  agree_of_keeps (ps := [.engines]) (Block.clearQueues_keeps (sub_refl _) (Keeps.refl _ _)) (by decide) .tasks (by decide)

theorem endStalledItem_task {b : Block} {t : Task} (x : Item) (ht : b.task? t.ctx t.id = some t) :
    (b.endStalledItem t x).task? t.ctx t.id
      = some { t with stalled := false, bp := none, item := some { x with cancel := some 0x30, ended := some 0x30 } } :=
  modTask_self (fun _ => ⟨rfl, rfl⟩) ((task_of (clearQueues_tasks (b.dropLane (.task t.ctx t.id)) t.engs)).trans ht)

/-! ### The rows -/

theorem stallResume_gives {s : State} {path : Nat} (ht : Takes s path Reg.RC_STALL_CMD) :
    Gives (.stallResume path) s s.blk.stallOpResume := write_takes ht

theorem stallEnd_gives {s : State} {path : Nat} (ht : Takes s path Reg.RC_STALL_CMD) :
    Gives (.stallEnd path) s s.blk.stallOpEnd := write_takes ht

/-- Settles O35: by what RC_STALL_Q and RC_STALL_IDX name, a command, a task or nothing, and for END by whether its engines have
drained. -/
theorem stallOperations : Obligations.StallOperations := by
  unfold Obligations.StallOperations
  intro s path ht
  have hresume := stallResume_gives ht
  have hend := stallEnd_gives ht
  refine ⟨?_, ?_, ?_, ?_, ?_, ?_⟩
  · intro c hsel hc
    rw [stallOpResume_cmd hsel] at hresume
    exact ⟨hresume, fun hengs => resumeCmd_cmd hc hengs, stallRes_reg _ (by decide)⟩
  · intro t hsel
    rwa [stallOpResume_task hsel] at hresume
  · intro hc hk
    rw [stallOpResume_none hc hk] at hresume
    rw [stallOpEnd_none hc hk] at hend
    exact ⟨⟨hresume, stallRes_reg _ (by decide)⟩, hend, stallRes_reg _ (by decide)⟩
  · intro c hsel hbusy
    rw [stallOpEnd_cmd hsel, if_neg (Bool.eq_false_iff.1 hbusy)] at hend
    exact ⟨hend, stallRes_reg _ (by decide)⟩
  · intro c hsel hc hquiet _ hp
    rw [stallOpEnd_cmd hsel, if_pos hquiet] at hend
    exact ⟨hend, stallRes_ended (endStalled_ended hc hp) 0, stallRes_reg _ (by decide)⟩
  · intro t x hsel hk hquiet hx
    rw [stallOpEnd_item hsel hquiet hx] at hend
    exact ⟨hend, _, endStalledItem_task x hk, rfl, rfl⟩

end Sys2Proof.Proofs
end

section
/-!
SUPPORT. The watchdog (R402), job membership (R410) and the events posted for a job (R411).
-/
namespace Sys2Proof.Proofs

open Sys2Proof Sys2Proof.Machine Sys2Proof.Safety Sys2Proof.Laws

/-! ### The watchdog -/

theorem watchdogPet_gives {s : State} {path : Nat} (ht : Takes s path Reg.HANG_WD) :
    Gives (.watchdogPet path) s { s.blk with wdCycles := 0 } := write_takes ht

/-- The record of a lapse: LAPSE, the Cinder record and the event. -/
def lapsed (b : Block) : Block :=
  ((Block.setField { b with wdCycles := wdLapsed } Reg.HANG_WD_CTL 31 31 1).cinderRec 0x0F 0 0 0).event pgRc 13

theorem watchdogLapse_gives {s : State} (hr : Runs s) :
    Gives .watchdogLapse s (if s.blk.field Reg.HANG_WD_CTL 15 0 ≠ 0 ∧ s.blk.wdCycles < wdLapsed
        ∧ s.blk.field Reg.HANG_WD_CTL 15 0 * Config.cyclesMs ≤ s.blk.wdCycles then lapsed s.blk else s.blk) :=
  core_runs (f := fun b => if b.field Reg.HANG_WD_CTL 15 0 ≠ 0 ∧ b.wdCycles < wdLapsed
    ∧ b.field Reg.HANG_WD_CTL 15 0 * Config.cyclesMs ≤ b.wdCycles then lapsed b else b) hr

theorem lapsed_frame (b : Block) : agreeBut [.regs, .events, .ports, .stop, .cinder] { b with wdCycles := wdLapsed } (lapsed b) :=
  agree_of_keeps (m := 13202729470080) (Block.event_keeps rfl (Block.cinderRec_keeps rfl (Block.setField_keeps rfl (Keeps.refl _ _))))
    (by decide)

/-- A lapse resets nothing (R402). -/
theorem lapsed_leaves (b : Block) : (lapsed b).wdCycles = wdLapsed ∧ (lapsed b).cmds = b.cmds ∧ (lapsed b).engines = b.engines
    ∧ (lapsed b).ctxs = b.ctxs := by
  have hframe := lapsed_frame b
  obtain ⟨_, _, hwd, _⟩ := hframe .orders (by decide)
  obtain ⟨_, hcmds⟩ := hframe .queues (by decide)
  obtain ⟨hengs, _⟩ := hframe .engines (by decide)
  have hctxs : b.ctxs = (lapsed b).ctxs := hframe .contexts (by decide)
  exact ⟨hwd.symm, hcmds.symm, hengs.symm, hctxs.symm⟩

/-! ### Job membership -/

theorem jobMembershipCommit_gives {s : State} {path : Nat} (v : BitVec 32) (ht : Takes s path Reg.RC_JOB_CTL) :
    Gives (.jobMembershipCommit path v) s (s.blk.jobCommit path v.toNat) := write_takes ht

theorem jobMembershipEnd_gives {s : State} {path : Nat} (ht : Takes s path Reg.RC_JOB_CTL) :
    Gives (.jobMembershipEnd path) s s.blk.jobEnd := write_takes ht

theorem jobCommit_open {b : Block} {path v c job : Nat} (hc : c = b.field Reg.RC_JOB_SEL 11 0)
    (hjob : job = b.stagedOr path Reg.RC_JOB_ID (b.ctx c).job) (hc0 : c ≠ 0) (hopen : (b.ctx c).st = .opn) (hjob0 : job ≠ 0) :
    b.jobCommit path v = (b.unstagePath path fun a => a = Reg.RC_JOB_ID).setCtx c
      { b.ctx c with job := job, jobPorts := bits v 7 0, jobValid := true } := by
  subst hjob hc
  exact if_neg (not_or.2 ⟨hc0, not_or.2 ⟨not_not.2 hopen, hjob0⟩⟩)

/-- Context 0 is in no job, and its commit consumes the staged RC_JOB_ID (log entry 46). -/
theorem jobCommit_zero {b : Block} {path v : Nat} (h : b.field Reg.RC_JOB_SEL 11 0 = 0) :
    b.jobCommit path v = (b.unstagePath path fun a => a = Reg.RC_JOB_ID).pageErr path Reg.RC_JOB_CTL := if_pos (.inl h)

/-! ### Events posted for a job -/

theorem errEventPost_gives {s : State} (abort : Bool) (job : BitVec 32) (code : BitVec 8) (hr : Runs s) :
    Gives (.errEventPost abort job code) s
      (if s.blk.jobs.contains job.toNat then s.blk.postErr abort job.toNat code.toNat else s.blk) :=
  core_runs (f := fun b => if b.jobs.contains job.toNat then b.postErr abort job.toNat code.toNat else b) hr

/-- Where no port runs, the event is sent nowhere and has its number all the same (R411). -/
theorem postErr_number {b : Block} (abort : Bool) (job code : Nat) (h : b.runPorts = []) :
    (b.postErr abort job code).reg Reg.RC_EVENT_NO = (b.reg Reg.RC_EVENT_NO + 1) % 2 ^ 32 := by
  unfold Block.postErr
  extract_lets no inc b' pl
  have hports : b'.runPorts = [] := h
  rw [hports, List.foldl_nil, Block.setReg_self, Nat.mod_mod]

/-- Settles O40: a lapse by whether its period is over, a commit by its context, a posting by whether its job has a member. A refused
commit consumes what was staged (log entry 46), ERR_EVENT_POST is the posting operation (log entry 70), and a row whose condition does
not hold changes nothing (log entry 2). -/
theorem watchdogAndJobs : Obligations.WatchdogAndJobs := by
  unfold Obligations.WatchdogAndJobs
  intro s
  refine ⟨?_, ?_, ?_, ?_, ?_, ?_, ?_, ?_⟩
  · exact fun path ht => ⟨watchdogPet_gives ht, rfl⟩
  · intro hr hon hnot hdue
    have hg := watchdogLapse_gives hr
    rw [if_pos ⟨hon, hnot, hdue⟩] at hg
    exact ⟨hg, lapsed_leaves s.blk⟩
  · intro hr hoff
    have hg := watchdogLapse_gives hr
    rwa [if_neg fun h => h.1 hoff] at hg
  · intro path v c job ht hc hjob hc0 hopen hjob0
    have hg := jobMembershipCommit_gives v ht
    rw [jobCommit_open hc hjob hc0 hopen hjob0] at hg
    exact ⟨hg, congrArg Ctx.job (Block.setCtx_self ..), congrArg Ctx.jobPorts (Block.setCtx_self ..),
      congrArg Ctx.jobValid (Block.setCtx_self ..)⟩
  · intro path v ht hzero
    have hg := jobMembershipCommit_gives v ht
    rw [jobCommit_zero hzero] at hg
    have hctxs : s.blk.ctxs = _ := pageErr_frame (s.blk.unstagePath path fun a => a = Reg.RC_JOB_ID) path Reg.RC_JOB_CTL .contexts (by decide)
    exact ⟨hg, hctxs.symm⟩
  · rintro path c ht rfl
    exact ⟨jobMembershipEnd_gives ht, congrArg Ctx.job (Block.setCtx_self ..), congrArg Ctx.jobPorts (Block.setCtx_self ..),
      congrArg Ctx.jobValid (Block.setCtx_self ..)⟩
  · intro abort job code hr hmember
    have hg := errEventPost_gives abort job code hr
    rw [if_pos hmember] at hg
    exact ⟨hg, postErr_number _ _ _⟩
  · intro abort job code hr hnone
    have hg := errEventPost_gives abort job code hr
    rwa [if_neg (Bool.eq_false_iff.1 hnone)] at hg

end Sys2Proof.Proofs
end

section
/-!
SUPPORT. The power cycle (R408): what its rows set, and what is left once its rails have gone.
-/
namespace Sys2Proof.Proofs

open Sys2Proof Sys2Proof.Machine Sys2Proof.Safety Sys2Proof.Laws

theorem setField_bit2 (b : Block) (a : Nat) : bit ((b.setField a 2 2 1).reg a) 2 = true := by
  have hword : (b.setField a 2 2 1).reg a = (b.reg a - b.reg a / 4 % 2 * 4 + 4) % 2 ^ 32 := by
    unfold Block.setField bits
    simp [Nat.shiftRight_eq_div_pow]
  unfold bit
  rw [hword, Nat.testBit_eq_decide_div_mod_eq, decide_eq_true_eq]
  omega

theorem modPwr_some {b : Block} {p : PwrSeq} {f : PwrSeq → PwrSeq} (hp : b.pwr = some p) :
    b.modPwr f = { b with pwr := some (f p) } := by
  unfold Block.modPwr
  rw [hp]
  rfl

section
variable {s : State} {p : PwrSeq} (hp : s.blk.pwr = some p)
include hp

theorem pwrcycNoackTimeout_gives : Gives .pwrcycNoackTimeout s
    (if p.reached 1 ∧ !p.ack then s.blk.setField Reg.RC_PWR 2 2 1 else s.blk) := by
  show execPwrcycNoackTimeout s = _
  unfold execPwrcycNoackTimeout State.aon
  dsimp only
  rw [hp]

theorem readoutHoldExpiry_gives : Gives .readoutHoldExpiry s
    { s.blk with pwr := some (if p.reached 50 then { p with rdout := true } else p) } := by
  show execReadoutHoldExpiry s = _
  unfold execReadoutHoldExpiry State.aon
  dsimp only
  rw [modPwr_some hp]

theorem rdoutAck_gives {path : Nat} (ht : Takes s path Reg.RC_PWR) :
    Gives (.rdoutAck path) s { s.blk with pwr := some { p with rdout := true } } := by
  have hg : Gives (.rdoutAck path) s (s.blk.modPwr fun p => { p with rdout := true }) := write_takes ht
  rwa [modPwr_some hp] at hg

theorem pwrcycReqRelease_gives : Gives .pwrcycReqRelease s (if p.ack ∧ p.rdout then s.blk.powerReset else s.blk) := by
  show execPwrcycReqRelease s = _
  unfold execPwrcycReqRelease State.aon
  dsimp only
  rw [hp]

end

/-- Settles O42: each row by the place of the sequence. That NOACK, the hold and the release change nothing before their time is log
entries 2 and 3, and that an acknowledgement without a cycle under way sets the pin alone is log entry 72. -/
theorem powerCycleRows : Obligations.PowerCycleRows := by
  unfold Obligations.PowerCycleRows
  intro s
  refine ⟨⟨rfl, rfl, ?_⟩, ?_, ?_, ?_, ?_, ?_, ?_, ?_⟩
  · intro p hp
    obtain ⟨_, _, rfl⟩ := Option.map_eq_some_iff.1 hp
    rfl
  · intro p hp hdue hack
    have hg := pwrcycNoackTimeout_gives hp
    rw [if_pos ⟨by unfold PwrSeq.reached; simpa using hdue, by rw [hack]; rfl⟩] at hg
    exact ⟨hg, setField_bit2 _ _⟩
  · intro p hp hack
    have hg := pwrcycNoackTimeout_gives hp
    rwa [if_neg (by simp [hack])] at hg
  · exact fun path p ht hp => rdoutAck_gives hp ht
  · intro p hp hdue
    have hg := readoutHoldExpiry_gives hp
    rwa [if_pos (by unfold PwrSeq.reached; simpa using hdue)] at hg
  · intro p hp hearly
    have hg := readoutHoldExpiry_gives hp
    rw [if_neg (by unfold PwrSeq.reached; simpa using hearly), ← hp] at hg
    exact hg
  · intro p hp hack hread
    have hg := pwrcycReqRelease_gives hp
    rw [if_pos ⟨hack, hread⟩] at hg
    exact ⟨hg, rfl, rfl, rfl, rfl, rfl⟩
  · intro p hp hack
    have hg := pwrcycReqRelease_gives hp
    rwa [if_neg (by simp [hack])] at hg

end Sys2Proof.Proofs
end

section
/-!
SUPPORT. Orders of reset (R404, R405, R407, R408): what an order notes as it is accepted, what each level leaves, and its end.
-/
namespace Sys2Proof.Proofs

open Sys2Proof Sys2Proof.Machine Sys2Proof.Safety Sys2Proof.Laws

/-- What a mask of `Keeps` leaves out is the same. -/
theorem same_of_keeps {m : Nat} {p : Part} {a b : Block} (h : Keeps m a b) (hp : m.testBit (idx p) = false) : p.same a b :=
  (h p).resolve_left (Bool.eq_false_iff.1 hp)

/-! ### Registers below the Observation Unit -/

/-- The registers below the Observation Unit's time of a stop are alike: Cinder records write none of them. -/
def LowRegs (a b : Block) : Prop := ∀ x, x < 0x11000 → b.reg x = a.reg x

theorem LowRegs.refl (b : Block) : LowRegs b b := fun _ _ => rfl

theorem LowRegs.setReg {a b : Block} {r : Nat} (v : Nat) (hr : 0x11000 ≤ r) (h : LowRegs a b) : LowRegs a (b.setReg r v) :=
  fun x hx => (Block.setReg_other b r v x (by omega)).trans (h x hx)

theorem LowRegs.count32 {a b : Block} {r : Nat} (hr : 0x11000 ≤ r) (h : LowRegs a b) : LowRegs a (b.count32 r) := h.setReg _ hr

theorem LowRegs.choice {a x y : Block} {p : Prop} {i : Decidable p} (hx : LowRegs a x) (hy : LowRegs a y) :
    LowRegs a (@ite Block p i x y) := by
  split
  · exact hx
  · exact hy

theorem LowRegs.foldl {α : Type} {a : Block} {f : Block → α → Block} (hf : ∀ b x, LowRegs a b → LowRegs a (f b x)) :
    ∀ (l : List α) {b : Block}, LowRegs a b → LowRegs a (l.foldl f b)
  | [], _, h => h
  | x :: l, b, h => LowRegs.foldl hf l (hf b x h)

theorem LowRegs.mirror {a b : Block} (idx : Nat) (r : BitVec 128) (h : LowRegs a b) : LowRegs a (b.mirror idx r) := by
  unfold Block.mirror
  refine LowRegs.foldl (fun b p h => ?_) _ h
  refine .choice (.choice h (.count32 ?_ h)) h
  exact (by decide : 0x11000 ≤ Reg.CIN_DROP).trans (Nat.le_add_right ..)

theorem LowRegs.requestStop {a b : Block} (cause : Nat) (h : LowRegs a b) : LowRegs a (b.requestStop cause) := by
  unfold Block.requestStop
  exact .choice h (.setReg _ (by decide) (.setReg _ (by decide) h))

theorem LowRegs.cinderPut {a b : Block} (typ : Nat) (r : BitVec 128) (own : Bool) (h : LowRegs a b) : LowRegs a (b.cinderPut typ r own) := by
  unfold Block.cinderPut
  refine .choice (.count32 (by decide) h) ?_
  extract_lets recent i c b₁ b₂ b₃ b₄ freeze c' b₅ b₆
  have h₁ : LowRegs a b₁ := h
  have h₂ : LowRegs a b₂ := h₁.setReg _ (by decide)
  have h₃ : LowRegs a b₃ := .choice (h₂.count32 (by decide)) h₂
  have h₄ : LowRegs a b₄ := .choice (h₃.mirror _ _) h₃
  have hfreeze : ∀ {b : Block}, LowRegs a b → LowRegs a (freeze b) := fun h => .setReg _ (by decide) h
  have h₅ : LowRegs a b₅ := by
    subst b₅
    clear_value b₄
    split
    · exact .choice (hfreeze h₄) h₄
    · exact .choice (.choice (hfreeze h₄) h₄) h₄
  have h₆ : LowRegs a b₆ := .choice (hfreeze h₅) h₅
  exact .choice (.count32 (by decide) h) (.choice (h₆.requestStop 4) h₆)

/-- A Cinder record writes no register below the Observation Unit's time of a stop. -/
theorem cinderRec_lowRegs (b : Block) (typ code x d : Nat) : LowRegs b (b.cinderRec typ code x d) := LowRegs.cinderPut _ _ _ (LowRegs.refl b)

/-! ### Targets -/

theorem inService_of {a b : Block} {e : Nat} (hs : Part.same .straps a b) (hw : Part.same .wear a b) : b.inService e = a.inService e := by
  unfold Block.inService Block.allCores Block.allUnits Block.coreIn Block.unitIn Block.wearOf
  rw [show a.straps = b.straps from hs, show a.wear = b.wear from hw]

theorem harness_of {a b : Block} {h : Nat} (k : Part.same .harnesses a b) : b.harness h = a.harness h := by
  unfold Block.harness
  rw [show a.harnesses = b.harnesses from k]

theorem orderTarget_of {a b : Block} {level target : Nat} (hc : Part.same .contexts a b) (hh : Part.same .harnesses a b)
    (hs : Part.same .straps a b) (hw : Part.same .wear a b) : b.orderTarget level target = a.orderTarget level target := by
  unfold Block.orderTarget
  rw [ctx_of hc, harness_of hh, inService_of hs hw]

/-! ### Orders accepted -/

/-- The first order: none is under way that it could subsume. -/
def firstOrder (level target : Nat) : Order := { level := level, target := target, acted := false, subsumed := false }

/-- The block that notes an order: BUSY and its Cinder record. -/
def noted (b : Block) (o : Order) : Block := (b.setOrder o).cinderRec 0x04 o.level 0 o.target

theorem noted_frame (b : Block) (o : Order) : agreeBut [.regs, .orders, .ports, .stop, .cinder] b (noted b o) :=
  agree_of_keeps (m := 13237089206400) (Block.cinderRec_keeps rfl (Block.setOrder_keeps rfl (Keeps.refl _ _))) (by decide)

theorem noted_target (b : Block) (o : Order) (level target : Nat) : (noted b o).orderTarget level target = b.orderTarget level target := by
  have hframe := noted_frame b o
  exact orderTarget_of (hframe .contexts (by decide)) (hframe .harnesses (by decide)) (hframe .straps (by decide)) (hframe .wear (by decide))

theorem withOrder_reg (b : Block) (o : Option Order) (x : Nat) : ({ b with order := o } : Block).reg x = b.reg x := rfl

theorem setOrder_reg (b : Block) (o : Order) {x : Nat} (h : Reg.RC_ORDER_STS ≠ x) : (b.setOrder o).reg x = b.reg x := by
  unfold Block.setOrder
  extract_lets old b'
  rw [withOrder_reg]
  exact Block.setReg_other _ _ _ _ h

theorem noted_down (b : Block) (o : Order) : (noted b o).down = b.down := by
  unfold Block.down noted
  rw [cinderRec_lowRegs _ _ _ _ _ _ (by decide), setOrder_reg _ _ (by decide)]

/-- The block in which a first order acts. -/
def acting (b : Block) (level target : Nat) : Block :=
  { noted b (firstOrder level target) with order := some { firstOrder level target with acted := true } }

theorem withOrder_keeps (b : Block) (o : Option Order) : Keeps 34359738368 b { b with order := o } := by
  intro p
  cases p
  case orders => exact .inl rfl
  all_goals
    right
    simp only [Part.same, and_self]

theorem acting_frame (b : Block) (level target : Nat) : agreeBut [.regs, .orders, .ports, .stop, .cinder] b (acting b level target) := by
  intro p hp
  have hord : p ∉ [Part.orders] := fun h => hp (by rw [List.mem_singleton.1 h]; decide)
  exact same_trans (noted_frame b _ p hp) (agree_of_keeps (withOrder_keeps _ _) (by decide) p hord)

/-- A first order is accepted, level 0 to 2 from the holder of the semaphore, level 3 and 4 outside a power cycle (R404, R408). -/
theorem order_accepts {b : Block} {path level target : Nat} (hstop : b.stop.stopped = false) (hfirst : b.order = none)
    (hsem : level < 3 → b.holds path pgRc = true) (hpwr : 3 ≤ level → b.pwr = none) :
    b.order_ path level target = b.acceptOrder level target := by
  have hmay : ¬(level < 3 ∧ (!b.holds path pgRc) = true) := fun h => by simp [hsem h.1] at h
  have hcycle : ¬(3 ≤ level ∧ b.pwr.isSome = true) := fun h => by simp [hpwr h.1] at h
  unfold Block.order_
  rw [hfirst, if_neg hmay, if_neg (Bool.eq_false_iff.1 hstop), if_neg hcycle]
  exact if_neg Bool.false_ne_true

theorem acceptOrder_acts {b : Block} {level target : Nat} (hfirst : b.order = none) (ht : b.orderTarget level target = true)
    (hup : level < 3 → b.down = false) :
    b.acceptOrder level target = (noted b (firstOrder level target)).actOrder (firstOrder level target) := by
  have hvalid : ¬(!(noted b (firstOrder level target)).orderTarget level target) = true := by rw [noted_target, ht]; decide
  have hgoes : ¬(level < 3 ∧ (noted b (firstOrder level target)).down = true) := by
    rw [noted_down]
    exact fun h => Bool.false_ne_true ((hup h.1).symm.trans h.2)
  unfold Block.acceptOrder
  rw [hfirst]
  exact (if_neg hvalid).trans (if_neg hgoes)

theorem acceptOrder_refused {b : Block} {level target : Nat} (hfirst : b.order = none) (ht : b.orderTarget level target = false) :
    b.acceptOrder level target
      = ((noted b (firstOrder level target)).setOrder { firstOrder level target with result := 0x12, acted := true }).endOrder := by
  have hinvalid : (!(noted b (firstOrder level target)).orderTarget level target) = true := by rw [noted_target, ht]; rfl
  unfold Block.acceptOrder
  rw [hfirst]
  exact if_pos hinvalid

/-! ### Orders turned away -/

theorem order_busy {b : Block} {path level target : Nat} {o : Order} (hstop : b.stop.stopped = false) (hsem : b.holds path pgRc = true)
    (ho : b.order = some o) (hlow : level < 3) (hle : level ≤ o.level) : b.order_ path level target = b.pageErr path Reg.RC_ORDER := by
  unfold Block.order_
  rw [ho, if_neg (by simp [hsem]), if_neg (Bool.eq_false_iff.1 hstop), if_neg (by omega)]
  exact if_pos (decide_eq_true hle)

/-- A global stop holds an order (R405). -/
theorem order_held {b : Block} {path level target : Nat} (hstop : b.stop.stopped = true) (hsem : b.holds path pgRc = true)
    (hfirst : b.order = none) (hnone : b.stop.heldOrders = []) : b.order_ path level target
      = { b with stop := { b.stop with heldOrders := [BitVec.ofNat 32 (level * 2 ^ 20 + target)] } } := by
  unfold Block.order_
  rw [hfirst, if_neg (by simp [hsem]), if_pos hstop, hnone]
  exact if_neg (by simp)

theorem order_ignored {b : Block} {path level target : Nat} (hstop : b.stop.stopped = false) (hhigh : 3 ≤ level)
    (hcycle : b.pwr ≠ none) : b.order_ path level target = b := by
  unfold Block.order_
  rw [if_neg (by omega), if_neg (Bool.eq_false_iff.1 hstop), if_pos ⟨hhigh, Option.isSome_iff_ne_none.2 hcycle⟩]

/-! ### The end of an order -/

theorem endOrder_order (b : Block) : b.endOrder.order = none := by
  unfold Block.endOrder
  split
  · assumption
  · rfl

theorem endOrder_harness (b : Block) (h : Nat) : b.endOrder.harness h = b.harness h :=
  harness_of (agree_of_keeps (ps := [.regs, .orders]) (Block.endOrder_keeps (sub_refl _) (Keeps.refl _ _)) (by decide)
    .harnesses (by decide))

/-- An order with an invalid target ends at once with ERR_ARG (R404). -/
theorem acceptOrder_refused_status {b : Block} {target : Nat} (hfirst : b.order = none) (ht : b.orderTarget 0 target = false) :
    (b.acceptOrder 0 target).order = none ∧ (b.acceptOrder 0 target).reg Reg.RC_ORDER_STS = 0x12 * 2 ^ 16 := by
  rw [acceptOrder_refused hfirst ht]
  refine ⟨endOrder_order _, (Block.setReg_self ..).trans ?_⟩
  show (0 * 2 ^ 24 + 0x12 * 2 ^ 16 + min 65535 (0 / Config.cyclesUs)) % 2 ^ 32 = 0x12 * 2 ^ 16
  decide

/-- A harness is ACTIVE again, with its step pacing afresh, and the order that reset it ends (R407). -/
def harnessBack (b : Block) (h : Nat) : Block :=
  ((b.setHarness h { b.harness h with st := .active, lastBoundary := none }).event pgHal 9 0 h).endOrder

theorem harnessBack_active (b : Block) (h : Nat) : ((harnessBack b h).harness h).st = .active := by
  have hnew : ((b.setHarness h { b.harness h with st := .active, lastBoundary := none }).harness h).st = .active :=
    congrArg Harness.st (Block.setHarness_self ..)
  unfold harnessBack
  rw [endOrder_harness, harness_of (event_frame _ _ _ _ _ .harnesses (by decide)), hnew]

theorem orderDone_gives {s : State} {o : Order} (hr : Runs s) (ho : s.blk.order = some o) :
    Gives .orderDone s (if !s.blk.orderDone o then s.blk
      else if o.level = 2 then (harnessBack s.blk o.target).placeAll o.target else s.blk.endOrder) := by
  show execOrderDone s = _
  unfold execOrderDone
  rw [core_runs hr, ho]
  rfl

/-! ### L0: a context is lost -/

/-- The mask of what a loss writes once its context is LOST. -/
abbrev lossParts : Nat := 15543886080128

/-- Commands, tasks, wicks and notices leave the state of a context that is lost (R42, R43). -/
theorem loseCtx_lost {b : Block} {c code : Nat} (hc : c ≠ 0) (hopen : (b.ctx c).st = .opn) : ((b.loseCtx c code none).ctx c).st = .lost := by
  unfold Block.loseCtx
  rw [if_neg hc]
  extract_lets x b₀ b₁ b₂ b₃ b₄ b₅ b₆ b₇ b₈ b₉
  have h₂ : Keeps lossParts b₁ b₂ := Block.loseCmds_keeps rfl (Keeps.refl _ _)
  have h₃ : Keeps lossParts b₁ b₃ := by
    refine Keeps.foldl (fun _ _ h => ?_) _ h₂
    exact Block.abortTask_keeps rfl h
  have h₄ : Keeps lossParts b₁ b₄ := by
    refine Keeps.foldl (fun _ _ h => ?_) _ h₃
    exact Block.snuff_keeps rfl h
  have h₆ : Keeps lossParts b₁ b₆ := Block.cinderRec_keeps rfl (Block.dropCommits_keeps rfl (Block.dropBounds_keeps rfl h₄))
  have h₈ : Keeps lossParts b₁ b₈ := Block.count_keeps rfl (Block.event_keeps rfl h₆)
  have h₉ : Keeps lossParts b₁ b₉ := Keeps.choice (fun _ => Block.postErr_keeps rfl h₈) fun _ => h₈
  have hend : Keeps lossParts b₁ b₉.fixDeadlines := Block.fixDeadlines_keeps rfl h₉
  have hst : (b₀.ctx c).st = .lost := congrArg Ctx.st (Block.setCtx_self ..)
  rw [if_neg (by simp [x, hopen]), ctx_of (same_of_keeps hend rfl)]
  exact hst

theorem l0_acts {b : Block} {c : Nat} (hc : c ≠ 0) (hopen : (b.ctx c).st = .opn) :
    (((noted b (firstOrder 0 c)).actOrder (firstOrder 0 c)).ctx c).st = .lost
      ∧ ((noted b (firstOrder 0 c)).actOrder (firstOrder 0 c)).order = some { firstOrder 0 c with acted := true } := by
  have hctx : ((acting b 0 c).ctx c).st = .opn := by rw [ctx_of (acting_frame b 0 c .contexts (by decide)), hopen]
  have hacts : (noted b (firstOrder 0 c)).actOrder (firstOrder 0 c) = (acting b 0 c).loseCtx c 0x32 none :=
    if_neg fun h => by cases hctx.symm.trans h
  have horders := same_of_keeps (p := .orders)
    (Block.loseCtx_keeps (c := c) (code := 0x32) (cause := none) (fromAbort := false) (sub_refl _) (Keeps.refl _ (acting b 0 c))) rfl
  rw [hacts]
  exact ⟨loseCtx_lost hc hctx, horders.1.symm⟩

/-! ### L1: an engine is reset -/

/-- An engine out of its wait, its wake group and the coherence domain (R335, R407). -/
def engineOut (b : Block) (e : Nat) : Block :=
  if e < unitBase then ((b.dropEngWait e).ungate e).leaveDomain (8 + e) true else (b.dropEngWait e).ungate e

theorem engineOut_keeps (b : Block) (e : Nat) : Keeps 4370759808 b (engineOut b e) := by
  have h : Keeps 4370759808 b ((b.dropEngWait e).ungate e) := Block.ungate_keeps rfl (Block.dropEngWait_keeps rfl (Keeps.refl _ _))
  exact Keeps.choice (fun _ => Block.leaveDomain_keeps rfl h) fun _ => h

theorem dropEngWait_use (b : Block) (e k : Nat) : ((b.dropEngWait e).eng k).use = (b.eng k).use := by
  unfold Block.dropEngWait
  extract_lets b'
  by_cases h : e = k
  · subst h
    rw [Block.setEng_self]
    rfl
  · exact congrArg Engine.use (Block.setEng_other _ _ _ _ h)

theorem scrub_use (x : Engine) (n : Nat) : (x.scrub n).use = x.use := by
  unfold Engine.scrub
  split <;> rfl

theorem ungate_use (b : Block) (e k : Nat) : ((b.ungate e).eng k).use = (b.eng k).use := by
  unfold Block.ungate
  extract_lets gs
  by_cases h : e = k
  · subst h
    rw [Block.setEng_self]
    show (if (b.eng e).gated then (b.eng e).scrub (b.reg Reg.RC_EPOCH) else b.eng e).use = _
    split
    · exact scrub_use _ _
    · rfl
  · exact congrArg Engine.use (Block.setEng_other _ _ _ _ h)

theorem engineOut_use (b : Block) (e k : Nat) : ((engineOut b e).eng k).use = (b.eng k).use := by
  have h : (((b.dropEngWait e).ungate e).eng k).use = (b.eng k).use := (ungate_use ..).trans (dropEngWait_use ..)
  unfold engineOut
  split
  · rw [eng_of (leaveDomain_engines ..), h]
  · exact h

/-- What a reset leaves of an idle engine (R407). -/
def Engine.wiped (x : Engine) : Engine := { x.clearQueue with
  tlb := [], args := [], inv := 0, delivered := 0, retired := 0, draining := false, drainCycles := 0, quiet := decide (x.use ≠ .free)
  clearing := false, needClear := true }

theorem resetEng_free {b : Block} {e : Nat} (h : (b.eng e).use = .free) :
    b.resetEng e = (engineOut b e).setEng e (Engine.wiped ((engineOut b e).eng e)) := by
  have hfree : ((engineOut b e).eng e).use = .free := (engineOut_use b e e).trans h
  unfold Block.resetEng
  extract_lets b₁ b₂ x b₃
  have hx : x.use = .free := hfree
  rw [hx]
  rfl

theorem resetEng_eng {b : Block} {e : Nat} (h : (b.eng e).use = .free) :
    ((b.resetEng e).eng e).needClear = true ∧ ((b.resetEng e).eng e).draining = false := by
  rw [resetEng_free h, Block.setEng_self]
  exact ⟨rfl, rfl⟩

theorem workCtx_free {b : Block} {e : Nat} (h : (b.eng e).use = .free) : b.workCtx e = none := by
  unfold Block.workCtx
  rw [h]

theorem cancelWork_free {b : Block} {e : Nat} (h : (b.eng e).use = .free) : b.cancelWork e = b := by
  unfold Block.cancelWork
  rw [h]

/-- A reset of an idle engine cancels no work: its event has one record, of no context (R407). -/
theorem l1Reset_free {b : Block} {e : Nat} (h : (b.eng e).use = .free) :
    b.l1Reset e = ((b.resetEng e).count Reg.RC_L_COUNT0 31 16 1).event pgHal 10 0 (engCode e) := by
  unfold Block.l1Reset
  rw [workCtx_free h, cancelWork_free h]
  rfl

theorem l1_acts {b : Block} {e : Nat} (he : ofEngCode (engCode e) = e) (h : (b.eng e).use = .free) :
    (((noted b (firstOrder 1 (engCode e))).actOrder (firstOrder 1 (engCode e))).eng e).needClear = true
      ∧ (((noted b (firstOrder 1 (engCode e))).actOrder (firstOrder 1 (engCode e))).eng e).draining = false
      ∧ ((noted b (firstOrder 1 (engCode e))).actOrder (firstOrder 1 (engCode e))).order
        = some { firstOrder 1 (engCode e) with acted := true } := by
  have hacts : (noted b (firstOrder 1 (engCode e))).actOrder (firstOrder 1 (engCode e)) = (acting b 1 (engCode e)).l1Reset e := by
    show (acting b 1 (engCode e)).l1Reset (ofEngCode (engCode e)) = _
    rw [he]
  have hidle : ((acting b 1 (engCode e)).eng e).use = .free := by rw [eng_of (acting_frame b 1 _ .engines (by decide)), h]
  have hengs := resetEng_eng hidle
  have horders := same_of_keeps (p := .orders) (Block.l1Reset_keeps (e := e) (sub_refl _) (Keeps.refl _ (acting b 1 (engCode e)))) rfl
  rw [hacts]
  refine ⟨?_, ?_, horders.1.symm⟩
  · rw [l1Reset_free hidle, eng_of (event_frame _ _ _ _ _ .engines (by decide))]
    exact hengs.1
  · rw [l1Reset_free hidle, eng_of (event_frame _ _ _ _ _ .engines (by decide))]
    exact hengs.2

/-! ### L2: a harness is reset -/

theorem resetEng_use {b : Block} {e : Nat} (h : (b.eng e).use = .free) (k : Nat) : ((b.resetEng e).eng k).use = (b.eng k).use := by
  rw [resetEng_free h]
  by_cases hk : e = k
  · subst hk
    rw [Block.setEng_self]
    exact engineOut_use b e e
  · rw [Block.setEng_other _ _ _ _ hk]
    exact engineOut_use b e k

theorem resetEng_harness {b : Block} {e : Nat} (h : (b.eng e).use = .free) (k : Nat) : (b.resetEng e).harness k = b.harness k := by
  rw [resetEng_free h, Block.setEng_harness]
  exact harness_of (same_of_keeps (engineOut_keeps b e) rfl)

/-- The resets of idle engines leave the harnesses: they settle no work. -/
theorem resetEngs_harness (k : Nat) : ∀ (es : List Nat) {b : Block}, (∀ e ∈ es, (b.eng e).use = .free) →
    (es.foldl Block.resetEng b).harness k = b.harness k
  | [], _, _ => rfl
  | e :: es, b, h => by
    have he : (b.eng e).use = .free := h e List.mem_cons_self
    rw [List.foldl_cons, resetEngs_harness k es fun x hx => (resetEng_use he x).trans (h x (List.mem_cons_of_mem _ hx)),
      resetEng_harness he]

theorem cancelWorks_free : ∀ (es : List Nat) {b : Block}, (∀ e ∈ es, (b.eng e).use = .free) → es.foldl Block.cancelWork b = b
  | [], _, _ => rfl
  | e :: es, b, h => by
    rw [List.foldl_cons, cancelWork_free (h e List.mem_cons_self), cancelWorks_free es fun x hx => h x (List.mem_cons_of_mem _ hx)]

/-- The mask of what an L2 writes after its engines are reset: their lighting, the held writes, RC_EPOCH and its notices. -/
abbrev l2Parts : Nat := 283468202112

theorem l2Reset_state {b : Block} {h : Nat} (hidle : ∀ e, e ∈ (b.harness h).cores ∨ e ∈ (b.harness h).units → (b.eng e).use = .free) :
    ((b.l2Reset h).harness h).st = .reset := by
  unfold Block.l2Reset
  extract_lets x es cs b₁ b₂ b₃ b₄ b₅ b₆ b₇
  have hes : ∀ e ∈ es, (b₁.eng e).use = .free := fun e he => hidle e (List.mem_append.1 he)
  have h₂ : b₂ = b₁ := cancelWorks_free es hes
  have h₃ : b₃.harness h = b₁.harness h := by
    rw [show b₃ = es.foldl Block.resetEng b₁ by rw [← h₂]]
    exact resetEngs_harness h es hes
  have h₄ : Keeps l2Parts b₃ b₄ := Block.discardHeld_keeps rfl (Keeps.refl _ _)
  have h₅ : Keeps l2Parts b₃ b₅ := by
    refine Keeps.foldl (fun _ _ h => ?_) _ h₄
    exact Block.setEng_keeps rfl h
  have h₆ : Keeps l2Parts b₃ b₆ := Block.count_keeps rfl (Block.bumpEpoch_keeps rfl h₅)
  have h₇ : Keeps l2Parts b₃ b₇ := Keeps.choice (fun _ => h₆) fun _ => Block.lightEngs_keeps rfl h₆
  have hend : Keeps l2Parts b₃ (b₇.postCancelled cs) := Block.postCancelled_keeps rfl h₇
  rw [harness_of (same_of_keeps hend rfl), h₃]
  exact congrArg Harness.st (Block.setHarness_self ..)

theorem l2_acts {b : Block} {h : Nat} (hidle : ∀ e, e ∈ (b.harness h).cores ∨ e ∈ (b.harness h).units → (b.eng e).use = .free) :
    (((noted b (firstOrder 2 h)).actOrder (firstOrder 2 h)).harness h).st = .reset
      ∧ ((noted b (firstOrder 2 h)).actOrder (firstOrder 2 h)).order = some { firstOrder 2 h with acted := true } := by
  have hframe := acting_frame b 2 h
  have hharness : (acting b 2 h).harness h = b.harness h := harness_of (hframe .harnesses (by decide))
  have hst : (((acting b 2 h).l2Reset h).harness h).st = .reset := by
    refine l2Reset_state fun e he => ?_
    rw [hharness] at he
    rw [eng_of (hframe .engines (by decide)), hidle e he]
  have horders := same_of_keeps (p := .orders) (Block.l2Reset_keeps (h' := h) (sub_refl _) (Keeps.refl _ (acting b 2 h))) rfl
  exact ⟨hst, horders.1.symm⟩

/-! ### L3 and L4: the core domain is reset -/

/-- The jobs are told, and the reset is counted or recorded, before the core domain goes (R408, R411). -/
theorem jobsTold_keeps (b : Block) (l : List Nat) : Keeps 8589934720 b (l.foldl (fun b j => b.postErr true j 0x32) b) := by
  refine Keeps.foldl (fun _ _ h => ?_) _ (Keeps.refl _ b)
  exact Block.postErr_keeps rfl h

theorem coreReset_dev (b : Block) : b.coreReset.dev = b.dev := by
  have h : Part.same .dev b b.resetSlots.resetRegs :=
    same_of_keeps (m := 4194432) (Block.resetRegs_keeps rfl (Block.resetSlots_keeps rfl (Keeps.refl _ _))) rfl
  exact Eq.symm h

theorem coreReset_wear (b : Block) : b.coreReset.wear = b.wear := by
  have h : Part.same .wear b b.resetSlots.resetRegs :=
    same_of_keeps (m := 4194432) (Block.resetRegs_keeps rfl (Block.resetSlots_keeps rfl (Keeps.refl _ _))) rfl
  exact Eq.symm h

theorem resetLedger_frame (b : Block) (cause : Nat) : agreeBut [.regs, .ports, .stop, .cinder] b (b.resetLedger cause) :=
  agree_of_keeps (Block.resetLedger_keeps (sub_refl _) (Keeps.refl _ _)) (by decide)

/-- What an L3 leaves: OFF without contexts or commands, memory and the wear records as they were (R407). -/
structure ChipReset (a b : Block) : Prop where
  done : b.l3Done = true
  off : b.st = .off
  contexts : b.ctxs = []
  commands : b.cmds = []
  memory : b.dev = a.dev
  wear : b.wear = a.wear

theorem l3Reset_resets (b : Block) : ChipReset b b.l3Reset := by
  unfold Block.l3Reset
  extract_lets b₁ b₂
  have htold : Keeps 8589934720 b b₂ := Block.count_keeps rfl (jobsTold_keeps b b.jobs)
  have hdev : b.dev = b₂.dev := same_of_keeps (p := .dev) htold rfl
  have hwear : b.wear = b₂.wear := same_of_keeps (p := .wear) htold rfl
  have hframe := resetLedger_frame { b₂.coreReset with l3Done := true } 2
  exact {
    done := (hframe .orders (by decide)).2.1.symm
    off := Eq.symm (hframe .mode (by decide))
    contexts := Eq.symm (hframe .contexts (by decide))
    commands := (hframe .queues (by decide)).2.symm
    memory := (Eq.symm (hframe .dev (by decide))).trans ((coreReset_dev b₂).trans hdev.symm)
    wear := (Eq.symm (hframe .wear (by decide))).trans ((coreReset_wear b₂).trans hwear.symm) }

theorem actOrder_chip (b : Block) {o : Order} (h : o.level = 3) :
    b.actOrder o = Block.l3Reset { b with order := some { o with acted := true } } := by
  unfold Block.actOrder
  simp only [h]

theorem l3_acts (b : Block) : ChipReset b ((noted b (firstOrder 3 0)).actOrder (firstOrder 3 0)) := by
  rw [actOrder_chip _ rfl]
  obtain ⟨hdone, hoff, hctxs, hcmds, hdev, hwear⟩ := l3Reset_resets (acting b 3 0)
  have hframe := acting_frame b 3 0
  exact ⟨hdone, hoff, hctxs, hcmds, hdev.trans (Eq.symm (hframe .dev (by decide))), hwear.trans (Eq.symm (hframe .wear (by decide)))⟩

theorem l4Cycle_requests (b : Block) : b.l4Cycle.st = .power ∧ b.l4Cycle.pins.coreHeld = true ∧ b.l4Cycle.pins.pwrcycReq = true
    ∧ b.l4Cycle.pwr.isSome = true := ⟨rfl, rfl, rfl, rfl⟩

/-! ### The rows -/

theorem l0ContextTeardown_gives {s : State} {path : Nat} (c : Nat) (ht : Takes s path Reg.RC_ORDER) :
    Gives (.l0ContextTeardown path c) s (s.blk.order_ path 0 c) := write_takes ht

theorem l1EngineReset_gives {s : State} {path : Nat} (e : Nat) (ht : Takes s path Reg.RC_ORDER) :
    Gives (.l1EngineReset path e) s (s.blk.order_ path 1 (engCode e)) := write_takes ht

theorem l2HarnessReset_gives {s : State} {path : Nat} (h : Nat) (ht : Takes s path Reg.RC_ORDER) :
    Gives (.l2HarnessReset path h) s (s.blk.order_ path 2 h) := write_takes ht

theorem l3ChipReset_gives {s : State} {path : Nat} (ht : Takes s path Reg.RC_ORDER) :
    Gives (.l3ChipReset path) s (s.blk.order_ path 3 0) := write_takes ht

theorem l4PowerCycle_gives {s : State} {path : Nat} (ht : Takes s path Reg.RC_ORDER) :
    Gives (.l4PowerCycle path) s (s.blk.order_ path 4 0) := write_takes ht

/-- A first order whose target is valid acts (R404, R405, R407). -/
theorem order_acts {b : Block} {path level target : Nat} (hstop : b.stop.stopped = false) (hfirst : b.order = none)
    (hsem : b.holds path pgRc = true) (hlow : level < 3) (ht : b.orderTarget level target = true) (hup : b.down = false) :
    b.order_ path level target = (noted b (firstOrder level target)).actOrder (firstOrder level target) :=
  (order_accepts hstop hfirst (fun _ => hsem) fun h => absurd hlow (Nat.not_lt.2 h)).trans
    (acceptOrder_acts hfirst ht fun _ => hup)

/-- A first order of level 3 or 4 acts outside a power cycle, whoever holds the semaphore (R404, R408). -/
theorem order_acts_high {b : Block} {path level target : Nat} (hstop : b.stop.stopped = false) (hfirst : b.order = none)
    (hcycle : b.pwr = none) (hhigh : 3 ≤ level) (ht : b.orderTarget level target = true) :
    b.order_ path level target = (noted b (firstOrder level target)).actOrder (firstOrder level target) :=
  (order_accepts hstop hfirst (fun h => absurd h (Nat.not_lt.2 hhigh)) fun _ => hcycle).trans
    (acceptOrder_acts hfirst ht fun h => absurd h (Nat.not_lt.2 hhigh))

/-- Settles O41: a first order by its target and its level, any other by what forbids it, and the end of an order by what it waits for.
That a row whose condition does not hold changes nothing is log entry 2. -/
theorem orderRows : Obligations.OrderRows := by
  unfold Obligations.OrderRows
  intro s
  refine ⟨?_, ?_, ?_, ?_, ?_, ?_, ?_, ?_⟩
  · intro path ht hstop hfirst hsem
    refine ⟨?_, ?_, ?_, ?_⟩
    · intro c hbad
      have hg := l0ContextTeardown_gives c ht
      rw [order_accepts hstop hfirst (fun _ => hsem) fun h => absurd h (by decide)] at hg
      exact ⟨_, hg, acceptOrder_refused_status hfirst hbad⟩
    · intro c hok hup hopen _ _
      have hg := l0ContextTeardown_gives c ht
      rw [order_acts hstop hfirst hsem (by decide) hok hup] at hg
      have hc : c ≠ 0 := (of_decide_eq_true hok).1
      obtain ⟨hlost, horder⟩ := l0_acts hc hopen
      exact ⟨_, _, hg, hlost, horder, rfl, rfl, rfl⟩
    · intro e hin hcode hup hidle
      have hg := l1EngineReset_gives e ht
      have hok : s.blk.orderTarget 1 (engCode e) = true := by
        show s.blk.inService (ofEngCode (engCode e)) = true
        rw [hcode, hin]
      rw [order_acts hstop hfirst hsem (by decide) hok hup] at hg
      obtain ⟨hclear, hdrain, horder⟩ := l1_acts hcode hidle
      exact ⟨_, _, hg, hclear, hdrain, horder, rfl, rfl⟩
    · intro h hok hup hidle
      have hg := l2HarnessReset_gives h ht
      rw [order_acts hstop hfirst hsem (by decide) hok hup] at hg
      obtain ⟨hreset, horder⟩ := l2_acts hidle
      exact ⟨_, _, hg, hreset, horder, rfl, rfl, rfl⟩
  · intro path ht hstop hfirst hcycle
    have hchip := l3ChipReset_gives ht
    have hpower := l4PowerCycle_gives ht
    rw [order_acts_high hstop hfirst hcycle (by decide) rfl] at hchip hpower
    obtain ⟨hdone, hoff, hctxs, hcmds, hdev, hwear⟩ := l3_acts s.blk
    exact ⟨⟨_, hchip, hdone, hoff, hctxs, hcmds, hdev, hwear⟩, _, hpower, l4Cycle_requests (acting s.blk 4 0)⟩
  · intro path o ht hstop hsem ho
    have horder : (s.blk.pageErr path Reg.RC_ORDER).order = some o :=
      (pageErr_frame s.blk path Reg.RC_ORDER .orders (by decide)).1.symm.trans ho
    refine ⟨fun c => ⟨?_, horder⟩, fun e hlow => ⟨?_, horder⟩, fun h hlow => ⟨?_, horder⟩⟩
    · have hg := l0ContextTeardown_gives c ht
      rwa [order_busy hstop hsem ho (by decide) (Nat.zero_le _)] at hg
    · have hg := l1EngineReset_gives e ht
      rwa [order_busy hstop hsem ho (by decide) hlow] at hg
    · have hg := l2HarnessReset_gives h ht
      rwa [order_busy hstop hsem ho (by decide) hlow] at hg
  · intro path h ht hstop hsem hfirst hnone
    have hg := l2HarnessReset_gives h ht
    rw [order_held hstop hsem hfirst hnone] at hg
    exact ⟨_, hg, rfl, hfirst, rfl⟩
  · intro path ht hstop hcycle
    have hchip := l3ChipReset_gives ht
    have hpower := l4PowerCycle_gives ht
    rw [order_ignored hstop (by decide) hcycle] at hchip hpower
    exact ⟨hchip, hpower⟩
  · intro o hr ho hdone hlevel
    have hg := orderDone_gives hr ho
    rw [if_neg (by simp [hdone]), if_neg hlevel] at hg
    exact ⟨hg, endOrder_order _⟩
  · intro o hr ho hdone hlevel
    have hg := orderDone_gives hr ho
    rw [if_neg (by simp [hdone]), if_pos hlevel] at hg
    exact ⟨harnessBack s.blk o.target, hg, harnessBack_active _ _, endOrder_order _⟩
  · intro o hr ho hwait
    have hg := orderDone_gives hr ho
    rwa [if_pos (by simp [hwait])] at hg

end Sys2Proof.Proofs
end

section
/-!
SUPPORT. The Spare Manager (R307, R397, R424 to R426, R430): what a retirement, a spare's entry and an error leave of the wear
records, and the rows that retire parts.
-/
namespace Sys2Proof.Proofs

open Sys2Proof Sys2Proof.Machine Sys2Proof.Safety Sys2Proof.Laws

/-! ### Wear records -/

theorem wearOf_of {a b : Block} {kind k : Nat} (hs : Part.same .straps a b) (hw : Part.same .wear a b) : b.wearOf kind k = a.wearOf kind k := by
  unfold Block.wearOf
  rw [show a.straps = b.straps from hs, show a.wear = b.wear from hw]

/-- What writes neither straps nor wear records leaves every wear record. -/
theorem wearOf_of_keeps {m : Nat} {a b : Block} {kind k : Nat} (h : Keeps m a b) (hs : m.testBit (idx .straps) = false)
    (hw : m.testBit (idx .wear) = false) : b.wearOf kind k = a.wearOf kind k :=
  wearOf_of (same_of_keeps h hs) (same_of_keeps h hw)

theorem setWear_wearOf_other (b : Block) (kind : Nat) {k j : Nat} (v : Wear) (h : k ≠ j) : (b.setWear kind k v).wearOf kind j = b.wearOf kind j :=
  Tab.get_set_other _ _ _ (by omega)

/-- The mask of what a record and an event of the Spare Manager write. -/
abbrev noticeParts : Nat := 13202729470336

theorem retireInst_wearOf (b : Block) (kind k x j : Nat) :
    (b.retireInst kind k).wearOf x j = (b.setWear kind k { b.wearOf kind k with st := 2 }).wearOf x j := by
  unfold Block.retireInst
  extract_lets w b₁
  have h : Keeps noticeParts b₁ ((b₁.cinderRec 0x07 kind 0 (k % 2 ^ 20)).spareEvent kind k 1) :=
    Block.spareEvent_keeps rfl (Block.cinderRec_keeps rfl (Keeps.refl _ _))
  exact wearOf_of_keeps h rfl rfl

theorem enterInst_wearOf (b : Block) (kind k x j : Nat) :
    (b.enterInst kind k).wearOf x j = (b.setWear kind k { b.wearOf kind k with st := 0 }).wearOf x j := by
  unfold Block.enterInst
  extract_lets w b₁
  have h : Keeps noticeParts b₁ ((b₁.cinderRec 0x07 kind 0 (2 ^ 20 + k % 2 ^ 20)).spareEvent kind k 2) :=
    Block.spareEvent_keeps rfl (Block.cinderRec_keeps rfl (Keeps.refl _ _))
  exact wearOf_of_keeps h rfl rfl

theorem retireInst_retired (b : Block) (kind k : Nat) : ((b.retireInst kind k).wearOf kind k).st = 2 := by
  rw [retireInst_wearOf, Block.setWear_self]

theorem changeCaps_wearOf (b : Block) (x j : Nat) : b.changeCaps.wearOf x j = b.wearOf x j :=
  wearOf_of_keeps (m := 512) (Block.changeCaps_keeps rfl (Keeps.refl _ _)) rfl rfl

theorem enterSpare_wearOf_other (b : Block) (kind : Nat) {k j : Nat} (h : k ≠ j) : (b.enterSpare kind k).wearOf kind j = b.wearOf kind j := by
  unfold Block.enterSpare
  rw [changeCaps_wearOf, enterInst_wearOf, setWear_wearOf_other _ _ _ h]

/-- An uncorrectable error counts and leaves the state of its part. -/
theorem storageUe_wearOf_st (b : Block) (kind k : Nat) : ((b.storageUe kind k).wearOf kind k).st = (b.wearOf kind k).st := by
  unfold Block.storageUe
  extract_lets w b₁
  have hst : (b₁.wearOf kind k).st = w.st :=
    (congrArg Wear.st (Block.setWear_self ..)).trans rfl
  rw [← hst]
  split
  case h_1 pg _ =>
    have h : Keeps noticeParts b₁ (b₁.ueEvent pg kind k) := Block.ueEvent_keeps rfl (Keeps.refl _ _)
    exact congrArg Wear.st (wearOf_of_keeps h rfl rfl)
  case h_2 =>
    have h : Keeps noticeParts b₁ (b₁.cinderRec 0x06 kind 0 (k % 2 ^ 20)) := Block.cinderRec_keeps rfl (Keeps.refl _ _)
    exact congrArg Wear.st (wearOf_of_keeps h rfl rfl)

/-- A walker or a way of the range cache in service is no spare of its group (R430). -/
theorem spare_ne {b : Block} {kind k n : Nat} (hkind : kind = 1 ∨ kind = 4) (hserves : (b.wearOf kind k).st < 2)
    (hn : (b.sparesOf kind k).head? = some n) : n ≠ k := by
  have hspare : (b.wearOf kind n).st = 3 := by
    have hmem := List.mem_of_mem_head? hn
    rcases hkind with rfl | rfl <;> exact of_decide_eq_true (List.mem_filter.1 hmem).2
  rintro rfl
  omega

/-! ### SM_RETIRE -/

theorem spareRetireGo_gives {s : State} {path : Nat} (ht : Takes s path Reg.SM_RETIRE) : Gives (.spareRetireGo path) s s.blk.retireGo :=
  write_takes ht

theorem retireGo_busy {b : Block} {x : Nat × Nat} (h : b.retireReq = some x) : b.retireGo = b.setField Reg.SM_RETIRE 7 0 0x14 := by
  unfold Block.retireGo
  rw [h]
  exact if_pos rfl

theorem retireGo_out {b : Block} (h : b.retireReq = none) (hout : 2 ≤ (b.wearOf (b.field Reg.SM_SEL 31 28) (b.field Reg.SM_SEL 19 0)).st) :
    b.retireGo = b.setField Reg.SM_RETIRE 7 0 0x13 := by
  unfold Block.retireGo
  rw [h]
  exact (if_neg Bool.false_ne_true).trans (if_pos hout)

/-- A retirement under way waits while its part has not left service. -/
theorem settleRetire_waits {b : Block} {kind k : Nat} (h : b.retireReq = some (kind, k)) (hin : (b.wearOf kind k).st ≠ 2) :
    b.settleRetire = b := by
  unfold Block.settleRetire
  rw [h]
  exact if_neg hin

/-- SM_RETIRE takes the retirement of core `k`, which leaves once it holds no work (R425). -/
def retiringCore (b : Block) (k : Nat) : Block :=
  let b := { b with retireReq := some (6, k) }.setReg Reg.SM_RETIRE (2 ^ 31)
  b.setEng k { b.eng k with retiring := true }

theorem retireGo_core {b : Block} (hkind : b.field Reg.SM_SEL 31 28 = 6) (h : b.retireReq = none)
    (hin : (b.wearOf 6 (b.field Reg.SM_SEL 19 0)).st < 2) : b.retireGo = retiringCore b (b.field Reg.SM_SEL 19 0) := by
  have hwaits : (retiringCore b (b.field Reg.SM_SEL 19 0)).settleRetire = retiringCore b (b.field Reg.SM_SEL 19 0) :=
    settleRetire_waits rfl (show (b.wearOf 6 (b.field Reg.SM_SEL 19 0)).st ≠ 2 by omega)
  unfold Block.retireGo
  rw [h, hkind]
  exact (if_neg Bool.false_ne_true).trans ((if_neg (Nat.not_le.2 hin)).trans hwaits)

/-! ### Engines -/

theorem settleRetire_eng (b : Block) (n : Nat) : b.settleRetire.eng n = b.eng n :=
  eng_of (same_of_keeps (m := 137438953600) (Block.settleRetire_keeps rfl (Keeps.refl _ _)) rfl)

theorem lightEngs_eng (b : Block) (es : List Nat) (n : Nat) : (b.lightEngs es).eng n = b.eng n := rfl

theorem mapCmds_eng (b : Block) (p : Cmd → Bool) (f : Cmd → Cmd) (n : Nat) : (b.mapCmds p f).eng n = b.eng n := rfl

theorem changeCaps_eng (b : Block) (n : Nat) : b.changeCaps.eng n = b.eng n :=
  eng_of (same_of_keeps (m := 512) (Block.changeCaps_keeps rfl (Keeps.refl _ _)) rfl)

/-- A spare takes the harness of the engine that it replaces, and is cleared before it works (R303, R425). -/
theorem replaceEngine_eng (b : Block) (e n : Nat) :
    ((b.replaceEngine e n).eng n).harness = (b.eng e).harness ∧ ((b.replaceEngine e n).eng n).needClear = true := by
  unfold Block.replaceEngine
  extract_lets h pos b₁ x b₂ b₃ b₄ b₅
  have h₃ : b₃.eng n = b₂.eng n := by
    subst b₃
    clear_value b₂ h
    split
    · exact Block.setHarness_eng ..
    · rfl
  have h₅ : b₅.eng n = b₄.eng n := by
    subst b₅
    split
    · exact lightEngs_eng ..
    · rfl
  have h₂ : b₂.eng n = { b₁.eng n with harness := h, pos := pos, needClear := true, stamp := b₁.reg Reg.RC_EPOCH } := Block.setEng_self ..
  rw [changeCaps_eng, h₅, show b₄.eng n = b₃.eng n from mapCmds_eng .., h₃, h₂]
  exact ⟨rfl, rfl⟩

section
variable {s : State} {e : Nat} (hr : Runs s) (hretires : (s.blk.eng e).retiring = true) (hfree : (s.blk.eng e).use = .free)
  (hdrained : (s.blk.eng e).draining = false)
include hr hretires hfree hdrained

theorem engineReplacement_replaces {n : Nat} (hn : s.blk.spareFor e = some n) :
    Gives (.engineReplacement e) s (s.blk.replaceEngine e n).settleRetire := by
  show execEngineReplacement e s = _
  unfold execEngineReplacement
  rw [core_runs hr]
  dsimp only
  rw [if_pos ⟨hretires, hfree, by simp [hdrained]⟩, hn]

theorem engineReplacement_loses (hn : s.blk.spareFor e = none) :
    Gives (.engineReplacement e) s (s.blk.loseEngine e).settleRetire := by
  show execEngineReplacement e s = _
  unfold execEngineReplacement
  rw [core_runs hr]
  dsimp only
  rw [if_pos ⟨hretires, hfree, by simp [hdrained]⟩, hn]

end

/-! ### Errors -/

/-- The error counts of the page of a kind, and its armed CE used up (R512). -/
def cePage (b : Block) (kind k : Nat) : Block :=
  match kindPage kind k with
  | some pg => (b.count32 (pg * 0x1000 + Reg.PG_AON0)).setArms pg (b.arms pg / 2 * 2)
  | none => b

theorem cePage_wearOf (b : Block) (kind k x j : Nat) : (cePage b kind k).wearOf x j = b.wearOf x j := by
  unfold cePage
  split
  case h_1 pg _ =>
    have h : Keeps 384 b (b.count32 (pg * 0x1000 + Reg.PG_AON0)) := Block.count32_keeps rfl (Keeps.refl _ _)
    exact wearOf_of_keeps (Block.setArms_keeps (F := 384) rfl h) rfl rfl
  case h_2 => rfl

/-- A correctable error that does not make its part PREDICTED counts, and no more (R397, R424). -/
theorem correctableError_counts {s : State} {kind k : Nat} (hr : Runs s) (hok : s.blk.instOk kind k = true)
    (hfew : (s.blk.wearOf kind k).st ≠ 0 ∨ (s.blk.recentCe (s.blk.wearOf kind k)).length ≤ s.blk.reg Reg.SM_THRESH) :
    Gives (.correctableError kind k) s (cePage (s.blk.setWear kind k { s.blk.wearOf kind k with
      ce := satAdd 16 (s.blk.wearOf kind k).ce 1, recent := s.blk.recentCe (s.blk.wearOf kind k) }) kind k) := by
  have hpred : (decide ((s.blk.wearOf kind k).st = 0)
      && decide (s.blk.reg Reg.SM_THRESH < (s.blk.recentCe (s.blk.wearOf kind k)).length)) = false := by
    rcases hfew with h | h
    · rw [decide_eq_false h, Bool.false_and]
    · rw [decide_eq_false (Nat.not_lt.2 h), Bool.and_false]
  show execCorrectableError kind k s = _
  unfold execCorrectableError
  rw [core_runs hr]
  dsimp only
  rw [hok, hpred]
  rfl

theorem engineUe_retires {s : State} {e : Nat} (hr : Runs s) (hin : s.blk.inService e = true) :
    ∃ t, exec (.engineUe e) s = .next t ∧ (t.blk.eng e).retiring = true := by
  show ∃ t, execEngineUe e s = .next t ∧ _
  unfold execEngineUe
  rw [core_runs hr]
  refine ⟨_, rfl, ?_⟩
  dsimp only
  rw [if_neg (by simp [hin])]
  exact congrArg Engine.retiring (Block.setEng_self ..)

/-! ### Walkers and ways of the range cache -/

theorem startWalks_wearOf (b : Block) (x j : Nat) : b.startWalks.wearOf x j = b.wearOf x j :=
  wearOf_of_keeps (m := 67174400) (Block.startWalks_keeps rfl (Keeps.refl _ _)) rfl rfl

theorem walkers_serve {b : Block} {k : Nat} (h : b.walkers.contains k = true) : (b.wearOf 1 k).st < 2 := by
  have hmem : k ∈ b.walkers := List.contains_iff_mem.1 h
  exact of_decide_eq_true (List.mem_filter.1 hmem).2

/-- A walker that leaves service stays out of it: its spare is another one (R279). -/
theorem swapWalker_retires {b : Block} {k : Nat} (h : (b.wearOf 1 k).st < 2) : ((b.swapWalker k).wearOf 1 k).st = 2 := by
  unfold Block.swapWalker
  extract_lets next b₁ b₂
  have h₂ : (b₂.wearOf 1 k).st = 2 := retireInst_retired b 1 k
  have hnext : (b.sparesOf 1 k).head? = next := rfl
  clear_value next
  rw [startWalks_wearOf]
  split
  case h_1 n =>
    rw [enterSpare_wearOf_other _ _ (spare_ne (.inl rfl) h hnext), h₂]
  case h_2 => rw [changeCaps_wearOf, h₂]

theorem walkerUe_gives {s : State} {k : Nat} (hr : Runs s) (h : s.blk.walkers.contains k = true) :
    Gives (.walkerUe k) s ((s.blk.storageUe 1 k).swapWalker k) := by
  show execWalkerUe k s = _
  unfold execWalkerUe
  rw [core_runs hr, if_pos h]

theorem rangeCache_of {a b : Block} (h : Part.same .translation a b) : b.rangeCache = a.rangeCache := by
  obtain ⟨hrange, _⟩ := h
  exact hrange.symm

/-- A way of the range cache leaves service without its entries, and its spare is another one (R424). -/
theorem retireRange_retires {b : Block} {k : Nat} (h : (b.wearOf 4 k).st < 2) :
    ((b.retireRange k).wearOf 4 k).st = 2 ∧ ∀ x ∈ (b.retireRange k).rangeCache, x.2 ≠ k := by
  unfold Block.retireRange
  extract_lets next b₁
  have hout : (b₁.wearOf 4 k).st = 2 := retireInst_retired { b with rangeCache := b.rangeCache.filter (·.2 ≠ k) } 4 k
  have hgone : ∀ x ∈ b₁.rangeCache, x.2 ≠ k := by
    intro x hx
    rw [rangeCache_of (same_of_keeps (m := 13752485283968) (Block.retireInst_keeps rfl (Keeps.refl _ _)) rfl)] at hx
    exact of_decide_eq_true (List.mem_filter.1 hx).2
  have hnext : (b.sparesOf 4 k).head? = next := rfl
  clear_value next
  split
  case h_1 n =>
    rw [enterSpare_wearOf_other _ _ (spare_ne (.inr rfl) h hnext),
      rangeCache_of (same_of_keeps (m := 13752485284480) (Block.enterSpare_keeps rfl (Keeps.refl _ _)) rfl)]
    exact ⟨hout, hgone⟩
  case h_2 => exact ⟨hout, hgone⟩

theorem rangeCacheWayUe_gives {s : State} {k : Nat} (hr : Runs s) (hk : k < 17) (h : (s.blk.wearOf 4 k).st < 2) :
    Gives (.rangeCacheWayUe k) s ((s.blk.storageUe 4 k).retireRange k) := by
  show execRangeCacheWayUe k s = _
  unfold execRangeCacheWayUe
  rw [core_runs hr, if_pos ⟨hk, h⟩]

/-! ### Channels -/

theorem nth_modAt (f : Nat → Nat) : ∀ (k : Nat) (l : List Nat), k < l.length → nth (modAt f k l) k = f (nth l k)
  | _, [], h => absurd h (Nat.not_lt_zero _)
  | 0, _ :: _, _ => rfl
  | k + 1, _ :: l, h => nth_modAt f k l (Nat.lt_of_succ_lt_succ h)

/-- A mask with a bit set is one of the list: any other reads 0. -/
theorem lt_of_bit_nth {l : List Nat} {k ch : Nat} (h : bit (nth l k) ch = true) : k < l.length := by
  by_contra hk
  rw [nth, List.getD_eq_default _ _ (Nat.not_lt.1 hk), bit, Nat.zero_testBit] at h
  cases h

theorem bit_cleared {ch : Nat} (m : Nat) (h : ch < 16) : bit (m &&& (65535 - 2 ^ ch)) ch = false := by
  have hmask : ∀ c < 16, (65535 - 2 ^ c).testBit c = false := by decide
  rw [bit, Nat.testBit_and, hmask ch h, Bool.and_false]

theorem chanOk_of {a b : Block} (h : Part.same .layout a b) : b.chanOk = a.chanOk := by
  obtain ⟨hchan, _⟩ := h
  exact hchan.symm

/-- The mask of what the loss of a channel writes after the layout: its flag and event, the pool, the ledger and the table. -/
abbrev channelParts : Nat := 402656896

theorem mapOut_out {b : Block} {st ch : Nat} (hch : ch < 16) (h : bit (nth b.chanOk st) ch = true) :
    bit (nth (b.mapOut st ch).chanOk st) ch = false := by
  unfold Block.mapOut
  extract_lets b₁ b₂ b₃ l out b₄ b₅
  have h₁ : b₁.chanOk = b.chanOk :=
    chanOk_of (same_of_keeps (m := 13752485283968) (Block.retireInst_keeps rfl (Keeps.refl _ _)) rfl)
  have h₃ : Keeps channelParts b₂ b₃ := Block.poolEvent_keeps rfl (Block.setField_keeps rfl (Keeps.refl _ _))
  have hend : Keeps channelParts b₂ b₅.changeCaps :=
    Block.changeCaps_keeps rfl (Block.ledgerTerm_keeps rfl (Block.setPool_keeps rfl h₃))
  rw [chanOk_of (same_of_keeps hend rfl)]
  show bit (nth (modAt (fun m => m &&& (65535 - 2 ^ ch)) st b₁.chanOk) st) ch = false
  rw [h₁, nth_modAt _ _ _ (lt_of_bit_nth h), bit_cleared _ hch]

theorem storageUe_chanOk (b : Block) (kind k : Nat) : (b.storageUe kind k).chanOk = b.chanOk :=
  chanOk_of (same_of_keeps (m := 13752485284224) (Block.storageUe_keeps rfl (Keeps.refl _ _)) rfl)

theorem channelFailure_gives {s : State} {st ch : Nat} (hr : Runs s) (hup : s.blk.st = .ready ∨ s.blk.st = .run ∨ s.blk.st = .fault)
    (hch : ch < 16) (h : bit (nth s.blk.chanOk st) ch = true) :
    Gives (.channelFailure st ch) s ((s.blk.storageUe 8 (st * 16 + ch)).mapOut st ch) := by
  show execChannelFailure st ch s = _
  unfold execChannelFailure
  rw [core_runs hr]
  dsimp only
  rw [if_pos ⟨by simpa [or_assoc] using hup, hch, h⟩]

/-- Settles O43: a retirement by what SM_RETIRE holds, an engine by whether it has a spare, and each error by its part. -/
theorem spareRows : Obligations.SpareRows := by
  unfold Obligations.SpareRows
  intro s
  refine ⟨?_, ?_, ?_, ?_, ?_, ?_, ?_, ?_, ?_⟩
  · intro path inst ht hkind hinst hnone hin
    have hg := spareRetireGo_gives ht
    rw [hinst] at hin ⊢
    rw [retireGo_core hkind hnone hin] at hg
    exact ⟨_, hg, rfl, congrArg Engine.retiring (Block.setEng_self ..)⟩
  · intro path ht hnone hout
    have hg := spareRetireGo_gives ht
    rwa [retireGo_out hnone hout] at hg
  · intro path x ht hbusy
    have hg := spareRetireGo_gives ht
    rwa [retireGo_busy hbusy] at hg
  · intro e hr hretires hfree hdrained
    refine ⟨fun n hn => ⟨engineReplacement_replaces hr hretires hfree hdrained hn, ?_⟩,
      engineReplacement_loses hr hretires hfree hdrained⟩
    dsimp only
    rw [settleRetire_eng]
    exact replaceEngine_eng ..
  · rintro kind inst w hr hok rfl hfew
    exact ⟨_, correctableError_counts hr hok hfew, (cePage_wearOf ..).trans (Block.setWear_self ..)⟩
  · exact fun e hr hin => engineUe_retires hr hin
  · intro k hr hk
    have hin : ((s.blk.storageUe 1 k).wearOf 1 k).st < 2 := by rw [storageUe_wearOf_st]; exact walkers_serve hk
    exact ⟨walkerUe_gives hr hk, swapWalker_retires hin⟩
  · intro k hr hk hst
    have hin : ((s.blk.storageUe 4 k).wearOf 4 k).st < 2 := by rwa [storageUe_wearOf_st]
    exact ⟨rangeCacheWayUe_gives hr hk hst, retireRange_retires hin⟩
  · intro st ch hr hup hch hbit
    exact ⟨channelFailure_gives hr hup hch hbit, mapOut_out hch (by rwa [storageUe_chanOk])⟩

end Sys2Proof.Proofs
end

section
/-!
SUPPORT. Poison (R415 to R418): marks of bursts, their repair, the loss of a context that consumes one, and the retry of a step.
-/
namespace Sys2Proof.Proofs

open Sys2Proof Sys2Proof.Machine Sys2Proof.Safety Sys2Proof.Laws

/-! ### Marks -/

/-- A burst gets its mark, and a first read counts an uncorrectable error of its channel (R415, R424). -/
def markBurst (b : Block) (a : Nat) : Block :=
  let k := a / 2 ^ 37 * 16 + b.channelOf a
  let w := b.wearOf 8 k
  let p : Poison := { addr := a }
  { b with poison := b.poison ++ [p] }.setWear 8 k { w with ue := satAdd 8 w.ue 1 }

theorem poisonRead_gives {s : State} (addr : Nat) (hr : Runs s) :
    Gives (.poisonRead addr) s
      (if !s.blk.isDev (alignDown addr 256) ∨ s.blk.poison.any (·.addr = alignDown addr 256) then s.blk
        else markBurst s.blk (alignDown addr 256)) := by
  show execPoisonRead addr s = _
  unfold execPoisonRead
  rw [core_runs hr]
  rfl

/-! ### Repair -/

/-- Bytes put at places that follow one another in device memory are one write of it. -/
theorem putRun_dev (a : Nat) : ∀ (xs : List Byte) (k : Nat) (b : Block),
    ((((List.range' k xs.length).map fun j => Phys.dev (a + j)).zip xs).foldl (fun b px => b.putByte px.1 px.2) b).dev
      = Memory.write b.dev (a + k) xs
  | [], _, _ => rfl
  | x :: xs, k, b => putRun_dev a xs (k + 1) (b.putByte (.dev (a + k)) x)

theorem putBytes_run_dev (b : Block) (a : Nat) (xs : List Byte) :
    (b.putBytes ((List.range xs.length).map fun k => .dev (a + k)) xs).dev = Memory.write b.dev a xs := by
  have hrun := putRun_dev a xs 0 b
  rw [← List.range_eq_range'] at hrun
  unfold Block.putBytes
  have hmarks : ∀ (b : Block) ps, Part.same .dev b (b.clearMarks ps) := fun _ _ =>
    same_of_keeps (m := 137472507904) (Block.clearMarks_keeps rfl (Keeps.refl _ _)) rfl
  exact (Eq.symm (hmarks _ _)).trans hrun

theorem count_dev (b : Block) (r hi lo n : Nat) : (b.count r hi lo n).dev = b.dev :=
  Eq.symm (same_of_keeps (p := .dev) (m := 128) (Block.count_keeps rfl (Keeps.refl _ b)) rfl)

section
variable {s : State} {addr : Nat} {p : Poison} (hr : Runs s)
  (hp : (s.blk.poison.find? fun p => p.addr = alignDown addr 256 ∧ s.blk.repairs p) = some p)
include hr hp

/-- The golden bytes are written once the home has no work for their lines (R347, R416). -/
theorem poisonRepairDone_repairs {xs : List Byte} (hg : s.blk.golden p = some (.ok xs)) (hrest : AtRest s.blk) :
    Gives (.poisonRepairDone addr) s
      ((s.blk.putBytes ((List.range 256).map fun k => .dev (p.addr + k)) xs).count Reg.RC_POISON 15 0 1) := by
  obtain ⟨hup, hhome⟩ := hrest
  show execPoisonRepairDone addr s = _
  unfold execPoisonRepairDone
  rw [core_runs hr, hp]
  dsimp only
  rw [hg]
  dsimp only
  rw [if_neg (by simp [hup, hhome])]

/-- A burst whose golden copy is no use stays poisoned (R416). -/
theorem poisonRepairDone_dead (hg : s.blk.golden p = none) :
    Gives (.poisonRepairDone addr) s { s.blk with poison := mapIf (· = p) (fun p => { p with dead := true }) s.blk.poison } := by
  show execPoisonRepairDone addr s = _
  unfold execPoisonRepairDone
  rw [core_runs hr, hp]
  dsimp only
  rw [hg]

end

/-! ### Consumption -/

theorem notePoison_frame (b : Block) (ctx a : Nat) (consumed : Bool) :
    agreeBut [.regs, .events, .mappings, .ports, .stop, .cinder] b (b.notePoison ctx a consumed) :=
  agree_of_keeps (Block.notePoison_keeps (sub_refl _) (Keeps.refl _ _)) (by decide)

theorem endWork_loses {b : Block} {e q i st : Nat} {c : Cmd} (he : (b.eng e).use = .cmd q i) (hc : b.cmd? q i = some c) :
    b.endWork e st true = b.loseCtx c.ctx st (some (q, i)) := by
  unfold Block.endWork
  rw [he]
  dsimp only
  rw [hc]
  rfl

theorem poisonConsumed_loses {s : State} {e addr q i : Nat} {c : Cmd} (hr : Runs s)
    (hp : s.blk.poisonAt (alignDown addr 256) = some false) (he : (s.blk.eng e).use = .cmd q i) (hc : s.blk.cmd? q i = some c) :
    Gives (.poisonConsumed e addr) s ((s.blk.notePoison c.ctx (alignDown addr 256) true).loseCtx c.ctx 0x40 (some (q, i))) := by
  have hframe := notePoison_frame s.blk c.ctx (alignDown addr 256) true
  have hctx : s.blk.engCtx e = some c.ctx := by
    unfold Block.engCtx
    rw [he]
    exact congrArg (Option.map Cmd.ctx) hc
  have hends : (s.blk.notePoison c.ctx (alignDown addr 256) true).endWork e 0x40 true = _ :=
    endWork_loses ((congrArg Engine.use (eng_of (hframe .engines (by decide)))).trans he)
      ((cmd_of (hframe .queues (by decide))).trans hc)
  show execPoisonConsumed e addr s = _
  unfold execPoisonConsumed
  rw [core_runs hr, hctx]
  dsimp only
  rw [hp]
  dsimp only
  rw [hends]
  rfl

theorem poisonConsumed_stops {s : State} {e addr c h : Nat} (hr : Runs s) (hctx : s.blk.engCtx e = some c)
    (hp : s.blk.poisonAt (alignDown addr 256) = some true) (hh : (s.blk.eng e).harness = some h) :
    Gives (.poisonConsumed e addr) s ((s.blk.cinderRec 0x05 retryStep c (burstCode (alignDown addr 256))).stopStep c h) := by
  show execPoisonConsumed e addr s = _
  unfold execPoisonConsumed
  rw [core_runs hr, hctx]
  dsimp only
  rw [hp]
  dsimp only
  rw [hh]
  rfl

/-! ### A stopped step and its retry -/

theorem retry_of {a b : Block} (h : Part.same .poison a b) : b.retry = a.retry := by
  obtain ⟨_, hretry, _⟩ := h
  exact hretry.symm

/-- The mask of what the cancelling of a launch or an item writes. -/
abbrev cancelParts : Nat := 92463104

/-- A step that is stopped waits for its retry (R417). -/
theorem stopStep_waits (b : Block) (c h : Nat) : ((b.stopStep c h).retry.any fun r => r.ctx = c ∧ r.h = h) = true := by
  unfold Block.stopStep
  extract_lets r b₁ b₂
  have h₂ : Keeps cancelParts b₁ b₂ := by
    refine Keeps.foldl (fun _ _ h => ?_) _ (Keeps.refl _ _)
    exact Block.cancelCmd_keeps rfl h
  have hend : Keeps cancelParts b₁ ((b₂.tasks.filter fun t => t.ctx = c ∧ t.engs.any fun e => (b₂.eng e).harness = some h).foldl
      (fun b t => b.cancelItem c t.id retryStep) b₂) := by
    refine Keeps.foldl (fun _ _ h => ?_) _ h₂
    exact Block.cancelItem_keeps rfl h
  have hmem : r ∈ b₁.retry := by
    show r ∈ (if b.retry.contains r then b.retry else b.retry ++ [r])
    split
    · exact List.contains_iff_mem.1 ‹_›
    · exact List.mem_append_right _ List.mem_cons_self
  rw [retry_of (same_of_keeps hend rfl)]
  exact List.any_eq_true.2 ⟨r, hmem, decide_eq_true ⟨rfl, rfl⟩⟩

theorem retryStepDiscard_gives {s : State} {c h : Nat} (hr : Runs s) :
    Gives (.retryStepDiscard c h) s
      (if (s.blk.retry.any fun r => r.ctx = c ∧ r.h = h) ∧ s.blk.allQuiet ((s.blk.stoppedCmds c h).flatMap (·.engs)
          ++ (s.blk.stoppedTasks c h).flatMap (·.engs)) then s.blk.retryStepNow c h else s.blk) := by
  show execRetryStepDiscard c h s = _
  unfold execRetryStepDiscard
  rw [core_runs hr]

/-- The mask of what a retry writes after its launches have ended: the items of its tasks and its notices. -/
abbrev retryNotices : Nat := 8590067840

/-- A step whose one launch is stopped no longer waits for its retry, and the launch has ended with RETRY_STEP (R417). -/
theorem retryStepNow_ends {b : Block} {c h : Nat} {x : Cmd} (hone : b.stoppedCmds c h = [x]) (hx : b.cmd? x.q x.i = some x) :
    ((b.retryStepNow c h).retry.any fun r => r.ctx = c ∧ r.h = h) = false ∧ HasEnded x.q x.i retryStep (b.retryStepNow c h) := by
  have hrunning : x.phase = .running := by
    have hmem : x ∈ b.stoppedCmds c h := by rw [hone]; exact List.mem_cons_self
    obtain ⟨_, hstopped⟩ := List.mem_filter.1 hmem
    obtain ⟨_, _, _, hphase⟩ := of_decide_eq_true hstopped
    exact hphase
  unfold Block.retryStepNow
  extract_lets cs ts b₁ b₂ b₃ b₄
  have hcs : cs = [x] := hone
  have h₂ : b₂ = b₁.endCmd x.q x.i retryStep := by
    subst b₂
    rw [hcs]
    rfl
  have h₃ : Keeps retryNotices b₂ b₃ := by
    refine Keeps.foldl (fun _ _ h => ?_) _ (Keeps.refl _ _)
    exact Block.modTask_keeps rfl h
  have h₄ : Keeps retryNotices b₂ b₄ := Block.event_keeps rfl h₃
  have hend : Keeps retryNotices b₂ (if (b₄.ctx c).jobValid then
      (List.range (cs.length + ts.length)).foldl (fun b _ => b.postErr false (b.ctx c).job retryStep) b₄ else b₄) := by
    refine Keeps.choice (fun _ => Keeps.foldl (fun _ _ h => ?_) _ h₄) fun _ => h₄
    exact Block.postErr_keeps rfl h
  have hretry : b₂.retry = b.retry.filter fun r => !(r.ctx = c ∧ r.h = h) := by
    rw [h₂]
    exact retry_of (same_of_keeps (m := 92299264) (Block.endCmd_keeps rfl (Keeps.refl _ b₁)) rfl)
  constructor
  · rw [retry_of (same_of_keeps hend rfl), hretry, List.any_eq_false]
    intro r hmem
    rw [Bool.not_eq_true, ← Bool.not_eq_true']
    exact (List.mem_filter.1 hmem).2
  · have hqueues : Part.same .queues b b₁ := ⟨rfl, rfl⟩
    have hended : HasEnded x.q x.i retryStep b₂ := by
      rw [h₂]
      exact endCmd_ended ((cmd_of hqueues).trans hx) (by simp [hrunning])
    exact inPhase_of (same_of_keeps hend rfl) hended

/-- Settles O44: a burst by whether it is marked, a repair by its golden copy, a consumption by whether the burst will be repaired, and
the discard of a step by whether one is stopped. That a row whose condition does not hold changes nothing is log entry 2. -/
theorem poisonRows : Obligations.PoisonRows := by
  unfold Obligations.PoisonRows
  intro s hr
  refine ⟨?_, ?_, ?_, ?_, ?_, ?_, ?_, ?_⟩
  · intro addr hdev hclean
    have hg := poisonRead_gives addr hr
    rw [if_neg (by simp [hdev, hclean])] at hg
    exact ⟨_, hg, rfl, rfl⟩
  · intro addr hmarked
    have hg := poisonRead_gives addr hr
    rwa [if_pos (.inr hmarked)] at hg
  · intro addr p xs hp hg hlen hrest
    refine ⟨poisonRepairDone_repairs hr hp hg hrest, fun k hk => ?_⟩
    rw [count_dev, ← hlen, putBytes_run_dev]
    exact Memory.byte_write_self xs _ _ k hk
  · exact fun addr p hp hg => poisonRepairDone_dead hr hp hg
  · exact fun e addr c q i hp he hc => poisonConsumed_loses hr hp he hc
  · exact fun e addr c h hctx hp hh => ⟨poisonConsumed_stops hr hctx hp hh, stopStep_waits _ c h⟩
  · intro c h x hstopped hquiet hone hx
    have hg := retryStepDiscard_gives (c := c) (h := h) hr
    rw [if_pos ⟨hstopped, hquiet⟩] at hg
    exact ⟨hg, retryStepNow_ends hone hx⟩
  · intro c h hnone
    have hg := retryStepDiscard_gives (c := c) (h := h) hr
    rwa [if_neg (by simp [hnone])] at hg

end Sys2Proof.Proofs
end

section
/-!
SUPPORT. Every row of the table and every step: a row answers a next state and keeps the queue behind it, what it leaves as it was is
all outside `touches`, and no step reaches the straps.
-/
namespace Sys2Proof.Proofs

open Sys2Proof Sys2Proof.Machine Sys2Proof.Safety Sys2Proof.Laws

/-! ### Rows -/

/-- A row that a held core, or a global stop, may hold keeps the queue in both cases. -/
theorem pending_of_held {p : Prop} [Decidable p] {s : State} {b : Block} : (if p then s else { s with blk := b }).pending = s.pending := by
  split
  · rfl
  · rfl

/-- Every row answers a next state with the queue as it was: the rows of the always-on domain and of register accesses write the block
in every state, and those of the core domain and of the Rein link layer do so unless they are held (R448, R531). -/
theorem exec_next (i : Instr) (s : State) : ∃ t, exec i s = .next t ∧ t.pending = s.pending := by
  cases i with
  | powerOn | aonResetRelease | goReady | goRun | doorbellWrite | windowSignalWrite | wickImport | wickRelease | windowOn
  | windowOff | boundCommit | boundDisable | stallResume | stallEnd | watchdogPet | l0ContextTeardown | l1EngineReset
  | l2HarnessReset | l3ChipReset | l4PowerCycle | pwrcycAckAssert | pwrcycNoackTimeout | rdoutAck | readoutHoldExpiry
  | pwrcycReqRelease | jobMembershipCommit | jobMembershipEnd | spareRetireGo | registerInvalidation | ztFcrHeadWrite
  | ztFcrSizeWrite | bootmapClear | ztBootEnt0Write | dtCountCommit | commitWickEnable | mcStoreWrite | verify | handover
  | clrSig | mcSigDataWrite | semRead | semRelease | semBreak | portDown | portUp | pop | evtInj | accInj | ueArm | ceArm
  | registerWrite | misalignedAccess | cadNowRead | obScanDataRead | traceDisable | tbSizeWrite | tbHeadWrite
  | globalStopRequest | globalStopRelease | breakpointCommit | breakpointResume | breakpointStep | cnFreezeWrite | ptEnWrite
  | retrain | mgTxGo | mgRxConsume | fpDestWrite | coreResetAssert | rcFieldRead => exact ⟨_, rfl, rfl⟩
  | _ => exact ⟨_, rfl, pending_of_held⟩

/-- The mask of a list of parts. -/
def maskOf (ps : List Part) : Nat := ps.foldr (fun p n => 2 ^ idx p ||| n) 0

theorem idx_injective {p q : Part} (h : idx p = idx q) : p = q := by
  have hall : ∀ p ∈ Part.all, ∀ q ∈ Part.all, idx p = idx q → p = q := by decide
  have hp : ∀ p : Part, p ∈ Part.all := fun p => by cases p <;> decide
  exact hall p (hp p) q (hp q) h

theorem mem_of_maskOf {p : Part} : ∀ {ps : List Part}, (maskOf ps).testBit (idx p) = true → p ∈ ps
  | [], h => by
    rw [show maskOf [] = 0 from rfl, Nat.zero_testBit] at h
    cases h
  | q :: ps, h => by
    rw [show maskOf (q :: ps) = 2 ^ idx q ||| maskOf ps from rfl, Nat.testBit_or, Bool.or_eq_true, Nat.testBit_two_pow,
      decide_eq_true_eq] at h
    rcases h with h | h
    · exact List.mem_cons.2 (.inl (idx_injective h).symm)
    · exact List.mem_cons_of_mem _ (mem_of_maskOf h)

/-- What keeps all outside the mask of a list keeps all outside the list. -/
theorem agree_of_maskOf {ps : List Part} {a b : Block} (h : Keeps (maskOf ps) a b) : agreeBut ps a b :=
  fun p hp => (h p).resolve_left fun hbit => hp (mem_of_maskOf hbit)

/-- The frame of every row: the mask of the law about its own meaning lies within the mask of `touches`. -/
theorem exec_keeps {i : Instr} {s t : State} (e : exec i s = .next t) : Keeps (maskOf (touches i)) s.blk t.blk := by
  cases i with dsimp only [touches]
  | powerOn => exact execPowerOn_keeps rfl e
  | aonResetRelease => exact execAonResetRelease_keeps rfl e
  | initialisationEnd => exact execInitialisationEnd_keeps rfl e
  | goReady => exact execGoReady_keeps rfl e
  | goRun => exact execGoRun_keeps rfl e
  | doorbellWrite => exact execDoorbellWrite_keeps rfl e
  | ringReadCompletion => exact execRingReadCompletion_keeps rfl e
  | indirectRecordRead => exact execIndirectRecordRead_keeps rfl e
  | lamplighterDecision => exact execLamplighterDecision_keeps rfl e
  | occupancyWindowEnd => exact execOccupancyWindowEnd_keeps rfl e
  | nop => exact execNop_keeps rfl e
  | launch => exact execLaunch_keeps rfl e
  | launchInd => exact execLaunchInd_keeps rfl e
  | launchPersist => exact execLaunchPersist_keeps rfl e
  | stopPersist => exact execStopPersist_keeps rfl e
  | copy => exact execCopy_keeps rfl e
  | fill => exact execFill_keeps rfl e
  | atomic => exact execAtomic_keeps rfl e
  | prefetch => exact execPrefetch_keeps rfl e
  | advise => exact execAdvise_keeps rfl e
  | wait => exact execWait_keeps rfl e
  | signal => exact execSignal_keeps rfl e
  | signalRemote => exact execSignalRemote_keeps rfl e
  | timestamp => exact execTimestamp_keeps rfl e
  | cadenceWait => exact execCadenceWait_keeps rfl e
  | mark => exact execMark_keeps rfl e
  | watch => exact execWatch_keeps rfl e
  | map => exact execMap_keeps rfl e
  | unmap => exact execUnmap_keeps rfl e
  | invRange => exact execInvRange_keeps rfl e
  | queueCreate => exact execQueueCreate_keeps rfl e
  | queueDestroy => exact execQueueDestroy_keeps rfl e
  | harnessGrow => exact execHarnessGrow_keeps rfl e
  | harnessShrink => exact execHarnessShrink_keeps rfl e
  | listLoad => exact execListLoad_keeps rfl e
  | listPatch => exact execListPatch_keeps rfl e
  | listRetire => exact execListRetire_keeps rfl e
  | wickAlloc => exact execWickAlloc_keeps rfl e
  | wickFree => exact execWickFree_keeps rfl e
  | wickExport => exact execWickExport_keeps rfl e
  | ctxSave => exact execCtxSave_keeps rfl e
  | ctxRestore => exact execCtxRestore_keeps rfl e
  | frameSupply => exact execFrameSupply_keeps rfl e
  | commandCompletion => exact execCommandCompletion_keeps rfl e
  | contextFreed => exact execContextFreed_keeps rfl e
  | launchPlacement => exact execLaunchPlacement_keeps rfl e
  | engineSpaceClearDone => exact execEngineSpaceClearDone_keeps rfl e
  | lightingGroupStart => exact execLightingGroupStart_keeps rfl e
  | wakeGroupStart => exact execWakeGroupStart_keeps rfl e
  | powerGrant => exact execPowerGrant_keeps rfl e
  | grantWaitTimeout => exact execGrantWaitTimeout_keeps rfl e
  | engineClockGate => exact execEngineClockGate_keeps rfl e
  | progressBeat => exact execProgressBeat_keeps rfl e
  | engineInvocationEnd => exact execEngineInvocationEnd_keeps rfl e
  | engineDrained => exact execEngineDrained_keeps rfl e
  | taskItemTake => exact execTaskItemTake_keeps rfl e
  | taskItemCompletion => exact execTaskItemCompletion_keeps rfl e
  | breakpointHit => exact execBreakpointHit_keeps rfl e
  | wickSignalApply => exact execWickSignalApply_keeps rfl e
  | stepPacingExpiry => exact execStepPacingExpiry_keeps rfl e
  | ledgerClosing => exact execLedgerClosing_keeps rfl e
  | ledgerStorageUe => exact execLedgerStorageUe_keeps rfl e
  | remoteWickSignal => exact execRemoteWickSignal_keeps rfl e
  | remoteDoorbellSignal => exact execRemoteDoorbellSignal_keeps rfl e
  | windowSignalWrite => exact execWindowSignalWrite_keeps rfl e
  | wickImport => exact execWickImport_keeps rfl e
  | wickRelease => exact execWickRelease_keeps rfl e
  | windowOn => exact execWindowOn_keeps rfl e
  | windowOff => exact execWindowOff_keeps rfl e
  | boundCommit => exact execBoundCommit_keeps rfl e
  | boundDisable => exact execBoundDisable_keeps rfl e
  | wickRowUe => exact execWickRowUe_keeps rfl e
  | stitchCacheUe => exact execStitchCacheUe_keeps rfl e
  | listVerdict => exact execListVerdict_keeps rfl e
  | cadenceFrameEdge => exact execCadenceFrameEdge_keeps rfl e
  | cadenceTargetReached => exact execCadenceTargetReached_keeps rfl e
  | cadInEdge => exact execCadInEdge_keeps rfl e
  | cadLockLoss => exact execCadLockLoss_keeps rfl e
  | holdoverEdge => exact execHoldoverEdge_keeps rfl e
  | relayTimeout => exact execRelayTimeout_keeps rfl e
  | cadSrcChange => exact execCadSrcChange_keeps rfl e
  | stallBudgetExpiry => exact execStallBudgetExpiry_keeps rfl e
  | stallAutoResume => exact execStallAutoResume_keeps rfl e
  | stallResume => exact execStallResume_keeps rfl e
  | stallEnd => exact execStallEnd_keeps rfl e
  | drainLimitExpiry => exact execDrainLimitExpiry_keeps rfl e
  | watchdogPet => exact execWatchdogPet_keeps rfl e
  | watchdogLapse => exact execWatchdogLapse_keeps rfl e
  | l0ContextTeardown => exact execL0ContextTeardown_keeps rfl e
  | l1EngineReset => exact execL1EngineReset_keeps rfl e
  | l2HarnessReset => exact execL2HarnessReset_keeps rfl e
  | l3ChipReset => exact execL3ChipReset_keeps rfl e
  | l4PowerCycle => exact execL4PowerCycle_keeps rfl e
  | orderDone => exact execOrderDone_keeps rfl e
  | pwrcycAckAssert => exact execPwrcycAckAssert_keeps rfl e
  | pwrcycNoackTimeout => exact execPwrcycNoackTimeout_keeps rfl e
  | rdoutAck => exact execRdoutAck_keeps rfl e
  | readoutHoldExpiry => exact execReadoutHoldExpiry_keeps rfl e
  | pwrcycReqRelease => exact execPwrcycReqRelease_keeps rfl e
  | jobMembershipCommit => exact execJobMembershipCommit_keeps rfl e
  | jobMembershipEnd => exact execJobMembershipEnd_keeps rfl e
  | errEventPost => exact execErrEventPost_keeps rfl e
  | spareRetireGo => exact execSpareRetireGo_keeps rfl e
  | engineReplacement => exact execEngineReplacement_keeps rfl e
  | correctableError => exact execCorrectableError_keeps rfl e
  | engineUe => exact execEngineUe_keeps rfl e
  | walkerUe => exact execWalkerUe_keeps rfl e
  | channelFailure => exact execChannelFailure_keeps rfl e
  | poisonRead => exact execPoisonRead_keeps rfl e
  | poisonRepairDone => exact execPoisonRepairDone_keeps rfl e
  | poisonConsumed => exact execPoisonConsumed_keeps rfl e
  | retryStepDiscard => exact execRetryStepDiscard_keeps rfl e
  | migrationFault => exact execMigrationFault_keeps rfl e
  | migrationDmaDone => exact execMigrationDmaDone_keeps rfl e
  | walkDone => exact execWalkDone_keeps rfl e
  | atsCompletion => exact execAtsCompletion_keeps rfl e
  | priResponse => exact execPriResponse_keeps rfl e
  | atsInvalidateRequest => exact execAtsInvalidateRequest_keeps rfl e
  | atsInvalidateCompletion => exact execAtsInvalidateCompletion_keeps rfl e
  | registerInvalidation => exact execRegisterInvalidation_keeps rfl e
  | frameRingEntryWrite => exact execFrameRingEntryWrite_keeps rfl e
  | ztFcrHeadWrite => exact execZtFcrHeadWrite_keeps rfl e
  | ztFcrSizeWrite => exact execZtFcrSizeWrite_keeps rfl e
  | bootmapClear => exact execBootmapClear_keeps rfl e
  | ztBootEnt0Write => exact execZtBootEnt0Write_keeps rfl e
  | dtCountCommit => exact execDtCountCommit_keeps rfl e
  | commitWickEnable => exact execCommitWickEnable_keeps rfl e
  | snoopTimeout => exact execSnoopTimeout_keeps rfl e
  | coherenceDown => exact execCoherenceDown_keeps rfl e
  | rollCallClose => exact execRollCallClose_keeps rfl e
  | coherenceRebuildDone => exact execCoherenceRebuildDone_keeps rfl e
  | rdS => exact execRdS_keeps rfl e
  | rdM => exact execRdM_keeps rfl e
  | rdNa => exact execRdNa_keeps rfl e
  | wrT => exact execWrT_keeps rfl e
  | wrNc => exact execWrNc_keeps rfl e
  | evict => exact execEvict_keeps rfl e
  | wb => exact execWb_keeps rfl e
  | snpFwd => exact execSnpFwd_keeps rfl e
  | snpInv => exact execSnpInv_keeps rfl e
  | snpBinv => exact execSnpBinv_keeps rfl e
  | snpWb => exact execSnpWb_keeps rfl e
  | ackInv => exact execAckInv_keeps rfl e
  | ackFwd => exact execAckFwd_keeps rfl e
  | cmp => exact execCmp_keeps rfl e
  | data => exact execData_keeps rfl e
  | mcStoreWrite => exact execMcStoreWrite_keeps rfl e
  | verify => exact execVerify_keeps rfl e
  | microcodeVerdict => exact execMicrocodeVerdict_keeps rfl e
  | handover => exact execHandover_keeps rfl e
  | clrSig => exact execClrSig_keeps rfl e
  | mcSigDataWrite => exact execMcSigDataWrite_keeps rfl e
  | semRead => exact execSemRead_keeps rfl e
  | semRelease => exact execSemRelease_keeps rfl e
  | semBreak => exact execSemBreak_keeps rfl e
  | portDown => exact execPortDown_keeps rfl e
  | portUp => exact execPortUp_keeps rfl e
  | msixSpacingEnd => exact execMsixSpacingEnd_keeps rfl e
  | pop => exact execPop_keeps rfl e
  | evtInj => exact execEvtInj_keeps rfl e
  | accInj => exact execAccInj_keeps rfl e
  | ueArm => exact execUeArm_keeps rfl e
  | ceArm => exact execCeArm_keeps rfl e
  | registerWrite => exact execRegisterWrite_keeps rfl e
  | misalignedAccess => exact execMisalignedAccess_keeps rfl e
  | cadNowRead => exact execCadNowRead_keeps rfl e
  | obScanDataRead => exact execObScanDataRead_keeps rfl e
  | traceDmaWrite => exact execTraceDmaWrite_keeps rfl e
  | traceFlushTimer => exact execTraceFlushTimer_keeps rfl e
  | traceDisable => exact execTraceDisable_keeps rfl e
  | tbSizeWrite => exact execTbSizeWrite_keeps rfl e
  | tbHeadWrite => exact execTbHeadWrite_keeps rfl e
  | occupancySample => exact execOccupancySample_keeps rfl e
  | globalStopRequest => exact execGlobalStopRequest_keeps rfl e
  | stopInEdge => exact execStopInEdge_keeps rfl e
  | globalStopRelease => exact execGlobalStopRelease_keeps rfl e
  | breakpointCommit => exact execBreakpointCommit_keeps rfl e
  | breakpointResume => exact execBreakpointResume_keeps rfl e
  | breakpointStep => exact execBreakpointStep_keeps rfl e
  | cnFreezeWrite => exact execCnFreezeWrite_keeps rfl e
  | ptEnWrite => exact execPtEnWrite_keeps rfl e
  | retrain => exact execRetrain_keeps rfl e
  | laneSignalChange => exact execLaneSignalChange_keeps rfl e
  | ts1 => exact execTs1_keeps rfl e
  | ts2 => exact execTs2_keeps rfl e
  | trainingAttemptTimeout => exact execTrainingAttemptTimeout_keeps rfl e
  | ident => exact execIdent_keeps rfl e
  | identSend => exact execIdentSend_keeps rfl e
  | identTimeout => exact execIdentTimeout_keeps rfl e
  | credit => exact execCredit_keeps rfl e
  | creditReportTimer => exact execCreditReportTimer_keeps rfl e
  | creditStallTimeout => exact execCreditStallTimeout_keeps rfl e
  | nak => exact execNak_keeps rfl e
  | replayTimer => exact execReplayTimer_keeps rfl e
  | badFrame => exact execBadFrame_keeps rfl e
  | auth => exact execAuth_keeps rfl e
  | authDone => exact execAuthDone_keeps rfl e
  | authVerdict => exact execAuthVerdict_keeps rfl e
  | authTimeout => exact execAuthTimeout_keeps rfl e
  | laneSwitch => exact execLaneSwitch_keeps rfl e
  | laneFailure => exact execLaneFailure_keeps rfl e
  | heartbeat => exact execHeartbeat_keeps rfl e
  | heartbeatSend => exact execHeartbeatSend_keeps rfl e
  | heartbeatTimeout => exact execHeartbeatTimeout_keeps rfl e
  | timeSyncExchange => exact execTimeSyncExchange_keeps rfl e
  | sync => exact execSync_keeps rfl e
  | followUp => exact execFollowUp_keeps rfl e
  | delayReq => exact execDelayReq_keeps rfl e
  | delayResp => exact execDelayResp_keeps rfl e
  | relay => exact execRelay_keeps rfl e
  | error => exact execError_keeps rfl e
  | abort => exact execAbort_keeps rfl e
  | eventForget => exact execEventForget_keeps rfl e
  | record => exact execRecord_keeps rfl e
  | message => exact execMessage_keeps rfl e
  | mgTxGo => exact execMgTxGo_keeps rfl e
  | mgRxConsume => exact execMgRxConsume_keeps rfl e
  | fpDestWrite => exact execFpDestWrite_keeps rfl e
  | coreResetAssert => exact execCoreResetAssert_keeps rfl e
  | translationFault => exact execTranslationFault_keeps rfl e
  | rangeCacheWayUe => exact execRangeCacheWayUe_keeps rfl e
  | rcFieldRead => exact execRcFieldRead_keeps rfl e
  | authSessionOpen => exact execAuthSessionOpen_keeps rfl e
  | securityAuthBytes => exact execSecurityAuthBytes_keeps rfl e

/-- The straps are outside what any row touches: they are fixed when the wrapper is built (R7, R524). -/
theorem straps_not_mem_touches (i : Instr) : Part.straps ∉ touches i := by
  have h : (touches i).contains .straps = false := by cases i <;> rfl
  simpa using h

/-- Settles O3: a row is a total function of the block, and no row writes the queue. -/
theorem everyCommandGoesOn : Obligations.EveryCommandGoesOn := by
  unfold Obligations.EveryCommandGoesOn
  exact exec_next

/-- Settles O4: what each row keeps, by the masks of its operations; and the queue, since the next state is the one of `exec_next`. -/
theorem commandFrames : Obligations.CommandFrames := by
  unfold Obligations.CommandFrames
  intro i s t e
  obtain ⟨u, hu, hpending⟩ := exec_next i s
  obtain rfl : u = t := Host.Outcome.next.inj (hu.symm.trans e)
  exact ⟨agree_of_maskOf (exec_keeps e), hpending⟩

/-! ### Steps -/

theorem step_front (c : Instr) (s : State) : step { s with pending := c :: s.pending } = exec c s := rfl

theorem tick_straps (b : Block) : (tick b).straps = b.straps :=
  Eq.symm (same_of_keeps (p := .straps) (tick_keeps (sub_refl _) (Keeps.refl _ b)) rfl)

theorem exec_straps {i : Instr} {s t : State} (e : exec i s = .next t) : t.blk.straps = s.blk.straps :=
  Eq.symm (agree_of_maskOf (exec_keeps e) .straps (straps_not_mem_touches i))

/-- Settles O1: the front of the queue is taken off and its meaning is run on the rest. -/
theorem stepRunsTheFrontCommand : Obligations.StepRunsTheFrontCommand := by
  unfold Obligations.StepRunsTheFrontCommand
  exact step_front

/-- Settles O8: a step is an idle cycle or the command at the front of the queue, and neither reaches the straps. -/
theorem strapsNeverChange : Obligations.StrapsNeverChange := by
  unfold Obligations.StrapsNeverChange
  intro s t e
  cases hp : s.pending with
  | nil =>
    simp only [step, hp, Host.Outcome.next.injEq] at e
    subst e
    exact tick_straps s.blk
  | cons c cs =>
    simp only [step, hp] at e
    exact exec_straps (s := { s with pending := cs }) e

end Sys2Proof.Proofs
end

section
/-!
SUPPORT. Power and reset (R470, R477, R525, R531, R532): the machine as it is before its core rail is up, and the rows that start the
always-on domain and the block and that hold the core domain in reset.
-/
namespace Sys2Proof.Proofs

open Sys2Proof Sys2Proof.Machine Sys2Proof.Safety Sys2Proof.Laws

/-! ### The machine at reset -/

/-- Settles O6: every memory and the semaphore bank are empty, so that there is nothing out of order and nothing held. -/
theorem legalAtReset : Obligations.LegalAtReset := by
  unfold Obligations.LegalAtReset
  exact ⟨rfl, rfl⟩

/-- Settles O9: every table is empty, so that each read of one is its default (the model's where log entries 3 to 8 name it). -/
theorem resetState : Obligations.ResetState := by
  unfold Obligations.ResetState
  exact ⟨rfl, rfl, rfl, fun _ => rfl, fun _ => rfl, fun _ => rfl, fun _ => rfl, fun _ => rfl⟩

/-! ### POWER_ON -/

/-- The block in OFF with its core released and every engine as after a reset (R303, R477). -/
def poweredUp (b : Block) : Block := { b with st := .off, engines := b.resetEngines, pins := { b.pins with coreHeld := false } }

/-- The ledger's first re-base, with its event (R331). -/
def firstRebase (b : Block) : Block := (b.resetLedger 3).event pgLg 8 0 (2 * 2 ^ 16 + 3) 0

theorem powerOn_gives {s : State} (hst : s.blk.st = .power) (hpwr : s.blk.pwr = none) :
    Gives .powerOn s (if s.blk.reg Reg.LG_REBASE = 0 then firstRebase (poweredUp s.blk) else poweredUp s.blk) := by
  show execPowerOn s = _
  unfold execPowerOn State.aon
  dsimp only
  rw [if_pos ⟨hst, by rw [hpwr]; rfl⟩]
  rfl

theorem firstRebase_frame (b : Block) : agreeBut [.regs, .events, .ports, .stop, .cinder] b (firstRebase b) :=
  agree_of_keeps (m := 13202729470080) (Block.event_keeps rfl (Block.resetLedger_keeps rfl (Keeps.refl _ _))) (by decide)

/-! ### CORE_RESET_ASSERT -/

/-- Only wick slots and registers are gone through before the core domain starts afresh. -/
theorem resetSlotsRegs_keeps (b : Block) : Keeps 4194432 b b.resetSlots.resetRegs :=
  Block.resetRegs_keeps rfl (Block.resetSlots_keeps rfl (Keeps.refl _ _))

theorem coreReset_cinder (b : Block) : b.coreReset.cinder = b.cinder := by
  have h : Part.same .cinder b b.resetSlots.resetRegs := same_of_keeps (resetSlotsRegs_keeps b) rfl
  exact Eq.symm h

/-- The core domain held in reset, as the state before OFF. -/
def coreHeldDown (b : Block) : Block :=
  let b := { b.coreReset with st := .power }
  { b with pins := { b.pins with coreHeld := true } }

theorem coreResetAssert_gives {s : State} (h : s.blk.pins.coreHeld = false) : Gives .coreResetAssert s (coreHeldDown s.blk) := by
  show execCoreResetAssert s = _
  unfold execCoreResetAssert State.aon
  dsimp only
  rw [if_neg (by rw [h]; exact Bool.false_ne_true)]
  rfl

/-- Settles O12: AON_RESET_RELEASE by the fields of `powerReset`, POWER_ON by whether LG_REBASE holds a re-base yet (R329, R331), and
CORE_RESET_ASSERT by what `coreReset` keeps. -/
theorem powerRows : Obligations.PowerRows := by
  unfold Obligations.PowerRows
  intro s
  refine ⟨fun id => ⟨_, rfl, rfl, rfl, rfl, rfl, rfl, rfl, rfl, rfl⟩, fun hst hpwr hrebase => ?_, fun hst hpwr hrebase => ?_, fun hheld => ?_⟩
  · have hg := powerOn_gives hst hpwr
    rwa [if_neg hrebase] at hg
  · have hg := powerOn_gives hst hpwr
    rw [if_pos hrebase] at hg
    have hsame := firstRebase_frame (poweredUp s.blk)
    refine ⟨hg, Eq.symm (hsame .mode (by decide)), ?_, Eq.symm (hsame .engines (by decide)).1⟩
    exact congrArg Pins.coreHeld (Eq.symm (hsame .pins (by decide)))
  · exact ⟨_, coreResetAssert_gives hheld, rfl, rfl, rfl, rfl, rfl, coreReset_dev s.blk, coreReset_cinder s.blk, coreReset_wear s.blk⟩

end Sys2Proof.Proofs
end

section
/-!
SUPPORT. The microcode store (R489, R490, R493, R496): what a write of a word, of a signature, a verification and a handover do to the
store, to its verdicts and to the active role.
-/
namespace Sys2Proof.Proofs

open Sys2Proof Sys2Proof.Machine Sys2Proof.Safety Sys2Proof.Laws

/-! ### Words and signatures -/

theorem mcStoreWrite_gives {s : State} {path : Nat} (v : BitVec 32) (ht : Takes s path Reg.MC_DATA_HI) :
    Gives (.mcStoreWrite path v) s (s.blk.storeWord path v.toNat) := write_takes ht

theorem setWord48_self (b : Block) (k a v : Nat) : (b.setWord48 k a v).word48 k a = v % 2 ^ 48 := by
  unfold Block.word48 Block.setWord48
  rw [Tab.get_set_self, BitVec.toNat_ofNat]

/-- The word that a write of MC_DATA_HI completes, in the store at MC_ADDR, which advances (R489). -/
def wordStored (b : Block) (path v : Nat) : Block :=
  (b.setWord48 b.mcSel (b.reg Reg.MC_ADDR) (v % 65536 * 2 ^ 32 + b.stagedOr path Reg.MC_DATA_LO 0)).setReg Reg.MC_ADDR
    ((b.reg Reg.MC_ADDR + 1) % 0x4000)

/-- Core `k` without its verdict. -/
def unverified (b : Block) (k : Nat) : Block := b.mcMod fun m => { m with verified := m.verified.filter (· ≠ k) }

theorem storeWord_taken {b : Block} {path v : Nat} (hactive : b.mcSel = b.mc.active → b.st = .load) (hin : (b.wearOf 0 b.mcSel).st ≠ 2)
    (hidle : b.mcBusy = false) : b.storeWord path v = unverified (wordStored b path v) b.mcSel := by
  have hgo : ¬((b.mcSel = b.mc.active ∧ b.st ≠ .load) ∨ (b.wearOf 0 b.mcSel).st = 2 ∨ b.mcBusy = true) := by
    rintro (⟨h, hst⟩ | hout | hbusy)
    · exact hst (hactive h)
    · exact hin hout
    · exact Bool.false_ne_true (hidle.symm.trans hbusy)
  exact if_neg hgo

theorem storeWord_refused {b : Block} {path v : Nat} (h : b.mcSel = b.mc.active) (hst : b.st ≠ .load) :
    b.storeWord path v = b.pageErr path Reg.MC_DATA_HI := if_pos (.inl ⟨h, hst⟩)

theorem unverified_verified (b : Block) (k : Nat) : k ∉ (unverified b k).mc.verified := by simp [unverified, Block.mcMod]

theorem unverified_word48 (b : Block) (k c a : Nat) : (unverified b k).word48 c a = b.word48 c a := rfl

theorem wordStored_word48 (b : Block) (path v : Nat) : (wordStored b path v).word48 b.mcSel (b.reg Reg.MC_ADDR)
    = (v % 65536 * 2 ^ 32 + b.stagedOr path Reg.MC_DATA_LO 0) % 2 ^ 48 := by
  unfold wordStored
  rw [Block.setReg_word48, setWord48_self]

theorem mcSigDataWrite_gives {s : State} {path : Nat} (v : BitVec 32) (ht : Takes s path Reg.MC_SIG_DATA) :
    Gives (.mcSigDataWrite path v) s (s.blk.appendSig path v.toNat) := write_takes ht

theorem appendSig_room {b : Block} {path v : Nat} (h : b.mc.sig.length + 4 ≤ 4096) :
    b.appendSig path v = b.mcMod fun m => { m with sig := m.sig ++ leBytes 4 v } := if_neg (Nat.not_lt.2 h)

theorem appendSig_full {b : Block} {path v : Nat} (h : 4096 < b.mc.sig.length + 4) :
    b.appendSig path v = b.pageErr path Reg.MC_SIG_DATA := if_pos h

theorem clrSig_gives {s : State} {path : Nat} (ht : Takes s path Reg.MC_CTL) : Gives (.clrSig path) s s.blk.clearSig := write_takes ht

/-! ### Verification -/

theorem verify_gives {s : State} {path : Nat} (ht : Takes s path Reg.MC_CTL) : Gives (.verify path) s (s.blk.verify path) := write_takes ht

theorem verify_busy {b : Block} {path : Nat} (h : b.mcBusy = true) : b.verify path = b.pageErr path Reg.MC_CTL := if_pos h

/-- The CRC of the selected store as VERIFY takes it (R490 step 1). -/
def crcTaken (b : Block) : Block :=
  b.mcMod fun m => { m with crc := Tab.set (fun _ => 0) m.crc b.mcSel (crc32 (b.storeBytes b.mcSel)) }

/-- The store and the signature on their way to the security block (R490 step 3). -/
def imageSent (b c : Block) : Block :=
  Block.mcMod { c with secOut := b.storeBytes b.mcSel ++ c.mc.sig } fun m => { m with busy := .verify b.mcSel }

theorem verify_idle {b : Block} {path : Nat} (h : b.mcBusy = false) :
    b.verify path = if (crcTaken b).imageOk b.mcSel then imageSent b (crcTaken b)
      else ((crcTaken b).mcFail 1).mcMod fun m => { m with sig := [] } :=
  if_neg (Bool.eq_false_iff.1 h)

theorem microcodeVerdict_gives {s : State} {k : Nat} (ok bad : Bool) (hr : Runs s) (hk : s.blk.mc.busy = .verify k) :
    Gives (.microcodeVerdict ok bad) s (if bad then s.blk.verdict k false else if ok then s.blk.verdict k true else s.blk) := by
  show execMicrocodeVerdict ok bad s = _
  unfold execMicrocodeVerdict
  rw [core_runs hr]
  simp only [hk]

theorem microcodeVerdict_idle {s : State} (ok bad : Bool) (hr : Runs s) (hidle : s.blk.mc.busy = .idle) :
    Gives (.microcodeVerdict ok bad) s s.blk := by
  show execMicrocodeVerdict ok bad s = _
  unfold execMicrocodeVerdict
  rw [core_runs hr]
  simp only [hidle]

theorem mcFail_reason (b : Block) {r : Nat} (h : r < 256) : (b.mcFail r).field Reg.MC_STS 31 24 = r := by
  unfold Block.field Block.mcFail bits
  rw [Block.setReg_self, Nat.shiftRight_eq_div_pow]
  omega

theorem beginCopy_mc (b : Block) : ∃ y, b.beginCopy.mc = { b.mc with busy := y } := by
  unfold Block.beginCopy
  split
  · exact ⟨_, rfl⟩
  · exact ⟨_, rfl⟩

theorem mem_insertBy {α : Type} (key : α → Nat) (x y : α) : ∀ l : List α, y ∈ insertBy key x l ↔ y = x ∨ y ∈ l
  | [] => by simp [insertBy]
  | z :: l => by
    unfold insertBy
    split
    · simp
    · rw [List.mem_cons, mem_insertBy key x y l, List.mem_cons, or_left_comm]

theorem mem_sortBy {α : Type} {key : α → Nat} {l : List α} {y : α} (h : y ∈ l) : y ∈ sortBy key l := by
  have hfold : ∀ (l acc : List α), y ∈ acc ∨ y ∈ l → y ∈ l.foldl (fun acc x => insertBy key x acc) acc := by
    intro l
    induction l with
    | nil => exact fun acc h => h.resolve_right List.not_mem_nil
    | cons x l ih =>
      intro acc h
      refine ih _ ?_
      rw [mem_insertBy, or_comm (a := y = x), or_assoc, ← List.mem_cons]
      exact h
  exact hfold l [] (.inr h)

/-- The block once core `k` has passed (R490 step 4): what may follow is the copy into the spares. -/
def passed (b : Block) (k : Nat) : Block :=
  ((b.mcMod fun m => { m with busy := .idle, sig := [] }).setField Reg.MC_STS 1 1 0).mcMod fun m =>
    { m with verified := sortBy id (dedup (k :: m.verified)) }

theorem verdict_passed (b : Block) (k : Nat) : ∃ y, (b.verdict k true).mc = { (passed b k).mc with busy := y } := by
  unfold Block.verdict
  simp only [if_true]
  split
  · exact beginCopy_mc (passed b k)
  · exact ⟨_, rfl⟩

theorem passed_verified (b : Block) (k : Nat) : k ∈ (passed b k).mc.verified := mem_sortBy (mem_dedup List.mem_cons_self)

/-! ### The handover -/

theorem handover_gives {s : State} {path : Nat} (ht : Takes s path Reg.MC_CTL) : Gives (.handover path) s s.blk.handover := write_takes ht

/-- The handover to the selected core, under way. -/
def handing (b : Block) : Block := b.mcMod fun m => { m with busy := .handover b.mcSel }

theorem handover_goes {b : Block} (h : b.handoverReason b.mcSel = 0) : b.handover = (handing b).moveRole := if_pos h

theorem handover_fails {b : Block} (h : b.handoverReason b.mcSel ≠ 0) : b.handover = b.mcFail (b.handoverReason b.mcSel) := if_neg h

theorem handoverReason_up {b : Block} {c : Nat} (h : b.handoverReason c = 0) : b.down = false := by
  unfold Block.handoverReason at h
  split_ifs at h with _ _ _ _ hdown
  rw [← Bool.not_eq_true]
  exact fun hd => hdown (.inl hd)

/-- The role at core `c`, with the wear states that go with it (R493 steps 2 to 4). -/
def roleAt (b : Block) (c : Nat) : Block :=
  let a := b.mc.active
  let b := (b.ccMod fun x => { x with checkpoint := x.journal }).handTo c
  (b.setWear 0 a { b.wearOf 0 a with st := 3 }).setWear 0 c { b.wearOf 0 c with st := 0 }

/-- The handover's record and what follows it, but for the copy. -/
def roleNoted (b : Block) (c : Nat) : Block := ((b.cinderRec 0x07 0 0 (2 ^ 20 + c)).changeCaps).setField Reg.MC_STS 1 1 0

theorem moveRole_handing {b : Block} (hup : b.down = false) (hempty : (b.coh.wbuf.any (·.agent = b.mc.active)) = false) :
    (handing b).moveRole = (roleNoted (roleAt (handing b) b.mcSel) b.mcSel).beginCopy := by
  have hgo : ¬((handing b).down = true ∨ ((handing b).coh.wbuf.any (·.agent = (handing b).mc.active)) = true) := by
    rintro (hd | hw)
    · exact Bool.false_ne_true (hup.symm.trans hd)
    · exact Bool.false_ne_true (hempty.symm.trans hw)
  exact if_neg hgo

theorem handTo_active (b : Block) (c : Nat) : (b.handTo c).mc.active = c := rfl

theorem handTo_mcore (b : Block) (c : Nat) : (b.handTo c).mcore c = {} := by
  unfold Block.handTo Block.startCore
  rw [Block.setStamp_mcore, Block.setMcore_self]

theorem roleAt_active (b : Block) (c : Nat) : (roleAt b c).mc.active = c := by
  unfold roleAt
  rw [Block.setWear_field_mc, Block.setWear_field_mc, handTo_active]

theorem roleAt_mcore (b : Block) (c : Nat) : (roleAt b c).mcore c = {} := by
  unfold roleAt
  rw [Block.setWear_mcore, Block.setWear_mcore, handTo_mcore]

theorem roleAt_wear (b : Block) (c : Nat) : ((roleAt b c).wearOf 0 c).st = 0 := by
  unfold roleAt
  rw [Block.setWear_self]

theorem roleNoted_keeps (b : Block) (c : Nat) : Keeps 13202729468544 b (roleNoted b c) :=
  Block.setField_keeps rfl (Block.changeCaps_keeps rfl (Block.cinderRec_keeps rfl (Keeps.refl _ b)))

theorem mcore_of {a b : Block} {k : Nat} (h : Part.same .microcode a b) : b.mcore k = a.mcore k := by
  unfold Block.mcore
  rw [h.1]

/-- What the role's new holder finds: it is active, at microaddress 0, and its wear record says so. -/
theorem roleTaken (b : Block) (c : Nat) : (roleNoted (roleAt b c) c).beginCopy.mc.active = c
    ∧ (roleNoted (roleAt b c) c).beginCopy.mcore c = {} ∧ ((roleNoted (roleAt b c) c).beginCopy.wearOf 0 c).st = 0 := by
  have hnoted := roleNoted_keeps (roleAt b c) c
  have hcopied : Keeps 13203803210368 (roleAt b c) (roleNoted (roleAt b c) c).beginCopy :=
    Block.beginCopy_keeps rfl (Keeps.mono (m := 13202729468544) rfl hnoted)
  obtain ⟨y, hy⟩ := beginCopy_mc (roleNoted (roleAt b c) c)
  refine ⟨?_, ?_, ?_⟩
  · rw [hy]
    show (roleNoted (roleAt b c) c).mc.active = c
    rw [← (same_of_keeps (p := .lamplighter) hnoted rfl).2.1, roleAt_active]
  · rw [mcore_of (same_of_keeps hcopied rfl), roleAt_mcore]
  · rw [wearOf_of_keeps hcopied rfl rfl, roleAt_wear]

/-- Settles O51: each row by its own operation on the store. A new holder of the role starts with working registers, flags and stack
0 (log entries 8 and 75); that a row whose condition does not hold changes nothing is log entry 2. -/
theorem microcodeRows : Obligations.MicrocodeRows := by
  unfold Obligations.MicrocodeRows
  intro s
  refine ⟨?_, ?_, ?_, ?_, ?_, ?_, ?_, ?_, ?_, ?_, ?_, ?_⟩
  · rintro path v b ht hactive hin hidle rfl
    have hg := mcStoreWrite_gives v ht
    rw [storeWord_taken hactive hin hidle] at hg
    refine ⟨hg, unverified_verified (wordStored s.blk path v.toNat) s.blk.mcSel, ?_⟩
    exact (unverified_word48 ..).trans (wordStored_word48 s.blk path v.toNat)
  · intro path v ht hsel hst
    have hg := mcStoreWrite_gives v ht
    rwa [storeWord_refused hsel hst] at hg
  · intro path v ht hroom
    have hg := mcSigDataWrite_gives v ht
    rwa [appendSig_room hroom] at hg
  · intro path v ht hfull
    have hg := mcSigDataWrite_gives v ht
    rwa [appendSig_full hfull] at hg
  · exact fun path ht => clrSig_gives ht
  · rintro path b ht hidle rfl
    have hg := verify_gives ht
    rwa [verify_idle hidle] at hg
  · intro path ht hbusy
    have hg := verify_gives ht
    rwa [verify_busy hbusy] at hg
  · intro k ok hr hk
    refine ⟨⟨microcodeVerdict_gives ok true hr hk, rfl, rfl, mcFail_reason _ (by decide), rfl⟩, microcodeVerdict_gives true false hr hk, ?_⟩
    obtain ⟨y, hy⟩ := verdict_passed s.blk k
    rw [hy]
    exact ⟨passed_verified s.blk k, rfl⟩
  · exact fun hr hidle ok bad => microcodeVerdict_idle ok bad hr hidle
  · intro path ht hreason
    have hg := handover_gives ht
    rwa [handover_goes hreason] at hg
  · intro path ht hreason hempty
    have hg := handover_gives ht
    rw [handover_goes hreason, moveRole_handing (handoverReason_up hreason) hempty] at hg
    exact ⟨_, hg, roleTaken _ _⟩
  · intro path ht hreason
    have hg := handover_gives ht
    rwa [handover_fails hreason] at hg

end Sys2Proof.Proofs
end

section
/-!
SUPPORT. The host interface: the semaphore bank (R15, R471 to R473), a port that goes down and comes back (R17, R469, R507), the
spacing of messages (R507) and the event FIFOs (R514).
-/
namespace Sys2Proof.Proofs

open Sys2Proof Sys2Proof.Machine Sys2Proof.Safety Sys2Proof.Laws

/-! ### Semaphores -/

theorem semRead_gives {s : State} {path : Nat} (k : Nat) (h : Reads s path) :
    Gives (.semRead path k) s ((s.blk.takeSem path (k % 64)).2.answer (s.blk.takeSem path (k % 64)).1) := by
  show execSemRead path k s = _
  unfold execSemRead State.aon
  dsimp only
  rw [readBy_reads h]

/-- A free semaphore is granted to a port, but not to the sideband nor in a global stop (R448, R471). -/
theorem takeSem_granted {b : Block} {path k : Nat} (hfree : b.sem k = 0) (hport : path ≠ 3) (hruns : b.stop.stopped = false) :
    b.takeSem path k = (0, b.setSem k path) := by
  unfold Block.takeSem
  simp [hfree, hport, hruns]

theorem takeSem_held {b : Block} {path k : Nat} (h : b.sem k ≠ 0 ∨ path = 3) : b.takeSem path k = (b.sem k, b) := by
  have hgrant : ¬(b.sem k = 0 ∧ path ≠ 3 ∧ (!b.stop.stopped) = true) := by
    rintro ⟨hfree, hport, -⟩
    exact h.elim (absurd hfree) hport
  unfold Block.takeSem
  dsimp only
  rw [if_neg hgrant]

theorem semRelease_gives {s : State} {path : Nat} (k : Nat) (ht : Takes s path (0x1100 + 4 * (k % 64))) :
    Gives (.semRelease path k) s (if s.blk.sem (k % 64) = path then s.blk.freeSem (k % 64) else s.blk) := write_takes ht

theorem semBreak_gives {s : State} {path : Nat} (key : BitVec 8) (k : Nat) (ht : Takes s path Reg.SEM_BREAK) :
    Gives (.semBreak path key k) s (s.blk.breakSem path key.toNat k) := write_takes ht

theorem breakSem_breaks {b : Block} {path key k : Nat} (hkey : key = Config.semBreakKey) (hheld : b.sem (k % 64) ≠ 0) :
    b.breakSem path key k = (b.freeSem (k % 64)).event pgHiu 9 0 (b.sem (k % 64) * 2 ^ 8 + k % 64) := by
  unfold Block.breakSem
  rw [if_neg (not_not.2 hkey)]
  exact if_neg hheld

theorem breakSem_refused {b : Block} {path key : Nat} (k : Nat) (hkey : key ≠ Config.semBreakKey) :
    b.breakSem path key k = b.pageErr path Reg.SEM_BREAK := if_pos hkey

/-- Settles O52: a read by whether the semaphore is free for the path, a release by whether the path owns it, and SEM_BREAK by its key
(R472). That a row whose condition does not hold changes nothing is log entry 2. -/
theorem semaphoreRows : Obligations.SemaphoreRows := by
  unfold Obligations.SemaphoreRows
  intro s path
  refine ⟨?_, ?_, ?_, ?_, ?_, ?_, ?_⟩
  · intro k hread hport hruns hfree
    have hg := semRead_gives k hread
    rwa [takeSem_granted hfree (by omega) hruns] at hg
  · intro k hread hheld
    have hg := semRead_gives k hread
    rwa [takeSem_held (.inl hheld)] at hg
  · intro k hread hside
    have hg := semRead_gives k hread
    rwa [takeSem_held (.inr hside)] at hg
  · intro k ht howner
    have hg := semRelease_gives k ht
    rw [if_pos howner] at hg
    unfold Block.freeSem at hg
    rwa [howner] at hg
  · intro k ht hother
    have hg := semRelease_gives k ht
    rwa [if_neg hother] at hg
  · intro key k ht hkey hheld
    have hg := semBreak_gives key k ht
    rwa [breakSem_breaks hkey hheld] at hg
  · intro key k ht hkey
    have hg := semBreak_gives key k ht
    rwa [breakSem_refused k hkey] at hg

/-! ### A port that goes down -/

theorem setPort_coreHeld (x : Pins) (p : Nat) (v : Bool) : (x.setPort p v).coreHeld = x.coreHeld := by
  unfold Pins.setPort
  split
  · rfl
  · rfl

/-- The block with the path of port `p` up or down. -/
def portAt (b : Block) (p : Nat) (up : Bool) : Block := { b with pins := b.pins.setPort p up }

theorem portAt_down {b : Block} {p : Nat} (hp : p = 1 ∨ p = 2) : (portAt b p false).pathUp p = false := by
  rcases hp with rfl | rfl
  · rfl
  · rfl

theorem portDown_gives {s : State} {p : Nat} (hp : p = 1 ∨ p = 2) (hup : s.blk.pathUp p = true) (hr : Runs s) :
    Gives (.portDown p) s ((portAt s.blk p false).portLost p) := by
  have hport : ¬((p ≠ 1 ∧ p ≠ 2) ∨ (!s.blk.pathUp p) = true) := by
    rintro (⟨h1, h2⟩ | hdown)
    · exact hp.elim h1 h2
    · rw [hup] at hdown
      cases hdown
  have hcore : ¬(s.blk.pins.setPort p false).coreHeld = true := by
    rw [setPort_coreHeld, Runs.linked hr]
    exact Bool.false_ne_true
  show execPortDown p s = _
  unfold execPortDown State.aon
  dsimp only
  rw [if_neg hport, if_neg hcore]
  rfl

theorem portDown_idle {s : State} {p : Nat} (h : s.blk.pathUp p = false) : Gives (.portDown p) s s.blk := by
  show execPortDown p s = _
  unfold execPortDown State.aon
  dsimp only
  rw [if_pos (.inr (by rw [h]; rfl))]

theorem sem_of {a b : Block} {k : Nat} (h : Part.same .sems a b) : b.sem k = a.sem k := by
  unfold Block.sem
  rw [show a.sems = b.sems from h]

/-- What is filtered out of a table is not read from it, unless it is the default. -/
theorem get_filter_ne {α : Type} [DecidableEq α] {d : Nat → α} {x : α} {k : Nat} (hd : d k ≠ x) : ∀ m : Tab α,
    Tab.get d (m.filter fun kv => decide (kv.2 ≠ x)) k ≠ x
  | [] => hd
  | (a, v) :: m => by
    rw [List.filter_cons]
    split
    · rename_i hv
      unfold Tab.get
      split
      · simpa using hv
      · exact get_filter_ne hd m
    · exact get_filter_ne hd m

theorem freeSemsOf_sem (b : Block) {p : Nat} (hp : p ≠ 0) (k : Nat) : (b.freeSemsOf p).sem k ≠ p := get_filter_ne hp.symm b.sems

/-- What the loss of port `p` does beside the semaphores: its event, or the record of it while a stop lasts (R511). -/
def portNoted (b : Block) (p : Nat) : Block :=
  let b := { b with hiu := b.hiu.portLost p }
  let b := (b.unstagePath p fun _ => true).setField Reg.GLB_PORT_STS (3 + p) (3 + p) 1
  if b.stop.stopped then { b with stop := { b.stop with lost := b.stop.lost ++ [p] } } else b.event pgHiu 8 0 p

theorem portLost_eq (b : Block) (p : Nat) : b.portLost p = portNoted (b.freeSemsOf p) p := rfl

theorem portNoted_sems (b : Block) (p : Nat) : Part.same .sems b (portNoted b p) := by
  unfold portNoted
  extract_lets b₁ b₂
  have hclear : Keeps 384 b₁ b₂ := Block.setField_keeps rfl (Block.unstagePath_keeps rfl (Keeps.refl _ b₁))
  have hsems : Part.same .sems b b₂ := (same_of_keeps hclear rfl : Part.same .sems b₁ b₂)
  split
  · exact hsems
  · exact same_trans hsems (same_of_keeps (Block.event_keeps (sub_refl _) (Keeps.refl _ b₂)) rfl)

theorem pathUp_of {a b : Block} {path : Nat} (h : Part.same .pins a b) : b.pathUp path = a.pathUp path := by
  unfold Block.pathUp
  rw [show a.pins = b.pins from h]

theorem portLost_pathUp (b : Block) (p path : Nat) : (b.portLost p).pathUp path = b.pathUp path :=
  pathUp_of (same_of_keeps (Block.portLost_keeps (sub_refl _) (Keeps.refl _ b)) rfl)

/-! ### A port that comes back -/

theorem portUp_b {s : State} (h : s.blk.pathUp 2 = false) : Gives (.portUp 2) s (portAt s.blk 2 true) := by
  show execPortUp 2 s = _
  unfold execPortUp State.aon
  dsimp only
  rw [if_neg (by simp [h]), if_neg (by simp)]
  rfl

theorem portUp_a {s : State} (h : s.blk.pathUp 1 = false) (hr : Runs s) : Gives (.portUp 1) s
    (((List.range 0x28).filter fun pg => isUnitPage pg && (portAt s.blk 1 true).errPend pg).foldl Block.msix (portAt s.blk 1 true)) := by
  have hcore : (s.blk.pins.setPort 1 true).coreHeld = false := (setPort_coreHeld ..).trans (Runs.linked hr)
  show execPortUp 1 s = _
  unfold execPortUp State.aon
  dsimp only
  rw [if_neg (by simp [h]), if_pos ⟨rfl, by rw [hcore]; rfl⟩]
  rfl

/-! ### Messages and records -/

theorem msixSpacingEnd_gives {s : State} (page : Nat) (hr : Runs s) :
    Gives (.msixSpacingEnd page) s (if s.blk.hiu.pend.contains page then s.blk.msix page else s.blk) := core_runs hr

theorem pop_gives {s : State} {path : Nat} (ht : Takes s path Reg.EV_CTL) : Gives (.pop path) s (s.blk.popFifo path) := write_takes ht

/-- Settles O53: a port's loss by the semaphores that are filtered out, Port A's return by the pages with an event pending, the
spacing by what is pending, and POP (R514) by the writing port. That a row whose condition does not hold changes nothing is log
entry 2. -/
theorem portRows : Obligations.PortRows := by
  unfold Obligations.PortRows
  intro s
  refine ⟨?_, ?_, ?_, ?_, ?_, ?_, ?_, ?_⟩
  · intro p hp hup hr
    refine ⟨portDown_gives hp hup hr, (portLost_pathUp _ p p).trans (portAt_down hp), fun k => ?_⟩
    rw [portLost_eq, sem_of (portNoted_sems _ p)]
    exact freeSemsOf_sem _ (by omega) k
  · exact fun p h => portDown_idle h
  · exact portUp_b
  · exact fun h hr => ⟨_, rfl, portUp_a h hr⟩
  · intro page hr hpend
    have hg := msixSpacingEnd_gives page hr
    rwa [if_pos hpend] at hg
  · intro page hr hnone
    have hg := msixSpacingEnd_gives page hr
    rwa [if_neg (Bool.eq_false_iff.1 hnone)] at hg
  · exact pop_gives
  · exact pop_gives

end Sys2Proof.Proofs
end

section
/-!
SUPPORT. The trace buffers (R437, R438, R440), the samples of queue occupancy (R433) and the reads of the scan-out image (R452).
-/
namespace Sys2Proof.Proofs

open Sys2Proof Sys2Proof.Machine Sys2Proof.Safety Sys2Proof.Laws

/-! ### The trace DMA -/

theorem traceDmaWrite_gives {s : State} (k : Nat) (hr : Runs s) : Gives (.traceDmaWrite k) s (s.blk.traceDma k
    (if (s.blk.tbuf k).en then (s.blk.tbuf k).recs.length / 8 * 8 else (s.blk.tbuf k).recs.length)) := by
  show execTraceDmaWrite k s = _
  unfold execTraceDmaWrite
  rw [core_runs hr]

theorem traceFlushTimer_due {s : State} {k a : Nat} {l : List Nat} (hr : Runs s) (ht : (s.blk.tbuf k).times = a :: l)
    (hdue : a + 10 * Config.cyclesUs ≤ s.blk.zclk) : Gives (.traceFlushTimer k) s (s.blk.traceDma k (s.blk.tbuf k).recs.length) := by
  show execTraceFlushTimer k s = _
  unfold execTraceFlushTimer
  rw [core_runs hr]
  simp only [ht, if_pos hdue]

theorem traceFlushTimer_idle {s : State} {k : Nat} (hr : Runs s) (ht : (s.blk.tbuf k).times = []) : Gives (.traceFlushTimer k) s s.blk := by
  show execTraceFlushTimer k s = _
  unfold execTraceFlushTimer
  rw [core_runs hr]
  simp only [ht]

/-- The bursts that the trace DMA counts are all that it changes beside what its writes change. -/
theorem traceDma_counts (b : Block) (k n : Nat) : ∃ m, b.traceDma k n = (Block.traceWrite k n b).count Reg.SHORT_BURST 31 0 m := ⟨_, rfl⟩

theorem count_tbuf (b : Block) (r hi lo n k : Nat) : (b.count r hi lo n).tbuf k = b.tbuf k := rfl

/-- The only record of a buffer whose ring has room, written at TAIL (R437). -/
theorem traceWrite_one {b w : Block} {k : Nat} {t : TraceBuf} {r : BitVec 256} (ht : t = b.tbuf k) (hrec : t.recs = [r])
    (hroom : (t.tail + 2 * t.size - t.head) % (2 * t.size) < t.size)
    (hw : b.writeHome 0 (t.base + t.tail % t.size * 32) (leBytes 32 r.toNat) = .ok w) :
    Block.traceWrite k 1 b = w.setTbuf k { t with recs := [], times := t.times.drop 1, tail := (t.tail + 1) % (2 * t.size) } := by
  subst ht
  unfold Block.traceWrite
  simp only [hrec, if_pos hroom, hw]
  rfl

/-- Buffer `k` is empty, its TAIL is past the record, and memory is as in `w`. -/
structure RecordOut (t : TraceBuf) (w : Block) (k : Nat) (b : Block) : Prop where
  empty : (b.tbuf k).recs = []
  tail : (b.tbuf k).tail = (t.tail + 1) % (2 * t.size)
  dev : b.dev = w.dev
  host : b.host = w.host

theorem traceDma_one {b w : Block} {k : Nat} {t : TraceBuf} {r : BitVec 256} (ht : t = b.tbuf k) (hrec : t.recs = [r])
    (hroom : (t.tail + 2 * t.size - t.head) % (2 * t.size) < t.size)
    (hw : b.writeHome 0 (t.base + t.tail % t.size * 32) (leBytes 32 r.toNat) = .ok w) :
    RecordOut t w k (b.traceDma k (b.tbuf k).recs.length) := by
  have hlen : (b.tbuf k).recs.length = 1 := by rw [← ht, hrec]; rfl
  obtain ⟨m, hm⟩ := traceDma_counts b k 1
  rw [hlen, hm, traceWrite_one ht hrec hroom hw]
  have hbuf := Block.setTbuf_self w k { t with recs := [], times := t.times.drop 1, tail := (t.tail + 1) % (2 * t.size) }
  exact ⟨congrArg TraceBuf.recs hbuf, congrArg TraceBuf.tail hbuf, rfl, rfl⟩

/-! ### TB_CTL, TB_SIZE and TB_HEAD -/

/-- TB_CTL of a buffer with EN 0 reads 0 in bit 31. -/
theorem ctl_en {t : TraceBuf} (hen : t.en = false) (hctx : t.ctx < 4096) : bit t.ctl 31 = false := by
  have h₀ : ofBit t.en = 0 := by rw [hen]; rfl
  have h₁ := ofBit_le_one t.fault
  have h₂ := ofBit_le_one t.filt
  have h₃ := ofBit_le_one t.decision
  have h₄ := ofBit_le_one t.profile
  refine Nat.testBit_lt_two_pow ?_
  unfold TraceBuf.ctl
  omega

/-- A write of TB_CTL with EN 0 leaves the buffer disabled, its ring and its records as they were. -/
theorem tbCtlWrite_disables {b : Block} {path v : Nat} (h : bit v 31 = false) :
    ((b.tbCtlWrite path v).tbuf b.tbSel).en = false ∧ ((b.tbCtlWrite path v).tbuf b.tbSel).base = (b.tbuf b.tbSel).base
      ∧ ((b.tbCtlWrite path v).tbuf b.tbSel).recs = (b.tbuf b.tbSel).recs ∧ (b.tbCtlWrite path v).tbSel = b.tbSel := by
  have hgo : ¬(bit v 31 = true ∧ (b.tbuf b.tbSel).log2 = 0) := fun hc => Bool.false_ne_true (h.symm.trans hc.1)
  unfold Block.tbCtlWrite
  dsimp only
  rw [if_neg hgo, Block.setTbuf_self]
  exact ⟨h, rfl, rfl, rfl⟩

theorem traceDisable_gives {s : State} {path : Nat} {b : Block} (ht : Takes s path Reg.TB_CTL)
    (hb : b = s.blk.tbCtlWrite path ({ s.blk.tbuf s.blk.tbSel with en := false, fault := false } : TraceBuf).ctl) :
    Gives (.traceDisable path) s (b.traceDma b.tbSel (b.tbuf b.tbSel).recs.length) := by
  subst hb
  exact write_takes ht

theorem tbSizeWrite_gives {s : State} {path : Nat} (v : BitVec 32) (ht : Takes s path Reg.TB_SIZE) :
    Gives (.tbSizeWrite path v) s (s.blk.tbSizeSet path v.toNat) := write_takes ht

theorem tbSizeSet_enabled {b : Block} {path v : Nat} (h : (b.tbuf b.tbSel).en = true) : b.tbSizeSet path v = b := if_pos (.inl h)

/-- The ring of a disabled, empty buffer, at the base that the path has staged (R440). -/
theorem tbSizeSet_ring {b : Block} {path v base : Nat} (hen : (b.tbuf b.tbSel).en = false) (hrecs : (b.tbuf b.tbSel).recs = [])
    (hlo : 12 ≤ v % 32) (hhi : v % 32 ≤ 24)
    (hbase : base = b.stagedOr path Reg.TB_BASE_LO ((b.tbuf b.tbSel).base % 2 ^ 32)
      + 2 ^ 32 * b.stagedOr path Reg.TB_BASE_HI ((b.tbuf b.tbSel).base / 2 ^ 32)) (halign : base % 2 ^ (v % 32) = 0) :
    b.tbSizeSet path v = (b.unstagePath path fun a => a = Reg.TB_BASE_LO ∨ a = Reg.TB_BASE_HI).setTbuf b.tbSel
      { b.tbuf b.tbSel with base := base, log2 := v % 32, tail := 0, head := 0 } := by
  subst hbase
  unfold Block.tbSizeSet
  dsimp only
  rw [if_neg (by simp [hen, hrecs, hlo, hhi]), if_neg fun hc => hc.2 halign]

theorem tbHeadWrite_gives {s : State} {path : Nat} (v : BitVec 32) (ht : Takes s path Reg.TB_HEAD) :
    Gives (.tbHeadWrite path v) s (s.blk.tbHeadSet path v.toNat) := write_takes ht

/-! ### Occupancy and the scan-out image -/

theorem occupancySample_gives {s : State} (hr : Runs s) : Gives .occupancySample s
    (if Config.cyclesUs ≤ s.blk.frac Reg.OB_QOCC_NOW then (s.blk.setFrac Reg.OB_QOCC_NOW 0).sampleOcc else s.blk) := core_runs hr

theorem sampleOcc_now (b : Block) (a n : Nat) : (b.setFrac a n).sampleOcc.occ.now = (List.range 4).map b.slotsHeld := rfl

/-- A row that is a read, by a path that reads. -/
theorem gives_of_read {row : Instr} {s : State} {path w : Nat} {held f : Block → Block}
    (hrow : exec row s = s.aon fun b => b.readBy path w held f) (h : Reads s path) : Gives row s (f s.blk) := by
  unfold Gives
  rw [hrow]
  unfold State.aon
  dsimp only
  rw [readBy_reads h]

/-- Settles O56: the trace DMA by what it takes from a buffer, the registers of a buffer by their tests, a sample by the microsecond it
counts, and a read of the image by the half it reads. TRACE_DISABLE keeps the other fields and drains at once by log entry 79; that a row
whose condition does not hold changes nothing is log entry 2. -/
theorem observationRows : Obligations.ObservationRows := by
  unfold Obligations.ObservationRows
  intro s
  refine ⟨?_, ?_, fun k a l => traceFlushTimer_due, ?_, fun k => traceFlushTimer_idle, ?_, ?_, ?_, ?_, ?_, ?_, ?_⟩
  · intro k hr hen
    have hg := traceDmaWrite_gives k hr
    rwa [if_pos hen] at hg
  · intro k hr hen
    have hg := traceDmaWrite_gives k hr
    rwa [if_neg (Bool.eq_false_iff.1 hen)] at hg
  · intro k t r w hr ht hrec hroom hw
    obtain ⟨hempty, htail, hdev, hhost⟩ := traceDma_one ht hrec hroom hw
    refine ⟨fun hen => ⟨_, ?_, hempty, htail, hdev, hhost⟩, fun a l htimes hdue => ⟨_, ?_, hempty, htail, hdev, hhost⟩⟩
    · have hg := traceDmaWrite_gives k hr
      rwa [if_neg (Bool.eq_false_iff.1 (ht ▸ hen))] at hg
    · exact traceFlushTimer_due hr (ht ▸ htimes) hdue
  · intro path b ht hb
    have hg := traceDisable_gives ht hb
    refine ⟨hg, fun hrecs hctx => ⟨_, hg, ?_⟩⟩
    obtain ⟨hen, hbase, hheld, hsel⟩ := tbCtlWrite_disables (b := s.blk) (path := path)
      (ctl_en (t := { s.blk.tbuf s.blk.tbSel with en := false, fault := false }) rfl hctx)
    rw [← hb] at hen hbase hheld hsel
    obtain ⟨m, hm⟩ := traceDma_counts b s.blk.tbSel 0
    rw [hsel, hheld, hrecs, List.length_nil, hm, count_tbuf]
    exact ⟨hen, hbase⟩
  · intro path v ht hen
    have hg := tbSizeWrite_gives v ht
    rwa [tbSizeSet_enabled hen] at hg
  · intro path v base ht hen hrecs hlo hhi hbase halign
    have hg := tbSizeWrite_gives v ht
    rwa [tbSizeSet_ring hen hrecs hlo hhi hbase halign] at hg
  · rintro path v t ht rfl
    exact tbHeadWrite_gives v ht
  · intro hr hdue
    have hg := occupancySample_gives hr
    rw [if_pos hdue] at hg
    exact ⟨hg, sampleOcc_now _ _ _⟩
  · intro hr hearly
    have hg := occupancySample_gives hr
    rwa [if_neg (Nat.not_le.2 hearly)] at hg
  · intro path h
    refine ⟨?_, ?_, ?_⟩
    · exact gives_of_read (row := .obScanDataRead path .lo32) rfl h
    · exact gives_of_read (row := .obScanDataRead path .hi32) rfl h
    · exact gives_of_read (row := .obScanDataRead path .lo64) rfl h

end Sys2Proof.Proofs
end

section
/-!
SUPPORT. The global stop (R447, R448, R451), the breakpoints (R454, R455, R456) and the freeze of the Cinder log (R461).
-/
namespace Sys2Proof.Proofs

open Sys2Proof Sys2Proof.Machine Sys2Proof.Safety Sys2Proof.Laws

/-! ### The stop -/

theorem globalStopRequest_gives {s : State} {path : Nat} (ht : Takes s path Reg.OB_STOP_CTL) :
    Gives (.globalStopRequest path) s (s.blk.requestStop 1) := write_takes ht

theorem requestStop_stopped {b : Block} {cause : Nat} (h : b.stop.stopped = true) : b.requestStop cause = b := if_pos h

/-- The first request takes the image and the time (R447, R452). -/
theorem requestStop_first {b : Block} {cause : Nat} (h : b.stop.stopped = false) : b.requestStop cause =
    ((Block.setReg { b with stop := { stopped := true, cause := cause, at_ := b.ns, image := b.scanImage cause } }
      Reg.OB_STOP_TIME_LO (b.ns % 2 ^ 32)).setReg Reg.OB_STOP_TIME_HI (b.ns / 2 ^ 32)) := if_neg (Bool.eq_false_iff.1 h)

theorem requestStop_stops (b : Block) (cause : Nat) : (b.requestStop cause).stop.stopped = true := by
  cases h : b.stop.stopped with
  | true => rw [requestStop_stopped h, h]
  | false => rw [requestStop_first h]; rfl

/-- The block once an edge of STOP_IN has come. -/
def stopInHigh (b : Block) : Block := { b with pins := { b.pins with stopIn := true } }

theorem stopInEdge_gives {s : State} (hl : Linked s) : Gives .stopInEdge s
    (if bit (s.blk.reg Reg.OB_STOP_CTL) 2 then (stopInHigh s.blk).requestStop 2 else stopInHigh s.blk) := by
  show execStopInEdge s = _
  unfold execStopInEdge
  rw [link_runs hl]
  rfl

theorem globalStopRelease_gives {s : State} {path : Nat} (ht : Takes s path Reg.OB_STOP_CTL) :
    Gives (.globalStopRelease path) s s.blk.release := write_takes ht

theorem release_idle {b : Block} (h : b.stop.stopped = false) : b.release = b := if_pos (by rw [h]; rfl)

/-- RELEASE in a stop, with STOP_IN_EN set: by the level of STOP_IN. -/
theorem release_sampled {b : Block} (h : b.stop.stopped = true) (hen : bit (b.reg Reg.OB_STOP_CTL) 2 = true) :
    b.release = if b.sampleStopIn.1 then b.sampleStopIn.2.stopDrop else b.sampleStopIn.2.endStop := by
  unfold Block.release
  rw [if_neg (by simp [h]), if_pos hen]

theorem sampleStopIn_low {b : Block} (h : b.pins.stopIn = false) : b.sampleStopIn = (false, b) := if_neg (Bool.eq_false_iff.1 h)

theorem release_ends {b : Block} (h : b.stop.stopped = true) (hlow : bit (b.reg Reg.OB_STOP_CTL) 2 = false ∨ b.pins.stopIn = false) :
    b.release = b.endStop := by
  cases hen : bit (b.reg Reg.OB_STOP_CTL) 2 with
  | false =>
    unfold Block.release
    rw [if_neg (by simp [h]), if_neg (by simp [hen])]
  | true =>
    rw [release_sampled h hen, sampleStopIn_low (hlow.resolve_left (by simp [hen]))]
    rfl

/-! ### Breakpoints -/

theorem breakpointHit_gives {s : State} {k : Nat} {w : Work} {l : Lane} (hr : Runs s) (hl : s.blk.lane? w = some l) :
    Gives (.breakpointHit k w) s (if s.blk.workRuns w ∧ s.blk.hits (s.blk.bp k) l
      then ((s.blk.workEngs w).foldl Block.drainEng (s.blk.setHalt w (some k))).bpHit k (s.blk.bp k) else s.blk) := by
  show execBreakpointHit k w s = _
  unfold execBreakpointHit
  rw [core_runs hr]
  simp only [hl]

theorem breakpointHit_none {s : State} {k : Nat} {w : Work} (hr : Runs s) (hl : s.blk.lane? w = none) :
    Gives (.breakpointHit k w) s s.blk := by
  show execBreakpointHit k w s = _
  unfold execBreakpointHit
  rw [core_runs hr]
  simp only [hl]

theorem bp_of {a b : Block} {k : Nat} (h : Part.same .breakpoints a b) : b.bp k = a.bp k := by
  unfold Block.bp
  rw [h.1]

/-- The breakpoint is marked HIT, and stops the block where its STOP says so (R455). -/
theorem bpHit_marks (b : Block) (k : Nat) (p : Breakpoint) :
    ((b.bpHit k p).bp k).hit = true ∧ (p.stop = true → (b.bpHit k p).stop.stopped = true) := by
  unfold Block.bpHit
  extract_lets b₁
  have hbp : (b₁.bp k).hit = true := by
    rw [bp_of (same_of_keeps (Block.event_keeps (sub_refl _) (Keeps.refl _ _)) rfl), Block.setBp_self]
  cases p.stop with
  | false => exact ⟨hbp, fun h => absurd h Bool.false_ne_true⟩
  | true =>
    rw [if_pos rfl]
    refine ⟨?_, fun _ => requestStop_stops b₁ 5⟩
    rw [bp_of (same_of_keeps (Block.requestStop_keeps (sub_refl _) (Keeps.refl _ b₁)) rfl)]
    exact hbp

theorem breakpointCommit_gives {s : State} {path : Nat} (v : BitVec 32) (ht : Takes s path Reg.OB_BP_CTL) :
    Gives (.breakpointCommit path v) s (s.blk.bpCommit path v.toNat) := write_takes ht

/-- A breakpoint for a version of a context with debug on (R454). -/
theorem bpCommit_commits {b b' : Block} {path v l : Nat}
    (hl : l = b.stagedOr path Reg.OB_BP_LIST ((b.bp b.bpSel).listId * 2 ^ 16 + (b.bp b.bpSel).epoch))
    (hb' : b' = b.unstagePath path fun a => a = Reg.OB_BP_LIST ∨ a = Reg.OB_BP_AT) (hdebug : b'.debugOn (bits v 31 20) = true)
    (hver : (b'.version? (bits v 31 20) (bits l 31 16) (bits l 15 0)).isSome = true) :
    b.bpCommit path v = b'.setBp b.bpSel {
      ctx := bits v 31 20, listId := bits l 31 16, epoch := bits l 15 0, at_ := b.stagedOr path Reg.OB_BP_AT (b.bp b.bpSel).at_
      en := true, hit := (b.bp b.bpSel).hit && !bit v 7, stop := bit v 1 } := by
  subst hl hb'
  refine if_neg ?_
  rintro (hoff | hnone)
  · rw [Bool.not_eq_true'] at hoff
    exact Bool.false_ne_true (hoff.symm.trans hdebug)
  · rw [Option.isNone_iff_eq_none] at hnone
    exact Option.isSome_iff_ne_none.1 hver hnone

theorem breakpointResume_gives {s : State} {path : Nat} (ht : Takes s path Reg.OB_BP_CTL) :
    Gives (.breakpointResume path) s s.blk.bpResume := write_takes ht

theorem breakpointStep_gives {s : State} {path : Nat} (ht : Takes s path Reg.OB_BP_CTL) :
    Gives (.breakpointStep path) s s.blk.bpStep := write_takes ht

theorem bpResume_one {b : Block} {w : Work} (h : b.haltedAt b.bpSel = [w]) : b.bpResume =
    (b.workEngs w).foldl Block.resumeEng ((b.setHalt w none).modLane w fun l => { l with past := true }) := by
  unfold Block.bpResume
  rw [h]
  rfl

theorem bpStep_one {b : Block} {w : Work} {l : Lane} (h : b.haltedAt b.bpSel = [w]) (hl : b.lane? w = some l) (hlive : l.live = true) :
    b.bpStep = (b.workEngs w).foldl Block.stepEng (b.deliver l) := by
  unfold Block.bpStep
  rw [h]
  show b.stepWork w = _
  unfold Block.stepWork
  simp only [hl, hlive, if_true]

/-! ### The Cinder log -/

theorem cnFreezeWrite_gives {s : State} {path : Nat} (v : BitVec 32) (ht : Takes s path Reg.CN_CTL) :
    Gives (.cnFreezeWrite path v) s (s.blk.cnCtlWrite v.toNat) := write_takes ht

theorem cnCtlWrite_freezes {b : Block} {v : Nat} (h : bit v 0 = true) :
    b.cnCtlWrite v = Block.setReg { b with cinder := { b.cinder with post := none } } Reg.CN_CTL (v % 2) := by
  unfold Block.cnCtlWrite
  rw [if_pos h]

theorem cnCtlWrite_thaws {b : Block} {v : Nat} (h : bit v 0 = false) : b.cnCtlWrite v = b.setReg Reg.CN_CTL (v % 2) := by
  unfold Block.cnCtlWrite
  rw [if_neg (Bool.eq_false_iff.1 h)]

/-- Settles O57: the stop by whether one is in force and what STOP_IN shows, a breakpoint by whether its work reaches it and by what is
halted at it, and CN_CTL by FREEZE. The level of STOP_IN at RELEASE is a free value (log entries 9 and 80), and a write of 0 to FREEZE keeps
the count after a trigger (log entry 82); that a row whose condition does not hold changes nothing is log entry 2. -/
theorem stopAndBreakpointRows : Obligations.StopAndBreakpointRows := by
  unfold Obligations.StopAndBreakpointRows
  intro s
  refine ⟨?_, ?_, ?_, ?_, ?_, ?_, ?_, ?_, ?_, fun k w => breakpointHit_none, ?_,
    fun path ht => ⟨breakpointResume_gives ht, breakpointStep_gives ht⟩, ?_, ?_, ?_⟩
  · intro path ht hgoing
    have hg := globalStopRequest_gives ht
    rw [requestStop_first hgoing] at hg
    exact ⟨_, rfl, hg⟩
  · intro path ht hstopped
    have hg := globalStopRequest_gives ht
    rwa [requestStop_stopped hstopped] at hg
  · intro hl hoff
    have hg := stopInEdge_gives hl
    rwa [if_neg (Bool.eq_false_iff.1 hoff)] at hg
  · intro hl hon
    have hg := stopInEdge_gives hl
    rw [if_pos hon] at hg
    refine ⟨hg, fun hgoing => ?_⟩
    rw [requestStop_first (b := stopInHigh s.blk) hgoing] at hg
    exact ⟨_, hg, rfl, rfl, rfl, rfl⟩
  · intro path ht hstopped hlow
    have hg := globalStopRelease_gives ht
    rwa [release_ends hstopped hlow] at hg
  · rintro path x ht hstopped hen rfl
    have hg := globalStopRelease_gives ht
    rwa [release_sampled hstopped hen] at hg
  · intro path ht hgoing
    have hg := globalStopRelease_gives ht
    rwa [release_idle hgoing] at hg
  · intro k w l hr hl hruns hhits
    have hg := breakpointHit_gives (k := k) hr hl
    rw [if_pos ⟨hruns, hhits⟩] at hg
    exact ⟨hg, bpHit_marks _ _ _⟩
  · intro k w l hr hl hmiss
    have hg := breakpointHit_gives (k := k) hr hl
    rwa [if_neg fun hc => hmiss.elim (by simp [hc.1]) (by simp [hc.2])] at hg
  · rintro path v l p b ht rfl hlist hb hdebug hver
    have hg := breakpointCommit_gives v ht
    rwa [bpCommit_commits hlist hb hdebug hver] at hg
  · intro path w l ht hhalted hl hlive
    have hresume := breakpointResume_gives ht
    have hstep := breakpointStep_gives ht
    rw [bpResume_one hhalted] at hresume
    rw [bpStep_one hhalted hl hlive] at hstep
    exact ⟨hresume, hstep⟩
  · intro path v ht hfreeze
    have hg := cnFreezeWrite_gives v ht
    rwa [cnCtlWrite_freezes hfreeze] at hg
  · intro path v ht hthaw
    have hg := cnFreezeWrite_gives v ht
    rwa [cnCtlWrite_thaws hthaw] at hg

end Sys2Proof.Proofs
end

section
/-!
SUPPORT. Bytes of device and host memory: what a write at places leaves at each place (R110, R115).
-/
namespace Sys2Proof.Proofs

open Sys2Proof Sys2Proof.Machine Sys2Proof.Safety Sys2Proof.Laws

/-! ### Bytes at places -/

theorem putByte_byteAt_self (b : Block) (p : Phys) (x : Byte) : (b.putByte p x).byteAt p = x := by
  cases p with
  | dev a => exact Tab.get_set_self _ _ _ _
  | host a => exact Tab.get_set_self _ _ _ _

theorem putByte_byteAt_other (b : Block) {p r : Phys} (x : Byte) (h : p ≠ r) : (b.putByte p x).byteAt r = b.byteAt r := by
  cases p with
  | dev a => cases r with
    | dev a' => exact Tab.get_set_other _ _ _ fun e => h (congrArg Phys.dev e)
    | host a' => rfl
  | host a => cases r with
    | dev a' => rfl
    | host a' => exact Tab.get_set_other _ _ _ fun e => h (congrArg Phys.host e)

/-- Bytes put at places one after the other leave every other place as it was. -/
theorem putEach_byteAt_other {r : Phys} : ∀ {ps : List Phys} (xs : List Byte) (b : Block), r ∉ ps →
    ((ps.zip xs).foldl (fun b px => b.putByte px.1 px.2) b).byteAt r = b.byteAt r
  | [], _, _, _ => rfl
  | _ :: _, [], _, _ => rfl
  | p :: ps, x :: xs, b, h => by
    have hne : p ≠ r := fun e => h (e ▸ List.mem_cons_self)
    rw [List.zip_cons_cons, List.foldl_cons, putEach_byteAt_other xs _ fun hm => h (List.mem_cons_of_mem _ hm),
      putByte_byteAt_other _ _ hne]

/-- At distinct places each byte stays, for no later one is put at its place. -/
theorem putEach_byteAt_self : ∀ {ps : List Phys} {xs : List Byte} (b : Block) {k : Nat} (h : k < ps.length) (g : k < xs.length),
    ps.Nodup → ((ps.zip xs).foldl (fun b px => b.putByte px.1 px.2) b).byteAt ps[k] = xs[k]
  | [], _, _, _, h, _, _ => absurd h (Nat.not_lt_zero _)
  | _ :: _, [], _, _, _, g, _ => absurd g (Nat.not_lt_zero _)
  | p :: ps, x :: xs, b, 0, _, _, hd => by
    show ((ps.zip xs).foldl (fun b px => b.putByte px.1 px.2) (b.putByte p x)).byteAt p = x
    rw [putEach_byteAt_other xs _ (List.nodup_cons.1 hd).1, putByte_byteAt_self]
  | p :: ps, x :: xs, b, k + 1, h, g, hd =>
    putEach_byteAt_self (b.putByte p x) (Nat.lt_of_succ_lt_succ h) (Nat.lt_of_succ_lt_succ g) (List.nodup_cons.1 hd).2

/-- Blocks that agree on both memories hold the same bytes. -/
theorem byteAt_of {a b : Block} (hd : Part.same .dev a b) (hh : Part.same .host a b) (r : Phys) : b.byteAt r = a.byteAt r := by
  cases r with
  | dev k => exact congrArg (Memory.byte · k) (Eq.symm hd)
  | host k => exact congrArg (Memory.byte · k) (Eq.symm hh)

/-- The marks of poison are no bytes. -/
theorem clearMarks_byteAt (b : Block) (ps : List Phys) (r : Phys) : (b.clearMarks ps).byteAt r = b.byteAt r :=
  have hk : Keeps 137472507904 b (b.clearMarks ps) := Block.clearMarks_keeps (sub_refl _) (Keeps.refl _ _)
  byteAt_of (same_of_keeps hk (by decide)) (same_of_keeps hk (by decide)) r

theorem putBytes_byteAt_other {ps : List Phys} {r : Phys} (xs : List Byte) (b : Block) (h : r ∉ ps) :
    (b.putBytes ps xs).byteAt r = b.byteAt r :=
  (clearMarks_byteAt _ _ _).trans (putEach_byteAt_other xs b h)

theorem putBytes_byteAt_self {ps : List Phys} {xs : List Byte} (b : Block) {k : Nat} (h : k < ps.length) (g : k < xs.length)
    (hd : ps.Nodup) : (b.putBytes ps xs).byteAt ps[k] = xs[k] :=
  (clearMarks_byteAt _ _ _).trans (putEach_byteAt_self b h g hd)

/-- Settles O11: the bytes at each place, device or host, after they are put one by one. -/
theorem bytesWritten : Obligations.BytesWritten := by
  unfold Obligations.BytesWritten
  intro b ps xs _ hd
  refine ⟨fun k h g a hp => ?_, fun k h g a hp => ?_, fun a h => ?_, fun a h => ?_⟩
  · have hk := putBytes_byteAt_self b h g hd
    rwa [hp] at hk
  · have hk := putBytes_byteAt_self b h g hd
    rwa [hp] at hk
  · exact putBytes_byteAt_other xs b h
  · exact putBytes_byteAt_other xs b h

end Sys2Proof.Proofs
end

section
/-!
SUPPORT. COPY and FILL: the bytes they move through a home at rest (R110, R115), and the memory that a FILL leaves (R110).
-/
namespace Sys2Proof.Proofs

open Sys2Proof Sys2Proof.Machine Sys2Proof.Safety Sys2Proof.Laws

/-- The command at (q, i) may act: it has been decided, or it runs. -/
def Acts (s : State) (q i opc : Nat) (c : Cmd) : Prop := Decided s q i opc c ∨ Underway s q i opc c

theorem Acts.phase {s : State} {q i opc : Nat} {c : Cmd} (h : Acts s q i opc c) : c.phase = .decided ∨ c.phase = .running :=
  h.imp decided_phase underway_phase

theorem Acts.ended {s : State} {b : Block} {q i opc st : Nat} {c : Cmd} (h : Acts s q i opc c) (k : Part.same .queues s.blk b) :
    HasEnded q i st (b.endCmd q i st) :=
  h.elim (decided_ended · k) (underway_ended · k)

/-- A row that works on a command which may act gives what the work leaves. -/
theorem Acts.gives {row : Instr} {s : State} {q i opc : Nat} {c : Cmd} {work : Cmd → Block → Block} {b : Block}
    (h : Acts s q i opc c) (hr : Runs s) (hrow : exec row s = s.core fun b => b.runCmd q i opc work) (hwork : work c s.blk = b) :
    Gives row s b :=
  h.elim (gives_of_decided hrow hr · hwork) (gives_of_underway hrow hr · hwork)

/-- A decided command that HAL places goes to the wait list (R304). -/
theorem whenPlaced_waits {b : Block} {c : Cmd} {f : Block → Block} (hp : c.phase = .decided) (h : c.needsPlace = true) :
    b.whenPlaced c f = b.toHal c := by
  unfold Block.whenPlaced
  rw [if_pos h, hp]

/-! ### The steps of a transfer -/

theorem dmaTouch_frame (b : Block) (c : Cmd) (space a len : Nat) :
    agreeBut [.regs, .stamps, .translation] b (b.dmaTouch c space a len) :=
  agree_of_keeps (Block.dmaTouch_keeps (sub_refl _) (Keeps.refl _ _)) (by decide)

theorem dmaWrite_queues (b : Block) (space e a : Nat) (ps : List Phys) (xs : List Byte) :
    Part.same .queues b (b.dmaWrite space e a ps xs) :=
  same_of_keeps (m := 141769310208) (Block.dmaWrite_keeps rfl (Keeps.refl _ _)) rfl

/-- The block once the bytes of a transfer into `ps` are moved and its bursts are counted (R309). -/
def moved (b : Block) (c : Cmd) (src dst len ds : Nat) (ps : List Phys) (xs : List Byte) : Block :=
  (b.countBursts c.q src dst len ps).dmaWrite ds c.dstEng dst ps xs

theorem moved_queues (b : Block) (c : Cmd) (src dst len ds : Nat) (ps : List Phys) (xs : List Byte) :
    Part.same .queues b (moved b c src dst len ds ps xs) :=
  same_trans (countBursts_queues ..) (dmaWrite_queues ..)

/-- COPY through a home at rest whose operands are read and resolved (R115). -/
theorem copyMove_moves {b r : Block} {c : Cmd} {src dst len ss ds : Nat} {xs : List Byte} {ps : List Phys}
    (hb : b = (r.dmaTouch c ss src len).dmaTouch c ds dst len) (hrest : AtRest b) (hx : b.dmaRead c ss c.srcEng src len = .ok xs)
    (hp : b.dmaPlaces c ds dst len = .ok ps) :
    r.copyMove c src dst len ss ds = (moved b c src dst len ds ps xs).endCmd c.q c.i 0 := by
  unfold Block.copyMove
  rw [← hb]
  dsimp only
  rw [access_ok hrest hx, access_ok hrest hp]
  rfl

section
variable {s : State} {q i : Nat} {c : Cmd} (hr : Runs s)
include hr

theorem copy_gives {src dst len ss ds se de : Nat} (ha : Acts s q i 0x20 c) (hn : c.phase = .decided → c.needsPlace = false)
    (hop : c.op = .copy src dst len ss ds se de) : Gives (.copy q i) s (s.blk.copyMove c src dst len ss ds) := by
  refine ha.gives hr rfl ?_
  simp only [hop, whenPlaced_goes ha.phase hn]

theorem copy_waits {src dst len ss ds se de : Nat} (hd : Decided s q i 0x20 c) (hn : c.needsPlace = true)
    (hop : c.op = .copy src dst len ss ds se de) : Gives (.copy q i) s (s.blk.toHal c) := by
  refine gives_of_decided rfl hr hd ?_
  simp only [hop, whenPlaced_waits (decided_phase hd) hn]

/-- FILL through a home at rest whose destination is resolved (R110). -/
theorem fill_gives {dst pattern len width ds e : Nat} {b : Block} {ps : List Phys} (ha : Acts s q i 0x21 c)
    (hn : c.phase = .decided → c.needsPlace = false) (hop : c.op = .fill dst pattern len width ds e)
    (hb : b = s.blk.dmaTouch c ds dst len) (hrest : AtRest b) (hp : b.dmaPlaces c ds dst len = .ok ps) :
    Gives (.fill q i) s ((moved b c dst dst len ds ps (fillBytes pattern width len)).endCmd c.q c.i 0) := by
  refine ha.gives hr rfl ?_
  simp only [hop, whenPlaced_goes ha.phase hn, ← hb, access_ok hrest hp]
  rfl

theorem fill_waits {dst pattern len width ds e : Nat} (hd : Decided s q i 0x21 c) (hn : c.needsPlace = true)
    (hop : c.op = .fill dst pattern len width ds e) : Gives (.fill q i) s (s.blk.toHal c) := by
  refine gives_of_decided rfl hr hd ?_
  simp only [hop, whenPlaced_waits (decided_phase hd) hn]

end

/-- Settles O19: a transfer through a home at rest moves its bytes; one that names an engine's space waits for its place first. -/
theorem copyAndFill : Obligations.CopyAndFill := by
  unfold Obligations.CopyAndFill
  rintro s q i c hr rfl rfl
  refine ⟨?_, ?_, ?_, ?_⟩
  · intro src dst len ss ds se de b xs ps ha hn hop hb hrest hx hp
    have hg := copy_gives hr ha hn hop
    rw [copyMove_moves hb hrest hx hp] at hg
    refine ⟨hg, Acts.ended ha (same_trans ?_ (moved_queues b ..))⟩
    rw [hb]
    exact same_trans (dmaTouch_frame s.blk c ss src len .queues (by decide)) (dmaTouch_frame _ c ds dst len .queues (by decide))
  · intro dst pattern len width ds e b ps ha hn hop hb hrest hp
    refine ⟨fill_gives hr ha hn hop hb hrest hp, Acts.ended ha (same_trans ?_ (moved_queues b ..))⟩
    rw [hb]
    exact dmaTouch_frame s.blk c ds dst len .queues (by decide)
  · exact fun src dst len ss ds se de hd hn hop => copy_waits hr hd hn hop
  · exact fun dst pattern len width ds e hd hn hop => fill_waits hr hd hn hop

/-! ### The memory that a FILL leaves -/

/-- An address range that is resolved has as many places as bytes. -/
theorem resolveN_length {b : Block} {c need : Nat} {inPlace : Bool} : ∀ {n va : Nat} {ps : List Phys},
    b.resolveN c need inPlace va n = .ok ps → ps.length = n
  | 0, _, _, h => by
    cases h
    rfl
  | n + 1, va, ps, h => by
    unfold Block.resolveN at h
    cases hp : b.resolve c va need inPlace with
    | ok p =>
      cases ht : b.resolveN c need inPlace (va + 1) n with
      | ok t =>
        rw [hp, MRes.bind, ht] at h
        cases h
        exact congrArg (· + 1) (resolveN_length ht)
      | _ => simp [hp, ht, MRes.bind] at h
    | _ => simp [hp, MRes.bind] at h

/-- The end of a command writes no memory. -/
theorem endCmd_byteAt (b : Block) (q i st : Nat) (p : Phys) : (b.endCmd q i st).byteAt p = b.byteAt p :=
  byteAt_of (endCmd_frame b q i st .dev (by decide)) (endCmd_frame b q i st .host (by decide)) p

/-- The caches that see a transfer and the count of its bursts write no memory. -/
theorem counted_byteAt (b : Block) (c : Cmd) (q src dst len : Nat) (ps : List Phys) (p : Phys) :
    ((b.dmaTouch c 0 dst len).countBursts q src dst len ps).byteAt p = b.byteAt p := by
  have hk : Keeps 67174528 b ((b.dmaTouch c 0 dst len).countBursts q src dst len ps) :=
    Block.countBursts_keeps rfl (Block.dmaTouch_keeps rfl (Keeps.refl _ _))
  exact byteAt_of (same_of_keeps hk rfl) (same_of_keeps hk rfl) p

/-- The block that a FILL of memory leaves, with the places of its range. -/
def filled (b : Block) (c : Cmd) (dst pattern len width : Nat) (ps : List Phys) : Block :=
  (moved (b.dmaTouch c 0 dst len) c dst dst len 0 ps (fillBytes pattern width len)).endCmd c.q c.i 0

theorem filled_byteAt_in (b : Block) (c : Cmd) (dst pattern len width : Nat) {ps : List Phys} {k : Nat} (h : k < ps.length)
    (hk : k < (fillBytes pattern width len).length) (hd : ps.Nodup) :
    (filled b c dst pattern len width ps).byteAt ps[k] = (fillBytes pattern width len).getD k 0 := by
  rw [List.getD_eq_getElem _ _ hk]
  exact (endCmd_byteAt ..).trans (putBytes_byteAt_self _ h hk hd)

theorem filled_byteAt_out (b : Block) (c : Cmd) (dst pattern len width : Nat) {ps : List Phys} {p : Phys} (h : p ∉ ps) :
    (filled b c dst pattern len width ps).byteAt p = b.byteAt p :=
  ((endCmd_byteAt ..).trans (putBytes_byteAt_other _ _ h)).trans (counted_byteAt b c c.q dst dst len ps p)

/-- Settles O20: the FILL of O19 to memory, read at each place. -/
theorem fillStores : Obligations.FillStores := by
  unfold Obligations.FillStores
  rintro s q i c dst pattern len width e b ps hr hd hn rfl rfl hop rfl hrest hp hnodup hlen
  have hin : ∀ k (h : k < ps.length), (filled s.blk c dst pattern len width ps).byteAt ps[k] = (fillBytes pattern width len).getD k 0 :=
    fun k h => filled_byteAt_in s.blk c dst pattern len width h (by rwa [hlen, ← resolveN_length hp]) hnodup
  refine ⟨_, fill_gives hr (.inl hd) (fun _ => hn) hop rfl hrest hp, fun k h a ha => ?_, fun k h a ha => ?_,
    fun _ h => filled_byteAt_out s.blk c dst pattern len width h, fun _ h => filled_byteAt_out s.blk c dst pattern len width h⟩
  · have hk := hin k h
    rwa [ha] at hk
  · have hk := hin k h
    rwa [ha] at hk

end Sys2Proof.Proofs
end

section
/-!
SUPPORT. Commands whose work is one step: NOP, WAIT and SIGNAL (R142), and ATOMIC (R116).
-/
namespace Sys2Proof.Proofs

open Sys2Proof Sys2Proof.Machine Sys2Proof.Safety Sys2Proof.Laws

/-! ### NOP, WAIT and SIGNAL -/

/-- A decided command without work to do (R140). -/
structure Vain (s : State) (q i opc : Nat) (c : Cmd) : Prop where
  held : s.blk.cmd? q i = some c
  code : c.opcode = opc
  live : c.stalled = false
  phase : c.phase = .decided
  empty : c.empty = true
  boot : bootBusy opc = false

/-- A row whose decided command has no work ends it with OK_EMPTY (R140). -/
theorem Vain.leaves {row : Instr} {s : State} {q i opc : Nat} {c : Cmd} {work : Cmd → Block → Block} (h : Vain s q i opc c) (hr : Runs s)
    (hrow : exec row s = s.core fun b => b.runCmd q i opc work) : Leaves row s (s.blk.endCmd q i 0x01) (HasEnded q i 0x01) := by
  obtain ⟨hc, hcode, hlive, hph, hempty, hboot⟩ := h
  have hrun : s.blk.runCmd q i opc work = s.blk.endCmd q i 0x01 := by
    unfold Block.runCmd
    simp [hc, hcode, hlive, hph, hempty, hboot]
  refine ⟨?_, endCmd_ended hc fun k => by simp [hph]⟩
  unfold Gives
  rw [hrow, core_runs hr, hrun]

/-- A row that ends its decided command with OK. -/
theorem leaves_done {row : Instr} {s : State} {q i opc : Nat} {c : Cmd} (hd : Decided s q i opc c) (hr : Runs s)
    (hrow : exec row s = s.core fun b => b.runCmd q i opc fun _ b => b.endCmd q i 0) :
    Leaves row s (s.blk.endCmd q i 0x00) (HasEnded q i 0x00) :=
  leaves_ended hd (gives_of_decided hrow hr hd rfl)

/-- Settles O17: a WAIT or SIGNAL without entries has no work, and every other NOP, WAIT and SIGNAL is done as it starts. -/
theorem nopWaitSignal : Obligations.NopWaitSignal := by
  unfold Obligations.NopWaitSignal
  intro s q i c hr hc hlive hph
  have decided : ∀ {opc}, c.opcode = opc → bootBusy opc = false → c.empty = false → Decided s q i opc c :=
    fun hcode hboot hempty => ⟨hc, hcode, hlive, hph, hempty, fun h => by simp [hboot] at h⟩
  refine ⟨fun hcode hop => ?_, fun hcode hop hw => ?_, fun hcode hop hw => ?_, fun hcode hop hw => ?_, fun hcode hop hw => ?_⟩
  · exact leaves_done (decided hcode rfl (by simp [Cmd.empty, hop])) hr rfl
  · exact Vain.leaves ⟨hc, hcode, hlive, hph, by simp [Cmd.empty, hop, hw], rfl⟩ hr rfl
  · exact leaves_done (decided hcode rfl (by simp [Cmd.empty, hop, hw])) hr rfl
  · exact Vain.leaves ⟨hc, hcode, hlive, hph, by simp [Cmd.empty, hop, hw], rfl⟩ hr rfl
  · exact leaves_done (decided hcode rfl (by simp [Cmd.empty, hop, hw])) hr rfl

/-! ### ATOMIC -/

theorem touchTwo_queues (b : Block) (t a r : Nat) (who : Option Asker) : Part.same .queues b ((b.touch t a who).touch t r who) :=
  same_trans (touch_queues ..) (touch_queues ..)

theorem putBytes_queues (b : Block) (ps : List Phys) (xs : List Byte) : Part.same .queues b (b.putBytes ps xs) :=
  same_of_keeps (m := 141768261632) (Block.putBytes_keeps rfl (Keeps.refl _ _)) rfl

section
variable {s : State} {q i aop a x y r : Nat} {c : Cmd} {b : Block} {ps rs : List Phys} (hr : Runs s) (hd : Decided s q i 0x22 c)
  (hop : c.op = .atomic aop a x y r) (hb : b = (s.blk.touch c.ctx a (some (.cmd q i))).touch c.ctx r (some (.cmd q i)))
  (hrest : AtRest b) (hps : b.resolveN c.ctx needAt false a 8 = .ok ps)
  (hrs : (if r = 0 then MRes.ok [] else b.resolveN c.ctx needWr false r 8) = .ok rs)
include hr hd hop hb hrest hps hrs

/-- ATOMIC on device memory: one read and its two writes, with nothing between them (R116). -/
theorem atomic_gives_dev {bs : List Byte} (ha : inDev ps = true) (hres : inDev rs = true) (hbs : b.readPlaces ps = .ok bs) :
    Gives (.atomic q i) s
      (((b.putBytes ps (leBytes 8 (atomicResult aop (ofLeBytes bs) x y))).putBytes rs (leBytes 8 (ofLeBytes bs))).endCmd q i 0) := by
  refine gives_of_decided rfl hr hd ?_
  simp only [hop, ← hb, access_ok hrest hps, access_ok hrest hrs, ha, hres, Bool.not_true, Bool.false_eq_true, or_self, if_false,
    access_ok hrest hbs]

/-- ATOMIC with an operand in host memory (R116). -/
theorem atomic_gives_host (h : inDev ps = false ∨ inDev rs = false) : Gives (.atomic q i) s (b.endCmd q i 0x12) := by
  refine gives_of_decided rfl hr hd ?_
  simp only [hop, ← hb, access_ok hrest hps, access_ok hrest hrs, Bool.not_eq_true', if_pos h]

end

/-- Settles O21: both operands resolved through a home at rest, and then by whether they lie in device memory. A page of host memory
that an ATS-mode context names is judged here, at execution (log entry 37). -/
theorem atomicCommand : Obligations.AtomicCommand := by
  unfold Obligations.AtomicCommand
  intro s q i c aop a x y r b ps rs hr hd hop hb hrest hps hrs
  have hsame : Part.same .queues s.blk b := by
    rw [hb]
    exact touchTwo_queues ..
  refine ⟨fun bs ha hres hbs => ⟨atomic_gives_dev hr hd hop hb hrest hps hrs ha hres hbs, decided_ended hd ?_⟩,
    fun h => ⟨atomic_gives_host hr hd hop hb hrest hps hrs h, decided_ended hd hsame⟩⟩
  exact same_trans hsame (same_trans (putBytes_queues ..) (putBytes_queues ..))

end Sys2Proof.Proofs
end

section
/-!
SUPPORT. CADENCE_WAIT (R119, R161, R162), MARK (R120, R447) and WATCH (R444).
-/
namespace Sys2Proof.Proofs

open Sys2Proof Sys2Proof.Machine Sys2Proof.Safety Sys2Proof.Laws

/-! ### CADENCE_WAIT -/

theorem cadenceMet_anchor (b : Block) (c : Cmd) (x : Nat) : ((b.cadenceMet c x).queue c.q).anchor = x := by
  unfold Block.cadenceMet
  rw [endCmd_queue, Block.setQueue_self]

/-- A CADENCE_WAIT that may act has ended once it is met: the anchor it sets is no command. -/
theorem cadenceMet_ended {s : State} {c : Cmd} (x : Nat) (h : Acts s c.q c.i 0x39 c) : HasEnded c.q c.i 0 (s.blk.cadenceMet c x) := by
  have ⟨d, hd, hph⟩ : InPhase c.q c.i c.phase s.blk := ⟨c, h.elim And.left And.left, rfl⟩
  exact endCmd_ended (c := d) hd fun k => by rcases h.phase with hp | hp <;> simp [hph, hp]

theorem cadenceWait_gives {s : State} {q i x : Nat} {c : Cmd} (hr : Runs s) (hd : Decided s q i 0x39 c) (hop : c.op = .cadenceWait x) :
    Gives (.cadenceWait q i) s (if x ≤ s.blk.cadence then s.blk.cadenceMet c x else s.blk.setRunning q i) := by
  refine gives_of_decided rfl hr hd ?_
  simp only [hop]

theorem cadenceTargetReached_gives {s : State} {q i x : Nat} {c : Cmd} (hr : Runs s) (hu : Underway s q i 0x39 c)
    (hop : c.op = .cadenceWait x) :
    Gives (.cadenceTargetReached q i) s (if x ≤ s.blk.cadence then s.blk.cadenceMet c x else s.blk) := by
  refine gives_of_underway rfl hr hu ?_
  simp only [hop, underway_phase hu, true_and]

/-! ### MARK -/

/-- The block once a MARK has written its record to the buffer it names and ended. -/
def recorded (b : Block) (c : Cmd) (q i buf v : Nat) : Block :=
  (b.traceAll (fun k _ => decide (k = buf)) c.ctx (traceRec (b.traceWord0 0x01 c.ctx c.qidx c.i) b.ns v b.cadence)).endCmd q i 0

theorem mark_gives {s : State} {q i buf v : Nat} {c : Cmd} {b : Block} (hr : Runs s) (hd : Decided s q i 0x3A c)
    (hop : c.op = .mark buf v) (hb : b = recorded s.blk c q i buf v) :
    Gives (.mark q i) s (if bit (b.reg Reg.OB_STOP_CTL) 5 = true ∧ v = b.reg Reg.OB_STOP_MARK then b.requestStop 3 else b) := by
  refine gives_of_decided rfl hr hd ?_
  subst hb
  simp only [hop]
  rfl

/-! ### WATCH -/

/-- The caches see a WATCH's tensor and its scales (R278). -/
theorem footprint_queues (l : List (Nat × Nat)) (t : Nat) (who : Option Asker) (b : Block) :
    Part.same .queues b (l.foldl (fun b x => b.touchRange t x.1 x.2 who) b) :=
  same_of_keeps (m := 67174528) (Keeps.foldl (fun _ _ h => Block.touchRange_keeps (sub_refl _) h) l (Keeps.refl _ b)) rfl

/-- The bursts of a WATCH are counted (R309). -/
theorem footprintBursts_queues (l : List (Nat × Nat)) (q : Nat) (b : Block) :
    Part.same .queues b (l.foldl (fun b x => b.countBursts q x.1 x.1 x.2 []) b) :=
  same_of_keeps (m := 128) (Keeps.foldl (fun _ _ h => Block.countBursts_keeps (sub_refl _) h) l (Keeps.refl _ b)) rfl

/-- WATCH through a home at rest: its rows and scales are read, and 64 bytes are written (R444). -/
theorem watch_gives {s : State} {q i mode h r : Nat} {c : Cmd} {d : Desc} {b : Block} {xs ys : List (List Byte)} {ps : List Phys}
    (hr : Runs s) (hd : Decided s q i 0x40 c) (hop : c.op = .watch mode h r) (hdesc : d = descFor c.descs h)
    (hb : b = d.footprint.foldl (fun b x => b.touchRange c.ctx x.1 x.2 (some (.cmd q i))) s.blk) (hrest : AtRest b)
    (hx : b.tensorRows c.ctx d (if d.isEmpty then 0 else d.rows) 0 = .ok xs)
    (hy : b.scaleRows c.ctx d (if d.isEmpty then 0 else d.rows) 0 = .ok ys) (hp : b.resolveN c.ctx needWr true r 64 = .ok ps) :
    Gives (.watch q i) s (((d.footprint.foldl (fun b x => b.countBursts c.q x.1 x.1 x.2 []) b).putBytes ps
      (watchResult mode d (xs.zip ys))).endCmd q i 0) := by
  refine gives_of_decided rfl hr hd ?_
  simp only [hop, ← hdesc, ← hb, access_ok hrest hx, access_ok hrest hy, access_ok hrest hp]

/-- Settles O23: CADENCE_WAIT by whether the cadence has reached its target, MARK by whether it asks for a stop, and WATCH. -/
theorem cadenceMarkWatch : Obligations.CadenceMarkWatch := by
  unfold Obligations.CadenceMarkWatch
  rintro s q i c hr rfl rfl
  refine ⟨?_, ?_, ?_, ?_, ?_, ?_⟩
  · intro x hd hop hx
    have hg := cadenceWait_gives hr hd hop
    rw [if_pos hx] at hg
    exact ⟨hg, cadenceMet_ended x (.inl hd), cadenceMet_anchor s.blk c x⟩
  · intro x hd hop hx
    have hg := cadenceWait_gives hr hd hop
    rw [if_neg (Nat.not_le.2 hx)] at hg
    exact ⟨hg, setRunning_inPhase hd.1⟩
  · intro x hu hop hx
    have hg := cadenceTargetReached_gives hr hu hop
    rw [if_pos hx] at hg
    exact ⟨hg, cadenceMet_ended x (.inr hu), cadenceMet_anchor s.blk c x⟩
  · intro x hu hop hx
    have hg := cadenceTargetReached_gives hr hu hop
    rwa [if_neg (Nat.not_le.2 hx)] at hg
  · intro buf v b hd hop hb
    have hg := mark_gives hr hd hop hb
    refine ⟨?_, fun hstop => ?_, fun hen hv => ?_⟩
    · rw [hb]
      exact decided_ended hd (traceAll_frame s.blk _ _ _ .queues (by decide))
    · rwa [if_neg hstop] at hg
    · rwa [if_pos ⟨hen, hv⟩] at hg
  · intro mode h r d b xs ys ps hd hop hdesc hb hrest hx hy hp
    refine ⟨watch_gives hr hd hop hdesc hb hrest hx hy hp, decided_ended hd ?_⟩
    rw [hb]
    exact same_trans (same_trans (footprint_queues ..) (footprintBursts_queues ..)) (putBytes_queues ..)

end Sys2Proof.Proofs
end

section
/-!
SUPPORT. Stalls: the expiry of a stall budget (R138) and the automatic end of a stall (R400).
-/
namespace Sys2Proof.Proofs

open Sys2Proof Sys2Proof.Machine Sys2Proof.Safety Sys2Proof.Laws

/-! ### The stall of a work -/

/-- The engines of a work that stalls drain, with a record and an event (R138). -/
def stallNoted (b : Block) (es : List Nat) (ctx d e : Nat) : Block :=
  ((es.foldl Block.drainEng b).cinderRec 0x03 0x30 ctx d).event pgRc 8 ctx e

theorem stallNoted_frame (b : Block) (es : List Nat) (ctx d e : Nat) :
    agreeBut [.regs, .events, .engines, .waits, .translation, .ports, .stop, .cinder] b (stallNoted b es ctx d e) := by
  refine agree_of_keeps (m := 13202805000320) (Block.event_keeps rfl (Block.cinderRec_keeps rfl ?_)) (by decide)
  refine Keeps.foldl (fun b e h => ?_) es (Keeps.refl _ b)
  exact Block.drainEng_keeps rfl h

theorem stallCmd_cmd {b : Block} {c : Cmd} (hc : b.cmd? c.q c.i = some c) :
    (b.stallCmd c).cmd? c.q c.i = some { c with stalled := true, stalls := c.stalls + 1, bp := none } :=
  (cmd_of (stallNoted_frame _ c.engs c.ctx (qCode c.qidx c.i) (qCode c.qidx c.i) .queues (by decide))).trans
    (modCmd_self (f := fun c => { c with stalled := true, stalls := c.stalls + 1, bp := none }) (fun _ => ⟨rfl, rfl⟩) hc)

theorem stallTask_task {b : Block} {t : Task} (ht : b.task? t.ctx t.id = some t) :
    (b.stallTask t).task? t.ctx t.id = some { t with stalled := true, stalls := t.stalls + 1, bp := none } :=
  (task_of (stallNoted_frame _ t.engs t.ctx t.id (tCode t.id) .tasks (by decide))).trans
    (modTask_self (f := fun t => { t with stalled := true, stalls := t.stalls + 1, bp := none }) (fun _ => ⟨rfl, rfl⟩) ht)

/-! ### The end of a stall -/

/-- A command on no engine goes on as it was, with its budget fresh. -/
theorem resumeCmd_some {b : Block} {c : Cmd} (hc : b.cmd? c.q c.i = some c) (hengs : c.engs = []) :
    ∃ d, (b.resumeCmd c).cmd? c.q c.i = some { c with stalled := false, budget := 0, deadline := d } := by
  have hfold : b.resumeCmd c = (b.modCmd c.q c.i fun c => { c with stalled := false, budget := 0 }).fixDeadlines := by
    unfold Block.resumeCmd
    rw [hengs, List.foldl_nil]
  rw [hfold]
  exact fixDeadlines_some (modCmd_self (f := fun c => { c with stalled := false, budget := 0 }) (fun _ => ⟨rfl, rfl⟩) hc)

/-- An engine of a task that works no item is not ready: it has no invocation to end. -/
theorem ready_idle {b : Block} {e c k : Nat} {t : Task} (hu : (b.eng e).use = .task c k) (ht : b.task? c k = some t)
    (hitem : t.item = none) : b.ready e = false := by
  have hleft : b.invLeft e = 0 := by simp [Block.invLeft, hu, EngUse.work?, Block.workRuns, ht, hitem]
  simp [Block.ready, hleft]

/-- The block once the stop request of engine `e` is withdrawn, before the engine goes on (R207). -/
def undrain (b : Block) (e : Nat) : Block := b.setEng e { b.eng e with draining := false, quiet := false, drainCycles := 0 }

theorem undrain_use (b : Block) (e k : Nat) : ((undrain b e).eng k).use = (b.eng k).use := by
  by_cases h : e = k
  · subst h
    unfold undrain
    rw [Block.setEng_self]
  · exact congrArg Engine.use (Block.setEng_other b e _ k h)

/-- An engine of a task that works no item loads no arguments as it goes on. -/
theorem resumeEng_idle {b : Block} {e c k : Nat} {t : Task} (hu : (b.eng e).use = .task c k) (ht : b.task? c k = some t)
    (hitem : t.item = none) : b.resumeEng e = undrain b e := by
  have hready : (undrain b e).ready e = false := ready_idle ((undrain_use b e e).trans hu) ht hitem
  exact if_neg (by rintro ⟨h, _⟩; exact absurd (hready.symm.trans h) (by decide))

/-- The engines of a task that works no item leave the task as it is when they go on. -/
theorem resumeEngs_idle {c k : Nat} {t : Task} (hitem : t.item = none) : ∀ (es : List Nat) {b : Block}, b.task? c k = some t →
    (∀ e ∈ es, (b.eng e).use = .task c k) → (es.foldl Block.resumeEng b).task? c k = some t
  | [], _, ht, _ => ht
  | e :: es, b, ht, hu => by
    rw [List.foldl_cons, resumeEng_idle (hu e List.mem_cons_self) ht hitem]
    exact resumeEngs_idle hitem es (b := undrain b e) ht fun k hk => (undrain_use b e k).trans (hu k (List.mem_cons_of_mem _ hk))

theorem resumeTask_task {b : Block} {t : Task} (ht : b.task? t.ctx t.id = some t) (hitem : t.item = none)
    (hu : ∀ e ∈ t.engs, (b.eng e).use = .task t.ctx t.id) :
    (b.resumeTask t).task? t.ctx t.id = some { t with stalled := false, budget := 0 } :=
  resumeEngs_idle (t := { t with stalled := false, budget := 0 }) hitem t.engs
    (modTask_self (f := fun t => { t with stalled := false, budget := 0 }) (fun _ => ⟨rfl, rfl⟩) ht) hu

/-! ### The rows -/

section
variable {s : State} (hr : Runs s)
include hr

theorem stallBudgetExpiry_gives_cmd {q i : Nat} {c : Cmd} (hc : s.blk.cmd? q i = some c) :
    Gives (.stallBudgetExpiry (.cmd q i)) s
      (if s.blk.cmdBudgetRuns c = true ∧ s.blk.budgetUs c.ctx c.stallUs ≤ c.budget / Config.cyclesUs then s.blk.stallCmd c
        else s.blk) := by
  show execStallBudgetExpiry (.cmd q i) s = _
  unfold execStallBudgetExpiry
  rw [core_runs hr]
  simp only [hc]

theorem stallBudgetExpiry_gives_task {c k : Nat} {t : Task} (ht : s.blk.task? c k = some t) :
    Gives (.stallBudgetExpiry (.task c k)) s
      (if s.blk.taskBudgetRuns t = true ∧ t.stallUs ≤ t.budget / Config.cyclesUs then s.blk.stallTask t else s.blk) := by
  show execStallBudgetExpiry (.task c k) s = _
  unfold execStallBudgetExpiry
  rw [core_runs hr]
  simp only [ht]

theorem stallAutoResume_gives_cmd {q i : Nat} {c : Cmd} (hc : s.blk.cmd? q i = some c) (hs : c.stalled = true) (hb : c.budget = 0)
    (he : c.onEngines = false) : Gives (.stallAutoResume (.cmd q i)) s (s.blk.resumeCmd c) := by
  show execStallAutoResume (.cmd q i) s = _
  unfold execStallAutoResume
  rw [core_runs hr]
  simp [hc, hs, hb, he]

theorem stallAutoResume_gives_task {c k : Nat} {t : Task} (ht : s.blk.task? c k = some t) (hs : t.stalled = true) (hb : t.budget = 0)
    (hitem : t.item = none) : Gives (.stallAutoResume (.task c k)) s (s.blk.resumeTask t) := by
  show execStallAutoResume (.task c k) s = _
  unfold execStallAutoResume
  rw [core_runs hr]
  simp [ht, hs, hb, Task.works, hitem]

end

/-- Settles O34: each row by whether the budget of its work has run out, and what the stall and its end leave of the work. That a
row whose budget has not run out changes nothing is log entries 2 and 3. -/
theorem stallRows : Obligations.StallRows := by
  unfold Obligations.StallRows
  intro s hr
  refine ⟨?_, ?_, ?_, ?_, ?_⟩
  · intro q i c hc hruns hout
    obtain ⟨rfl, rfl⟩ := cmd_place hc
    have hg := stallBudgetExpiry_gives_cmd hr hc
    rw [if_pos ⟨hruns, hout⟩] at hg
    exact ⟨hg, _, stallCmd_cmd hc, rfl, rfl⟩
  · intro q i c hc hleft
    have hg := stallBudgetExpiry_gives_cmd hr hc
    rwa [if_neg fun h => Nat.not_lt.2 h.2 hleft] at hg
  · intro c k t ht hruns hout
    obtain ⟨rfl, rfl⟩ := task_place ht
    have hg := stallBudgetExpiry_gives_task hr ht
    rw [if_pos ⟨hruns, hout⟩] at hg
    exact ⟨hg, _, stallTask_task ht, rfl, rfl⟩
  · intro q i c hc hs hb he
    obtain ⟨rfl, rfl⟩ := cmd_place hc
    have hengs : c.engs = [] := by
      simp only [Cmd.onEngines, Bool.or_eq_false_iff, Bool.not_eq_false', List.isEmpty_iff] at he
      exact he.1
    obtain ⟨d, hd⟩ := resumeCmd_some hc hengs
    exact ⟨stallAutoResume_gives_cmd hr hc hs hb he, _, hd, rfl, rfl, rfl⟩
  · intro c k t ht hs hb hitem hu
    obtain ⟨rfl, rfl⟩ := task_place ht
    exact ⟨stallAutoResume_gives_task hr ht hs hb hitem, _, resumeTask_task ht hitem hu, rfl, rfl⟩

end Sys2Proof.Proofs
end

section
/-!
SUPPORT. DB_COUNT (R90, R94), and the signals that leave by the fabric and arrive from it (R96, R117, R253).
-/
namespace Sys2Proof.Proofs

open Sys2Proof Sys2Proof.Machine Sys2Proof.Safety Sys2Proof.Laws

/-! ### DB_COUNT -/

/-- A DB_COUNT whose ring position lies within the ring beyond COMPLETED_INDEX and beyond DOORBELL (R90). -/
structure InRing (x : HwQueue) (n : Nat) : Prop where
  completed : (n % (2 * x.slots) + 2 * x.slots - x.completed) % (2 * x.slots) ≤ x.slots
  doorbell : (n % (2 * x.slots) + 2 * x.slots - x.doorbell) % (2 * x.slots) ≤ x.slots

theorem dbSet_sets {b : Block} {q n : Nat} (ht : (b.queue q).takesDb = true) (hn : n < 2 ^ 64) (h : InRing (b.queue q) n) :
    b.dbSet q n = b.setQueue q { b.queue q with dbCount := n } := by
  obtain ⟨hc, hd⟩ := h
  unfold Block.dbSet
  simp only [ht, Nat.mod_eq_of_lt hn, Bool.not_true, Bool.false_eq_true, if_false]
  rw [if_neg (by omega)]

theorem dbSet_rejects {b : Block} {q n : Nat} (ht : (b.queue q).takesDb = true) (hn : n < 2 ^ 64) (h : ¬InRing (b.queue q) n) :
    b.dbSet q n = b.dbReject q := by
  unfold Block.dbSet
  simp only [ht, Nat.mod_eq_of_lt hn, Bool.not_true, Bool.false_eq_true, if_false]
  refine if_pos ?_
  by_contra hin
  exact h ⟨by omega, by omega⟩

/-- DB_COUNT is set in its own queue alone. -/
theorem setDb_queue (b : Block) (q n : Nat) : ((b.setQueue q { b.queue q with dbCount := n }).queue q).dbCount = n
    ∧ ∀ k, k ≠ q → (b.setQueue q { b.queue q with dbCount := n }).queue k = b.queue k := by
  refine ⟨?_, fun k hk => Block.setQueue_other _ _ _ _ (Ne.symm hk)⟩
  rw [Block.setQueue_self]

/-! ### SIGNAL_REMOTE -/

/-- The block once a signal to another chip has left (R117, R516). -/
def sentOut (b : Block) (x : FabricSig) : Block := { b.count32 Reg.FP_SENT with fabricOut := b.fabricOut ++ [x] }

theorem sendRemote_leaves {b : Block} {qd : Bool} {v chip dest : Nat} (h : chip ≠ b.chipId) :
    b.sendRemote qd v chip dest = sentOut b { chip := chip, qdoor := qd, dest := dest, value := v } := if_neg h

theorem sendRemote_wick {b : Block} {v chip dest : Nat} (h : chip = b.chipId) :
    b.sendRemote false v chip dest = (b.count32 Reg.FP_SENT).recvWick dest v := if_pos h

theorem sendRemote_door {b : Block} {v chip dest : Nat} (h : chip = b.chipId) :
    b.sendRemote true v chip dest = (b.count32 Reg.FP_SENT).recvDoor (dest % 4096) v := if_pos h

theorem signalRemote_gives {s : State} {q i : Nat} {c : Cmd} {qd : Bool} {v chip dest : Nat} (hr : Runs s) (hd : Decided s q i 0x32 c)
    (hop : c.op = .signalRemote qd v chip dest) : Gives (.signalRemote q i) s ((s.blk.sendRemote qd v chip dest).endCmd q i 0) := by
  refine gives_of_decided rfl hr hd ?_
  simp only [hop]

/-- The end of a command sends nothing by the fabric. -/
theorem endCmd_fabricOut (b : Block) (q i st : Nat) : (b.endCmd q i st).fabricOut = b.fabricOut :=
  Eq.symm (endCmd_frame b q i st .sent (by decide))

/-! ### Remote wick signals -/

theorem remoteWickSignal_gives {s : State} (token v : BitVec 64) (hr : Runs s) :
    Gives (.remoteWickSignal token v) s (s.blk.recvWick token.toNat v.toNat) := by
  show execRemoteWickSignal token v s = _
  unfold execRemoteWickSignal
  exact core_runs hr

/-- A token of this incarnation that names a slot (R253). -/
theorem recvWick_names {b b' : Block} {token v k : Nat} (hb : b' = b.count32 Reg.FP_RECV)
    (hinc : token / 2 ^ 32 = b'.reg Reg.WK_INCARNATION) (hk : b'.tokenSlot? (token % 2 ^ 32) = some k) :
    b.recvWick token v = (b'.sigSlot k true v).settleWicks b' [k] := by
  unfold Block.recvWick
  simp only [← hb, hinc, decide_true, if_true, hk]

/-- A token that names no slot (R253). -/
theorem recvWick_drops {b b' : Block} {token v : Nat} (hb : b' = b.count32 Reg.FP_RECV)
    (h : token / 2 ^ 32 ≠ b'.reg Reg.WK_INCARNATION ∨ b'.tokenSlot? (token % 2 ^ 32) = none) :
    b.recvWick token v = b'.fabricDrop 1 (token % 2 ^ 32 % 2 ^ 17) := by
  have hnone : (if decide (token / 2 ^ 32 = b'.reg Reg.WK_INCARNATION) = true then b'.tokenSlot? (token % 2 ^ 32) else none) = none := by
    split
    case isTrue hinc => exact h.resolve_left fun hne => hne (of_decide_eq_true hinc)
    case isFalse => rfl
  unfold Block.recvWick
  simp only [← hb, hnone]

/-- A SETMAX that reaches its slot at once (R231). -/
theorem sigSlot_settled_value {b : Block} {k v : Nat} (hs : (b.slot k).snuffed = false) (hp : b.paced k true v = none) :
    (((b.sigSlot k true v).settleWicks b [k]).slot k).value = max (b.slot k).value v :=
  signalOne_value (m := true) (win := false) hs hp

/-- What a dropped signal of the fabric leaves: its counters and the ledger's terms (R516). -/
theorem fabricDrop_frame (b : Block) (cause target : Nat) : agreeBut [.regs, .ledger] b (b.fabricDrop cause target) :=
  agree_of_keeps (Block.fabricDrop_keeps (sub_refl _) (Keeps.refl _ _)) (by decide)

theorem fabricDrop_ledger (b : Block) (cause target : Nat) :
    (b.fabricDrop cause target).ledger = { b.ledger with issued := b.ledger.issued + 1, remote := b.ledger.remote + 1 } := rfl

/-! ### Remote doorbell signals -/

theorem remoteDoorbellSignal_gives {s : State} {q : Nat} (v : BitVec 64) (hr : Runs s) :
    Gives (.remoteDoorbellSignal q v) s (s.blk.recvDoor q v.toNat) := by
  show execRemoteDoorbellSignal q v s = _
  unfold execRemoteDoorbellSignal
  exact core_runs hr

/-- The block once a remote doorbell of an ACTIVE service queue is counted (R96, R516). -/
def doorCounted (b : Block) : Block :=
  (b.count32 Reg.FP_RECV).ledgerTerm fun l => { l with issued := l.issued + 1, applied := l.applied + 1 }

theorem doorCounted_queues (b : Block) : Part.same .queues b (doorCounted b) := ⟨rfl, rfl⟩

theorem recvDoor_service {b : Block} {q v : Nat} (hst : (b.queue q).st = .active) (hsvc : (b.queue q).svc = true) :
    b.recvDoor q v = if (b.queue q).dbCount < v then (doorCounted b).dbSet q v else doorCounted b := if_pos ⟨hst, hsvc⟩

theorem recvDoor_drops {b : Block} {q v : Nat} (h : (b.queue q).svc = false ∨ (b.queue q).st ≠ .active) :
    b.recvDoor q v = (b.count32 Reg.FP_RECV).fabricDrop 2 q :=
  if_neg fun ⟨hst, hsvc⟩ => h.elim (fun hno => Bool.false_ne_true (hno.symm.trans hsvc)) fun hne => hne hst

theorem takesDb_active {x : HwQueue} (h : x.st = .active) : x.takesDb = true := by simp [HwQueue.takesDb, h]

/-- Settles O24: SIGNAL_REMOTE by the chip that it names, a wick signal by its token and a doorbell by its queue. What a chip that names
itself counts is both FP_SENT and FP_RECV (log entry 63). -/
theorem remoteRows : Obligations.RemoteRows := by
  unfold Obligations.RemoteRows
  intro s hr
  refine ⟨?_, ?_, ?_, ?_, ?_, ?_, ?_, ?_⟩
  · intro q i c qd v chip dest hd hop hchip
    have hg := signalRemote_gives hr hd hop
    rw [sendRemote_leaves hchip] at hg
    exact ⟨_, hg, endCmd_fabricOut .., decided_ended hd ⟨rfl, rfl⟩, rfl⟩
  · intro q i c v chip dest hd hop hchip
    have hg := signalRemote_gives hr hd hop
    rwa [sendRemote_wick hchip] at hg
  · intro q i c v chip dest hd hop hchip
    have hg := signalRemote_gives hr hd hop
    rwa [sendRemote_door hchip] at hg
  · intro token v b k hb hinc hk
    have hg := remoteWickSignal_gives token v hr
    rw [recvWick_names hb hinc hk] at hg
    refine ⟨hg, fun hs hp => ?_⟩
    rw [sigSlot_settled_value hs hp, hb, slot_of (count32_wicks ..)]
  · intro token v b hb h
    have hg := remoteWickSignal_gives token v hr
    rw [recvWick_drops hb h] at hg
    have ⟨hslots, _⟩ := same_trans (count32_wicks s.blk Reg.FP_RECV)
      (hb ▸ fabricDrop_frame b 1 (token.toNat % 2 ^ 32 % 2 ^ 17) .wicks (by decide))
    subst hb
    exact ⟨hg, hslots.symm, fabricDrop_ledger ..⟩
  · intro q v hst hsvc hlt hc hd
    have hg := remoteDoorbellSignal_gives (q := q) v hr
    have hset := dbSet_sets (b := doorCounted s.blk) (q := q) (takesDb_active hst) v.isLt ⟨hc, hd⟩
    rw [recvDoor_service hst hsvc, if_pos hlt, hset] at hg
    obtain ⟨hself, hother⟩ := setDb_queue (doorCounted s.blk) q v.toNat
    exact ⟨_, hg, hself, fun k hk => (hother k hk).trans (queue_of (doorCounted_queues s.blk))⟩
  · intro q v hst hsvc hle
    have hg := remoteDoorbellSignal_gives (q := q) v hr
    rw [recvDoor_service hst hsvc, if_neg (Nat.not_lt.2 hle)] at hg
    exact ⟨hg, rfl⟩
  · intro q v h
    have hg := remoteDoorbellSignal_gives (q := q) v hr
    rw [recvDoor_drops h] at hg
    have ⟨hqueues, _⟩ := same_trans (count32_queues s.blk Reg.FP_RECV) (fabricDrop_frame _ 2 q .queues (by decide))
    exact ⟨hg, hqueues.symm⟩

end Sys2Proof.Proofs
end

section
/-!
SUPPORT. The Queue Front End: doorbell writes (R90), ring reads (R97, R98) and the records of indirect launches (R133).
-/
namespace Sys2Proof.Proofs

open Sys2Proof Sys2Proof.Machine Sys2Proof.Safety Sys2Proof.Laws

/-! ### Doorbell writes -/

theorem doorbellWrite_gives {s : State} {path : Nat} (ctx qidx : Nat) (v : BitVec 32) (hpath : path = 1 ∨ path = 2)
    (hup : s.blk.pathUp path = true) (hr : Runs s) (hst : s.blk.st = .ready ∨ s.blk.st = .run ∨ s.blk.st = .fault) :
    Gives (.doorbellWrite path ctx qidx v) s (s.blk.doorbell ctx qidx v.toNat) := by
  have hheld : s.blk.pins.coreHeld = false := Runs.linked hr
  have hstop : s.blk.stop.stopped = false := by
    unfold Runs Block.frozen at hr
    simp only [Bool.or_eq_false_iff] at hr
    exact hr.1
  have hside : path ≠ 3 := by omega
  have hloaded : ¬(s.blk.st = .off ∨ s.blk.st = .load ∨ s.blk.st = .power) := by rcases hst with h | h | h <;> simp [h]
  unfold Gives
  show execDoorbellWrite path ctx qidx v s = _
  unfold execDoorbellWrite State.aon
  simp only [hup, hheld, hstop, hside, hloaded, Bool.not_true, Bool.false_eq_true, or_self, if_false]

/-- DB_COUNT as a doorbell value `v` advances it (R90). -/
def rung (x : HwQueue) (v : Nat) : Nat := x.dbCount + (v + 2 * x.slots - x.doorbell) % (2 * x.slots)

theorem doorbell_takes {b : Block} {ctx qidx q v : Nat} (hq : b.queueOf? ctx qidx = some q) (ht : (b.queue q).takesDb = true) :
    b.doorbell ctx qidx v = if 2 * (b.queue q).slots ≤ v % 2 ^ 21 then b.dbReject q
      else b.dbSet q (rung (b.queue q) (v % 2 ^ 21)) := by
  unfold Block.doorbell
  simp only [hq, ht, Bool.not_true, Bool.false_eq_true, if_false]
  rfl

/-- The ring position of an advanced DB_COUNT is the value that was written. -/
theorem rung_mod {x : HwQueue} {v : Nat} (h : v < 2 * x.slots) : rung x v % (2 * x.slots) = v := by
  have hdb : x.doorbell < 2 * x.slots := Nat.mod_lt _ (by omega)
  have hcount : x.doorbell + 2 * x.slots * (x.dbCount / (2 * x.slots)) = x.dbCount := Nat.mod_add_div _ _
  have hsum : x.doorbell + (v + 2 * x.slots - x.doorbell) = v + 2 * x.slots := by omega
  calc rung x v % (2 * x.slots) = (x.dbCount % (2 * x.slots) + (v + 2 * x.slots - x.doorbell)) % (2 * x.slots) := by
        unfold rung
        rw [Nat.add_mod_mod, Nat.mod_add_mod]
    _ = (v + 2 * x.slots) % (2 * x.slots) := congrArg (· % _) hsum
    _ = v := by rw [Nat.add_mod_right, Nat.mod_eq_of_lt h]

theorem rung_lt {x : HwQueue} {v : Nat} (h : v < 2 * x.slots) (hroom : x.dbCount + 2 * x.slots < 2 ^ 64) : rung x v < 2 ^ 64 := by
  have := Nat.mod_lt (v + 2 * x.slots - x.doorbell) (show 0 < 2 * x.slots by omega)
  unfold rung
  omega

/-- R90's tests of an advanced DB_COUNT are tests of the value that was written. -/
theorem inRing_rung {x : HwQueue} {v : Nat} (h : v < 2 * x.slots) : InRing x (rung x v)
    ↔ (v + 2 * x.slots - x.completed) % (2 * x.slots) ≤ x.slots ∧ (v + 2 * x.slots - x.doorbell) % (2 * x.slots) ≤ x.slots := by
  refine ⟨fun ⟨hc, hd⟩ => ?_, fun ⟨hc, hd⟩ => ?_⟩
  · rw [rung_mod h] at hc hd
    exact ⟨hc, hd⟩
  · rw [← rung_mod h] at hc
    exact ⟨hc, by rwa [rung_mod h]⟩

theorem dbReject_queue (b : Block) (q : Nat) :
    (b.dbReject q).queue q = { b.queue q with dbRej := satAdd 16 (b.queue q).dbRej 1 } := by
  unfold Block.dbReject
  extract_lets x b₁ b₂
  have hset : b₂.queue q = { x with dbRej := satAdd 16 x.dbRej 1 } := (queue_of (count32_queues ..)).trans (Block.setQueue_self ..)
  split
  · exact (queue_of (event_frame b₂ pgQfe 11 x.ctx (x.qidx * 2 ^ 21) .queues (by decide))).trans hset
  · exact hset

/-! ### Ring reads -/

/-- A queue that neither halts nor marks commands has nothing to settle (R53). -/
theorem settleHalt_idle {b : Block} {q : Nat} (hm : (b.queue q).marks = []) (hh : (b.queue q).halting = none) : b.settleHalt q = b := by
  unfold Block.settleHalt
  simp only [hm, List.length_nil, Block.markN, hh]

theorem ringRead_ok {b : Block} {q va n : Nat} {bs : List Byte} (h : b.readVa (b.queue q).ctx va n = .ok bs) :
    b.ringRead q va n = .inl bs := by
  unfold Block.ringRead
  rw [h]

/-- The address of the next command of a queue. -/
def nextVa (x : HwQueue) : Nat := x.ringBase + x.fetched % x.slots * 64

/-- The next command of a queue, of the words `w`, as QFE fetches it. -/
def fetchedCmd (b : Block) (q : Nat) (w : List Nat) : Cmd :=
  { cmdOf q (b.queue q).fetched w with ctx := (b.queue q).ctx, qidx := (b.queue q).qidx, valTime := b.ns }

/-- A command that is all that is published is read whole and validated (R97). -/
theorem fetchOne_whole {b : Block} {q : Nat} {hd bs : List Byte} (hhd : b.readVa (b.queue q).ctx (nextVa (b.queue q)) 64 = .ok hd)
    (hn : (b.queue q).unfetched = slotsAt (b.queue q).fetched (ofLeBytes (hd.take 8)))
    (hbs : b.readVa (b.queue q).ctx (nextVa (b.queue q)) (64 * (b.queue q).unfetched) = .ok bs) (hup : b.down = false) :
    b.fetchOne q = b.takeNew q (b.queue q).unfetched (fetchedCmd b q (words64 bs)) (words64 bs) := by
  rw [hn] at hbs
  have hhd' := ringRead_ok hhd
  have hbs' := ringRead_ok hbs
  unfold nextVa at hhd' hbs'
  unfold Block.fetchOne
  simp only [hhd', ← hn, Nat.lt_irrefl, if_false, hup, Bool.false_eq_true]
  rw [hn, hbs']
  rfl

/-- The block once QFE has taken in a command of `n` slots by its plan (R63, R97). -/
def accepted (b : Block) (q n : Nat) (c : Cmd) (p : Plan) : Block := (({ b with descHold := 0 }.takeIn c p).passFetch q n).fixDeadlines

theorem takeNew_accepts {b : Block} {q n : Nat} {c : Cmd} {w : List Nat} {p : Plan} (hctx : (b.ctx c.ctx).st ≠ .lost)
    (hv : b.validate c w = .ok p) (hw : b.sharedUsed + (b.unmet c).length ≤ Config.numSharedWaiters)
    (hd : b.descsHeld + p.descs.length ≤ Config.descCacheEntries) : b.takeNew q n c w = (true, accepted b q n c p) := by
  unfold Block.takeNew
  rw [if_neg hctx, hv]
  dsimp only
  rw [if_neg (Nat.not_lt.2 hw), if_neg (Nat.not_lt.2 hd)]
  rfl

/-- A command without a snuffed wait stands last among the commands once it is taken in (R107, R242), and no queue has changed. -/
theorem takeIn_cmds {b : Block} {c : Cmd} {p : Plan} (hs : b.waitsSnuffed c = false) :
    (b.takeIn c p).cmds = b.cmds ++ [{ c with pins := b.pinsOf p.ranges, version := p.version, descs := p.descs }]
      ∧ (b.takeIn c p).queues = b.queues := by
  have hs' : Block.waitsSnuffed (({ b with cmds := b.cmds ++
      [{ c with pins := b.pinsOf p.ranges, version := p.version, descs := p.descs }] } : Block).addPins (b.pinsOf p.ranges))
      { c with pins := b.pinsOf p.ranges, version := p.version, descs := p.descs } = false := hs
  unfold Block.takeIn
  extract_lets pins c' b'
  rw [if_neg (Bool.eq_false_iff.1 hs')]
  exact ⟨rfl, rfl⟩

/-- A command put last is found at its place, where none was. -/
theorem cmd_last {a b : Block} {c : Cmd} {q i : Nat} (h : b.cmds = a.cmds ++ [c]) (hq : c.q = q) (hi : c.i = i) (hn : a.cmd? q i = none) :
    b.cmd? q i = some c := by
  unfold Block.cmd? at hn ⊢
  rw [h, List.find?_append, hn]
  simp [hq, hi]

theorem accepted_queue {b : Block} {q n : Nat} {c : Cmd} {p : Plan} (hs : b.waitsSnuffed c = false) : (accepted b q n c p).queue q
    = { b.queue q with fetched := ((b.queue q).fetched + n) % (2 * (b.queue q).slots), taken := (b.queue q).taken + n } := by
  have hqueue : (Block.takeIn { b with descHold := 0 } c p).queue q = b.queue q := by
    unfold Block.queue
    rw [(takeIn_cmds (b := { b with descHold := 0 }) hs).2]
  unfold accepted Block.passFetch
  rw [fixDeadlines_queue]
  dsimp only
  rw [Block.setQueue_self, hqueue]

theorem accepted_ready {b : Block} {q n i : Nat} {c : Cmd} {p : Plan} (hs : b.waitsSnuffed c = false) (hq : c.q = q) (hi : c.i = i)
    (hph : c.phase = .ready) (hn : b.cmd? q i = none) : InPhase q i .ready (accepted b q n c p) := by
  obtain ⟨hcmds, -⟩ := takeIn_cmds (b := { b with descHold := 0 }) (p := p) hs
  exact fixDeadlines_phase (cmd_last (a := b) hcmds hq hi hn) hph

/-- Once FETCHED has passed all that is published, nothing is left to fetch. -/
theorem unfetched_passed {x : HwQueue} {f t : Nat} (hf : x.fetched < 2 * x.slots) (h : f = (x.fetched + x.unfetched) % (2 * x.slots)) :
    ({ x with fetched := f, taken := t } : HwQueue).unfetched = 0 := by
  have hdb : x.doorbell < 2 * x.slots := Nat.mod_lt _ (by omega)
  have hsum : x.fetched + (x.doorbell + 2 * x.slots - x.fetched) = x.doorbell + 2 * x.slots := by omega
  have hpos : f = x.doorbell := by
    rw [h, HwQueue.unfetched, Nat.add_mod_mod, hsum, Nat.add_mod_right, Nat.mod_eq_of_lt hdb]
  show (x.doorbell + 2 * x.slots - f) % (2 * x.slots) = 0
  rw [hpos, Nat.add_sub_cancel_left, Nat.mod_self]

theorem mayFetch_nothing {b : Block} {q : Nat} (h : (b.queue q).unfetched = 0) : b.mayFetch q = false := by
  simp [Block.mayFetch, h]

/-- A block of the ring whose first command is the last to fetch (R97). -/
theorem fetchBlockN_last {b b' : Block} {q n : Nat} (hm : b.mayFetch q = true) (h : b.fetchOne q = (true, b'))
    (hend : b'.mayFetch q = false) :
    Block.fetchBlockN q ((b.queue q).fetched / 4) (n + 2) b = b' := by
  unfold Block.fetchBlockN
  rw [if_pos ⟨hm, rfl⟩, h]
  dsimp only
  rw [if_pos rfl]
  unfold Block.fetchBlockN
  rw [if_neg fun h => Bool.eq_false_iff.1 hend h.1]

theorem ringReadCompletion_gives {s : State} {q : Nat} {b : Block} (hr : Runs s) (hmay : s.blk.mayFetch q = true)
    (hm : (s.blk.queue q).marks = []) (hh : (s.blk.queue q).halting = none)
    (hb : b = s.blk.touch (s.blk.queue q).ctx (nextVa (s.blk.queue q)) (some (.queue q))) :
    Gives (.ringReadCompletion q) s (Block.fetchBlockN q ((s.blk.queue q).fetched / 4) 4 b) := by
  show execRingReadCompletion q s = _
  unfold execRingReadCompletion
  rw [core_runs hr]
  simp only [settleHalt_idle hm hh, hmay, if_true]
  rw [hb]
  rfl

/-! ### Indirect records -/

section
variable {s : State} {q i a : Nat} {c : Cmd} {bs : List Byte} (hr : Runs s) (hc : s.blk.cmd? q i = some c) (hop : c.op = .launchInd a)
  (hph : c.phase = .ready)
include hr hc hop hph

theorem indirectRecordRead_gives (hind : c.ind = none) (hrec : c.record = []) (hclear : s.blk.clear c = true) (hrest : AtRest s.blk)
    (hbs : s.blk.readVa c.ctx a 24 = .ok bs) : Gives (.indirectRecordRead q i) s
      ((s.blk.modCmd q i fun c => { c with record := words64 bs }).acceptRecord c (words64 bs)) := by
  obtain ⟨hup, -⟩ := id hrest
  show execIndirectRecordRead q i s = _
  unfold execIndirectRecordRead
  rw [core_runs hr]
  simp only [hc, hop, hph, hind, hrec, hclear, hup, Option.isNone_none, Bool.not_false, and_self, if_true, List.isEmpty_nil,
    Bool.not_true, Bool.false_eq_true, if_false, hbs, viaHome_rest hrest]

end

/-- A launch that takes what its record names, by the plan for it (R133, R135). -/
def recordTaken (b : Block) (c : Cmd) (l : LaunchP) (p : Plan) : Block :=
  let more := (b.pinsOf p.ranges).filter fun m => !c.pins.contains m
  (({ b with descHold := 0 }.addPins more).modCmd c.q c.i fun c => { c with
    ind := some l, pins := c.pins ++ more, version := p.version, descs := p.descs }).fixDeadlines

theorem acceptRecord_takes {b : Block} {c : Cmd} {w : List Nat} {p : Plan} (hok : indirectOk w = true) (hargs : (indirectOf w).argsOk = true)
    (hp : b.launchPlan c.ctx (indirectOf w) [] = .ok p) (h89 : b.steps89 p = .ok ())
    (hroom : b.descsHeld + p.descs.length ≤ Config.descCacheEntries) : b.acceptRecord c w = recordTaken b c (indirectOf w) p := by
  unfold Block.acceptRecord
  simp only [hok, hargs, need, if_true, MRes.bind, hp, h89]
  rw [if_neg (Nat.not_lt.2 hroom)]
  rfl

theorem recordTaken_cmd {b : Block} {c d : Cmd} {l : LaunchP} {p : Plan} (hd : b.cmd? c.q c.i = some d) :
    ∃ c', (recordTaken b c l p).cmd? c.q c.i = some c' ∧ c'.ind = some l ∧ c'.version = p.version ∧ c'.descs = p.descs
      ∧ c'.phase = d.phase := by
  unfold recordTaken
  extract_lets more
  have hd' : (({ b with descHold := 0 } : Block).addPins more).cmd? c.q c.i = some d := hd
  obtain ⟨x, hx⟩ := fixDeadlines_some (modCmd_self (f := fun c => { c with
    ind := some l, pins := c.pins ++ more, version := p.version, descs := p.descs }) (fun _ => ⟨rfl, rfl⟩) hd')
  exact ⟨_, hx, rfl, rfl, rfl, rfl⟩

/-- Settles O14: a doorbell value by where it lies in its ring, a ring read whose command is all that is published, and the record of an
indirect launch. Which queues take doorbells is R92; DB_COUNT advances by R91, and what it does past 2^64 is log entry 31. -/
theorem doorbellAndFetch : Obligations.DoorbellAndFetch := by
  unfold Obligations.DoorbellAndFetch
  intro s
  refine ⟨?_, ?_, ?_⟩
  · rintro path ctx qidx q m v hpath hup hr hst hq ht rfl
    have hg := doorbellWrite_gives ctx qidx v hpath hup hr hst
    rw [doorbell_takes hq ht] at hg
    refine ⟨fun hv => ?_, fun hv hroom hc hd => ?_, fun hv hroom hout => ?_, fun hv => ?_⟩
    · rwa [if_neg (Nat.not_le.2 hv)] at hg
    · rw [if_neg (Nat.not_le.2 hv), dbSet_sets ht (rung_lt hv hroom) ((inRing_rung hv).2 ⟨hc, hd⟩)] at hg
      obtain ⟨hself, hother⟩ := setDb_queue s.blk q (rung (s.blk.queue q) (v.toNat % 2 ^ 21))
      refine ⟨_, hg, ?_, hself, hother⟩
      rw [Block.setQueue_self]
      exact rung_mod hv
    · rw [if_neg (Nat.not_le.2 hv), dbSet_rejects ht (rung_lt hv hroom) fun h => ?_] at hg
      · exact ⟨hg, dbReject_queue s.blk q⟩
      · obtain ⟨hc, hd⟩ := (inRing_rung hv).1 h
        omega
    · rw [if_pos hv] at hg
      exact ⟨hg, dbReject_queue s.blk q⟩
  · rintro q x b hd bs c p hr rfl hmay hm hh hnone hf hb hup hmay' hhd hn hbs hc hctx hv hsnuffed hw hdesc
    have hsame : Part.same .queues s.blk b := hb ▸ touch_queues ..
    have hg := ringReadCompletion_gives hr hmay hm hh hb
    rw [← queue_of hsame] at hg hf hhd hn hbs hc hctx hnone ⊢
    rw [← cmd_of hsame] at hnone
    have hone := fetchOne_whole hhd hn hbs hup
    have hfetched : fetchedCmd b q (words64 bs) = c := hc.symm
    have hopen : (b.ctx c.ctx).st ≠ .lost := by rwa [hc]
    rw [hfetched, takeNew_accepts hopen hv hw hdesc] at hone
    have hqueue := accepted_queue (q := q) (n := (b.queue q).unfetched) (p := p) hsnuffed
    have hend : (accepted b q (b.queue q).unfetched c p).mayFetch q = false :=
      mayFetch_nothing (by rw [hqueue]; exact unfetched_passed hf rfl)
    rw [fetchBlockN_last hmay' hone hend] at hg
    exact ⟨_, hg, by rw [hqueue], accepted_ready hsnuffed (by rw [hc]; rfl) (by rw [hc]; rfl) (by rw [hc]; rfl) hnone⟩
  · intro q i c a bs hr hc hop hph hind hrec hclear hrest hbs
    have hg := indirectRecordRead_gives hr hc hop hph hind hrec hclear hrest hbs
    refine ⟨hg, ?_⟩
    rintro b l p rfl rfl hok hargs hp h89 hroom
    rw [acceptRecord_takes hok hargs hp h89 hroom] at hg
    obtain ⟨rfl, rfl⟩ := cmd_place hc
    have hrecord := modCmd_self (f := fun c => { c with record := words64 bs }) (fun _ => ⟨rfl, rfl⟩) hc
    obtain ⟨c', hc', hl, hver, hdescs, hph'⟩ := recordTaken_cmd (l := indirectOf (words64 bs)) (p := p) hrecord
    exact ⟨_, c', hg, hc', hl, hver, hdescs, hph'.trans hph⟩

end Sys2Proof.Proofs
end

section
/-!
SUPPORT. Launches at their harness (R113, R169, R171) and STOP_PERSIST (R114, R182).
-/
namespace Sys2Proof.Proofs

open Sys2Proof Sys2Proof.Machine Sys2Proof.Safety Sys2Proof.Laws

/-! ### A launch alone in its wait list -/

/-- The three launches, by opcode. -/
theorem launch_gives {s : State} {q i opc : Nat} {r : Instr} {c : Cmd} (hr : Runs s)
    (hrow : (opc, r) ∈ [(0x10, Instr.launch q i), (0x11, .launchInd q i), (0x12, .launchPersist q i)]) (hd : Decided s q i opc c) :
    Gives r s (s.blk.toHal c) := by
  have hwork : (if c.phase = .running then s.blk else s.blk.toHal c) = s.blk.toHal c := if_neg (by simp [decided_phase hd])
  simp only [List.mem_cons, Prod.mk.injEq, List.not_mem_nil, or_false] at hrow
  obtain ⟨rfl, rfl⟩ | ⟨rfl, rfl⟩ | ⟨rfl, rfl⟩ := hrow
  · exact gives_of_decided rfl hr hd hwork
  · exact gives_of_decided rfl hr hd hwork
  · exact gives_of_decided rfl hr hd hwork

/-- A launch that finds its harness free to place it: ACTIVE, with no step held (R33), no launch waiting and none being placed. -/
structure Alone (b : Block) (h : Nat) (c : Cmd) : Prop where
  held : b.cmd? c.q c.i = some c
  bound : (b.queue c.q).harness = some h
  active : (b.harness h).st = .active
  steps : b.boundaryHeld h = false
  waiting : (b.harness h).waiting = []
  placing : b.cmds.any (fun x => x.phase = .placing) = false
  engs : c.engs = []
  phase : c.phase = .decided

/-- A launch in the wait list. -/
def inPlacing (c : Cmd) : Cmd := { c with phase := .placing }

/-- A fold whose steps all leave its block as it is. -/
theorem foldl_stays {α : Type} {f : Block → α → Block} {b : Block} : ∀ {l : List α}, (∀ x ∈ l, f b x = b) → l.foldl f b = b
  | [], _ => rfl
  | x :: l, hf => by
    rw [List.foldl_cons, hf x List.mem_cons_self]
    exact foldl_stays fun y hy => hf y (List.mem_cons_of_mem _ hy)

theorem placeOne_bare {b : Block} {c : Cmd} (h : c.engs = []) : b.placeOne c = b := if_pos (.inl (by rw [h]; rfl))

section
variable {b : Block} {h : Nat} {c : Cmd} (ha : Alone b h c)
include ha

theorem Alone.entered : b.enterPlacing c
    = (b.setHarness h { b.harness h with waiting := [(c.q, c.i)] }).modCmd c.q c.i inPlacing := by
  unfold Block.enterPlacing
  simp only [ha.bound, ha.waiting, insertBy]
  rfl

theorem Alone.entered_cmd : (b.enterPlacing c).cmd? c.q c.i = some (inPlacing c) := by
  rw [ha.entered]
  exact modCmd_self (fun _ => ⟨rfl, rfl⟩) ha.held

theorem Alone.entered_harness : (b.enterPlacing c).harness h = { b.harness h with waiting := [(c.q, c.i)] } := by
  rw [ha.entered]
  exact Block.setHarness_self b h _

/-- Every command in placement stands at the place of the launch. -/
theorem Alone.entered_placing {x : Cmd} (hx : x ∈ (b.enterPlacing c).cmds) (hp : x.phase = .placing) : x.q = c.q ∧ x.i = c.i := by
  rw [ha.entered] at hx
  obtain ⟨y, hy, rfl⟩ := List.mem_map.1 hx
  have hnone : y.phase ≠ .placing := by simpa using List.any_eq_false.1 ha.placing y hy
  by_cases hplace : y.q = c.q ∧ y.i = c.i
  · rwa [if_pos (decide_eq_true hplace)]
  · rw [if_neg (by simpa using hplace)] at hp
    exact absurd hp hnone

/-- The launch, alone in placement, holds no engines yet. -/
theorem Alone.placeHeld (k : Nat) : (b.enterPlacing c).placeHeld k = b.enterPlacing c := by
  refine foldl_stays fun x hx => ?_
  obtain ⟨hmem, hx⟩ := List.mem_filter.1 hx
  obtain ⟨hq, hi⟩ := ha.entered_placing hmem (of_decide_eq_true hx).1
  rw [hq, hi, ha.entered_cmd]
  exact placeOne_bare ha.engs

/-- A launch that is alone goes straight to placement from the head of its wait list (R169, R170). -/
theorem Alone.toHal : b.toHal c = Block.placeN h 2 (b.enterPlacing c) := by
  have hact : ((b.enterPlacing c).harness h).st = .active ∧ !(b.enterPlacing c).boundaryHeld h := by
    refine ⟨(congrArg Harness.st ha.entered_harness).trans ha.active, ?_⟩
    rw [ha.entered]
    exact congrArg (!·) ha.steps
  unfold Block.toHal
  simp only [ha.bound, ha.phase]
  unfold Block.placeAll
  rw [if_pos hact, ha.placeHeld]
  dsimp only
  rw [ha.entered_harness]
  rfl

end

/-! ### Placement from the head of a wait list -/

theorem placeN_empty {b : Block} {h : Nat} (n : Nat) (hw : (b.harness h).waiting = []) : Block.placeN h n b = b := by
  cases n with
  | zero => rfl
  | succ n =>
    unfold Block.placeN
    rw [hw]

section
variable {b : Block} {h n q i : Nat} {l : List (Nat × Nat)} {c : Cmd} (hw : (b.harness h).waiting = (q, i) :: l) (hc : b.cmd? q i = some c)
include hw hc

/-- A command at the head that placement ends (R113, R171). -/
theorem placeN_ends {st : Nat} (hst : b.placeStatus h c = some st) : Block.placeN h (n + 1) b = Block.placeN h n (b.endCmd q i st) := by
  conv_lhs => unfold Block.placeN
  simp only [hw, hc, hst]

/-- A command at the head that takes its engines (R169). -/
theorem placeN_places {es : List Nat} (hst : b.placeStatus h c = none) (hes : b.choose h c = some es) :
    Block.placeN h (n + 1) b = Block.placeN h n ((b.reserve c es).placeOne { c with engs := es }) := by
  obtain ⟨rfl, rfl⟩ := cmd_place hc
  have htaken : (b.reserve c es).cmd? c.q c.i = some { c with engs := es } := by
    refine modCmd_self (f := fun c => { c with engs := es }) (fun _ => ⟨rfl, rfl⟩) (Eq.trans ?_ hc)
    refine cmd_of (same_of_keeps (m := 49152) (p := .queues) (Block.dropPlacing_keeps rfl ?_) rfl)
    exact Keeps.foldl (fun _ _ hk => Block.setEng_keeps (F := 49152) rfl hk) es (Keeps.refl _ b)
  conv_lhs => unfold Block.placeN
  simp only [hw, hc, hst, hes, htaken]

end

/-- The value at a key of a table whose values are all mapped. -/
theorem get_map {α : Type} {d : Nat → α} {f : α → α} (hf : ∀ k, f (d k) = d k) (k : Nat) : ∀ m : Tab α,
    Tab.get d (m.map fun kv => (kv.1, f kv.2)) k = f (Tab.get d m k)
  | [] => (hf k).symm
  | e :: m => by
    rw [List.map_cons]
    unfold Tab.get
    split
    · rfl
    · exact get_map hf k m

theorem endCmd_waiting (b : Block) (q i st h : Nat) :
    ((b.endCmd q i st).harness h).waiting = (b.harness h).waiting.filter (· ≠ (q, i)) := by
  have hdrop : (b.endCmd q i st).harnesses = (b.dropPlacing q i).harnesses := rfl
  unfold Block.harness
  rw [hdrop]
  exact congrArg Harness.waiting (get_map (f := fun x : Harness => { x with waiting := x.waiting.filter (· ≠ (q, i)) }) (fun _ => rfl) h
    b.harnesses)

/-- A command alone in its wait list that placement ends. -/
theorem placeN_ends_alone {b : Block} {h n q i st : Nat} {c : Cmd} (hw : (b.harness h).waiting = [(q, i)]) (hc : b.cmd? q i = some c)
    (hst : b.placeStatus h c = some st) : Block.placeN h (n + 1) b = b.endCmd q i st := by
  rw [placeN_ends hw hc hst, placeN_empty]
  simp [endCmd_waiting, hw]

/-! ### What a launch asks for -/

/-- A harness with fewer engines than a launch asks for (R113). -/
def TooFew (x : Harness) (l : LaunchP) : Prop := x.cores.length < l.cores ∨ x.units.length < l.units

/-- A harness with fewer engines than a launch asks for that are not bound to tasks (R171). -/
def TooFewUnbound (b : Block) (x : Harness) (l : LaunchP) : Prop :=
  (x.cores.filter fun e => !b.isBound e).length < l.cores ∨ (x.units.filter fun e => !b.isBound e).length < l.units

section
variable {b : Block} {h : Nat} {c : Cmd} {l : LaunchP} (hl : c.launch? = some l)
include hl

theorem placeStatus_arg (hfew : TooFew (b.harness h) l) : b.placeStatus h c = some 0x12 := by
  unfold Block.placeStatus
  rw [hl]
  exact if_pos hfew

theorem placeStatus_busy (hmany : ¬TooFew (b.harness h) l) (hfew : TooFewUnbound b (b.harness h) l) : b.placeStatus h c = some 0x14 := by
  unfold Block.placeStatus
  rw [hl]
  exact (if_neg hmany).trans (if_pos hfew)

theorem placeStatus_none (hmany : ¬TooFew (b.harness h) l) (hfree : ¬TooFewUnbound b (b.harness h) l) : b.placeStatus h c = none := by
  unfold Block.placeStatus
  rw [hl]
  exact (if_neg hmany).trans (if_neg hfree)

theorem choose_lowest {cs us : List Nat} (hcs : cs = ((b.harness h).cores.filter b.canPlace).take l.cores)
    (hus : us = ((b.harness h).units.filter b.canPlace).take l.units) (hnc : cs.length = l.cores) (hnu : us.length = l.units) :
    b.choose h c = some (cs ++ us) := by
  unfold Block.choose
  rw [hl]
  dsimp only
  rw [← hcs, ← hus, if_pos ⟨hnc, hnu⟩]

end

/-- An engine that takes work is bound to no task. -/
theorem not_bound_of_canPlace {b : Block} {e : Nat} (h : b.canPlace e = true) : (!b.isBound e) = true := by
  have huse : (b.eng e).use = .free := by
    simp only [Block.canPlace, Bool.and_eq_true, decide_eq_true_eq] at h
    obtain ⟨⟨⟨⟨⟨huse, -⟩, -⟩, -⟩, -⟩, -⟩ := h
    exact huse
  simp [Block.isBound, huse]

/-- Engines enough that take work are engines enough that are bound to no task. -/
theorem unbound_of_taken {b : Block} {es : List Nat} {n : Nat} (h : ((es.filter b.canPlace).take n).length = n) :
    n ≤ (es.filter fun e => !b.isBound e).length := by
  have htake : n ≤ (es.filter b.canPlace).length := by
    rw [List.length_take] at h
    omega
  exact htake.trans (List.monotone_filter_right es fun e he => not_bound_of_canPlace he).length_le

/-- A launch that is alone takes its engines at once (R169). -/
theorem Alone.places {b e : Block} {h : Nat} {c : Cmd} {l : LaunchP} {cs us : List Nat} (ha : Alone b h c) (he : e = b.enterPlacing c)
    (hl : c.launch? = some l) (hcs : cs = ((b.harness h).cores.filter e.canPlace).take l.cores)
    (hus : us = ((b.harness h).units.filter e.canPlace).take l.units) (hnc : cs.length = l.cores) (hnu : us.length = l.units) :
    b.toHal c = Block.placeN h 1 ((e.reserve (inPlacing c) (cs ++ us)).placeOne { inPlacing c with engs := cs ++ us }) := by
  subst he
  have hh := ha.entered_harness
  have hcores : l.cores ≤ ((b.harness h).cores.filter fun k => !(b.enterPlacing c).isBound k).length := unbound_of_taken (hcs ▸ hnc)
  have hunits : l.units ≤ ((b.harness h).units.filter fun k => !(b.enterPlacing c).isBound k).length := unbound_of_taken (hus ▸ hnu)
  have hall : ∀ {es : List Nat} {p : Nat → Bool}, (es.filter p).length ≤ es.length := List.length_filter_le ..
  rw [ha.toHal, placeN_places (congrArg Harness.waiting hh) ha.entered_cmd (es := cs ++ us)]
  · refine placeStatus_none (l := l) hl ?_ ?_
    · rw [hh]
      rintro (hfew | hfew)
      · exact Nat.not_le.2 hfew (hcores.trans hall)
      · exact Nat.not_le.2 hfew (hunits.trans hall)
    · rw [hh]
      rintro (hfew | hfew)
      · exact Nat.not_le.2 hfew hcores
      · exact Nat.not_le.2 hfew hunits
  · exact choose_lowest hl (by rw [hh, hcs]) (by rw [hh, hus]) hnc hnu

/-- A launch that is alone and that placement ends. -/
theorem Alone.ends {b e : Block} {h st : Nat} {c : Cmd} (ha : Alone b h c) (he : e = b.enterPlacing c)
    (hst : e.placeStatus h (inPlacing c) = some st) :
    b.toHal c = e.endCmd c.q c.i st ∧ HasEnded c.q c.i st (e.endCmd c.q c.i st) := by
  subst he
  rw [ha.toHal, placeN_ends_alone (congrArg Harness.waiting ha.entered_harness) ha.entered_cmd hst]
  exact ⟨rfl, endCmd_ended ha.entered_cmd nofun⟩

/-! ### STOP_PERSIST -/

theorem stopPersist_gives_task {s : State} {q i id : Nat} {all : Bool} {c : Cmd} {t : Task} (hr : Runs s) (hd : Decided s q i 0x13 c)
    (hop : c.op = .stopPersist all id) (ht : s.blk.task? c.ctx id = some t) :
    Gives (.stopPersist q i) s (s.blk.stopTask c all t) := by
  refine gives_of_decided rfl hr hd ?_
  simp only [hop, decided_phase hd, reduceCtorEq, if_false, ht]

theorem stopPersist_gives_gone {s : State} {q i id : Nat} {all : Bool} {c : Cmd} (hr : Runs s) (hd : Decided s q i 0x13 c)
    (hop : c.op = .stopPersist all id) (ht : s.blk.task? c.ctx id = none) : Gives (.stopPersist q i) s (s.blk.endCmd q i 0x13) := by
  refine gives_of_decided rfl hr hd ?_
  simp only [hop, decided_phase hd, reduceCtorEq, if_false, ht]

theorem stopPersist_gives_underway {s : State} {q i id : Nat} {all : Bool} {c : Cmd} (hr : Runs s) (hu : Underway s q i 0x13 c)
    (hop : c.op = .stopPersist all id) : Gives (.stopPersist q i) s (s.blk.settleTask c.ctx id) := by
  refine gives_of_underway rfl hr hu ?_
  simp only [hop, underway_phase hu, if_true]

/-- A task that is to stop before its next item, for the STOP_PERSIST at (q, i). -/
def stopNow (q i : Nat) (t : Task) : Task := { t with stopAt := some t.next, stops := [(q, i)] }

/-- The block of a STOP_PERSIST of MODE 0 that stops a task first. -/
def stopSet (b : Block) (c : Cmd) (t : Task) : Block :=
  (b.setRunning c.q c.i).modTask t.ctx t.id fun x => { x with stopAt := some t.next, stops := x.stops ++ [(c.q, c.i)] }

theorem stopTask_first {b : Block} {c : Cmd} {t : Task} (hstop : t.stopAt = none) :
    b.stopTask c false t = (stopSet b c t).settleTask t.ctx t.id := by
  unfold Block.stopTask
  simp only [hstop, Bool.false_eq_true, if_false]
  rfl

theorem stopSet_task {b : Block} {c : Cmd} {t : Task} (ht : b.task? t.ctx t.id = some t) (hstops : t.stops = []) :
    (stopSet b c t).task? t.ctx t.id = some (stopNow c.q c.i t) := by
  have hset := modTask_self (b := b.setRunning c.q c.i) (f := fun x => { x with stopAt := some t.next, stops := x.stops ++ [(c.q, c.i)] })
    (fun _ => ⟨rfl, rfl⟩) ht
  rw [hstops, List.nil_append] at hset
  exact hset

theorem stopNow_due {q i : Nat} {t : Task} (hitem : t.item = none) : (stopNow q i t).stopDue = true := by
  simp [stopNow, Task.stopDue, hitem]

/-- The block once a task is gone and its engines, waits, pins and version are given up (R182). -/
def unbound (b : Block) (t : Task) : Block :=
  let b := (b.releaseEngs t.engs).dropLane (.task t.ctx t.id)
  (Block.dropPins { b with
    tasks := b.tasks.filter fun x => !(x.ctx = t.ctx ∧ x.id = t.id)
    waiters := b.waiters.filter fun w => w.who ≠ WaitFor.task t.ctx t.id } t.pins).reapVersions

/-- A map over the commands that moves no command and changes no phase. -/
theorem mapCmds_inPhase {b : Block} {p : Cmd → Bool} {f : Cmd → Cmd} {q i : Nat} {ph : Phase}
    (hf : ∀ c, (f c).q = c.q ∧ (f c).i = c.i) (hp : ∀ c, (f c).phase = c.phase) (h : InPhase q i ph b) :
    InPhase q i ph (b.mapCmds p f) := by
  obtain ⟨c, hc, rfl⟩ := h
  refine ⟨_, (mapCmds_cmd hf).trans (congrArg (Option.map _) hc), ?_⟩
  dsimp only
  split
  · exact hp c
  · rfl

theorem dropPins_inPhase {b : Block} {q i : Nat} {ph : Phase} (ids : List Nat) (h : InPhase q i ph b) : InPhase q i ph (b.dropPins ids) := by
  unfold Block.dropPins
  exact mapCmds_inPhase (fun _ => ⟨rfl, rfl⟩) (fun _ => rfl) h

theorem unbound_inPhase {b : Block} {t : Task} {q i : Nat} {ph : Phase} (h : InPhase q i ph b) : InPhase q i ph (unbound b t) := by
  unfold unbound
  extract_lets b'
  have hcut : InPhase q i ph b' := inPhase_of (releaseEngs_queues b t.engs) h
  exact inPhase_of (reapVersions_queues _) (dropPins_inPhase _ hcut)

theorem unbound_task (b : Block) (t : Task) : (unbound b t).task? t.ctx t.id = none := by
  unfold unbound
  extract_lets b'
  have hreap : ∀ b : Block, Part.same .tasks b b.reapVersions := fun b =>
    agree_of_keeps (ps := [.lists, .breakpoints]) (Block.reapVersions_keeps (sub_refl _) (Keeps.refl _ _)) (by decide) .tasks (by decide)
  rw [task_of (hreap _)]
  refine List.find?_eq_none.2 fun x hx hplace => ?_
  have hkept := (List.mem_filter.1 hx).2
  rw [hplace] at hkept
  cases hkept

theorem endCmd_task (b : Block) (q i st c k : Nat) : (b.endCmd q i st).task? c k = b.task? c k :=
  task_of (endCmd_frame b q i st .tasks (by decide))

/-- A task whose stop has come due for one STOP_PERSIST is unbound, and the command ends with OK (R182). -/
theorem settleTask_unbinds {b : Block} {c k q i : Nat} {t : Task} (ht : b.task? c k = some t) (hdue : t.stopDue = true)
    (hquiet : b.allQuiet t.engs = true) (hstops : t.stops = [(q, i)]) : b.settleTask c k = (unbound b t).endCmd q i 0 := by
  obtain ⟨rfl, rfl⟩ := task_place ht
  unfold Block.settleTask
  rw [ht]
  dsimp only
  rw [if_pos ⟨hdue, hquiet⟩]
  unfold Block.unbindTask
  simp only [ht, hstops, List.foldl_cons, List.foldl_nil]
  rfl

/-- STOP_PERSIST of MODE 0 of a task without an item in hand, whose engines are quiet (R182). -/
theorem stopTask_unbinds {b : Block} {c d : Cmd} {t : Task} (hc : b.cmd? c.q c.i = some d) (ht : b.task? t.ctx t.id = some t)
    (hitem : t.item = none) (hstop : t.stopAt = none) (hstops : t.stops = []) (hquiet : b.allQuiet t.engs = true) :
    (b.stopTask c false t).task? t.ctx t.id = none ∧ HasEnded c.q c.i 0 (b.stopTask c false t) := by
  have hrun : InPhase c.q c.i .running (stopSet b c t) := setRunning_inPhase hc
  have hsettled : b.stopTask c false t = (unbound (stopSet b c t) (stopNow c.q c.i t)).endCmd c.q c.i 0 :=
    (stopTask_first hstop).trans (settleTask_unbinds (stopSet_task ht hstops) (stopNow_due hitem) hquiet rfl)
  rw [hsettled, endCmd_task]
  exact ⟨unbound_task _ (stopNow c.q c.i t), running_ended (unbound_inPhase hrun)⟩

/-- Settles O18: a launch that is alone in its wait list by what its harness has for it, and STOP_PERSIST by its task. A task that has
gone since validation ends it with ERR_HANDLE as one that never was (log entries 41 and 104). -/
theorem launchCommands : Obligations.LaunchCommands := by
  unfold Obligations.LaunchCommands
  intro s q i c hr
  refine ⟨?_, ?_, ?_, ?_⟩
  · intro opc r hrow hd
    have hg := launch_gives hr hrow hd
    refine ⟨hg, ?_⟩
    rintro h x l b c' hq rfl hact hsteps hwait hplacing hengs hl hb rfl
    obtain ⟨hc, -, -, hph, -⟩ := id hd
    obtain ⟨rfl, rfl⟩ := cmd_place hc
    have ha : Alone s.blk h c := ⟨hc, hq, hact, hsteps, hwait, hplacing, hengs, hph⟩
    have hh : b.harness h = { s.blk.harness h with waiting := [(c.q, c.i)] } := hb ▸ ha.entered_harness
    refine ⟨fun cs us hcs hus hnc hnu => ?_, fun hfew => ?_, fun hcores hunits hfew => ?_⟩
    · rwa [ha.places hb hl hcs hus hnc hnu] at hg
    · have hst : b.placeStatus h (inPlacing c) = some 0x12 := placeStatus_arg hl (by rw [hh]; exact hfew)
      obtain ⟨heq, hended⟩ := ha.ends hb hst
      rw [heq] at hg
      exact ⟨hg, hended⟩
    · have hst : b.placeStatus h (inPlacing c) = some 0x14 := by
        refine placeStatus_busy (l := l) hl ?_ ?_
        · rw [hh]
          exact fun hfew => hfew.elim (Nat.not_lt.2 hcores) (Nat.not_lt.2 hunits)
        · rw [hh]
          exact hfew
      obtain ⟨heq, hended⟩ := ha.ends hb hst
      rw [heq] at hg
      exact ⟨hg, hended⟩
  · intro all id x hd hop hx
    refine ⟨stopPersist_gives_task hr hd hop hx, ?_⟩
    rintro rfl hitem hstop hstops hquiet
    obtain ⟨hc, -⟩ := hd
    obtain ⟨rfl, rfl⟩ := cmd_place hc
    obtain ⟨hctx, rfl⟩ := task_place hx
    rw [← hctx] at hx ⊢
    exact stopTask_unbinds hc hx hitem hstop hstops hquiet
  · intro all id hd hop hx
    exact leaves_ended hd (stopPersist_gives_gone hr hd hop hx)
  · exact fun all id hu hop => stopPersist_gives_underway hr hu hop

end Sys2Proof.Proofs
end

section
/-!
SUPPORT. CTX_SAVE and CTX_RESTORE (R126, R127, R260 to R262) and FRAME_SUPPLY (R128, R287).
-/
namespace Sys2Proof.Proofs

open Sys2Proof Sys2Proof.Machine Sys2Proof.Safety Sys2Proof.Laws

/-! ### CTX_SAVE -/

section
variable {s : State} {q i t a len : Nat} {c : Cmd} (hr : Runs s) (hd : Decided s q i 0xB0 c) (hop : c.op = .ctxSave t a len)
  (ho : OpenFor s t)
include hr hd hop ho

theorem ctxSave_gives_short (hl : len < s.blk.saveLen t) : Gives (.ctxSave q i) s (s.blk.endCmd q i 0x12) := by
  refine gives_of_decided rfl hr hd ?_
  simp only [hop, kernel_open (congrArg Op.target hop) ho, if_pos hl]

theorem ctxSave_gives_busy (hl : s.blk.saveLen t ≤ len)
    (hw : s.blk.cmds.any (·.ctx = t) = true ∨ s.blk.tasks.any (·.ctx = t) = true) :
    Gives (.ctxSave q i) s (s.blk.endCmd q i 0x14) := by
  refine gives_of_decided rfl hr hd ?_
  simp only [hop, kernel_open (congrArg Op.target hop) ho, if_neg (Nat.not_lt.2 hl), if_pos (Or.inr hw)]

/-- CTX_SAVE of a context without work whose image goes to memory at once. -/
theorem ctxSave_gives_image {b b' : Block} {ps : List Phys} (hl : s.blk.saveLen t ≤ len)
    (hcmds : s.blk.cmds.any (·.ctx = t) = false) (htasks : s.blk.tasks.any (·.ctx = t) = false)
    (hb : b = s.blk.touchRange t a (s.blk.saveLen t) (some (.cmd q i))) (hrest : AtRest b)
    (hp : b.resolveN t needWr true a (s.blk.saveLen t) = .ok ps)
    (hb' : b' = ((((b.putBytes ps (b.image t)).countBursts q a a (s.blk.saveLen t) ps).saveWicks t).dropBounds (·.ctx = t)).dropCommits
      (·.commitCtx = t)) :
    Gives (.ctxSave q i) s ((b'.setCtx t { b'.ctx t with st := .saved, debug := false }).endCmd q i 0) := by
  have hidle : ¬((s.blk.ctx t).st ≠ .opn ∨ s.blk.cmds.any (·.ctx = t) = true ∨ s.blk.tasks.any (·.ctx = t) = true) := by
    rw [hcmds, htasks]
    simpa [OpenFor] using ho
  refine gives_of_decided rfl hr hd ?_
  simp only [hop, kernel_open (congrArg Op.target hop) ho, if_neg (Nat.not_lt.2 hl), if_neg hidle, ← hb, access_ok hrest hp, hb']

end

theorem saveWicks_queues (b : Block) (t : Nat) : Part.same .queues b (b.saveWicks t) :=
  same_of_keeps (m := 281034880) (Block.saveWicks_keeps rfl (Keeps.refl _ _)) rfl

/-- What CTX_SAVE does before it changes its context leaves the commands as they are. -/
theorem saving_queues (b : Block) (t q a n : Nat) (ps : List Phys) :
    Part.same .queues b (((((b.putBytes ps (b.image t)).countBursts q a a n ps).saveWicks t).dropBounds (·.ctx = t)).dropCommits
      (·.commitCtx = t)) :=
  same_trans (same_trans (same_trans (putBytes_queues ..) (countBursts_queues ..)) (saveWicks_queues ..)) ⟨rfl, rfl⟩

/-! ### The image of a SAVED context -/

/-- A kernel command on a SAVED context goes to its own action. -/
theorem kernel_saved {b : Block} {c : Cmd} {t : Nat} {f : Block → Block} (ht : c.op.target = some t) (h : (b.ctx t).st = .saved) :
    b.kernel c f = f b := by
  unfold Block.kernel
  rw [ht]
  simp [Block.ctxLost, Block.ctxFree, Block.ctxClosing, h]

/-- What the judgement of an image that this chip saved asks of a block: CHIP_ID, the incarnation, the slots and the contexts. -/
structure SameNames (a b : Block) : Prop where
  chip : b.chipId = a.chipId
  incarnation : b.reg Reg.WK_INCARNATION = a.reg Reg.WK_INCARNATION
  slots : b.slots = a.slots
  ctxs : b.ctxs = a.ctxs

theorem SameNames.trans {a b c : Block} (h : SameNames a b) (k : SameNames b c) : SameNames a c :=
  ⟨k.chip.trans h.chip, k.incarnation.trans h.incarnation, k.slots.trans h.slots, k.ctxs.trans h.ctxs⟩

theorem SameNames.foldl {α : Type} {f : Block → α → Block} (hf : ∀ b x, SameNames b (f b x)) :
    ∀ (l : List α) (b : Block), SameNames b (l.foldl f b)
  | [], _ => ⟨rfl, rfl, rfl, rfl⟩
  | x :: l, b => (hf b x).trans (SameNames.foldl hf l (f b x))

/-- A frame that leaves chip, wicks and contexts, together with the incarnation. -/
theorem SameNames.of_frame {ps : List Part} {a b : Block} (h : agreeBut ps a b) (hchip : .chip ∉ ps) (hwicks : .wicks ∉ ps)
    (hctxs : .contexts ∉ ps) (hreg : b.reg Reg.WK_INCARNATION = a.reg Reg.WK_INCARNATION) : SameNames a b :=
  ⟨(h .chip hchip).1.symm, hreg, (h .wicks hwicks).1.symm, (h .contexts hctxs).symm⟩

theorem SameNames.ctx {a b : Block} (h : SameNames a b) (t : Nat) : b.ctx t = a.ctx t := ctx_of h.ctxs.symm

theorem SameNames.freeSlots {a b : Block} (h : SameNames a b) : b.freeSlots = a.freeSlots := by
  unfold Block.freeSlots
  rw [h.slots]

theorem SameNames.wRecSlot {a b : Block} (h : SameNames a b) (inc : Nat) (home : Bool) (w : WRec) :
    b.wRecSlot? inc home w = a.wRecSlot? inc home w := by
  unfold Block.wRecSlot? Block.tokenSlot? Block.slot
  rw [h.incarnation, h.slots]

theorem SameNames.slotsNeeded {a b : Block} (h : SameNames a b) (inc : Nat) (home : Bool) (ws : List WRec) :
    b.slotsNeeded inc home ws = a.slotsNeeded inc home ws := by
  unfold Block.slotsNeeded
  simp only [h.wRecSlot]

theorem count32_names (b : Block) {r : Nat} (h : r ≠ Reg.WK_INCARNATION) : SameNames b (b.count32 r) :=
  .of_frame (count32_frame b r) (by decide) (by decide) (by decide) (Block.setReg_other b r _ _ h)

/-- The counters of a block DMA are not the incarnation. -/
theorem countBursts_names (b : Block) (q src dst len : Nat) : SameNames b (b.countBursts q src dst len []) := by
  unfold Block.countBursts
  refine .foldl (fun b p => ?_) _ _
  dsimp only [List.getElem?_nil]
  split
  · exact count32_names b (by decide)
  · exact ⟨rfl, rfl, rfl, rfl⟩

theorem startWalks_names (b : Block) : SameNames b b.startWalks :=
  .of_frame (startWalks_frame b) (by decide) (by decide) (by decide) (reg_of (startWalks_frame b .regs (by decide)))

/-- A change of the translation caches. -/
theorem caches_names {a b : Block} (h : agreeBut [.translation] a b) : SameNames a b :=
  .of_frame h (by decide) (by decide) (by decide) (reg_of (h .regs (by decide)))

theorem touchAts_names (b : Block) (pasid va : Nat) : SameNames b (b.touchAts pasid va) :=
  caches_names (agree_of_keeps (Block.touchAts_keeps (sub_refl _) (Keeps.refl _ _)) (by decide))

theorem fillRange_names (b : Block) (id : Nat) : SameNames b (b.fillRange id) :=
  caches_names (agree_of_keeps (Block.fillRange_keeps (sub_refl _) (Keeps.refl _ _)) (by decide))

theorem fillPages_names (b : Block) (id g : Nat) : SameNames b (b.fillPages id g) :=
  caches_names (agree_of_keeps (Block.fillPages_keeps (sub_refl _) (Keeps.refl _ _)) (by decide))

theorem touch_names (b : Block) (t va : Nat) (who : Option Asker) : SameNames b (b.touch t va who) := by
  unfold Block.touch
  extract_lets b₁ b₂
  have h₁ : SameNames b b₁ := touchAts_names ..
  have h₂ : SameNames b b₂ := h₁.trans (count32_names _ (by decide))
  clear_value b₂ b₁
  split
  · exact h₁
  split
  · exact h₁
  next m _ =>
    extract_lets pageMiss w
    split
    · split
      · exact h₁.trans (fillRange_names ..)
      · exact (h₁.trans (fillRange_names ..)).trans (fillPages_names ..)
    split
    · exact h₁
    · have hw : SameNames b { b₂ with walks := b₂.walks ++ [w] } := ⟨h₂.chip, h₂.incarnation, h₂.slots, h₂.ctxs⟩
      exact hw.trans (startWalks_names _)

theorem touchRange_names (b : Block) (t va len : Nat) (who : Option Asker) : SameNames b (b.touchRange t va len who) :=
  .foldl (fun _ _ => touch_names ..) _ _

/-! ### What an image restores -/

/-- The wick entries of an image. -/
def wRecsOf (bs : List Byte) : List WRec := (List.range (imgField bs 0x0C 4)).map (wRecOf bs (imgField bs 0x10 4))

/-- The checks of an image that this chip saved, for a SAVED context (R126, R127, R262). -/
structure HomeImage (b : Block) (bs : List Byte) : Prop where
  chip : imgField bs 8 4 = b.chipId
  queues : (List.range (imgField bs 0x10 4)).all (qRecOk bs) = true
  wicks : wRecsOk (wRecsOf bs) = true
  room : b.slotsNeeded (imgField bs 0x18 4) true (wRecsOf bs) ≤ b.freeSlots

theorem HomeImage.of_names {a b : Block} {bs : List Byte} (h : HomeImage a bs) (k : SameNames a b) : HomeImage b bs :=
  ⟨h.chip.trans k.chip.symm, h.queues, h.wicks, by rw [k.slotsNeeded, k.freeSlots]; exact h.room⟩

/-- Context `t` OPEN again, with the domain table of the image (R127). -/
def reopened (b : Block) (t : Nat) (bs : List Byte) : Block :=
  let b := b.setCtx t { b.ctx t with st := .opn }
  b.setCtx t { b.ctx t with dtBase := imgField bs 0x28 8, dtCount := imgField bs 0x30 4 }

theorem reopened_ctx (b : Block) (t : Nat) (bs : List Byte) : ((reopened b t bs).ctx t).st = .opn := by
  simp [reopened]

/-- The block with the wicks of the image restored into an OPEN context (R262). -/
def imageRestored (b : Block) (t : Nat) (bs : List Byte) : Block :=
  (wRecsOf bs).foldl (fun b w => b.restoreWick t (imgField bs 0x18 4) true w) (reopened b t bs)

theorem imageRestored_frame (b : Block) (t : Nat) (bs : List Byte) :
    agreeBut [.regs, .events, .wicks] (reopened b t bs) (imageRestored b t bs) :=
  agree_of_keeps (m := 4196480) (Keeps.foldl (fun _ _ h => Block.restoreWick_keeps (F := 4196480) rfl h) _ (Keeps.refl _ _)) (by decide)

theorem imageRestored_ctx (b : Block) (t : Nat) (bs : List Byte) : ((imageRestored b t bs).ctx t).st = .opn := by
  rw [ctx_of (imageRestored_frame b t bs .contexts (by decide))]
  exact reopened_ctx b t bs

theorem imageRestored_queues (b : Block) (t : Nat) (bs : List Byte) : Part.same .queues b (imageRestored b t bs) :=
  imageRestored_frame b t bs .queues (by decide)

/-- The image of a SAVED context that passes its checks is restored without its queues, which the context still has (R127). -/
theorem doRestore_home {b : Block} {t : Nat} {bs : List Byte} (c : Cmd) (hst : (b.ctx t).st = .saved) (h : HomeImage b bs) :
    b.doRestore c t bs = (imageRestored b t bs).endCmd c.q c.i 0 := by
  obtain ⟨hchip, hq, hw, hroom⟩ := h
  have hfree : b.ctxFree t = false := by simp [Block.ctxFree, hst]
  unfold wRecsOf at hw hroom
  unfold Block.doRestore
  simp only [hchip, hfree, hq, hw, hroom, need, MRes.bind, decide_true, Bool.and_self, Bool.false_eq_true, if_true, if_false]
  rfl

/-! ### CTX_RESTORE -/

section
variable {s : State} {q i t a len : Nat} {c : Cmd} (hr : Runs s) (hd : Decided s q i 0xB1 c) (hop : c.op = .ctxRestore t a len)
include hr hd hop

theorem ctxRestore_gives_open (ho : OpenFor s t) : Gives (.ctxRestore q i) s (s.blk.endCmd q i 0x14) := by
  refine gives_of_decided rfl hr hd ?_
  simp only [hop, kernel_open (congrArg Op.target hop) ho]
  exact if_pos (.inl ho)

variable (hst : (s.blk.ctx t).st = .saved)
include hst

theorem ctxRestore_gives_short (hl : len < 4096) : Gives (.ctxRestore q i) s (s.blk.endCmd q i 0x12) := by
  refine gives_of_decided rfl hr hd ?_
  simp [hop, kernel_saved (congrArg Op.target hop) hst, hst, hl]

/-- CTX_RESTORE of a SAVED context whose image is read at once. -/
theorem ctxRestore_gives_read {b b' : Block} {h bs : List Byte} (hl : 4096 ≤ len)
    (hb : b = s.blk.touchRange (s.blk.addrCtx c) a 4096 (some (.cmd q i))) (hrest : AtRest b)
    (hh : b.readVa (s.blk.addrCtx c) a 4096 = .ok h) (hok : headOk h len = true)
    (hb' : b' = b.touchRange (s.blk.addrCtx c) a (imgField h 0 8) (some (.cmd q i))) (hrest' : AtRest b')
    (hbs : b'.readVa (s.blk.addrCtx c) a (imgField h 0 8) = .ok bs) :
    Gives (.ctxRestore q i) s ((b'.countBursts q a a bs.length []).doRestore c t bs) := by
  have hgo : ¬((s.blk.ctx t).st = .opn ∨ (s.blk.ctx t).st = .closing) := by simp [hst]
  refine gives_of_decided rfl hr hd ?_
  simp only [hop, kernel_saved (congrArg Op.target hop) hst, if_neg hgo, if_neg (Nat.not_lt.2 hl), ← hb, access_ok hrest hh, hok, ← hb',
    access_ok hrest' hbs, Bool.not_true, Bool.false_eq_true, if_false]

end

/-! ### FRAME_SUPPLY -/

/-- The block in which the frames `fs` are in pool `p`, and counted as supplied to it (R128, R287). -/
def framesSupplied (b : Block) (p n : Nat) (fs : List Nat) : Block :=
  (b.setPool p (b.pool p ++ fs)).ledgerTerm fun l => { l with
    supplied := Tab.set (fun _ => 0) l.supplied p (Tab.get (fun _ => 0) l.supplied p + n) }

theorem resumeFrames_queues (b : Block) : Part.same .queues b b.resumeFrames :=
  same_of_keeps (m := 201328768) (Block.resumeFrames_keeps rfl (Keeps.refl _ _)) rfl

theorem frameSupply_gives {s : State} {q i p a n : Nat} {c : Cmd} {b b' : Block} {bs : List Byte} (hr : Runs s)
    (hd : Decided s q i 0xC0 c) (hop : c.op = .frameSupply p a n) (hb : b = s.blk.touchRange c.ctx a (8 * n) (some (.cmd q i)))
    (hrest : AtRest b) (hbs : b.readVa c.ctx a (8 * n) = .ok bs) (hb' : b' = b.countBursts q a a (8 * n) []) :
    Gives (.frameSupply q i) s (if !(words64 bs).all b'.frameOk then b'.endCmd q i 0x12
      else if b'.poolRoom p < n then b'.endCmd q i 0x14
      else (framesSupplied b' p n (words64 bs)).resumeFrames.endCmd q i 0) := by
  refine gives_of_decided rfl hr hd ?_
  simp only [hop, kernel_none (congrArg Op.target hop), ← hb, access_ok hrest hbs, ← hb']
  rfl

/-- Settles O30: CTX_SAVE and FRAME_SUPPLY by their branches (R453 clears DEBUG; that the frames are read again as FRAME_SUPPLY starts is
log entry 104), CTX_RESTORE because the reads of an image change nothing that its judgement asks (`SameNames`), and its wicks are
restored around the commands and the contexts (`imageRestored_frame`). -/
theorem contextCommands : Obligations.ContextCommands := by
  unfold Obligations.ContextCommands
  intro s q i c hr hq hi
  refine ⟨?_, ?_, ?_, ?_, ?_, ?_, ?_⟩
  · intro t a len hd hop ho hl
    exact leaves_ended hd (ctxSave_gives_short hr hd hop ho hl)
  · intro t a len hd hop ho hl hw
    exact leaves_ended hd (ctxSave_gives_busy hr hd hop ho hl hw)
  · intro t a len b ps b' hd hop ho hl hcmds htasks hb hrest hp hb'
    refine ⟨ctxSave_gives_image hr hd hop ho hl hcmds htasks hb hrest hp hb', decided_ended hd ?_, ?_⟩
    · rw [hb', hb]
      exact same_trans (touchRange_queues ..) (saving_queues ..)
    · simp only [endCmd_ctx, Block.setCtx_self, and_self]
  · intro t a len hd hop ho
    exact leaves_ended hd (ctxRestore_gives_open hr hd hop ho)
  · intro t a len hd hop hst hl
    exact leaves_ended hd (ctxRestore_gives_short hr hd hop hst hl)
  · intro t a len b b' h bs hd hop hst hl hb hrest hh hok hb' hrest' hbs hchip hqs hws hroom
    have hg := ctxRestore_gives_read hr hd hop hst hl hb hrest hh hok hb' hrest' hbs
    have hnames : SameNames s.blk (b'.countBursts q a a bs.length []) := by
      rw [hb', hb]
      exact ((touchRange_names ..).trans (touchRange_names ..)).trans (countBursts_names ..)
    have hqueues : Part.same .queues s.blk (b'.countBursts q a a bs.length []) := by
      rw [hb', hb]
      exact same_trans (same_trans (touchRange_queues ..) (touchRange_queues ..)) (countBursts_queues ..)
    have himage : HomeImage s.blk bs := ⟨hchip, hqs, hws, hroom⟩
    rw [doRestore_home c ((congrArg Ctx.st (hnames.ctx t)).trans hst) (himage.of_names hnames), hq, hi] at hg
    exact ⟨_, hg, decided_ended hd (same_trans hqueues (imageRestored_queues ..)),
      (congrArg Ctx.st (endCmd_ctx ..)).trans (imageRestored_ctx ..)⟩
  · intro p a n bs b b' hd hop hb hrest hbs hb'
    have hg := frameSupply_gives hr hd hop hb hrest hbs hb'
    have hqueues : Part.same .queues s.blk b' := by
      rw [hb', hb]
      exact same_trans (touchRange_queues ..) (countBursts_queues ..)
    refine ⟨fun hbad => ?_, fun hok hfull => ?_, fun hok hroom => ?_⟩
    · rw [hbad, if_pos (by rfl)] at hg
      exact ⟨hg, decided_ended hd hqueues⟩
    · rw [hok, if_neg (by decide), if_pos hfull] at hg
      exact ⟨hg, decided_ended hd hqueues⟩
    · rw [hok, if_neg (by decide), if_neg (Nat.not_lt.2 hroom)] at hg
      have hsupplied : Part.same .queues b' (framesSupplied b' p n (words64 bs)) := ⟨rfl, rfl⟩
      exact ⟨hg, decided_ended hd (same_trans (same_trans hqueues hsupplied) (resumeFrames_queues _))⟩

end Sys2Proof.Proofs
end
